-- ==== Sys2Proof/Word.lean ====
section
/-!
DEFINITION. Word.lean: register words, bytes, register fields and sparse tables of plain data.
-/
namespace Sys2Proof

/-- A 32-bit register word (R11). -/
abbrev Word := BitVec 32

/-- A byte of memory, of a payload or of a frame. -/
abbrev Byte := BitVec 8

/-- A field of a register: the register's physical address, the field's lowest bit and its width
(bit 0 is the least significant bit, R6). -/
structure Fld where
  reg : Nat
  lo  : Nat
  len : Nat
deriving DecidableEq, Repr

/-- A table keyed by a number: strictly rising keys, an unlisted key holds the table's default,
which the reader names. -/
structure Tab (α : Type) where
  cells : List (Nat × α)
deriving DecidableEq, Repr

/-- The empty table: every key at its default. -/
def Tab.empty {α : Type} : Tab α := { cells := [] }

end Sys2Proof
end

