-- ==== Sys2Proof/Syntax.lean ====
section
/-!
DEFINITION. Syntax.lean: the commands that the block takes from outside, with their operands.
-/
namespace Sys2Proof

/-- The identity and master that an access carries (R445, R494): the master identifier, whether the identity is the
secure world, the partition of a normal-world identity, whether the identity is DEVICE, and whether an application core issues
it at the hypervisor level (R405). -/
structure Acc where
  master : Nat
  sec    : Bool
  part   : Nat
  dev    : Bool
  hyp    : Bool := false
deriving DecidableEq, Repr

/-- A request slot as the Privet controller takes it (R56): the instant of the take, the window, and the header fields
and payload bytes of the slot. The opcode is the command's own (its row of the table). -/
structure Req where
  t       : Nat
  win     : Nat
  tag     : Nat
  len     : Nat
  target  : Nat
  flags   : Nat
  rsvd    : Nat
  payload : List Byte
deriving DecidableEq, Repr

/-- The access types of R494 that a master makes. -/
inductive AccKind where
  | load
  | store
  | fetch
deriving DecidableEq, Repr


/-- What a cell measures at a grid instant (R101): terminal, held current out of the terminal in mA, terminal voltage in
mV, junction temperature in °C, whether the sense reference check failed (R104), and whether the junction is at least
20 K below the shutdown threshold (R121). -/
structure CellSample where
  n       : Nat
  mA      : Int
  mV      : Int
  tj      : Int
  chkFail : Bool
  cool    : Bool
deriving DecidableEq, Repr

/-- What a feed measures at a grid instant (R154): feed 1–4, voltage in mV, current drawn in mA. -/
structure FeedSample where
  f  : Nat
  mV : Nat
  mA : Int
deriving DecidableEq, Repr

/-- What the wiring probe reads at an object (R142): the idle voltage in mV, the resistance in mΩ (none: no current), the members
with their differences from the driven member and the other terminals with their rises, in the converter's 0.1 mV, and the smaller
resistance of a bridge's leg to ground in mΩ. -/
structure ProbeReading where
  idle   : Nat
  ohm    : Option Nat
  split  : List (Nat × Nat)
  cross  : List (Nat × Nat)
  legGnd : Option Nat
deriving DecidableEq, Repr

/-- A frame, or its part so far, as a port receives it (R230, R233): port, ingress time stamp of the start-frame delimiter,
length on the wire with FCS, the bytes received so far from the destination address on (without FCS), whether the frame
has ended, whether its FCS is good, and the collisions and jabber conditions that the PHY of P17–P24 reports with it
(R232). -/
structure RxFrame where
  port  : Nat
  sfd   : Nat
  len   : Nat
  bytes : List Byte
  fin   : Bool
  fcsOk : Bool
  coll  : Nat := 0
  jab   : Nat := 0
deriving DecidableEq, Repr

/-- A gPTP message of an instance at a port (R274), as IEEE 802.1AS carries it: a Sync with its origin time and correction
in ns; a completed peer-delay exchange with its four time stamps and the neighbour's rate ratio; an Announce with the
grandmaster identity, stepsRemoved, the port role that the best-master algorithm gives and its path trace; a Signaling message with a
new logSyncInterval. -/
inductive GptpMsg where
  | sync (origin correction : Int)
  | pdelay (t1 t2 t3 t4 : Nat) (ratio : Int)
  | announce (gm steps role : Nat) (path : List Nat)
  | signaling (logSync : Nat)
deriving DecidableEq, Repr

/-- A frame on a CAN bus (R311, R313): identifier format, identifier, remote frame, FD format, bit-rate switch, error
state indicator, DLC, data bytes, the instant of its start-of-frame edge, and the res bit that follows FDF (R305). -/
structure CanFrame where
  ide  : Bool
  id   : Nat
  rtr  : Bool
  fdf  : Bool
  brs  : Bool
  esi  : Bool
  dlc  : Nat
  data : List Byte
  sof  : Nat
  res  : Bool := false
deriving DecidableEq, Repr

/-- A Hedgerow frame (R384): type code, header fields, payload and MAC; `inAt` is the receipt of its start delimiter at a
unit that relays it (0: its own frame). -/
structure HdgFrame where
  ty      : Nat
  hops    : Nat := 0
  dst     : Nat := 0
  src     : Nat := 0x7FF
  flags   : Nat := 0
  seq     : Nat := 0
  payload : List Byte := []
  mac     : List Byte := []
  inAt    : Nat := 0
deriving DecidableEq, Repr

/-- Where outputs turn off: an object, a terminal or a feed, with the terminals that see a clamp event above 8 mJ (R98). -/
structure TurnOff where
  place : Nat
  hot   : List Nat
deriving DecidableEq, Repr

/-- The commands of the block: one constructor per row of the table of operations and events. Event rows carry the
Taurn instant `t` at which the step comes about; mailbox rows carry the request taken. -/
inductive Instr where
  /-- REGISTER_WRITE (R12): A write to a register that has no row of its own sets its fields by access type and class, or is ignored or refused with a bus error by the checks that apply. -/
  | registerWrite (t : Nat) (a : Acc) (addr v : Nat)
  /-- LOW_WORD_READ (R11): A read of the low word of a 64-bit pair captures the high word into the requester's own holding copy. -/
  | lowWordRead (t : Nat) (a : Acc) (addr : Nat)
  /-- MEMORY_ACCESS (R447): A load, store or fetch is checked against the identity and the memory protection regions and is admitted or refused with a bus error and a fault. -/
  | memoryAccess (t : Nat) (a : Acc) (k : AccKind) (addr : Nat) (len : Nat) (data : List Byte)
  /-- BRIDGE_READ (R355): A read that must cross an island bridge is answered with a retry and a read-ahead slot is allocated to fetch it, or a repeat collects a filled slot. -/
  | bridgeRead (t : Nat) (a : Acc) (br : Nat) (away : Bool) (addr size : Nat)
  /-- READAHEAD_FILL (R355): The fetch for a read-ahead or pop slot completes and fills the slot with data or a bus error. -/
  | readaheadFill (t j : Nat)
  /-- READAHEAD_EXPIRY (R355): A filled read-ahead slot not collected within 10 µs is discarded and counted in RA_EXPIRED. -/
  | readaheadExpiry (t j : Nat)
  /-- POSTED_WRITE_FAILURE (R357): A posted write fails on the far side of a bridge and is logged in the bridge error log, raises a bridge error source and its fault. -/
  | postedWriteFailure (t : Nat) (a : Acc) (ty addr : Nat)
  /-- ALIGNMENT_WORD (R40): Every 1,024 ns the master sends an alignment word and each replica measures its error and corrects itself. -/
  | alignmentWord (t : Nat) (bad : List Nat)
  /-- LATE_ACTION_WINDOW_EXPIRY (R42): A one-shot action held by misalignment for more than 1 ms is discarded and counted as missed. -/
  | lateActionWindowExpiry (t : Nat)
  /-- SOURCE_MEASUREMENT (R43): The master measures its offset against its source and schedules a slew, a forward step, a backward step or enters HOLDOVER with BACKSTEP. -/
  | sourceMeasurement (t : Nat) (off : Int)
  /-- SOURCE_LOSS (R46): The master loses its source after lock and enters HOLDOVER keeping its last rate. -/
  | sourceLoss (t : Nat)
  /-- COMPARATOR_FIRE (R47): An armed comparator fires when the count reaches its value, sets FIRED and raises its interrupt source. -/
  | comparatorFire (t n : Nat)
  /-- TBS_CMP_ARM (R47): Writing ARM 1 arms the comparator with its compare value at the next alignment word and clears FIRED and LATE. -/
  | tbsCmpArm (t : Nat) (a : Acc) (n : Nat)
  /-- TBS_CMP_DISARM (R47): Writing ARM 0 disarms the comparator. -/
  | tbsCmpDisarm (t : Nat) (a : Acc) (n : Nat)
  /-- IRQ_SOURCE_TRIGGER (R38): An interrupt source line asserts or triggers and becomes pending by its edge or level rule. -/
  | irqSourceTrigger (t src : Nat) (on : Bool)
  /-- IRQ_CLAIM_POP (R37): A read of IRQ_CLAIM_POP returns IRQ_HEAD and moves a valid source from pending to active. -/
  | irqClaimPop (t : Nat) (a : Acc)
  /-- IRQ_EOI (R38): A write to IRQ_EOI ends the active state of the named source for the requester. -/
  | irqEoi (t : Nat) (a : Acc) (v : Nat)
  /-- IRQ_DOORBELL (R37): A write to IRQ_DOORBELL sets a doorbell source pending if IRQ_RINGMASK grants it, otherwise raises an access violation. -/
  | irqDoorbell (t : Nat) (a : Acc) (v : Nat)
  /-- MBX_ENABLE (R55): Writing ENABLE 1 while INFLIGHT is 0 zeroes the indices and checks the rings, enabling the window or setting RING_ACCESS. -/
  | mbxEnable (t : Nat) (a : Acc) (w v : Nat)
  /-- MBX_DISABLE (R55): Writing ENABLE 0 stops the Privet controller taking requests while commands in flight complete. -/
  | mbxDisable (t : Nat) (a : Acc) (w v : Nat)
  /-- MBX_REQ_PROD_WRITE (R51): The requester advances MBX_REQ_PROD, or the write is ignored and PROD_JUMP set. -/
  | mbxReqProdWrite (t : Nat) (a : Acc) (w v : Nat)
  /-- MBX_RSP_CONS_WRITE (R51): The requester advances MBX_RSP_CONS, or the write is ignored and CONS_JUMP set. -/
  | mbxRspConsWrite (t : Nat) (a : Acc) (w v : Nat)
  /-- MBX_ERR_CLEAR (R12): A write of 1 to an MBX_ERR bit clears it. -/
  | mbxErrClear (t : Nat) (a : Acc) (w v : Nat)
  /-- COMMAND_WAIT_RESUME (R62): A waiting command finds its resource, arbiter or queue room free and proceeds with its checks. -/
  | commandWaitResume (t node w tag : Nat)
  /-- COMMAND_WAIT_TIMEOUT (R62): A waiting command's TMO limit expires and it is removed without effect and answered TIMEOUT. -/
  | commandWaitTimeout (t node w tag : Nat)
  /-- FORWARD_DEADLINE_EXPIRY (R72): No response to a forwarded command has arrived by its deadline, so the originator answers TIMEOUT and frees the tag. -/
  | forwardDeadlineExpiry (t w tag : Nat)
  /-- FORWARDED_RESPONSE_ARRIVAL (R72): A forwarded response arrives and is posted, or if late is discarded with LATE_RSP set and MBX_LATE_CNT counted. -/
  | forwardedResponseArrival (t w tag status done : Nat) (payload : List Byte)
  /-- DEV_IDENTITY (R77): Returns the part number, hardware revision, node address, serial number and lifecycle. -/
  | devIdentity (r : Req)
  /-- DEV_VERSION (R78): Returns the firmware, Hawthorn, ROM and command set versions and the base configuration generation. -/
  | devVersion (r : Req)
  /-- DEV_STATE (R79): Returns device state, lifecycle, overlay, coppice reason, counters and flags. -/
  | devState (r : Req)
  /-- DEV_TIME (R80): Returns the time base of the executing unit sampled at DONE. -/
  | devTime (r : Req)
  /-- DEV_ECHO (R81): Returns its request payload unchanged. -/
  | devEcho (r : Req)
  /-- DEV_MBX_STATS (R81): Returns the served, refused, timeout and late counts of a mailbox window. -/
  | devMbxStats (r : Req)
  /-- EDGE_INSTANT (R86): An edge of a cell, gang or bridge falls due; CMD takes its new value and the output transition starts after the edge delay. -/
  | edgeInstant (t x : Nat)
  /-- TRANSITION_END (R86): An output transition completes; STATE takes the new value and a late queued edge starts. -/
  | transitionEnd (t x : Nat) (hot : List Nat)
  /-- DEAD_TIME_EXPIRY (R87): The dead time ends and the other switch turns on, or a freewheel starts. -/
  | deadTimeExpiry (t x : Nat)
  /-- FREEWHEEL_CURRENT_LOW (R89): The freewheel current falls below 20 mA and the freewheeling switch turns off. -/
  | freewheelCurrentLow (t x : Nat)
  /-- FREEWHEEL_MAX_EXPIRY (R89): FW_MAX expires and the freewheel ends, remaining current going to the clamp. -/
  | freewheelMaxExpiry (t : Nat) (x : TurnOff)
  /-- SHORT_CIRCUIT (R91): Current crosses ISC and the switch (or the whole gang) turns off and enters the retry wait with CAUSE SHORT, or latches. -/
  | shortCircuit (t : Nat) (n : TurnOff)
  /-- CURRENT_LIMIT_ENTRY (R92): Current reaches ILIM and the cell regulates, starting OC_BLANK. -/
  | currentLimitEntry (t n : Nat)
  /-- OC_BLANK_EXPIRY (R92): Regulation lasts to the end of OC_BLANK and the cell or gang turns off with CAUSE OVERCURRENT into the retry wait or LATCHED. -/
  | ocBlankExpiry (t : Nat) (x : TurnOff)
  /-- RETRY_DELAY_EXPIRY (R93): RETRY_DLY expires and the object turns on again in the direction of CMD, through admission. -/
  | retryDelayExpiry (t x : Nat)
  /-- RETRY_COUNTER_RESET (R93): After 1 s of conduction without a trip RETRY returns to 0. -/
  | retryCounterReset (t x : Nat)
  /-- THERMAL_SHUTDOWN (R94): A junction reaches the shutdown threshold and the cell, gang or bridge enters LATCHED with CAUSE THERMAL. -/
  | thermalShutdown (t : Nat) (n : TurnOff)
  /-- FEED_UNDERVOLTAGE (R96): A feed falls below UV_OFF and every on cell of its banks enters UV_OFF within 10 µs. -/
  | feedUndervoltage (t : Nat) (f : TurnOff)
  /-- FEED_UV_RECOVERY (R97): The feed rises above UV_ON, giving t_uvon and scheduling staggered restarts. -/
  | feedUvRecovery (t f : Nat)
  /-- UV_RESTART (R97): At t_uvon + 2 ms plus the bank stagger, cells in UV_OFF turn on in the direction of CMD. -/
  | uvRestart (t k : Nat)
  /-- GRID_SAMPLE (R101): At each 250 µs grid instant every bank holds current, voltage and temperature, input levels, open-load judgements, share checks, CAUSE and energy integration. -/
  | gridSample (t : Nat) (cells : List CellSample) (feeds : List FeedSample) (elec : Nat)
  /-- STATUS_PAGE_SWITCH (R101): At t_g + 25 µs the new terminal status page is written and PFB_TS_SEL switches to it. -/
  | statusPageSwitch (t : Nat)
  /-- HOLD_WINDOW_EXPIRY (R111): A HOLD window ends without a new command and CMD becomes SAFE_ST. -/
  | holdWindowExpiry (t x : Nat)
  /-- BANK_NO_ANSWER (R114): The hub gets no answer from a bank for 1 ms, raises BANK_LOST and the bank's cells take SAFE_ST. -/
  | bankNoAnswer (t k : Nat)
  /-- BANK_ANSWER_RETURN (R114): A lost bank answers again and takes up its CMD values. -/
  | bankAnswerReturn (t k : Nat)
  /-- CELL_SET (R118): Sets a cell's CMD with an edge instant, through admission. -/
  | cellSet (r : Req)
  /-- CELL_CONFIG (R119): Writes masked fields of a cell's configuration words. -/
  | cellConfig (r : Req)
  /-- CELL_STATUS (R120): Returns the status words of a range of cells from the newest page. -/
  | cellStatus (r : Req)
  /-- CELL_CLEAR (R121): Resets RETRY or clears a LATCHED cell to OFF when its conditions hold. -/
  | cellClear (r : Req)
  /-- CELL_READ_CONFIG (R122): Returns a cell's active or staged configuration words. -/
  | cellReadConfig (r : Req)
  /-- REVERSAL_DWELL_EXPIRY (R136): REV_DWELL ends and the bridge completes the reversal at an internal edge instant. -/
  | reversalDwellExpiry (t h : Nat)
  /-- GANG_SET (R148): Queues an edge for a gang, through admission. -/
  | gangSet (r : Req)
  /-- GANG_CONFIG (R149): Writes masked fields of a gang's configuration. -/
  | gangConfig (r : Req)
  /-- GANG_STATUS (R150): Returns STAT and ISUM of a range of gangs. -/
  | gangStatus (r : Req)
  /-- GANG_CLEAR (R151): Clears a gang's retries or its LATCHED state. -/
  | gangClear (r : Req)
  /-- BRIDGE_SET (R148): Queues a bridge state change, through admission. -/
  | bridgeSet (r : Req)
  /-- BRIDGE_CONFIG (R149): Writes masked fields of a bridge's configuration. -/
  | bridgeConfig (r : Req)
  /-- BRIDGE_STATUS (R150): Returns bridge status and leg current sums. -/
  | bridgeStatus (r : Req)
  /-- BRIDGE_CLEAR (R151): Clears a bridge's retries or its LATCHED state. -/
  | bridgeClear (r : Req)
  /-- PROBE_RUN (R152): Requests a wiring probe run over a terminal range from the maintenance arbiter. -/
  | probeRun (r : Req)
  /-- PROBE_RESULT (R153): Returns probe state and per-terminal results. -/
  | probeResult (r : Req)
  /-- GANG_READ_CONFIG (R150): Returns a gang's or bridge's active or staged configuration. -/
  | gangReadConfig (r : Req)
  /-- PROBE_SETTLE_EXPIRY (R142): After 300 µs of measuring current the probe reads resistance, split and cross checks and records the object's result. -/
  | probeSettleExpiry (t x : Nat) (rd : ProbeReading)
  /-- PROBE_RETRY_TIMER (R144): 100 ms after an ABORTED cause is found cleared a new probe of the object is requested. -/
  | probeRetryTimer (t : Nat)
  /-- GOVERNOR_CYCLE (R166): Once per millisecond the governor retries deferred commands, standing charges and safe states, and restores or sheds objects. -/
  | governorCycle (t : Nat)
  /-- RESTORE_DELAY_EXPIRY (R170): A shed object's restore conditions have held for RESTORE_DLY and it is restored with an aligned edge. -/
  | restoreDelayExpiry (t x : Nat)
  /-- DEFER_MAX_EXPIRY (R167): A deferred command exceeds DEFER_MAX and is answered BUDGET_DENIED. -/
  | deferMaxExpiry (t node w tag : Nat)
  /-- FEED_OVERLOAD_DELAY_EXPIRY (R169): I_FEED above FEED_LIMIT for longer than OVL_DLY sets OVL, raises FEED_OVERLOAD and starts shedding. -/
  | feedOverloadDelayExpiry (t f : Nat)
  /-- FEED_PEAK (R169): I_FEED above 150 A for 1 ms sets PEAK and starts shedding every 1 ms. -/
  | feedPeak (t f : Nat)
  /-- HEAT_SHED_START (R169): The 10 s mean of heat above HEAT_LIM sets HOT, raises HEAT_SHED and starts shedding every 100 ms. -/
  | heatShedStart (t : Nat)
  /-- MEASURED_SHED_INTERVAL (R169): A measured-shedding interval elapses and one more victim is shed while the condition persists. -/
  | measuredShedInterval (t : Nat)
  /-- CLASS_S_OVERLOAD_EXPIRY (R169): With only class S loads left, I_FEED above 150 A for 10 s raises a CONTAINED FEED_OVERLOAD. -/
  | classSOverloadExpiry (t f : Nat)
  /-- FEED_OVERVOLT (R159): V_FEED above 54 V sets OV and raises FEED_OVERVOLT, deferring new charges until it falls below 53 V. -/
  | feedOvervolt (t f : Nat)
  /-- BANK_FEED_LOSS (R158): A feed below 3.0 V for over 1 ms makes its banks stop answering. -/
  | bankFeedLoss (t f : Nat)
  /-- BANK_FEED_RETURN (R158): A lost feed returns and the hub reloads its banks' configuration and CMD values. -/
  | bankFeedReturn (t f : Nat)
  /-- ENERGY_LOG_RECORD (R173): At each multiple of ELOG_INT an energy log record is written to MRAM. -/
  | energyLogRecord (t : Nat)
  /-- BUDGET_STATUS (R176): Returns a holder's allotment and use with feed and heat figures. -/
  | budgetStatus (r : Req)
  /-- BUDGET_OBJECT (R177): Stages an object's load class and declared current. -/
  | budgetObject (r : Req)
  /-- BUDGET_OBJ_STATUS (R178): Returns the budget entries of a range of objects. -/
  | budgetObjStatus (r : Req)
  /-- ENERGY_READ (R179): Returns energy meter values. -/
  | energyRead (r : Req)
  /-- ENERGY_LOG_READ (R180): Writes energy log records from a sequence number into a buffer. -/
  | energyLogRead (r : Req)
  /-- TASK_RELEASE (R189): A cyclic task's release instant, or an event task's trigger, releases the task at a grid instant. -/
  | taskRelease (t k : Nat)
  /-- INPUT_IMAGE_CAPTURE (R190): At t_rel + 25 µs the input image is written with forces and the task becomes READY, preempting a lower task. -/
  | inputImageCapture (t k : Nat)
  /-- TASK_COMPLETE (R190): A task execution completes, hands its outputs to the hub and starts its retained write. -/
  | taskComplete (t k : Nat) (writes : List (Nat × List Byte))
  /-- RETAINED_WRITE_COMPLETE (R213): A task's retained record is written to MRAM, allowing its next execution. -/
  | retainedWriteComplete (t k : Nat)
  /-- OUTPUT_CUTOFF (R195): At t_cut output forces are applied, or an execution not complete is an overrun. -/
  | outputCutoff (t k : Nat)
  /-- OUTPUT_INSTANT (R201): At t_out each written object receives its handed-over or forced value as an edge. -/
  | outputInstant (t k : Nat)
  /-- LANE_EXCEPTION (R196): A lane exception faults the running task, bringing its objects' dispositions into force. -/
  | laneException (t k cause : Nat)
  /-- RUN_ADMISSION (R204): The group admission of the program's standing charges is granted and the engine enters RUN at the next grid instant. -/
  | runAdmission (t : Nat)
  /-- ONLINE_CHANGE_IDLE_POINT (R208): At an idle point all staged online-change entries are applied. -/
  | onlineChangeIdlePoint (t : Nat)
  /-- ONLINE_CHANGE_NO_IDLE (R208): No idle point within 100 ms; OC_RESULT reads NO_IDLE. -/
  | onlineChangeNoIdle (t : Nat)
  /-- SWAP_INSTANT (R218): At t_sw the new program becomes active, retained values carried and source 123 raised. -/
  | swapInstant (t : Nat)
  /-- CYC_STATUS (R223): Returns engine state, program IDs and pending instants. -/
  | cycStatus (r : Req)
  /-- CYC_TASK_STATUS (R223): Returns a task's words and instants. -/
  | cycTaskStatus (r : Req)
  /-- CYC_LOAD (R224): Checks and loads a program image into the inactive banks. -/
  | cycLoad (r : Req)
  /-- CYC_SWAP (R224): Schedules a program swap at t_sw, or exchanges at once in STOP. -/
  | cycSwap (r : Req)
  /-- CYC_START (R225): Starts the engine WARM, COLD or RESUME through group admission. -/
  | cycStart (r : Req)
  /-- CYC_STOP (R225): Stops the engine, bringing dispositions into force. -/
  | cycStop (r : Req)
  /-- CYC_HOLD (R225): Freezes executions and ends standing charges. -/
  | cycHold (r : Req)
  /-- CYC_TASK_RESTART (R225): Restarts a FAULTED task with a priming execution. -/
  | cycTaskRestart (r : Req)
  /-- CYC_CHANGE (R226): Stages, commits or discards online-change entries. -/
  | cycChange (r : Req)
  /-- CYC_FORCE (R227): Sets or clears entries of the force table. -/
  | cycForce (r : Req)
  /-- CYC_VAR_READ (R228): Returns a program variable's value. -/
  | cycVarRead (r : Req)
  /-- CYC_EVENT (R228): Triggers an event task of KIND 5. -/
  | cycEvent (r : Req)
  /-- FRAME_RECEIVE (R236): A received Ethernet frame passes length, MACsec, VLAN, stream, policing, forwarding, queue and cell admission steps. -/
  | frameReceive (t : Nat) (fr : RxFrame)
  /-- FRAME_TRUNCATION_TIMEOUT (R254): A frame whose end has not arrived within T_TRUNC is dropped, counted and its egress copies stomped. -/
  | frameTruncationTimeout (t p : Nat)
  /-- MATCHING_ROUND (R246): A matching round moves head cells from VOQs to egress staging queues and updates pointers. -/
  | matchingRound (t : Nat)
  /-- TRANSMIT_OPPORTUNITY (R277): An egress port chooses the highest eligible class and starts a frame, or preempts a preemptable frame. -/
  | transmitOpportunity (t p : Nat)
  /-- FRAME_TRANSMIT_COMPLETE (R259): A frame finishes leaving its port, frees cells and completes ring descriptors. -/
  | frameTransmitComplete (t p : Nat)
  /-- LINK_DOWN (R255): An external port's link goes down; the leaving frame is aborted and the flap hold starts. -/
  | linkDown (t p : Nat)
  /-- LINK_UP (R255): A port's link comes up and sending resumes, late gated frames dropped. -/
  | linkUp (t p : Nat)
  /-- FLAP_HOLD_EXPIRY (R255): FLAP_HOLD ends with the link down and every frame queued for the port is flushed. -/
  | flapHoldExpiry (t p : Nat)
  /-- DYNAMIC_ENTRY_AGEING (R240): A dynamic forwarding entry not seen for AGE_TIME is removed. -/
  | dynamicEntryAgeing (t j : Nat)
  /-- RED_IDLE_UPDATE (R250): Every 1 µs while a queue is empty its RED average is updated with OCC 0. -/
  | redIdleUpdate (t q : Nat)
  /-- BUFFER_AUDIT_SNAPSHOT (R256): Every 100 ms the switch counts cells and on mismatch increments MISSES and may request a reclaim sweep. -/
  | bufferAuditSnapshot (t total : Nat)
  /-- RECLAIM_SWEEP_COMPLETE (R257): The reclaim sweep ends, adding returned cells to RECLAIMED and raising source 285. -/
  | reclaimSweepComplete (t returned : Nat)
  /-- SWC_RING_ENABLE (R258): Writing ENABLE of a ring pair starts or stops its service after the ring checks. -/
  | swcRingEnable (t : Nat) (a : Acc) (r v : Nat)
  /-- SWC_TX_PROD_WRITE (R259): The holder advances TX_PROD to post transmit descriptors. -/
  | swcTxProdWrite (t : Nat) (a : Acc) (r v : Nat)
  /-- SWC_RX_FILL_WRITE (R259): The holder advances RX_FILL to post receive descriptors. -/
  | swcRxFillWrite (t : Nat) (a : Acc) (r v : Nat)
  /-- TX_DESCRIPTOR_TAKE (R244): A transmit descriptor is taken once the holder's share has room and its frame enters the switch. -/
  | txDescriptorTake (t r : Nat)
  /-- SWC_PORT_STATUS (R264): Returns a port's configuration and status. -/
  | swcPortStatus (r : Req)
  /-- SWC_PORT_CONFIG (R264): Writes masked fields of a port's configuration. -/
  | swcPortConfig (r : Req)
  /-- SWC_QUEUE_CONFIG (R265): Writes a queue's configuration and RED profiles. -/
  | swcQueueConfig (r : Req)
  /-- SWC_QUEUE_STATUS (R266): Returns queue occupancy and drop counts. -/
  | swcQueueStatus (r : Req)
  /-- SWC_COUNTERS (R266): Returns port counters taken at one cell time. -/
  | swcCounters (r : Req)
  /-- SWC_FDB_SET (R267): Writes or deletes a static forwarding entry. -/
  | swcFdbSet (r : Req)
  /-- SWC_FDB_READ (R267): Reads forwarding entries into a buffer. -/
  | swcFdbRead (r : Req)
  /-- SWC_VLAN_CONFIG (R268): Defines or removes a VLAN. -/
  | swcVlanConfig (r : Req)
  /-- SWC_POLICER (R269): Sets a policer's parameters and returns its counts. -/
  | swcPolicer (r : Req)
  /-- SWC_MACSEC_SA (R270): Installs a MACsec SA. -/
  | swcMacsecSa (r : Req)
  /-- SWC_AUDIT (R271): Reads the buffer audit or requests a reclaim sweep. -/
  | swcAudit (r : Req)
  /-- GPTP_MESSAGE_RECEIVE (R274): A gPTP event message is received and time-stamped and updates the instance, giving a source measurement. -/
  | gptpMessageReceive (t inst p len : Nat) (m : GptpMsg)
  /-- GPTP_MESSAGE_INTERVAL (R274): A gPTP Sync or peer-delay interval elapses and the message is sent. -/
  | gptpMessageInterval (t inst p len : Nat)
  /-- GATE_INTERVAL_END (R278): A gate list entry's interval ends and the next entry or cycle sets the gate states. -/
  | gateIntervalEnd (t k : Nat)
  /-- GCL_CHANGE_INSTANT (R279): At t_chg the administrative gate list becomes operational and source 288 is raised. -/
  | gclChangeInstant (t k : Nat)
  /-- PREEMPT_VERIFY_TIMER (R283): VERIFY_TIME elapses and a verification attempt is made or verification fails. -/
  | preemptVerifyTimer (t p : Nat) (ok : Bool)
  /-- FRER_RESET_TIMER (R288): No frame passes a recovery function within RESET_MS and it resets. -/
  | frerResetTimer (t f : Nat)
  /-- FRER_LATENT_PERIOD (R288): LATENT_PERIOD elapses and latent error detection compares counts. -/
  | frerLatentPeriod (t f : Nat)
  /-- FA_FRAME_ARRIVAL (R292): A fast-actuation frame reaches I4, is checked, its entries queued and a RESULT frame sent. -/
  | faFrameArrival (t : Nat)
  /-- TSN_GCL_SET (R299): Writes an administrative gate list. -/
  | tsnGclSet (r : Req)
  /-- TSN_GCL_STATUS (R299): Returns the operational gate list state. -/
  | tsnGclStatus (r : Req)
  /-- TSN_SHAPER_CONFIG (R300): Sets a class's credit-based shaper. -/
  | tsnShaperConfig (r : Req)
  /-- TSN_PREEMPT_CONFIG (R300): Sets a port's preemption configuration. -/
  | tsnPreemptConfig (r : Req)
  /-- TSN_STREAM_SET (R301): Writes or removes a stream entry. -/
  | tsnStreamSet (r : Req)
  /-- TSN_STREAM_STATUS (R301): Returns a stream's counts. -/
  | tsnStreamStatus (r : Req)
  /-- TSN_FRER_SET (R302): Sets a recovery function. -/
  | tsnFrerSet (r : Req)
  /-- TSN_GPTP_STATUS (R303): Returns gPTP instance and port status. -/
  | tsnGptpStatus (r : Req)
  /-- FA_SENDER_SET (R304): Stages a fast-actuation sender definition. -/
  | faSenderSet (r : Req)
  /-- FA_STATUS (R304): Returns a sender's last SEQ and result counts. -/
  | faStatus (r : Req)
  /-- CAN_FRAME_VALID (R316): A CAN frame reaches its valid point and is accepted by its receive object or counted unmatched. -/
  | canFrameValid (t c : Nat) (fr : CanFrame)
  /-- CAN_TX_OPPORTUNITY (R319): At intermission or bus idle the channel chooses the winning PENDING request and starts it. -/
  | canTxOpportunity (t c : Nat) (idle : Bool)
  /-- CAN_TX_FRAME_COMPLETE (R318): A transmitted frame is acknowledged; STAMP is written and outcome SENT posted. -/
  | canTxFrameComplete (t c sof : Nat)
  /-- CAN_TX_LOST_OR_ERROR (R318): Arbitration is lost or an error occurs and the request returns to PENDING or ends ABORTED. -/
  | canTxLostOrError (t c : Nat) (lost : Bool)
  /-- CAN_BUS_ERROR (R322): A bus error changes TEC or REC and possibly STATE, entering BUS_OFF when TEC exceeds 255. -/
  | canBusError (t c dTec dRec lec : Nat) (dataPhase : Bool)
  /-- CAN_RECOVER_DELAY_EXPIRY (R323): RECOVER_DLY expires with AUTO_RECOVER and recovery starts. -/
  | canRecoverDelayExpiry (t c : Nat)
  /-- CAN_RECOVERY_COMPLETE (R323): After 128 occurrences of 11 recessive bits the channel is ERROR_ACTIVE again. -/
  | canRecoveryComplete (t c : Nat)
  /-- DOM_TIMEOUT (R306): The transceiver stops driving dominant after 1–3 ms and DOM_TIMEOUT counts. -/
  | domTimeout (t c : Nat)
  /-- CAN_OBJ_EN_WRITE (R312): A write of EN to CAN_OBJk_ID enables the object, is ignored with DUP, or disables it. -/
  | canObjEnWrite (t : Nat) (a : Acc) (c k v : Nat)
  /-- CAN_EVQ_OFF (R313): CTL action EVQ_OFF clears EVQ. -/
  | canEvqOff (t : Nat) (a : Acc) (c k : Nat)
  /-- CAN_EVQ_ON (R313): CTL action EVQ_ON sets EVQ. -/
  | canEvqOn (t : Nat) (a : Acc) (c k : Nat)
  /-- CAN_LOST_CLR (R316): CTL action LOST_CLR clears LOST. -/
  | canLostClr (t : Nat) (a : Acc) (c k : Nat)
  /-- CAN_HOLD_REL (R316): CTL action HOLD_REL releases a held receive object and consumes its frame. -/
  | canHoldRel (t : Nat) (a : Acc) (c k : Nat)
  /-- CAN_HOLD_SET (R316): CTL action HOLD_SET holds a receive object. -/
  | canHoldSet (t : Nat) (a : Acc) (c k : Nat)
  /-- CAN_ABORT (R318): CTL action ABORT aborts a transmit request. -/
  | canAbort (t : Nat) (a : Acc) (c k : Nat)
  /-- CAN_TXREQ (R318): CTL action TXREQ requests transmission of a slot. -/
  | canTxreq (t : Nat) (a : Acc) (c k slot : Nat)
  /-- CAN_RXEVT_POP (R321): A read of CAN_RXEVT_POP returns and removes the head receive event. -/
  | canRxevtPop (t : Nat) (a : Acc) (c : Nat)
  /-- CAN_TXEVT_POP (R321): A read of CAN_TXEVT_POP returns and removes the head transmit outcome. -/
  | canTxevtPop (t : Nat) (a : Acc) (c : Nat)
  /-- LIN_SLOT_START (R326): A schedule slot starts and the commander sends its header, publish response, go-to-sleep frame or collision resolution. -/
  | linSlotStart (t c : Nat)
  /-- LIN_RESPONSE_END (R329): A subscribed response completes or errs and the buffer is updated by the receive protocol. -/
  | linResponseEnd (t c err : Nat) (data : List Byte)
  /-- LIN_FRAME_MAX_EXPIRY (R329): T_FRAME_MAX passes without a complete response, ending it NO_RESPONSE or INCOMPLETE. -/
  | linFrameMaxExpiry (t c : Nat) (got : Bool)
  /-- LIN_HOLD_SET (R327): CTL action HOLD_SET holds a subscribe buffer. -/
  | linHoldSet (t : Nat) (a : Acc) (c j : Nat)
  /-- LIN_HOLD_REL (R327): CTL action HOLD_REL releases a subscribe buffer. -/
  | linHoldRel (t : Nat) (a : Acc) (c j : Nat)
  /-- LIN_LOST_CLR (R327): CTL action LOST_CLR clears LOST of a subscribe buffer. -/
  | linLostClr (t : Nat) (a : Acc) (c j : Nat)
  /-- LIN_DATA1_WRITE (R327): A write to DATA1 of a publish buffer sets DIRTY. -/
  | linData1Write (t : Nat) (a : Acc) (c j v : Nat)
  /-- CAN_CONFIG (R331): Writes a CAN channel's control and bit timing. -/
  | canConfig (r : Req)
  /-- CAN_STATUS (R332): Returns a CAN channel's registers and counts. -/
  | canStatus (r : Req)
  /-- CAN_RECOVER (R333): Starts bus-off recovery. -/
  | canRecover (r : Req)
  /-- LIN_CONFIG (R334): Writes a LIN channel's control. -/
  | linConfig (r : Req)
  /-- LIN_TABLE_LOAD (R334): Loads a LIN schedule table. -/
  | linTableLoad (r : Req)
  /-- LIN_SCHEDULE (R335): Switches the active LIN schedule table. -/
  | linSchedule (r : Req)
  /-- LIN_STATUS (R335): Returns LIN channel status. -/
  | linStatus (r : Req)
  /-- GATEWAY_SEND_DUE (R342): A route's pending send falls due and its buffer is handed to the destination. -/
  | gatewaySendDue (t r : Nat)
  /-- GATEWAY_MAX_GAP_EXPIRY (R342): MAX_GAP passes without a send and the buffer is repeated. -/
  | gatewayMaxGapExpiry (t r : Nat)
  /-- GATEWAY_TIMEOUT (R343): TIMEOUT passes without a source update and the route acts by TMO_ACT. -/
  | gatewayTimeout (t r : Nat)
  /-- CONTAINER_SEND_TIMEOUT (R348): CONT_TMO after its first PDU a container is sent from I3. -/
  | containerSendTimeout (t k : Nat)
  /-- CONTAINER_RECEIVE (R348): A received container is unpacked entry by entry into the routes. -/
  | containerReceive (t : Nat)
  /-- GWY_STATUS (R353): Returns gateway totals. -/
  | gwyStatus (r : Req)
  /-- GWY_ROUTE_STATUS (R353): Returns a route's instants and counts. -/
  | gwyRouteStatus (r : Req)
  /-- GWY_ROUTE_ENABLE (R354): Writes a route's RUN field. -/
  | gwyRouteEnable (r : Req)
  /-- GWY_PDU_READ (R354): Returns half of a route's buffer. -/
  | gwyPduRead (r : Req)
  /-- GWY_BRIDGE_LOG (R358): Returns bridge error log entries. -/
  | gwyBridgeLog (r : Req)
  /-- READY_DLY_EXPIRY (R362): After READY_DLY of unbroken readiness the sleep commit is made at the next grid instant. -/
  | readyDlyExpiry (t : Nat)
  /-- PREP_MS_EXPIRY (R363): At t_commit + PREP_MS the compute islands stop and final records are committed. -/
  | prepMsExpiry (t : Nat)
  /-- SLEEP_POWER_DOWN_COMPLETE (R363): Every domain but WAKE is off and the device state is SLEEP; a latched wake starts wake-up. -/
  | sleepPowerDownComplete (t : Nat)
  /-- WAKE_IN_EVENT (R368): WAKE_IN meets its filtered criterion and is latched as a wake cause. -/
  | wakeInEvent (t : Nat) (level : Bool)
  /-- IGN_SENSE_EVENT (R368): IGN_SENSE is active for WAKE_FILT and is latched. -/
  | ignSenseEvent (t : Nat) (level : Bool)
  /-- RTC_ALARM (R374): An alarm instant is reached and is latched or cleared without effect. -/
  | rtcAlarm (t v : Nat)
  /-- CAN_WAKE_PATTERN (R367): An armed channel sees the wake-up pattern and latches CAN. -/
  | canWakePattern (t c : Nat)
  /-- CAN_WAKE_FRAME (R370): A decoding channel receives a wake-up frame and latches CAN. -/
  | canWakeFrame (t c : Nat) (fr : CanFrame)
  /-- CAN_FEC_OVERFLOW (R370): A decoding channel's FEC reaches 32 and latches CAN_FEC. -/
  | canFecOverflow (t c : Nat)
  /-- LIN_WAKE_DOMINANT (R372): A LIN channel sees dominant for 150 µs that it did not drive, latching LIN or waking the channel. -/
  | linWakeDominant (t c fin : Nat)
  /-- ETH_TC10_WAKE (R373): A port receives a TC10 wake-up pulse or request and latches ETH or wakes. -/
  | ethTc10Wake (t p : Nat)
  /-- CHAIN_WAKE_PULSE (R394): A wake pulse of 100 µs on a Hedgerow port latches CHAIN. -/
  | chainWakePulse (t : Nat) (up : Bool)
  /-- TC10_HANDSHAKE_COMPLETE (R373): A port's TC10 sleep handshake completes, the link goes down and the PHY enters wake detection. -/
  | tc10HandshakeComplete (t p : Nat) (ok : Bool)
  /-- WAKE_OUT_PULSE_END (R369): WOUT_MS ends and WAKE_OUT is released. -/
  | wakeOutPulseEnd (t : Nat)
  /-- COPPICE_SLEEP_COMMIT (R376): In COPPICE the inactivity conditions hold long enough and the module commits to DEEP sleep. -/
  | coppiceSleepCommit (t : Nat)
  /-- SLP_VOTE (R379): Sets a voter's vote BUSY or READY. -/
  | slpVote (r : Req)
  /-- SLP_STATUS (R379): Returns sleep readiness status. -/
  | slpStatus (r : Req)
  /-- SLP_WAKE_INFO (R379): Returns the wake causes. -/
  | slpWakeInfo (r : Req)
  /-- SLP_CHANNEL (R380): Puts a CAN, LIN or Ethernet channel to sleep or wakes it. -/
  | slpChannel (r : Req)
  /-- SLP_ALARM (R381): Sets or cancels a voter's alarm. -/
  | slpAlarm (r : Req)
  /-- SLP_SWK_CONFIG (R381): Sets a CAN channel's selective-wake filter. -/
  | slpSwkConfig (r : Req)
  /-- HOP_CYCLE (R383): A hop cycle begins and each side sends its frame or IDLE in its window, including SYNC at each millisecond. -/
  | hopCycle (t : Nat) (up : Bool)
  /-- HOP_DOWN_TIMEOUT (R383): A hop without a valid frame for 240 µs goes down and BREAKS counts. -/
  | hopDownTimeout (t : Nat) (up : Bool)
  /-- HDG_FRAME_TRUNCATION (R386): A Hedgerow frame whose end does not arrive within 72 µs is truncated. -/
  | hdgFrameTruncation (t : Nat) (up : Bool)
  /-- HDG_IDLE_FRAME (R383): An IDLE frame keeps the hop up and carries READY. -/
  | hdgIdleFrame (t : Nat) (up : Bool) (f : HdgFrame)
  /-- HDG_ENUM_FRAME (R390): A member takes depth from ENUM, answers ENUM_ACK and passes ENUM on. -/
  | hdgEnumFrame (t : Nat) (up : Bool) (f : HdgFrame)
  /-- HDG_ENUM_ACK_FRAME (R390): The root receives ENUM_ACK answers and assigns positions at END or completes at DONE. -/
  | hdgEnumAckFrame (t : Nat) (up : Bool) (f : HdgFrame)
  /-- HDG_TOPO_FRAME (R391): A member takes its position from TOPO, possibly changing address or becoming UNADDRESSED. -/
  | hdgTopoFrame (t : Nat) (up : Bool) (f : HdgFrame)
  /-- HDG_SYNC_FRAME (R393): A member takes the root time from SYNC and relays it with a corrected field. -/
  | hdgSyncFrame (t : Nat) (up : Bool) (f : HdgFrame)
  /-- HDG_DELAY_REQ_FRAME (R393): A DELAY_REQ is answered with DELAY_RSP. -/
  | hdgDelayReqFrame (t : Nat) (up : Bool) (f : HdgFrame)
  /-- HDG_DELAY_RSP_FRAME (R393): A DELAY_RSP gives the member its upper hop delay. -/
  | hdgDelayRspFrame (t : Nat) (up : Bool) (f : HdgFrame)
  /-- HDG_COMMIT_FRAME (R396): A chain-sleep member commits at the root's t_commit. -/
  | hdgCommitFrame (t : Nat) (up : Bool) (f : HdgFrame)
  /-- HDG_FWD_REQ_FRAME (R397): A forwarded request is relayed with REMAIN lowered or executed at its target. -/
  | hdgFwdReqFrame (t : Nat) (up : Bool) (f : HdgFrame)
  /-- HDG_FWD_RSP_FRAME (R397): A forwarded response is relayed to its originator. -/
  | hdgFwdRspFrame (t : Nat) (up : Bool) (f : HdgFrame)
  /-- HDG_CHANGE_FRAME (R390): The root receives CHANGE and starts enumeration. -/
  | hdgChangeFrame (t : Nat) (up : Bool) (f : HdgFrame)
  /-- ROOT_ETHERNET_FRAME (R398): A root receives an inter-segment Hedgerow frame over Ethernet and forwards it down. -/
  | rootEthernetFrame (t : Nat)
  /-- ENUM_RESTART_TIMEOUT (R390): DONE has not arrived within 100 ms and the root restarts enumeration. -/
  | enumRestartTimeout (t : Nat)
  /-- DELAY_MEASUREMENT_PERIOD (R393): Every 64 ms a member measures its upper hop delay. -/
  | delayMeasurementPeriod (t : Nat)
  /-- SYNC_LOSS_TIMEOUT (R393): Without SYNC for 3 s a member's master enters HOLDOVER. -/
  | syncLossTimeout (t : Nat)
  /-- BYPASS_OPEN (R387): The unit opens its bypass when its Hedgerow logic starts. -/
  | bypassOpen (t : Nat)
  /-- HDG_STATUS (R402): Returns the chain registers and last enumeration instant. -/
  | hdgStatus (r : Req)
  /-- HDG_TOPOLOGY (R402): Returns positions of a range of depths. -/
  | hdgTopology (r : Req)
  /-- HDG_ENUM (R403): Starts an enumeration at a root. -/
  | hdgEnum (r : Req)
  /-- HDG_MAP_FORGET (R403): Removes a LEARNED map entry. -/
  | hdgMapForget (r : Req)
  /-- MPC_CORE_PART_WRITE (R406): A hypervisor write sets the partition identity a core carries. -/
  | mpcCorePartWrite (t : Nat) (a : Acc) (hyp : Bool) (c v : Nat)
  /-- MPC_PEVT_CLEAR (R412): A hypervisor-level write of 1 clears MPC_PEVT bits. -/
  | mpcPevtClear (t : Nat) (a : Acc) (hyp : Bool) (v : Nat)
  /-- PART_RESET_DRAIN_COMPLETE (R415): A partition reset's transactions drain and its device-side effects complete, reaching HALTED or starting the scrub. -/
  | partResetDrainComplete (t v : Nat)
  /-- PART_SCRUB_COMPLETE (R418): The zero-fill of the partition's regions ends and it reaches HALTED. -/
  | partScrubComplete (t v : Nat)
  /-- SAFETY_PARTITION_RELOAD (R415): The Privet controller reloads a safety-core partition and releases it to STARTING. -/
  | safetyPartitionReload (t v : Nat)
  /-- HOST_RESET_RELOAD (R419): The hypervisor image is reloaded and the host partition restarts. -/
  | hostResetReload (t : Nat)
  /-- REGULATION_PERIOD (R421): A DRAM regulation period begins and partition budgets renew less debt. -/
  | regulationPeriod (t : Nat)
  /-- PART_STATUS (R426): Returns a partition's state and figures. -/
  | partStatus (r : Req)
  /-- PART_READY (R427): Moves a STARTING partition to READY, possibly confirming the start. -/
  | partReady (r : Req)
  /-- PART_RESET (R427): Requests a partition reset. -/
  | partReset (r : Req)
  /-- PART_RELEASE (R427): Releases a HALTED partition to STARTING. -/
  | partRelease (r : Req)
  /-- PART_STORE_INFO (R428): Returns storage area information. -/
  | partStoreInfo (r : Req)
  /-- PART_STORE_READ (R428): Reads storage blocks. -/
  | partStoreRead (r : Req)
  /-- PART_STORE_WRITE (R428): Writes storage blocks durably. -/
  | partStoreWrite (r : Req)
  /-- LOCKSTEP_MISMATCH (R435): The checker finds a mismatch, stops the pair and starts the self-test or restart. -/
  | lockstepMismatch (t n kind addr : Nat)
  /-- LOCKSTEP_SIGNATURE_CHECK (R433): Every 1 ms the pair compares register signatures. -/
  | lockstepSignatureCheck (t n : Nat) (equal : Bool)
  /-- MISMATCH_SELFTEST_RESULT (R436): The mismatch self-test ends and a core is fenced to DEGRADED or the pair restarts. -/
  | mismatchSelftestResult (t n : Nat) (aOk bOk : Bool)
  /-- CHECKPOINT_RESTART_COMPLETE (R436): Both cores load the checkpoint and resume in lockstep, or a partition reset follows. -/
  | checkpointRestartComplete (t n : Nat)
  /-- FLT_LS_CKPT_WRITE (R434): A write of TAKE by the pair captures a checkpoint. -/
  | fltLsCkptWrite (t : Nat) (a : Acc) (n v : Nat)
  /-- DEBUG_HALT_REQUEST (R441): A debug halt halts both cores of a pair and sets LOCKSTEP_BROKEN. -/
  | debugHaltRequest (t n : Nat)
  /-- DEBUG_RESUME (R441): On resume SPnb is loaded from SPna and comparison restarts. -/
  | debugResume (t n : Nat)
  /-- PAIR_STATUS (R444): Returns a pair's lockstep registers and instants. -/
  | pairStatus (r : Req)
  /-- GATE (R452): GATE checks its target and enters the secure world, or fails. -/
  | gate (t : Nat) (a : Acc) (hyp : Bool) (target : Nat)
  /-- GRET (R453): GRET returns from a gate call to the saved caller. -/
  | gret (t : Nat) (a : Acc)
  /-- GATE_TIMER_EXPIRY (R456): A gate timer expires, every core in a gate call returns and SEC_STATE becomes HUNG. -/
  | gateTimerExpiry (t c : Nat)
  /-- MPC_CPC_PSTATE_WRITE (R459): A write of PSTATE changes a clock or power control or is refused. -/
  | mpcCpcPstateWrite (t : Nat) (a : Acc) (k v : Nat)
  /-- WORLD_STATUS (R464): Returns gateway and lifecycle status and violation sums. -/
  | worldStatus (r : Req)
  /-- LC_SET (R464): Fuses a lifecycle transition for the next start. -/
  | lcSet (r : Req)
  /-- KEY_STATUS (R485): Returns a slot's status, parent, owner and KCV. -/
  | keyStatus (r : Req)
  /-- KEY_DERIVE (R485): Derives a slot's shadow value. -/
  | keyDerive (r : Req)
  /-- KEY_IMPORT (R485): Unwraps a key into a slot's shadow. -/
  | keyImport (r : Req)
  /-- KEY_COMMIT (R471): Checks the expected KCV and commits the shadow at t_kc. -/
  | keyCommit (r : Req)
  /-- KEY_COMMIT_EFFECT (R471): At t_kc the shadow becomes active, the generation increments and descendants are orphaned. -/
  | keyCommitEffect (t k : Nat)
  /-- KEY_DISCARD (R485): Zeroes a slot's shadow. -/
  | keyDiscard (r : Req)
  /-- KEY_REVOKE (R473): Zeroes a slot, increments its generation and orphans its descendants. -/
  | keyRevoke (r : Req)
  /-- KEY_OP (R475): Starts a cryptographic operation with a slot. -/
  | keyOp (r : Req)
  /-- KEY_OP_COMPLETE (R475): A key operation completes, or aborts with zeroed output. -/
  | keyOpComplete (t node w tag : Nat)
  /-- KEY_ATTEST (R477): Writes a tagged attestation report. -/
  | keyAttest (r : Req)
  /-- KEY_RANDOM (R486): Returns DRBG bytes. -/
  | keyRandom (r : Req)
  /-- TAMPER_STATUS (R487): Returns tamper state and log entries. -/
  | tamperStatus (r : Req)
  /-- TAMPER_CLEAR (R487): Clears LATCHED sensors and leaves LOCKED. -/
  | tamperClear (r : Req)
  /-- REMASK_DUE (R474): A re-masking pass falls due and is requested from the maintenance arbiter. -/
  | remaskDue (t : Nat)
  /-- TAMPER_SENSOR_EVENT (R481): A tamper sensor reports an event and its policy ERASE, LOCK or LOG acts. -/
  | tamperSensorEvent (t j : Nat)
  /-- FAULT_REPORT (R488): A fault line asserts with its record; the fault is captured, logged, queued and may enter FAULT. -/
  | faultReport (t code cls obj detail : Nat) (a : Acc) (ty addr : Nat)
  /-- UNRECORDED_TIMEOUT (R488): No record within 2 µs of an assertion and the code UNRECORDED is logged. -/
  | unrecordedTimeout (t island cls : Nat)
  /-- RAIL_DISAGREEMENT (R489): A rail pair disagrees for more than 3 cycles and RAIL_FAULT is raised. -/
  | railDisagreement (t island : Nat)
  /-- FLT_NOTE_ACK (R496): A handler writes a log index to acknowledge and remove its entry, stopping its timer. -/
  | fltNoteAck (t : Nat) (a : Acc) (v : Nat)
  /-- HANDLING_TIMER_EXPIRY (R496): A CONTAINED record's handling timer expires, reaching stage 1 or stage 2. -/
  | handlingTimerExpiry (t h index : Nat)
  /-- QUIET_TIMER_EXPIRY (R501): The quiet period ends, RECOVERY increments and a COMPUTE_FAULT start follows. -/
  | quietTimerExpiry (t : Nat)
  /-- FAULT_STATUS (R504): Returns fault configuration, status and counts. -/
  | faultStatus (r : Req)
  /-- FAULT_LOG_READ (R504): Returns fault log records filtered by requester. -/
  | faultLogRead (r : Req)
  /-- FAULT_CAPTURE (R505): Returns and optionally re-arms a first-error capture. -/
  | faultCapture (r : Req)
  /-- FAULT_RECOVERY_CLEAR (R505): Sets RECOVERY to 0. -/
  | faultRecoveryClear (r : Req)
  /-- FAULT_INJECT (R505): Raises a chosen fault in DEVELOP. -/
  | faultInject (r : Req)
  /-- OVERLAY_CUTOFF (R514): At t_ov − 1 ms the set of command-staged values to apply is closed. -/
  | overlayCutoff (t : Nat)
  /-- OVERLAY_SWITCH_INSTANT (R514): At t_ov every STAGED field changes in every island, ownership changes and charges are recomputed. -/
  | overlaySwitchInstant (t : Nat)
  /-- OVERLAY_ALIGN_TIMEOUT (R517): ALIGN_ALL does not return within 1 ms of t_ov and the switch is answered TIMEOUT. -/
  | overlayAlignTimeout (t : Nat)
  /-- CONFIG_COPY_COMPARE (R510): Every 10 s the MRAM copies are compared and a divergence repaired. -/
  | configCopyCompare (t : Nat)
  /-- SERVICE_SESSION_EXPIRY (R513): The session time ends and the service session closes. -/
  | serviceSessionExpiry (t : Nat)
  /-- MAINT_ACTIVITY_COMPLETE (R521): A maintenance activity ends and the arbiter starts compatible queued requests. -/
  | maintActivityComplete (t act : Nat) (failed : List Nat) (trims : List (Nat × Int))
  /-- MAINT_WAIT_LIMIT (R521): A request waits 1 s and stops later incompatible requests from starting. -/
  | maintWaitLimit (t : Nat)
  /-- SCRUB_DUE (R519): A SCRUB pass is requested every SCRUB_MIN. -/
  | scrubDue (t : Nat)
  /-- LBIST_DUE (R519): An LBIST slice is requested every LBIST_S. -/
  | lbistDue (t : Nat)
  /-- CONFIG_STATUS (R524): Returns configuration status and a session nonce. -/
  | configStatus (r : Req)
  /-- OVERLAY_SWITCH (R524): Schedules an overlay switch at t_ov. -/
  | overlaySwitch (r : Req)
  /-- CONFIG_COMMIT (R516): Schedules the application of pending command values. -/
  | configCommit (r : Req)
  /-- SERVICE_OPEN (R524): Opens an authenticated service session. -/
  | serviceOpen (r : Req)
  /-- SERVICE_CLOSE (R524): Closes the service session. -/
  | serviceClose (r : Req)
  /-- MAINT_REQUEST (R525): Requests a maintenance activity. -/
  | maintRequest (r : Req)
  /-- MAINT_STATUS (R525): Returns maintenance status. -/
  | maintStatus (r : Req)
  /-- MAINT_CANCEL (R525): Removes a queued maintenance request. -/
  | maintCancel (r : Req)
  /-- POWER_ON_RESET (R526): All feeds are restored after loss and a POWER_ON start begins. -/
  | powerOnReset (t : Nat)
  /-- DRAM_TRAINING_COMPLETE (R530): DRAM training ends, or fails into COPPICE with DRAM_TRAIN. -/
  | dramTrainingComplete (t : Nat) (ok : Bool)
  /-- IMAGE_AUTHENTICATION_COMPLETE (R530): Image checks end, choosing the active or fallback area, COPPICE or ROM recovery. -/
  | imageAuthenticationComplete (t : Nat)
  /-- BOOT_LOCK (R450): Writing BOOT_LOCK 1 locks regions, routes and assignments until a COMPUTE reset. -/
  | bootLock (t : Nat)
  /-- IMAGES_RELEASED (R528): Images are loaded and measured and the secure world, host and safety cores released. -/
  | imagesReleased (t : Nat) (pairs : List (Bool × Bool))
  /-- BOOT_WATCHDOG_EXPIRY (R530): BOOT_LOCK not set by t_start + 5 s and a SYSTEM_WDT reset follows. -/
  | bootWatchdogExpiry (t : Nat)
  /-- CONFIRMATION_LIMIT_EXPIRY (R532): t_start + 30 s passes unconfirmed and a COMPUTE_CONFIRM reset follows. -/
  | confirmationLimitExpiry (t : Nat)
  /-- PRIVET_RESTART (R74): The Privet controller restarts and commands in flight are answered INTERNAL_FAULT once it completes. -/
  | privetRestart (t : Nat)
  /-- DEVICE_RESET_INSTANT (R541): At t_rst the reset of the requested scope takes place and a start follows. -/
  | deviceResetInstant (t : Nat)
  /-- COPPICE_EXIT_RESET (R537): At the take instant + 1 ms a COPPICE_EXIT reset clears the reason and starts the device. -/
  | coppiceExitReset (t : Nat)
  /-- BOOT_STATUS (R540): Returns boot status, counts and instants. -/
  | bootStatus (r : Req)
  /-- DEVICE_RESET (R541): Schedules a COMPUTE or SYSTEM reset. -/
  | deviceReset (r : Req)
  /-- COPPICE_EXIT (R542): Checks CONFIRM and schedules a COPPICE_EXIT reset. -/
  | coppiceExit (r : Req)
  /-- UPD_STATUS (R563): Returns update session status. -/
  | updStatus (r : Req)
  /-- UPD_BEGIN (R550): Checks a manifest and opens or resumes an update session. -/
  | updBegin (r : Req) (bufs : List Byte)
  /-- UPD_CHUNK (R551): Checks and stores one payload chunk. -/
  | updChunk (r : Req) (bufs : List Byte)
  /-- UPD_VERIFY (R552): Starts verification of the downloaded package. -/
  | updVerify (r : Req)
  /-- UPD_ACTIVATE (R553): Arms activation at the next start. -/
  | updActivate (r : Req)
  /-- UPD_CONFIRM (R557): Confirms an EXPLICIT pending set. -/
  | updConfirm (r : Req)
  /-- UPD_ABORT (R560): Discards the session or requests a rollback. -/
  | updAbort (r : Req)
  /-- UPD_VERIFICATION_COMPLETE (R552): Verification ends, rewrapping the key and requesting STAGE_COPY, or discarding the session. -/
  | updVerificationComplete (t : Nat)
  /-- STAGE_COPY_COMPLETE (R553): Preparation copies the active set to fallback and the state becomes PREPARED. -/
  | stageCopyComplete (t : Nat)
  /-- ACTIVATION_COPY_COMPLETE (R554): The boot ROM finishes copying the new set into the active area and the state becomes PENDING_CONFIRM. -/
  | activationCopyComplete (t : Nat)
  /-- ROLLBACK_COPY_COMPLETE (R558): The fallback set is copied over the active area and the state becomes ROLLED_BACK. -/
  | rollbackCopyComplete (t : Nat)
  /-- FEED_REVERSE (R574): A feed falls more than 0.5 V below GND and its reverse-polarity switch opens. -/
  | feedReverse (t f : Nat) (on : Bool)
  /-- HIGHEST_FEED_LOW (R575): The highest feed falls below 4.5 V and the logic supply runs from hold-up. -/
  | highestFeedLow (t : Nat) (low : Bool)
  /-- HOLD_UP_EXPIRY (R575): The highest feed has not returned within 10 ms and a SYSTEM_SUPPLY reset follows. -/
  | holdUpExpiry (t : Nat)
  /-- THERMAL_SAMPLE (R584): Every 100 ms the housing temperature is measured and the derated limit recomputed. -/
  | thermalSample (t : Nat) (celsius : Int)
  /-- REQUEST_UNDEFINED_OPCODE (R75): A request whose opcode lies in a reserved group, or that no chapter defines, is taken and answered BAD_OPCODE (0x0101) at step 1 of R66. -/
  | requestUndefinedOpcode (r : Req) (op : Nat)
  /-- LINE_INPUT_CHANGE (R361): WAKE_IN or IGN_SENSE changes level while the module is awake, which re-evaluates sleep readiness, LINES_OK and PHASE and may raise source 704. -/
  | lineInputChange (t : Nat) (wakeIn ign : Bool)
  /-- FATAL_CONDITION_CLEAR (R501): The check of a persisting FATAL condition (rail disagreement, failing protection check, collector ECC re-read) finds it gone, so QUIET_HELD clears and the quiet timer starts. -/
  | fatalConditionClear (t code src : Nat)
  /-- TAMPER_CONDITION_END (R478): A tamper sensor leaves its event condition, so its ACTIVE bit clears and TAMPER_CLEAR can then return LOCK_STATE to NORMAL. -/
  | tamperConditionEnd (t j : Nat)
  /-- CORE_WAIT_FOR_INTERRUPT (R459): An application core waits for an interrupt, at which point a pending PSTATE of CLOCK_GATED or OFF for that core takes effect. -/
  | coreWaitForInterrupt (t c : Nat)
  /-- HDG_INVALID_FRAME (R384): A Hedgerow frame with a bad CRC, a reserved TYPE or a missing AUTH is received whole, dropped and counted in CRC_ERR. -/
  | hdgInvalidFrame (t : Nat) (up : Bool)
deriving DecidableEq, Repr

end Sys2Proof
end

