-- ==== Sys2Proof/Decode.lean ====
section
/-!
DEFINITION. Decode.lean: the command that a table word spells. The table of commands gives no row any bits: no word
spells a command (a command reaches the block as a request slot, an access, a frame or an event, whose contents are
operands of Instr).
-/
namespace Sys2Proof

/-- The command that the `nbits` bits of `w` spell by the table: none, since no row of the table has bits. -/
def decodeTableWord (_nbits _w : Nat) : Option Instr := none

end Sys2Proof
end

