-- ==== Sys2Proof/Config.lean ====
section
/-!
DEFINITION. Config.lean: what the spec leaves to the implementation or to a document outside it: free values and
uninterpreted functions, none with a body.
-/
namespace Sys2Proof

/-- The values that the spec leaves open, drawn one after the other (DESIGN CHOICE, assumption 1). -/
opaque Config.freeNat : Nat → Nat

/-- The serial number of the unit: not stated (R77). -/
opaque Config.serial : Nat

/-- The MAC address of the unit's internal functions: not stated. -/
opaque Config.unitMacBits : BitVec 48
/-- That address as a number. -/
def Config.unitMac : Nat := Config.unitMacBits.toNat

/-- The versions DEV_VERSION reports besides FW_MAJOR and FW_MINOR, by the first byte of the field: not stated
(R78). -/
opaque Config.version : Nat → Nat

/-- HMAC-SHA-256 over a key and a message (named, not defined, by the spec). -/
opaque Config.hmac256 : List Byte → List Byte → List Byte

/-- HMAC-SHA-384 over a key and a message. -/
opaque Config.hmac384 : List Byte → List Byte → List Byte

/-- AES-CMAC over a key and a message. -/
opaque Config.cmac : List Byte → List Byte → List Byte

/-- A cryptographic operation: its kind, key, and input (AES modes, signatures, key agreement, wrapping). -/
opaque Config.cipher : Nat → List Byte → List Byte → List Byte

/-- Whether a signature or authenticated ciphertext verifies: its kind, key and input. -/
opaque Config.verify : Nat → List Byte → List Byte → Bool

/-- Key derivation: parent value, label and context (R467). -/
opaque Config.kdf : List Byte → List Byte → List Byte → List Byte

/-- A digest: its kind and message. -/
opaque Config.digest : Nat → List Byte → List Byte

/-- The bucket of the forwarding table that a VLAN and a MAC address hash to: not stated (R239). -/
opaque Config.fdbHash : Nat → Nat → Nat

/-- The device root key (R466): secret, not stated. -/
opaque Config.rootKey : List Byte

/-- A result of a program of the cycle engine or of another document's instruction set. -/
opaque Config.external : Nat → List Byte → List Byte

/-- The key of the table entry that a configuration record names where its offset is no register of the block: the layout
of the tables is not stated (R506). -/
opaque Config.recEntry : Nat → Nat → Nat → Nat

/-- What a record of the ownership table names and holds, from its instance, offset, value and mask: the object's key, owner
and readers; the table's layout is not stated (R506). -/
opaque Config.ownRecord : Nat → Nat → Nat → Nat → Nat × Nat × Nat

/-- The writes that a program's code makes, as the load check reads them: task, offset in its data bank and size; the lane
instruction set is another document's (R182, R213). -/
opaque Config.codeWrites : List Byte → List (Nat × Nat × Nat)

/-- Where an image that runs from the DRAM lies: the images' own layout is not stated (R419, R528). -/
opaque Config.imageBase : Nat → Nat

/-- The conditions of the content check that rest on tables whose layout is not stated, over the base image (R508). -/
opaque Config.contentRest : List Byte → Bool

end Sys2Proof
end

