-- ==== Sys2Proof/Machine/Bits.lean ====
section
/-!
DEFINITION. Machine/Bits.lean: bit fields of register words, the operations of sparse tables, little-endian
and big-endian byte strings, and small list helpers.
-/
namespace Sys2Proof

/-- The value of bits [lo + len - 1 : lo] of a word. -/
def Word.field (w : Word) (lo len : Nat) : Nat := (w >>> lo).toNat % 2 ^ len

/-- The word with bits [lo + len - 1 : lo] replaced by the low `len` bits of `v`. -/
def Word.withField (w : Word) (lo len v : Nat) : Word :=
  (w &&& ~~~ (BitVec.ofNat 32 ((2 ^ len - 1) <<< lo))) ||| BitVec.ofNat 32 ((v % 2 ^ len) <<< lo)

/-- Replace the bits of `w` under `mask` by those of `v`. -/
def Word.merge (w v mask : Word) : Word := (w &&& ~~~ mask) ||| (v &&& mask)

/-- Look a key up in a list of pairs. -/
def lookupD {α : Type} (d : α) (k : Nat) : List (Nat × α) → α
  | [] => d
  | (a, b) :: l => if a = k then b else lookupD d k l

/-- Insert or replace a key, keeping rising keys. -/
def insertK {α : Type} (k : Nat) (v : α) : List (Nat × α) → List (Nat × α)
  | [] => [(k, v)]
  | (a, b) :: l =>
    if k < a then (k, v) :: (a, b) :: l
    else if k = a then (k, v) :: l
    else (a, b) :: insertK k v l

/-- The entry of key `k`, or the default `d` where the key is not listed. -/
def Tab.get {α : Type} (t : Tab α) (d : α) (k : Nat) : α := lookupD d k t.cells

/-- The table with the entry of key `k` set. -/
def Tab.set {α : Type} (t : Tab α) (k : Nat) (v : α) : Tab α := { cells := insertK k v t.cells }

/-- The table with only the keys that satisfy `p`: the others return to their default. -/
def Tab.keep {α : Type} (t : Tab α) (p : Nat → Bool) : Tab α :=
  { cells := t.cells.filter (fun c => p c.1) }

/-- The table without key `k`. -/
def Tab.erase {α : Type} (t : Tab α) (k : Nat) : Tab α := t.keep (fun a => a != k)

/-- The listed keys, rising. -/
def Tab.keys {α : Type} (t : Tab α) : List Nat := t.cells.map (fun c => c.1)

/-- The keys are strictly rising. -/
def risingKeys {α : Type} : List (Nat × α) → Bool
  | [] => true
  | [_] => true
  | (a, _) :: (b, y) :: l => decide (a < b) && risingKeys ((b, y) :: l)


/-- The first `n` bytes of a number, least significant first (R7). -/
def bytesLE : Nat → Nat → List Byte
  | 0, _ => []
  | n + 1, v => BitVec.ofNat 8 v :: bytesLE n (v / 256)

/-- The number that a byte string holds, least significant byte first (R7). -/
def natLE : List Byte → Nat
  | [] => 0
  | b :: l => b.toNat + 256 * natLE l

/-- The number that a byte string holds, most significant byte first: the order of frames (R7). -/
def natBE (l : List Byte) : Nat := l.foldl (fun a b => 256 * a + b.toNat) 0

/-- `n` bytes of a number, most significant first (R7). -/
def bytesBE (n v : Nat) : List Byte := (bytesLE n v).reverse

/-- `n` bytes of a byte string from offset `o`; bytes past its end read as zero. -/
def slice (l : List Byte) (o n : Nat) : List Byte :=
  let x := (l.drop o).take n
  x ++ List.replicate (n - x.length) 0

/-- The little-endian number in bytes `o` to `o + n - 1` of a byte string. -/
def leAt (l : List Byte) (o n : Nat) : Nat := natLE (slice l o n)

/-- The big-endian number in bytes `o` to `o + n - 1` of a byte string. -/
def beAt (l : List Byte) (o n : Nat) : Nat := natBE (slice l o n)

/-- Bit `b` of a number. -/
def bitOf (v b : Nat) : Bool := v.testBit b

/-- The field of `len` bits of a number from bit `lo`. -/
def bitsOf (v lo len : Nat) : Nat := (v / 2 ^ lo) % 2 ^ len

/-- 1 for true, 0 for false. -/
def b2n (b : Bool) : Nat := if b then 1 else 0

/-- A number with bit `b` set. -/
def setBit (v b : Nat) : Nat := v ||| 2 ^ b

/-- A number with bit `b` cleared. -/
def clrBit (v b : Nat) : Nat := if v.testBit b then v - 2 ^ b else v

/-- Add, saturating at `m`. -/
def satAdd (a b m : Nat) : Nat := min (a + b) m

/-- The two's complement reading of a `w`-bit number. -/
def sgn (w v : Nat) : Int := if v % 2 ^ w < 2 ^ (w - 1) then (v % 2 ^ w : Nat) else (v % 2 ^ w : Nat) - (2 ^ w : Nat)

/-- The `w`-bit two's complement code of an integer. -/
def unsgn (w : Nat) (i : Int) : Nat := (i % (2 ^ w : Nat)).toNat

/-- The first multiple of `p` at or after `t` (`t` itself for `p` = 0). -/
def ceilTo (p t : Nat) : Nat := if p = 0 then t else (t + p - 1) / p * p

/-- Fold a state transformer over a list. -/
def foldS {α σ : Type} (l : List α) (f : α → σ → σ) (s : σ) : σ := l.foldl (fun s x => f x s) s

/-- Keep a state unless the condition holds. -/
def onlyIf {σ : Type} (c : Bool) (f : σ → σ) (s : σ) : σ := if c then f s else s

end Sys2Proof
end

