-- ==== Sys2Proof/Machine/Regs.lean ====
section
/-!
DEFINITION. Machine/Regs.lean: every register of the spec by its physical address (R30, R31 and the register tables
of the chapters), its reset value, its writable, write-1-to-clear, STAGED, LOCKED
and RWL bits, and its fields.
-/
namespace Sys2Proof.Machine

/-- Where window `w`'s registers start, counted from window 0 (R48). -/
def winOff (w : Nat) : Nat := if w < 16 then 0x1000 * w else 0x50000

/-- One row of the register map: `cnt1` by `cnt2` registers at `base + st1 * i + st2 * j`. -/
structure RegRow where
  name : String
  base : Nat
  st1  : Nat
  cnt1 : Nat
  st2  : Nat
  cnt2 : Nat
  reset : Nat
  rw   : Nat
  w1c  : Nat
  staged : Nat
  locked : Nat
  /-- the bits of access type RWL, whose lock is BOOT_LOCK (R12, R450) -/
  rwl  : Nat
  /-- what the reset value grows by from one register of the row to the next (MBX_ID, R48) -/
  up   : Nat
  /-- the low word of a 64-bit pair (R11) -/
  low  : Bool
  /-- the fields: lowest bit and width -/
  flds : List (Nat × Nat)
deriving DecidableEq, Repr

/-! ## Addresses -/

/-- Address of IRQ_PEND_k. -/
def R.IRQ_PEND (k : Nat) : Nat := 0x10030100 + 0x4 * k
/-- Address of IRQ_HEAD. -/
def R.IRQ_HEAD : Nat := 0x10030200
/-- Address of IRQ_EOI. -/
def R.IRQ_EOI : Nat := 0x10030204
/-- Address of IRQ_PMASK. -/
def R.IRQ_PMASK : Nat := 0x10030208
/-- Address of IRQ_DOORBELL. -/
def R.IRQ_DOORBELL : Nat := 0x1003020C
/-- Address of IRQ_RINGMASK_n. -/
def R.IRQ_RINGMASK (n : Nat) : Nat := 0x10032000 + 0x4 * n
/-- Address of IRQ_ROUTE_n. -/
def R.IRQ_ROUTE (n : Nat) : Nat := 0x10031000 + 0x4 * n
/-- Address of IRQ_CLAIM_POP. -/
def R.IRQ_CLAIM_POP : Nat := 0x10038000
/-- Address of TBS_NOW_LO. -/
def R.TBS_NOW_LO : Nat := 0x10040000
/-- Address of TBS_NOW_HI. -/
def R.TBS_NOW_HI : Nat := 0x10040004
/-- Address of TBS_STATUS. -/
def R.TBS_STATUS : Nat := 0x10040008
/-- Address of TBS_OFFSET. -/
def R.TBS_OFFSET : Nat := 0x1004000C
/-- Address of TBS_RATE. -/
def R.TBS_RATE : Nat := 0x10040010
/-- Address of TBS_CFG. -/
def R.TBS_CFG : Nat := 0x10040014
/-- Address of TBS_ALIGN_ISL. -/
def R.TBS_ALIGN_ISL : Nat := 0x10040018
/-- Address of TBS_ALIGN_BANK. -/
def R.TBS_ALIGN_BANK : Nat := 0x1004001C
/-- Address of TBS_CMPn_LO. -/
def R.TBS_CMP_LO (n : Nat) : Nat := 0x10040100 + 0x10 * n
/-- Address of TBS_CMPn_HI. -/
def R.TBS_CMP_HI (n : Nat) : Nat := 0x10040104 + 0x10 * n
/-- Address of TBS_CMPn_CTL. -/
def R.TBS_CMP_CTL (n : Nat) : Nat := 0x10040108 + 0x10 * n
/-- Address of MBX_ID. -/
def R.MBX_ID (w : Nat) : Nat := 0x10000000 + (winOff w)
/-- Address of MBX_CTL. -/
def R.MBX_CTL (w : Nat) : Nat := 0x10000004 + (winOff w)
/-- Address of MBX_REQ_BASE_LO. -/
def R.MBX_REQ_BASE_LO (w : Nat) : Nat := 0x10000008 + (winOff w)
/-- Address of MBX_REQ_BASE_HI. -/
def R.MBX_REQ_BASE_HI (w : Nat) : Nat := 0x1000000C + (winOff w)
/-- Address of MBX_REQ_PROD. -/
def R.MBX_REQ_PROD (w : Nat) : Nat := 0x10000020 + (winOff w)
/-- Address of MBX_REQ_CONS. -/
def R.MBX_REQ_CONS (w : Nat) : Nat := 0x10000024 + (winOff w)
/-- Address of MBX_RSP_PROD. -/
def R.MBX_RSP_PROD (w : Nat) : Nat := 0x10000028 + (winOff w)
/-- Address of MBX_RSP_CONS. -/
def R.MBX_RSP_CONS (w : Nat) : Nat := 0x1000002C + (winOff w)
/-- Address of MBX_STATUS. -/
def R.MBX_STATUS (w : Nat) : Nat := 0x10000030 + (winOff w)
/-- Address of MBX_ERR. -/
def R.MBX_ERR (w : Nat) : Nat := 0x10000034 + (winOff w)
/-- Address of MBX_LATE_CNT. -/
def R.MBX_LATE_CNT (w : Nat) : Nat := 0x10000038 + (winOff w)
/-- Address of PFB_TS_SEL. -/
def R.PFB_TS_SEL : Nat := 0x10304000
/-- Address of PFB_TS_STAMP_LO. -/
def R.PFB_TS_STAMP_LO (p : Nat) : Nat := 0x10301000 + 0x2000 * p
/-- Address of PFB_TS_STAMP_HI. -/
def R.PFB_TS_STAMP_HI (p : Nat) : Nat := 0x10301004 + 0x2000 * p
/-- Address of PFB_TSn_A. -/
def R.PFB_TS_A (p n : Nat) : Nat := 0x10300000 + 0x2000 * p + 0x8 * n
/-- Address of PFB_TSn_B. -/
def R.PFB_TS_B (p n : Nat) : Nat := 0x10300004 + 0x2000 * p + 0x8 * n
/-- Address of PFB_CELLj_CFG0. -/
def R.PFB_CELL_CFG0 (n : Nat) : Nat := 0x10810100 + 0x1000 * (n / 16) + 0x20 * (n % 16)
/-- Address of PFB_CELLj_CFG1. -/
def R.PFB_CELL_CFG1 (n : Nat) : Nat := 0x10810104 + 0x1000 * (n / 16) + 0x20 * (n % 16)
/-- Address of PFB_CELLj_CFG2. -/
def R.PFB_CELL_CFG2 (n : Nat) : Nat := 0x10810108 + 0x1000 * (n / 16) + 0x20 * (n % 16)
/-- Address of PFB_GANGg_DEF. -/
def R.PFB_GANG_DEF (g : Nat) : Nat := 0x10801000 + 0x40 * g
/-- Address of PFB_GANGg_MEMk. -/
def R.PFB_GANG_MEM (g k : Nat) : Nat := 0x10801004 + 0x40 * g + 0x4 * k
/-- Address of PFB_GANGg_CFG1. -/
def R.PFB_GANG_CFG1 (g : Nat) : Nat := 0x10801018 + 0x40 * g
/-- Address of PFB_GANGg_STAT. -/
def R.PFB_GANG_STAT (g : Nat) : Nat := 0x10801020 + 0x40 * g
/-- Address of PFB_GANGg_ISUM. -/
def R.PFB_GANG_ISUM (g : Nat) : Nat := 0x10801024 + 0x40 * g
/-- Address of PFB_BRGh_CFG0. -/
def R.PFB_BRG_CFG0 (h : Nat) : Nat := 0x10802000 + 0x20 * h
/-- Address of PFB_BRGh_CFG1. -/
def R.PFB_BRG_CFG1 (h : Nat) : Nat := 0x10802004 + 0x20 * h
/-- Address of PFB_BRGh_STAT. -/
def R.PFB_BRG_STAT (h : Nat) : Nat := 0x10802008 + 0x20 * h
/-- Address of PFB_PEXPt. -/
def R.PFB_PEXP (t : Nat) : Nat := 0x10803000 + 0x4 * t
/-- Address of PFB_FEEDf_CFG0. -/
def R.PFB_FEED_CFG0 (f : Nat) : Nat := 0x10804000 + 0x10 * (f - 1)
/-- Address of PFB_FEEDf_CFG1. -/
def R.PFB_FEED_CFG1 (f : Nat) : Nat := 0x10804004 + 0x10 * (f - 1)
/-- Address of PFB_FEEDf_STAT. -/
def R.PFB_FEED_STAT (f : Nat) : Nat := 0x10804008 + 0x10 * (f - 1)
/-- Address of PFB_FEEDf_USED. -/
def R.PFB_FEED_USED (f : Nat) : Nat := 0x1080400C + 0x10 * (f - 1)
/-- Address of PFB_HEAT_CFG. -/
def R.PFB_HEAT_CFG : Nat := 0x10804040
/-- Address of PFB_HEAT_STAT. -/
def R.PFB_HEAT_STAT : Nat := 0x10804044
/-- Address of PFB_GOV_CFG. -/
def R.PFB_GOV_CFG : Nat := 0x10804048
/-- Address of PFB_ALLOTv. -/
def R.PFB_ALLOT (v : Nat) : Nat := 0x10805000 + 0x8 * v
/-- Address of PFB_ALLOTv_USED. -/
def R.PFB_ALLOT_USED (v : Nat) : Nat := 0x10805004 + 0x8 * v
/-- Address of PFB_BUDx. -/
def R.PFB_BUD (x : Nat) : Nat := 0x10806000 + 0x4 * x
/-- Address of CYC_STATE. -/
def R.CYC_STATE : Nat := 0x10900000
/-- Address of CYC_CFG. -/
def R.CYC_CFG : Nat := 0x10900004
/-- Address of CYC_HYPER. -/
def R.CYC_HYPER : Nat := 0x10900008
/-- Address of CYC_TASKk_CFG. -/
def R.CYC_TASK_CFG (k : Nat) : Nat := 0x10900100 + 0x10 * k
/-- Address of CYC_TASKk_CFG. -/
def R.CYC_TASK_ECFG (k : Nat) : Nat := 0x10900100 + 0x10 * k
/-- Address of CYC_TASKk_STAT. -/
def R.CYC_TASK_STAT (k : Nat) : Nat := 0x10900104 + 0x10 * k
/-- Address of CYC_TASKk_CNT. -/
def R.CYC_TASK_CNT (k : Nat) : Nat := 0x10900108 + 0x10 * k
/-- Address of CYC_TASKk_OWN. -/
def R.CYC_TASK_OWN (k : Nat) : Nat := 0x1090010C + 0x10 * k
/-- Address of SWC_RINGr_CTL. -/
def R.SWC_RING_CTL (r : Nat) : Nat := 0x10100000 + 0x1000 * r
/-- Address of SWC_RINGr_TXBASE_LO. -/
def R.SWC_RING_TXBASE_LO (r : Nat) : Nat := 0x10100008 + 0x1000 * r
/-- Address of SWC_RINGr_TX_PROD. -/
def R.SWC_RING_TX_PROD (r : Nat) : Nat := 0x10100020 + 0x1000 * r
/-- Address of SWC_PORTp_CFG0. -/
def R.SWC_PORT_CFG0 (p : Nat) : Nat := 0x10A00000 + 0x40 * p
/-- Address of SWC_PORTp_CFG1. -/
def R.SWC_PORT_CFG1 (p : Nat) : Nat := 0x10A00004 + 0x40 * p
/-- Address of SWC_PORTp_CFG2. -/
def R.SWC_PORT_CFG2 (p : Nat) : Nat := 0x10A00008 + 0x40 * p
/-- Address of SWC_PORTp_STAT. -/
def R.SWC_PORT_STAT (p : Nat) : Nat := 0x10A0000C + 0x40 * p
/-- Address of SWC_Qq_CFG0. -/
def R.SWC_Q_CFG0 (q : Nat) : Nat := 0x10A02000 + 0x40 * q
/-- Address of SWC_Qq_CFG1. -/
def R.SWC_Q_CFG1 (q : Nat) : Nat := 0x10A02004 + 0x40 * q
/-- Address of SWC_SHAREv. -/
def R.SWC_SHARE (v : Nat) : Nat := 0x10A06000 + 0x4 * v
/-- Address of SWC_POOL_STAT. -/
def R.SWC_POOL_STAT : Nat := 0x10A06100
/-- Address of SWC_AUDIT_STAT. -/
def R.SWC_AUDIT_STAT : Nat := 0x10A06104
/-- Address of SWC_FDB_CFG. -/
def R.SWC_FDB_CFG : Nat := 0x10A06108
/-- Address of TSN_GATEp_CTL. -/
def R.TSN_GATE_CTL (p : Nat) : Nat := 0x10B00000 + 0x40 * p
/-- Address of TSN_GATEp_STAT. -/
def R.TSN_GATE_STAT (p : Nat) : Nat := 0x10B00004 + 0x40 * p
/-- Address of TSN_CBSp_c. -/
def R.TSN_CBS (p c : Nat) : Nat := 0x10B01000 + 0x20 * p + 0x4 * c
/-- Address of TSN_PREp_CFG. -/
def R.TSN_PRE_CFG (p : Nat) : Nat := 0x10B02000 + 0x10 * p
/-- Address of TSN_PREp_STAT. -/
def R.TSN_PRE_STAT (p : Nat) : Nat := 0x10B02004 + 0x10 * p
/-- Address of TSN_FA_CFG. -/
def R.TSN_FA_CFG : Nat := 0x10B04000
/-- Address of TSN_FA_ETYPE. -/
def R.TSN_FA_ETYPE : Nat := 0x10B04004
/-- Address of TSN_FA_SNDs_CFG. -/
def R.TSN_FA_SND_CFG (s : Nat) : Nat := 0x10B04100 + 0x10 * s
/-- Address of CAN_CTL. -/
def R.CAN_CTL (c : Nat) : Nat := 0x10200000 + 0x4000 * c
/-- Address of CAN_NBT. -/
def R.CAN_NBT (c : Nat) : Nat := 0x10200004 + 0x4000 * c
/-- Address of CAN_DBT. -/
def R.CAN_DBT (c : Nat) : Nat := 0x10200008 + 0x4000 * c
/-- Address of CAN_STAT. -/
def R.CAN_STAT (c : Nat) : Nat := 0x10200010 + 0x4000 * c
/-- Address of CAN_CNT. -/
def R.CAN_CNT (c : Nat) : Nat := 0x10200014 + 0x4000 * c
/-- Address of CAN_AREA_LO. -/
def R.CAN_AREA_LO (c : Nat) : Nat := 0x10200018 + 0x4000 * c
/-- Address of CAN_OBJk_ID. -/
def R.CAN_OBJ_ID (c k : Nat) : Nat := 0x10202000 + 0x4000 * c + 0x4 * k
/-- Address of CAN_OBJk_CTL. -/
def R.CAN_OBJ_CTL (c k : Nat) : Nat := 0x10202800 + 0x4000 * c + 0x4 * k
/-- Address of CAN_OBJk_STAT. -/
def R.CAN_OBJ_STAT (c k : Nat) : Nat := 0x10203000 + 0x4000 * c + 0x4 * k
/-- Address of CAN_RXEVT_POP. -/
def R.CAN_RXEVT_POP (c : Nat) : Nat := 0x10201000 + 0x4000 * c
/-- Address of CAN_TXEVT_POP. -/
def R.CAN_TXEVT_POP (c : Nat) : Nat := 0x10201004 + 0x4000 * c
/-- Address of LIN_CTL. -/
def R.LIN_CTL (c : Nat) : Nat := 0x10280000 + 0x1000 * c
/-- Address of LIN_STAT. -/
def R.LIN_STAT (c : Nat) : Nat := 0x10280004 + 0x1000 * c
/-- Address of LIN_BUFi_CFG. -/
def R.LIN_BUF_CFG (c i : Nat) : Nat := 0x10280100 + 0x1000 * c + 0x10 * i
/-- Address of LIN_BUFi_ST. -/
def R.LIN_BUF_ST (c i : Nat) : Nat := 0x1028010C + 0x1000 * c + 0x10 * i
/-- Address of GWY_BLOG_CTL. -/
def R.GWY_BLOG_CTL : Nat := 0x10C01000
/-- Address of GWY_BLOGn_INFO. -/
def R.GWY_BLOG_INFO (n : Nat) : Nat := 0x10C01014 + 0x10 * n
/-- Address of WAK_CFG0. -/
def R.WAK_CFG0 : Nat := 0x10D00000
/-- Address of WAK_CFG1. -/
def R.WAK_CFG1 : Nat := 0x10D00004
/-- Address of WAK_ARM. -/
def R.WAK_ARM : Nat := 0x10D00008
/-- Address of WAK_ARM_ETH. -/
def R.WAK_ARM_ETH : Nat := 0x10D0000C
/-- Address of WAK_STAT. -/
def R.WAK_STAT : Nat := 0x10D00010
/-- Address of WAK_CAUSE. -/
def R.WAK_CAUSE : Nat := 0x10D00014
/-- Address of WAK_CAUSE_CAN. -/
def R.WAK_CAUSE_CAN : Nat := 0x10D00018
/-- Address of WAK_CAUSE_NET. -/
def R.WAK_CAUSE_NET : Nat := 0x10D0001C
/-- Address of HDG_CFG. -/
def R.HDG_CFG : Nat := 0x10D80000
/-- Address of HDG_STAT. -/
def R.HDG_STAT : Nat := 0x10D80004
/-- Address of HDG_RETAIN. -/
def R.HDG_RETAIN : Nat := 0x10D80008
/-- Address of HDG_HOPn. -/
def R.HDG_HOP (n : Nat) : Nat := 0x10D80010 + 0x4 * n
/-- Address of HDG_ERR. -/
def R.HDG_ERR : Nat := 0x10D80018
/-- Address of HDG_GRANTg_A. -/
def R.HDG_GRANT_A (g : Nat) : Nat := 0x10D80100 + 0x8 * g
/-- Address of HDG_GRANTg_B. -/
def R.HDG_GRANT_B (g : Nat) : Nat := 0x10D80104 + 0x8 * g
/-- Address of MPC_COREc_PART. -/
def R.MPC_CORE_PART (c : Nat) : Nat := 0x10028000 + 0x4 * c
/-- Address of MPC_COREc_HNOTE. -/
def R.MPC_CORE_HNOTE (c : Nat) : Nat := 0x10028020 + 0x4 * c
/-- Address of MPC_PEVT. -/
def R.MPC_PEVT : Nat := 0x10028040
/-- Address of MPC_PARTv_CFG. -/
def R.MPC_PART_CFG (v : Nat) : Nat := 0x10028100 + 0x10 * v
/-- Address of MPC_PARTv_STAT. -/
def R.MPC_PART_STAT (v : Nat) : Nat := 0x10028104 + 0x10 * v
/-- Address of MPC_PARTv_REG. -/
def R.MPC_PART_REG (v : Nat) : Nat := 0x10028108 + 0x10 * v
/-- Address of MPC_PARTv_RSTAT. -/
def R.MPC_PART_RSTAT (v : Nat) : Nat := 0x1002810C + 0x10 * v
/-- Address of MPC_REG_CFG. -/
def R.MPC_REG_CFG : Nat := 0x10028200
/-- Address of FLT_LSn_CFG. -/
def R.FLT_LS_CFG (n : Nat) : Nat := 0x10016000 + 0x40 * n
/-- Address of FLT_LSn_STAT. -/
def R.FLT_LS_STAT (n : Nat) : Nat := 0x10016004 + 0x40 * n
/-- Address of FLT_LSn_MIS. -/
def R.FLT_LS_MIS (n : Nat) : Nat := 0x10016008 + 0x40 * n
/-- Address of FLT_LSn_CKPT. -/
def R.FLT_LS_CKPT (n : Nat) : Nat := 0x10016018 + 0x40 * n
/-- Address of MPC_m_Rr_START. -/
def R.MPC_R_START (m r : Nat) : Nat := 0x10020000 + 0x1000 * m + 0x10 * r
/-- Address of MPC_m_Rr_ATTR. -/
def R.MPC_R_ATTR (m r : Nat) : Nat := 0x10020008 + 0x1000 * m + 0x10 * r
/-- Address of MPC_m_VIOL. -/
def R.MPC_VIOL (m : Nat) : Nat := 0x10020800 + 0x1000 * m
/-- Address of MPC_GW_CFG. -/
def R.MPC_GW_CFG : Nat := 0x10028300
/-- Address of MPC_GW_STAT. -/
def R.MPC_GW_STAT : Nat := 0x10028304
/-- Address of MPC_GW_CALLERc. -/
def R.MPC_GW_CALLER (c : Nat) : Nat := 0x10028320 + 0x4 * c
/-- Address of MPC_LC_STAT. -/
def R.MPC_LC_STAT : Nat := 0x10028340
/-- Address of MPC_CPCk. -/
def R.MPC_CPC (k : Nat) : Nat := 0x10029000 + 0x4 * k
/-- Address of HWN_STAT. -/
def R.HWN_STAT : Nat := 0x10400000
/-- Address of HWN_CFG. -/
def R.HWN_CFG : Nat := 0x10400004
/-- Address of HWN_TAMPER_STAT. -/
def R.HWN_TAMPER_STAT : Nat := 0x10400008
/-- Address of HWN_TAMPER_POL. -/
def R.HWN_TAMPER_POL : Nat := 0x1040000C
/-- Address of HWN_SLOTs_STAT. -/
def R.HWN_SLOT_STAT (s : Nat) : Nat := 0x10400100 + 0x4 * s
/-- Address of FLT_CFG. -/
def R.FLT_CFG : Nat := 0x10010000
/-- Address of FLT_SYS. -/
def R.FLT_SYS : Nat := 0x10010004
/-- Address of FLT_STAT. -/
def R.FLT_STAT : Nat := 0x10010008
/-- Address of FLT_FEc_INFO. -/
def R.FLT_FE_INFO (c : Nat) : Nat := 0x10010100 + 0x20 * c
/-- Address of FLT_FEc_CODE. -/
def R.FLT_FE_CODE (c : Nat) : Nat := 0x10010104 + 0x20 * c
/-- Address of FLT_NOTE_HEAD. -/
def R.FLT_NOTE_HEAD : Nat := 0x10010400
/-- Address of FLT_NOTE_ACK. -/
def R.FLT_NOTE_ACK : Nat := 0x10010404
/-- Address of FLT_NOTE_CNT. -/
def R.FLT_NOTE_CNT : Nat := 0x10010408
/-- Address of CFG_STAT. -/
def R.CFG_STAT : Nat := 0x10E00000
/-- Address of CFG_GEN_A. -/
def R.CFG_GEN_A : Nat := 0x10E00004
/-- Address of CFG_CMP. -/
def R.CFG_CMP : Nat := 0x10E00010
/-- Address of CFG_MAINT_STAT. -/
def R.CFG_MAINT_STAT : Nat := 0x10E00100
/-- Address of CFG_MAINT_CFG. -/
def R.CFG_MAINT_CFG : Nat := 0x10E00104
/-- Address of BOOT_CTL. -/
def R.BOOT_CTL : Nat := 0x10F00000
/-- Address of BOOT_CFG. -/
def R.BOOT_CFG : Nat := 0x10F00004
/-- Address of BOOT_STAT. -/
def R.BOOT_STAT : Nat := 0x10F00008
/-- Address of BOOT_CNT. -/
def R.BOOT_CNT : Nat := 0x10F00020
/-- Address of UPD_STAT. -/
def R.UPD_STAT : Nat := 0x10E80000
/-- Address of UPD_CHUNKS. -/
def R.UPD_CHUNKS : Nat := 0x10E80004
/-- Address of UPD_FIRST. -/
def R.UPD_FIRST : Nat := 0x10E80008
/-- Address of UPD_FLOOR. -/
def R.UPD_FLOOR : Nat := 0x10E8000C
/-- Address of UPD_KEYS. -/
def R.UPD_KEYS : Nat := 0x10E80010
/-- Address of UPD_CTRL. -/
def R.UPD_CTRL : Nat := 0x10E80014
/-- Address of PFB_THERM. -/
def R.PFB_THERM : Nat := 0x10804050
/-- Address of MBX_RSP_BASE_LO. -/
def R.MBX_RSP_BASE_LO (w : Nat) : Nat := 0x10000010 + (winOff w)
/-- Address of MBX_RSP_BASE_HI. -/
def R.MBX_RSP_BASE_HI (w : Nat) : Nat := 0x10000014 + (winOff w)
/-- Address of PFB_GANGg_CFG0. -/
def R.PFB_GANG_CFG0 (g : Nat) : Nat := 0x10801014 + 0x40 * g
/-- Address of PFB_MTR_E_DEL_LO. -/
def R.PFB_MTR_E_DEL_LO (m : Nat) : Nat := 0x10808000 + 0x10 * m
/-- Address of PFB_MTR_E_DEL_HI. -/
def R.PFB_MTR_E_DEL_HI (m : Nat) : Nat := 0x10808004 + 0x10 * m
/-- Address of PFB_MTR_E_RET_LO. -/
def R.PFB_MTR_E_RET_LO (m : Nat) : Nat := 0x10808008 + 0x10 * m
/-- Address of PFB_MTR_E_RET_HI. -/
def R.PFB_MTR_E_RET_HI (m : Nat) : Nat := 0x1080800C + 0x10 * m
/-- Address of SWC_RING_TXBASE_HI. -/
def R.SWC_RING_TXBASE_HI (r : Nat) : Nat := 0x1010000C + 0x1000 * r
/-- Address of SWC_RING_RXBASE_LO. -/
def R.SWC_RING_RXBASE_LO (r : Nat) : Nat := 0x10100010 + 0x1000 * r
/-- Address of SWC_RING_RXBASE_HI. -/
def R.SWC_RING_RXBASE_HI (r : Nat) : Nat := 0x10100014 + 0x1000 * r
/-- Address of SWC_RING_MACL. -/
def R.SWC_RING_MACL (r k : Nat) : Nat := 0x10100040 + 0x1000 * r + 0x8 * k
/-- Address of SWC_RING_MACH. -/
def R.SWC_RING_MACH (r k : Nat) : Nat := 0x10100044 + 0x1000 * r + 0x8 * k
/-- Address of SWC_RING_TX_DONE. -/
def R.SWC_RING_TX_DONE (r : Nat) : Nat := 0x10100024 + 0x1000 * r
/-- Address of SWC_RING_RX_FILL. -/
def R.SWC_RING_RX_FILL (r : Nat) : Nat := 0x10100028 + 0x1000 * r
/-- Address of SWC_RING_RX_DONE. -/
def R.SWC_RING_RX_DONE (r : Nat) : Nat := 0x1010002C + 0x1000 * r
/-- Address of SWC_Q_RED_TH. -/
def R.SWC_Q_RED_TH (q c : Nat) : Nat := 0x10A02008 + 0x40 * q + 0x8 * c
/-- Address of SWC_Q_RED_P. -/
def R.SWC_Q_RED_P (q c : Nat) : Nat := 0x10A0200C + 0x40 * q + 0x8 * c
/-- Address of SWC_Q_STAT. -/
def R.SWC_Q_STAT (q : Nat) : Nat := 0x10A02020 + 0x40 * q
/-- Address of TSN_FA_SND_SEQ_LO. -/
def R.TSN_FA_SND_SEQ_LO (s : Nat) : Nat := 0x10B04104 + 0x10 * s
/-- Address of TSN_FA_SND_SEQ_HI. -/
def R.TSN_FA_SND_SEQ_HI (s : Nat) : Nat := 0x10B04108 + 0x10 * s
/-- Address of CAN_AREA_HI. -/
def R.CAN_AREA_HI (c : Nat) : Nat := 0x1020001C + 0x4000 * c
/-- Address of LIN_BUF_DATA0. -/
def R.LIN_BUF_DATA0 (c i : Nat) : Nat := 0x10280104 + 0x1000 * c + 0x10 * i
/-- Address of LIN_BUF_DATA1. -/
def R.LIN_BUF_DATA1 (c i : Nat) : Nat := 0x10280108 + 0x1000 * c + 0x10 * i
/-- Address of GWY_BLOG_ADDR. -/
def R.GWY_BLOG_ADDR (n : Nat) : Nat := 0x10C01010 + 0x10 * n
/-- Address of GWY_BLOG_TS_LO. -/
def R.GWY_BLOG_TS_LO (n : Nat) : Nat := 0x10C01018 + 0x10 * n
/-- Address of GWY_BLOG_TS_HI. -/
def R.GWY_BLOG_TS_HI (n : Nat) : Nat := 0x10C0101C + 0x10 * n
/-- Address of WAK_FIRST_LO. -/
def R.WAK_FIRST_LO : Nat := 0x10D00020
/-- Address of WAK_FIRST_HI. -/
def R.WAK_FIRST_HI : Nat := 0x10D00024
/-- Address of WAK_COUNT. -/
def R.WAK_COUNT : Nat := 0x10D00028
/-- Address of FLT_LS_MIS_ADDR. -/
def R.FLT_LS_MIS_ADDR (n : Nat) : Nat := 0x1001600C + 0x40 * n
/-- Address of FLT_LS_MIS_TS_LO. -/
def R.FLT_LS_MIS_TS_LO (n : Nat) : Nat := 0x10016010 + 0x40 * n
/-- Address of FLT_LS_MIS_TS_HI. -/
def R.FLT_LS_MIS_TS_HI (n : Nat) : Nat := 0x10016014 + 0x40 * n
/-- Address of FLT_LS_CKPT_TS_LO. -/
def R.FLT_LS_CKPT_TS_LO (n : Nat) : Nat := 0x10016020 + 0x40 * n
/-- Address of FLT_LS_CKPT_TS_HI. -/
def R.FLT_LS_CKPT_TS_HI (n : Nat) : Nat := 0x10016024 + 0x40 * n
/-- Address of MPC_m_Rr_END. -/
def R.MPC_R_END (m r : Nat) : Nat := 0x10020004 + 0x1000 * m + 0x10 * r
/-- Address of MPC_GW_HUNG_LO. -/
def R.MPC_GW_HUNG_LO : Nat := 0x10028308
/-- Address of MPC_GW_HUNG_HI. -/
def R.MPC_GW_HUNG_HI : Nat := 0x1002830C
/-- Address of FLT_ENTRY_LO. -/
def R.FLT_ENTRY_LO : Nat := 0x10010010
/-- Address of FLT_ENTRY_HI. -/
def R.FLT_ENTRY_HI : Nat := 0x10010014
/-- Address of FLT_FE_ADDR. -/
def R.FLT_FE_ADDR (c : Nat) : Nat := 0x10010108 + 0x20 * c
/-- Address of FLT_FE_TS_LO. -/
def R.FLT_FE_TS_LO (c : Nat) : Nat := 0x1001010C + 0x20 * c
/-- Address of FLT_FE_TS_HI. -/
def R.FLT_FE_TS_HI (c : Nat) : Nat := 0x10010110 + 0x20 * c
/-- Address of FLT_RAIL_LO. -/
def R.FLT_RAIL_LO : Nat := 0x10010200
/-- Address of FLT_RAIL_HI. -/
def R.FLT_RAIL_HI : Nat := 0x10010204
/-- Address of CFG_GEN_B. -/
def R.CFG_GEN_B : Nat := 0x10E00008
/-- Address of CFG_GEN_RUN. -/
def R.CFG_GEN_RUN : Nat := 0x10E0000C
/-- Address of BOOT_START_LO. -/
def R.BOOT_START_LO : Nat := 0x10F00010
/-- Address of BOOT_START_HI. -/
def R.BOOT_START_HI : Nat := 0x10F00014
/-- Address of BOOT_CONFIRM_LO. -/
def R.BOOT_CONFIRM_LO : Nat := 0x10F00018
/-- Address of BOOT_CONFIRM_HI. -/
def R.BOOT_CONFIRM_HI : Nat := 0x10F0001C
/-- Address of UPD_PKG_LO. -/
def R.UPD_PKG_LO : Nat := 0x10E80018
/-- Address of UPD_PKG_HI. -/
def R.UPD_PKG_HI : Nat := 0x10E8001C
/-- Address of HDG_ETYPE. -/
def R.HDG_ETYPE : Nat := 0x10000000000
/-- Address of GWY_ETYPE. -/
def R.GWY_ETYPE : Nat := 0x10000000004
/-- Address of TSN_STR_ID. -/
def R.TSN_STR_ID (n : Nat) : Nat := 0x10000010000 + 0x10 * n
/-- Address of TSN_STR_MACL. -/
def R.TSN_STR_MACL (n : Nat) : Nat := 0x10000010004 + 0x10 * n
/-- Address of TSN_STR_MACH. -/
def R.TSN_STR_MACH (n : Nat) : Nat := 0x10000010008 + 0x10 * n
/-- Address of TSN_FRER_A. -/
def R.TSN_FRER_A (n : Nat) : Nat := 0x10000020000 + 0x10 * n
/-- Address of TSN_FRER_B. -/
def R.TSN_FRER_B (n : Nat) : Nat := 0x10000020004 + 0x10 * n
/-- Address of TSN_GPTP. -/
def R.TSN_GPTP (i : Nat) : Nat := 0x10000030000 + 0x4 * i
/-- Address of TSN_GPTP_OPT. -/
def R.TSN_GPTP_OPT (i : Nat) : Nat := 0x10000030008 + 0x4 * i
/-- Address of TSN_GPTP_PORT. -/
def R.TSN_GPTP_PORT (i p : Nat) : Nat := 0x10000031000 + 0x400 * i + 0x10 * p
/-- Address of TSN_GPTP_DLY. -/
def R.TSN_GPTP_DLY (i p : Nat) : Nat := 0x10000031004 + 0x400 * i + 0x10 * p
/-- Address of TSN_MAXSDU. -/
def R.TSN_MAXSDU (q : Nat) : Nat := 0x10000035000 + 0x4 * q
/-- Address of TSN_GPTP_ASYM. -/
def R.TSN_GPTP_ASYM (i p : Nat) : Nat := 0x10000031008 + 0x400 * i + 0x10 * p
/-- Address of GWY_ROUTE. -/
def R.GWY_ROUTE (r : Nat) : Nat := 0x10000040000 + 0x4 * r

/-! ## Fields -/

def F.IRQ_PEND_PEND (k : Nat) : Fld := ⟨(R.IRQ_PEND k), 0, 32⟩
def F.IRQ_HEAD_VALID : Fld := ⟨R.IRQ_HEAD, 31, 1⟩
def F.IRQ_HEAD_PRIO : Fld := ⟨R.IRQ_HEAD, 16, 4⟩
def F.IRQ_HEAD_SRC : Fld := ⟨R.IRQ_HEAD, 0, 10⟩
def F.IRQ_EOI_SRC : Fld := ⟨R.IRQ_EOI, 0, 10⟩
def F.IRQ_PMASK_PMASK : Fld := ⟨R.IRQ_PMASK, 0, 5⟩
def F.IRQ_DOORBELL_SRC : Fld := ⟨R.IRQ_DOORBELL, 0, 10⟩
def F.IRQ_RINGMASK_SECURE (n : Nat) : Fld := ⟨(R.IRQ_RINGMASK n), 16, 1⟩
def F.IRQ_RINGMASK_VPMASK (n : Nat) : Fld := ⟨(R.IRQ_RINGMASK n), 0, 16⟩
def F.IRQ_ROUTE_TRIG (n : Nat) : Fld := ⟨(R.IRQ_ROUTE n), 16, 1⟩
def F.IRQ_ROUTE_PRIO (n : Nat) : Fld := ⟨(R.IRQ_ROUTE n), 8, 4⟩
def F.IRQ_ROUTE_TARGET (n : Nat) : Fld := ⟨(R.IRQ_ROUTE n), 0, 6⟩
def F.TBS_NOW_LO_NOW_LO : Fld := ⟨R.TBS_NOW_LO, 0, 32⟩
def F.TBS_NOW_HI_NOW_HI : Fld := ⟨R.TBS_NOW_HI, 0, 32⟩
def F.TBS_STATUS_STEP_CNT : Fld := ⟨R.TBS_STATUS, 16, 16⟩
def F.TBS_STATUS_ALIGN_ALL : Fld := ⟨R.TBS_STATUS, 4, 1⟩
def F.TBS_STATUS_BACKSTEP : Fld := ⟨R.TBS_STATUS, 3, 1⟩
def F.TBS_STATUS_SLEWING : Fld := ⟨R.TBS_STATUS, 2, 1⟩
def F.TBS_STATUS_SYNC : Fld := ⟨R.TBS_STATUS, 0, 2⟩
def F.TBS_OFFSET_OFFSET : Fld := ⟨R.TBS_OFFSET, 0, 32⟩
def F.TBS_RATE_RATE : Fld := ⟨R.TBS_RATE, 0, 32⟩
def F.TBS_CFG_SLEW_MAX : Fld := ⟨R.TBS_CFG, 16, 7⟩
def F.TBS_CFG_STEP_THRESH : Fld := ⟨R.TBS_CFG, 2, 14⟩
def F.TBS_CFG_SOURCE : Fld := ⟨R.TBS_CFG, 0, 2⟩
def F.TBS_ALIGN_ISL_ALIGNED : Fld := ⟨R.TBS_ALIGN_ISL, 0, 10⟩
def F.TBS_ALIGN_BANK_ALIGNED : Fld := ⟨R.TBS_ALIGN_BANK, 0, 32⟩
def F.TBS_CMP_LO_CMP_LO (n : Nat) : Fld := ⟨(R.TBS_CMP_LO n), 0, 32⟩
def F.TBS_CMP_HI_CMP_HI (n : Nat) : Fld := ⟨(R.TBS_CMP_HI n), 0, 32⟩
def F.TBS_CMP_CTL_LATE (n : Nat) : Fld := ⟨(R.TBS_CMP_CTL n), 2, 1⟩
def F.TBS_CMP_CTL_FIRED (n : Nat) : Fld := ⟨(R.TBS_CMP_CTL n), 1, 1⟩
def F.TBS_CMP_CTL_ARM (n : Nat) : Fld := ⟨(R.TBS_CMP_CTL n), 0, 1⟩
def F.MBX_ID_MAXFLIGHT (w : Nat) : Fld := ⟨(R.MBX_ID w), 16, 16⟩
def F.MBX_ID_SECURE (w : Nat) : Fld := ⟨(R.MBX_ID w), 8, 1⟩
def F.MBX_ID_WINDOW (w : Nat) : Fld := ⟨(R.MBX_ID w), 0, 5⟩
def F.MBX_CTL_IRQ_EN (w : Nat) : Fld := ⟨(R.MBX_CTL w), 1, 1⟩
def F.MBX_CTL_ENABLE (w : Nat) : Fld := ⟨(R.MBX_CTL w), 0, 1⟩
def F.MBX_REQ_BASE_LO_ADDR (w : Nat) : Fld := ⟨(R.MBX_REQ_BASE_LO w), 12, 20⟩
def F.MBX_REQ_BASE_HI_ADDR_HI (w : Nat) : Fld := ⟨(R.MBX_REQ_BASE_HI w), 0, 8⟩
def F.MBX_REQ_PROD_PROD (w : Nat) : Fld := ⟨(R.MBX_REQ_PROD w), 0, 16⟩
def F.MBX_REQ_CONS_CONS (w : Nat) : Fld := ⟨(R.MBX_REQ_CONS w), 0, 16⟩
def F.MBX_RSP_PROD_PROD (w : Nat) : Fld := ⟨(R.MBX_RSP_PROD w), 0, 16⟩
def F.MBX_RSP_CONS_CONS (w : Nat) : Fld := ⟨(R.MBX_RSP_CONS w), 0, 16⟩
def F.MBX_STATUS_EPOCH (w : Nat) : Fld := ⟨(R.MBX_STATUS w), 16, 8⟩
def F.MBX_STATUS_SERVING (w : Nat) : Fld := ⟨(R.MBX_STATUS w), 8, 1⟩
def F.MBX_STATUS_INFLIGHT (w : Nat) : Fld := ⟨(R.MBX_STATUS w), 0, 7⟩
def F.MBX_ERR_LATE_RSP (w : Nat) : Fld := ⟨(R.MBX_ERR w), 3, 1⟩
def F.MBX_ERR_RING_ACCESS (w : Nat) : Fld := ⟨(R.MBX_ERR w), 2, 1⟩
def F.MBX_ERR_CONS_JUMP (w : Nat) : Fld := ⟨(R.MBX_ERR w), 1, 1⟩
def F.MBX_ERR_PROD_JUMP (w : Nat) : Fld := ⟨(R.MBX_ERR w), 0, 1⟩
def F.MBX_LATE_CNT_LATE (w : Nat) : Fld := ⟨(R.MBX_LATE_CNT w), 0, 16⟩
def F.PFB_TS_SEL_SEQ : Fld := ⟨R.PFB_TS_SEL, 16, 16⟩
def F.PFB_TS_SEL_PAGE : Fld := ⟨R.PFB_TS_SEL, 0, 1⟩
def F.PFB_TS_STAMP_LO_STAMP_LO (p : Nat) : Fld := ⟨(R.PFB_TS_STAMP_LO p), 0, 32⟩
def F.PFB_TS_STAMP_HI_STAMP_HI (p : Nat) : Fld := ⟨(R.PFB_TS_STAMP_HI p), 0, 32⟩
def F.PFB_TS_A_STATE (p n : Nat) : Fld := ⟨(R.PFB_TS_A p n), 26, 3⟩
def F.PFB_TS_A_SIGN (p n : Nat) : Fld := ⟨(R.PFB_TS_A p n), 25, 1⟩
def F.PFB_TS_A_EVT (p n : Nat) : Fld := ⟨(R.PFB_TS_A p n), 16, 8⟩
def F.PFB_TS_A_CAUSE (p n : Nat) : Fld := ⟨(R.PFB_TS_A p n), 12, 4⟩
def F.PFB_TS_A_SENSE (p n : Nat) : Fld := ⟨(R.PFB_TS_A p n), 0, 12⟩
def F.PFB_TS_B_RETRY (p n : Nat) : Fld := ⟨(R.PFB_TS_B p n), 28, 4⟩
def F.PFB_TS_B_CMD (p n : Nat) : Fld := ⟨(R.PFB_TS_B p n), 26, 2⟩
def F.PFB_TS_B_LEVEL (p n : Nat) : Fld := ⟨(R.PFB_TS_B p n), 25, 1⟩
def F.PFB_TS_B_HOLDING (p n : Nat) : Fld := ⟨(R.PFB_TS_B p n), 24, 1⟩
def F.PFB_TS_B_CLAMP_WARN (p n : Nat) : Fld := ⟨(R.PFB_TS_B p n), 23, 1⟩
def F.PFB_TS_B_LATE_EDGE (p n : Nat) : Fld := ⟨(R.PFB_TS_B p n), 22, 1⟩
def F.PFB_TS_B_UNALIGNED (p n : Nat) : Fld := ⟨(R.PFB_TS_B p n), 21, 1⟩
def F.PFB_TS_B_INPUT_SETTLING (p n : Nat) : Fld := ⟨(R.PFB_TS_B p n), 20, 1⟩
def F.PFB_TS_B_TJ (p n : Nat) : Fld := ⟨(R.PFB_TS_B p n), 12, 8⟩
def F.PFB_TS_B_VOLT (p n : Nat) : Fld := ⟨(R.PFB_TS_B p n), 0, 12⟩
def F.PFB_CELL_CFG0_DT (n : Nat) : Fld := ⟨(R.PFB_CELL_CFG0 n), 28, 4⟩
def F.PFB_CELL_CFG0_OC_BLANK (n : Nat) : Fld := ⟨(R.PFB_CELL_CFG0 n), 24, 4⟩
def F.PFB_CELL_CFG0_RETRY_DLY (n : Nat) : Fld := ⟨(R.PFB_CELL_CFG0 n), 20, 4⟩
def F.PFB_CELL_CFG0_RETRIES (n : Nat) : Fld := ⟨(R.PFB_CELL_CFG0 n), 16, 4⟩
def F.PFB_CELL_CFG0_TURNOFF (n : Nat) : Fld := ⟨(R.PFB_CELL_CFG0 n), 10, 1⟩
def F.PFB_CELL_CFG0_SLEW (n : Nat) : Fld := ⟨(R.PFB_CELL_CFG0 n), 8, 2⟩
def F.PFB_CELL_CFG0_ILIM (n : Nat) : Fld := ⟨(R.PFB_CELL_CFG0 n), 0, 5⟩
def F.PFB_CELL_CFG1_IN_FILT (n : Nat) : Fld := ⟨(R.PFB_CELL_CFG1 n), 24, 4⟩
def F.PFB_CELL_CFG1_WET_DIR (n : Nat) : Fld := ⟨(R.PFB_CELL_CFG1 n), 23, 1⟩
def F.PFB_CELL_CFG1_WET (n : Nat) : Fld := ⟨(R.PFB_CELL_CFG1 n), 20, 3⟩
def F.PFB_CELL_CFG1_OL_MODE (n : Nat) : Fld := ⟨(R.PFB_CELL_CFG1 n), 18, 2⟩
def F.PFB_CELL_CFG1_DRIVER (n : Nat) : Fld := ⟨(R.PFB_CELL_CFG1 n), 16, 2⟩
def F.PFB_CELL_CFG1_HOLD_MS (n : Nat) : Fld := ⟨(R.PFB_CELL_CFG1 n), 4, 11⟩
def F.PFB_CELL_CFG1_SAFE_ST (n : Nat) : Fld := ⟨(R.PFB_CELL_CFG1 n), 2, 2⟩
def F.PFB_CELL_CFG1_DISP (n : Nat) : Fld := ⟨(R.PFB_CELL_CFG1 n), 0, 2⟩
def F.PFB_CELL_CFG2_FW_MAX (n : Nat) : Fld := ⟨(R.PFB_CELL_CFG2 n), 16, 8⟩
def F.PFB_CELL_CFG2_THR_HI (n : Nat) : Fld := ⟨(R.PFB_CELL_CFG2 n), 8, 8⟩
def F.PFB_CELL_CFG2_THR_LO (n : Nat) : Fld := ⟨(R.PFB_CELL_CFG2 n), 0, 8⟩
def F.PFB_GANG_DEF_VALID (g : Nat) : Fld := ⟨(R.PFB_GANG_DEF g), 31, 1⟩
def F.PFB_GANG_DEF_COUNT (g : Nat) : Fld := ⟨(R.PFB_GANG_DEF g), 16, 7⟩
def F.PFB_GANG_DEF_FEED (g : Nat) : Fld := ⟨(R.PFB_GANG_DEF g), 0, 2⟩
def F.PFB_GANG_MEM_MEM (g k : Nat) : Fld := ⟨(R.PFB_GANG_MEM g k), 0, 32⟩
def F.PFB_GANG_CFG1_FAST_EN (g : Nat) : Fld := ⟨(R.PFB_GANG_CFG1 g), 31, 1⟩
def F.PFB_GANG_CFG1_DRIVER (g : Nat) : Fld := ⟨(R.PFB_GANG_CFG1 g), 29, 2⟩
def F.PFB_GANG_CFG1_FW_MAX (g : Nat) : Fld := ⟨(R.PFB_GANG_CFG1 g), 16, 8⟩
def F.PFB_GANG_CFG1_HOLD_MS (g : Nat) : Fld := ⟨(R.PFB_GANG_CFG1 g), 4, 11⟩
def F.PFB_GANG_CFG1_SAFE_ST (g : Nat) : Fld := ⟨(R.PFB_GANG_CFG1 g), 2, 2⟩
def F.PFB_GANG_CFG1_DISP (g : Nat) : Fld := ⟨(R.PFB_GANG_CFG1 g), 0, 2⟩
def F.PFB_GANG_STAT_STATE (g : Nat) : Fld := ⟨(R.PFB_GANG_STAT g), 29, 3⟩
def F.PFB_GANG_STAT_CMD (g : Nat) : Fld := ⟨(R.PFB_GANG_STAT g), 27, 2⟩
def F.PFB_GANG_STAT_HOLDING (g : Nat) : Fld := ⟨(R.PFB_GANG_STAT g), 26, 1⟩
def F.PFB_GANG_STAT_SHARE_WARN (g : Nat) : Fld := ⟨(R.PFB_GANG_STAT g), 25, 1⟩
def F.PFB_GANG_STAT_LATE_EDGE (g : Nat) : Fld := ⟨(R.PFB_GANG_STAT g), 24, 1⟩
def F.PFB_GANG_STAT_BLOCKED (g : Nat) : Fld := ⟨(R.PFB_GANG_STAT g), 23, 1⟩
def F.PFB_GANG_STAT_CLAMP_WARN (g : Nat) : Fld := ⟨(R.PFB_GANG_STAT g), 22, 1⟩
def F.PFB_GANG_STAT_CAUSE (g : Nat) : Fld := ⟨(R.PFB_GANG_STAT g), 18, 4⟩
def F.PFB_GANG_STAT_RETRY (g : Nat) : Fld := ⟨(R.PFB_GANG_STAT g), 14, 4⟩
def F.PFB_GANG_STAT_QUEUED (g : Nat) : Fld := ⟨(R.PFB_GANG_STAT g), 10, 4⟩
def F.PFB_GANG_STAT_EVT (g : Nat) : Fld := ⟨(R.PFB_GANG_STAT g), 0, 8⟩
def F.PFB_GANG_ISUM_TRIP_TERM (g : Nat) : Fld := ⟨(R.PFB_GANG_ISUM g), 23, 9⟩
def F.PFB_GANG_ISUM_SIGN (g : Nat) : Fld := ⟨(R.PFB_GANG_ISUM g), 15, 1⟩
def F.PFB_GANG_ISUM_ISUM (g : Nat) : Fld := ⟨(R.PFB_GANG_ISUM g), 0, 15⟩
def F.PFB_BRG_CFG0_VALID (h : Nat) : Fld := ⟨(R.PFB_BRG_CFG0 h), 31, 1⟩
def F.PFB_BRG_CFG0_GANG_B (h : Nat) : Fld := ⟨(R.PFB_BRG_CFG0 h), 22, 6⟩
def F.PFB_BRG_CFG0_GANG_A (h : Nat) : Fld := ⟨(R.PFB_BRG_CFG0 h), 16, 6⟩
def F.PFB_BRG_CFG0_DT (h : Nat) : Fld := ⟨(R.PFB_BRG_CFG0 h), 12, 4⟩
def F.PFB_BRG_CFG0_DWELL_ST (h : Nat) : Fld := ⟨(R.PFB_BRG_CFG0 h), 10, 2⟩
def F.PFB_BRG_CFG0_REV_DWELL (h : Nat) : Fld := ⟨(R.PFB_BRG_CFG0 h), 0, 10⟩
def F.PFB_BRG_CFG1_DRIVER (h : Nat) : Fld := ⟨(R.PFB_BRG_CFG1 h), 20, 2⟩
def F.PFB_BRG_CFG1_SAFE_ST (h : Nat) : Fld := ⟨(R.PFB_BRG_CFG1 h), 16, 3⟩
def F.PFB_BRG_CFG1_HOLD_MS (h : Nat) : Fld := ⟨(R.PFB_BRG_CFG1 h), 4, 11⟩
def F.PFB_BRG_CFG1_DISP (h : Nat) : Fld := ⟨(R.PFB_BRG_CFG1 h), 0, 2⟩
def F.PFB_BRG_STAT_STATE (h : Nat) : Fld := ⟨(R.PFB_BRG_STAT h), 29, 3⟩
def F.PFB_BRG_STAT_CMD (h : Nat) : Fld := ⟨(R.PFB_BRG_STAT h), 26, 3⟩
def F.PFB_BRG_STAT_HOLDING (h : Nat) : Fld := ⟨(R.PFB_BRG_STAT h), 25, 1⟩
def F.PFB_BRG_STAT_DWELLING (h : Nat) : Fld := ⟨(R.PFB_BRG_STAT h), 24, 1⟩
def F.PFB_BRG_STAT_LATE_EDGE (h : Nat) : Fld := ⟨(R.PFB_BRG_STAT h), 23, 1⟩
def F.PFB_BRG_STAT_BLOCKED (h : Nat) : Fld := ⟨(R.PFB_BRG_STAT h), 22, 1⟩
def F.PFB_BRG_STAT_CAUSE (h : Nat) : Fld := ⟨(R.PFB_BRG_STAT h), 18, 4⟩
def F.PFB_BRG_STAT_RETRY (h : Nat) : Fld := ⟨(R.PFB_BRG_STAT h), 14, 4⟩
def F.PFB_BRG_STAT_QUEUED (h : Nat) : Fld := ⟨(R.PFB_BRG_STAT h), 10, 4⟩
def F.PFB_BRG_STAT_EVT (h : Nat) : Fld := ⟨(R.PFB_BRG_STAT h), 0, 8⟩
def F.PFB_PEXP_TYPE (t : Nat) : Fld := ⟨(R.PFB_PEXP t), 29, 3⟩
def F.PFB_PEXP_POLICY (t : Nat) : Fld := ⟨(R.PFB_PEXP t), 28, 1⟩
def F.PFB_PEXP_RANGE (t : Nat) : Fld := ⟨(R.PFB_PEXP t), 27, 1⟩
def F.PFB_PEXP_RMAX (t : Nat) : Fld := ⟨(R.PFB_PEXP t), 12, 12⟩
def F.PFB_PEXP_RMIN (t : Nat) : Fld := ⟨(R.PFB_PEXP t), 0, 12⟩
def F.PFB_FEED_CFG0_UV_ON (f : Nat) : Fld := ⟨(R.PFB_FEED_CFG0 f), 21, 10⟩
def F.PFB_FEED_CFG0_UV_OFF (f : Nat) : Fld := ⟨(R.PFB_FEED_CFG0 f), 9, 9⟩
def F.PFB_FEED_CFG0_FEED_LIMIT (f : Nat) : Fld := ⟨(R.PFB_FEED_CFG0 f), 0, 7⟩
def F.PFB_FEED_CFG1_OVL_DLY (f : Nat) : Fld := ⟨(R.PFB_FEED_CFG1 f), 16, 14⟩
def F.PFB_FEED_CFG1_RESTORE_DLY (f : Nat) : Fld := ⟨(R.PFB_FEED_CFG1 f), 8, 8⟩
def F.PFB_FEED_CFG1_STAGGER (f : Nat) : Fld := ⟨(R.PFB_FEED_CFG1 f), 0, 8⟩
def F.PFB_FEED_STAT_UV (f : Nat) : Fld := ⟨(R.PFB_FEED_STAT f), 31, 1⟩
def F.PFB_FEED_STAT_OV (f : Nat) : Fld := ⟨(R.PFB_FEED_STAT f), 30, 1⟩
def F.PFB_FEED_STAT_OVL (f : Nat) : Fld := ⟨(R.PFB_FEED_STAT f), 29, 1⟩
def F.PFB_FEED_STAT_PEAK (f : Nat) : Fld := ⟨(R.PFB_FEED_STAT f), 28, 1⟩
def F.PFB_FEED_STAT_I_FEED (f : Nat) : Fld := ⟨(R.PFB_FEED_STAT f), 12, 15⟩
def F.PFB_FEED_STAT_V_FEED (f : Nat) : Fld := ⟨(R.PFB_FEED_STAT f), 0, 12⟩
def F.PFB_FEED_USED_USED (f : Nat) : Fld := ⟨(R.PFB_FEED_USED f), 16, 16⟩
def F.PFB_FEED_USED_DEFERRED (f : Nat) : Fld := ⟨(R.PFB_FEED_USED f), 0, 8⟩
def F.PFB_HEAT_CFG_COLD_PLATE : Fld := ⟨R.PFB_HEAT_CFG, 16, 1⟩
def F.PFB_HEAT_CFG_HEAT_MAX : Fld := ⟨R.PFB_HEAT_CFG, 0, 10⟩
def F.PFB_HEAT_STAT_P_ELEC : Fld := ⟨R.PFB_HEAT_STAT, 22, 10⟩
def F.PFB_HEAT_STAT_P_DIST : Fld := ⟨R.PFB_HEAT_STAT, 12, 10⟩
def F.PFB_HEAT_STAT_HOT : Fld := ⟨R.PFB_HEAT_STAT, 11, 1⟩
def F.PFB_HEAT_STAT_HEAT_LIM : Fld := ⟨R.PFB_HEAT_STAT, 0, 10⟩
def F.PFB_GOV_CFG_DEFER_MAX : Fld := ⟨R.PFB_GOV_CFG, 16, 8⟩
def F.PFB_GOV_CFG_ELOG_INT : Fld := ⟨R.PFB_GOV_CFG, 0, 12⟩
def F.PFB_ALLOT_ALLOT (v : Nat) : Fld := ⟨(R.PFB_ALLOT v), 0, 20⟩
def F.PFB_ALLOT_USED_DENIED (v : Nat) : Fld := ⟨(R.PFB_ALLOT_USED v), 24, 8⟩
def F.PFB_ALLOT_USED_OVER_ALLOT (v : Nat) : Fld := ⟨(R.PFB_ALLOT_USED v), 23, 1⟩
def F.PFB_ALLOT_USED_USED (v : Nat) : Fld := ⟨(R.PFB_ALLOT_USED v), 0, 20⟩
def F.PFB_BUD_CLASS (x : Nat) : Fld := ⟨(R.PFB_BUD x), 30, 2⟩
def F.PFB_BUD_SHED (x : Nat) : Fld := ⟨(R.PFB_BUD x), 29, 1⟩
def F.PFB_BUD_CHARGED (x : Nat) : Fld := ⟨(R.PFB_BUD x), 28, 1⟩
def F.PFB_BUD_STANDING (x : Nat) : Fld := ⟨(R.PFB_BUD x), 27, 1⟩
def F.PFB_BUD_DEFERRED (x : Nat) : Fld := ⟨(R.PFB_BUD x), 26, 1⟩
def F.PFB_BUD_I_DECL (x : Nat) : Fld := ⟨(R.PFB_BUD x), 0, 20⟩
def F.CYC_STATE_OC_RESULT : Fld := ⟨R.CYC_STATE, 26, 3⟩
def F.CYC_STATE_FORCES : Fld := ⟨R.CYC_STATE, 17, 9⟩
def F.CYC_STATE_SWAP_PEND : Fld := ⟨R.CYC_STATE, 16, 1⟩
def F.CYC_STATE_OC_STAGED : Fld := ⟨R.CYC_STATE, 8, 7⟩
def F.CYC_STATE_LOADED : Fld := ⟨R.CYC_STATE, 5, 1⟩
def F.CYC_STATE_RET_LOST : Fld := ⟨R.CYC_STATE, 4, 1⟩
def F.CYC_STATE_BANK : Fld := ⟨R.CYC_STATE, 3, 1⟩
def F.CYC_STATE_START_PEND : Fld := ⟨R.CYC_STATE, 2, 1⟩
def F.CYC_STATE_STATE : Fld := ⟨R.CYC_STATE, 0, 2⟩
def F.CYC_CFG_PROG_OWNER : Fld := ⟨R.CYC_CFG, 16, 6⟩
def F.CYC_CFG_AUTOSTART : Fld := ⟨R.CYC_CFG, 1, 1⟩
def F.CYC_HYPER_HYPER : Fld := ⟨R.CYC_HYPER, 0, 24⟩
def F.CYC_TASK_CFG_PERIOD (k : Nat) : Fld := ⟨(R.CYC_TASK_CFG k), 20, 12⟩
def F.CYC_TASK_CFG_PHASE (k : Nat) : Fld := ⟨(R.CYC_TASK_CFG k), 8, 12⟩
def F.CYC_TASK_CFG_OVR_LIMIT (k : Nat) : Fld := ⟨(R.CYC_TASK_CFG k), 4, 4⟩
def F.CYC_TASK_CFG_PRIO (k : Nat) : Fld := ⟨(R.CYC_TASK_CFG k), 1, 3⟩
def F.CYC_TASK_CFG_LANE (k : Nat) : Fld := ⟨(R.CYC_TASK_CFG k), 0, 1⟩
def F.CYC_TASK_ECFG_DL (k : Nat) : Fld := ⟨(R.CYC_TASK_ECFG k), 20, 12⟩
def F.CYC_TASK_ECFG_KIND (k : Nat) : Fld := ⟨(R.CYC_TASK_ECFG k), 17, 3⟩
def F.CYC_TASK_ECFG_SRC (k : Nat) : Fld := ⟨(R.CYC_TASK_ECFG k), 7, 10⟩
def F.CYC_TASK_ECFG_OVR_LIMIT (k : Nat) : Fld := ⟨(R.CYC_TASK_ECFG k), 4, 3⟩
def F.CYC_TASK_ECFG_PRIO (k : Nat) : Fld := ⟨(R.CYC_TASK_ECFG k), 1, 3⟩
def F.CYC_TASK_ECFG_LANE (k : Nat) : Fld := ⟨(R.CYC_TASK_ECFG k), 0, 1⟩
def F.CYC_TASK_STAT_TSTATE (k : Nat) : Fld := ⟨(R.CYC_TASK_STAT k), 29, 3⟩
def F.CYC_TASK_STAT_CAUSE (k : Nat) : Fld := ⟨(R.CYC_TASK_STAT k), 25, 4⟩
def F.CYC_TASK_STAT_PENDING (k : Nat) : Fld := ⟨(R.CYC_TASK_STAT k), 24, 1⟩
def F.CYC_TASK_STAT_OVR_RUN (k : Nat) : Fld := ⟨(R.CYC_TASK_STAT k), 16, 8⟩
def F.CYC_TASK_STAT_EXEC_MAX (k : Nat) : Fld := ⟨(R.CYC_TASK_STAT k), 0, 16⟩
def F.CYC_TASK_CNT_MISSED (k : Nat) : Fld := ⟨(R.CYC_TASK_CNT k), 16, 16⟩
def F.CYC_TASK_CNT_OVERRUNS (k : Nat) : Fld := ⟨(R.CYC_TASK_CNT k), 0, 16⟩
def F.CYC_TASK_OWN_DISCARDS (k : Nat) : Fld := ⟨(R.CYC_TASK_OWN k), 16, 16⟩
def F.CYC_TASK_OWN_OWNER (k : Nat) : Fld := ⟨(R.CYC_TASK_OWN k), 0, 6⟩
def F.SWC_RING_CTL_HOLDER (r : Nat) : Fld := ⟨(R.SWC_RING_CTL r), 24, 6⟩
def F.SWC_RING_CTL_PORT (r : Nat) : Fld := ⟨(R.SWC_RING_CTL r), 23, 1⟩
def F.SWC_RING_CTL_SIZE (r : Nat) : Fld := ⟨(R.SWC_RING_CTL r), 4, 3⟩
def F.SWC_RING_CTL_RX_IRQ_EN (r : Nat) : Fld := ⟨(R.SWC_RING_CTL r), 2, 1⟩
def F.SWC_RING_CTL_TX_IRQ_EN (r : Nat) : Fld := ⟨(R.SWC_RING_CTL r), 1, 1⟩
def F.SWC_RING_CTL_ENABLE (r : Nat) : Fld := ⟨(R.SWC_RING_CTL r), 0, 1⟩
def F.SWC_RING_TXBASE_LO_ADDR (r : Nat) : Fld := ⟨(R.SWC_RING_TXBASE_LO r), 6, 26⟩
def F.SWC_RING_TX_PROD_PROD (r : Nat) : Fld := ⟨(R.SWC_RING_TX_PROD r), 0, 16⟩
def F.SWC_PORT_CFG0_ENABLE (p : Nat) : Fld := ⟨(R.SWC_PORT_CFG0 p), 31, 1⟩
def F.SWC_PORT_CFG0_MODE (p : Nat) : Fld := ⟨(R.SWC_PORT_CFG0 p), 28, 3⟩
def F.SWC_PORT_CFG0_ROLE (p : Nat) : Fld := ⟨(R.SWC_PORT_CFG0 p), 27, 1⟩
def F.SWC_PORT_CFG0_LEARN (p : Nat) : Fld := ⟨(R.SWC_PORT_CFG0 p), 26, 1⟩
def F.SWC_PORT_CFG0_ACCEPT (p : Nat) : Fld := ⟨(R.SWC_PORT_CFG0 p), 24, 2⟩
def F.SWC_PORT_CFG0_FLAP_HOLD (p : Nat) : Fld := ⟨(R.SWC_PORT_CFG0 p), 16, 6⟩
def F.SWC_PORT_CFG0_MAX_FRAME (p : Nat) : Fld := ⟨(R.SWC_PORT_CFG0 p), 0, 14⟩
def F.SWC_PORT_CFG1_PVID (p : Nat) : Fld := ⟨(R.SWC_PORT_CFG1 p), 20, 12⟩
def F.SWC_PORT_CFG1_PLCA_EN (p : Nat) : Fld := ⟨(R.SWC_PORT_CFG1 p), 19, 1⟩
def F.SWC_PORT_CFG1_NODE_ID (p : Nat) : Fld := ⟨(R.SWC_PORT_CFG1 p), 16, 3⟩
def F.SWC_PORT_CFG1_NODE_CNT (p : Nat) : Fld := ⟨(R.SWC_PORT_CFG1 p), 12, 4⟩
def F.SWC_PORT_CFG1_BURST_CNT (p : Nat) : Fld := ⟨(R.SWC_PORT_CFG1 p), 8, 4⟩
def F.SWC_PORT_CFG1_TO_TIMER (p : Nat) : Fld := ⟨(R.SWC_PORT_CFG1 p), 0, 8⟩
def F.SWC_PORT_CFG2_DEI_REMARK (p : Nat) : Fld := ⟨(R.SWC_PORT_CFG2 p), 25, 1⟩
def F.SWC_PORT_CFG2_COLOUR_AWARE (p : Nat) : Fld := ⟨(R.SWC_PORT_CFG2 p), 24, 1⟩
def F.SWC_PORT_CFG2_PCP_MAP (p : Nat) : Fld := ⟨(R.SWC_PORT_CFG2 p), 0, 24⟩
def F.SWC_PORT_STAT_LINK (p : Nat) : Fld := ⟨(R.SWC_PORT_STAT p), 31, 1⟩
def F.SWC_PORT_STAT_SPEED (p : Nat) : Fld := ⟨(R.SWC_PORT_STAT p), 28, 3⟩
def F.SWC_PORT_STAT_HOLDING (p : Nat) : Fld := ⟨(R.SWC_PORT_STAT p), 27, 1⟩
def F.SWC_PORT_STAT_FLUSHED (p : Nat) : Fld := ⟨(R.SWC_PORT_STAT p), 26, 1⟩
def F.SWC_PORT_STAT_DOWNS (p : Nat) : Fld := ⟨(R.SWC_PORT_STAT p), 0, 16⟩
def F.SWC_Q_CFG0_Q_MAX (q : Nat) : Fld := ⟨(R.SWC_Q_CFG0 q), 16, 16⟩
def F.SWC_Q_CFG0_Q_MIN (q : Nat) : Fld := ⟨(R.SWC_Q_CFG0 q), 0, 11⟩
def F.SWC_Q_CFG1_W (q : Nat) : Fld := ⟨(R.SWC_Q_CFG1 q), 4, 4⟩
def F.SWC_Q_CFG1_CT_OVR (q : Nat) : Fld := ⟨(R.SWC_Q_CFG1 q), 2, 1⟩
def F.SWC_Q_CFG1_CT_EN (q : Nat) : Fld := ⟨(R.SWC_Q_CFG1 q), 1, 1⟩
def F.SWC_SHARE_USED (v : Nat) : Fld := ⟨(R.SWC_SHARE v), 16, 16⟩
def F.SWC_SHARE_SHARE (v : Nat) : Fld := ⟨(R.SWC_SHARE v), 0, 16⟩
def F.SWC_POOL_STAT_FREE : Fld := ⟨R.SWC_POOL_STAT, 0, 17⟩
def F.SWC_AUDIT_STAT_RECLAIMED : Fld := ⟨R.SWC_AUDIT_STAT, 16, 16⟩
def F.SWC_AUDIT_STAT_MISSES : Fld := ⟨R.SWC_AUDIT_STAT, 8, 8⟩
def F.SWC_AUDIT_STAT_SWEEP : Fld := ⟨R.SWC_AUDIT_STAT, 1, 1⟩
def F.SWC_AUDIT_STAT_LAST_MISS : Fld := ⟨R.SWC_AUDIT_STAT, 0, 1⟩
def F.SWC_FDB_CFG_AGE_TIME : Fld := ⟨R.SWC_FDB_CFG, 0, 12⟩
def F.TSN_GATE_CTL_GATE_EN (p : Nat) : Fld := ⟨(R.TSN_GATE_CTL p), 31, 1⟩
def F.TSN_GATE_CTL_FALLBACK (p : Nat) : Fld := ⟨(R.TSN_GATE_CTL p), 8, 8⟩
def F.TSN_GATE_CTL_SUSPENDED (p : Nat) : Fld := ⟨(R.TSN_GATE_CTL p), 2, 1⟩
def F.TSN_GATE_CTL_PENDING (p : Nat) : Fld := ⟨(R.TSN_GATE_CTL p), 1, 1⟩
def F.TSN_GATE_STAT_GATES (p : Nat) : Fld := ⟨(R.TSN_GATE_STAT p), 24, 8⟩
def F.TSN_GATE_STAT_HOLD (p : Nat) : Fld := ⟨(R.TSN_GATE_STAT p), 8, 1⟩
def F.TSN_GATE_STAT_ENTRY (p : Nat) : Fld := ⟨(R.TSN_GATE_STAT p), 0, 8⟩
def F.TSN_CBS_CBS_EN (p c : Nat) : Fld := ⟨(R.TSN_CBS p c), 31, 1⟩
def F.TSN_CBS_IDLE_SLOPE (p c : Nat) : Fld := ⟨(R.TSN_CBS p c), 0, 20⟩
def F.TSN_PRE_CFG_PREEMPT_EN (p : Nat) : Fld := ⟨(R.TSN_PRE_CFG p), 31, 1⟩
def F.TSN_PRE_CFG_VERIFY_DIS (p : Nat) : Fld := ⟨(R.TSN_PRE_CFG p), 30, 1⟩
def F.TSN_PRE_CFG_ADD_FRAG (p : Nat) : Fld := ⟨(R.TSN_PRE_CFG p), 28, 2⟩
def F.TSN_PRE_CFG_VERIFY_TIME (p : Nat) : Fld := ⟨(R.TSN_PRE_CFG p), 12, 8⟩
def F.TSN_PRE_CFG_PREEMPTABLE (p : Nat) : Fld := ⟨(R.TSN_PRE_CFG p), 0, 8⟩
def F.TSN_PRE_STAT_VERIFY_STATUS (p : Nat) : Fld := ⟨(R.TSN_PRE_STAT p), 29, 3⟩
def F.TSN_PRE_STAT_ACTIVE (p : Nat) : Fld := ⟨(R.TSN_PRE_STAT p), 28, 1⟩
def F.TSN_PRE_STAT_FRAGS (p : Nat) : Fld := ⟨(R.TSN_PRE_STAT p), 0, 16⟩
def F.TSN_FA_CFG_FA_EN : Fld := ⟨R.TSN_FA_CFG, 31, 1⟩
def F.TSN_FA_CFG_REQ_LOCK : Fld := ⟨R.TSN_FA_CFG, 30, 1⟩
def F.TSN_FA_CFG_FA_CLASS : Fld := ⟨R.TSN_FA_CFG, 27, 3⟩
def F.TSN_FA_CFG_FA_PORTS : Fld := ⟨R.TSN_FA_CFG, 0, 24⟩
def F.TSN_FA_ETYPE_FA_ETYPE : Fld := ⟨R.TSN_FA_ETYPE, 0, 16⟩
def F.TSN_FA_SND_CFG_VALID (s : Nat) : Fld := ⟨(R.TSN_FA_SND_CFG s), 31, 1⟩
def F.TSN_FA_SND_CFG_HOLDER (s : Nat) : Fld := ⟨(R.TSN_FA_SND_CFG s), 16, 6⟩
def F.TSN_FA_SND_CFG_KEY_SLOT (s : Nat) : Fld := ⟨(R.TSN_FA_SND_CFG s), 0, 8⟩
def F.CAN_CTL_MODE (c : Nat) : Fld := ⟨(R.CAN_CTL c), 28, 3⟩
def F.CAN_CTL_FD_EN (c : Nat) : Fld := ⟨(R.CAN_CTL c), 27, 1⟩
def F.CAN_CTL_BOFF_POLICY (c : Nat) : Fld := ⟨(R.CAN_CTL c), 26, 1⟩
def F.CAN_CTL_AUTO_RECOVER (c : Nat) : Fld := ⟨(R.CAN_CTL c), 25, 1⟩
def F.CAN_CTL_PXHD (c : Nat) : Fld := ⟨(R.CAN_CTL c), 24, 1⟩
def F.CAN_CTL_RECOVER_DLY (c : Nat) : Fld := ⟨(R.CAN_CTL c), 10, 10⟩
def F.CAN_NBT_NBRP (c : Nat) : Fld := ⟨(R.CAN_NBT c), 27, 5⟩
def F.CAN_NBT_NTSEG1 (c : Nat) : Fld := ⟨(R.CAN_NBT c), 19, 8⟩
def F.CAN_NBT_NTSEG2 (c : Nat) : Fld := ⟨(R.CAN_NBT c), 12, 7⟩
def F.CAN_NBT_NSJW (c : Nat) : Fld := ⟨(R.CAN_NBT c), 5, 7⟩
def F.CAN_DBT_DBRP (c : Nat) : Fld := ⟨(R.CAN_DBT c), 27, 5⟩
def F.CAN_DBT_DTSEG1 (c : Nat) : Fld := ⟨(R.CAN_DBT c), 22, 5⟩
def F.CAN_DBT_DTSEG2 (c : Nat) : Fld := ⟨(R.CAN_DBT c), 18, 4⟩
def F.CAN_DBT_DSJW (c : Nat) : Fld := ⟨(R.CAN_DBT c), 14, 4⟩
def F.CAN_DBT_TDC_EN (c : Nat) : Fld := ⟨(R.CAN_DBT c), 13, 1⟩
def F.CAN_DBT_TDCO (c : Nat) : Fld := ⟨(R.CAN_DBT c), 6, 7⟩
def F.CAN_STAT_STATE (c : Nat) : Fld := ⟨(R.CAN_STAT c), 29, 3⟩
def F.CAN_STAT_WARN (c : Nat) : Fld := ⟨(R.CAN_STAT c), 28, 1⟩
def F.CAN_STAT_LEC (c : Nat) : Fld := ⟨(R.CAN_STAT c), 25, 3⟩
def F.CAN_STAT_REC (c : Nat) : Fld := ⟨(R.CAN_STAT c), 16, 8⟩
def F.CAN_STAT_TEC (c : Nat) : Fld := ⟨(R.CAN_STAT c), 8, 8⟩
def F.CAN_STAT_DLEC (c : Nat) : Fld := ⟨(R.CAN_STAT c), 5, 3⟩
def F.CAN_CNT_BUSOFFS (c : Nat) : Fld := ⟨(R.CAN_CNT c), 24, 8⟩
def F.CAN_CNT_DOM_TIMEOUT (c : Nat) : Fld := ⟨(R.CAN_CNT c), 16, 8⟩
def F.CAN_CNT_RX_UNMATCHED (c : Nat) : Fld := ⟨(R.CAN_CNT c), 0, 16⟩
def F.CAN_AREA_LO_ADDR (c : Nat) : Fld := ⟨(R.CAN_AREA_LO c), 12, 20⟩
def F.CAN_OBJ_ID_EN (c k : Nat) : Fld := ⟨(R.CAN_OBJ_ID c k), 31, 1⟩
def F.CAN_OBJ_ID_DIR (c k : Nat) : Fld := ⟨(R.CAN_OBJ_ID c k), 30, 1⟩
def F.CAN_OBJ_ID_IDE (c k : Nat) : Fld := ⟨(R.CAN_OBJ_ID c k), 29, 1⟩
def F.CAN_OBJ_ID_ID (c k : Nat) : Fld := ⟨(R.CAN_OBJ_ID c k), 0, 29⟩
def F.CAN_OBJ_CTL_EVQ_OFF (c k : Nat) : Fld := ⟨(R.CAN_OBJ_CTL c k), 8, 1⟩
def F.CAN_OBJ_CTL_EVQ_ON (c k : Nat) : Fld := ⟨(R.CAN_OBJ_CTL c k), 7, 1⟩
def F.CAN_OBJ_CTL_LOST_CLR (c k : Nat) : Fld := ⟨(R.CAN_OBJ_CTL c k), 6, 1⟩
def F.CAN_OBJ_CTL_HOLD_REL (c k : Nat) : Fld := ⟨(R.CAN_OBJ_CTL c k), 5, 1⟩
def F.CAN_OBJ_CTL_HOLD_SET (c k : Nat) : Fld := ⟨(R.CAN_OBJ_CTL c k), 4, 1⟩
def F.CAN_OBJ_CTL_ABORT (c k : Nat) : Fld := ⟨(R.CAN_OBJ_CTL c k), 3, 1⟩
def F.CAN_OBJ_CTL_SLOT (c k : Nat) : Fld := ⟨(R.CAN_OBJ_CTL c k), 1, 1⟩
def F.CAN_OBJ_CTL_TXREQ (c k : Nat) : Fld := ⟨(R.CAN_OBJ_CTL c k), 0, 1⟩
def F.CAN_OBJ_STAT_TXST (c k : Nat) : Fld := ⟨(R.CAN_OBJ_STAT c k), 27, 3⟩
def F.CAN_OBJ_STAT_CUR (c k : Nat) : Fld := ⟨(R.CAN_OBJ_STAT c k), 26, 1⟩
def F.CAN_OBJ_STAT_NEW (c k : Nat) : Fld := ⟨(R.CAN_OBJ_STAT c k), 25, 1⟩
def F.CAN_OBJ_STAT_PEND (c k : Nat) : Fld := ⟨(R.CAN_OBJ_STAT c k), 24, 1⟩
def F.CAN_OBJ_STAT_LOST (c k : Nat) : Fld := ⟨(R.CAN_OBJ_STAT c k), 23, 1⟩
def F.CAN_OBJ_STAT_HELD (c k : Nat) : Fld := ⟨(R.CAN_OBJ_STAT c k), 22, 1⟩
def F.CAN_OBJ_STAT_EVQ (c k : Nat) : Fld := ⟨(R.CAN_OBJ_STAT c k), 21, 1⟩
def F.CAN_OBJ_STAT_GW (c k : Nat) : Fld := ⟨(R.CAN_OBJ_STAT c k), 20, 1⟩
def F.CAN_OBJ_STAT_DUP (c k : Nat) : Fld := ⟨(R.CAN_OBJ_STAT c k), 19, 1⟩
def F.CAN_OBJ_STAT_NSLOT (c k : Nat) : Fld := ⟨(R.CAN_OBJ_STAT c k), 18, 1⟩
def F.CAN_OBJ_STAT_FRAMES (c k : Nat) : Fld := ⟨(R.CAN_OBJ_STAT c k), 0, 16⟩
def F.CAN_RXEVT_POP_VALID (c : Nat) : Fld := ⟨(R.CAN_RXEVT_POP c), 31, 1⟩
def F.CAN_RXEVT_POP_OBJ (c : Nat) : Fld := ⟨(R.CAN_RXEVT_POP c), 0, 9⟩
def F.CAN_TXEVT_POP_VALID (c : Nat) : Fld := ⟨(R.CAN_TXEVT_POP c), 31, 1⟩
def F.CAN_TXEVT_POP_OUTCOME (c : Nat) : Fld := ⟨(R.CAN_TXEVT_POP c), 24, 4⟩
def F.CAN_TXEVT_POP_OBJ (c : Nat) : Fld := ⟨(R.CAN_TXEVT_POP c), 0, 9⟩
def F.LIN_CTL_ENABLE (c : Nat) : Fld := ⟨(R.LIN_CTL c), 31, 1⟩
def F.LIN_CTL_TABLE (c : Nat) : Fld := ⟨(R.LIN_CTL c), 16, 4⟩
def F.LIN_CTL_BAUD (c : Nat) : Fld := ⟨(R.LIN_CTL c), 0, 16⟩
def F.LIN_STAT_ERRORS (c : Nat) : Fld := ⟨(R.LIN_STAT c), 24, 8⟩
def F.LIN_STAT_COLLISIONS (c : Nat) : Fld := ⟨(R.LIN_STAT c), 16, 8⟩
def F.LIN_STAT_ENTRY (c : Nat) : Fld := ⟨(R.LIN_STAT c), 4, 6⟩
def F.LIN_STAT_RESOLVING (c : Nat) : Fld := ⟨(R.LIN_STAT c), 3, 1⟩
def F.LIN_BUF_CFG_CTL (c i : Nat) : Fld := ⟨(R.LIN_BUF_CFG c i), 6, 4⟩
def F.LIN_BUF_CFG_DIR (c i : Nat) : Fld := ⟨(R.LIN_BUF_CFG c i), 5, 1⟩
def F.LIN_BUF_CFG_CSUM (c i : Nat) : Fld := ⟨(R.LIN_BUF_CFG c i), 4, 1⟩
def F.LIN_BUF_CFG_LEN (c i : Nat) : Fld := ⟨(R.LIN_BUF_CFG c i), 0, 4⟩
def F.LIN_BUF_ST_ERR (c i : Nat) : Fld := ⟨(R.LIN_BUF_ST c i), 5, 3⟩
def F.LIN_BUF_ST_DIRTY (c i : Nat) : Fld := ⟨(R.LIN_BUF_ST c i), 4, 1⟩
def F.LIN_BUF_ST_HELD (c i : Nat) : Fld := ⟨(R.LIN_BUF_ST c i), 3, 1⟩
def F.LIN_BUF_ST_LOST (c i : Nat) : Fld := ⟨(R.LIN_BUF_ST c i), 2, 1⟩
def F.LIN_BUF_ST_PEND (c i : Nat) : Fld := ⟨(R.LIN_BUF_ST c i), 1, 1⟩
def F.LIN_BUF_ST_NEW (c i : Nat) : Fld := ⟨(R.LIN_BUF_ST c i), 0, 1⟩
def F.GWY_BLOG_CTL_TOTAL : Fld := ⟨R.GWY_BLOG_CTL, 16, 16⟩
def F.GWY_BLOG_CTL_NEXT : Fld := ⟨R.GWY_BLOG_CTL, 0, 3⟩
def F.GWY_BLOG_INFO_TYPE (n : Nat) : Fld := ⟨(R.GWY_BLOG_INFO n), 28, 4⟩
def F.GWY_BLOG_INFO_SECURE (n : Nat) : Fld := ⟨(R.GWY_BLOG_INFO n), 27, 1⟩
def F.GWY_BLOG_INFO_PART (n : Nat) : Fld := ⟨(R.GWY_BLOG_INFO n), 23, 4⟩
def F.GWY_BLOG_INFO_MASTER (n : Nat) : Fld := ⟨(R.GWY_BLOG_INFO n), 8, 8⟩
def F.GWY_BLOG_INFO_ADDR_HI (n : Nat) : Fld := ⟨(R.GWY_BLOG_INFO n), 0, 8⟩
def F.WAK_CFG0_READY_DLY : Fld := ⟨R.WAK_CFG0, 16, 14⟩
def F.WAK_CFG0_PREP_MS : Fld := ⟨R.WAK_CFG0, 8, 6⟩
def F.WAK_CFG0_IGN_GATE : Fld := ⟨R.WAK_CFG0, 7, 1⟩
def F.WAK_CFG0_WAKE_EDGE : Fld := ⟨R.WAK_CFG0, 6, 1⟩
def F.WAK_CFG0_WAKE_POL : Fld := ⟨R.WAK_CFG0, 5, 1⟩
def F.WAK_CFG0_WAKE_FILT : Fld := ⟨R.WAK_CFG0, 0, 5⟩
def F.WAK_CFG1_WOUT_MS : Fld := ⟨R.WAK_CFG1, 8, 8⟩
def F.WAK_CFG1_WOUT_MODE : Fld := ⟨R.WAK_CFG1, 0, 2⟩
def F.WAK_ARM_ARM_WAKE : Fld := ⟨R.WAK_ARM, 31, 1⟩
def F.WAK_ARM_ARM_IGN : Fld := ⟨R.WAK_ARM, 30, 1⟩
def F.WAK_ARM_ARM_RTC : Fld := ⟨R.WAK_ARM, 29, 1⟩
def F.WAK_ARM_ARM_CHAIN : Fld := ⟨R.WAK_ARM, 28, 1⟩
def F.WAK_ARM_ARM_LIN : Fld := ⟨R.WAK_ARM, 16, 8⟩
def F.WAK_ARM_ARM_CAN : Fld := ⟨R.WAK_ARM, 0, 16⟩
def F.WAK_ARM_ETH_WAKE_FWD : Fld := ⟨R.WAK_ARM_ETH, 16, 16⟩
def F.WAK_ARM_ETH_ARM_ETH : Fld := ⟨R.WAK_ARM_ETH, 0, 16⟩
def F.WAK_STAT_PHASE : Fld := ⟨R.WAK_STAT, 30, 2⟩
def F.WAK_STAT_DEPTH : Fld := ⟨R.WAK_STAT, 29, 1⟩
def F.WAK_STAT_OVL_OK : Fld := ⟨R.WAK_STAT, 28, 1⟩
def F.WAK_STAT_LINES_OK : Fld := ⟨R.WAK_STAT, 27, 1⟩
def F.WAK_STAT_MAINT_OK : Fld := ⟨R.WAK_STAT, 26, 1⟩
def F.WAK_STAT_STATE_OK : Fld := ⟨R.WAK_STAT, 25, 1⟩
def F.WAK_STAT_VOTES : Fld := ⟨R.WAK_STAT, 0, 17⟩
def F.WAK_CAUSE_VALID : Fld := ⟨R.WAK_CAUSE, 31, 1⟩
def F.WAK_CAUSE_AFTER_COMMIT : Fld := ⟨R.WAK_CAUSE, 30, 1⟩
def F.WAK_CAUSE_ABORTED : Fld := ⟨R.WAK_CAUSE, 29, 1⟩
def F.WAK_CAUSE_FIRST : Fld := ⟨R.WAK_CAUSE, 8, 4⟩
def F.WAK_CAUSE_KINDS : Fld := ⟨R.WAK_CAUSE, 0, 8⟩
def F.WAK_CAUSE_CAN_FEC : Fld := ⟨R.WAK_CAUSE_CAN, 16, 16⟩
def F.WAK_CAUSE_CAN_WAKE : Fld := ⟨R.WAK_CAUSE_CAN, 0, 16⟩
def F.WAK_CAUSE_NET_LIN : Fld := ⟨R.WAK_CAUSE_NET, 16, 8⟩
def F.WAK_CAUSE_NET_ETH : Fld := ⟨R.WAK_CAUSE_NET, 0, 16⟩
def F.HDG_CFG_ROLE : Fld := ⟨R.HDG_CFG, 30, 2⟩
def F.HDG_CFG_SEG : Fld := ⟨R.HDG_CFG, 25, 5⟩
def F.HDG_CFG_CHAIN_SLEEP : Fld := ⟨R.HDG_CFG, 24, 1⟩
def F.HDG_CFG_WAKE_DRIVE : Fld := ⟨R.HDG_CFG, 23, 1⟩
def F.HDG_CFG_KEY_SLOT : Fld := ⟨R.HDG_CFG, 8, 8⟩
def F.HDG_STAT_STATE : Fld := ⟨R.HDG_STAT, 29, 3⟩
def F.HDG_STAT_UP_LINK : Fld := ⟨R.HDG_STAT, 28, 1⟩
def F.HDG_STAT_DN_LINK : Fld := ⟨R.HDG_STAT, 27, 1⟩
def F.HDG_STAT_READY_DN : Fld := ⟨R.HDG_STAT, 26, 1⟩
def F.HDG_STAT_SYNCED : Fld := ⟨R.HDG_STAT, 25, 1⟩
def F.HDG_STAT_ADDR_CHG : Fld := ⟨R.HDG_STAT, 24, 1⟩
def F.HDG_STAT_DEPTH : Fld := ⟨R.HDG_STAT, 18, 6⟩
def F.HDG_STAT_MEMBERS : Fld := ⟨R.HDG_STAT, 12, 6⟩
def F.HDG_STAT_NODE : Fld := ⟨R.HDG_STAT, 0, 11⟩
def F.HDG_RETAIN_RETAINED : Fld := ⟨R.HDG_RETAIN, 0, 11⟩
def F.HDG_HOP_LINK (n : Nat) : Fld := ⟨(R.HDG_HOP n), 31, 1⟩
def F.HDG_HOP_BREAKS (n : Nat) : Fld := ⟨(R.HDG_HOP n), 16, 8⟩
def F.HDG_HOP_DELAY (n : Nat) : Fld := ⟨(R.HDG_HOP n), 0, 16⟩
def F.HDG_ERR_CRC_ERR : Fld := ⟨R.HDG_ERR, 24, 8⟩
def F.HDG_ERR_RX_TRUNC : Fld := ⟨R.HDG_ERR, 16, 8⟩
def F.HDG_ERR_AUTH_FAIL : Fld := ⟨R.HDG_ERR, 8, 8⟩
def F.HDG_ERR_FWD_DROP : Fld := ⟨R.HDG_ERR, 0, 8⟩
def F.HDG_GRANT_A_VALID (g : Nat) : Fld := ⟨(R.HDG_GRANT_A g), 31, 1⟩
def F.HDG_GRANT_A_RIGHT (g : Nat) : Fld := ⟨(R.HDG_GRANT_A g), 30, 1⟩
def F.HDG_GRANT_A_KIND (g : Nat) : Fld := ⟨(R.HDG_GRANT_A g), 26, 4⟩
def F.HDG_GRANT_A_REQ (g : Nat) : Fld := ⟨(R.HDG_GRANT_A g), 16, 6⟩
def F.HDG_GRANT_A_NODE (g : Nat) : Fld := ⟨(R.HDG_GRANT_A g), 0, 11⟩
def F.HDG_GRANT_B_LAST (g : Nat) : Fld := ⟨(R.HDG_GRANT_B g), 16, 12⟩
def F.HDG_GRANT_B_FIRST (g : Nat) : Fld := ⟨(R.HDG_GRANT_B g), 0, 12⟩
def F.MPC_CORE_PART_VALID (c : Nat) : Fld := ⟨(R.MPC_CORE_PART c), 31, 1⟩
def F.MPC_CORE_PART_PART (c : Nat) : Fld := ⟨(R.MPC_CORE_PART c), 0, 5⟩
def F.MPC_CORE_HNOTE_PEND (c : Nat) : Fld := ⟨(R.MPC_CORE_HNOTE c), 0, 16⟩
def F.MPC_PEVT_CHG : Fld := ⟨R.MPC_PEVT, 0, 16⟩
def F.MPC_PART_CFG_LLC_WAYS (v : Nat) : Fld := ⟨(R.MPC_PART_CFG v), 16, 16⟩
def F.MPC_PART_CFG_REQUIRED (v : Nat) : Fld := ⟨(R.MPC_PART_CFG v), 15, 1⟩
def F.MPC_PART_CFG_HOST (v : Nat) : Fld := ⟨(R.MPC_PART_CFG v), 14, 1⟩
def F.MPC_PART_CFG_HOSTING (v : Nat) : Fld := ⟨(R.MPC_PART_CFG v), 12, 2⟩
def F.MPC_PART_CFG_SCORE (v : Nat) : Fld := ⟨(R.MPC_PART_CFG v), 8, 3⟩
def F.MPC_PART_CFG_AFFINITY (v : Nat) : Fld := ⟨(R.MPC_PART_CFG v), 0, 6⟩
def F.MPC_PART_STAT_STATE (v : Nat) : Fld := ⟨(R.MPC_PART_STAT v), 29, 3⟩
def F.MPC_PART_STAT_SCRUBBING (v : Nat) : Fld := ⟨(R.MPC_PART_STAT v), 28, 1⟩
def F.MPC_PART_STAT_CAUSE (v : Nat) : Fld := ⟨(R.MPC_PART_STAT v), 24, 4⟩
def F.MPC_PART_STAT_RESETS (v : Nat) : Fld := ⟨(R.MPC_PART_STAT v), 0, 16⟩
def F.MPC_PART_REG_MODE (v : Nat) : Fld := ⟨(R.MPC_PART_REG v), 30, 2⟩
def F.MPC_PART_REG_BUDGET (v : Nat) : Fld := ⟨(R.MPC_PART_REG v), 0, 20⟩
def F.MPC_PART_RSTAT_THROTTLES (v : Nat) : Fld := ⟨(R.MPC_PART_RSTAT v), 20, 12⟩
def F.MPC_PART_RSTAT_USED (v : Nat) : Fld := ⟨(R.MPC_PART_RSTAT v), 0, 20⟩
def F.MPC_REG_CFG_SEC_WAYS : Fld := ⟨R.MPC_REG_CFG, 16, 16⟩
def F.MPC_REG_CFG_PERIOD : Fld := ⟨R.MPC_REG_CFG, 0, 10⟩
def F.FLT_LS_CFG_SPLIT (n : Nat) : Fld := ⟨(R.FLT_LS_CFG n), 8, 1⟩
def F.FLT_LS_CFG_RST_LIMIT (n : Nat) : Fld := ⟨(R.FLT_LS_CFG n), 4, 4⟩
def F.FLT_LS_CFG_FOP (n : Nat) : Fld := ⟨(R.FLT_LS_CFG n), 0, 1⟩
def F.FLT_LS_STAT_STATE (n : Nat) : Fld := ⟨(R.FLT_LS_STAT n), 29, 3⟩
def F.FLT_LS_STAT_LOCKSTEP_BROKEN (n : Nat) : Fld := ⟨(R.FLT_LS_STAT n), 28, 1⟩
def F.FLT_LS_STAT_FENCED (n : Nat) : Fld := ⟨(R.FLT_LS_STAT n), 26, 2⟩
def F.FLT_LS_STAT_MISMATCHES (n : Nat) : Fld := ⟨(R.FLT_LS_STAT n), 16, 8⟩
def F.FLT_LS_STAT_RESTARTS (n : Nat) : Fld := ⟨(R.FLT_LS_STAT n), 8, 8⟩
def F.FLT_LS_STAT_RECENT (n : Nat) : Fld := ⟨(R.FLT_LS_STAT n), 4, 4⟩
def F.FLT_LS_MIS_KIND (n : Nat) : Fld := ⟨(R.FLT_LS_MIS n), 28, 4⟩
def F.FLT_LS_MIS_RESULT (n : Nat) : Fld := ⟨(R.FLT_LS_MIS n), 26, 2⟩
def F.FLT_LS_MIS_ACTION (n : Nat) : Fld := ⟨(R.FLT_LS_MIS n), 24, 2⟩
def F.FLT_LS_MIS_ADDR_HI (n : Nat) : Fld := ⟨(R.FLT_LS_MIS n), 0, 8⟩
def F.FLT_LS_CKPT_TAKE (n : Nat) : Fld := ⟨(R.FLT_LS_CKPT n), 0, 1⟩
def F.MPC_R_START_START (m r : Nat) : Fld := ⟨(R.MPC_R_START m r), 4, 28⟩
def F.MPC_R_ATTR_VALID (m r : Nat) : Fld := ⟨(R.MPC_R_ATTR m r), 31, 1⟩
def F.MPC_R_ATTR_LOCK (m r : Nat) : Fld := ⟨(R.MPC_R_ATTR m r), 30, 1⟩
def F.MPC_R_ATTR_SEC (m r : Nat) : Fld := ⟨(R.MPC_R_ATTR m r), 29, 1⟩
def F.MPC_R_ATTR_NS (m r : Nat) : Fld := ⟨(R.MPC_R_ATTR m r), 28, 1⟩
def F.MPC_R_ATTR_GW (m r : Nat) : Fld := ⟨(R.MPC_R_ATTR m r), 27, 1⟩
def F.MPC_R_ATTR_X (m r : Nat) : Fld := ⟨(R.MPC_R_ATTR m r), 26, 1⟩
def F.MPC_R_ATTR_W (m r : Nat) : Fld := ⟨(R.MPC_R_ATTR m r), 25, 1⟩
def F.MPC_R_ATTR_R (m r : Nat) : Fld := ⟨(R.MPC_R_ATTR m r), 24, 1⟩
def F.MPC_R_ATTR_C (m r : Nat) : Fld := ⟨(R.MPC_R_ATTR m r), 23, 1⟩
def F.MPC_R_ATTR_P (m r : Nat) : Fld := ⟨(R.MPC_R_ATTR m r), 22, 1⟩
def F.MPC_R_ATTR_PMASK (m r : Nat) : Fld := ⟨(R.MPC_R_ATTR m r), 0, 16⟩
def F.MPC_VIOL_WORLD (m : Nat) : Fld := ⟨(R.MPC_VIOL m), 16, 16⟩
def F.MPC_VIOL_ACCESS (m : Nat) : Fld := ⟨(R.MPC_VIOL m), 0, 16⟩
def F.MPC_GW_CFG_TMO : Fld := ⟨R.MPC_GW_CFG, 16, 14⟩
def F.MPC_GW_CFG_SEC_CORES : Fld := ⟨R.MPC_GW_CFG, 0, 6⟩
def F.MPC_GW_STAT_SEC_STATE : Fld := ⟨R.MPC_GW_STAT, 30, 2⟩
def F.MPC_GW_STAT_HUNG_CORE : Fld := ⟨R.MPC_GW_STAT, 8, 3⟩
def F.MPC_GW_STAT_IN_GATE : Fld := ⟨R.MPC_GW_STAT, 0, 6⟩
def F.MPC_GW_CALLER_VALID (c : Nat) : Fld := ⟨(R.MPC_GW_CALLER c), 31, 1⟩
def F.MPC_GW_CALLER_HYP (c : Nat) : Fld := ⟨(R.MPC_GW_CALLER c), 30, 1⟩
def F.MPC_GW_CALLER_PART (c : Nat) : Fld := ⟨(R.MPC_GW_CALLER c), 0, 5⟩
def F.MPC_LC_STAT_NEXT_VALID : Fld := ⟨R.MPC_LC_STAT, 7, 1⟩
def F.MPC_LC_STAT_NEXT : Fld := ⟨R.MPC_LC_STAT, 5, 2⟩
def F.MPC_LC_STAT_DEBUG_ACTIVE : Fld := ⟨R.MPC_LC_STAT, 4, 1⟩
def F.MPC_LC_STAT_DEBUG_OPEN : Fld := ⟨R.MPC_LC_STAT, 3, 1⟩
def F.MPC_LC_STAT_SECDBG : Fld := ⟨R.MPC_LC_STAT, 2, 1⟩
def F.MPC_LC_STAT_LIFECYCLE : Fld := ⟨R.MPC_LC_STAT, 0, 2⟩
def F.MPC_CPC_SECURE (k : Nat) : Fld := ⟨(R.MPC_CPC k), 31, 1⟩
def F.MPC_CPC_OWNER (k : Nat) : Fld := ⟨(R.MPC_CPC k), 24, 6⟩
def F.MPC_CPC_REFUSED (k : Nat) : Fld := ⟨(R.MPC_CPC k), 2, 1⟩
def F.MPC_CPC_PSTATE (k : Nat) : Fld := ⟨(R.MPC_CPC k), 0, 2⟩
def F.HWN_STAT_LOCK_STATE : Fld := ⟨R.HWN_STAT, 30, 2⟩
def F.HWN_STAT_EPOCH : Fld := ⟨R.HWN_STAT, 26, 4⟩
def F.HWN_STAT_USABLE : Fld := ⟨R.HWN_STAT, 16, 9⟩
def F.HWN_STAT_QUEUED : Fld := ⟨R.HWN_STAT, 8, 8⟩
def F.HWN_STAT_REMASK_LATE : Fld := ⟨R.HWN_STAT, 0, 8⟩
def F.HWN_CFG_REMASK_MIN : Fld := ⟨R.HWN_CFG, 0, 6⟩
def F.HWN_TAMPER_STAT_EVENTS : Fld := ⟨R.HWN_TAMPER_STAT, 16, 16⟩
def F.HWN_TAMPER_STAT_LATCHED : Fld := ⟨R.HWN_TAMPER_STAT, 8, 6⟩
def F.HWN_TAMPER_STAT_ACTIVE : Fld := ⟨R.HWN_TAMPER_STAT, 0, 6⟩
def F.HWN_TAMPER_POL_POLICY : Fld := ⟨R.HWN_TAMPER_POL, 0, 12⟩
def F.HWN_SLOT_STAT_STATE (s : Nat) : Fld := ⟨(R.HWN_SLOT_STAT s), 30, 2⟩
def F.HWN_SLOT_STAT_SHADOW (s : Nat) : Fld := ⟨(R.HWN_SLOT_STAT s), 29, 1⟩
def F.HWN_SLOT_STAT_TYPE (s : Nat) : Fld := ⟨(R.HWN_SLOT_STAT s), 24, 5⟩
def F.HWN_SLOT_STAT_USE (s : Nat) : Fld := ⟨(R.HWN_SLOT_STAT s), 16, 8⟩
def F.HWN_SLOT_STAT_GEN (s : Nat) : Fld := ⟨(R.HWN_SLOT_STAT s), 0, 16⟩
def F.FLT_CFG_QUIET : Fld := ⟨R.FLT_CFG, 16, 13⟩
def F.FLT_CFG_HTIMER : Fld := ⟨R.FLT_CFG, 0, 14⟩
def F.FLT_SYS_SYS_HANDLER : Fld := ⟨R.FLT_SYS, 0, 6⟩
def F.FLT_STAT_IN_FAULT : Fld := ⟨R.FLT_STAT, 31, 1⟩
def F.FLT_STAT_ENTRY : Fld := ⟨R.FLT_STAT, 29, 2⟩
def F.FLT_STAT_QUIET_HELD : Fld := ⟨R.FLT_STAT, 28, 1⟩
def F.FLT_STAT_NOTE_LOST : Fld := ⟨R.FLT_STAT, 16, 8⟩
def F.FLT_STAT_RECOVERY : Fld := ⟨R.FLT_STAT, 0, 16⟩
def F.FLT_FE_INFO_VALID (c : Nat) : Fld := ⟨(R.FLT_FE_INFO c), 31, 1⟩
def F.FLT_FE_INFO_DEVICE_ID (c : Nat) : Fld := ⟨(R.FLT_FE_INFO c), 30, 1⟩
def F.FLT_FE_INFO_ACCESS (c : Nat) : Fld := ⟨(R.FLT_FE_INFO c), 27, 3⟩
def F.FLT_FE_INFO_SECURE (c : Nat) : Fld := ⟨(R.FLT_FE_INFO c), 26, 1⟩
def F.FLT_FE_INFO_PART (c : Nat) : Fld := ⟨(R.FLT_FE_INFO c), 22, 4⟩
def F.FLT_FE_INFO_MASTER (c : Nat) : Fld := ⟨(R.FLT_FE_INFO c), 8, 8⟩
def F.FLT_FE_INFO_ADDR_HI (c : Nat) : Fld := ⟨(R.FLT_FE_INFO c), 0, 8⟩
def F.FLT_FE_CODE_LATER (c : Nat) : Fld := ⟨(R.FLT_FE_CODE c), 16, 16⟩
def F.FLT_FE_CODE_CODE (c : Nat) : Fld := ⟨(R.FLT_FE_CODE c), 0, 16⟩
def F.FLT_NOTE_HEAD_VALID : Fld := ⟨R.FLT_NOTE_HEAD, 31, 1⟩
def F.FLT_NOTE_HEAD_CONTAINED : Fld := ⟨R.FLT_NOTE_HEAD, 30, 1⟩
def F.FLT_NOTE_HEAD_TIMED : Fld := ⟨R.FLT_NOTE_HEAD, 29, 1⟩
def F.FLT_NOTE_HEAD_STAGED1 : Fld := ⟨R.FLT_NOTE_HEAD, 28, 1⟩
def F.FLT_NOTE_HEAD_CODE : Fld := ⟨R.FLT_NOTE_HEAD, 12, 16⟩
def F.FLT_NOTE_HEAD_INDEX : Fld := ⟨R.FLT_NOTE_HEAD, 0, 12⟩
def F.FLT_NOTE_ACK_INDEX : Fld := ⟨R.FLT_NOTE_ACK, 0, 12⟩
def F.FLT_NOTE_CNT_CONT : Fld := ⟨R.FLT_NOTE_CNT, 8, 7⟩
def F.FLT_NOTE_CNT_ALL : Fld := ⟨R.FLT_NOTE_CNT, 0, 7⟩
def F.CFG_STAT_OVERLAY : Fld := ⟨R.CFG_STAT, 24, 8⟩
def F.CFG_STAT_PENDING : Fld := ⟨R.CFG_STAT, 16, 8⟩
def F.CFG_STAT_SVC : Fld := ⟨R.CFG_STAT, 15, 1⟩
def F.CFG_STAT_SWITCH_PEND : Fld := ⟨R.CFG_STAT, 14, 1⟩
def F.CFG_STAT_LATE : Fld := ⟨R.CFG_STAT, 13, 1⟩
def F.CFG_STAT_STAGED_N : Fld := ⟨R.CFG_STAT, 0, 8⟩
def F.CFG_GEN_A_SET_GEN : Fld := ⟨R.CFG_GEN_A, 0, 32⟩
def F.CFG_CMP_DIVERGES : Fld := ⟨R.CFG_CMP, 16, 16⟩
def F.CFG_CMP_LAST : Fld := ⟨R.CFG_CMP, 0, 2⟩
def F.CFG_MAINT_STAT_QLEN : Fld := ⟨R.CFG_MAINT_STAT, 16, 5⟩
def F.CFG_MAINT_STAT_QUEUED : Fld := ⟨R.CFG_MAINT_STAT, 8, 8⟩
def F.CFG_MAINT_STAT_RUNNING : Fld := ⟨R.CFG_MAINT_STAT, 0, 8⟩
def F.CFG_MAINT_CFG_SCRUB_MIN : Fld := ⟨R.CFG_MAINT_CFG, 24, 8⟩
def F.CFG_MAINT_CFG_LBIST_S : Fld := ⟨R.CFG_MAINT_CFG, 16, 8⟩
def F.BOOT_CTL_BOOT_LOCK : Fld := ⟨R.BOOT_CTL, 31, 1⟩
def F.BOOT_CFG_ATTEMPT_LIMIT : Fld := ⟨R.BOOT_CFG, 0, 3⟩
def F.BOOT_STAT_STATE : Fld := ⟨R.BOOT_STAT, 29, 3⟩
def F.BOOT_STAT_ATTEMPTS : Fld := ⟨R.BOOT_STAT, 26, 3⟩
def F.BOOT_STAT_CONFIRMED : Fld := ⟨R.BOOT_STAT, 25, 1⟩
def F.BOOT_STAT_FALLBACK : Fld := ⟨R.BOOT_STAT, 24, 1⟩
def F.BOOT_STAT_DARK : Fld := ⟨R.BOOT_STAT, 23, 1⟩
def F.BOOT_STAT_FAB_PEND : Fld := ⟨R.BOOT_STAT, 22, 1⟩
def F.BOOT_STAT_START_TYPE : Fld := ⟨R.BOOT_STAT, 16, 4⟩
def F.BOOT_STAT_COPPICE_REASON : Fld := ⟨R.BOOT_STAT, 8, 8⟩
def F.BOOT_STAT_FAIL : Fld := ⟨R.BOOT_STAT, 0, 8⟩
def F.BOOT_CNT_STARTS : Fld := ⟨R.BOOT_CNT, 16, 16⟩
def F.BOOT_CNT_COPPICE_STARTS : Fld := ⟨R.BOOT_CNT, 0, 16⟩
def F.UPD_STAT_STATE : Fld := ⟨R.UPD_STAT, 28, 4⟩
def F.UPD_STAT_RESULT : Fld := ⟨R.UPD_STAT, 24, 4⟩
def F.UPD_STAT_TRIES : Fld := ⟨R.UPD_STAT, 22, 2⟩
def F.UPD_STAT_JOP : Fld := ⟨R.UPD_STAT, 20, 2⟩
def F.UPD_STAT_ARMED : Fld := ⟨R.UPD_STAT, 19, 1⟩
def F.UPD_STAT_FALLBACK_OK : Fld := ⟨R.UPD_STAT, 18, 1⟩
def F.UPD_STAT_EXPLICIT : Fld := ⟨R.UPD_STAT, 17, 1⟩
def F.UPD_STAT_CFG_PEND : Fld := ⟨R.UPD_STAT, 16, 1⟩
def F.UPD_STAT_IMAGE : Fld := ⟨R.UPD_STAT, 8, 5⟩
def F.UPD_STAT_PROGRESS : Fld := ⟨R.UPD_STAT, 0, 7⟩
def F.UPD_CHUNKS_RECEIVED : Fld := ⟨R.UPD_CHUNKS, 16, 16⟩
def F.UPD_CHUNKS_TOTAL : Fld := ⟨R.UPD_CHUNKS, 0, 16⟩
def F.UPD_FIRST_FIRST : Fld := ⟨R.UPD_FIRST, 0, 16⟩
def F.UPD_FLOOR_FLOOR : Fld := ⟨R.UPD_FLOOR, 0, 32⟩
def F.UPD_KEYS_REVOKED : Fld := ⟨R.UPD_KEYS, 4, 4⟩
def F.UPD_KEYS_FUSED : Fld := ⟨R.UPD_KEYS, 0, 4⟩
def F.UPD_CTRL_SECURE : Fld := ⟨R.UPD_CTRL, 16, 1⟩
def F.UPD_CTRL_CTRL : Fld := ⟨R.UPD_CTRL, 0, 16⟩
def F.PFB_THERM_T_HOUSING : Fld := ⟨R.PFB_THERM, 24, 8⟩
def F.PFB_THERM_DERATED : Fld := ⟨R.PFB_THERM, 12, 10⟩
def F.PFB_THERM_T_PEAK : Fld := ⟨R.PFB_THERM, 0, 8⟩
def F.MBX_RSP_BASE_LO_ADDR (w : Nat) : Fld := ⟨(R.MBX_RSP_BASE_LO w), 12, 20⟩
def F.MBX_RSP_BASE_HI_ADDR_HI (w : Nat) : Fld := ⟨(R.MBX_RSP_BASE_HI w), 0, 8⟩
def F.PFB_GANG_CFG0_DT (g : Nat) : Fld := ⟨(R.PFB_GANG_CFG0 g), 28, 4⟩
def F.PFB_GANG_CFG0_OC_BLANK (g : Nat) : Fld := ⟨(R.PFB_GANG_CFG0 g), 24, 4⟩
def F.PFB_GANG_CFG0_RETRY_DLY (g : Nat) : Fld := ⟨(R.PFB_GANG_CFG0 g), 20, 4⟩
def F.PFB_GANG_CFG0_RETRIES (g : Nat) : Fld := ⟨(R.PFB_GANG_CFG0 g), 16, 4⟩
def F.PFB_GANG_CFG0_TURNOFF (g : Nat) : Fld := ⟨(R.PFB_GANG_CFG0 g), 10, 1⟩
def F.PFB_GANG_CFG0_SLEW (g : Nat) : Fld := ⟨(R.PFB_GANG_CFG0 g), 8, 2⟩
def F.PFB_GANG_CFG0_ILIM (g : Nat) : Fld := ⟨(R.PFB_GANG_CFG0 g), 0, 5⟩
def F.SWC_RING_TXBASE_HI_ADDR_HI (r : Nat) : Fld := ⟨(R.SWC_RING_TXBASE_HI r), 0, 8⟩
def F.SWC_RING_RXBASE_LO_ADDR (r : Nat) : Fld := ⟨(R.SWC_RING_RXBASE_LO r), 6, 26⟩
def F.SWC_RING_RXBASE_HI_ADDR_HI (r : Nat) : Fld := ⟨(R.SWC_RING_RXBASE_HI r), 0, 8⟩
def F.SWC_RING_MACL_MAC (r k : Nat) : Fld := ⟨(R.SWC_RING_MACL r k), 0, 32⟩
def F.SWC_RING_MACH_VALID (r k : Nat) : Fld := ⟨(R.SWC_RING_MACH r k), 31, 1⟩
def F.SWC_RING_MACH_MAC (r k : Nat) : Fld := ⟨(R.SWC_RING_MACH r k), 0, 16⟩
def F.SWC_RING_TX_DONE_CNT (r : Nat) : Fld := ⟨(R.SWC_RING_TX_DONE r), 0, 16⟩
def F.SWC_RING_RX_FILL_CNT (r : Nat) : Fld := ⟨(R.SWC_RING_RX_FILL r), 0, 16⟩
def F.SWC_RING_RX_DONE_CNT (r : Nat) : Fld := ⟨(R.SWC_RING_RX_DONE r), 0, 16⟩
def F.SWC_Q_RED_TH_MAX_TH (q c : Nat) : Fld := ⟨(R.SWC_Q_RED_TH q c), 16, 16⟩
def F.SWC_Q_RED_TH_MIN_TH (q c : Nat) : Fld := ⟨(R.SWC_Q_RED_TH q c), 0, 16⟩
def F.SWC_Q_RED_P_ENABLE (q c : Nat) : Fld := ⟨(R.SWC_Q_RED_P q c), 9, 1⟩
def F.SWC_Q_RED_P_ACT (q c : Nat) : Fld := ⟨(R.SWC_Q_RED_P q c), 8, 1⟩
def F.SWC_Q_RED_P_P_MAX_CODE (q c : Nat) : Fld := ⟨(R.SWC_Q_RED_P q c), 0, 8⟩
def F.SWC_Q_STAT_OCC (q : Nat) : Fld := ⟨(R.SWC_Q_STAT q), 16, 16⟩
def F.SWC_Q_STAT_AVG (q : Nat) : Fld := ⟨(R.SWC_Q_STAT q), 0, 16⟩
def F.CAN_AREA_HI_ADDR_HI (c : Nat) : Fld := ⟨(R.CAN_AREA_HI c), 0, 8⟩
def F.WAK_COUNT_LATE : Fld := ⟨R.WAK_COUNT, 16, 16⟩
def F.WAK_COUNT_ALL : Fld := ⟨R.WAK_COUNT, 0, 16⟩
def F.MPC_R_END_END (m r : Nat) : Fld := ⟨(R.MPC_R_END m r), 4, 28⟩
def F.HDG_ETYPE_V : Fld := ⟨R.HDG_ETYPE, 0, 32⟩
def F.GWY_ETYPE_V : Fld := ⟨R.GWY_ETYPE, 0, 32⟩
def F.TSN_STR_ID_IDTYPE (n : Nat) : Fld := ⟨(R.TSN_STR_ID n), 0, 2⟩
def F.TSN_STR_ID_SAFETY (n : Nat) : Fld := ⟨(R.TSN_STR_ID n), 2, 1⟩
def F.TSN_STR_MACL_MAC (n : Nat) : Fld := ⟨(R.TSN_STR_MACL n), 0, 32⟩
def F.TSN_STR_MACH_MAC (n : Nat) : Fld := ⟨(R.TSN_STR_MACH n), 0, 16⟩
def F.TSN_STR_MACH_VID (n : Nat) : Fld := ⟨(R.TSN_STR_MACH n), 16, 12⟩
def F.TSN_FRER_A_ALG (n : Nat) : Fld := ⟨(R.TSN_FRER_A n), 0, 1⟩
def F.TSN_FRER_A_HISTORY (n : Nat) : Fld := ⟨(R.TSN_FRER_A n), 8, 6⟩
def F.TSN_FRER_A_LATENT (n : Nat) : Fld := ⟨(R.TSN_FRER_A n), 16, 1⟩
def F.TSN_FRER_A_LATENT_DIFF (n : Nat) : Fld := ⟨(R.TSN_FRER_A n), 24, 8⟩
def F.TSN_FRER_B_RESET_MS (n : Nat) : Fld := ⟨(R.TSN_FRER_B n), 0, 16⟩
def F.TSN_FRER_B_LATENT_PERIOD (n : Nat) : Fld := ⟨(R.TSN_FRER_B n), 16, 16⟩
def F.TSN_GPTP_DOMAIN (i : Nat) : Fld := ⟨(R.TSN_GPTP i), 0, 7⟩
def F.TSN_GPTP_SRC (i : Nat) : Fld := ⟨(R.TSN_GPTP i), 8, 1⟩
def F.TSN_GPTP_ENABLE (i : Nat) : Fld := ⟨(R.TSN_GPTP i), 9, 1⟩
def F.TSN_GPTP_OPT_EXT_PORTS (i : Nat) : Fld := ⟨(R.TSN_GPTP_OPT i), 0, 1⟩
def F.TSN_GPTP_OPT_PATH_TRACE (i : Nat) : Fld := ⟨(R.TSN_GPTP_OPT i), 1, 1⟩
def F.TSN_GPTP_OPT_CMLDS (i : Nat) : Fld := ⟨(R.TSN_GPTP_OPT i), 2, 1⟩
def F.TSN_GPTP_PORT_ROLE (i p : Nat) : Fld := ⟨(R.TSN_GPTP_PORT i p), 0, 2⟩
def F.TSN_GPTP_PORT_TWO_STEP (i p : Nat) : Fld := ⟨(R.TSN_GPTP_PORT i p), 2, 1⟩
def F.TSN_GPTP_PORT_STATIC (i p : Nat) : Fld := ⟨(R.TSN_GPTP_PORT i p), 3, 1⟩
def F.TSN_GPTP_PORT_LOG_SYNC (i p : Nat) : Fld := ⟨(R.TSN_GPTP_PORT i p), 8, 8⟩
def F.TSN_GPTP_PORT_LOG_PDELAY (i p : Nat) : Fld := ⟨(R.TSN_GPTP_PORT i p), 16, 8⟩
def F.TSN_GPTP_DLY_DELAY (i p : Nat) : Fld := ⟨(R.TSN_GPTP_DLY i p), 0, 32⟩
def F.TSN_MAXSDU_LEN (q : Nat) : Fld := ⟨(R.TSN_MAXSDU q), 0, 16⟩
def F.TSN_GPTP_ASYM_NS (i p : Nat) : Fld := ⟨(R.TSN_GPTP_ASYM i p), 0, 32⟩
def F.GWY_ROUTE_ENABLE (r : Nat) : Fld := ⟨(R.GWY_ROUTE r), 0, 1⟩

/-! ## The register map, block by block -/

def rowsIrq0 : List RegRow := [
  ⟨"IRQ_PEND", 0x10030100, 0x4, 32, 0x4, 1, 0x0, 0x0, 0x0, 0x0, 0x0, 0x0, 0, false, [(0, 32)]⟩,
  ⟨"IRQ_HEAD", 0x10030200, 0x4, 1, 0x4, 1, 0x0, 0x0, 0x0, 0x0, 0x0, 0x0, 0, false, [(31, 1), (16, 4), (0, 10)]⟩,
  ⟨"IRQ_EOI", 0x10030204, 0x4, 1, 0x4, 1, 0x0, 0x0, 0x0, 0x0, 0x0, 0x0, 0, false, [(0, 10)]⟩,
  ⟨"IRQ_PMASK", 0x10030208, 0x4, 1, 0x4, 1, 0x10, 0x1F, 0x0, 0x0, 0x0, 0x0, 0, false, [(0, 5)]⟩,
  ⟨"IRQ_DOORBELL", 0x1003020C, 0x4, 1, 0x4, 1, 0x0, 0x0, 0x0, 0x0, 0x0, 0x0, 0, false, [(0, 10)]⟩,
  ⟨"IRQ_RINGMASK", 0x10032000, 0x4, 256, 0x4, 1, 0x0, 0x1FFFF, 0x0, 0x0, 0x1FFFF, 0x1FFFF, 0, false, [(16, 1), (0, 16)]⟩,
  ⟨"IRQ_ROUTE", 0x10031000, 0x4, 1024, 0x4, 1, 0x3F, 0x10F3F, 0x0, 0x0, 0x10F3F, 0x10F3F, 0, false, [(16, 1), (8, 4), (0, 6)]⟩,
  ⟨"IRQ_CLAIM_POP", 0x10038000, 0x4, 1, 0x4, 1, 0x0, 0x0, 0x0, 0x0, 0x0, 0x0, 0, false, []⟩]
def rowsIrq : List RegRow := rowsIrq0
def rowsTbs0 : List RegRow := [
  ⟨"TBS_NOW_LO", 0x10040000, 0x4, 1, 0x4, 1, 0x0, 0x0, 0x0, 0x0, 0x0, 0x0, 0, true, [(0, 32)]⟩,
  ⟨"TBS_NOW_HI", 0x10040004, 0x4, 1, 0x4, 1, 0x0, 0x0, 0x0, 0x0, 0x0, 0x0, 0, false, [(0, 32)]⟩,
  ⟨"TBS_STATUS", 0x10040008, 0x4, 1, 0x4, 1, 0x0, 0x0, 0x0, 0x0, 0x0, 0x0, 0, false, [(16, 16), (4, 1), (3, 1), (2, 1), (0, 2)]⟩,
  ⟨"TBS_OFFSET", 0x1004000C, 0x4, 1, 0x4, 1, 0x0, 0x0, 0x0, 0x0, 0x0, 0x0, 0, false, [(0, 32)]⟩,
  ⟨"TBS_RATE", 0x10040010, 0x4, 1, 0x4, 1, 0x0, 0x0, 0x0, 0x0, 0x0, 0x0, 0, false, [(0, 32)]⟩,
  ⟨"TBS_CFG", 0x10040014, 0x4, 1, 0x4, 1, 0x140FA0, 0x0, 0x0, 0x7FFFFF, 0x0, 0x0, 0, false, [(16, 7), (2, 14), (0, 2)]⟩,
  ⟨"TBS_ALIGN_ISL", 0x10040018, 0x4, 1, 0x4, 1, 0x0, 0x0, 0x0, 0x0, 0x0, 0x0, 0, false, [(0, 10)]⟩,
  ⟨"TBS_ALIGN_BANK", 0x1004001C, 0x4, 1, 0x4, 1, 0x0, 0x0, 0x0, 0x0, 0x0, 0x0, 0, false, [(0, 32)]⟩,
  ⟨"TBS_CMP_LO", 0x10040100, 0x10, 16, 0x4, 1, 0x0, 0xFFFFFFFF, 0x0, 0x0, 0x0, 0x0, 0, true, [(0, 32)]⟩,
  ⟨"TBS_CMP_HI", 0x10040104, 0x10, 16, 0x4, 1, 0x0, 0xFFFFFFFF, 0x0, 0x0, 0x0, 0x0, 0, false, [(0, 32)]⟩,
  ⟨"TBS_CMP_CTL", 0x10040108, 0x10, 16, 0x4, 1, 0x0, 0x1, 0x0, 0x0, 0x0, 0x0, 0, false, [(2, 1), (1, 1), (0, 1)]⟩]
def rowsTbs : List RegRow := rowsTbs0
def rowsMbx0 : List RegRow := [
  ⟨"MBX_ID", 0x10000000, 0x1000, 16, 0x4, 1, 0x400000, 0x0, 0x0, 0x0, 0x0, 0x0, 1, false, [(16, 16), (8, 1), (0, 5)]⟩,
  ⟨"MBX_CTL", 0x10000004, 0x1000, 16, 0x4, 1, 0x0, 0x3, 0x0, 0x0, 0x0, 0x0, 0, false, [(1, 1), (0, 1)]⟩,
  ⟨"MBX_REQ_BASE_LO", 0x10000008, 0x1000, 16, 0x4, 1, 0x0, 0xFFFFF000, 0x0, 0x0, 0xFFFFF000, 0x0, 0, true, [(12, 20)]⟩,
  ⟨"MBX_REQ_BASE_HI", 0x1000000C, 0x1000, 16, 0x4, 1, 0x0, 0xFF, 0x0, 0x0, 0xFF, 0x0, 0, false, [(0, 8)]⟩,
  ⟨"MBX_REQ_PROD", 0x10000020, 0x1000, 16, 0x4, 1, 0x0, 0xFFFF, 0x0, 0x0, 0x0, 0x0, 0, false, [(0, 16)]⟩,
  ⟨"MBX_REQ_CONS", 0x10000024, 0x1000, 16, 0x4, 1, 0x0, 0x0, 0x0, 0x0, 0x0, 0x0, 0, false, [(0, 16)]⟩,
  ⟨"MBX_RSP_PROD", 0x10000028, 0x1000, 16, 0x4, 1, 0x0, 0x0, 0x0, 0x0, 0x0, 0x0, 0, false, [(0, 16)]⟩,
  ⟨"MBX_RSP_CONS", 0x1000002C, 0x1000, 16, 0x4, 1, 0x0, 0xFFFF, 0x0, 0x0, 0x0, 0x0, 0, false, [(0, 16)]⟩,
  ⟨"MBX_STATUS", 0x10000030, 0x1000, 16, 0x4, 1, 0x0, 0x0, 0x0, 0x0, 0x0, 0x0, 0, false, [(16, 8), (8, 1), (0, 7)]⟩,
  ⟨"MBX_ERR", 0x10000034, 0x1000, 16, 0x4, 1, 0x0, 0x0, 0xF, 0x0, 0x0, 0x0, 0, false, [(3, 1), (2, 1), (1, 1), (0, 1)]⟩,
  ⟨"MBX_LATE_CNT", 0x10000038, 0x1000, 16, 0x4, 1, 0x0, 0x0, 0x0, 0x0, 0x0, 0x0, 0, false, [(0, 16)]⟩,
  ⟨"MBX_RSP_BASE_LO", 0x10000010, 0x1000, 16, 0x4, 1, 0x0, 0xFFFFF000, 0x0, 0x0, 0xFFFFF000, 0x0, 0, true, [(12, 20)]⟩]
def rowsMbx1 : List RegRow := [
  ⟨"MBX_RSP_BASE_HI", 0x10000014, 0x1000, 16, 0x4, 1, 0x0, 0xFF, 0x0, 0x0, 0xFF, 0x0, 0, false, [(0, 8)]⟩]
def rowsMbx : List RegRow := rowsMbx0 ++ rowsMbx1
def rowsMbx160 : List RegRow := [
  ⟨"MBX_ID", 0x10050000, 0x4, 1, 0x4, 1, 0x400110, 0x0, 0x0, 0x0, 0x0, 0x0, 1, false, [(16, 16), (8, 1), (0, 5)]⟩,
  ⟨"MBX_CTL", 0x10050004, 0x4, 1, 0x4, 1, 0x0, 0x3, 0x0, 0x0, 0x0, 0x0, 0, false, [(1, 1), (0, 1)]⟩,
  ⟨"MBX_REQ_BASE_LO", 0x10050008, 0x4, 1, 0x4, 1, 0x0, 0xFFFFF000, 0x0, 0x0, 0xFFFFF000, 0x0, 0, true, [(12, 20)]⟩,
  ⟨"MBX_REQ_BASE_HI", 0x1005000C, 0x4, 1, 0x4, 1, 0x0, 0xFF, 0x0, 0x0, 0xFF, 0x0, 0, false, [(0, 8)]⟩,
  ⟨"MBX_REQ_PROD", 0x10050020, 0x4, 1, 0x4, 1, 0x0, 0xFFFF, 0x0, 0x0, 0x0, 0x0, 0, false, [(0, 16)]⟩,
  ⟨"MBX_REQ_CONS", 0x10050024, 0x4, 1, 0x4, 1, 0x0, 0x0, 0x0, 0x0, 0x0, 0x0, 0, false, [(0, 16)]⟩,
  ⟨"MBX_RSP_PROD", 0x10050028, 0x4, 1, 0x4, 1, 0x0, 0x0, 0x0, 0x0, 0x0, 0x0, 0, false, [(0, 16)]⟩,
  ⟨"MBX_RSP_CONS", 0x1005002C, 0x4, 1, 0x4, 1, 0x0, 0xFFFF, 0x0, 0x0, 0x0, 0x0, 0, false, [(0, 16)]⟩,
  ⟨"MBX_STATUS", 0x10050030, 0x4, 1, 0x4, 1, 0x0, 0x0, 0x0, 0x0, 0x0, 0x0, 0, false, [(16, 8), (8, 1), (0, 7)]⟩,
  ⟨"MBX_ERR", 0x10050034, 0x4, 1, 0x4, 1, 0x0, 0x0, 0xF, 0x0, 0x0, 0x0, 0, false, [(3, 1), (2, 1), (1, 1), (0, 1)]⟩,
  ⟨"MBX_LATE_CNT", 0x10050038, 0x4, 1, 0x4, 1, 0x0, 0x0, 0x0, 0x0, 0x0, 0x0, 0, false, [(0, 16)]⟩,
  ⟨"MBX_RSP_BASE_LO", 0x10050010, 0x4, 1, 0x4, 1, 0x0, 0xFFFFF000, 0x0, 0x0, 0xFFFFF000, 0x0, 0, true, [(12, 20)]⟩]
def rowsMbx161 : List RegRow := [
  ⟨"MBX_RSP_BASE_HI", 0x10050014, 0x4, 1, 0x4, 1, 0x0, 0xFF, 0x0, 0x0, 0xFF, 0x0, 0, false, [(0, 8)]⟩]
def rowsMbx16 : List RegRow := rowsMbx160 ++ rowsMbx161
def rowsTs0 : List RegRow := [
  ⟨"PFB_TS_SEL", 0x10304000, 0x4, 1, 0x4, 1, 0x0, 0x0, 0x0, 0x0, 0x0, 0x0, 0, false, [(16, 16), (0, 1)]⟩,
  ⟨"PFB_TS_STAMP_LO", 0x10301000, 0x2000, 2, 0x4, 1, 0x0, 0x0, 0x0, 0x0, 0x0, 0x0, 0, true, [(0, 32)]⟩,
  ⟨"PFB_TS_STAMP_HI", 0x10301004, 0x2000, 2, 0x4, 1, 0x0, 0x0, 0x0, 0x0, 0x0, 0x0, 0, false, [(0, 32)]⟩,
  ⟨"PFB_TS_A", 0x10300000, 0x2000, 2, 0x8, 512, 0x0, 0x0, 0x0, 0x0, 0x0, 0x0, 0, false, [(26, 3), (25, 1), (16, 8), (12, 4), (0, 12)]⟩,
  ⟨"PFB_TS_B", 0x10300004, 0x2000, 2, 0x8, 512, 0x0, 0x0, 0x0, 0x0, 0x0, 0x0, 0, false, [(28, 4), (26, 2), (25, 1), (24, 1), (23, 1), (22, 1), (21, 1), (20, 1), (12, 8), (0, 12)]⟩]
def rowsTs : List RegRow := rowsTs0
def rowsBank0 : List RegRow := [
  ⟨"PFB_CELL_CFG0", 0x10810100, 0x1000, 32, 0x20, 16, 0x14930108, 0xFFFF071F, 0x0, 0x0, 0x0, 0x0, 0, false, [(28, 4), (24, 4), (20, 4), (16, 4), (10, 1), (8, 2), (0, 5)]⟩,
  ⟨"PFB_CELL_CFG1", 0x10810104, 0x1000, 32, 0x20, 16, 0x3000C81, 0xFFF7FFF, 0x0, 0x7FFF, 0x30000, 0x0, 0, false, [(24, 4), (23, 1), (20, 3), (18, 2), (16, 2), (4, 11), (2, 2), (0, 2)]⟩,
  ⟨"PFB_CELL_CFG2", 0x10810108, 0x1000, 32, 0x20, 16, 0x141C10, 0xFFFFFF, 0x0, 0x0, 0x0, 0x0, 0, false, [(16, 8), (8, 8), (0, 8)]⟩]
def rowsBank : List RegRow := rowsBank0
def rowsHub0 : List RegRow := [
  ⟨"PFB_GANG_DEF", 0x10801000, 0x40, 64, 0x4, 1, 0x0, 0x80000003, 0x0, 0x0, 0x80000003, 0x0, 0, false, [(31, 1), (16, 7), (0, 2)]⟩,
  ⟨"PFB_GANG_MEM", 0x10801004, 0x40, 64, 0x4, 4, 0x0, 0xFFFFFFFF, 0x0, 0x0, 0xFFFFFFFF, 0x0, 0, false, [(0, 32)]⟩,
  ⟨"PFB_GANG_CFG1", 0x10801018, 0x40, 64, 0x4, 1, 0x140C81, 0xE0FF7FFF, 0x0, 0x7FFF, 0xE0000000, 0x0, 0, false, [(31, 1), (29, 2), (16, 8), (4, 11), (2, 2), (0, 2)]⟩,
  ⟨"PFB_GANG_STAT", 0x10801020, 0x40, 64, 0x4, 1, 0x0, 0x0, 0x0, 0x0, 0x0, 0x0, 0, false, [(29, 3), (27, 2), (26, 1), (25, 1), (24, 1), (23, 1), (22, 1), (18, 4), (14, 4), (10, 4), (0, 8)]⟩,
  ⟨"PFB_GANG_ISUM", 0x10801024, 0x40, 64, 0x4, 1, 0x0, 0x0, 0x0, 0x0, 0x0, 0x0, 0, false, [(23, 9), (15, 1), (0, 15)]⟩,
  ⟨"PFB_BRG_CFG0", 0x10802000, 0x20, 32, 0x4, 1, 0x3014, 0x8FFFFFFF, 0x0, 0x0, 0x8FFF0000, 0x0, 0, false, [(31, 1), (22, 6), (16, 6), (12, 4), (10, 2), (0, 10)]⟩,
  ⟨"PFB_BRG_CFG1", 0x10802004, 0x20, 32, 0x4, 1, 0xC81, 0x377FF3, 0x0, 0x77FF3, 0x300000, 0x0, 0, false, [(20, 2), (16, 3), (4, 11), (0, 2)]⟩,
  ⟨"PFB_BRG_STAT", 0x10802008, 0x20, 32, 0x4, 1, 0x0, 0x0, 0x0, 0x0, 0x0, 0x0, 0, false, [(29, 3), (26, 3), (25, 1), (24, 1), (23, 1), (22, 1), (18, 4), (14, 4), (10, 4), (0, 8)]⟩,
  ⟨"PFB_PEXP", 0x10803000, 0x4, 512, 0x4, 1, 0x80000000, 0xF8FFFFFF, 0x0, 0xF8FFFFFF, 0x0, 0x0, 0, false, [(29, 3), (28, 1), (27, 1), (12, 12), (0, 12)]⟩,
  ⟨"PFB_FEED_CFG0", 0x10804000, 0x10, 4, 0x4, 1, 0x8207464, 0x7FE3FE7F, 0x0, 0x7FE3FE7F, 0x0, 0x0, 0, false, [(21, 10), (9, 9), (0, 7)]⟩,
  ⟨"PFB_FEED_CFG1", 0x10804004, 0x10, 4, 0x4, 1, 0x640A0A, 0x3FFFFFFF, 0x0, 0x3FFFFFFF, 0x0, 0x0, 0, false, [(16, 14), (8, 8), (0, 8)]⟩,
  ⟨"PFB_FEED_STAT", 0x10804008, 0x10, 4, 0x4, 1, 0x0, 0x0, 0x0, 0x0, 0x0, 0x0, 0, false, [(31, 1), (30, 1), (29, 1), (28, 1), (12, 15), (0, 12)]⟩]
def rowsHub1 : List RegRow := [
  ⟨"PFB_FEED_USED", 0x1080400C, 0x10, 4, 0x4, 1, 0x0, 0x0, 0x0, 0x0, 0x0, 0x0, 0, false, [(16, 16), (0, 8)]⟩,
  ⟨"PFB_HEAT_CFG", 0x10804040, 0x4, 1, 0x4, 1, 0x10258, 0x103FF, 0x0, 0x103FF, 0x0, 0x0, 0, false, [(16, 1), (0, 10)]⟩,
  ⟨"PFB_HEAT_STAT", 0x10804044, 0x4, 1, 0x4, 1, 0x258, 0x0, 0x0, 0x0, 0x0, 0x0, 0, false, [(22, 10), (12, 10), (11, 1), (0, 10)]⟩,
  ⟨"PFB_GOV_CFG", 0x10804048, 0x4, 1, 0x4, 1, 0x32003C, 0xFF0FFF, 0x0, 0xFF0FFF, 0x0, 0x0, 0, false, [(16, 8), (0, 12)]⟩,
  ⟨"PFB_ALLOT", 0x10805000, 0x8, 18, 0x4, 1, 0x0, 0xFFFFF, 0x0, 0xFFFFF, 0x0, 0x0, 0, false, [(0, 20)]⟩,
  ⟨"PFB_ALLOT_USED", 0x10805004, 0x8, 18, 0x4, 1, 0x0, 0x0, 0x0, 0x0, 0x0, 0x0, 0, false, [(24, 8), (23, 1), (0, 20)]⟩,
  ⟨"PFB_BUD", 0x10806000, 0x4, 608, 0x4, 1, 0xC0000640, 0xC00FFFFF, 0x0, 0xC00FFFFF, 0x0, 0x0, 0, false, [(30, 2), (29, 1), (28, 1), (27, 1), (26, 1), (0, 20)]⟩,
  ⟨"PFB_THERM", 0x10804050, 0x4, 1, 0x4, 1, 0x258000, 0x0, 0x0, 0x0, 0x0, 0x0, 0, false, [(24, 8), (12, 10), (0, 8)]⟩,
  ⟨"PFB_GANG_CFG0", 0x10801014, 0x40, 64, 0x4, 1, 0x14930108, 0xFFFF071F, 0x0, 0x0, 0x0, 0x0, 0, false, [(28, 4), (24, 4), (20, 4), (16, 4), (10, 1), (8, 2), (0, 5)]⟩,
  ⟨"PFB_MTR_E_DEL_LO", 0x10808000, 0x10, 632, 0x4, 1, 0x0, 0x0, 0x0, 0x0, 0x0, 0x0, 0, true, []⟩,
  ⟨"PFB_MTR_E_DEL_HI", 0x10808004, 0x10, 632, 0x4, 1, 0x0, 0x0, 0x0, 0x0, 0x0, 0x0, 0, false, []⟩,
  ⟨"PFB_MTR_E_RET_LO", 0x10808008, 0x10, 632, 0x4, 1, 0x0, 0x0, 0x0, 0x0, 0x0, 0x0, 0, true, []⟩]
def rowsHub2 : List RegRow := [
  ⟨"PFB_MTR_E_RET_HI", 0x1080800C, 0x10, 632, 0x4, 1, 0x0, 0x0, 0x0, 0x0, 0x0, 0x0, 0, false, []⟩]
def rowsHub : List RegRow := rowsHub0 ++ rowsHub1 ++ rowsHub2
def rowsCyc0 : List RegRow := [
  ⟨"CYC_STATE", 0x10900000, 0x4, 1, 0x4, 1, 0x0, 0x0, 0x0, 0x0, 0x0, 0x0, 0, false, [(26, 3), (17, 9), (16, 1), (8, 7), (5, 1), (4, 1), (3, 1), (2, 1), (0, 2)]⟩,
  ⟨"CYC_CFG", 0x10900004, 0x4, 1, 0x4, 1, 0x3F0000, 0x3F0002, 0x0, 0x0, 0x3F0002, 0x0, 0, false, [(16, 6), (1, 1)]⟩,
  ⟨"CYC_HYPER", 0x10900008, 0x4, 1, 0x4, 1, 0x0, 0x0, 0x0, 0x0, 0x0, 0x0, 0, false, [(0, 24)]⟩,
  ⟨"CYC_TASK_CFG", 0x10900100, 0x10, 8, 0x4, 1, 0x0, 0xFFFFFFFF, 0x0, 0x0, 0xFFFFFFFF, 0x0, 0, false, [(20, 12), (8, 12), (4, 4), (1, 3), (0, 1)]⟩,
  ⟨"CYC_TASK_ECFG", 0x10900180, 0x10, 16, 0x4, 1, 0x0, 0xFFFFFFFF, 0x0, 0x0, 0xFFFFFFFF, 0x0, 0, false, [(20, 12), (17, 3), (7, 10), (4, 3), (1, 3), (0, 1)]⟩,
  ⟨"CYC_TASK_STAT", 0x10900104, 0x10, 24, 0x4, 1, 0x0, 0x0, 0x0, 0x0, 0x0, 0x0, 0, false, [(29, 3), (25, 4), (24, 1), (16, 8), (0, 16)]⟩,
  ⟨"CYC_TASK_CNT", 0x10900108, 0x10, 24, 0x4, 1, 0x0, 0x0, 0x0, 0x0, 0x0, 0x0, 0, false, [(16, 16), (0, 16)]⟩,
  ⟨"CYC_TASK_OWN", 0x1090010C, 0x10, 24, 0x4, 1, 0x3F, 0x3F, 0x0, 0x0, 0x3F, 0x0, 0, false, [(16, 16), (0, 6)]⟩]
def rowsCyc : List RegRow := rowsCyc0
def rowsRing0 : List RegRow := [
  ⟨"SWC_RING_CTL", 0x10100000, 0x1000, 64, 0x4, 1, 0x3F000000, 0x77, 0x0, 0x0, 0x70, 0x0, 0, false, [(24, 6), (23, 1), (4, 3), (2, 1), (1, 1), (0, 1)]⟩,
  ⟨"SWC_RING_TXBASE_LO", 0x10100008, 0x1000, 64, 0x4, 1, 0x0, 0xFFFFFFC0, 0x0, 0x0, 0xFFFFFFC0, 0x0, 0, true, [(6, 26)]⟩,
  ⟨"SWC_RING_TX_PROD", 0x10100020, 0x1000, 64, 0x4, 1, 0x0, 0xFFFF, 0x0, 0x0, 0x0, 0x0, 0, false, [(0, 16)]⟩,
  ⟨"SWC_RING_TXBASE_HI", 0x1010000C, 0x1000, 64, 0x4, 1, 0x0, 0xFF, 0x0, 0x0, 0xFF, 0x0, 0, false, [(0, 8)]⟩,
  ⟨"SWC_RING_RXBASE_LO", 0x10100010, 0x1000, 64, 0x4, 1, 0x0, 0xFFFFFFC0, 0x0, 0x0, 0xFFFFFFC0, 0x0, 0, true, [(6, 26)]⟩,
  ⟨"SWC_RING_RXBASE_HI", 0x10100014, 0x1000, 64, 0x4, 1, 0x0, 0xFF, 0x0, 0x0, 0xFF, 0x0, 0, false, [(0, 8)]⟩,
  ⟨"SWC_RING_MACL", 0x10100040, 0x1000, 64, 0x8, 4, 0x0, 0x0, 0x0, 0x0, 0x0, 0x0, 0, false, [(0, 32)]⟩,
  ⟨"SWC_RING_MACH", 0x10100044, 0x1000, 64, 0x8, 4, 0x0, 0x0, 0x0, 0x0, 0x0, 0x0, 0, false, [(31, 1), (0, 16)]⟩,
  ⟨"SWC_RING_TX_DONE", 0x10100024, 0x1000, 64, 0x4, 1, 0x0, 0x0, 0x0, 0x0, 0x0, 0x0, 0, false, [(0, 16)]⟩,
  ⟨"SWC_RING_RX_FILL", 0x10100028, 0x1000, 64, 0x4, 1, 0x0, 0xFFFF, 0x0, 0x0, 0x0, 0x0, 0, false, [(0, 16)]⟩,
  ⟨"SWC_RING_RX_DONE", 0x1010002C, 0x1000, 64, 0x4, 1, 0x0, 0x0, 0x0, 0x0, 0x0, 0x0, 0, false, [(0, 16)]⟩]
def rowsRing : List RegRow := rowsRing0
def rowsSwc0 : List RegRow := [
  ⟨"SWC_PORT_CFG0", 0x10A00000, 0x40, 4, 0x4, 1, 0x40A05F2, 0xFF3F3FFF, 0x0, 0x3000000, 0x78000000, 0x0, 0, false, [(31, 1), (28, 3), (27, 1), (26, 1), (24, 2), (16, 6), (0, 14)]⟩,
  ⟨"SWC_PORT_CFG0", 0x10A00100, 0x40, 12, 0x4, 1, 0x340A05F2, 0xFF3F3FFF, 0x0, 0x3000000, 0x78000000, 0x0, 0, false, [(31, 1), (28, 3), (27, 1), (26, 1), (24, 2), (16, 6), (0, 14)]⟩,
  ⟨"SWC_PORT_CFG0", 0x10A00400, 0x40, 8, 0x4, 1, 0x540A05F2, 0xFF3F3FFF, 0x0, 0x3000000, 0x78000000, 0x0, 0, false, [(31, 1), (28, 3), (27, 1), (26, 1), (24, 2), (16, 6), (0, 14)]⟩,
  ⟨"SWC_PORT_CFG0", 0x10A00600, 0x40, 4, 0x4, 1, 0x740A05F2, 0xFF3F3FFF, 0x0, 0x3000000, 0x78000000, 0x0, 0, false, [(31, 1), (28, 3), (27, 1), (26, 1), (24, 2), (16, 6), (0, 14)]⟩,
  ⟨"SWC_PORT_CFG1", 0x10A00004, 0x40, 28, 0x4, 1, 0x108020, 0xFFFFFFFF, 0x0, 0xFFF00000, 0xFFFFF, 0x0, 0, false, [(20, 12), (19, 1), (16, 3), (12, 4), (8, 4), (0, 8)]⟩,
  ⟨"SWC_PORT_CFG2", 0x10A00008, 0x40, 28, 0x4, 1, 0xFAC688, 0x3FFFFFF, 0x0, 0x0, 0x0, 0x0, 0, false, [(25, 1), (24, 1), (0, 24)]⟩,
  ⟨"SWC_PORT_STAT", 0x10A0000C, 0x40, 28, 0x4, 1, 0x0, 0x0, 0x0, 0x0, 0x0, 0x0, 0, false, [(31, 1), (28, 3), (27, 1), (26, 1), (0, 16)]⟩,
  ⟨"SWC_Q_CFG0", 0x10A02000, 0x40, 224, 0x4, 1, 0x20000010, 0xFFFF07FF, 0x0, 0x7FF, 0x0, 0x0, 0, false, [(16, 16), (0, 11)]⟩,
  ⟨"SWC_Q_CFG1", 0x10A02004, 0x40, 224, 0x4, 1, 0x90, 0xF6, 0x0, 0x4, 0x0, 0x0, 0, false, [(4, 4), (2, 1), (1, 1)]⟩,
  ⟨"SWC_SHARE", 0x10A06000, 0x4, 18, 0x4, 1, 0x800, 0xFFFF, 0x0, 0xFFFF, 0x0, 0x0, 0, false, [(16, 16), (0, 16)]⟩,
  ⟨"SWC_POOL_STAT", 0x10A06100, 0x4, 1, 0x4, 1, 0x10000, 0x0, 0x0, 0x0, 0x0, 0x0, 0, false, [(0, 17)]⟩,
  ⟨"SWC_AUDIT_STAT", 0x10A06104, 0x4, 1, 0x4, 1, 0x0, 0x0, 0x0, 0x0, 0x0, 0x0, 0, false, [(16, 16), (8, 8), (1, 1), (0, 1)]⟩]
def rowsSwc1 : List RegRow := [
  ⟨"SWC_FDB_CFG", 0x10A06108, 0x4, 1, 0x4, 1, 0x12C, 0xFFF, 0x0, 0xFFF, 0x0, 0x0, 0, false, [(0, 12)]⟩,
  ⟨"SWC_Q_RED_TH", 0x10A02008, 0x40, 224, 0x8, 3, 0x0, 0xFFFFFFFF, 0x0, 0x0, 0x0, 0x0, 0, false, [(16, 16), (0, 16)]⟩,
  ⟨"SWC_Q_RED_P", 0x10A0200C, 0x40, 224, 0x8, 3, 0x0, 0x3FF, 0x0, 0x0, 0x0, 0x0, 0, false, [(9, 1), (8, 1), (0, 8)]⟩,
  ⟨"SWC_Q_STAT", 0x10A02020, 0x40, 224, 0x4, 1, 0x0, 0x0, 0x0, 0x0, 0x0, 0x0, 0, false, [(16, 16), (0, 16)]⟩]
def rowsSwc : List RegRow := rowsSwc0 ++ rowsSwc1
def rowsTsn0 : List RegRow := [
  ⟨"TSN_GATE_CTL", 0x10B00000, 0x40, 28, 0x4, 1, 0xFF00, 0x8000FF00, 0x0, 0x80000000, 0x0, 0x0, 0, false, [(31, 1), (8, 8), (2, 1), (1, 1)]⟩,
  ⟨"TSN_GATE_STAT", 0x10B00004, 0x40, 28, 0x4, 1, 0xFF000000, 0x0, 0x0, 0x0, 0x0, 0x0, 0, false, [(24, 8), (8, 1), (0, 8)]⟩,
  ⟨"TSN_CBS", 0x10B01000, 0x20, 28, 0x4, 8, 0x0, 0x800FFFFF, 0x0, 0x0, 0x0, 0x0, 0, false, [(31, 1), (0, 20)]⟩,
  ⟨"TSN_PRE_CFG", 0x10B02000, 0x10, 16, 0x4, 1, 0xA000, 0xF00FF0FF, 0x0, 0x0, 0xF00FF0FF, 0x0, 0, false, [(31, 1), (30, 1), (28, 2), (12, 8), (0, 8)]⟩,
  ⟨"TSN_PRE_STAT", 0x10B02004, 0x10, 16, 0x4, 1, 0x0, 0x0, 0x0, 0x0, 0x0, 0x0, 0, false, [(29, 3), (28, 1), (0, 16)]⟩,
  ⟨"TSN_FA_CFG", 0x10B04000, 0x4, 1, 0x4, 1, 0x78000000, 0xF8FFFFFF, 0x0, 0xF8FFFFFF, 0x0, 0x0, 0, false, [(31, 1), (30, 1), (27, 3), (0, 24)]⟩,
  ⟨"TSN_FA_ETYPE", 0x10B04004, 0x4, 1, 0x4, 1, 0x88B6, 0xFFFF, 0x0, 0xFFFF, 0x0, 0x0, 0, false, [(0, 16)]⟩,
  ⟨"TSN_FA_SND_CFG", 0x10B04100, 0x10, 64, 0x4, 1, 0x3F0000, 0x803F00FF, 0x0, 0x803F00FF, 0x0, 0x0, 0, false, [(31, 1), (16, 6), (0, 8)]⟩,
  ⟨"TSN_FA_SND_SEQ_LO", 0x10B04104, 0x10, 64, 0x4, 1, 0x0, 0x0, 0x0, 0x0, 0x0, 0x0, 0, true, []⟩,
  ⟨"TSN_FA_SND_SEQ_HI", 0x10B04108, 0x10, 64, 0x4, 1, 0x0, 0x0, 0x0, 0x0, 0x0, 0x0, 0, false, []⟩]
def rowsTsn : List RegRow := rowsTsn0
def rowsCan0 : List RegRow := [
  ⟨"CAN_CTL", 0x10200000, 0x4000, 16, 0x4, 1, 0x0, 0x0, 0x0, 0x0, 0x0, 0x0, 0, false, [(28, 3), (27, 1), (26, 1), (25, 1), (24, 1), (10, 10)]⟩,
  ⟨"CAN_NBT", 0x10200004, 0x4000, 16, 0x4, 1, 0x3F1F3E0, 0x0, 0x0, 0x0, 0x0, 0x0, 0, false, [(27, 5), (19, 8), (12, 7), (5, 7)]⟩,
  ⟨"CAN_DBT", 0x10200008, 0x4000, 16, 0x4, 1, 0x79DE800, 0x0, 0x0, 0x0, 0x0, 0x0, 0, false, [(27, 5), (22, 5), (18, 4), (14, 4), (13, 1), (6, 7)]⟩,
  ⟨"CAN_STAT", 0x10200010, 0x4000, 16, 0x4, 1, 0x0, 0x0, 0x0, 0x0, 0x0, 0x0, 0, false, [(29, 3), (28, 1), (25, 3), (16, 8), (8, 8), (5, 3)]⟩,
  ⟨"CAN_CNT", 0x10200014, 0x4000, 16, 0x4, 1, 0x0, 0x0, 0x0, 0x0, 0x0, 0x0, 0, false, [(24, 8), (16, 8), (0, 16)]⟩,
  ⟨"CAN_AREA_LO", 0x10200018, 0x4000, 16, 0x4, 1, 0x0, 0x0, 0x0, 0x0, 0x0, 0x0, 0, true, [(12, 20)]⟩,
  ⟨"CAN_OBJ_ID", 0x10202000, 0x4000, 16, 0x4, 512, 0x0, 0xFFFFFFFF, 0x0, 0x0, 0x7FFFFFFF, 0x0, 0, false, [(31, 1), (30, 1), (29, 1), (0, 29)]⟩,
  ⟨"CAN_OBJ_CTL", 0x10202800, 0x4000, 16, 0x4, 512, 0x0, 0x0, 0x0, 0x0, 0x0, 0x0, 0, false, [(8, 1), (7, 1), (6, 1), (5, 1), (4, 1), (3, 1), (1, 1), (0, 1)]⟩,
  ⟨"CAN_OBJ_STAT", 0x10203000, 0x4000, 16, 0x4, 512, 0x0, 0x0, 0x0, 0x0, 0x0, 0x0, 0, false, [(27, 3), (26, 1), (25, 1), (24, 1), (23, 1), (22, 1), (21, 1), (20, 1), (19, 1), (18, 1), (0, 16)]⟩,
  ⟨"CAN_RXEVT_POP", 0x10201000, 0x4000, 16, 0x4, 1, 0x0, 0x0, 0x0, 0x0, 0x0, 0x0, 0, false, [(31, 1), (0, 9)]⟩,
  ⟨"CAN_TXEVT_POP", 0x10201004, 0x4000, 16, 0x4, 1, 0x0, 0x0, 0x0, 0x0, 0x0, 0x0, 0, false, [(31, 1), (24, 4), (0, 9)]⟩,
  ⟨"CAN_AREA_HI", 0x1020001C, 0x4000, 16, 0x4, 1, 0x0, 0x0, 0x0, 0x0, 0x0, 0x0, 0, false, [(0, 8)]⟩]
def rowsCan : List RegRow := rowsCan0
def rowsLin0 : List RegRow := [
  ⟨"LIN_CTL", 0x10280000, 0x1000, 8, 0x4, 1, 0x4B00, 0x0, 0x0, 0x0, 0x0, 0x0, 0, false, [(31, 1), (16, 4), (0, 16)]⟩,
  ⟨"LIN_STAT", 0x10280004, 0x1000, 8, 0x4, 1, 0x0, 0x0, 0x0, 0x0, 0x0, 0x0, 0, false, [(24, 8), (16, 8), (4, 6), (3, 1)]⟩,
  ⟨"LIN_BUF_CFG", 0x10280100, 0x1000, 8, 0x10, 64, 0x8, 0x3F, 0x0, 0x0, 0x3F, 0x0, 0, false, [(6, 4), (5, 1), (4, 1), (0, 4)]⟩,
  ⟨"LIN_BUF_ST", 0x1028010C, 0x1000, 8, 0x10, 64, 0x0, 0x0, 0x0, 0x0, 0x0, 0x0, 0, false, [(5, 3), (4, 1), (3, 1), (2, 1), (1, 1), (0, 1)]⟩,
  ⟨"LIN_BUF_DATA0", 0x10280104, 0x1000, 8, 0x10, 64, 0x0, 0x0, 0x0, 0x0, 0x0, 0x0, 0, false, []⟩,
  ⟨"LIN_BUF_DATA1", 0x10280108, 0x1000, 8, 0x10, 64, 0x0, 0x0, 0x0, 0x0, 0x0, 0x0, 0, false, []⟩]
def rowsLin : List RegRow := rowsLin0
def rowsGwy0 : List RegRow := [
  ⟨"GWY_BLOG_CTL", 0x10C01000, 0x4, 1, 0x4, 1, 0x0, 0x0, 0x0, 0x0, 0x0, 0x0, 0, false, [(16, 16), (0, 3)]⟩,
  ⟨"GWY_BLOG_INFO", 0x10C01014, 0x10, 8, 0x4, 1, 0x0, 0x0, 0x0, 0x0, 0x0, 0x0, 0, false, [(28, 4), (27, 1), (23, 4), (8, 8), (0, 8)]⟩,
  ⟨"GWY_BLOG_ADDR", 0x10C01010, 0x10, 8, 0x4, 1, 0x0, 0x0, 0x0, 0x0, 0x0, 0x0, 0, false, []⟩,
  ⟨"GWY_BLOG_TS_LO", 0x10C01018, 0x10, 8, 0x4, 1, 0x0, 0x0, 0x0, 0x0, 0x0, 0x0, 0, true, []⟩,
  ⟨"GWY_BLOG_TS_HI", 0x10C0101C, 0x10, 8, 0x4, 1, 0x0, 0x0, 0x0, 0x0, 0x0, 0x0, 0, false, []⟩]
def rowsGwy : List RegRow := rowsGwy0
def rowsWak0 : List RegRow := [
  ⟨"WAK_CFG0", 0x10D00000, 0x4, 1, 0x4, 1, 0x3E81484, 0x3FFF3FFF, 0x0, 0x3FFF3FFF, 0x0, 0x0, 0, false, [(16, 14), (8, 6), (7, 1), (6, 1), (5, 1), (0, 5)]⟩,
  ⟨"WAK_CFG1", 0x10D00004, 0x4, 1, 0x4, 1, 0xA01, 0xFF03, 0x0, 0xFF03, 0x0, 0x0, 0, false, [(8, 8), (0, 2)]⟩,
  ⟨"WAK_ARM", 0x10D00008, 0x4, 1, 0x4, 1, 0xF0000000, 0xF0FFFFFF, 0x0, 0x0, 0x0, 0x0, 0, false, [(31, 1), (30, 1), (29, 1), (28, 1), (16, 8), (0, 16)]⟩,
  ⟨"WAK_ARM_ETH", 0x10D0000C, 0x4, 1, 0x4, 1, 0x0, 0xFFFFFFFF, 0x0, 0xFFFF0000, 0x0, 0x0, 0, false, [(16, 16), (0, 16)]⟩,
  ⟨"WAK_STAT", 0x10D00010, 0x4, 1, 0x4, 1, 0x0, 0x0, 0x0, 0x0, 0x0, 0x0, 0, false, [(30, 2), (29, 1), (28, 1), (27, 1), (26, 1), (25, 1), (0, 17)]⟩,
  ⟨"WAK_CAUSE", 0x10D00014, 0x4, 1, 0x4, 1, 0xF00, 0x0, 0x0, 0x0, 0x0, 0x0, 0, false, [(31, 1), (30, 1), (29, 1), (8, 4), (0, 8)]⟩,
  ⟨"WAK_CAUSE_CAN", 0x10D00018, 0x4, 1, 0x4, 1, 0x0, 0x0, 0x0, 0x0, 0x0, 0x0, 0, false, [(16, 16), (0, 16)]⟩,
  ⟨"WAK_CAUSE_NET", 0x10D0001C, 0x4, 1, 0x4, 1, 0x0, 0x0, 0x0, 0x0, 0x0, 0x0, 0, false, [(16, 8), (0, 16)]⟩,
  ⟨"WAK_FIRST_LO", 0x10D00020, 0x4, 1, 0x4, 1, 0x0, 0x0, 0x0, 0x0, 0x0, 0x0, 0, true, []⟩,
  ⟨"WAK_FIRST_HI", 0x10D00024, 0x4, 1, 0x4, 1, 0x0, 0x0, 0x0, 0x0, 0x0, 0x0, 0, false, []⟩,
  ⟨"WAK_COUNT", 0x10D00028, 0x4, 1, 0x4, 1, 0x0, 0x0, 0x0, 0x0, 0x0, 0x0, 0, false, [(16, 16), (0, 16)]⟩]
def rowsWak : List RegRow := rowsWak0
def rowsHdg0 : List RegRow := [
  ⟨"HDG_CFG", 0x10D80000, 0x4, 1, 0x4, 1, 0x800000, 0xFF80FF00, 0x0, 0x180FF00, 0xFE000000, 0x0, 0, false, [(30, 2), (25, 5), (24, 1), (23, 1), (8, 8)]⟩,
  ⟨"HDG_STAT", 0x10D80004, 0x4, 1, 0x4, 1, 0x0, 0x0, 0x0, 0x0, 0x0, 0x0, 0, false, [(29, 3), (28, 1), (27, 1), (26, 1), (25, 1), (24, 1), (18, 6), (12, 6), (0, 11)]⟩,
  ⟨"HDG_RETAIN", 0x10D80008, 0x4, 1, 0x4, 1, 0x0, 0x0, 0x0, 0x0, 0x0, 0x0, 0, false, [(0, 11)]⟩,
  ⟨"HDG_HOP", 0x10D80010, 0x4, 2, 0x4, 1, 0x0, 0x0, 0x0, 0x0, 0x0, 0x0, 0, false, [(31, 1), (16, 8), (0, 16)]⟩,
  ⟨"HDG_ERR", 0x10D80018, 0x4, 1, 0x4, 1, 0x0, 0x0, 0x0, 0x0, 0x0, 0x0, 0, false, [(24, 8), (16, 8), (8, 8), (0, 8)]⟩,
  ⟨"HDG_GRANT_A", 0x10D80100, 0x8, 64, 0x4, 1, 0x0, 0xFC3F07FF, 0x0, 0xFC3F07FF, 0x0, 0x0, 0, false, [(31, 1), (30, 1), (26, 4), (16, 6), (0, 11)]⟩,
  ⟨"HDG_GRANT_B", 0x10D80104, 0x8, 64, 0x4, 1, 0x0, 0xFFF0FFF, 0x0, 0xFFF0FFF, 0x0, 0x0, 0, false, [(16, 12), (0, 12)]⟩]
def rowsHdg : List RegRow := rowsHdg0
def rowsMpc0 : List RegRow := [
  ⟨"MPC_CORE_PART", 0x10028000, 0x4, 6, 0x4, 1, 0x0, 0x8000001F, 0x0, 0x0, 0x0, 0x0, 0, false, [(31, 1), (0, 5)]⟩,
  ⟨"MPC_CORE_HNOTE", 0x10028020, 0x4, 6, 0x4, 1, 0x0, 0x0, 0x0, 0x0, 0x0, 0x0, 0, false, [(0, 16)]⟩,
  ⟨"MPC_PEVT", 0x10028040, 0x4, 1, 0x4, 1, 0x0, 0x0, 0xFFFF, 0x0, 0x0, 0x0, 0, false, [(0, 16)]⟩,
  ⟨"MPC_PART_CFG", 0x10028100, 0x10, 16, 0x4, 1, 0xFFFF0000, 0x0, 0x0, 0xFFFF0000, 0x0, 0x0, 0, false, [(16, 16), (15, 1), (14, 1), (12, 2), (8, 3), (0, 6)]⟩,
  ⟨"MPC_PART_STAT", 0x10028104, 0x10, 16, 0x4, 1, 0x0, 0x0, 0x0, 0x0, 0x0, 0x0, 0, false, [(29, 3), (28, 1), (24, 4), (0, 16)]⟩,
  ⟨"MPC_PART_REG", 0x10028108, 0x10, 16, 0x4, 1, 0x40000000, 0x0, 0x0, 0xC00FFFFF, 0x0, 0x0, 0, false, [(30, 2), (0, 20)]⟩,
  ⟨"MPC_PART_RSTAT", 0x1002810C, 0x10, 16, 0x4, 1, 0x0, 0x0, 0x0, 0x0, 0x0, 0x0, 0, false, [(20, 12), (0, 20)]⟩,
  ⟨"MPC_REG_CFG", 0x10028200, 0x4, 1, 0x4, 1, 0xFFFF0064, 0x0, 0x0, 0xFFFF03FF, 0x0, 0x0, 0, false, [(16, 16), (0, 10)]⟩,
  ⟨"MPC_R_START", 0x10020000, 0x1000, 6, 0x10, 32, 0x0, 0xFFFFFFF0, 0x0, 0x0, 0xFFFFFFF0, 0xFFFFFFF0, 0, false, [(4, 28)]⟩,
  ⟨"MPC_R_ATTR", 0x10020008, 0x1000, 6, 0x10, 32, 0x0, 0xFFC0FFFF, 0x0, 0x0, 0xFFC0FFFF, 0xFFC0FFFF, 0, false, [(31, 1), (30, 1), (29, 1), (28, 1), (27, 1), (26, 1), (25, 1), (24, 1), (23, 1), (22, 1), (0, 16)]⟩,
  ⟨"MPC_VIOL", 0x10020800, 0x1000, 6, 0x4, 1, 0x0, 0x0, 0x0, 0x0, 0x0, 0x0, 0, false, [(16, 16), (0, 16)]⟩,
  ⟨"MPC_GW_CFG", 0x10028300, 0x4, 1, 0x4, 1, 0x3E8003F, 0x0, 0x0, 0x0, 0x0, 0x0, 0, false, [(16, 14), (0, 6)]⟩]
def rowsMpc1 : List RegRow := [
  ⟨"MPC_GW_STAT", 0x10028304, 0x4, 1, 0x4, 1, 0x700, 0x0, 0x0, 0x0, 0x0, 0x0, 0, false, [(30, 2), (8, 3), (0, 6)]⟩,
  ⟨"MPC_GW_CALLER", 0x10028320, 0x4, 6, 0x4, 1, 0x0, 0x0, 0x0, 0x0, 0x0, 0x0, 0, false, [(31, 1), (30, 1), (0, 5)]⟩,
  ⟨"MPC_LC_STAT", 0x10028340, 0x4, 1, 0x4, 1, 0x0, 0x0, 0x0, 0x0, 0x0, 0x0, 0, false, [(7, 1), (5, 2), (4, 1), (3, 1), (2, 1), (0, 2)]⟩,
  ⟨"MPC_CPC", 0x10029000, 0x4, 64, 0x4, 1, 0x0, 0x3, 0x0, 0x0, 0x0, 0x0, 0, false, [(31, 1), (24, 6), (2, 1), (0, 2)]⟩,
  ⟨"MPC_R_END", 0x10020004, 0x1000, 6, 0x10, 32, 0x0, 0xFFFFFFF0, 0x0, 0x0, 0xFFFFFFF0, 0xFFFFFFF0, 0, false, [(4, 28)]⟩,
  ⟨"MPC_GW_HUNG_LO", 0x10028308, 0x4, 1, 0x4, 1, 0x0, 0x0, 0x0, 0x0, 0x0, 0x0, 0, true, []⟩,
  ⟨"MPC_GW_HUNG_HI", 0x1002830C, 0x4, 1, 0x4, 1, 0x0, 0x0, 0x0, 0x0, 0x0, 0x0, 0, false, []⟩]
def rowsMpc : List RegRow := rowsMpc0 ++ rowsMpc1
def rowsFlt0 : List RegRow := [
  ⟨"FLT_LS_CFG", 0x10016000, 0x40, 4, 0x4, 1, 0x30, 0x0, 0x0, 0x0, 0x0, 0x0, 0, false, [(8, 1), (4, 4), (0, 1)]⟩,
  ⟨"FLT_LS_STAT", 0x10016004, 0x40, 4, 0x4, 1, 0x0, 0x0, 0x0, 0x0, 0x0, 0x0, 0, false, [(29, 3), (28, 1), (26, 2), (16, 8), (8, 8), (4, 4)]⟩,
  ⟨"FLT_LS_MIS", 0x10016008, 0x40, 4, 0x4, 1, 0x0, 0x0, 0x0, 0x0, 0x0, 0x0, 0, false, [(28, 4), (26, 2), (24, 2), (0, 8)]⟩,
  ⟨"FLT_LS_CKPT", 0x10016018, 0x40, 4, 0x4, 1, 0x0, 0x0, 0x0, 0x0, 0x0, 0x0, 0, false, [(0, 1)]⟩,
  ⟨"FLT_CFG", 0x10010000, 0x4, 1, 0x4, 1, 0x320064, 0x0, 0x0, 0x1FFF3FFF, 0x0, 0x0, 0, false, [(16, 13), (0, 14)]⟩,
  ⟨"FLT_SYS", 0x10010004, 0x4, 1, 0x4, 1, 0x10, 0x0, 0x0, 0x3F, 0x0, 0x0, 0, false, [(0, 6)]⟩,
  ⟨"FLT_STAT", 0x10010008, 0x4, 1, 0x4, 1, 0x0, 0x0, 0x0, 0x0, 0x0, 0x0, 0, false, [(31, 1), (29, 2), (28, 1), (16, 8), (0, 16)]⟩,
  ⟨"FLT_FE_INFO", 0x10010100, 0x20, 3, 0x4, 1, 0x0, 0x0, 0x0, 0x0, 0x0, 0x0, 0, false, [(31, 1), (30, 1), (27, 3), (26, 1), (22, 4), (8, 8), (0, 8)]⟩,
  ⟨"FLT_FE_CODE", 0x10010104, 0x20, 3, 0x4, 1, 0x0, 0x0, 0x0, 0x0, 0x0, 0x0, 0, false, [(16, 16), (0, 16)]⟩,
  ⟨"FLT_NOTE_HEAD", 0x10010400, 0x4, 1, 0x4, 1, 0x0, 0x0, 0x0, 0x0, 0x0, 0x0, 0, false, [(31, 1), (30, 1), (29, 1), (28, 1), (12, 16), (0, 12)]⟩,
  ⟨"FLT_NOTE_ACK", 0x10010404, 0x4, 1, 0x4, 1, 0x0, 0x0, 0x0, 0x0, 0x0, 0x0, 0, false, [(0, 12)]⟩,
  ⟨"FLT_NOTE_CNT", 0x10010408, 0x4, 1, 0x4, 1, 0x0, 0x0, 0x0, 0x0, 0x0, 0x0, 0, false, [(8, 7), (0, 7)]⟩]
def rowsFlt1 : List RegRow := [
  ⟨"FLT_LS_MIS_ADDR", 0x1001600C, 0x40, 4, 0x4, 1, 0x0, 0x0, 0x0, 0x0, 0x0, 0x0, 0, false, []⟩,
  ⟨"FLT_LS_MIS_TS_LO", 0x10016010, 0x40, 4, 0x4, 1, 0x0, 0x0, 0x0, 0x0, 0x0, 0x0, 0, true, []⟩,
  ⟨"FLT_LS_MIS_TS_HI", 0x10016014, 0x40, 4, 0x4, 1, 0x0, 0x0, 0x0, 0x0, 0x0, 0x0, 0, false, []⟩,
  ⟨"FLT_LS_CKPT_TS_LO", 0x10016020, 0x40, 4, 0x4, 1, 0x0, 0x0, 0x0, 0x0, 0x0, 0x0, 0, true, []⟩,
  ⟨"FLT_LS_CKPT_TS_HI", 0x10016024, 0x40, 4, 0x4, 1, 0x0, 0x0, 0x0, 0x0, 0x0, 0x0, 0, false, []⟩,
  ⟨"FLT_ENTRY_LO", 0x10010010, 0x4, 1, 0x4, 1, 0x0, 0x0, 0x0, 0x0, 0x0, 0x0, 0, true, []⟩,
  ⟨"FLT_ENTRY_HI", 0x10010014, 0x4, 1, 0x4, 1, 0x0, 0x0, 0x0, 0x0, 0x0, 0x0, 0, false, []⟩,
  ⟨"FLT_FE_ADDR", 0x10010108, 0x20, 3, 0x4, 1, 0x0, 0x0, 0x0, 0x0, 0x0, 0x0, 0, false, []⟩,
  ⟨"FLT_FE_TS_LO", 0x1001010C, 0x20, 3, 0x4, 1, 0x0, 0x0, 0x0, 0x0, 0x0, 0x0, 0, true, []⟩,
  ⟨"FLT_FE_TS_HI", 0x10010110, 0x20, 3, 0x4, 1, 0x0, 0x0, 0x0, 0x0, 0x0, 0x0, 0, false, []⟩,
  ⟨"FLT_RAIL_LO", 0x10010200, 0x4, 1, 0x4, 1, 0x0, 0x0, 0x0, 0x0, 0x0, 0x0, 0, true, []⟩,
  ⟨"FLT_RAIL_HI", 0x10010204, 0x4, 1, 0x4, 1, 0x0, 0x0, 0x0, 0x0, 0x0, 0x0, 0, false, []⟩]
def rowsFlt : List RegRow := rowsFlt0 ++ rowsFlt1
def rowsHwn0 : List RegRow := [
  ⟨"HWN_STAT", 0x10400000, 0x4, 1, 0x4, 1, 0x0, 0x0, 0x0, 0x0, 0x0, 0x0, 0, false, [(30, 2), (26, 4), (16, 9), (8, 8), (0, 8)]⟩,
  ⟨"HWN_CFG", 0x10400004, 0x4, 1, 0x4, 1, 0x4, 0x0, 0x0, 0x3F, 0x0, 0x0, 0, false, [(0, 6)]⟩,
  ⟨"HWN_TAMPER_STAT", 0x10400008, 0x4, 1, 0x4, 1, 0x0, 0x0, 0x0, 0x0, 0x0, 0x0, 0, false, [(16, 16), (8, 6), (0, 6)]⟩,
  ⟨"HWN_TAMPER_POL", 0x1040000C, 0x4, 1, 0x4, 1, 0xAAA, 0x0, 0x0, 0xFFF, 0x0, 0x0, 0, false, [(0, 12)]⟩,
  ⟨"HWN_SLOT_STAT", 0x10400100, 0x4, 256, 0x4, 1, 0x0, 0x0, 0x0, 0x0, 0x0, 0x0, 0, false, [(30, 2), (29, 1), (24, 5), (16, 8), (0, 16)]⟩]
def rowsHwn : List RegRow := rowsHwn0
def rowsCfg0 : List RegRow := [
  ⟨"CFG_STAT", 0x10E00000, 0x4, 1, 0x4, 1, 0xFFFF0000, 0x0, 0x0, 0x0, 0x0, 0x0, 0, false, [(24, 8), (16, 8), (15, 1), (14, 1), (13, 1), (0, 8)]⟩,
  ⟨"CFG_GEN_A", 0x10E00004, 0x4, 1, 0x4, 1, 0x0, 0x0, 0x0, 0x0, 0x0, 0x0, 0, false, [(0, 32)]⟩,
  ⟨"CFG_CMP", 0x10E00010, 0x4, 1, 0x4, 1, 0x0, 0x0, 0x0, 0x0, 0x0, 0x0, 0, false, [(16, 16), (0, 2)]⟩,
  ⟨"CFG_MAINT_STAT", 0x10E00100, 0x4, 1, 0x4, 1, 0x0, 0x0, 0x0, 0x0, 0x0, 0x0, 0, false, [(16, 5), (8, 8), (0, 8)]⟩,
  ⟨"CFG_MAINT_CFG", 0x10E00104, 0x4, 1, 0x4, 1, 0xA3C0000, 0x0, 0x0, 0xFFFF0000, 0x0, 0x0, 0, false, [(24, 8), (16, 8)]⟩,
  ⟨"CFG_GEN_B", 0x10E00008, 0x4, 1, 0x4, 1, 0x0, 0x0, 0x0, 0x0, 0x0, 0x0, 0, false, []⟩,
  ⟨"CFG_GEN_RUN", 0x10E0000C, 0x4, 1, 0x4, 1, 0x0, 0x0, 0x0, 0x0, 0x0, 0x0, 0, false, []⟩]
def rowsCfg : List RegRow := rowsCfg0
def rowsBoot0 : List RegRow := [
  ⟨"BOOT_CTL", 0x10F00000, 0x4, 1, 0x4, 1, 0x0, 0x80000000, 0x0, 0x0, 0x0, 0x0, 0, false, [(31, 1)]⟩,
  ⟨"BOOT_CFG", 0x10F00004, 0x4, 1, 0x4, 1, 0x3, 0x7, 0x0, 0x0, 0x7, 0x0, 0, false, [(0, 3)]⟩,
  ⟨"BOOT_STAT", 0x10F00008, 0x4, 1, 0x4, 1, 0x0, 0x0, 0x0, 0x0, 0x0, 0x0, 0, false, [(29, 3), (26, 3), (25, 1), (24, 1), (23, 1), (22, 1), (16, 4), (8, 8), (0, 8)]⟩,
  ⟨"BOOT_CNT", 0x10F00020, 0x4, 1, 0x4, 1, 0x0, 0x0, 0x0, 0x0, 0x0, 0x0, 0, false, [(16, 16), (0, 16)]⟩,
  ⟨"BOOT_START_LO", 0x10F00010, 0x4, 1, 0x4, 1, 0x0, 0x0, 0x0, 0x0, 0x0, 0x0, 0, true, []⟩,
  ⟨"BOOT_START_HI", 0x10F00014, 0x4, 1, 0x4, 1, 0x0, 0x0, 0x0, 0x0, 0x0, 0x0, 0, false, []⟩,
  ⟨"BOOT_CONFIRM_LO", 0x10F00018, 0x4, 1, 0x4, 1, 0x0, 0x0, 0x0, 0x0, 0x0, 0x0, 0, true, []⟩,
  ⟨"BOOT_CONFIRM_HI", 0x10F0001C, 0x4, 1, 0x4, 1, 0x0, 0x0, 0x0, 0x0, 0x0, 0x0, 0, false, []⟩]
def rowsBoot : List RegRow := rowsBoot0
def rowsUpd0 : List RegRow := [
  ⟨"UPD_STAT", 0x10E80000, 0x4, 1, 0x4, 1, 0x0, 0x0, 0x0, 0x0, 0x0, 0x0, 0, false, [(28, 4), (24, 4), (22, 2), (20, 2), (19, 1), (18, 1), (17, 1), (16, 1), (8, 5), (0, 7)]⟩,
  ⟨"UPD_CHUNKS", 0x10E80004, 0x4, 1, 0x4, 1, 0x0, 0x0, 0x0, 0x0, 0x0, 0x0, 0, false, [(16, 16), (0, 16)]⟩,
  ⟨"UPD_FIRST", 0x10E80008, 0x4, 1, 0x4, 1, 0x0, 0x0, 0x0, 0x0, 0x0, 0x0, 0, false, [(0, 16)]⟩,
  ⟨"UPD_FLOOR", 0x10E8000C, 0x4, 1, 0x4, 1, 0x0, 0x0, 0x0, 0x0, 0x0, 0x0, 0, false, [(0, 32)]⟩,
  ⟨"UPD_KEYS", 0x10E80010, 0x4, 1, 0x4, 1, 0x0, 0x0, 0x0, 0x0, 0x0, 0x0, 0, false, [(4, 4), (0, 4)]⟩,
  ⟨"UPD_CTRL", 0x10E80014, 0x4, 1, 0x4, 1, 0x10000, 0x0, 0x0, 0x0, 0x0, 0x0, 0, false, [(16, 1), (0, 16)]⟩,
  ⟨"UPD_PKG_LO", 0x10E80018, 0x4, 1, 0x4, 1, 0x0, 0x0, 0x0, 0x0, 0x0, 0x0, 0, true, []⟩,
  ⟨"UPD_PKG_HI", 0x10E8001C, 0x4, 1, 0x4, 1, 0x0, 0x0, 0x0, 0x0, 0x0, 0x0, 0, false, []⟩]
def rowsUpd : List RegRow := rowsUpd0
def rowsPseudo0 : List RegRow := [
  ⟨"HDG_ETYPE", 0x10000000000, 0x4, 1, 0x4, 1, 0x88B7, 0x0, 0x0, 0xFFFFFFFF, 0x0, 0x0, 0, false, [(0, 32)]⟩,
  ⟨"GWY_ETYPE", 0x10000000004, 0x4, 1, 0x4, 1, 0x88B5, 0x0, 0x0, 0xFFFFFFFF, 0x0, 0x0, 0, false, [(0, 32)]⟩,
  ⟨"TSN_STR_ID", 0x10000010000, 0x10, 1024, 0x4, 1, 0x0, 0x0, 0x0, 0x7, 0x0, 0x0, 0, false, [(0, 2), (2, 1)]⟩,
  ⟨"TSN_STR_MACL", 0x10000010004, 0x10, 1024, 0x4, 1, 0x0, 0x0, 0x0, 0xFFFFFFFF, 0x0, 0x0, 0, false, [(0, 32)]⟩,
  ⟨"TSN_STR_MACH", 0x10000010008, 0x10, 1024, 0x4, 1, 0x0, 0x0, 0x0, 0xFFFFFFF, 0x0, 0x0, 0, false, [(0, 16), (16, 12)]⟩,
  ⟨"TSN_FRER_A", 0x10000020000, 0x10, 256, 0x4, 1, 0x0, 0x0, 0x0, 0xFF013F01, 0x0, 0x0, 0, false, [(0, 1), (8, 6), (16, 1), (24, 8)]⟩,
  ⟨"TSN_FRER_B", 0x10000020004, 0x10, 256, 0x4, 1, 0x0, 0x0, 0x0, 0xFFFFFFFF, 0x0, 0x0, 0, false, [(0, 16), (16, 16)]⟩,
  ⟨"TSN_GPTP", 0x10000030000, 0x4, 2, 0x4, 1, 0x0, 0x0, 0x0, 0x37F, 0x0, 0x0, 0, false, [(0, 7), (8, 1), (9, 1)]⟩,
  ⟨"TSN_GPTP_OPT", 0x10000030008, 0x4, 2, 0x4, 1, 0x0, 0x0, 0x0, 0x7, 0x0, 0x0, 0, false, [(0, 1), (1, 1), (2, 1)]⟩,
  ⟨"TSN_GPTP_PORT", 0x10000031000, 0x400, 2, 0x10, 16, 0xFD00, 0x0, 0x0, 0xFFFF0F, 0x0, 0x0, 0, false, [(0, 2), (2, 1), (3, 1), (8, 8), (16, 8)]⟩,
  ⟨"TSN_GPTP_DLY", 0x10000031004, 0x400, 2, 0x10, 16, 0x0, 0x0, 0x0, 0xFFFFFFFF, 0x0, 0x0, 0, false, [(0, 32)]⟩,
  ⟨"TSN_GPTP_ASYM", 0x10000031008, 0x400, 2, 0x10, 16, 0x0, 0x0, 0x0, 0xFFFFFFFF, 0x0, 0x0, 0, false, [(0, 32)]⟩]
def rowsPseudo1 : List RegRow := [
  ⟨"TSN_MAXSDU", 0x10000035000, 0x4, 224, 0x4, 1, 0x0, 0x0, 0x0, 0xFFFF, 0x0, 0x0, 0, false, [(0, 16)]⟩,
  ⟨"GWY_ROUTE", 0x10000040000, 0x4, 4096, 0x4, 1, 0x0, 0x0, 0x0, 0x1, 0x0, 0x0, 0, false, [(0, 1)]⟩]
def rowsPseudo : List RegRow := rowsPseudo0 ++ rowsPseudo1

/-- The rows of the block that an address lies in (R30, R31); none for a reserved range. -/
def rowsOf (a : Nat) : List RegRow :=
  if 0x10000000 ≤ a ∧ a ≤ 0x1000FFFF then rowsMbx else
  if 0x10010000 ≤ a ∧ a ≤ 0x1001FFFF then rowsFlt else
  if 0x10020000 ≤ a ∧ a ≤ 0x1002FFFF then rowsMpc else
  if 0x10030000 ≤ a ∧ a ≤ 0x1003FFFF then rowsIrq else
  if 0x10040000 ≤ a ∧ a ≤ 0x1004FFFF then rowsTbs else
  if 0x10050000 ≤ a ∧ a ≤ 0x10050FFF then rowsMbx16 else
  if 0x10100000 ≤ a ∧ a ≤ 0x101FFFFF then rowsRing else
  if 0x10200000 ≤ a ∧ a ≤ 0x1027FFFF then rowsCan else
  if 0x10280000 ≤ a ∧ a ≤ 0x102FFFFF then rowsLin else
  if 0x10300000 ≤ a ∧ a ≤ 0x103FFFFF then rowsTs else
  if 0x10400000 ≤ a ∧ a ≤ 0x104FFFFF then rowsHwn else
  if 0x10800000 ≤ a ∧ a ≤ 0x1080FFFF then rowsHub else
  if 0x10810000 ≤ a ∧ a ≤ 0x108FFFFF then rowsBank else
  if 0x10900000 ≤ a ∧ a ≤ 0x109FFFFF then rowsCyc else
  if 0x10A00000 ≤ a ∧ a ≤ 0x10AFFFFF then rowsSwc else
  if 0x10B00000 ≤ a ∧ a ≤ 0x10BFFFFF then rowsTsn else
  if 0x10C00000 ≤ a ∧ a ≤ 0x10CFFFFF then rowsGwy else
  if 0x10D00000 ≤ a ∧ a ≤ 0x10D7FFFF then rowsWak else
  if 0x10D80000 ≤ a ∧ a ≤ 0x10DFFFFF then rowsHdg else
  if 0x10E00000 ≤ a ∧ a ≤ 0x10E7FFFF then rowsCfg else
  if 0x10E80000 ≤ a ∧ a ≤ 0x10EFFFFF then rowsUpd else
  if 0x10F00000 ≤ a ∧ a ≤ 0x10FFFFFF then rowsBoot else
  if 0x10000000000 ≤ a ∧ a ≤ 0x100FFFFFFFF then rowsPseudo else
  []

/-- Whether address `a` is a register of the row. -/
def RegRow.covers (r : RegRow) (a : Nat) : Bool :=
  decide (r.base ≤ a) && decide ((a - r.base) / r.st1 < r.cnt1) &&
  decide ((a - r.base) % r.st1 / r.st2 < r.cnt2) && decide ((a - r.base) % r.st1 % r.st2 = 0)

/-- The row of the register at an address, if the address is a defined register. -/
def regRow (a : Nat) : Option RegRow := (rowsOf a).find? (fun r => r.covers a)

/-- The reset value of the register at an address (R16; MBX_ID holds its window's number, R48). -/
def resetWord (a : Nat) : Word :=
  match regRow a with
  | some r => BitVec.ofNat 32 (r.reset + r.up * ((a - r.base) / r.st1))
  | none => 0

/-- The reserved bits of a register: those of none of its fields (R14). -/
def reservedBits (a : Nat) : Nat :=
  match regRow a with
  | some r => (2 ^ 32 - 1) ^^^ r.flds.foldl (fun m f => m ||| ((2 ^ f.2 - 1) <<< f.1)) 0
  | none => 0

/-- Bits that are hard-wired to 0 beside the register tables: the execute, cacheable and prefetchable attributes of a region
of the peripheral range's controller (R33). -/
def hardZero (a : Nat) : Word :=
  if 0x10024008 ≤ a ∧ a < 0x10024208 ∧ (a - 0x10024008) % 0x10 = 0 then 0x04C00000 else 0

end Sys2Proof.Machine
end

