-- ==== Sys2Proof/Machine/State.lean ====
section
/-!
DEFINITION. Machine/State.lean: the state of the block as plain data, chapter by chapter, and its value after reset.
Registers with a register table are words of `regs`, keyed by physical address (Machine/Regs.lean); an unlisted
register holds its reset value. Tables of objects are sparse: an unlisted object holds its structure's default, which
is its reset value.
-/
namespace Sys2Proof.Machine

/-- Faults that stop the block. The spec names none: every error of the block is an answer, a bus error or a record
of the fault collector. -/
inductive Fault where
  /-- Raised by no command of this model; safe. -/
  | halted
deriving DecidableEq, Repr

/-- Refusals. -/
inductive Refusal where
  /-- The command has no meaning in the model yet: raised by its arm of `exec` only; safe. -/
  | notModelled (mnemonic : String)
deriving DecidableEq, Repr

/-! ## Time base, interrupts, register file (chapters 00 and 01) -/

/-- A replica of the time base: islands 0–9, then banks as islands 10–41 (R23, R40, R41). -/
structure Replica where
  /-- powered and out of reset -/
  powered : Bool := true
  aligned : Bool := false
  /-- alignment words in a row with an error beyond ±4 ns -/
  badRun  : Nat := 0
  /-- alignment words in a row within ±4 ns -/
  goodRun : Nat := 0
  /-- the instant at which alignment was lost (for the 1 ms window of R42) -/
  lostAt  : Nat := 0
deriving DecidableEq, Repr

/-- A scheduled step of the master: how far, and whether backward (R43–R45). -/
structure TbStep where
  back : Bool
  by_  : Nat
deriving DecidableEq, Repr

/-- A time-base comparator's arming (R47); its compare value and flags are the registers TBS_CMPn. -/
structure Cmp where
  armPend : Bool := false
  armed   : Bool := false
  value   : Nat := 0
  late    : Bool := false
deriving DecidableEq, Repr

/-- What the bus answered to the last access: the model's own observation of a read (R25, R32). -/
inductive BusReply where
  | none
  | data (w : Nat)
  | retry
  | busError
  /-- the access waits at the cluster interface until the next regulation period (R422) -/
  | waits
deriving DecidableEq, Repr

/-- The time base beside its registers (R40–R47). -/
structure TimeBase where
  /-- replicas, islands 0–9 then banks as 10–41 -/
  replicas : Tab Replica := Tab.empty
  /-- the step scheduled for the next alignment word -/
  step : Option TbStep := none
  /-- offset still to slew, ns -/
  slewLeft : Nat := 0
  /-- the slew holds the master back -/
  slewBack : Bool := false
  /-- the sixteen comparators -/
  cmps : Tab Cmp := Tab.empty
deriving DecidableEq, Repr

/-- The interrupt distributor beside its registers (R35–R39). -/
structure Irq where
  /-- edge sources pending -/
  pend : Tab Bool := Tab.empty
  /-- sources active -/
  active : Tab Bool := Tab.empty
  /-- lines of level sources that units outside the modelled blocks assert -/
  line : Tab Bool := Tab.empty
  /-- IRQ_PMASK of each requester, by target code (R36, R37) -/
  mask : Tab Nat := Tab.empty
deriving DecidableEq, Repr


/-! ## Mailboxes and the device (chapter 02) -/

/-- Why a command in flight has not been answered (R57, R62, R71; the later answers of the command chapters). -/
inductive Phase where
  /-- waits for an earlier ORDERED command, or as one (R57) -/
  | waitOrder
  /-- waits for an object held by another command (R61, R62) -/
  | waitObject
  /-- waits for room in the maintenance arbiter or the forwarding queue (R62) -/
  | waitQueue
  /-- queued in the maintenance arbiter (R521) -/
  | maint
  /-- deferred by the budget governor (R167) -/
  | deferred
  /-- forwarded to another unit (R71) -/
  | forwarded
  /-- started: a later event of its chapter answers it -/
  | running
deriving DecidableEq, Repr

/-- A command in flight (R60, R74). `node` is 0xFFFF for a command of this unit's own windows, else the node
address of the remote requester (R71). -/
structure Cmd where
  node  : Nat
  who   : Nat
  op    : Nat
  req   : Req
  taken : Nat
  limit : Option Nat
  phase : Phase
  /-- the objects the command names and, while it is in flight, holds (R61) -/
  objs  : List Nat := []
  /-- the command has passed step 9 of R66: it stays under the ownership it was checked against (R70) -/
  pass9 : Bool := false
  /-- an instant or number its chapter keeps with it -/
  aux   : Nat := 0
deriving DecidableEq, Repr

/-- Counts of a mailbox window since the last COMPUTE-domain reset (R81). -/
structure MbxStat where
  served   : Nat := 0
  refused  : Nat := 0
  timeouts : Nat := 0
  peak     : Nat := 0
deriving DecidableEq, Repr

/-- Device states (R79), by their codes. -/
inductive DevState where
  | off | sleep | starting | running | fault | coppice
deriving DecidableEq, Repr

/-- An owner and a reader mask of an object (R69): owner 0–15 VPn, 16 the secure world, 17 DEVICE; reader bit n for
VPn, bit 16 for the secure world. -/
structure Own where
  owner   : Nat := 17
  readers : Nat := 0
deriving DecidableEq, Repr

/-- The mailboxes beside their registers. -/
structure Mbx where
  /-- commands in flight, oldest take first -/
  cmds : List Cmd := []
  /-- counts by window -/
  stat : Tab MbxStat := Tab.empty
  /-- turns owed (R60): window `p.1` is not visited again before window `p.2`, which had a request ready at its last turn -/
  owed : List (Nat × Nat) := []
deriving DecidableEq, Repr


/-! ## The power fabric: cells, gangs, bridges, wiring probe, feeds, budget (chapters 03–05) -/

/-- Where a pending edge comes from: a mailbox command, a fast-actuation sender, a cycle-engine output, the governor's
shedding and restoring, or a disposition's safe state. -/
inductive EdgeKind where
  | mailbox
  | fast (sender : Nat)
  | engine
  | shed
  | restore
  | safe
  /-- a gang's or bridge's retry, under-voltage restart, end of a hold window and end of a dwell, held while a replica is not
  aligned (R127, R131, R133, R136) -/
  | retry
  | restart
  | window
  | dwell
deriving DecidableEq, Repr

/-- A pending edge: instant, commanded action, origin (R86, R139). -/
structure Edge where
  at_    : Nat
  action : Nat
  kind   : EdgeKind
deriving DecidableEq, Repr

/-- An output transition in progress: the state it ends in, and whether its dead time (with the turn-off before it) is
still to end (R86, R87). -/
structure Trans where
  target : Nat
  dead   : Bool
deriving DecidableEq, Repr

/-- A freewheel: waiting for its dead time, with the FW_MAX in force at its edge (ns), or running until FW_MAX (R89). -/
inductive Wheel where
  | none
  | dead (fw : Nat)
  | run (until_ : Nat)
deriving DecidableEq, Repr

/-- The reversal dwell of a bridge: the commanded state it ends in, when its count ends once that has started, the REV_DWELL
in force at the reversal (ns), and whether the dwell has ended and the bridge completes the change (R136). -/
structure Dwell where
  target : Nat
  until_ : Option Nat
  dur    : Nat
  final  : Bool := false
deriving DecidableEq, Repr

/-- A switched object: cell 0–511, gang 512–575, bridge 576–607 (the numbering of PFB_BUDx). -/
structure Obj where
  cmd      : Nat := 0
  st       : Nat := 0
  /-- pending edges, by instant: at most one for a cell, eight for a gang or bridge (R118, R139) -/
  edges    : List Edge := []
  /-- the governor's own edges and deferred safe states -/
  ints     : List Edge := []
  /-- edges that fell due during a transition, oldest first (R88) -/
  lates    : List Edge := []
  /-- edges that fell due with a replica not aligned (R42, R127) -/
  heldEdges : List Edge := []
  trans    : Option Trans := none
  wheel    : Wheel := .none
  /-- terminals that regulate, each with the end of its OC_BLANK (R92) -/
  regEnds  : List (Nat × Nat) := []
  /-- end of RETRY_DLY in the retry wait (R93) -/
  retryEnd : Option Nat := none
  /-- conducting without a trip since (R93) -/
  condFrom : Option Nat := none
  retry    : Nat := 0
  cause    : Nat := 0
  evt      : Nat := 0
  /-- a safe state that the governor has deferred (R111) -/
  wantSafe : Option Nat := none
  /-- the earliest end of the hold window: 99 % of HOLD_MS, whose accuracy is ±1 % (R111) -/
  holdEnd  : Option Nat := none
  lateEdge : Bool := false
  clamp    : Bool := false
  missed   : Nat := 0
  /-- the maintenance arbiter holds the object in PROBE, and the state it held before -/
  probing  : Bool := false
  /-- blocked by the wiring probe (R143) -/
  blocked  : Bool := false
  /-- the wiring probe has passed it since power-on (R113, R133) -/
  probed   : Bool := false
  shed     : Bool := false
  shedSeq  : Nat := 0
  standing : Bool := false
  /-- its standing charge is wanted (R162) -/
  wantStanding : Bool := false
  /-- instant and order of its last admission (R166) -/
  admAt    : Nat := 0
  /-- its restore conditions have held since (R170) -/
  restFrom : Option Nat := none
  /-- SHARE_WARN and TRIP_TERM of a gang (R129, R130) -/
  shareWarn : Bool := false
  shareStop : Bool := false
  tripTerm : Nat := 0
  /-- the running dwell of a bridge (R136), and a restart that must pass the dwell state (R137) -/
  dwell    : Option Dwell := none
  dwellRestart : Bool := false
  /-- instant of the last trip or latch (R130) -/
  tripAt   : Option Nat := none
  /-- the object was latched by a failed self-test that no later self-test has passed (R121) -/
  testFail : Bool := false
deriving DecidableEq, Repr

/-- What a cell measures and judges at grid instants (R101–R109, R129). -/
structure Meas where
  /-- held current, positive out of the terminal, mA; terminal voltage, mV; junction temperature, °C -/
  mA : Int := 0
  mV : Int := 0
  tj : Int := 25
  /-- the sense reference check failed at the last grid instant -/
  chkFail : Bool := false
  /-- input filter: level, last sample, samples in a row that differ from the level, samples since INPUT -/
  level : Bool := false
  last  : Bool := false
  run   : Nat := 0
  settle : Nat := 0
  /-- open-load judgement of the last grid instant and the one reported: 0, 5 or 6 -/
  olLast : Nat := 0
  ol : Nat := 0
  /-- the junction is at least 20 K below the shutdown threshold (R121) -/
  cool : Bool := true
  unaligned : Bool := false
  share : Nat := 0
  /-- IN_FILT and WET as the last grid instant applied them -/
  filt : Nat := 3
  wet  : Nat := 0
deriving DecidableEq, Repr

/-- A bank controller: lost (R114). -/
structure Bank where
  lost : Bool := false
  /-- its feed is below 3.0 V, so it does not answer (R158) -/
  silent : Bool := false
deriving DecidableEq, Repr

/-- A feed beside its registers (R154–R159, R169). -/
structure Feed where
  mV : Nat := 0
  mA : Int := 0
  tUvon : Nat := 0
  overFrom : Option Nat := none
  peakFrom : Option Nat := none
  classSFrom : Option Nat := none
  nextShed : Nat := 0
  lowFrom : Option Nat := none
  /-- the reverse-polarity switch is open (R574) -/
  reversed : Bool := false
deriving DecidableEq, Repr

/-- The wiring probe's result of a terminal (R142, R153). -/
structure Probe where
  result : Nat := 0
  warned : Bool := false
  rmeas  : Nat := 0xFFFF
  range  : Bool := false
  /-- the last run found the object not stopped and reports SKIPPED (R144, R145) -/
  skipped : Bool := false
deriving DecidableEq, Repr

/-- An ABORTED object waiting for its cause to clear (R144): cause 0 under-voltage, 1 lost bank, 2 thermal, 3 Privet
restart; the instant a new probe is due once it has cleared. -/
structure Retest where
  obj : Nat
  cause : Nat
  due : Option Nat
deriving DecidableEq, Repr

/-- The power fabric beside its registers. -/
structure Fabric where
  objs   : Tab Obj := Tab.empty
  meas   : Tab Meas := Tab.empty
  banks  : Tab Bank := Tab.empty
  feeds  : Tab Feed := Tab.empty
  /-- the two status pages (R115): words A and B of each terminal, and the grid instant -/
  page0  : List (Word × Word) := []
  page1  : List (Word × Word) := []
  stamp0 : Nat := 0
  stamp1 : Nat := 0
  /-- the samples of the last grid instant, not yet in a page -/
  snap   : List (Word × Word) := []
  snapAt : Nat := 0
  lastGrid : Nat := 0
  /-- wiring probe -/
  probes : Tab Probe := Tab.empty
  probeSeq : Nat := 0
  probeState : Nat := 0
  probeDone : Nat := 0
  probeList : List Nat := []
  probeCross : Bool := false
  /-- every object the running probe covers and probes, and those found crossed before their own turn (R142) -/
  probeAll : List Nat := []
  probeCrossed : List Nat := []
  retests : List Retest := []
  /-- per-bank edge trim in MRAM (R126), picoseconds -/
  trim   : Tab Int := Tab.empty
  /-- P_ELEC and P_DIST of the last grid instants, mW, newest first, at most 40,000 (R165, R169) -/
  hist   : List (Nat × Nat) := []
  hotNext : Nat := 0
  shedCount : Nat := 0
  lastGov : Nat := 0
  /-- an overlay switch has changed limits: the next governor cycle restores them (R164) -/
  govCheck : Bool := false
  shedFeeds : List Nat := []
  /-- feeds on which the present governor cycle has restored (R170) -/
  restFeeds : List Nat := []
  /-- meters in µJ, and remainders below 1 µJ in pJ (R171), delivered and returned -/
  mDel : Tab Nat := Tab.empty
  mRet : Tab Nat := Tab.empty
  remDel : Tab Nat := Tab.empty
  remRet : Tab Nat := Tab.empty
  /-- the energy log ring in MRAM (R173): 256-byte records by SEQ mod 8,192, next SEQ, and the state of the interval -/
  elog   : Tab (List Byte) := Tab.empty
  elogSeq : Nat := 0
  elogAt : Int := 0
  elogBase : Tab Nat := Tab.empty
  elogBaseRet : Tab Nat := Tab.empty
  elogStep : Bool := false
  elogRestored : Bool := false
  elogPartial : Bool := true
  /-- SET_GEN of the set that the fabric runs (R529) -/
  gen : Nat := 0
  /-- the fabric configuration has been loaded (R113) -/
  loaded : Bool := false
  /-- the hold-up, housing and supply facts of chapter 21 -/
  holdupEnd : Option Nat := none
deriving DecidableEq, Repr



/-! ## Cycle engine (chapter 06) -/

/-- A symbol entry of a program image (R186). -/
structure Sym where
  off   : Nat
  size  : Nat
  flags : Nat
  hash  : Nat
deriving DecidableEq, Repr

/-- A retained entry of a program image (R186). -/
structure Rid where
  rid  : Nat
  off  : Nat
  size : Nat
  task : Nat
  hash : Nat
deriving DecidableEq, Repr

/-- A loaded program: what the engine keeps of its image (R186). -/
structure Prog where
  id    : Nat
  hyper : Nat
  cfgs  : List Nat
  writer : List Nat
  syms  : List Sym
  rids  : List Rid
  code  : List Byte
  data  : List Byte
deriving DecidableEq, Repr

/-- Outputs handed over for an output instant (R190, R195): object and output code. -/
structure Outs where
  at_  : Nat
  vals : List (Nat × Nat)
  /-- the cut-off has passed and forces are applied -/
  cut  : Bool := false
deriving DecidableEq, Repr

/-- A task beside its registers (R189–R195, R213, R219). -/
structure CTask where
  /-- the release that has not completed -/
  rel : Option Nat := none
  /-- its input image is written -/
  imaged : Bool := false
  readyAt : Nat := 0
  /-- the running execution has overrun -/
  overrun : Bool := false
  /-- the scheduled release of an event task -/
  relAt : Option Nat := none
  seq : Nat := 0
  lastRel : Nat := 0
  lastOut : Nat := 0
  /-- outputs handed over and not yet applied, in order of instant -/
  outs : List Outs := []
  prime : Bool := true
  /-- retained write in progress, and its values -/
  retBusy : Bool := false
  retVals : List Byte := []
  retRel : Nat := 0
  /-- the scheduled release is the pending one (R192) -/
  pendRel : Bool := false
  /-- it faulted in HOLD: its dispositions come into force when HOLD ends in RUN (R202) -/
  heldDisp : Bool := false
  /-- a backward step came during the execution (R45) -/
  stepped : Bool := false
  /-- the program identifier and retained table under which the retained write in progress was begun (R214) -/
  retId   : Nat := 0
  retRids : List Rid := []
deriving DecidableEq, Repr

/-- A retained record slot in MRAM, with the retained table it was written by (R214). -/
structure RetSlot where
  bytes : List Byte := []
  rids  : List Rid := []
deriving DecidableEq, Repr

/-- A start that awaits admission, or its instant of entry to RUN (R204, R225). -/
structure CStart where
  /-- 0 WARM, 1 COLD, 2 RESUME -/
  mode : Nat
  auto : Bool
  cmd  : Option (Nat × Nat × Nat) := none
  runAt : Option Nat := none
deriving DecidableEq, Repr

/-- The cycle engine beside its registers. -/
structure Cyc where
  tasks : Tab CTask := Tab.empty
  active : Option Prog := none
  waiting : Option Prog := none
  start : Option CStart := none
  tRun : Nat := 0
  swapAt : Option Nat := none
  /-- objects whose standing charges were admitted for the pending swap -/
  swapNew : List Nat := []
  /-- objects whose disposition at the swap is already in force -/
  swapDone : List Nat := []
  /-- staged online-change entries, and the commit instant of a pending commit -/
  staged : List (List Byte) := []
  commitAt : Option Nat := none
  /-- retained record slots: 2 per task -/
  ret : Tab RetSlot := Tab.empty
  /-- the gang, bridge and feed words of the last grid instant -/
  aux : List Nat := []
  /-- the valid LEVEL of each terminal and EVT of each object at the last grid instant (R191) -/
  levels : List (Option Bool) := []
  evts : List Nat := []
  /-- the key slot of cycle programs (R186) -/
  keySlot : Nat := 0
deriving DecidableEq, Repr



/-! ## Ethernet switch (chapter 07) -/

/-- An entry of the forwarding table (R239); `seen` is the instant its address was last seen. -/
structure FdbE where
  mac    : Nat := 0
  vid    : Nat := 0
  mask   : Nat := 0
  static : Bool := false
  valid  : Bool := false
  seen   : Nat := 0
deriving DecidableEq, Repr

/-- A VLAN (R237, R268). -/
structure Vlan where
  defined : Bool := false
  member  : Nat := 0
  untag   : Nat := 0
  learn   : Bool := false
  floodUc : Bool := false
  floodMc : Bool := false
deriving DecidableEq, Repr

/-- A policer (R249, R269): parameters, buckets in units of 1/125,000 byte with their instant, and counts of green, yellow
and red frames. -/
structure Pol where
  aware   : Bool := false
  redPass : Bool := false
  cir : Nat := 0
  pir : Nat := 0
  cbs : Nat := 0
  pbs : Nat := 0
  tc  : Nat := 0
  tp  : Nat := 0
  at_ : Nat := 0
  green  : Nat := 0
  yellow : Nat := 0
  red    : Nat := 0
deriving DecidableEq, Repr

/-- A secure association of a port's SecY (R234, R270). -/
structure Sa where
  rx      : Bool
  an      : Nat
  sc      : Nat
  slot    : Nat
  xpn     : Bool
  enabled : Bool
  conf    : Bool
  inclSci : Bool
  /-- next packet number to send, or the next expected -/
  next    : Nat
  /-- the lowest acceptable packet number (receive) -/
  low     : Nat
  sci     : Nat
deriving DecidableEq, Repr

/-- The SecY of an external port (R234): whether it protects frames, validateFrames (0 Disabled, 1 Check, 2 Strict), the
replay window, its associations and the transmit AN in use. -/
structure SecY where
  protect  : Bool := false
  validate : Nat := 0
  window   : Nat := 0
  sas      : List Sa := []
  txAn     : Option Nat := none
deriving DecidableEq, Repr

/-- A frame in the packet buffer (R242): ingress port, ring pair and transmit descriptor it came from, the bytes as they
cross the core (from the destination address, without FCS), its length in bytes, whether it has arrived whole, the cells
that have arrived and those taken from the reserve of queue `resQ`, its VID, class, colour and ingress time stamp, the
sequence number of its R-TAG with the ports that encode it, and whether it is broadcast or flooded. -/
structure Frame where
  fid    : Nat
  src    : Nat
  ring   : Option (Nat × Nat) := none
  charge : Option Nat := none
  bytes  : List Byte := []
  len    : Nat := 0
  fin    : Bool := true
  cells  : Nat := 0
  resQ   : Nat := 0
  resN   : Nat := 0
  vid    : Nat := 0
  cls    : Nat := 0
  colour : Nat := 0
  sfd    : Nat := 0
  rtag   : Option (Nat × Nat) := none
  flood  : Bool := false
  tstamp : Bool := false
  /-- a copy has left; the egress instant of the first -/
  leftAt : Option Nat := none
  flushed : Bool := false
  /-- classified as fast actuation (R289); its R-TAG was decoded (R288) -/
  fast   : Bool := false
  dec    : Bool := false
deriving DecidableEq, Repr

/-- One destination's reference to a frame (R242, R245): egress port and class, cut-through, marked by RED, cells that have
crossed to the staging queue, and the enqueue instant. -/
structure Copy where
  fid  : Nat
  src  : Nat
  port : Nat
  cls  : Nat
  cut  : Bool := false
  mark : Bool := false
  crossed : Nat := 0
  enq  : Nat := 0
deriving DecidableEq, Repr

/-- A frame leaving a port: its copy, its bytes on the wire, start instant, bytes sent before an interruption, preemptable
MAC, stomped, and what its port does to it. -/
structure Tx where
  fid   : Nat
  cls   : Nat
  wire  : List Byte := []
  /-- start of the present fragment, and of the frame -/
  start : Nat := 0
  begun : Nat := 0
  sent  : Nat := 0
  pre   : Bool := false
  stomp : Bool := false
  /-- the association as it was at the frame's start, `next` its packet number, and the bytes that MACsec adds (R235, R270) -/
  sa    : Option Sa := none
  extra : Nat := 0
  /-- UNTAG of its VLAN and DEI_REMARK as they were at its start (R15) -/
  untag  : Bool := false
  remark : Bool := false
deriving DecidableEq, Repr

/-- A frame being received at a port: its start-frame delimiter, the bytes so far, the frame it became in the buffer
(cut-through), and whether the rest is ignored. -/
structure Rx where
  sfd  : Nat
  got  : Nat := 0
  fid  : Option Nat := none
  dead : Bool := false
  /-- MAX_FRAME at its start (R15), and the AN and SCI that its SecTAG names where it will be validated (R235) -/
  max  : Nat := 0
  sec  : Option (Nat × Option Nat) := none
deriving DecidableEq, Repr

/-- A switch port beside its registers. -/
structure SwPort where
  linkAt : Nat := 0
  /-- the end of the running flap hold -/
  holdEnd : Option Nat := none
  rx     : Option Rx := none
  tx     : Option Tx := none
  /-- a preempted frame waiting to go on (R284) -/
  heldTx : Option Tx := none
  secy   : SecY := {}
  /-- frames sent in the present transmit opportunity of PLCA (R232) -/
  burst  : Nat := 0
deriving DecidableEq, Repr

/-- An egress queue beside its registers (R242, R250): OCC, cells of its reserve in use, the average in 1/256 cell, drops. -/
structure SwQueue where
  occ   : Nat := 0
  res   : Nat := 0
  avg   : Nat := 0
  drops : Nat := 0
deriving DecidableEq, Repr

/-- The switch beside its registers. -/
structure Swc where
  ports  : Tab SwPort := Tab.empty
  queues : Tab SwQueue := Tab.empty
  /-- port counters of R262, by 32 × port + index -/
  cnt    : Tab Nat := Tab.empty
  frames : List Frame := []
  /-- references, in the order of admission -/
  copies : List Copy := []
  nextFid : Nat := 0
  /-- cells of the shared pool in use -/
  shared : Nat := 0
  fdb    : Tab FdbE := Tab.empty
  vlans  : Tab Vlan := Tab.empty
  pols   : Tab Pol := Tab.empty
  /-- policer bound to a port and class: 8 × port + class, value + 1 -/
  polBind : Tab Nat := Tab.empty
  /-- grant and accept pointers of the matching scheduler (R246) -/
  grant  : Tab Nat := Tab.empty
  accept : Tab Nat := Tab.empty
  /-- transmit descriptors taken, by ring pair -/
  taken  : Tab Nat := Tab.empty
  /-- the instant at which a partition reset last cleared a ring pair's ENABLE (R258) -/
  ringOff : Tab (Option Nat) := Tab.empty
  /-- audit: snapshots, consecutive mismatches -/
  snaps  : Nat := 0
  missRun : Nat := 0
deriving DecidableEq, Repr



/-! ## Time-sensitive networking and fast actuation (chapter 08) -/

/-- A gate list (R278, R286): states and intervals of its entries, with the operation of a port gate's entry or the IPV of
a stream gate's. -/
structure Gcl where
  base  : Nat := 0
  cycle : Nat := 0
  ext   : Nat := 0
  /-- (gates or state, operation or IPV, interval) -/
  ents  : List (Nat × Nat × Nat) := []
deriving DecidableEq, Repr

/-- The gate lists of a port or of a stream gate: the operational list, the pending list with t_chg, and the instant from
which a suspended list resumes (R279, R281). For a stream gate, also its present state, IPV and entry. -/
structure Gates where
  oper : Option Gcl := none
  pend : Option (Gcl × Nat) := none
  /-- suspended, or stepped over: resumes at this instant; none while it runs -/
  resume : Option Nat := none
  susp : Bool := false
  /-- alignment has returned and the list has not resumed: the gates take FALLBACK (R281) -/
  wait : Bool := false
  /-- the instant at which the pending list was set (R279) -/
  pendAt : Nat := 0
  open_ : Bool := true
  ipv  : Nat := 0xFF
  entry : Nat := 0
deriving DecidableEq, Repr

/-- The LIVE fields, block and counts of a stream entry (R301); its STAGED fields are registers of the model. -/
structure Stream where
  seqGen : Bool := false
  ipvValid : Bool := false
  blockOver : Bool := false
  ipv : Nat := 0
  maxSdu : Nat := 0
  policer : Nat := 0xFFFF
  sgate : Nat := 0xFFFF
  recov : Nat := 0xFFFF
  encode : Nat := 0
  blocked : Bool := false
  seq : Nat := 0
  matched : Nat := 0
  dropOver : Nat := 0
  dropGate : Nat := 0
  dropMeter : Nat := 0
  passed : Nat := 0
  dup : Nat := 0
  rogue : Nat := 0
  resets : Nat := 0
deriving DecidableEq, Repr

/-- The state of a recovery function (R288): TakeAny, the highest number, the history below it, the instant of the last
passed frame, and frames passed and discarded since the last latent comparison. -/
structure Frer where
  any   : Bool := true
  high  : Nat := 0
  hist  : Nat := 0
  lastAt : Nat := 0
  passed : Nat := 0
  disc  : Nat := 0
  /-- the instant of the last latent comparison -/
  latAt : Nat := 0
deriving DecidableEq, Repr

/-- A gPTP instance (R274, R303). -/
structure Gptp where
  gm     : Nat := 0
  isGm   : Bool := false
  offset : Int := 0
  steps  : Nat := 0
  /-- the path trace of the last Announce: the identities it has passed, this unit's last (R273) -/
  path   : List Nat := []
  /-- the Sync last received: its port, origin + correction + delay, and its receipt (R274) -/
  sync   : Option (Nat × Int × Nat) := none
deriving DecidableEq, Repr

/-- A port of a gPTP instance, or of the common mean link delay service (instance 2, R273): role, asCapable, neighbour delay and rate ratio, the instants of the last event messages
received and sent (R274, R276, R303). -/
structure GptpPort where
  role   : Nat := 0
  asCap  : Bool := false
  delay  : Nat := 0
  ratio  : Int := 0
  rxAt   : Nat := 0
  txAt   : Nat := 0
  /-- origin + correctionField of the Sync last sent (R274), and of the Follow_Up that a two-step port has sent after it (R273) -/
  sent   : Option Int := none
  follow : Option Int := none
  /-- logSyncInterval as a Signaling message to the port has set it (a signed byte, R273) -/
  logSync : Option Nat := none
deriving DecidableEq, Repr

/-- A frame waiting at the fast path in I4 (R289). -/
structure FaFrame where
  tIn   : Nat
  bytes : List Byte
  cls   : Nat
deriving DecidableEq, Repr

/-- The TSN functions beside their registers. -/
structure Tsn where
  /-- port gates 0–27, stream gate n at 32 + n -/
  gates  : Tab Gates := Tab.empty
  /-- credits by 8 × port + class in units of 1.6e-5 bit, and the instant they hold at -/
  credit : Tab Int := Tab.empty
  creditAt : Nat := 0
  /-- verification attempts made, and the instant of the last -/
  verify : Tab Nat := Tab.empty
  verifyAt : Tab Nat := Tab.empty
  /-- shaper words that wait for the next frame boundary, by 8 × port + class (R282) -/
  slopeWant : Tab (Option Nat) := Tab.empty
  streams : Tab Stream := Tab.empty
  frer   : Tab Frer := Tab.empty
  gptp   : Tab Gptp := Tab.empty
  /-- by 32 × instance + port -/
  gports : Tab GptpPort := Tab.empty
  /-- frames waiting at I4 -/
  waiting : List FaFrame := []
  /-- result counts by 16 × sender + result -/
  faCnt  : Tab Nat := Tab.empty
  /-- FA_DISCARD: queued fast-path edges discarded (R294) -/
  faDiscard : Nat := 0
deriving DecidableEq, Repr


/-! ## CAN and LIN channels (chapter 09) -/

/-- A CAN channel beside its registers. -/
structure CanChan where
  /-- the receive and transmit event queues (R320, R321) -/
  rxq : List Nat := []
  txq : List (Nat × Nat) := []
  /-- the object whose frame is on the bus, with the slot's bytes as they were loaded (R317, R318) -/
  active : Option (Nat × List Byte) := none
  /-- objects to disable when their frame has ended (R318) -/
  leaving : List Nat := []
  /-- changes of EN: instant, object and the value before, newest first (R312: the boundary is the next frame's arbitration field) -/
  enLog : List (Nat × Nat × Bool) := []
  /-- a MODE written while the channel runs, until the next bus idle -/
  modeWant : Option Nat := none
  /-- the channel was in bus-off when it went to sleep (R371) -/
  boff : Bool := false
  /-- the start of recovery with AUTO_RECOVER (R323) -/
  recoverAt : Option Nat := none
  /-- the counts of R332 and the instant of the last change of STATE -/
  accepted : Nat := 0
  sent : Nat := 0
  errs : Nat := 0
  lost : Nat := 0
  ovf : Nat := 0
  stateAt : Nat := 0
deriving DecidableEq, Repr

/-- An entry of a LIN schedule table (R328). -/
structure LinEnt where
  ty   : Nat
  fid  : Nat
  slot : Nat
  aux  : Nat
deriving DecidableEq, Repr

/-- A LIN schedule table: its entries and ONCE (R334). -/
structure LinTable where
  once : Bool := false
  ents : List LinEnt := []
deriving DecidableEq, Repr

/-- The frame in the present LIN slot: identifier, whether the commander publishes it, whether the slot is
event-triggered, and the end of T_FRAME_MAX (R329). -/
structure LinFrame where
  fid   : Nat
  pub   : Bool
  evt   : Bool
  limit : Nat
  /-- the data that the commander sends, taken at the header's start (R327) -/
  data  : List Byte := []
deriving DecidableEq, Repr

/-- A frame that the commander sent beside its buffers: the go-to-sleep frame, with its checksum and instant (R372). -/
structure LinSent where
  fid  : Nat
  data : List Byte
  sum  : Nat
  at_  : Nat
deriving DecidableEq, Repr

/-- A LIN channel beside its registers. -/
structure LinChan where
  tables : Tab LinTable := Tab.empty
  /-- the schedule runs; the table of the present slot, its start instant and the next slot's -/
  run    : Bool := false
  table  : Nat := 0
  slotAt : Nat := 0
  nextAt : Nat := 0
  frame  : Option LinFrame := none
  /-- the present slot saw a collision (R328) -/
  coll   : Bool := false
  /-- table and entry to return to after the resolution table -/
  back   : Option (Nat × Nat) := none
  /-- a requested switch: table and WHEN (R335) -/
  switch_ : Option (Nat × Nat) := none
  /-- the table that was active before the present one (ONCE) -/
  prev   : Nat := 0
  /-- frames waiting in the shadow slots, by buffer -/
  shadow : Tab (List Byte) := Tab.empty
  /-- the bus sleeps (chapter 11), and the last go-to-sleep frame; the instant of the last wake-up pulse driven -/
  asleep : Bool := false
  lastSent : Option LinSent := none
  pulseAt : Nat := 0
deriving DecidableEq, Repr


/-! ## Signal gateway and island bridges (chapter 10) -/

/-- A signal entry (R345). -/
structure GSig where
  src    : Nat
  sstart : Nat
  slen   : Nat
  smot   : Bool
  ssgn   : Bool
  dstart : Nat
  dlen   : Nat
  dmot   : Bool
  dsgn   : Bool
  act    : Nat
  num    : Int
  den    : Nat
  off    : Int
  lo     : Int
  hi     : Int
deriving DecidableEq, Repr

/-- A route: its entry of R340 (its STAGED ENABLE is a register of the model), template, buffer, timers and counts
(R342, R353, R354). -/
structure GRoute where
  defined : Bool := false
  src  : Nat := 0
  dst  : Nat := 0
  level : Nat := 1
  onChange : Bool := false
  minGap : Nat := 0
  maxGap : Nat := 0
  timeout : Nat := 0
  tmoAct : Nat := 0
  dlen : Nat := 0
  dff  : Nat := 0
  pad  : Nat := 0
  first : Nat := 0
  count : Nat := 0
  tmpl : List Byte := []
  run  : Bool := true
  /-- RUN as written, taken over at the next source update -/
  runWant : Bool := true
  /-- the buffer (none: no value yet), and what was last sent -/
  buf  : Option (List Byte) := none
  last : Option (List Byte) := none
  /-- the newest source PDU of a level-1 route with its FDF and BRS -/
  pdu  : List Byte := []
  pduFf : Nat := 0
  bufAt : Nat := 0
  pend : Bool := false
  due  : Nat := 0
  updAt : Nat := 0
  sendAt : Option Nat := none
  /-- the last update and the last send on the island's own clock, as `due` is (R342) -/
  updClk : Nat := 0
  sendClk : Nat := 0
  timedOut : Bool := false
  /-- STOP of R343: sends nothing until the next update -/
  stopped : Bool := false
  updates : Nat := 0
  sends : Nat := 0
  coalesced : Nat := 0
  timeouts : Nat := 0
  ranges : Nat := 0
  shorts : Nat := 0
  fails : Nat := 0
deriving DecidableEq, Repr

/-- An Ethernet container: settings and the unsent container (R348). -/
structure GCont where
  mac  : Nat := 0
  vid  : Nat := 0
  pcp  : Nat := 0
  tmo  : Nat := 250000
  maxLen : Nat := 1500
  pdus : List (Nat × List Byte) := []
  firstAt : Nat := 0
  seq  : Nat := 0
deriving DecidableEq, Repr

/-- The signal gateway. -/
structure Gwy where
  routes : Tab GRoute := Tab.empty
  sigs   : List GSig := []
  conts  : Tab GCont := Tab.empty
  nConts : Nat := 0
  /-- payloads of received containers that wait to be unpacked -/
  waiting : List (List Byte) := []
  /-- the tables have been loaded, at this instant of the island's own clock (R347, R349) -/
  running : Bool := false
  loadAt : Nat := 0
  /-- how far steps have taken the count forward and back since: the island's own clock knows no step (R342) -/
  fwd : Nat := 0
  bck : Nat := 0
  updates : Nat := 0
  sends   : Nat := 0
  unknown : Nat := 0
deriving DecidableEq, Repr

/-- A read-ahead or pop slot of a bridge (R355, R356): the bridge (islands 0–9, banks as 10–41), whether the read goes
away from the system interconnect, the key, and once filled the data (none: a bus error) with its instant. -/
structure RaSlot where
  br   : Nat
  away : Bool
  acc  : Acc
  addr : Nat
  size : Nat
  pop  : Bool
  data : Option (Option (List Byte)) := none
  at_  : Nat := 0
deriving DecidableEq, Repr

/-- A posted write in the write buffer of a bridge (R26, R357): the bridge and direction, its master, when it entered and
until when it stays. -/
structure PostedWrite where
  br     : Nat
  away   : Bool
  master : Nat
  at_    : Nat
  until_ : Nat
deriving DecidableEq, Repr

/-- The island bridges: their slots, RA_EXPIRED and their write buffers; the error log is the registers GWY_BLOG. -/
structure Bridges where
  slots : List RaSlot := []
  expired : Nat := 0
  wbuf  : List PostedWrite := []
deriving DecidableEq, Repr


/-! ## Sleep and wake (chapter 11) -/

/-- A selective-wake filter (R381). -/
structure Swk where
  decode : Bool := false
  ide    : Bool := false
  dlcM   : Bool := false
  fecW   : Bool := false
  id     : Nat := 0
  mask   : Nat := 0
  dlc    : Nat := 0
  data   : List Byte := []
deriving DecidableEq, Repr

/-- Sleep and wake beside the registers of the WAK block. -/
structure Slp where
  /-- the sleep voters of the base configuration: bit v VPv, bit 16 the secure world -/
  voters : Nat := 0
  /-- the levels of the line inputs, true for high, and since when (R368) -/
  wakeIn : Bool := false
  ign    : Bool := false
  wakeSince : Nat := 0
  ignSince  : Nat := 0
  /-- the line inputs inactive since, and the last valid frame on CAN0 (R376) -/
  lineAt : Nat := 0
  can0At : Nat := 0
  readyAt : Nat := 0
  tCommit : Nat := 0
  tSleep : Nat := 0
  /-- the preparation has ended, the compute islands have stopped -/
  prepped : Bool := false
  /-- WAK_ARM and WAK_ARM_ETH as they were at t_commit (R367) -/
  arm    : Nat := 0
  armEth : Nat := 0
  /-- alarms by voter (0: none) (R374) -/
  alarms : Tab Nat := Tab.empty
  /-- selective-wake filters, channels that decode now, and their frame error counters (R370) -/
  swk    : Tab Swk := Tab.empty
  /-- the filters in use since the last sleep entry, and CAN channels armed when they went to sleep alone -/
  swkUse : Tab Swk := Tab.empty
  armChan : List Nat := []
  decoding : List Nat := []
  fec    : Tab Nat := Tab.empty
  /-- LIN channels that send the go-to-sleep frame at their next slot start -/
  linSleep : List Nat := []
  /-- ports with a running TC10 handshake, and ports in wake detection (R373) -/
  tc10   : List Nat := []
  ethAsleep : List Nat := []
  /-- the instant of the last TC10 wake-up pulse that SLP_CHANNEL sent on a port (R373) -/
  ethPulse : Tab Nat := Tab.empty
  /-- WAKE_DRIVE and SOURCE as they were at t_sleep, for the wake-up (R46, R394) -/
  wakeDrive : Bool := false
  tbSource  : Nat := 0
  /-- WAKE_OUT is driven, and until when (R369) -/
  wakeOut : Bool := false
  /-- ports that send a TC10 wake-up pulse once their PHY is powered (R369), and the instant of the last wake pulse driven on
  the Hedgerow ports (R394) -/
  wakeFwd : List Nat := []
  pulseAt : Nat := 0
  woutEnd : Option Nat := none
  /-- objects whose turn-off edges fall due at the first grid instant after t_commit -/
  offList : List Nat := []
deriving DecidableEq, Repr


/-! ## Hedgerow chain (chapter 12) -/


/-- An entry of the segment map in MRAM (R389). -/
structure MapEntry where
  serial : Nat
  pos    : Nat
  fixed  : Bool
deriving DecidableEq, Repr

/-- An ENUM_ACK as the root collects it (R390). -/
structure EnumAck where
  serial   : Nat
  depth    : Nat
  retained : Nat
  fin      : Bool
deriving DecidableEq, Repr

/-- The highest SEQ accepted from a sender and the window of 32 below it (R385): bit i of `seen` is SEQ `hi - 1 - i`. -/
structure HdgWin where
  any  : Bool := false
  hi   : Nat := 0
  seen : Nat := 0
deriving DecidableEq, Repr

/-- An entry of a root's Ethernet table (R398). -/
structure SegRoot where
  valid : Bool := false
  mac   : Nat := 0
  vid   : Nat := 0
deriving DecidableEq, Repr

/-- The Hedgerow link beside its registers. -/
structure Hdg where
  /-- frames queued for CHN_UP± and for CHN_DN± (R386) -/
  outUp : List HdgFrame := []
  outDn : List HdgFrame := []
  /-- frames a root has sent over Ethernet from I3 (R398), oldest first -/
  outEth : List (Nat × HdgFrame) := []
  /-- Ethernet frames for the root that have left I3 -/
  inEth : List (List Byte) := []
  map : List MapEntry := []
  /-- TOPO: whether one is held, the position of each depth from 1, its instant, and serial numbers newly learned -/
  topoHeld : Bool := false
  topo : List Nat := []
  topoAt : Nat := 0
  topoSerial : List Nat := []
  newLearned : List Nat := []
  enumAt : Option Nat := none
  enumDone : Nat := 0
  acks : List EnumAck := []
  seqOut : Nat := 0
  rx : Tab HdgWin := Tab.empty
  lastSync : Option Nat := none
  /-- instants of the last valid frame on CHN_UP± and CHN_DN± -/
  lastUp : Nat := 0
  lastDn : Nat := 0
  delayReq : Option Nat := none
  bypassOpen : Bool := false
  roots : Tab SegRoot := Tab.empty
  /-- the chain commit instant received with COMMIT (R396) -/
  commitAt : Option Nat := none
  /-- segment and depth of the running enumeration at a member; its END answer due at this instant; it answered END -/
  seg : Nat := 0
  ackDue : Option Nat := none
  isEnd : Bool := false
  /-- the node address in use before the last change, if any (R391) -/
  oldNode : Option Nat := none
  /-- the last delay measurement, and the receipt of a DELAY_REQ to answer -/
  delayAt : Nat := 0
  rspDue : Option Nat := none
  /-- the millisecond of the last SYNC sent -/
  syncMs : Nat := 0
  /-- the frames last sent on CHN_UP± and CHN_DN± -/
  sentUp : Option HdgFrame := none
  sentDn : Option HdgFrame := none
deriving DecidableEq, Repr




/-! ## Partitions, safety pairs and the world gateway (chapters 13–15) -/

/-- A partition beside its registers: the instant of its last change of STATE, t_pr of its last reset, SCRUB requested and
still to do, bytes moved to and from DRAM, accesses refused by R413, bytes charged in the regulation period (debt
included) and whether BUDGET was used up in it (R415, R418, R421–R426). -/
structure Part where
  stAt    : Nat := 0
  tpr     : Nat := 0
  scrub   : Bool := false
  moved   : Nat := 0
  blocked : Nat := 0
  used    : Nat := 0
  thr     : Bool := false
deriving DecidableEq, Repr

/-- A storage area: its size in blocks, bytes written since manufacture and the instant of the last write (R424, R428). -/
structure Store where
  size    : Nat := 0
  written : Nat := 0
  last    : Nat := 0
deriving DecidableEq, Repr

/-- A gate call of an application core: the saved identity, its level, and the end of the gate timer (R452–R454). -/
structure GateCall where
  part   : Nat
  hyp    : Bool
  until_ : Nat
deriving DecidableEq, Repr

/-- A line of the last-level cache (R420): its address over 64, its way, whether it is dirty, and for whom it was last filled
or written. -/
structure CacheLine where
  line  : Nat
  way   : Nat
  dirty : Bool
  who   : Nat
deriving DecidableEq, Repr

/-- An access that waits at the cluster interface (R422). -/
structure Waiting where
  acc  : Acc
  kind : AccKind
  addr : Nat
  len  : Nat
  data : List Byte
deriving DecidableEq, Repr

/-- The partitions, their storage, the world gateway and the clock and power controls beside their registers. -/
structure Parts where
  parts  : Tab Part := Tab.empty
  /-- storage areas by holder, 16 the secure world, and their blocks by 2^24 × holder + block; an unlisted block is zeros -/
  stores : Tab Store := Tab.empty
  blocks : Tab (List Byte) := Tab.empty
  /-- a host reset that waits for gate calls to end, with its cause (R457) -/
  hostWait : Option Nat := none
  /-- start of the DRAM regulation period -/
  period : Nat := 0
  /-- lines of the last-level cache (R420) -/
  llc : List CacheLine := []
  /-- accesses of STALL partitions that wait for the next period, and the replies to those that waited for this one (R422) -/
  waiting : List Waiting := []
  replies : List (Acc × BusReply) := []
  /-- the instant at which the normal world of the application cores was last started (R419, R528) -/
  normalAt : Nat := 0
  /-- running gate calls by core -/
  calls  : Tab (Option GateCall) := Tab.empty
  /-- a core's PSTATE that waits for its next wait for an interrupt, plus 1 (R459) -/
  want   : Tab Nat := Tab.empty
  /-- the first result register of a core's last gate call where the module sets it, plus 1 (R452, R456) -/
  gateRes : Tab Nat := Tab.empty
deriving DecidableEq, Repr

/-- A safety pair beside its registers: the instant STATE last changed, a checkpoint is held, the instants of the restarts
that RECENT counts, and a held debug halt request (R434–R441). -/
structure Pair where
  stAt    : Nat := 0
  ckpt    : Bool := false
  recents : List Nat := []
  halt    : Bool := false
deriving DecidableEq, Repr



/-! ## Hawthorn key store (chapter 16) -/

/-- A slot of the key store (R467, R469, R471): state of its own value (0 EMPTY, 1 VALID, 3 ERASED), active and shadow
values, parent (a slot, or 0x8000 + a domain), ORIGIN IMPORTED, LABEL, generation, the parent's generation recorded at
the last commit, the last t_kc, and a commit that waits for operations (with the command that asked for it). -/
structure KeySlot where
  raw    : Nat := 0
  value  : List Byte := []
  shadow : List Byte := []
  parent : Nat := 0x8007
  imported : Bool := false
  label  : List Byte := []
  gen    : Nat := 0
  pgen   : Nat := 0
  tkc    : Nat := 0
  commit : Option (Nat × Nat × Nat) := none
deriving DecidableEq, Repr

/-- An entry of the tamper log (R487). -/
structure TamperEnt where
  at_    : Nat
  sensor : Nat
  policy : Nat
  dev    : Nat
  action : Nat
  seq    : Nat
deriving DecidableEq, Repr

/-- Hawthorn beside its registers. -/
structure Hwn where
  slots : Tab KeySlot := Tab.empty
  /-- tamper log in MRAM, newest first, at most 32 entries; the newest sequence number -/
  tlog  : List TamperEnt := []
  tseq  : Nat := 0
  /-- policies in force since the last start, and those of the last accepted base configuration (R479) -/
  policy : Nat := 0xAAA
  policyNext : Nat := 0xAAA
  /-- Hawthorn has released a key since power-on or wake-up (R481) -/
  released : Bool := false
  /-- the events recorded in SLEEP, for the next start: sensor and policy, 0 ERASE, 1 LOCK or 2 LOG (R481) -/
  bootAlarms : List (Nat × Nat) := []
  /-- a tamper event is logged since the last start -/
  since : Bool := false
  /-- ERASE beyond the eighth fuse: no domain key is derivable -/
  spent : Bool := false
  /-- versions and digests of loaded images, by measurement ID (R477) -/
  meas : Tab (Nat × List Byte) := Tab.empty
deriving DecidableEq, Repr


/-! ## Fault collector (chapter 17) -/

/-- Fault classes (R490). -/
inductive FltClass where
  | corrected | contained | fatal
deriving DecidableEq, Repr

/-- A record of the fault log in MRAM (R495). -/
structure LogRec where
  when_   : Nat := 0
  seq     : Nat := 0
  code    : Nat := 0
  cls     : Nat := 0
  flags   : Nat := 0
  addr    : Nat := 0
  master  : Nat := 0xFF
  acc     : Nat := 0
  handler : Nat := 0x3F
  obj     : Nat := 0xFFFF
  rep     : Nat := 0
  detail  : Nat := 0
  /-- the record was written (an unwritten slot of the ring holds none) -/
  valid   : Bool := false
deriving DecidableEq, Repr

/-- An entry of a handler's notification queue (R493). -/
structure Note where
  index  : Nat
  code   : Nat
  cont   : Bool
  addr   : Nat
  obj    : Nat
  /-- the end of its running handling timer -/
  timer  : Option Nat
  stage1 : Bool := false
deriving DecidableEq, Repr

/-- A condition that keeps the quiet timer at zero (R501). -/
structure FatalCond where
  code : Nat
  src  : Nat
deriving DecidableEq, Repr

/-- A reaction that the end of the present command carries out (R493, R496–R500): the model's own list, empty between
commands. -/
inductive React where
  | partReset (v : Nat)
  | escalate
  /-- entry to COPPICE with a reason (R539) -/
  | coppice (reason : Nat)
  | fatal
  /-- a wake-up: the start of R360 -/
  | wake
  /-- a reset of R526 by its code, with its start -/
  | reset (ty : Nat)
deriving DecidableEq, Repr
/-- The fault collector beside its registers. -/
structure Flt where
  /-- the log ring in MRAM, by INDEX -/
  log : Tab LogRec := Tab.empty
  /-- the next SEQ -/
  seq : Nat := 0
  /-- notification queues, by handler target code -/
  queue : Tab (List Note) := Tab.empty
  /-- counts by class since the last COMPUTE reset (R504) -/
  count : Tab Nat := Tab.empty
  /-- end of the running quiet timer -/
  quietEnd : Option Nat := none
  /-- FATAL conditions that persist -/
  conds : List FatalCond := []
  /-- last PRIVET_RESTART -/
  lastPrivet : Option Nat := none
  /-- the handler of each class's captured fault (R505), by class -/
  capH : Tab Nat := Tab.empty
  /-- reactions still to carry out at the end of the present command -/
  react : List React := []
deriving DecidableEq, Repr



/-! ## Configuration, overlays and maintenance (chapter 18) -/

/-- A record of a configuration image, by physical address (R506). -/
structure Rec where
  addr  : Nat
  value : Nat
  mask  : Nat
deriving DecidableEq, Repr

/-- An overlay of the set that is running (R506, R507). -/
structure Overlay where
  present : Bool := false
  sleepOk : Bool := false
  recs : List Rec := []
  /-- ownership records: the object's key, owner and readers (R70) -/
  owns : List (Nat × Own) := []
deriving DecidableEq, Repr

/-- A pending overlay switch or commit (R514, R516, R517). -/
structure SwitchPend where
  commit : Bool
  ovl    : Nat
  at_    : Nat
  /-- the pending values closed at t_ov - 1 ms, once the cut-off has come -/
  cut    : List (Fld × Nat) := []
  closed : Bool := false
  /-- held because ALIGN_ALL was 0 at t_ov -/
  held   : Bool := false
deriving DecidableEq, Repr

/-- A request queued in the maintenance arbiter (R521): activity code, the command that queued it (node, window, tag;
none for the unit's own), its requester, its operands, and whether it has waited 1 s. -/
structure MaintReq where
  act   : Nat
  cmd   : Option (Nat × Nat × Nat) := none
  op    : Nat := 0
  who   : Nat := 17
  first : Nat := 0
  count : Nat := 0
  flags : Nat := 0
  since : Nat := 0
  old   : Bool := false
  /-- the instant at which a periodic request fell due (R474, R522) -/
  due   : Nat := 0
  /-- the objects of a new probe after ABORTED (R144); none: a range of terminals -/
  objs  : List Nat := []
deriving DecidableEq, Repr

/-- A running maintenance activity. -/
structure MaintRun where
  req   : MaintReq
  start : Nat
  /-- the objects it holds in PROBE -/
  objs  : List Nat := []
deriving DecidableEq, Repr

/-- The configuration beside its registers: STAGED fields hold a base value, an override and a pending value (R515). -/
structure Cfgx where
  /-- base values of registers, by address; an unlisted register has its reset value -/
  base : Tab Word := Tab.empty
  overs : List (Fld × Nat) := []
  pend : List (Fld × Nat) := []
  baseOwn : Tab Own := Tab.empty
  /-- the system SRAM that the base configuration reserves for DEVICE: base and length (R310) -/
  devArea : Nat × Nat := (0, 0)
  ovls : Tab Overlay := Tab.empty
  /-- OVL_CTRL (R512) -/
  ovlCtrl : Nat := 0
  startOvl : Nat := 0xFF
  resumeLast : Bool := false
  /-- the overlay active at the last t_sleep or reset, in MRAM (R512) -/
  lastOvl : Nat := 0xFF
  switch_ : Option SwitchPend := none
  /-- the end of the open service session (R513) -/
  svcEnd : Option Nat := none
  nonce : Nat := 0
  /-- failed SERVICE_OPENs in a row (R478) -/
  authFail : Nat := 0
  /-- the maintenance arbiter -/
  mq : List MaintReq := []
  mrun : List MaintRun := []
  mBusy : Nat := 0
  mLateRemask : Nat := 0
  /-- instants of the last periodic comparison, scrub request and LBIST request -/
  cmpAt : Nat := 0
  scrubAt : Nat := 0
  lbistAt : Nat := 0
  /-- periodic requests held while the sleep phase is READY or COMMITTED (R522): activity code and due instant -/
  heldActs : List (Nat × Nat) := []
deriving DecidableEq, Repr




/-! ## Start-up, update and supply (chapters 19–21) -/

/-- How far the present start has come (R528). -/
inductive Stage where
  /-- before the images are checked -/
  | images
  /-- images checked, configuration loaded: until BOOT_LOCK -/
  | loaded
  /-- BOOT_LOCK is set: until the images are released -/
  | locked
  /-- released -/
  | released
  /-- ROM recovery (R530) -/
  | rom
deriving DecidableEq, Repr

/-- A journaled copy that a start performs before it reads an image (R554). -/
inductive BootCopy where
  | activate
  | rollback
deriving DecidableEq, Repr

/-- Boot control beside its registers. -/
structure Boot where
  stage   : Stage := .images
  /-- the boot ROM is copying: the start begins at the end of the copy (R554) -/
  copying : Option BootCopy := none
  /-- BOOT_LOCK instant -/
  lockAt  : Nat := 0
  /-- instant and type of a reset that a command has scheduled (R541, R542) -/
  rstAt   : Option (Nat × Nat) := none
  /-- DRAM training of the present start has ended well -/
  dram    : Bool := false
  /-- the coppice record in MRAM: register words, and the EPOCH of its tag (R536) -/
  record  : Option (List (Nat × Nat) × Nat) := none
  /-- the response slot that ROM recovery sent last (R561) -/
  romRsp  : List Byte := []
  /-- objects that still hold their previous LOCKED fields (R529) -/
  lockPend : List Nat := []
  /-- the fabric runs an earlier set until BOOT_LOCK (R529) -/
  newFab : Bool := false
  /-- the present start reached FABRIC -/
  fabric  : Bool := true
  /-- pairs whose start-up self-test failed so that their partition stays OFF, and split cores likewise (R440) -/
  failed  : List Nat := []
  /-- the end of a restart of the Privet controller that runs, and the commands that were in flight at its beginning (R74) -/
  privetEnd : Option Nat := none
  privetCmds : List Cmd := []
deriving DecidableEq, Repr

/-- An image of an area (R543, R546): ciphertext, version and digest of the plaintext. -/
structure NandImage where
  data    : List Byte := []
  nonce   : List Byte := []
  version : Nat := 0
  digest  : List Byte := []
deriving DecidableEq, Repr

/-- An active or fallback area: its manifest, the wrapped area key, and its images by ID (R543). -/
structure Area where
  manifest : List Byte := []
  key      : List Byte := []
  images   : Tab (Option NandImage) := Tab.empty
deriving DecidableEq, Repr

/-- The update engine beside its registers (R549–R558). -/
structure Upd where
  manifest : List Byte := []
  chunkTab : List Byte := []
  /-- accepted chunks by index: the staging payload and the bitmap -/
  chunks   : Tab (Option (List Byte)) := Tab.empty
  /-- the prepared area header's key after verification -/
  key      : List Byte := []
  active   : Area := {}
  fallback : Area := {}
  /-- instant of the last change of STATE -/
  stAt     : Nat := 0
  /-- UPD_ABORT in PENDING_CONFIRM (R558) -/
  rollback : Bool := false
  /-- the session was discarded while a copy was pending (R560) -/
  dropped  : Bool := false
  /-- verification was interrupted (R559) -/
  reverify : Bool := false
  /-- the package was loaded by ROM recovery: no tries and no rollback (R561) -/
  rom      : Bool := false
  /-- SET_GEN + 1 of a set that was rolled back: the generation its successor is written with (R556) -/
  rbGen    : Option Nat := none
  /-- the activation that is being copied prepares first (R554) -/
  reprep   : Bool := false
  /-- the RESULT of a rollback that is being copied (R558) -/
  rbResult : Nat := 0
  /-- the two journal slots and their next sequence number (R555) -/
  slots    : Tab (List Byte) := Tab.empty
  jseq     : Nat := 0
  /-- public-key hashes in fuses (R547) -/
  hashes   : Tab (List Byte) := Tab.empty
deriving DecidableEq, Repr

/-- Supply and housing (R574–R585): the end of hold-up, and housing temperatures of the last second in °C, newest first. -/
structure Supply where
  holdEnd : Option Nat := none
  temps   : List Int := []
deriving DecidableEq, Repr


/-! ## The state -/

/-- The state of the block, with the queue of waiting commands. -/
structure State where
  now : Nat
  regs : Tab Word
  hold : Tab Word
  mem : List Host.Cell
  bus : BusReply
  free : Nat
  tb : TimeBase
  irq : Irq
  dev : DevState
  devSince : Nat
  own : Tab Own
  mbx : Mbx
  fab : Fabric
  cyc : Cyc
  swc : Swc
  tsn : Tsn
  can : Tab CanChan
  lin : Tab LinChan
  gwy : Gwy
  brg : Bridges
  slp : Slp
  hdg : Hdg
  prt : Parts
  pairs : Tab Pair
  hwn : Hwn
  flt : Flt
  cfg : Cfgx
  boot : Boot
  upd : Upd
  sup : Supply
  pending : List Instr
deriving DecidableEq, Repr

/-- The block right after reset: loss and return of all feeds, before the first start step (R16, R526). -/
def State.reset : State where
  now := 0
  regs := Tab.empty
  hold := Tab.empty
  mem := []
  bus := .none
  free := 0
  tb := {}
  irq := {}
  dev := .starting
  devSince := 0
  own := Tab.empty
  mbx := {}
  fab := {}
  cyc := {}
  swc := {}
  tsn := {}
  can := Tab.empty
  lin := Tab.empty
  gwy := {}
  brg := {}
  slp := {}
  hdg := {}
  prt := {}
  pairs := Tab.empty
  hwn := {}
  flt := {}
  cfg := {}
  boot := {}
  upd := {}
  sup := {}
  pending := []

end Sys2Proof.Machine
end

