-- ==== Sys2Proof/Machine/Ops.lean ====
section
/-!
DEFINITION. Machine/Ops.lean: the shared operations over memory, registers, time, free values, interrupts and the
fault collector.
-/
namespace Sys2Proof.Machine

open Host

/-! ## Memory: a sorted list of bytes; an unlisted byte reads as 0x00 (DESIGN CHOICE, assumption 2) -/

/-- What an address that nothing has written reads as. -/
def Memory.unlisted : Byte := 0

/-- Insert, replace or (for the unlisted value) remove a byte. -/
def Memory.put (a : Nat) (b : Byte) : List Cell → List Cell
  | [] => if b = Memory.unlisted then [] else [(a, b)]
  | (k, x) :: l =>
    if a < k then (if b = Memory.unlisted then (k, x) :: l else (a, b) :: (k, x) :: l)
    else if a = k then (if b = Memory.unlisted then l else (a, b) :: l)
    else (k, x) :: Memory.put a b l

/-- The byte at an address. -/
def Memory.byte (m : List Cell) (a : Nat) : Byte :=
  match m with
  | [] => Memory.unlisted
  | (k, x) :: l => if k = a then x else Memory.byte l a

/-- Every listed address is above `lo`, strictly rising, and no listed byte is the unlisted value. -/
def Memory.wfFrom : Nat → List Cell → Bool
  | _, [] => true
  | lo, (k, x) :: l => decide (lo ≤ k) && decide (x ≠ Memory.unlisted) && Memory.wfFrom (k + 1) l

/-- The canonical form of memory. -/
def Memory.wf (m : List Cell) : Bool := Memory.wfFrom 0 m

/-- Write a byte string at an address. -/
def Memory.write (m : List Cell) (a : Nat) : List Byte → List Cell
  | [] => m
  | b :: l => Memory.write (Memory.put a b m) (a + 1) l

/-- Read `n` bytes from an address. -/
def Memory.read (m : List Cell) (a : Nat) : Nat → List Byte
  | 0 => []
  | n + 1 => Memory.byte m a :: Memory.read m (a + 1) n

/-- Memory with every byte of a range zeroed. -/
def Memory.zero (m : List Cell) (a n : Nat) : List Cell := m.filter (fun c => !(decide (a ≤ c.1) && decide (c.1 < a + n)))

/-- The byte of memory at an address. -/
def State.byte (s : State) (a : Nat) : Byte := Memory.byte s.mem a
/-- Store a byte string. -/
def State.store (s : State) (a : Nat) (l : List Byte) : State := { s with mem := Memory.write s.mem a l }
/-- Load `n` bytes. -/
def State.load (s : State) (a n : Nat) : List Byte := Memory.read s.mem a n

/-! ## Ranges of the address map -/

/-- System SRAM, safety TCM aliases, cycle memory, MRAM, DRAM (R30). -/
def inSram (a : Nat) : Bool := decide (a ≤ 0xFFFFFF)
def inTcm (a : Nat) : Bool := decide (0x1000000 ≤ a) && decide (a ≤ 0x17FFFFF)
def inCycle (a : Nat) : Bool := decide (0x2000000 ≤ a) && decide (a ≤ 0x23FFFFF)
def inMram (a : Nat) : Bool := decide (0x4000000 ≤ a) && decide (a ≤ 0x7FFFFFF)
def inDram (a : Nat) : Bool := decide (0x100000000 ≤ a) && decide (a ≤ 0x2FFFFFFFF)
/-- A memory range of the map. -/
def inMemory (a : Nat) : Bool := inSram a || inTcm a || inCycle a || inMram a || inDram a
/-- The peripheral range (R30, R33). -/
def inPeri (a : Nat) : Bool := decide (0x10000000 ≤ a) && decide (a ≤ 0x10FFFFFF)
/-- The control window (R31). -/
def inControl (a : Nat) : Bool := decide (0x10800000 ≤ a) && decide (a ≤ 0x10FFFFFF)
/-- A row of the tables of R30 and R31 covers a peripheral address: the blocks of R30, the control window's row among
them. -/
def inBlock (a : Nat) : Bool :=
  (decide (0x10000000 ≤ a) && decide (a ≤ 0x1004FFFF)) || (decide (0x10050000 ≤ a) && decide (a ≤ 0x10050FFF)) ||
  (decide (0x10100000 ≤ a) && decide (a ≤ 0x104FFFFF)) || inControl a

/-- The controller that guards an address (R446). -/
def mpcOf (a : Nat) : Option Nat :=
  if inSram a then some 0 else if inTcm a then some 1 else if inCycle a then some 2 else if inMram a then some 3
  else if inPeri a && !inControl a then some 4 else if inDram a then some 5 else none

/-! ## Registers -/

/-- The word of the register at a physical address. -/
def State.word (s : State) (a : Nat) : Word := s.regs.get (resetWord a) a
/-- Set the word of the register at a physical address. -/
def State.setWord (s : State) (a : Nat) (w : Word) : State := { s with regs := s.regs.set a w }
/-- A field of a register. -/
def State.rd (s : State) (f : Fld) : Nat := (s.word f.reg).field f.lo f.len
/-- A one-bit field of a register. -/
def State.rdb (s : State) (f : Fld) : Bool := s.rd f == 1
/-- Set a field of a register. -/
def State.wr (s : State) (f : Fld) (v : Nat) : State := s.setWord f.reg ((s.word f.reg).withField f.lo f.len v)
/-- Set a one-bit field of a register. -/
def State.wrb (s : State) (f : Fld) (b : Bool) : State := s.wr f (b2n b)
/-- Increment a field, wrapping at its width. -/
def State.inc (s : State) (f : Fld) : State := s.wr f (s.rd f + 1)
/-- Add to a field, saturating at its width. -/
def State.sat (s : State) (f : Fld) (n : Nat) : State := s.wr f (min (s.rd f + n) (2 ^ f.len - 1))
/-- The number that a word of a register holds. -/
def State.wordN (s : State) (a : Nat) : Nat := (s.word a).toNat
/-- Write a 64-bit value to a pair of registers, low word first (R11). -/
def State.setPair (s : State) (lo hi v : Nat) : State :=
  (s.setWord lo (BitVec.ofNat 32 v)).setWord hi (BitVec.ofNat 32 (v / 2 ^ 32))
/-- The 64-bit value of a pair of registers. -/
def State.pair (s : State) (lo hi : Nat) : Nat := s.wordN lo + 2 ^ 32 * s.wordN hi
/-- Return the registers of an address range to their reset values. -/
def State.resetRegs (s : State) (lo hi : Nat) : State :=
  { s with regs := s.regs.keep (fun a => !(decide (lo ≤ a) && decide (a ≤ hi))) }

/-! ## Time and free values -/

/-- The count at an instant: in SLEEP the wake domain carries it in whole periods of its 32.768 kHz clock, 30.518 µs, from
the instant of sleep entry (R46). -/
def State.countAt (s : State) (t : Nat) : Nat :=
  if s.dev = .sleep ∧ s.devSince ≤ t then s.devSince + (t - s.devSince) * 32768 / 1000000000 * 1000000000 / 32768 else t

/-- The state at the instant of a command: the master count never runs back by a command's own instant. -/
def State.at_ (s : State) (t : Nat) : State := { s with now := max s.now (s.countAt t) }

/-- The next free value of at most `bound`, and the state with it drawn (DESIGN CHOICE, assumption 1). -/
def State.draw (s : State) (bound : Nat) : Nat × State :=
  (Config.freeNat s.free % (bound + 1), { s with free := s.free + 1 })

/-- Nanoseconds of one microsecond, millisecond and second. -/
def us (n : Nat) : Nat := n * 1000
def ms (n : Nat) : Nat := n * 1000000
def sec (n : Nat) : Nat := n * 1000000000

/-! ## Identities -/

/-- The holder code of an identity: 0–15 VPn, 16 the secure world, 17 DEVICE (R69, R160). -/
def accWho (a : Acc) : Nat := if a.dev then 17 else if a.sec then 16 else a.part

/-- The holder code that a target code of R36 names: none (0x3F) is DEVICE (R69). -/
def whoOfTarget (c : Nat) : Nat := if c < 16 then c else if c = 0x10 then 16 else 17

/-- The target code of a holder (R36). -/
def targetOf (w : Nat) : Nat := if w < 16 then w else if w = 16 then 0x10 else 0x3F

/-- An owner as KEY_STATUS and MPC_CPCk code it: DEVICE reads 0x3E (R458, R485). -/
def ownerCode (w : Nat) : Nat := if w = 17 then 0x3E else targetOf w

/-- The partition that safety core `i` (0–7) hosts, by HOSTING SAFETY and SCORE of the configuration (R407). -/
def State.corePart (s : State) (i : Nat) : Option Nat :=
  (List.range 16).find? (fun v => s.rd (F.MPC_PART_CFG_HOSTING v) == 2 && s.rd (F.MPC_PART_CFG_SCORE v) == i)

/-- Whether partition `v` is hosted on a safety core, and on which. -/
def State.hostCore (s : State) (v : Nat) : Option Nat :=
  if s.rd (F.MPC_PART_CFG_HOSTING v) == 2 then some (s.rd (F.MPC_PART_CFG_SCORE v)) else none

/-- A pair runs split: in COPPICE SP0 never does (R430). -/
def State.isSplit (s : State) (n : Nat) : Bool := s.rdb (F.FLT_LS_CFG_SPLIT n) && s.dev != .coppice

/-- The bank of a banked register that an access reaches, as a target code (R36): the safety core that issues it, SPna for
either core of a pair that is not split (R429), the secure world or the partition; DEVICE has none. -/
def State.accBank (s : State) (a : Acc) : Nat :=
  if a.dev then 0x3F
  else if 8 ≤ a.master ∧ a.master < 16 then (let c := a.master - 8; 0x18 + (if s.isSplit (c / 2) then c else c / 2 * 2))
  else if a.sec then 0x10 else a.part

/-- The partition that carries HOST, if one does (R407). -/
def State.hostPart (s : State) : Option Nat := (List.range 16).find? (fun v => s.rdb (F.MPC_PART_CFG_HOST v))

/-- The replica of an island or bank is aligned (R40). -/
def State.aligned (s : State) (i : Nat) : Bool := (s.tb.replicas.get {} i).aligned

end Sys2Proof.Machine
end

