-- ==== Sys2Proof/Machine/Flags.lean ====
section
/-!
DEFINITION. Machine/Flags.lean: the interrupt flags (R35–R39) and the fault collector's records, captures and
queues (R488–R498): what raising an interrupt or a fault does to the state.
-/
namespace Sys2Proof.Machine

/-! ## Interrupts -/

/-- Whether the notification queue of a handler is not empty (R493). -/
def State.noted (s : State) (h : Nat) : Bool := !(s.flt.queue.get [] h).isEmpty

/-- The response-ready line of window `w` (R54). -/
def State.mbxLine (s : State) (w : Nat) : Bool :=
  s.rdb (F.MBX_CTL_IRQ_EN w) && decide (s.rd (F.MBX_RSP_PROD_PROD w) ≠ s.rd (F.MBX_RSP_CONS_CONS w))

/-- The level sources: response ready, fault notification and the event queues of the CAN channels (R54, R325, R493). No chapter
states the nature of the comparator sources 0–15 and of the bridge sources 80–95: they are edge sources here (DESIGN CHOICE,
assumption 147). -/
def levelSource (n : Nat) : Bool :=
  (decide (16 ≤ n) && decide (n ≤ 32)) || (decide (48 ≤ n) && decide (n ≤ 72)) ||
  (decide (384 ≤ n) && decide (n < 512) && decide (n % 8 < 2))

/-- Reserved source numbers (R35 and the source tables of the chapters). -/
def reservedSource (n : Nat) : Bool :=
  decide (1024 ≤ n) || [(33, 47), (73, 79), (91, 95), (125, 127), (287, 287), (295, 383), (548, 575), (707, 719), (726, 735), (741, 767)].any
    (fun r => decide (r.1 ≤ n) && decide (n ≤ r.2)) || (decide (384 ≤ n) && decide (n < 512) && n % 8 == 7)

/-- The line of a level source (R54, R325, R493). -/
def State.irqLevel (s : State) (n : Nat) : Bool :=
  if 16 ≤ n ∧ n ≤ 32 then s.mbxLine (n - 16)
  else if 48 ≤ n ∧ n < 64 then s.noted (n - 48) && (s.hostCore (n - 48)).isNone
  else if n = 64 then s.noted 0x10
  else if 65 ≤ n ∧ n ≤ 72 then (match s.corePart (n - 65) with | some v => s.noted v | none => false)
  else s.irq.line.get false n

/-- Source `n` is pending: an edge source by its latch, a level source by its asserted line while it is not active (R38). -/
def State.irqPending (s : State) (n : Nat) : Bool :=
  if levelSource n then s.irqLevel n && !(s.irq.active.get false n) else s.irq.pend.get false n

/-- The mask of a requester: values above 0x10 act as 0x10 (R37). -/
def State.irqMaskOf (s : State) (bank : Nat) : Nat := min (s.irq.mask.get 0x10 bank) 0x10

/-- Source `n` is routed to a requester: a safety core also takes the routes of the partition it hosts (R36, R411). -/
def State.irqMine (s : State) (bank n : Nat) : Bool :=
  s.rd (F.IRQ_ROUTE_TARGET n) == bank ||
  (decide (0x18 ≤ bank) && decide (bank ≤ 0x1F) && (s.corePart (bank - 0x18) == some (s.rd (F.IRQ_ROUTE_TARGET n))))

/-- Source `n` is routed to, pending for and deliverable to a requester (R37–R39). -/
def State.irqDeliverable (s : State) (bank n : Nat) : Bool :=
  s.irqPending n && !(s.irq.active.get false n) && s.irqMine bank n &&
  decide (s.rd (F.IRQ_ROUTE_PRIO n) < s.irqMaskOf bank)

/-- The better of two deliverable sources: the higher priority, then the lower number (R37). -/
def State.irqBetter (s : State) (b : Option Nat) (n : Nat) : Option Nat :=
  match b with
  | none => some n
  | some m => if s.rd (F.IRQ_ROUTE_PRIO n) < s.rd (F.IRQ_ROUTE_PRIO m) then some n else some m

/-- The deliverable source of the highest priority, the lowest number among equals (R37). -/
def State.irqHead (s : State) (bank : Nat) : Option Nat :=
  ((List.range 1024).filter (fun n => s.irqDeliverable bank n)).foldl (fun b n => s.irqBetter b n) none

/-- The word that IRQ_HEAD holds for a requester (R37). -/
def State.irqHeadWord (s : State) (bank : Nat) : Nat :=
  match s.irqHead bank with
  | some n => 2 ^ 31 + s.rd (F.IRQ_ROUTE_PRIO n) * 2 ^ 16 + n
  | none => 0

/-- An edge source triggers: it becomes pending once (R38). -/
def State.trig (s : State) (n : Nat) : State := { s with irq.pend := s.irq.pend.set n true }

/-! ## Faults -/

/-- The handler kinds of R492. -/
inductive HKind where
  | accessor
  | owner (who : Nat)
  | host
  | system
  | none
deriving DecidableEq, Repr

/-- A fault as a report port delivers it (R488): code, class, handler kind, the access it carries (identity, access type
of R494 and address), object and detail. -/
structure Report where
  code   : Nat
  cls    : FltClass
  kind   : HKind
  acc    : Option (Acc × Nat × Nat) := none
  obj    : Nat := 0xFFFF
  detail : Nat := 0
deriving DecidableEq, Repr

/-- The class codes of R495. -/
def FltClass.code : FltClass → Nat
  | .corrected => 0
  | .contained => 1
  | .fatal => 2

/-- The target code of the host partition, or none (R492). -/
def State.hostTarget (s : State) : Nat := (s.hostPart).getD 0x3F

/-- The SYSTEM handler (R492): the host partition in place of the secure world while SEC_STATE is not RUNNING; the partition that a safety
core hosts for the core's target code (R411, DEDUCED, assumption 169). -/
def State.sysHandler (s : State) : Nat :=
  let h := s.rd F.FLT_SYS_SYS_HANDLER
  if h = 0x10 ∧ s.rd F.MPC_GW_STAT_SEC_STATE ≠ 1 then s.hostTarget
  else if 0x18 ≤ h ∧ h ≤ 0x1F then (s.corePart (h - 0x18)).getD 0x3F else h

/-- The handler of a holder: DEVICE is replaced by SYSTEM (R492). -/
def State.handlerOf (s : State) (who : Nat) : Nat := if who ≤ 16 then targetOf who else s.sysHandler

/-- The handler of a report, as a target code; 0x3F is none (R492). -/
def State.handler (s : State) (r : Report) : Nat :=
  match r.kind with
  | .accessor => (match r.acc with | some (a, _, _) => s.handlerOf (accWho a) | none => s.sysHandler)
  | .owner w => s.handlerOf w
  | .host => (match s.hostPart with | some v => v | none => s.sysHandler)
  | .system => s.sysHandler
  | .none => 0x3F

/-- Whether partition `v` is RESETTING, HALTED or OFF (R412). -/
def State.partDown (s : State) (v : Nat) : Bool :=
  let st := s.rd (F.MPC_PART_STAT_STATE v)
  st == 0 || st == 3 || st == 4

/-- The handling timer length (R496, FLT_CFG). -/
def State.htimer (s : State) : Nat := us (10 * s.rd F.FLT_CFG_HTIMER)

/-- The quiet period (R501, FLT_CFG). -/
def State.quiet (s : State) : Nat := ms (10 * s.rd F.FLT_CFG_QUIET)

/-- Fill the first-error capture of a class, or count a later fault (R494). -/
def State.capture (s : State) (r : Report) : State :=
  let c := r.cls.code
  if s.rdb (F.FLT_FE_INFO_VALID c) then s.sat (F.FLT_FE_CODE_LATER c) 1
  else
    let (a, ty, ad) := r.acc.getD (⟨0xFF, false, 0, false, false⟩, 0, 0)
    let s := { s.setWord (R.FLT_FE_INFO c) 0 with flt.capH := s.flt.capH.set c (s.handler r) }
    let s := s.wrb (F.FLT_FE_INFO_VALID c) true
    let s := s.wrb (F.FLT_FE_INFO_DEVICE_ID c) (r.acc.isSome && a.dev)
    let s := s.wr (F.FLT_FE_INFO_ACCESS c) ty
    let s := s.wrb (F.FLT_FE_INFO_SECURE c) a.sec
    let s := s.wr (F.FLT_FE_INFO_PART c) (if a.sec || a.dev then 0 else a.part)
    let s := s.wr (F.FLT_FE_INFO_MASTER c) a.master
    let s := s.wr (F.FLT_FE_INFO_ADDR_HI c) (ad / 2 ^ 32)
    let s := s.setWord (R.FLT_FE_CODE c) (BitVec.ofNat 32 r.code)
    let s := s.setWord (R.FLT_FE_ADDR c) (BitVec.ofNat 32 ad)
    s.setPair (R.FLT_FE_TS_LO c) (R.FLT_FE_TS_HI c) s.now

/-- The count of a class since the last COMPUTE-domain reset: CORRECTED wraps at 32 bits, the others saturate at 16
(R504). -/
def State.countFault (s : State) (c : FltClass) : State :=
  let n := s.flt.count.get 0 c.code + 1
  { s with flt.count := s.flt.count.set c.code (match c with | .corrected => n % 2 ^ 32 | _ => min n 0xFFFF) }

/-- Whether a queue entry is the one that a further fault merges into (R493). -/
def Note.matches (n : Note) (r : Report) : Bool :=
  n.code == r.code && (match r.acc with | some (_, _, ad) => n.addr == ad | none => n.obj == r.obj)

/-- The log record of a report (R495). -/
def State.record (s : State) (r : Report) (h : Nat) (flags : Nat) : LogRec :=
  let (a, ty, ad) := r.acc.getD (⟨0xFF, false, 0, false, false⟩, 0, 0)
  { when_ := s.now, seq := s.flt.seq, code := r.code, cls := r.cls.code,
    flags := flags + (if r.acc.isSome && a.dev then 16 else 0) + (if s.dev = .fault then 32 else 0),
    addr := ad % 2 ^ 40, master := a.master, acc := ty * 32 + (b2n a.sec) * 16 + (if a.sec || a.dev then 0 else a.part),
    handler := h, obj := r.obj, rep := 0, detail := r.detail % 2 ^ 32, valid := true }

/-- Append a record to the log ring (R495). -/
def State.logRec (s : State) (l : LogRec) : State :=
  { s with flt.log := s.flt.log.set (s.flt.seq % 4096) l, flt.seq := (s.flt.seq + 1) % 2 ^ 32 }

/-- Set flag bits of the log record at an index. -/
def State.logFlag (s : State) (idx f : Nat) : State :=
  let l := s.flt.log.get {} idx
  { s with flt.log := s.flt.log.set idx { l with flags := l.flags ||| f } }

/-- Remove the oldest CORRECTED entry of a queue, if one is there (R493). -/
def dropCorrected : List Note → Option (List Note)
  | [] => none
  | n :: l => if n.cont then (dropCorrected l).map (fun x => n :: x) else some l

/-- The instant a record's handling timer ends: from the notification instant within 2 µs of detection (R493, R496); no
timer runs for a partition that is down (R497, R502). -/
def State.noteTimer (s : State) (h : Nat) : Option Nat × State :=
  if h < 16 ∧ s.partDown h = true then (none, s)
  else
    let d := s.draw (us 2)
    (some (s.now + d.1 + s.htimer), d.2)

/-- Queue a record for its handler (R493). -/
def State.queueNote (s : State) (r : Report) (h idx : Nat) : State :=
  let q := s.flt.queue.get [] h
  let ad := match r.acc with | some (_, _, ad) => ad | none => 0
  match r.cls with
  | .corrected =>
    if q.length < 64 then
      { s with flt.queue := s.flt.queue.set h (q ++ [{ index := idx, code := r.code, cont := false, addr := ad, obj := r.obj, timer := none }]) }
    else s.sat F.FLT_STAT_NOTE_LOST 1
  | .contained =>
    let tm := s.noteTimer h
    let e : Note := { index := idx, code := r.code, cont := true, addr := ad, obj := r.obj, timer := tm.1 }
    if q.length < 64 then { tm.2 with flt.queue := s.flt.queue.set h (q ++ [e]) }
    else match dropCorrected q with
      | some q' => { tm.2 with flt.queue := s.flt.queue.set h (q' ++ [e]) }
      | none =>
        let s := s.logFlag idx 10
        { s with flt.react := s.flt.react ++ [if h = 0x10 then React.escalate else React.partReset h] }
  | .fatal => s

/-- A CONTAINED or FATAL fault in FAULT restarts the quiet timer, unless a condition holds it (R501). -/
def State.restartQuiet (s : State) (r : Report) : State :=
  if s.dev = .fault ∧ r.cls ≠ .corrected ∧ s.flt.conds = [] then { s with flt.quietEnd := some (s.now + s.quiet) } else s

/-- Raise a fault: count, capture, merge or log, queue, and note the reactions that the end of the command carries out
(R488–R500). -/
def State.raise (s : State) (r : Report) : State :=
  let s := (s.countFault r.cls).capture r
  let h := s.handler r
  let q := s.flt.queue.get [] h
  let s := s.restartQuiet r
  match (if r.cls = .fatal then none else q.find? (fun n => n.matches r)) with
  | some n =>
    let l := s.flt.log.get {} n.index
    { s with flt.log := s.flt.log.set n.index { l with rep := satAdd l.rep 1 0xFFFF } }
  | none =>
    let idx := s.flt.seq % 4096
    let s := s.logRec (s.record r h (if h = 0x3F ∧ r.cls ≠ .fatal then 1 else 0))
    match r.cls with
    | .fatal => { s with flt.react := s.flt.react ++ [React.fatal] }
    | _ => if h = 0x3F then s else s.queueNote r h idx

/-- Count a refusal in MPC_m_VIOL of the controller that guards the address (R451). -/
def State.countViol (s : State) (code addr : Nat) : State :=
  match mpcOf addr with
  | some m => if code = 0x0B02 then s.sat (F.MPC_VIOL_WORLD m) 1 else if code = 0x0B01 then s.sat (F.MPC_VIOL_ACCESS m) 1 else s
  | none => s

/-- Raise a CONTAINED access violation or another fault of an access, and count a refusal (R32, R451). -/
def State.accFault (s : State) (code : Nat) (a : Acc) (ty addr : Nat) : State :=
  (s.countViol code addr).raise { code := code, cls := .contained, kind := .accessor, acc := some (a, ty, addr) }

/-- Raise a fault for the owner of an object (R492). -/
def State.ownFault (s : State) (code : Nat) (c : FltClass) (who obj detail : Nat) : State :=
  s.raise { code := code, cls := c, kind := .owner who, obj := obj, detail := detail }

/-- Raise a fault for the SYSTEM handler (R492). -/
def State.sysFault (s : State) (code : Nat) (c : FltClass) (obj detail : Nat) : State :=
  s.raise { code := code, cls := c, kind := .system, obj := obj, detail := detail }

end Sys2Proof.Machine
end

