-- ==== Sys2Proof/Machine/SwitchBase.lean ====
section
/-!
DEFINITION. Machine/SwitchBase.lean: ports, counters, leaving frames and shaper credit of the Ethernet switch (R230, R262,
R280–R284).
-/
namespace Sys2Proof.Machine

/-! ## Ports and counters (R230, R262) -/

def isExt (p : Nat) : Bool := decide (p < 24)
def State.swPort (s : State) (p : Nat) : SwPort := s.swc.ports.get {} p
def State.setSwPort (s : State) (p : Nat) (x : SwPort) : State := { s with swc.ports := s.swc.ports.set p x }
def State.swQueue (s : State) (q : Nat) : SwQueue := s.swc.queues.get {} q
def State.setSwQueue (s : State) (q : Nat) (x : SwQueue) : State := { s with swc.queues := s.swc.queues.set q x }
/-- The number of a queue (R242). -/
def qOf (p c : Nat) : Nat := 8 * p + c

/-- Counter indices (R262). -/
def cRX_FRAMES : Nat := 0
def cRX_BYTES : Nat := 1
def cTX_FRAMES : Nat := 2
def cTX_BYTES : Nat := 3
def cRX_FCS_ERR : Nat := 4
def cRX_RUNT : Nat := 5
def cRX_OVERSIZE : Nat := 6
def cRX_TRUNC : Nat := 7
def cDROP_VLAN : Nat := 8
def cDROP_POLICE : Nat := 9
def cDROP_QMAX : Nat := 10
def cDROP_RED : Nat := 11
def cMARK_RED : Nat := 12
def cDROP_POOL : Nat := 13
def cDROP_SHARE : Nat := 14
def cDROP_LINK : Nat := 15
def cFLAP_FLUSH : Nat := 16
def cLATE_DROP : Nat := 17
def cCUT_THROUGH : Nat := 18
def cCUT_STOMP : Nat := 19
def cTX_ABORT : Nat := 20
def cLEARN_FULL : Nat := 21
def cMACSEC_RX_BAD : Nat := 22
def cMACSEC_RX_REPLAY : Nat := 23
def cMACSEC_RX_NO_SA : Nat := 24
def cMACSEC_TX_NO_SA : Nat := 25
def cMACSEC_KEY_ABORT : Nat := 26
def cDROP_UNKNOWN : Nat := 27
def cCOLLISIONS : Nat := 28
def cJABBER : Nat := 29

/-- A port counter. -/
def State.swCnt (s : State) (p i : Nat) : Nat := s.swc.cnt.get 0 (32 * p + i)
/-- Count at a port: 64 bits, wrapping (R262). -/
def State.count (s : State) (p i n : Nat) : State := { s with swc.cnt := s.swc.cnt.set (32 * p + i) ((s.swCnt p i + n) % 2 ^ 64) }

/-- A copy is dropped for a cause that the ingress port counts: its queue counts it too (R253, R266). -/
def State.queueDrop (s : State) (p c : Nat) : State :=
  let q := s.swQueue (qOf p c)
  s.setSwQueue (qOf p c) { q with drops := (q.drops + 1) % 2 ^ 32 }

/-- Count the drop of a copy at its port and queue (R262, R266). -/
def State.countDrop (s : State) (p c i : Nat) : State :=
  (s.count p i 1).queueDrop p c

/-- A port is enabled; in COPPICE only P05 and I3 (R260). -/
def State.portOn (s : State) (p : Nat) : Bool :=
  s.rdb (F.SWC_PORT_CFG0_ENABLE p) && !(s.dev == .coppice && !(p == 4 || p == 26))

/-- The link of a port is up; internal ports have no link to lose. -/
def State.linkUp (s : State) (p : Nat) : Bool := !isExt p || s.rdb (F.SWC_PORT_STAT_LINK p)

/-- The rate of a port in Mbit/s (R230, MODE). -/
def State.portRate (s : State) (p : Nat) : Nat :=
  if p = 24 then 25000 else if p = 25 then 10000 else if 26 ≤ p then 1000
  else match s.rd (F.SWC_PORT_CFG0_MODE p) with | 0 => 10000 | 1 => 5000 | 2 => 2500 | 3 => 1000 | 4 => 100 | _ => 10

/-- Nanoseconds that `n` bytes take at a port, rounded up. -/
def State.wireNs (s : State) (p n : Nat) : Nat := (n * 8 * 1000 + s.portRate p - 1) / s.portRate p

def State.maxFrame (s : State) (p : Nat) : Nat := s.rd (F.SWC_PORT_CFG0_MAX_FRAME p)

/-- T_TRUNC of a port for a MAX_FRAME (R254). -/
def State.tTrunc (s : State) (p mx : Nat) : Nat := 2 * (mx + 8) * 8 * 1000 / s.portRate p

/-- A port admits frames to its queues: enabled, and its link up or held (R255). -/
def State.admitsFrames (s : State) (p : Nat) : Bool := s.portOn p && (s.linkUp p || s.rdb (F.SWC_PORT_STAT_HOLDING p))

/-- A frame of the packet buffer by its number (R242). -/
def State.frame (s : State) (f : Nat) : Option Frame := s.swc.frames.find? (fun x => x.fid == f)

/-- The copy is leaving its port, now or between fragments. -/
def State.leaving (s : State) (c : Copy) : Bool :=
  let p := s.swPort c.port
  (match p.tx with | some t => t.fid == c.fid | none => false) || (match p.heldTx with | some t => t.fid == c.fid | none => false)

/-- The present gate states of a port: every gate is open with GATE_EN 0; FALLBACK while the list is suspended and until it has
resumed (R281). -/
def State.gateMask (s : State) (p : Nat) : Nat :=
  if !s.rdb (F.TSN_GATE_CTL_GATE_EN p) then 0xFF
  else if s.rdb (F.TSN_GATE_CTL_SUSPENDED p) || (s.tsn.gates.get {} p).wait then s.rd (F.TSN_GATE_CTL_FALLBACK p)
  else s.rd (F.TSN_GATE_STAT_GATES p)

/-! ## Leaving frames -/

/-- The length on the wire with FCS. -/
def wireLen (b : List Byte) : Nat := max 64 (b.length + 4)

/-- The length of a leaving frame: while it arrives, as its source announced it. -/
def State.txLen (s : State) (x : Tx) : Nat :=
  match s.frame x.fid with
  | some f => if f.fin then wireLen x.wire else f.len + x.extra
  | none => wireLen x.wire

/-- Bytes of a leaving frame that have been sent. -/
def State.sentBytes (s : State) (p : Nat) (x : Tx) : Nat := x.sent + ((s.now - x.start) * s.portRate p / 8000 - 8)

/-- The least length of a fragment that is not the last (R283). -/
def State.minFrag (s : State) (p : Nat) : Nat := 64 * (1 + s.rd (F.TSN_PRE_CFG_ADD_FRAG p))

/-- A leaving frame is split after `n` of its bytes: the rest waits for the port (R284). -/
def State.splitTx (s : State) (p n : Nat) (x : Tx) : State :=
  let s := s.setSwPort p { s.swPort p with tx := none, heldTx := some { x with sent := n } }
  s.inc (F.TSN_PRE_STAT_FRAGS p)

/-- The gate of a preemptable frame that is leaving has closed: it ends with the last fragment that fitted (R280, R284). -/
def State.cutAtGate (s : State) (p : Nat) : State :=
  match (s.swPort p).tx with
  | some x =>
    let n := min (s.sentBytes p x) (s.txLen x - 60)
    if x.pre && !bitOf (s.gateMask p) x.cls && (s.swPort p).heldTx.isNone && decide (x.sent + s.minFrag p ≤ n) then s.splitTx p n x else s
  | none => s

/-! ## Credit (R282) -/

/-- The credit of a class after `dt` ns: frozen while its gate is closed; falling while it sends; growing while frames wait;
else drawn to 0. Units of 1.6e-5 bit. -/
def creditStep (cr : Int) (slope rate dt : Nat) (sending waiting open_ : Bool) : Int :=
  if sending then cr + (4 * slope : Int) * dt - (rate * 125 / 2 : Nat) * dt
  else if !open_ then cr
  else if waiting then cr + (4 * slope : Int) * dt
  else if 0 ≤ cr then 0 else min 0 (cr + (4 * slope : Int) * dt)

/-- Bring every shaper's credit to the present instant. -/
def State.credits (s : State) : State :=
  let dt := s.now - s.tsn.creditAt
  let on := (List.range 224).filter (fun q => s.rdb (F.TSN_CBS_CBS_EN (q / 8) (q % 8)))
  let s := foldS on (fun q (s : State) =>
    let p := q / 8
    let c := q % 8
    let sending := match (s.swPort p).tx with | some t => t.cls == c | none => false
    let waiting := s.swc.copies.any (fun x => x.port == p && x.cls == c && !s.leaving x)
    { s with tsn.credit := s.tsn.credit.set q (creditStep (s.tsn.credit.get 0 q) (s.rd (F.TSN_CBS_IDLE_SLOPE p c)) (s.portRate p) dt
        sending waiting (bitOf (s.gateMask p) c)) }) s
  { s with tsn.creditAt := s.now }

/-- The switch at an instant. -/
def State.swAt (s : State) (t : Nat) : State := (s.at_ t).credits

end Sys2Proof.Machine
end

