-- ==== Sys2Proof/Machine/Gates.lean ====
section
/-!
DEFINITION. Machine/Gates.lean: gate lists of ports and stream gates (R278–R281, R286): the schedule of a list, the state at
an instant, and the events of a list.
-/
namespace Sys2Proof.Machine

/-! ## Schedules -/

/-- The entries of a list within one cycle, with their indices: cut off at the cycle end, the last one extended to it
(R278). -/
def fitCycle : Nat → Nat → List (Nat × Nat × Nat) → List (Nat × Nat × Nat × Nat)
  | _, _, [] => []
  | i, left, [(g, o, _)] => [(i, g, o, left)]
  | i, left, (g, o, n) :: l => if left ≤ n then [(i, g, o, left)] else (i, g, o, n) :: fitCycle (i + 1) (left - n) l

/-- The list's entries over one cycle: index, gates, operation, duration. -/
def Gcl.norm (g : Gcl) : List (Nat × Nat × Nat × Nat) := fitCycle 0 g.cycle g.ents

/-- The phase of an instant in the cycle of a list. -/
def Gcl.phase (g : Gcl) (t : Nat) : Nat := if g.cycle = 0 then 0 else (((t : Int) - g.base) % (g.cycle : Int)).toNat

/-- Drop `p` nanoseconds from a list of durations. -/
def dropPhase : Nat → List (Nat × Nat × Nat × Nat) → List (Nat × Nat × Nat × Nat)
  | _, [] => []
  | p, (i, g, o, n) :: l => if p < n then (i, g, o, n - p) :: l else dropPhase (p - n) l

/-- The length of the run of entries from the head that satisfy a test. -/
def runLen (f : Nat → Bool) : List (Nat × Nat × Nat × Nat) → Nat
  | [] => 0
  | (_, g, _, n) :: l => if f g then n + runLen f l else 0

/-- The schedule of a list from an instant on, over two cycles. -/
def Gcl.from_ (g : Gcl) (t : Nat) : List (Nat × Nat × Nat × Nat) := dropPhase (g.phase t) (g.norm ++ g.norm ++ g.norm)

/-- How long a class's gate stays open from an instant (none: it never closes). -/
def Gcl.openFor (g : Gcl) (c t : Nat) : Option Nat :=
  if g.norm.all (fun e => bitOf e.2.1 c) then none else some (runLen (fun m => bitOf m c) (g.from_ t))

/-- How long a class's gate stays closed from an instant (none: it never opens). -/
def Gcl.shutFor (g : Gcl) (c t : Nat) : Option Nat :=
  if g.norm.all (fun e => !bitOf e.2.1 c) then none else some (runLen (fun m => !bitOf m c) (g.from_ t))

/-- The longest open interval of a class's gate (none: it never closes). -/
def Gcl.longest (g : Gcl) (c : Nat) : Option Nat :=
  if g.norm.all (fun e => bitOf e.2.1 c) then none
  else
    let two := g.norm ++ g.norm
    some ((List.range g.norm.length).foldl (fun m i => max m (runLen (fun x => bitOf x c) (two.drop i))) 0)

/-- The end of the gate-open interval that is open at an instant, or else of the next one to open (R255); none where the gate
never closes or never opens. -/
def Gcl.windowEnd (g : Gcl) (c t : Nat) : Option Nat :=
  match g.shutFor c t with
  | none => none
  | some w => (g.openFor c (t + w)).map (fun n => t + w + n)

/-- A cycle start of a list at or after an instant. -/
def Gcl.nextStart (g : Gcl) (t : Nat) : Nat := if g.phase t = 0 then t else t + (g.cycle - g.phase t)

/-- A cycle of the operational list that would start within CYCLE_EXT before t_chg, once the pending list is set, does not start: the
cycle before it is extended; one that already runs goes on (R279, DEDUCED, assumption 27). -/
def Gates.extended (g : Gates) (t : Nat) : Bool :=
  match g.oper, g.pend with
  | some l, some (_, tc) => decide (t < tc) && decide (tc - (t - l.phase t) ≤ l.ext) && decide (l.phase t ≤ t) && decide (g.pendAt < t - l.phase t)
  | _, _ => false

/-- The entry of the running list at an instant: index, gates, operation. -/
def Gates.entryAt (g : Gates) (t : Nat) : Option (Nat × Nat × Nat) :=
  match g.oper with
  | none => none
  | some l =>
    if g.extended t then l.norm.getLast?.map (fun e => (e.1, e.2.1, e.2.2.1))
    else (l.from_ t).head?.map (fun e => (e.1, e.2.1, e.2.2.1))

/-- The list runs at an instant: it is not suspended and no step holds it. -/
def Gates.runs (g : Gates) (t : Nat) : Bool :=
  !g.susp && (match g.resume with | some r => decide (r ≤ t) | none => true) && g.oper.isSome

/-! ## Gates of ports -/

/-- The gate lists of port `p`, and of stream gate `n`. -/
def State.gates (s : State) (k : Nat) : Gates := s.tsn.gates.get {} k
def kSg (n : Nat) : Nat := 32 + n
def State.setGates (s : State) (k : Nat) (g : Gates) : State := { s with tsn.gates := s.tsn.gates.set k g }

/-- Gate lists of a port act: GATE_EN is set and a list is operational. -/
def State.gated (s : State) (p : Nat) : Bool := s.rdb (F.TSN_GATE_CTL_GATE_EN p) && (s.gates p).oper.isSome

/-- How long a class stays open, where its present state lasts for `n` more nanoseconds and list `l` goes on from there. -/
def Gcl.openAfter (l : Gcl) (c t n : Nat) : Option Nat :=
  if !bitOf ((l.from_ (t + n)).headD (0, 0xFF, 0, 0)).2.1 c then some n else (l.openFor c (t + n)).map (fun r => n + r)

/-- How long the gate of a class stays open from now (none: it does not close): a pending list goes on at t_chg, and a list that waits
to resume at its resumption, each with its own run (R279–R281). -/
def State.openFor (s : State) (p c : Nat) : Option Nat :=
  let g := s.gates p
  if !s.gated p || g.susp then none
  else match g.oper with
    | none => none
    | some l =>
      let run := match g.resume with
        | some r => if s.now < r then l.openAfter c s.now (r - s.now) else l.openFor c s.now
        | none => if g.extended s.now then (g.pend.map (fun q => q.2 - s.now)) else l.openFor c s.now
      match g.pend with
      | none => run
      | some (n, tc) => if (match run with | some r => decide (s.now + r < tc) | none => false) then run else n.openAfter c s.now (tc - s.now)

/-- The entry of a port's list takes effect: gate states, HOLD and ENTRY, after the credit of the interval before
(R278, R282, R284). -/
def State.setEntry (s : State) (p : Nat) (e : Nat × Nat × Nat) : State :=
  let s := (s.credits.wr (F.TSN_GATE_STAT_ENTRY p) e.1).wr (F.TSN_GATE_STAT_GATES p) e.2.1
  let s := if e.2.2 = 1 then s.wr (F.TSN_GATE_STAT_HOLD p) 1 else if e.2.2 = 2 then s.wr (F.TSN_GATE_STAT_HOLD p) 0 else s
  s.cutAtGate p

/-- The entry of a stream gate takes effect (R286). -/
def State.setSgEntry (s : State) (k : Nat) (e : Nat × Nat × Nat) : State :=
  s.setGates k { s.gates k with open_ := bitOf e.2.1 0, ipv := e.2.2, entry := e.1 }

/-- The running list of a port or stream gate sets its gates for the present instant. -/
def State.refreshGates (s : State) (k : Nat) : State :=
  let g := s.gates k
  if g.runs s.now then
    let s := s.setGates k { g with resume := none, wait := false }
    match g.entryAt s.now with
    | some e => if k < 32 then s.setEntry k e else s.setSgEntry k e
    | none => s
  else s

/-- GATE_INTERVAL_END: the interval of an entry ends and the next entry, or the cycle start, sets the gates (R278). -/
def gateIntervalEnd (t k : Nat) (s : State) : State :=
  let s := s.at_ t
  if k < 28 ∨ (32 ≤ k ∧ k < 288) then s.refreshGates k else s

/-- A list is suspended, and a port's gates take FALLBACK (R281). -/
def State.suspendGate (s : State) (k : Nat) : State :=
  let s := s.setGates k { s.gates k with susp := true }
  if k < 28 then ((s.credits.wrb (F.TSN_GATE_CTL_SUSPENDED k) true).wr (F.TSN_GATE_STAT_GATES k) (s.rd (F.TSN_GATE_CTL_FALLBACK k))).cutAtGate k
  else s

/-- GCL_CHANGE_INSTANT: the administrative list becomes operational (R279); where a step has passed over t_chg it resumes at its first
cycle start at or after the new count (R44). -/
def gclChangeInstant (t k : Nat) (s : State) : State :=
  let s := s.at_ t
  match (s.gates k).pend with
  | some (l, tc) =>
    if tc ≤ s.now then
      let g := s.gates k
      let s := s.setGates k { g with oper := some l, pend := none, resume := if tc < s.now then g.resume.map (fun _ => l.nextStart s.now) else none }
      let s := if k < 28 then s.wrb (F.TSN_GATE_CTL_PENDING k) false else s
      let s := if s.aligned 6 then s else s.suspendGate k
      (s.refreshGates k).trig 288
    else s
  | none => s

/-- The switch island's replica loses alignment: every list is suspended (R281). -/
def State.suspendGates (s : State) : State := foldS s.tsn.gates.keys (fun k s => s.suspendGate k) s

/-- Alignment returns: every list resumes at its next cycle start, a port's gates taking FALLBACK until then (R281). -/
def State.resumeGates (s : State) : State :=
  foldS s.tsn.gates.keys (fun k s =>
    let g := s.gates k
    let s := s.setGates k { g with susp := false, wait := decide (k < 28) && g.oper.isSome, resume := g.oper.map (fun l => l.nextStart s.now) }
    (if k < 28 then s.credits.wrb (F.TSN_GATE_CTL_SUSPENDED k) false else s).refreshGates k) s

/-- After a step every list resumes at its first cycle start at or after the new count, one whose t_chg was passed over in place of the
old one (R44, R45, R281); the gates hold their states until then (DEDUCED, assumption 28). -/
def State.stepGates (s : State) : State :=
  foldS s.tsn.gates.keys (fun k s =>
    let g := s.gates k
    let l := match g.pend with | some (n, tc) => if tc < s.now then some n else g.oper | none => g.oper
    (s.setGates k { g with resume := l.map (fun l => l.nextStart s.now) }).refreshGates k) s

end Sys2Proof.Machine
end

