-- ==== Sys2Proof/Machine/Protect.lean ====
section
/-!
DEFINITION. Machine/Protect.lean: the memory protection controllers (R446–R448), the ranges of the address map (R30)
and ownership of objects (R69, R399).
-/
namespace Sys2Proof.Machine

/-! ## Regions (R446–R448) -/

/-- Whether region `r` of controller `m` is valid and holds an address. -/
def State.regionHolds (s : State) (m r a : Nat) : Bool :=
  s.rdb (F.MPC_R_ATTR_VALID m r) && decide (s.rd (F.MPC_R_START_START m r) ≤ a / 4096) &&
  decide (a / 4096 ≤ s.rd (F.MPC_R_END_END m r))

/-- The lowest-numbered valid region of a controller that holds an address (R447). -/
def State.regionAt (s : State) (m a : Nat) : Option Nat := (List.range 32).find? (fun r => s.regionHolds m r a)

/-- Whether a region admits an identity: SEC for the secure world, NS and PMASK for a partition (R447). -/
def State.admitsId (s : State) (m r : Nat) (secure : Bool) (part : Nat) : Bool :=
  if secure then s.rdb (F.MPC_R_ATTR_SEC m r)
  else s.rdb (F.MPC_R_ATTR_NS m r) && bitOf (s.rd (F.MPC_R_ATTR_PMASK m r)) part

/-- Whether a region permits an access type (R447; X reads 0 for controller 4, R33). -/
def State.admitsKind (s : State) (m r : Nat) (k : AccKind) : Bool :=
  match k with
  | .load => s.rdb (F.MPC_R_ATTR_R m r)
  | .store => s.rdb (F.MPC_R_ATTR_W m r)
  | .fetch => s.rdb (F.MPC_R_ATTR_X m r) && (m != 4)

/-- A partition's or the secure world's access of `len` bytes is admitted (R447). -/
def State.admits (s : State) (secure : Bool) (part : Nat) (k : AccKind) (a len : Nat) : Bool :=
  match mpcOf a with
  | none => false
  | some m =>
    match s.regionAt m a with
    | none => false
    | some r => s.regionHolds m r (a + len - 1) && s.admitsId m r secure part && s.admitsKind m r k

/-- Some LOCK region touches a range from BOOT_LOCK on, so DEVICE and debug accesses are refused (R448). -/
def State.lockedRange (s : State) (a len : Nat) : Bool :=
  s.rdb F.BOOT_CTL_BOOT_LOCK &&
  (match mpcOf a with
   | none => false
   | some m => (List.range 32).any (fun r =>
      s.rdb (F.MPC_R_ATTR_VALID m r) && s.rdb (F.MPC_R_ATTR_LOCK m r) &&
      decide (s.rd (F.MPC_R_START_START m r) ≤ (a + len - 1) / 4096) && decide (a / 4096 ≤ s.rd (F.MPC_R_END_END m r))))

/-- The access of holder `who` (0–16) through the Privet controller or the ring engine carries that holder's identity
(R64, R445). -/
def State.admitsWho (s : State) (who : Nat) (k : AccKind) (a len : Nat) : Bool := s.admits (who == 16) who k a len

/-- The bounds of the TCM alias that hosts a partition on a safety core: the pair's, or the core's half when the pair is
split (R30, R52). -/
def State.tcmOf (s : State) (v : Nat) : Option (Nat × Nat) :=
  match s.hostCore v with
  | none => none
  | some c =>
    let base := 0x1000000 + 0x200000 * (c / 2)
    if s.isSplit (c / 2) then some (base + 0x100000 * (c % 2), 0x100000) else some (base, 0x200000)

/-- A buffer or ring lies wholly in a range permitted by R52. -/
def State.ringRange (s : State) (who a len : Nat) : Bool :=
  decide (0 < len) &&
  ((inSram a && inSram (a + len - 1)) || (inDram a && inDram (a + len - 1)) ||
   (match (if who < 16 then s.tcmOf who else none) with
    | some (b, n) => decide (b ≤ a) && decide (a + len ≤ b + n)
    | none => false))

/-- Every 4 KiB block of a range is admitted to a holder. -/
def State.admitsAll (s : State) (who : Nat) (k : AccKind) (a len : Nat) : Bool :=
  (List.range (len / 4096 + 2)).all (fun i =>
    let lo := max a ((a / 4096 + i) * 4096)
    let hi := min (a + len) ((a / 4096 + i + 1) * 4096)
    if lo < hi then s.admitsWho who k lo (hi - lo) else true)

/-! ## The DRAM regulator (R421–R423) -/

/-- A partition beside its registers. -/
def State.part_ (s : State) (v : Nat) : Part := s.prt.parts.get {} v
def State.modPart (s : State) (v : Nat) (f : Part → Part) : State := { s with prt.parts := s.prt.parts.set v (f (s.part_ v)) }

/-- Bytes moved to or from DRAM for a partition are charged to it: counted, and a STALL partition that has used its BUDGET
counts one throttled period (R421–R423, DEDUCED, assumption 70). The secure world and DEVICE are not counted; ring and descriptor
traffic is charged so and never waits. -/
def State.dramCharge (s : State) (who a n : Nat) : State :=
  if who < 16 ∧ inDram a = true then
    let s := s.modPart who (fun p => { p with moved := (p.moved + n) % 2 ^ 64, used := p.used + n })
    if s.rd (F.MPC_PART_REG_MODE who) = 0 ∧ (s.part_ who).thr = false ∧ 256 * s.rd (F.MPC_PART_REG_BUDGET who) ≤ (s.part_ who).used then
      (s.modPart who (fun p => { p with thr := true })).inc (F.MPC_PART_RSTAT_THROTTLES who)
    else s
  else s

/-- An access goes through the last-level cache: an application core's, to a range whose region marks it cacheable (R30, R420). -/
def State.cached (s : State) (a : Acc) (addr : Nat) : Bool :=
  decide (a.master < 6) && !a.dev && inMemory addr &&
  (match mpcOf addr with
   | some m => (match s.regionAt m addr with | some r => s.rdb (F.MPC_R_ATTR_C m r) | none => false)
   | none => false)

/-- The ways in which refills for a holder are placed (R420). -/
def State.waysOf (s : State) (who : Nat) : List Nat :=
  let m := if who < 16 then s.rd (F.MPC_PART_CFG_LLC_WAYS who) else s.rd F.MPC_REG_CFG_SEC_WAYS
  (List.range 16).filter (fun w => bitOf m w)

/-- A line is in the last-level cache. -/
def State.holdsLine (s : State) (l : Nat) : Bool := s.prt.llc.any (fun e => e.line == l)

/-- A refilled line takes a way of its set among those permitted, by the free value where there are several; the line it replaces is
written back where it is dirty, for the holder that last wrote it (R420, R421; DESIGN CHOICE, assumption 166). -/
def State.placeLine (s : State) (who l : Nat) (store : Bool) (ways : List Nat) : State :=
  let d := s.draw (ways.length - 1)
  let w := ways.getD d.1 0
  let old (e : CacheLine) : Bool := e.way == w && e.line % 4096 == l % 4096
  let s := foldS (d.2.prt.llc.filter (fun e => old e && e.dirty)) (fun e s => s.dramCharge e.who (64 * e.line) 64) d.2
  { s with prt.llc := s.prt.llc.filter (fun e => !old e) ++ [⟨l, w, store, who⟩] }

/-- An access to one line: a hit is served from any way; a miss is refilled, or bypasses the cache where no way is permitted (R420). -/
def State.touchLine (s : State) (who l n : Nat) (store : Bool) : State :=
  if s.holdsLine l then
    (if store then { s with prt.llc := s.prt.llc.map (fun e => if e.line = l then { e with dirty := true, who := who } else e) } else s)
  else
    match s.waysOf who with
    | [] => s.dramCharge who (64 * l) n
    | ways => (s.dramCharge who (64 * l) 64).placeLine who l store ways

/-- The lines of 64 bytes that an access touches. -/
def linesOf (addr len : Nat) : List Nat := (List.range ((addr + len - 1) / 64 + 1 - addr / 64)).map (fun i => addr / 64 + i)

/-- What an access to memory moves to and from DRAM (R421): refills and write-backs through the last-level cache, and its own bytes where
it is uncached. -/
def State.traffic (s : State) (a : Acc) (store : Bool) (addr len : Nat) : State :=
  if s.cached a addr then
    foldS (linesOf addr len) (fun l s => s.touchLine (accWho a) l (min (addr + len) (64 * l + 64) - max addr (64 * l)) store) s
  else s.dramCharge (accWho a) addr len

/-- The rank of a holder's DRAM requests (R422): 1 in budget, 2 over budget in BEST_EFFORT, none over budget in STALL, which waits for the
next period. -/
def State.dramRank (s : State) (who : Nat) : Option Nat :=
  if 16 ≤ who ∨ (s.part_ who).used < 256 * s.rd (F.MPC_PART_REG_BUDGET who) then some 1
  else if s.rd (F.MPC_PART_REG_MODE who) = 0 then none else some 2

/-- An access of a core waits at the cluster interface: it needs DRAM and has no rank in this period (R422). -/
def State.stalls (s : State) (a : Acc) (addr len : Nat) : Bool :=
  !a.dev && decide (a.master < 16) && inDram addr && (s.dramRank (accWho a)).isNone &&
  !(s.cached a addr && (linesOf addr len).all (fun l => s.holdsLine l))

/-! ## Ownership -/

/-- Object kinds of ownership keys: those of R399, then the kinds that no grant covers. -/
def kTerm : Nat := 1
def kGang : Nat := 2
def kBrg : Nat := 3
def kPort : Nat := 4
def kCan : Nat := 5
def kLin : Nat := 6
def kRoute : Nat := 7
def kCyc : Nat := 8
def kBud : Nat := 9
def kStream : Nat := 10
def kRecov : Nat := 11
def kVar : Nat := 12
def kVlan : Nat := 13
def kCont : Nat := 14
def kBlock : Nat := 15
def kPolicer : Nat := 16
def kSgate : Nat := 17
def kArea : Nat := 18
def kKey : Nat := 19

/-- The key of an object in the ownership table. -/
def okey (kind idx : Nat) : Nat := kind * 0x10000 + idx

/-- The owner entry of an object (R69). -/
def State.ownOf (s : State) (kind idx : Nat) : Own := s.own.get {} (okey kind idx)

/-- The owner of an object: 0–15 VPn, 16 the secure world, 17 DEVICE. -/
def State.ownerOf (s : State) (kind idx : Nat) : Nat := (s.ownOf kind idx).owner

/-- A grant entry matches a remote requester and object (R399). -/
def State.grantMatches (s : State) (g node who kind idx : Nat) (ctl : Bool) : Bool :=
  s.rdb (F.HDG_GRANT_A_VALID g) && (s.rd (F.HDG_GRANT_A_KIND g) == kind) &&
  (s.rd (F.HDG_GRANT_A_NODE g) == node || s.rd (F.HDG_GRANT_A_NODE g) == node / 64 * 64 + 63) &&
  (s.rd (F.HDG_GRANT_A_REQ g) == targetOf who || s.rd (F.HDG_GRANT_A_REQ g) == 0x3F) &&
  decide (s.rd (F.HDG_GRANT_B_FIRST g) ≤ idx) && decide (idx ≤ s.rd (F.HDG_GRANT_B_LAST g)) &&
  (s.rdb (F.HDG_GRANT_A_RIGHT g) == ctl)

/-- A remote requester holds a grant over an object (R399). -/
def State.granted (s : State) (node who kind idx : Nat) (ctl : Bool) : Bool :=
  decide (kind ≤ 9) && (List.range 64).any (fun g => s.grantMatches g node who kind idx ctl)

/-- The requester of a command owns the object (R69, R399): a remote one through a CONTROL grant, which no object of
DEVICE gives. -/
def State.owns (s : State) (c : Cmd) (kind idx : Nat) : Bool :=
  if c.pass9 then true
  else if c.node = 0xFFFF then s.ownerOf kind idx == c.who
  else s.ownerOf kind idx != 17 && s.granted c.node c.who kind idx true

/-- The requester of a command owns the object or may read it (R69, R399). -/
def State.mayRead (s : State) (c : Cmd) (kind idx : Nat) : Bool :=
  if c.pass9 then true
  else if c.node = 0xFFFF then s.ownerOf kind idx == c.who || bitOf (s.ownOf kind idx).readers c.who
  else s.granted c.node c.who kind idx false

/-- The requester is the secure world of this unit. -/
def Cmd.isSecure (c : Cmd) : Bool := c.node == 0xFFFF && c.who == 16

/-- The command's requester is a partition of this unit hosted on a pair whose LOCKSTEP_BROKEN is set: it may not change a
class S object (R442). -/
def State.lockBroken (s : State) (c : Cmd) : Bool :=
  c.node == 0xFFFF && (match (if c.who < 16 then s.hostCore c.who else none) with
    | some k => s.rdb (F.FLT_LS_STAT_LOCKSTEP_BROKEN (k / 2))
    | none => false)

end Sys2Proof.Machine
end

