-- ==== Sys2Proof/Machine/SwitchCore.lean ====
section
/-!
DEFINITION. Machine/SwitchCore.lean: cells and copies, random early drop, policers, the forwarding table
and MACsec of the Ethernet switch (R230–R251).
-/
namespace Sys2Proof.Machine

/-! ## Frames, copies and cells (R242–R244) -/

def State.modFrame (s : State) (f : Nat) (g : Frame → Frame) : State :=
  { s with swc.frames := s.swc.frames.map (fun x => if x.fid = f then g x else x) }
def State.copiesOf (s : State) (f : Nat) : List Copy := s.swc.copies.filter (fun c => c.fid == f)

/-- Cells of `n` bytes (R242). -/
def cellsOf (n : Nat) : Nat := (n + 127) / 128

/-- Σ Q_MIN over the queues (R243). -/
def State.sumQMin (s : State) : Nat := (List.range 224).foldl (fun a q => a + s.rd (F.SWC_Q_CFG0_Q_MIN q)) 0

/-- Free cells of the shared pool (R243). -/
def State.sharedFree (s : State) : Nat := 65536 - s.sumQMin - s.swc.shared

/-- Cells in use. -/
def State.cellsUsed (s : State) : Nat := s.swc.frames.foldl (fun a f => a + f.cells) 0

/-- SWC_POOL_STAT.FREE: the shared pool and the unused reserves (R256). -/
def State.poolFree (s : State) : Nat := 65536 - s.cellsUsed

/-- The holder index of SWC_SHAREv for a target code: VP0–VP15, the secure world 16, DEVICE 17; a safety core counts as the
partition it hosts (R244). -/
def State.shareOf (s : State) (target : Nat) : Nat :=
  if target < 16 then target else if target = 0x10 then 16
  else if 0x18 ≤ target ∧ target < 0x20 then (s.corePart (target - 0x18)).getD 17 else 17

/-- USED of a holder, changed by cells charged or released. -/
def State.chargeCells (s : State) (h : Option Nat) (n : Nat) : State :=
  match h with | some v => s.wr (F.SWC_SHARE_USED v) (s.rd (F.SWC_SHARE_USED v) + n) | none => s
def State.dischargeCells (s : State) (h : Option Nat) (n : Nat) : State :=
  match h with | some v => s.wr (F.SWC_SHARE_USED v) (s.rd (F.SWC_SHARE_USED v) - n) | none => s

/-- The pseudocode of R243 for `n` cells of a frame with these destination queues: none where the pool is empty. -/
def State.takeCells (s : State) (f n : Nat) (dests : List Nat) : Option State :=
  let q0 := dests.headD 0
  let fromRes := if dests.length = 1 then min n (s.rd (F.SWC_Q_CFG0_Q_MIN q0) - (s.swQueue q0).res) else 0
  if s.sharedFree < n - fromRes then none
  else
    let s := { s with swc.shared := s.swc.shared + (n - fromRes) }
    let s := if fromRes = 0 then s else s.setSwQueue q0 { s.swQueue q0 with res := (s.swQueue q0).res + fromRes }
    let s := foldS dests (fun q s => s.setSwQueue q { s.swQueue q with occ := (s.swQueue q).occ + n }) s
    let s := s.modFrame f (fun x => { x with cells := x.cells + n, resN := x.resN + fromRes, resQ := (if fromRes = 0 then x.resQ else q0) })
    some (s.chargeCells ((s.frame f).bind (fun x => x.charge)) n)

/-! ### Completion of transmit descriptors (R259) -/

/-- The address of a ring's transmit and receive descriptors, and its size. -/
def State.txBase (s : State) (r : Nat) : Nat := s.rd (F.SWC_RING_TXBASE_LO_ADDR r) * 64 + s.rd (F.SWC_RING_TXBASE_HI_ADDR_HI r) * 2 ^ 32
def State.rxBase (s : State) (r : Nat) : Nat := s.rd (F.SWC_RING_RXBASE_LO_ADDR r) * 64 + s.rd (F.SWC_RING_RXBASE_HI_ADDR_HI r) * 2 ^ 32
def State.ringSize (s : State) (r : Nat) : Nat := 16 * 2 ^ s.rd (F.SWC_RING_CTL_SIZE r)
def State.txDesc (s : State) (r i : Nat) : Nat := s.txBase r + 16 * (i % s.ringSize r)
def State.rxDesc (s : State) (r i : Nat) : Nat := s.rxBase r + 16 * (i % s.ringSize r)

/-- A transmit descriptor completes: STATUS, the egress instant or zero, charged to the pair's holder, TX_DONE and its source (R259,
R261, R423). -/
def State.completeTx (s : State) (r i status stamp : Nat) : State :=
  let a := s.txDesc r i
  let s := ((s.store (a + 5) (bytesLE 1 status)).store (a + 8) (bytesLE 8 stamp)).dramCharge (s.shareOf (s.rd (F.SWC_RING_CTL_HOLDER r))) a 16
  let s := s.inc (F.SWC_RING_TX_DONE_CNT r)
  if s.rdb (F.SWC_RING_CTL_TX_IRQ_EN r) then s.trig (128 + 2 * r) else s

/-- A frame has neither copies nor reception left: its cells are freed, its charge ends, and its descriptor completes. -/
def State.freeFrame (s : State) (f : Frame) : State :=
  let s := { s with swc.frames := s.swc.frames.filter (fun x => x.fid != f.fid), swc.shared := s.swc.shared - (f.cells - f.resN) }
  let s := if f.resN = 0 then s else s.setSwQueue f.resQ { s.swQueue f.resQ with res := (s.swQueue f.resQ).res - f.resN }
  let s := s.dischargeCells f.charge f.cells
  match f.ring with
  | some (r, i) =>
    let st := if f.leftAt.isSome then 0x01 else if f.flushed then 0x04 else 0x02
    s.completeTx r i st (if f.tstamp then f.leftAt.getD 0 else 0)
  | none => s

/-- Free a frame once its last copy has left or been dropped, also while it still arrives (R242, R255). -/
def State.releaseFrame (s : State) (f : Nat) : State :=
  match s.frame f with
  | some x => if s.copiesOf f = [] then s.freeFrame x else s
  | none => s

/-- Remove one copy: its queue's OCC falls, and the frame is freed with its last copy. -/
def State.dropCopy (s : State) (c : Copy) : State :=
  let n := match s.frame c.fid with | some f => f.cells | none => 0
  let q := s.swQueue (qOf c.port c.cls)
  let s := s.setSwQueue (qOf c.port c.cls) { q with occ := q.occ - n }
  let s := { s with swc.copies := s.swc.copies.filter (fun d => !(d.fid == c.fid && d.port == c.port)) }
  s.releaseFrame c.fid

/-- A frame is found bad after its head may have left (R253): copies leaving are stomped, copies not started are dropped; every
copy is counted with the given egress counter, if any (R243). -/
def State.spoil (s : State) (f : Nat) (dropIdx : Option Nat) : State :=
  let s := s.modFrame f (fun x => { x with fin := true })
  let st (t : Tx) : Tx := if t.fid = f then { t with stomp := true } else t
  let s := foldS (s.copiesOf f) (fun c s =>
    if s.leaving c then
      let p := s.swPort c.port
      let s := (s.setSwPort c.port { p with tx := p.tx.map st, heldTx := p.heldTx.map st }).count c.port cCUT_STOMP 1
      match dropIdx with | some i => s.countDrop c.port c.cls i | none => s
    else
      let s := match dropIdx with | some i => s.countDrop c.port c.cls i | none => s.queueDrop c.port c.cls
      s.dropCopy c) s
  s.releaseFrame f

/-! ## Random early drop (R250, R251) -/

/-- The average of a queue after a decision with `occ` (R250). -/
def redAvg (avg occ w : Nat) : Nat := ((avg : Int) + ((occ : Int) * 256 - avg).tdiv (2 ^ w : Nat)).toNat

/-- A decision of random early drop. -/
inductive Red where
  | accept | drop | mark
deriving DecidableEq, Repr

/-- The decision for a profile, an average and a draw (the pseudocode of R250). -/
def redRule (enable : Bool) (minTh maxTh pmax act avg rnd : Nat) : Red :=
  let a : Red := if act = 1 then .mark else .drop
  if !enable || decide (avg < minTh * 256) then .accept
  else if maxTh * 256 ≤ avg then a
  else if rnd < (pmax + 1) * (avg - minTh * 256) * 256 / ((maxTh - minTh) * 256) then a else .accept

/-- A decision of a queue for a colour: the average moves, and the profile decides with a new draw. -/
def State.redDecide (s : State) (q colour : Nat) : Red × State :=
  let x := s.swQueue q
  let avg := redAvg x.avg x.occ (s.rd (F.SWC_Q_CFG1_W q))
  let s := s.setSwQueue q { x with avg := avg }
  let d := s.draw 65535
  (redRule (s.rdb (F.SWC_Q_RED_P_ENABLE q colour)) (s.rd (F.SWC_Q_RED_TH_MIN_TH q colour)) (s.rd (F.SWC_Q_RED_TH_MAX_TH q colour))
    (s.rd (F.SWC_Q_RED_P_P_MAX_CODE q colour)) (s.rd (F.SWC_Q_RED_P_ACT q colour)) avg d.1, d.2)

/-- RED_IDLE_UPDATE: the average of an empty queue moves with OCC 0 (R250). -/
def redIdleUpdate (t q : Nat) (s : State) : State :=
  let s := s.at_ t
  let x := s.swQueue q
  if q < 224 ∧ x.occ = 0 then s.setSwQueue q { x with avg := redAvg x.avg 0 (s.rd (F.SWC_Q_CFG1_W q)) } else s

/-! ## Headers of frames -/

/-- The EtherType at an offset. -/
def etAt (b : List Byte) (o : Nat) : Nat := beAt b o 2
/-- A frame carries a C-tag (R237); its payload's EtherType stands after it. -/
def tagged (b : List Byte) : Bool := etAt b 12 == 0x8100
def tagPcp (b : List Byte) : Nat := if tagged b then beAt b 14 1 / 32 else 0
def tagDei (b : List Byte) : Bool := tagged b && bitOf (beAt b 14 1) 4
def tagVid (b : List Byte) : Nat := if tagged b then beAt b 14 2 % 4096 else 0
def typeOff (b : List Byte) : Nat := if tagged b then 16 else 12
def frameType (b : List Byte) : Nat := etAt b (typeOff b)
def dstMac (b : List Byte) : Nat := beAt b 0 6
def srcMac (b : List Byte) : Nat := beAt b 6 6
def bcastMac : Nat := 2 ^ 48 - 1
def isGroup (m : Nat) : Bool := bitOf m 40

/-- Replace the bytes from an offset. -/
def patch (b : List Byte) (o : Nat) (x : List Byte) : List Byte := b.take o ++ x ++ b.drop (o + x.length)

/-- The ones' complement sum of 16-bit words. -/
def onesSum : List Byte → Nat
  | [] => 0
  | [b] => b.toNat * 256
  | a :: b :: l => let t := a.toNat * 256 + b.toNat + onesSum l; t % 65536 + t / 65536

/-- The ECN field of a frame's IP header, if it is IPv4 or IPv6. -/
def ecnOf (b : List Byte) : Option Nat :=
  let o := typeOff b
  if etAt b o = 0x0800 then some (beAt b (o + 3) 1 % 4)
  else if etAt b o = 0x86DD then some (beAt b (o + 3) 1 / 16 % 4) else none

/-- A frame that is ECN-capable (R251). -/
def ecnCapable (b : List Byte) : Bool := match ecnOf b with | some e => e == 1 || e == 2 | none => false

/-- Set the ECN field to CE and recompute the IPv4 header checksum (R251). -/
def setCe (b : List Byte) : List Byte :=
  let o := typeOff b
  if etAt b o = 0x0800 then
    let b := patch b (o + 3) (bytesBE 1 (beAt b (o + 3) 1 ||| 3))
    let b := patch b (o + 12) (bytesBE 2 0)
    let n := 4 * (beAt b (o + 2) 1 % 16)
    patch b (o + 12) (bytesBE 2 (65535 - onesSum (slice b (o + 2) n)))
  else patch b (o + 3) (bytesBE 1 (beAt b (o + 3) 1 ||| 0x30))

/-! ## Policers (R249) -/

/-- Refill the buckets to an instant. -/
def Pol.refill (p : Pol) (t : Nat) : Pol :=
  { p with tc := min (p.cbs * 125000) (p.tc + p.cir * (t - p.at_)), tp := min (p.pbs * 125000) (p.tp + p.pir * (t - p.at_)), at_ := max t p.at_ }

/-- The two-rate three-colour meter of RFC 2698 over `n` bytes: the colour 0 green, 1 yellow, 2 red. -/
def Pol.meter (p : Pol) (t n colour : Nat) : Nat × Pol :=
  let p := p.refill t
  let b := n * 125000
  let yellowIn := p.aware && colour == 1
  if p.tp < b then (2, { p with red := (p.red + 1) % 2 ^ 32 })
  else if yellowIn ∨ p.tc < b then (1, { p with tp := p.tp - b, yellow := (p.yellow + 1) % 2 ^ 32 })
  else (0, { p with tp := p.tp - b, tc := p.tc - b, green := (p.green + 1) % 2 ^ 32 })

/-- Police a frame of `n` bytes: its colour, or none where it is dropped (R249). -/
def State.police (s : State) (pol : Option Nat) (n colour : Nat) : Option Nat × State :=
  match pol with
  | none => (some colour, s)
  | some k =>
    let r := (s.swc.pols.get {} k).meter s.now n colour
    let s := { s with swc.pols := s.swc.pols.set k r.2 }
    (if r.1 = 2 ∧ r.2.redPass = false then none else some r.1, s)

/-! ## The forwarding table (R239–R241) -/

/-- The indices of the bucket of a VID and MAC address. -/
def fdbBucket (vid mac : Nat) : List Nat := let b := Config.fdbHash vid mac % 4096; [4 * b, 4 * b + 1, 4 * b + 2, 4 * b + 3]
def State.fdbE (s : State) (i : Nat) : FdbE := s.swc.fdb.get {} i
def State.setFdb (s : State) (i : Nat) (e : FdbE) : State := { s with swc.fdb := s.swc.fdb.set i e }

/-- The index of the entry of an address, if there is one. -/
def State.fdbFind (s : State) (vid mac : Nat) : Option Nat :=
  (fdbBucket vid mac).find? (fun i => (s.fdbE i).valid && (s.fdbE i).mac == mac && (s.fdbE i).vid == vid)

/-- Learn a source address on a port (R240). -/
def State.learn (s : State) (p vid mac : Nat) : State :=
  if isGroup mac then s
  else match s.fdbFind vid mac with
    | some i =>
      let e := s.fdbE i
      if e.static then s else s.setFdb i { e with mask := 2 ^ p, seen := s.now }
    | none =>
      match (fdbBucket vid mac).find? (fun i => !(s.fdbE i).valid) with
      | some i => s.setFdb i { mac := mac, vid := vid, mask := 2 ^ p, static := false, valid := true, seen := s.now }
      | none => s.count p cLEARN_FULL 1

/-- Remove the dynamic entries of a port (R240). -/
def State.forgetPort (s : State) (p : Nat) : State :=
  { s with swc.fdb := s.swc.fdb.keep (fun i => let e := s.fdbE i; !(e.valid && !e.static && e.mask == 2 ^ p)) }

/-- DYNAMIC_ENTRY_AGEING of an entry: removed between AGE_TIME and 1.25 × AGE_TIME after its address was last seen (R240). -/
def dynamicEntryAgeing (t i : Nat) (s : State) : State :=
  let s := s.at_ t
  let e := s.fdbE i
  if e.valid ∧ e.static = false ∧ e.seen + sec (s.rd F.SWC_FDB_CFG_AGE_TIME) ≤ s.now then
    { s with swc.fdb := s.swc.fdb.erase i } else s

/-- The ports of a mask. -/
def portsOf (m : Nat) : List Nat := (List.range 28).filter (fun p => bitOf m p)

/-- A ring pair's address filter holds a MAC address (R258). -/
def State.ringHolds (s : State) (r mac : Nat) : Bool :=
  (List.range 4).any (fun k =>
    let lo := s.word (R.SWC_RING_CTL r + 0x40 + 8 * k)
    let hi := s.word (R.SWC_RING_CTL r + 0x44 + 8 * k)
    hi.toNat.testBit 31 && natBE (bytesLE 4 lo.toNat ++ bytesLE 2 (hi.toNat % 65536)) == mac)

/-- The port of a ring pair. -/
def State.ringPort (s : State) (r : Nat) : Nat := 24 + s.rd (F.SWC_RING_CTL_PORT r)

/-- Ring pairs in service on a port. -/
def State.ringsOn (s : State) (p : Nat) : List Nat :=
  (List.range 64).filter (fun r => s.rdb (F.SWC_RING_CTL_ENABLE r) && (s.ringPort r == p))

/-- The result of the forwarding lookup (R239, R241): destination ports, and whether the copy is broadcast or flooded; none
where the frame is dropped as DROP_UNKNOWN. Only flooding may leave I1 or I2 by the ingress port. -/
def State.lookup (s : State) (p vid dst : Nat) : Option (List Nat × Bool) :=
  let v := s.swc.vlans.get {} vid
  let out (m : Nat) : List Nat := (portsOf m).filter (fun o => o != p || o == 24 || o == 25)
  if dst / 16 = 0x180C200000 then
    some ((List.range 28).filter (fun o => (o == 24 || o == 25) && dst % 16 != 14 && (s.ringsOn o).any (fun r => s.ringHolds r dst)), false)
  else match s.fdbFind vid dst with
    | some i => some ((portsOf (s.fdbE i).mask).filter (fun o => o != p), false)
    | none =>
      if dst = bcastMac then some (out v.member, true)
      else if isGroup dst then (if v.floodMc then some (out v.member, true) else none)
      else if v.floodUc then some (out v.member, true) else none

/-! ## MACsec (R234, R235) -/

/-- The value of a key slot. -/
def State.saKey (s : State) (a : Sa) : List Byte := (s.hwn.slots.get {} a.slot).value

/-- The offset of the secured data after a SecTAG: 8 bytes, or 16 with an SCI. -/
def secLen (b : List Byte) : Nat := if bitOf (beAt b 14 1) 5 then 16 else 8

/-- Cipher kinds of Config.cipher and Config.verify for MACsec: integrity only, and confidentiality. -/
def kMacsecInt : Nat := 0x8100
def kMacsecConf : Nat := 0x8101

/-- The full packet number of a received PN. XPN: its upper half is that of the lowest acceptable number, one more where the
lower half of that number is in the upper half of its range and the PN in the lower, as IEEE 802.1AE has it (PRESUMED,
assumption 148). -/
def Sa.pnOf (a : Sa) (pn : Nat) : Nat :=
  if a.xpn then a.low / 2 ^ 32 * 2 ^ 32 + pn + (if pn < 2 ^ 31 ∧ 2 ^ 31 ≤ a.low % 2 ^ 32 then 2 ^ 32 else 0) else pn

/-- What an association's cipher covers: with XPN the full packet number too, of which the frame carries the lower half. -/
def Sa.covers (a : Sa) (pn : Nat) (b : List Byte) : List Byte := if a.xpn then bytesBE 8 pn ++ b else b

/-- The associations of a port, changed. -/
def State.modSas (s : State) (p : Nat) (f : Sa → Sa) : State :=
  let x := s.swPort p
  s.setSwPort p { x with secy := { x.secy with sas := x.secy.sas.map f } }

/-- Strip a SecTAG and ICV: the addresses, then the secured data in clear. -/
def State.secOpen (s : State) (a : Option (Sa × Nat)) (b : List Byte) : List Byte :=
  let body := (b.drop (12 + secLen b)).take (b.length - 12 - secLen b - 16)
  match a with
  | some (a, pn) => b.take 12 ++ (if bitOf (beAt b 14 1) 3 then Config.cipher kMacsecConf (s.saKey a) (a.covers pn (b.take (b.length - 16))) else body)
  | none => b.take 12 ++ body

/-- Validate a received frame (R234): the frame in clear, or none where it is dropped (and counted). Disabled: SecTAG and ICV
are removed; a frame that stays encrypted is dropped (PRESUMED, assumption 135). -/
def State.secValidate (s : State) (p : Nat) (b : List Byte) : Option (List Byte) × State :=
  let y := (s.swPort p).secy
  if !isExt p then (some b, s)
  else if etAt b 12 ≠ 0x88E5 then
    (if y.validate = 2 then (none, s.count p cMACSEC_RX_BAD 1) else (some b, s))
  else if y.validate = 0 then
    (if bitOf (beAt b 14 1) 3 then (none, s.count p cMACSEC_RX_BAD 1) else (some (s.secOpen none b), s))
  else
    let an := beAt b 14 1 % 4
    let sci := if secLen b = 16 then some (beAt b 20 8) else none
    let hit (a : Sa) : Bool := a.rx && a.an == an && a.enabled && (match sci with | some c => a.sci == c | none => true)
    match y.sas.find? hit with
    | none => if y.validate = 1 ∧ bitOf (beAt b 14 1) 3 = false then (some (s.secOpen none b), s.count p cMACSEC_RX_NO_SA 1)
              else (none, s.count p cMACSEC_RX_NO_SA 1)
    | some a =>
      let pn := a.pnOf (beAt b 16 4)
      if pn < a.low then (none, s.count p cMACSEC_RX_REPLAY 1)
      else if Config.verify (if bitOf (beAt b 14 1) 3 then kMacsecConf else kMacsecInt) (s.saKey a) (a.covers pn b) then
        let nx := max a.next (pn + 1)
        (some (s.secOpen (some (a, pn)) b), s.modSas p (fun x => if x = a then { x with next := nx, low := max x.low (nx - y.window) } else x))
      else if y.validate = 1 ∧ bitOf (beAt b 14 1) 3 = false then (some (s.secOpen none b), s.count p cMACSEC_RX_BAD 1)
      else (none, s.count p cMACSEC_RX_BAD 1)

/-- The enabled transmit association in use at a port. -/
def State.txSa (s : State) (p : Nat) : Option Sa :=
  let y := (s.swPort p).secy
  y.sas.find? (fun a => !a.rx && a.enabled && (y.txAn == some a.an))

/-- Protect a frame for a port (R234): the SecTAG, the secured data and the ICV. -/
def State.secProtect (s : State) (a : Sa) (b : List Byte) : List Byte :=
  let tci := a.an + (if a.conf then 0x0C else 0) + (if a.inclSci then 0x20 else 0)
  let short := if b.length - 12 < 48 then b.length - 12 else 0
  let tag := bytesBE 2 0x88E5 ++ bytesBE 1 tci ++ bytesBE 1 short ++ bytesBE 4 (a.next % 2 ^ 32) ++ (if a.inclSci then bytesBE 8 a.sci else [])
  let hdr := b.take 12 ++ tag
  let body := if a.conf then Config.cipher kMacsecConf (s.saKey a) (a.covers a.next (hdr ++ b.drop 12)) else b.drop 12
  hdr ++ body ++ slice (Config.cipher kMacsecInt (s.saKey a) (a.covers a.next (hdr ++ b.drop 12))) 0 16

/-- The last packet number of an association (R235). -/
def Sa.lastPn (a : Sa) : Nat := if a.xpn then 2 ^ 64 - 1 else 2 ^ 32 - 1

/-- UNTAG and DEI_REMARK as they apply to a copy that starts now (R237, R249): they hold for the whole of its frame (R15). -/
def State.untags (s : State) (f : Frame) (p : Nat) : Bool := bitOf (s.swc.vlans.get {} f.vid).untag p
def State.remarks (s : State) (p : Nat) : Bool := s.rdb (F.SWC_PORT_CFG2_DEI_REMARK p)

/-- A frame as a copy's port sends it in clear: the tag removed by UNTAG, DEI by DEI_REMARK, the R-TAG of ENCODE_PORTS, and the
CE mark (R237, R249, R251, R287). -/
def egressBytes (untag remark : Bool) (f : Frame) (c : Copy) : List Byte :=
  let b := if c.mark then setCe f.bytes else f.bytes
  let b := match f.rtag with
    | some (seq, ports) => if bitOf ports c.port then b.take (typeOff b) ++ bytesBE 2 0xF1C1 ++ bytesBE 2 0 ++ bytesBE 2 seq ++ b.drop (typeOff b) else b
    | none => b
  if tagged b && untag then b.take 12 ++ b.drop 16
  else if tagged b && remark && f.colour != 0 then patch b 14 (bytesBE 1 (beAt b 14 1 ||| 0x10))
  else b

/-- A copy on the wire under the settings and the association of its start (R15, R234, R270). -/
def State.wireOf (s : State) (f : Frame) (c : Copy) (t : Tx) : List Byte :=
  let b := egressBytes t.untag t.remark f c
  match t.sa with
  | some a => s.secProtect a b
  | none => b

/-- More of a frame has arrived: the copies that are leaving carry it (R252). -/
def State.rewire (s : State) (fid : Nat) : State :=
  match s.frame fid with
  | none => s
  | some f =>
    foldS ((s.copiesOf fid).filter (fun c => s.leaving c)) (fun c s =>
      let p := s.swPort c.port
      let up (t : Tx) : Tx := if t.fid = fid then { t with wire := s.wireOf f c t } else t
      s.setSwPort c.port { p with tx := p.tx.map up, heldTx := p.heldTx.map up }) s

/-- The key of a slot protects a leaving frame: it is stomped and counted (R235). -/
def State.stompFor (s : State) (p : Nat) (uses : Tx → Bool) : State :=
  let x := s.swPort p
  let n := ((x.tx.filter uses).isSome).toNat + ((x.heldTx.filter uses).isSome).toNat
  let st (t : Tx) : Tx := if uses t then { t with stomp := true } else t
  if n = 0 then s
  else ((s.setSwPort p { x with tx := x.tx.map st, heldTx := x.heldTx.map st }).count p cMACSEC_KEY_ABORT n).count p cCUT_STOMP n

/-- A slot's key is invalidated: its associations are disabled at once, a frame being encrypted is stomped, and one that is
being received for validation is dropped (R235). -/
def State.disableSas (s : State) (slot : Nat) : State :=
  foldS (List.range 24) (fun p s =>
    let hit (a : Sa) : Bool := a.slot == slot && a.enabled
    let sas := (s.swPort p).secy.sas
    let s := s.stompFor p (fun t => !t.stomp && (match t.sa with | some a => a.slot == slot | none => false))
    if sas.any hit then
      let x := s.swPort p
      let s := match x.rx with
        | some r =>
          if !r.dead && (match r.sec with | some (an, sci) => sas.any (fun a => hit a && a.rx && a.an == an && (match sci with | some c => a.sci == c | none => true)) | none => false)
          then (s.setSwPort p { x with rx := some { r with dead := true } }).count p cMACSEC_KEY_ABORT 1 else s
        | none => s
      (s.modSas p (fun a => if hit a then { a with enabled := false } else a)).trig 286
    else s) s

end Sys2Proof.Machine
end

