-- ==== Sys2Proof/Machine/KeyStore.lean ====
section
/-!
DEFINITION. Machine/KeyStore.lean: the slots of the key store: generations, validity and key check values (R465–R470, R472).
-/
namespace Sys2Proof.Machine

/-! ## Slots, generations, validity (R466–R470) -/

def State.slot (s : State) (n : Nat) : KeySlot := s.hwn.slots.get {} n
def State.setSlot (s : State) (n : Nat) (k : KeySlot) : State := { s with hwn.slots := s.hwn.slots.set n k }
def State.epoch (s : State) : Nat := s.rd F.HWN_STAT_EPOCH

/-- ASCII bytes of a text. -/
def ascii (t : String) : List Byte := t.toList.map (fun c => BitVec.ofNat 8 c.toNat)

/-- The names of the domains (R466). -/
def domainName (d : Nat) : List Byte :=
  ascii ((["FIRMWARE", "CONFIG", "UPDATE", "ATTEST", "STORAGE", "LIFECYCLE", "PLATFORM", "CUSTOMER"] : List String).getD d "")

/-- The context of R466: serial number and EPOCH. -/
def State.keyContext (s : State) : List Byte := bytesBE 8 Config.serial ++ bytesBE 1 s.epoch

/-- A domain key of the present EPOCH (R466). -/
def State.domainKey (s : State) (d : Nat) : List Byte := Config.kdf Config.rootKey (ascii "VBZ-DOM-" ++ domainName d) s.keyContext

/-- `usable` of R469, by levels that remain. -/
def State.usableAt (s : State) : Nat → Nat → Bool
  | 0, _ => false
  | n + 1, k =>
    let x := s.slot k
    if x.raw ≠ 1 then false
    else if 0x8000 ≤ x.parent then x.pgen == s.epoch && !s.hwn.spent
    else if (s.slot x.parent).gen ≠ x.pgen then false
    else s.usableAt n x.parent

/-- A slot is usable (R469). -/
def State.usable (s : State) (k : Nat) : Bool := s.usableAt 4 k

/-- The code of STATE as HWN_SLOTs_STAT shows it (R469). -/
def State.slotState (s : State) (k : Nat) : Nat := let x := s.slot k; if x.raw = 1 then (if s.usable k then 1 else 2) else x.raw

/-- HWN_SLOTs_STAT of a slot. -/
def State.slotWord (s : State) (k : Nat) : Word :=
  ((s.word (R.HWN_SLOT_STAT k)).withField 30 2 (s.slotState k)).withField 0 16 (s.slot k).gen

/-- Usable slots (HWN_STAT.USABLE). -/
def State.usableCount (s : State) : Nat := ((List.range 256).filter (fun k => s.usable k)).length

/-- Key operations running or waiting (HWN_STAT.QUEUED). -/
def State.keyOps (s : State) : List Cmd := s.mbx.cmds.filter (fun c => c.op == 0x0B07 && (c.phase == .running || c.phase == .waitObject))

/-- HWN_STAT as it reads. -/
def State.hwnStat (s : State) : Word := ((s.word R.HWN_STAT).withField 16 9 s.usableCount).withField 8 8 (min 255 s.keyOps.length)

/-- A use bit of a slot: 0 ENC, 1 DEC, 2 MAC, 3 VER, 4 SIGN, 5 DERIVE, 6 WRAP, 7 ENGINE (R467). -/
def State.slotUse (s : State) (k b : Nat) : Bool := bitOf (s.rd (F.HWN_SLOT_STAT_USE k)) b
def State.slotType (s : State) (k : Nat) : Nat := s.rd (F.HWN_SLOT_STAT_TYPE k)

/-- The key length of a type in bytes (R467). -/
def keyLen (ty : Nat) : Nat := ([0, 16, 32, 32, 64, 48, 48] : List Nat).getD ty 0

/-- The value of a slot's parent, and its generation. -/
def State.parentKey (s : State) (k : Nat) : List Byte := let x := s.slot k; if 0x8000 ≤ x.parent then s.domainKey (x.parent - 0x8000) else (s.slot x.parent).value
def State.parentGen (s : State) (k : Nat) : Nat := let x := s.slot k; if 0x8000 ≤ x.parent then s.epoch else (s.slot x.parent).gen
def State.parentOk (s : State) (k b : Nat) : Bool :=
  let x := s.slot k
  if 0x8000 ≤ x.parent then !s.hwn.spent && b == 5 else s.usable x.parent && s.slotUse x.parent b

/-- The key check value of a value for a slot (R472). -/
def State.kcv (s : State) (k : Nat) (v : List Byte) : List Byte :=
  if s.slotType k = 6 then slice (Config.digest 0x256 (Config.cipher 0x60 v [])) 0 8
  else slice (Config.hmac256 v (ascii "VBZ-KCV" ++ bytesBE 2 k)) 0 8

end Sys2Proof.Machine
end

