-- ==== Sys2Proof/Machine/Operands.lean ====
section
/-!
DEFINITION. Machine/Operands.lean: the mailbox transport (R48–R74): requests, descriptors, the check order of R66,
waiting, forwarding and responses. A command's chapter gives its definition as a `CmdDef`.
-/
namespace Sys2Proof.Machine

/-! ## Ranges of values -/

/-- Any value; up to a bound; between two bounds. -/
def anyVal (_ : Nat) : Bool := true
def upTo (m v : Nat) : Bool := decide (v ≤ m)
def between (l m v : Nat) : Bool := decide (l ≤ v) && decide (v ≤ m)

/-! ## Status codes (R67) -/

def stOK : Nat := 0x0000
def stACCEPTED : Nat := 0x0001
def stSTAGED : Nat := 0x0002
def stBAD_OPCODE : Nat := 0x0101
def stBAD_LENGTH : Nat := 0x0102
def stBAD_ARGUMENT : Nat := 0x0103
def stNOT_OWNER : Nat := 0x0104
def stLOCKED_FIELD : Nat := 0x0105
def stBUSY : Nat := 0x0201
def stBUSY_MAINT : Nat := 0x0202
def stBUDGET_DENIED : Nat := 0x0203
def stMODE_FORBIDS : Nat := 0x0204
def stNODE_UNREACHABLE : Nat := 0x0205
def stTIMEOUT : Nat := 0x0206
def stAUTH_FAILED : Nat := 0x0301
def stKEY_REVOKED : Nat := 0x0302
def stTAMPER_LOCKOUT : Nat := 0x0303
def stSERVICE_UNAVAILABLE : Nat := 0x0304
def stINTERNAL_FAULT : Nat := 0x0401
def stCOPPICE_ACTIVE : Nat := 0x0402

/-! ## Request fields (R56, R57) -/

def Cmd.tag (c : Cmd) : Nat := c.req.tag
def Cmd.win (c : Cmd) : Nat := c.req.win
/-- DESC, NOWAIT, ORDERED and TMO of FLAGS (R57). -/
def Cmd.desc (c : Cmd) : Bool := bitOf c.req.flags 0
def Cmd.nowait (c : Cmd) : Bool := bitOf c.req.flags 1
def Cmd.ordered (c : Cmd) : Bool := bitOf c.req.flags 2
def Cmd.tmo (c : Cmd) : Nat := bitsOf c.req.flags 8 8
/-- The little-endian payload field of `n` bytes at byte `o` (R7); bytes beyond LEN are ignored (R56). -/
def Cmd.arg (c : Cmd) (o n : Nat) : Nat := leAt (c.req.payload.take c.req.len) o n
/-- Payload bytes `o` to `o + n - 1`. -/
def Cmd.argBytes (c : Cmd) (o n : Nat) : List Byte := slice (c.req.payload.take c.req.len) o n
/-- Payload bytes `o` to `o + n - 1` are zero: a reserved field (R14). -/
def Cmd.zero (c : Cmd) (o n : Nat) : Bool := c.arg o n == 0

/-- Descriptor `i` of the payload (R63): address, size, direction. -/
def Cmd.dAddr (c : Cmd) (i : Nat) : Nat := c.arg (16 * i) 8
def Cmd.dSize (c : Cmd) (i : Nat) : Nat := c.arg (16 * i + 8) 4
def Cmd.dDir (c : Cmd) (i : Nat) : Nat := c.arg (16 * i + 12) 1

/-- Descriptor `i` is well formed (R63) and of the direction the command states. -/
def Cmd.dForm (c : Cmd) (i dir : Nat) : Bool :=
  decide (c.dAddr i < 2 ^ 40) && (c.dAddr i % 64 == 0) && decide (1 ≤ c.dSize i) && decide (c.dSize i ≤ 4194304) &&
  (c.dDir i == dir) && c.zero (16 * i + 13) 3

/-! ## Request slots (R50, R56) -/

/-- The 64 bytes of a request slot: header and payload, little-endian (R7, R56). -/
def reqBytes (op : Nat) (r : Req) : List Byte :=
  bytesLE 2 op ++ bytesLE 2 r.tag ++ bytesLE 2 r.len ++ bytesLE 2 r.target ++ bytesLE 4 r.flags ++ bytesLE 4 r.rsvd ++ slice r.payload 0 48

/-- The opcode of a slot's bytes. -/
def slotOp (b : List Byte) : Nat := leAt b 0 2

/-- The request that a slot's bytes hold, taken at an instant from a window (R56). -/
def reqOfSlot (t w : Nat) (b : List Byte) : Req :=
  { t := t, win := w, tag := leAt b 2 2, len := leAt b 4 2, target := leAt b 6 2, flags := leAt b 8 4, rsvd := leAt b 12 4, payload := slice b 16 48 }

/-! ## Results of a command's own checks -/

/-- What steps 7 to 15 of R66 come to. -/
inductive Res where
  /-- refused with a status: no effect -/
  | refuse (st : Nat)
  /-- executed: answered with a status and a payload -/
  | done (st : Nat) (pl : List Byte) (s : State)
  /-- must wait (R62) -/
  | wait (p : Phase)
  /-- started: stays in flight until an event of its chapter answers it -/
  | later (p : Phase) (aux : Nat) (s : State)

/-- A check of R66: its status where it fails. -/
def need (c : Bool) (st : Nat) (k : Res) : Res := if c then k else .refuse st

/-- The state after a command's effect, changed further. -/
def Res.andThen : Res → (State → State) → Res
  | .done st pl s, f => .done st pl (f s)
  | .later p a s, f => .later p a (f s)
  | r, _ => r

/-- The outcome takes the object a command names: it is no refusal of an earlier check, not BUSY_MAINT and no wait of its own. -/
def Res.takes : Res → Bool
  | .refuse _ => false
  | .done st _ _ => st != stBUSY_MAINT
  | .wait _ => false
  | .later _ _ _ => true

/-- A command's definition: opcode, the payload lengths it takes without DESC, the directions of its descriptors with
DESC (none: it takes none), whether it is served in COPPICE and in which forms, whether it may be forwarded and broadcast, the objects it
names for the order of R61 (none: it names none, or its own rule says how it meets another, DEDUCED, assumption 140), and its
steps 7 to 15. -/
structure CmdDef where
  op      : Nat
  lens    : Nat → Bool
  descs   : List (List Nat) := []
  coppice : Bool := false
  coppiceForm : Cmd → Bool := fun _ => true
  remote  : Bool := true
  bcast   : Bool := false
  names   : Cmd → State → List Nat := fun _ _ => []
  body    : Cmd → State → Res

/-- A command that names the object of a kind whose number is in `n` payload bytes at byte `o`. -/
def argKey (kind o n : Nat) (c : Cmd) (_ : State) : List Nat := [okey kind (c.arg o n)]
/-- The keys of `count` objects of a kind from `first` on. -/
def spanKeys (kind first count : Nat) : List Nat := (List.range (min 1024 count)).map (fun i => okey kind (first + i))
/-- The four bytes of range and count: in the payload, or in the DIR 0 buffer (R120). -/
def State.rangeBytes (s : State) (c : Cmd) : List Byte := if c.desc then s.load (c.dAddr 0) 4 else c.argBytes 0 4
/-- A command that names the cycle engine's program. -/
def progKey (_ : Cmd) (_ : State) : List Nat := [okey kVar 0]
/-- A command that names the configuration (R518). -/
def confKey (_ : Cmd) (_ : State) : List Nat := [okey 21 0]

/-- The module writes a command's buffer: the bytes are charged to its requester (R64, R421). -/
def State.putBuf (s : State) (c : Cmd) (i : Nat) (l : List Byte) : State := (s.store (c.dAddr i) l).dramCharge c.who (c.dAddr i) l.length

/-- The module reads a command's buffers of direction 0, each charged to its requester (R64, R421; DESIGN CHOICE, assumption 70: a
command that its own checks refuse is charged none). -/
def State.readBufs (s : State) (c : Cmd) (dirs : List Nat) : State :=
  foldS ((List.range dirs.length).filter (fun i => dirs.getD i 0 == 0)) (fun i s => s.dramCharge c.who (c.dAddr i) (c.dSize i)) s

/-! ## Responses (R58, R59) -/

/-- The response slot's 64 bytes (R58). -/
def rspBytes (op tag st done : Nat) (pl : List Byte) : List Byte :=
  bytesLE 2 op ++ bytesLE 2 tag ++ bytesLE 2 st ++ bytesLE 2 pl.length ++ bytesLE 8 done ++ slice pl 0 48

/-- The base of a window's response ring (MBX_RSP_BASE). -/
def State.rspBase (s : State) (w : Nat) : Nat :=
  s.rd (F.MBX_RSP_BASE_LO_ADDR w) * 4096 + s.rd (F.MBX_RSP_BASE_HI_ADDR_HI w) * 2 ^ 32

/-- The base of a window's request ring (MBX_REQ_BASE). -/
def State.reqBase (s : State) (w : Nat) : Nat :=
  s.rd (F.MBX_REQ_BASE_LO_ADDR w) * 4096 + s.rd (F.MBX_REQ_BASE_HI_ADDR_HI w) * 2 ^ 32

/-- The slot of a window's request ring that is taken next (R50). -/
def State.reqSlot (s : State) (w : Nat) : Nat := s.reqBase w + 64 * (s.rd (F.MBX_REQ_CONS_CONS w) % 64)

/-- The bytes of the slot taken next are this request's, with this opcode (R56). -/
def State.slotHolds (s : State) (op : Nat) (r : Req) : Bool :=
  let b := s.load (s.reqSlot r.win) 64
  slotOp b == op && reqOfSlot r.t r.win b == { r with payload := slice r.payload 0 48 }

/-- The address of the next response slot of a window (R50). -/
def State.rspSlot (s : State) (w : Nat) : Nat := s.rspBase w + 64 * (s.rd (F.MBX_RSP_PROD_PROD w) % 64)

/-- Count an answered command (R81). -/
def MbxStat.answered (m : MbxStat) (st : Nat) : MbxStat :=
  { m with served := (m.served + 1) % 2 ^ 32,
           refused := if 0x0101 ≤ st then (m.refused + 1) % 2 ^ 32 else m.refused,
           timeouts := if st = stTIMEOUT then satAdd m.timeouts 1 0xFFFF else m.timeouts }

/-- Post a response to a window: the slot, then MBX_RSP_PROD, INFLIGHT and the counts (R50, R53, R58, R81). -/
def State.respond (s : State) (w op tag st done : Nat) (pl : List Byte) : State :=
  let s := (s.store (s.rspSlot w) (rspBytes op tag st done pl)).dramCharge w (s.rspSlot w) 64
  let s := s.inc (F.MBX_RSP_PROD_PROD w)
  let s := s.wr (F.MBX_STATUS_INFLIGHT w) (s.rd (F.MBX_STATUS_INFLIGHT w) - 1)
  { s with mbx.stat := s.mbx.stat.set w ((s.mbx.stat.get {} w).answered st) }

/-! ## Frames of the Hedgerow chain (R384–R386, R392, R397) -/

/-- The header bytes and payload that a MAC covers (R384). -/
def hdgBytes (f : HdgFrame) : List Byte :=
  bytesBE 1 (f.ty * 16) ++ bytesBE 1 f.hops ++ bytesBE 2 f.dst ++ bytesBE 2 f.src ++ bytesBE 1 f.payload.length ++
  bytesBE 1 f.flags ++ bytesBE 4 f.seq ++ f.payload

/-- KEY_SLOT names a usable slot that holds a 256-bit AES key with ENGINE (R385, R467). -/
def State.hdgKeyOk (s : State) : Bool :=
  let k := s.rd F.HDG_CFG_KEY_SLOT
  s.usable k && s.slotType k == 2 && s.slotUse k 7

/-- The MAC of a frame under the key of the chain slot (R385). Where the slot gives the link no key, the eight bytes of a frame
that is sent all the same are stated nowhere: the value of the opaque function for no key stands for them (assumption 63). -/
def State.hdgMac (s : State) (f : HdgFrame) : List Byte :=
  slice (Config.cmac (if s.hdgKeyOk then (s.slot (s.rd F.HDG_CFG_KEY_SLOT)).value else []) (hdgBytes f)) 0 8

/-- This unit's node address as SRC: 0x07FF while it has none (R384, R391). -/
def State.ownNode (s : State) : Nat :=
  if s.rd F.HDG_STAT_STATE = 0 ∨ s.rd F.HDG_STAT_STATE = 4 then 0x7FF else s.rd F.HDG_STAT_NODE

/-- A frame of this unit, authenticated where its type requires it (R384, R385). -/
def State.hdgSeal (s : State) (f : HdgFrame) : HdgFrame × State :=
  let f : HdgFrame := { f with src := s.ownNode, seq := s.hdg.seqOut, flags := setBit f.flags 0 }
  ({ f with mac := s.hdgMac f }, { s with hdg.seqOut := (s.hdg.seqOut + 1) % 2 ^ 32 })

/-- The depth of a position in TOPO (R392); the root is position 0 at depth 0. -/
def State.depthOf (s : State) (pos : Nat) : Option Nat :=
  if pos = 0 then some 0 else (s.hdg.topo.findIdx? (fun p => p == pos)).map (fun i => i + 1)

/-- This unit is a root (R388). -/
def State.isRoot (s : State) : Bool := s.rd F.HDG_CFG_ROLE == 1

/-- Ways a frame leaves. -/
inductive Way where
  | up | dn | both | eth | none
deriving DecidableEq, Repr

/-- The way towards a node (R392, R398). -/
def State.wayTo (s : State) (dst : Nat) : Way :=
  if dst / 64 ≠ s.rd F.HDG_STAT_NODE / 64 then (if s.isRoot then .eth else .up)
  else if dst % 64 = 63 then .both
  else match s.depthOf (dst % 64) with
    | none => .none
    | some d => if d < s.rd F.HDG_STAT_DEPTH then .up else .dn

/-- Queue a frame on CHN_UP±, or drop and count it where the queue holds 16 (R386). -/
def State.sendUp (s : State) (f : HdgFrame) : State :=
  if s.hdg.outUp.length < 16 then { s with hdg.outUp := s.hdg.outUp ++ [f] } else s.sat F.HDG_ERR_FWD_DROP 1

/-- Queue a frame on CHN_DN±. -/
def State.sendDn (s : State) (f : HdgFrame) : State :=
  if s.hdg.outDn.length < 16 then { s with hdg.outDn := s.hdg.outDn ++ [f] } else s.sat F.HDG_ERR_FWD_DROP 1

/-- Send a frame on its way (R386, R392, R398). -/
def State.sendHdg (s : State) (f : HdgFrame) : State :=
  match s.wayTo f.dst with
  | .up => s.sendUp f
  | .dn => s.sendDn f
  | .both => (s.sendUp f).sendDn f
  | .eth => { s with hdg.outEth := s.hdg.outEth ++ [(f.dst / 64, f)] }
  | .none => s

/-- A forwarding queue towards a node is full (R62, R386). -/
def State.fwdFull (s : State) (dst : Nat) : Bool :=
  match s.wayTo dst with
  | .up => decide (16 ≤ s.hdg.outUp.length)
  | .dn => decide (16 ≤ s.hdg.outDn.length)
  | .both => decide (16 ≤ s.hdg.outUp.length) || decide (16 ≤ s.hdg.outDn.length)
  | _ => false

/-- A remote target is reachable (R398): one in another segment only where the base configuration holds that segment's entry. -/
def State.reachable (s : State) (dst : Nat) : Bool :=
  (s.isRoot || s.rd F.HDG_STAT_STATE == 3) &&
  (match s.wayTo dst with
   | .up => s.rdb F.HDG_STAT_UP_LINK && (dst / 64 == s.rd F.HDG_STAT_NODE / 64 || (s.hdg.roots.get {} (dst / 64)).valid)
   | .dn => s.rdb F.HDG_STAT_DN_LINK
   | .both => s.rdb F.HDG_STAT_UP_LINK || s.rdb F.HDG_STAT_DN_LINK
   | .eth => (s.hdg.roots.get {} (dst / 64)).valid
   | .none => false)

/-- The FWD_RSP payload (R397). -/
def fwdRspPayload (op tag st win done : Nat) (pl : List Byte) : List Byte :=
  bytesBE 2 op ++ bytesBE 2 tag ++ bytesBE 2 st ++ bytesBE 1 pl.length ++ bytesBE 1 win ++ bytesBE 8 done ++ slice pl 0 48

/-- Answer a forwarded command to its origin (R397). -/
def State.respondRemote (s : State) (node win op tag st done : Nat) (pl : List Byte) : State :=
  let (f, s) := s.hdgSeal { ty := 9, dst := node, payload := fwdRspPayload op tag st win done pl }
  s.sendHdg f

/-- The FWD_REQ payload of a command with a wait that remains (R397). -/
def fwdReqPayload (c : Cmd) (remain : Nat) : List Byte :=
  bytesBE 8 remain ++ bytesBE 1 (targetOf c.who) ++ bytesBE 1 c.win ++ bytesBE 2 c.op ++ bytesBE 2 c.tag ++
  bytesBE 1 c.req.len ++ bytesBE 1 (b2n c.nowait + 2 * b2n c.ordered) ++ slice (c.req.payload.take c.req.len) 0 48

/-! ## Commands in flight -/

/-- Two entries are the same command: origin, window and tag (R56, R397). -/
def Cmd.same (c d : Cmd) : Bool := c.node == d.node && c.win == d.win && c.tag == d.tag

/-- Remove a command from the table of commands in flight. -/
def State.unlist (s : State) (c : Cmd) : State := { s with mbx.cmds := s.mbx.cmds.filter (fun d => !c.same d) }

/-- Put a command in the table of commands in flight, in its place where it is already there. -/
def State.enlist (s : State) (c : Cmd) : State :=
  { s with mbx.cmds :=
      if s.mbx.cmds.any (fun d => c.same d) then s.mbx.cmds.map (fun d => if c.same d then c else d)
      else s.mbx.cmds ++ [c] }

/-- Answer a command, local or forwarded, with a completion instant, and take it out of flight (R58, R59, R397). -/
def State.answerAt (s : State) (c : Cmd) (st done : Nat) (pl : List Byte) : State :=
  let s := s.unlist c
  if c.node = 0xFFFF then s.respond c.win c.op c.tag st done pl
  else s.respondRemote c.node c.win c.op c.tag st done pl

/-- Answer a command at this instant. -/
def State.answer (s : State) (c : Cmd) (st : Nat) (pl : List Byte) : State := s.answerAt c st s.now pl

/-- The limit of a command has passed (R62, R71). -/
def State.expired (s : State) (c : Cmd) : Bool := match c.limit with | some u => decide (u ≤ s.now) | none => false

/-- A waiting command whose limit has passed is removed without effect: answered TIMEOUT, or dropped where it was forwarded
(R62, R71). -/
def State.expire (s : State) (c : Cmd) : State := if c.node = 0xFFFF then s.answer c stTIMEOUT [] else s.unlist c

/-- A command of the window that was taken before `c` and is still in flight. -/
def State.earlier (s : State) (c : Cmd) : List Cmd :=
  (s.mbx.cmds.takeWhile (fun d => !c.same d)).filter (fun d => d.node == c.node && d.win == c.win)

/-- ORDERED holds the command back: it is ORDERED with an earlier command in flight, or an earlier ORDERED one is in
flight (R57). -/
def State.orderHolds (s : State) (c : Cmd) : Bool :=
  let e := s.earlier c
  (c.ordered && !e.isEmpty) || e.any (fun d => d.ordered)

/-- A command in flight still holds the objects it names: a CYC_EVENT whose trigger has been taken and a running KEY_OP do not, since
R228 and R467 say how later commands meet them (DEDUCED, assumption 140). -/
def Cmd.holds (d : Cmd) : Bool := !(d.phase == .running && (d.op == 0x040C || d.op == 0x0B07))

/-- An object of a list is held by a command in flight that was taken earlier, from any window (R61, R62). -/
def State.objHeld (s : State) (c : Cmd) (objs : List Nat) : Bool :=
  (s.mbx.cmds.takeWhile (fun d => !c.same d)).any (fun d => d.holds && d.objs.any (fun o => objs.contains o))

/-- Act on the outcome of a command's own steps: from now on it is under the ownership it was checked against (R62, R70). -/
def State.settleRes (s : State) (c : Cmd) : Res → State
  | .refuse st => s.answer c st []
  | .done st pl s' => s'.answer c st pl
  | .wait p =>
    if c.nowait then s.answer c (if p = .maint then stBUSY_MAINT else stBUSY) []
    else s.enlist { c with phase := p, pass9 := true }
  | .later p aux s' => s'.enlist { c with phase := p, pass9 := true, aux := aux }

/-- The requester whose identity a command's buffers are checked with (R64): a forwarded command has none (R66). -/
def State.bufOk (s : State) (c : Cmd) (i : Nat) : Nat :=
  if !s.ringRange c.who (c.dAddr i) (c.dSize i) then stBAD_ARGUMENT
  else if !s.admitsAll c.who (if c.dDir i = 0 then .load else .store) (c.dAddr i) (c.dSize i) then stNOT_OWNER
  else 0

/-- Step 7 of R66: descriptors valid by R63 and R64; 0 where they are. Where several fail, the first of them in payload order
decides (DESIGN CHOICE, assumption 142). -/
def State.descCheck (s : State) (c : Cmd) (dirs : List Nat) : Nat :=
  if !((List.range dirs.length).all (fun i => c.dForm i (dirs.getD i 0))) then stBAD_ARGUMENT
  else ((List.range dirs.length).map (fun i => s.bufOk c i)).foldl (fun a b => if a = 0 then b else a) 0

/-- The descriptor directions that fit the request's LEN (R63), if the command takes so many. -/
def CmdDef.dirsFor (d : CmdDef) (len : Nat) : Option (List Nat) := d.descs.find? (fun l => l.length * 16 == len)

/-- Steps 7 to 15 of R66 for a command at this unit with the objects it names, held back by ORDERED first (R57), and once its checks have passed by an
earlier command in flight that names the same object (R61). -/
def State.runNamed (s : State) (d : CmdDef) (c : Cmd) : State :=
  if s.orderHolds c then s.enlist { c with phase := .waitOrder }
  else
    let dirs := if c.desc then (d.dirsFor c.req.len).getD [] else []
    let e := s.descCheck c dirs
    if e ≠ 0 then s.answer c e []
    else
      let x := d.body c s
      if x.takes && s.objHeld c c.objs then s.settleRes c (.wait .waitObject)
      else s.settleRes c (x.andThen (fun s => s.readBufs c dirs))

/-- The same, for a command as it was taken. -/
def State.runBody (s : State) (d : CmdDef) (c : Cmd) : State := s.runNamed d { c with objs := d.names c s }

/-- Two ways share a forwarding queue (R386). -/
def Way.shares : Way → Way → Bool
  | .up, .up => true
  | .up, .both => true
  | .dn, .dn => true
  | .dn, .both => true
  | .both, .up => true
  | .both, .dn => true
  | .both, .both => true
  | _, _ => false

/-- A command taken earlier waits for room in the forwarding queue that this one needs (R61, R62). -/
def State.fwdAhead (s : State) (c : Cmd) : Bool :=
  (s.mbx.cmds.takeWhile (fun d => !c.same d)).any (fun d => d.phase == .waitQueue && d.node == 0xFFFF &&
    (d.req.target != 0xFFFF) && (s.wayTo d.req.target).shares (s.wayTo c.req.target))

/-- Forward a command to another unit, waiting where the forwarding queue is full or an earlier command waits for it (R61, R62, R73). REMAIN counts from here: the time
in this unit's own queue is taken off when the frame leaves (R71, `State.onWire`). -/
def State.forward (s : State) (c : Cmd) : State :=
  if s.fwdFull c.req.target || s.fwdAhead c then
    (if c.nowait then s.answer c stBUSY [] else s.enlist { c with phase := .waitQueue })
  else
    let remain := (c.limit.getD s.now) - s.now
    let (f, s) := s.hdgSeal { ty := 8, dst := c.req.target, payload := fwdReqPayload c remain }
    let s := s.sendHdg { f with inAt := s.now }
    if c.req.target % 64 = 63 then s.answer c stACCEPTED [] else s.enlist { c with phase := .forwarded }

/-- The target is this unit (R56, R71). -/
def State.isLocal (s : State) (target : Nat) : Bool :=
  target == 0xFFFF || (target == s.rd F.HDG_STAT_NODE && s.ownNode != 0x7FF)

/-- Steps 2 to 6 of R66 for a request just taken; 0 where they pass (R57, R63, R66, R73). -/
def State.headCheck (s : State) (d : CmdDef) (c : Cmd) : Nat :=
  let r := c.req
  let loc := s.isLocal r.target
  if r.rsvd ≠ 0 ∨ bitsOf r.flags 3 5 ≠ 0 ∨ bitsOf r.flags 16 16 ≠ 0 ∨ s.mbx.cmds.any (fun x => c.same x) then stBAD_ARGUMENT
  else if !(decide (r.len ≤ 48) && (if c.desc then (d.dirsFor r.len).isSome else d.lens r.len)) then stBAD_LENGTH
  else if s.dev = .coppice ∧ (!(d.coppice && d.coppiceForm c) || !loc) = true then stCOPPICE_ACTIVE
  else if !loc && (decide (r.target ≥ 2 ^ 11) || c.desc || (r.target % 64 == 63 && !d.bcast)) then stBAD_ARGUMENT
  else if !loc && !s.reachable r.target then stNODE_UNREACHABLE
  else 0

/-- The Privet controller serves a window and its ring has a request that may be taken (R51, R55, R74, R456). -/
def State.hasReq (s : State) (w : Nat) : Bool :=
  decide (w ≤ 16) && s.rdb (F.MBX_CTL_ENABLE w) && s.rdb (F.MBX_STATUS_SERVING w) &&
  (s.rd (F.MBX_REQ_PROD_PROD w) != s.rd (F.MBX_REQ_CONS_CONS w)) &&
  decide ((s.rd (F.MBX_REQ_CONS_CONS w) + 0x10000 - s.rd (F.MBX_RSP_CONS_CONS w)) % 0x10000 < 64) &&
  !(w == 16 && s.rd F.MPC_GW_STAT_SEC_STATE == 2) &&
  (s.dev == .starting || s.dev == .running || s.dev == .coppice) && !s.slp.prepped

/-- A window may be visited: it is ready, and no ready window is owed a turn before it (R60). -/
def State.canTake (s : State) (w : Nat) : Bool := s.hasReq w && s.mbx.owed.all (fun p => p.1 != w || !s.hasReq p.2)

/-- A turn of a window: it owes one to every other window that is ready, and none owes it one any more (R60). -/
def State.turn (s : State) (w : Nat) : State :=
  { s with mbx.owed := s.mbx.owed.filter (fun p => p.1 != w && p.2 != w) ++
      ((List.range 17).filter (fun v => v != w && s.hasReq v)).map (fun v => (w, v)) }

/-- Take a request: MBX_REQ_CONS, INFLIGHT and its peak (R51, R60, R81). -/
def State.take (s : State) (w : Nat) : State :=
  let s := s.turn w
  let s := (s.dramCharge w (s.reqSlot w) 64).inc (F.MBX_REQ_CONS_CONS w)
  let s := s.wr (F.MBX_STATUS_INFLIGHT w) (s.rd (F.MBX_STATUS_INFLIGHT w) + 1)
  let m := s.mbx.stat.get {} w
  { s with mbx.stat := s.mbx.stat.set w { m with peak := max m.peak (s.rd (F.MBX_STATUS_INFLIGHT w)) } }

/-- The command that a request makes (R49, R57, R62, R71). -/
def State.cmdOf (s : State) (op : Nat) (r : Req) : Cmd :=
  let tmo := bitsOf r.flags 8 8
  { node := 0xFFFF, who := r.win, op := op, req := r, taken := s.now, phase := .running,
    limit := if tmo ≠ 0 then some (s.now + ms (10 * tmo)) else if s.isLocal r.target then none else some (s.now + ms 250) }

/-- From t_commit only the device group, SLP_STATUS and SLP_WAKE_INFO are served (R364). -/
def State.sleepRefuses (s : State) (d : CmdDef) : Bool :=
  s.rd F.WAK_STAT_PHASE == 2 && d.op / 256 != 1 && d.op != 0x0802 && d.op != 0x0803

/-- The status that a command's steps 8 to 11 of R66 give before MODE_FORBIDS. -/
def State.bodyRefusal (s : State) (d : CmdDef) (c : Cmd) : Nat :=
  match d.body c s with
  | .refuse st => if [stBAD_ARGUMENT, stNOT_OWNER, stAUTH_FAILED, stTAMPER_LOCKOUT, stLOCKED_FIELD].contains st then st else stMODE_FORBIDS
  | _ => stMODE_FORBIDS

/-- The status of a request that R364 refuses: that of the first of steps 7 to 11 of R66 that fails, else MODE_FORBIDS. -/
def State.refusal (s : State) (d : CmdDef) (c : Cmd) : Nat :=
  if !s.isLocal c.req.target then stMODE_FORBIDS
  else
    let e := s.descCheck c (if c.desc then (d.dirsFor c.req.len).getD [] else [])
    if e ≠ 0 then e else s.bodyRefusal d c

/-- Take and serve the request that the next slot of a window's ring holds (R56): the checks of R66, then forwarding or the command's own
steps. -/
def State.serve (s : State) (d : CmdDef) (r : Req) : State :=
  let s := s.at_ r.t
  if !(s.canTake r.win && s.slotHolds d.op r) then s
  else
    let s := s.take r.win
    let c := s.cmdOf d.op r
    let e := s.headCheck d c
    if e ≠ 0 then (if s.mbx.cmds.any (fun x => c.same x) then s.respond c.win c.op c.tag e s.now [] else s.answer c e [])
    else if s.sleepRefuses d then s.answer c (s.refusal d c) []
    else if s.isLocal r.target then s.runBody d c
    else if s.orderHolds c then s.enlist { c with phase := .waitOrder }
    else s.forward c

/-- Execute a forwarded command at this unit (R71, R397): steps 7 to 15; in COPPICE and FAULT only the groups served, and from t_commit
only what R364 lets through. -/
def State.serveRemote (s : State) (d : CmdDef) (c : Cmd) : State :=
  if !(decide (c.req.len ≤ 48) && d.lens c.req.len) then s.answer c stBAD_LENGTH []
  else if s.dev = .coppice ∧ d.op / 256 ≠ 1 then s.answer c stCOPPICE_ACTIVE []
  else if s.dev = .fault ∧ d.op / 256 ≠ 1 ∧ d.op / 256 ≠ 0x0C then s.answer c stMODE_FORBIDS []
  else if !d.remote then s.answer c stNOT_OWNER []
  else if s.sleepRefuses d then s.answer c (s.bodyRefusal d c) []
  else s.runBody d c

end Sys2Proof.Machine
end

