-- ==== Sys2Proof/Machine/Fabric.lean ====
section
/-!
DEFINITION. Machine/Fabric.lean: the objects of the power fabric (chapters 03 and 04): what a cell, a gang or a bridge
is made of, its configuration, and what an edge, a protection and a disposition do to it.
-/
namespace Sys2Proof.Machine

/-! ## Objects: cells 0–511, gangs 512–575, bridges 576–607 (PFB_BUDx) -/

def xGang (g : Nat) : Nat := 512 + g
def xBrg (h : Nat) : Nat := 576 + h
def isCell (x : Nat) : Bool := decide (x < 512)
def isGang (x : Nat) : Bool := decide (512 ≤ x) && decide (x < 576)
def isBrg (x : Nat) : Bool := decide (576 ≤ x) && decide (x < 608)

def State.obj (s : State) (x : Nat) : Obj := s.fab.objs.get {} x
def State.setObj (s : State) (x : Nat) (o : Obj) : State := { s with fab.objs := s.fab.objs.set x o }
def State.modObj (s : State) (x : Nat) (f : Obj → Obj) : State := s.setObj x (f (s.obj x))
def State.meas (s : State) (n : Nat) : Meas := s.fab.meas.get {} n
def State.bankLost (s : State) (k : Nat) : Bool := (s.fab.banks.get {} k).lost

/-- Gang `g` is defined and holds terminal `n` (R123, PFB_GANGg_MEMk). -/
def State.gangHas (s : State) (g n : Nat) : Bool :=
  s.rdb (F.PFB_GANG_DEF_VALID g) && (s.rd (F.PFB_GANG_DEF_FEED g) == n / 128) &&
  bitOf (s.rd (F.PFB_GANG_MEM_MEM g (n % 128 / 32))) (n % 32)

/-- The gang that a terminal is a member of. -/
def State.gangOf (s : State) (n : Nat) : Option Nat := (List.range 64).find? (fun g => s.gangHas g n)

/-- The members of a gang, rising. -/
def State.gangMembers (s : State) (g : Nat) : List Nat :=
  ((List.range 128).map (fun i => 128 * s.rd (F.PFB_GANG_DEF_FEED g) + i)).filter (fun n => s.gangHas g n)

/-- The legs of a bridge (R134). -/
def State.legA (s : State) (h : Nat) : Nat := s.rd (F.PFB_BRG_CFG0_GANG_A h)
def State.legB (s : State) (h : Nat) : Nat := s.rd (F.PFB_BRG_CFG0_GANG_B h)
def State.brgValid (s : State) (h : Nat) : Bool := s.rdb (F.PFB_BRG_CFG0_VALID h)

/-- The bridge that a gang is a leg of (R134). -/
def State.brgOf (s : State) (g : Nat) : Option Nat :=
  (List.range 32).find? (fun h => s.brgValid h && (s.legA h == g || s.legB h == g))

/-- The object is defined: every terminal, and the gangs and bridges of the base configuration. -/
def State.defined (s : State) (x : Nat) : Bool :=
  if isCell x then true else if isGang x then s.rdb (F.PFB_GANG_DEF_VALID (x - 512))
  else if isBrg x then s.brgValid (x - 576) else false

/-- The top-level object that switches a cell or gang (R82, R134, R160). -/
def State.topOf (s : State) (x : Nat) : Nat :=
  let y := if isCell x then (match s.gangOf x with | some g => xGang g | none => x) else x
  if isGang y then (match s.brgOf (y - 512) with | some h => xBrg h | none => y) else y

/-- The object is a top-level object (R160). -/
def State.isTop (s : State) (x : Nat) : Bool := s.defined x && (s.topOf x == x)

/-- The terminals of an object, rising within each leg. -/
def State.members (s : State) (x : Nat) : List Nat :=
  if isCell x then [x] else if isGang x then s.gangMembers (x - 512)
  else s.gangMembers (s.legA (x - 576)) ++ s.gangMembers (s.legB (x - 576))

/-- The lowest-numbered terminal of a list. -/
def lowest (l : List Nat) : Nat := l.foldl min 511

/-- The feed of an object, 1–4 (R27, R123, R134). -/
def State.feedOf (s : State) (x : Nat) : Nat :=
  if isCell x then x / 128 + 1 else if isGang x then s.rd (F.PFB_GANG_DEF_FEED (x - 512)) + 1
  else s.rd (F.PFB_GANG_DEF_FEED (s.legA (x - 576))) + 1

/-- The banks that hold terminals of an object. -/
def State.banksOf (s : State) (x : Nat) : List Nat := (s.members x).map (fun n => n / 16)

/-- The top-level objects of a feed. -/
def State.topsOf (s : State) (f : Nat) : List Nat := (List.range 608).filter (fun x => s.isTop x && (s.feedOf x == f))

/-- All top-level objects. -/
def State.tops (s : State) : List Nat := (List.range 608).filter (fun x => s.isTop x)

/-- The lowest terminal of an object, whose entry of the expectation table applies: of leg A for a bridge (R141). -/
def State.entryTerm (s : State) (x : Nat) : Nat :=
  if isBrg x then (s.gangMembers (s.legA (x - 576))).headD 0 else (s.members x).headD 0

/-- The wiring probe has not judged the object since power-on (R113). -/
def State.unprobed (s : State) (x : Nat) : Bool := (s.fab.probes.get {} (s.entryTerm x)).result == 0

/-- The object is blocked: by a result under POLICY BLOCK, or not yet probed with POLICY BLOCK (R143). -/
def State.isBlocked (s : State) (x : Nat) : Bool :=
  s.defined x && ((s.obj x).blocked || (s.unprobed x && s.rd (F.PFB_PEXP_POLICY (s.entryTerm x)) == 0))

/-- Nothing may drive the object: it is blocked, or not yet probed since power-on (R113, R143, DEDUCED, assumption 115). -/
def State.barred (s : State) (x : Nat) : Bool := (s.obj x).blocked || s.unprobed x

/-- The ownership kind and index of an object (R69, R399). -/
def objKind (x : Nat) : Nat := if isCell x then kTerm else if isGang x then kGang else kBrg
def objIdx (x : Nat) : Nat := if isCell x then x else if isGang x then x - 512 else x - 576
def State.objOwner (s : State) (x : Nat) : Nat := s.ownerOf (objKind x) (objIdx x)

/-- A range of terminals names them with the gangs and bridges that switch them (R61). -/
def State.termKeys (s : State) (first count : Nat) : List Nat :=
  spanKeys kTerm first count ++ (((List.range (min 512 count)).map (fun i => s.topOf (first + i))).filter (fun x => !isCell x)).map (fun x => okey (objKind x) (objIdx x))
/-- A command that names a range of terminals: first in 2 bytes at `o`, count in the 2 bytes after it. -/
def rangeKeys (o : Nat) (c : Cmd) (s : State) : List Nat := s.termKeys (c.arg o 2) (c.arg (o + 2) 2)

/-! ## Configuration of an object -/

/-- The gang whose CFG0 gives RETRIES, RETRY_DLY and OC_BLANK: leg A for a bridge (R134). -/
def State.protFld (s : State) (x : Nat) (fc : Nat → Fld) (fg : Nat → Fld) : Nat :=
  if isCell x then s.rd (fc x) else if isGang x then s.rd (fg (x - 512)) else s.rd (fg (s.legA (x - 576)))

def State.retriesOf (s : State) (x : Nat) : Nat := s.protFld x F.PFB_CELL_CFG0_RETRIES F.PFB_GANG_CFG0_RETRIES
/-- RETRY_DLY, (code + 1) × 10 ms (R93). -/
def State.retryDly (s : State) (x : Nat) : Nat := ms (10 * (s.protFld x F.PFB_CELL_CFG0_RETRY_DLY F.PFB_GANG_CFG0_RETRY_DLY + 1))
/-- OC_BLANK, 0.1 ms × 2^code (R92). -/
def State.ocBlank (s : State) (x : Nat) : Nat := us (100 * 2 ^ s.protFld x F.PFB_CELL_CFG0_OC_BLANK F.PFB_GANG_CFG0_OC_BLANK)
/-- TURNOFF is FREEWHEEL for a cell or gang (R89). -/
def State.freewheels (s : State) (x : Nat) : Bool :=
  if isCell x then s.rdb (F.PFB_CELL_CFG0_TURNOFF x) else s.rdb (F.PFB_GANG_CFG0_TURNOFF (x - 512))
/-- FW_MAX in ms (R89). -/
def State.fwMax (s : State) (x : Nat) : Nat :=
  ms (if isCell x then s.rd (F.PFB_CELL_CFG2_FW_MAX x) else s.rd (F.PFB_GANG_CFG1_FW_MAX (x - 512)))
def State.dispOf (s : State) (x : Nat) : Nat :=
  if isCell x then s.rd (F.PFB_CELL_CFG1_DISP x) else if isGang x then s.rd (F.PFB_GANG_CFG1_DISP (x - 512))
  else s.rd (F.PFB_BRG_CFG1_DISP (x - 576))
def State.safeOf (s : State) (x : Nat) : Nat :=
  if isCell x then s.rd (F.PFB_CELL_CFG1_SAFE_ST x) else if isGang x then s.rd (F.PFB_GANG_CFG1_SAFE_ST (x - 512))
  else s.rd (F.PFB_BRG_CFG1_SAFE_ST (x - 576))
def State.holdMs (s : State) (x : Nat) : Nat :=
  if isCell x then s.rd (F.PFB_CELL_CFG1_HOLD_MS x) else if isGang x then s.rd (F.PFB_GANG_CFG1_HOLD_MS (x - 512))
  else s.rd (F.PFB_BRG_CFG1_HOLD_MS (x - 576))
/-- DRIVER: 0 mailbox, 1 cycle engine, 2 bridge member (R134, R138). -/
def State.driverOf (s : State) (x : Nat) : Nat :=
  if isCell x then s.rd (F.PFB_CELL_CFG1_DRIVER x)
  else if isGang x then (if (s.brgOf (x - 512)).isSome then 2 else s.rd (F.PFB_GANG_CFG1_DRIVER (x - 512)))
  else s.rd (F.PFB_BRG_CFG1_DRIVER (x - 576))
def State.fastEn (s : State) (x : Nat) : Bool := isGang x && s.rdb (F.PFB_GANG_CFG1_FAST_EN (x - 512)) && (s.driverOf x == 0)

/-! ## States -/

/-- The leg state of a bridge state (R135); leg 0 is A. -/
def legState (st leg : Nat) : Nat :=
  match st with
  | 0 => 0
  | 1 => if leg = 0 then 1 else 2
  | 2 => if leg = 0 then 2 else 1
  | 3 => 2
  | 4 => 1
  | 5 => 5
  | 6 => 6
  | _ => 4

/-- The PROBE state's code for an object (R83, R135). -/
def probeSt (x : Nat) : Nat := if isBrg x then 7 else 4

/-- Some cell of the object conducts by its state. -/
def onState (x st : Nat) : Bool := if isBrg x then decide (1 ≤ st) && decide (st ≤ 4) else st == 1 || st == 2

/-- The state, CMD and cause that a gang shows: its own, or its leg's of the bridge (R134). -/
def State.gangView (s : State) (g : Nat) : Obj :=
  match s.brgOf g with
  | none => s.obj (xGang g)
  | some h =>
    let o := s.obj (xBrg h)
    let leg := if s.legA h = g then 0 else 1
    { o with st := legState o.st leg, cmd := legState o.cmd leg }

/-- The state, CMD and cause that a cell shows: its own, or its gang's (R125). -/
def State.cellView (s : State) (n : Nat) : Obj :=
  match s.gangOf n with
  | none => s.obj n
  | some g => s.gangView g

/-- Every bank of the object is aligned (R127). -/
def State.objAligned (s : State) (x : Nat) : Bool := (s.banksOf x).all (fun k => s.aligned (10 + k))
/-- A bank of the object is lost (R132). -/
def State.objLost (s : State) (x : Nat) : Bool := (s.banksOf x).any (fun k => s.bankLost k)

/-- Raise the event interrupts of an object: its gang's or bridge's source, and its cells' banks (R115, R146). -/
def State.evtIrq (s : State) (x : Nat) : State :=
  let s := if isGang x then s.trig (576 + (x - 512)) else if isBrg x then
    (((s.trig (672 + (x - 576))).trig (576 + s.legA (x - 576))).trig (576 + s.legB (x - 576))) else s
  foldS (s.banksOf x) (fun k s => s.trig (640 + k)) s

/-- Count an occurrence in EVT and raise its sources (PFB_TSn_A). -/
def State.bumpEvt (s : State) (x : Nat) : State := (s.modObj x (fun o => { o with evt := (o.evt + 1) % 256 })).evtIrq x

/-! ## Output transitions -/

/-- Whether a change of a bridge takes a leg from one on state to the other (R136). -/
def brgCross (a b : Nat) : Bool :=
  (legState a 0 + legState b 0 == 3 && legState a 0 != 0 && legState b 0 != 0) ||
  (legState a 1 + legState b 1 == 3 && legState a 1 != 0 && legState b 1 != 0)

/-- The dwell state of a bridge: BRAKE_LOW or COAST (R136). -/
def State.dwellSt (s : State) (h : Nat) : Nat := if s.rd (F.PFB_BRG_CFG0_DWELL_ST h) = 1 then 0 else 3

/-- A leg that a bridge turns off starts a freewheel after its dead time where TURNOFF asks for it (R89, R134). -/
def State.legWheel (s : State) (g fromSt toSt : Nat) : State :=
  if (fromSt = 1 ∨ fromSt = 2) ∧ toSt = 0 ∧ s.freewheels (xGang g) = true then s.modObj (xGang g) (fun o => { o with wheel := .dead (s.fwMax (xGang g)) })
  else if toSt = 1 ∨ toSt = 2 then s.modObj (xGang g) (fun o => { o with wheel := .none })
  else s

/-- A freewheel waits or runs in a gang. -/
def State.gangWheel (s : State) (g : Nat) : Bool := (s.obj (xGang g)).wheel != .none

/-- A freewheel waits or runs in an object, in a bridge in either leg. -/
def State.wheelOn (s : State) (x : Nat) : Bool :=
  if isBrg x then s.gangWheel (s.legA (x - 576)) || s.gangWheel (s.legB (x - 576)) else (s.obj x).wheel != .none

/-- A leg that changes has an edge: SHARE_WARN and the stop of its comparison clear (R129, R136). -/
def State.legEdge (s : State) (g fromSt toSt : Nat) : State :=
  if fromSt = toSt then s else s.modObj (xGang g) (fun o => { o with shareWarn := false, shareStop := false })

/-- A leg turns on from a freewheel, so through its dead time (R90). -/
def State.legFromWheel (s : State) (g toSt : Nat) : Bool := (toSt == 1 || toSt == 2) && s.gangWheel g

/-- Start the output transition of a bridge to a state, through no dwell (R136). -/
def State.moveBrg (s : State) (x to_ : Nat) : State :=
  let h := x - 576
  let st := (s.obj x).st
  let dead := brgCross st to_ || s.legFromWheel (s.legA h) (legState to_ 0) || s.legFromWheel (s.legB h) (legState to_ 1)
  let s := s.legWheel (s.legA h) (legState st 0) (legState to_ 0)
  let s := s.legWheel (s.legB h) (legState st 1) (legState to_ 1)
  let s := (s.legEdge (s.legA h) (legState st 0) (legState to_ 0)).legEdge (s.legB h) (legState st 1) (legState to_ 1)
  s.modObj x (fun o => { o with trans := some { target := to_, dead := dead } })

/-- An object reads a state from now on; a cell that enters INPUT starts its input filter anew (R108). A first sample between the
thresholds has no sample before it to repeat: it counts as low (R107, DESIGN CHOICE, assumption 149). -/
def State.toSt (s : State) (x st : Nat) : State :=
  let s : State := if isCell x && st == 3 && (s.obj x).st != 3 then
      { s with fab.meas := s.fab.meas.set x { s.meas x with level := false, last := false, run := 0, settle := 0 } } else s
  s.modObj x (fun o => { o with st := st })

/-- An edge of an object whose outputs were off ends without a clamp event: CLAMP_WARN of its terminals clears and it reads a state
(R98). -/
def State.quietEdge (s : State) (x st : Nat) : State :=
  (foldS (s.members x) (fun n s => s.modObj n (fun o => { o with clamp := false })) s).toSt x st

/-- Start the output transition of a cell or gang (R86, R87, R89, R90): OFF leaves a running freewheel alone, INPUT ends it with the
turn-off of the freewheeling switch. -/
def State.moveCell (s : State) (x to_ : Nat) : State :=
  let o := s.obj x
  if o.st = to_ ∧ o.wheel = .none then s
  else if to_ = 1 ∨ to_ = 2 then
    s.setObj x { o with trans := some { target := to_, dead := (o.st == 1 || o.st == 2 || o.wheel != .none) }, wheel := .none,
                        shareWarn := false, shareStop := false }
  else if o.st = 1 ∨ o.st = 2 ∨ (to_ = 3 ∧ o.wheel ≠ .none) then
    s.setObj x { o with trans := some { target := to_, dead := false }, wheel := if to_ = 0 ∧ s.freewheels x = true then .dead (s.fwMax x) else .none,
                        shareWarn := false, shareStop := false }
  else if o.wheel ≠ .none then s
  else s.quietEdge x to_

/-- An action or state that turns the output of an object on. -/
def onCmd (x a : Nat) : Bool := if isBrg x then decide (1 ≤ a) && decide (a ≤ 4) else a == 1 || a == 2

/-- Stop every transition, freewheel and regulation of an object in CLAMP fashion (R90). -/
def Obj.cut (o : Obj) : Obj :=
  { o with trans := none, wheel := .none, regEnds := [], retryEnd := none, condFrom := none, lates := [], dwell := none,
           heldEdges := o.heldEdges.filter (fun e => e.kind != .retry && e.kind != .restart && e.kind != .dwell) }

/-- The freewheels of a bridge's legs end with it. -/
def State.cutLegs (s : State) (x : Nat) : State :=
  if isBrg x then
    (s.modObj (xGang (s.legA (x - 576))) (fun o => { o with wheel := .none })).modObj (xGang (s.legB (x - 576))) (fun o => { o with wheel := .none })
  else s

/-- DWELLING: the dwell counts, from the end of the dead time or of the later turn-off, or the change after it completes (R136). -/
def Obj.dwellShown (o : Obj) : Bool := match o.dwell with | some d => d.final || d.until_.isSome | none => false

/-- A dwell is in progress whose change has not begun to complete. -/
def Obj.dwelling (o : Obj) : Bool := match o.dwell with | some d => !d.final | none => false

/-- Enter UV_OFF (R96, R137). -/
def State.enterUv (s : State) (x : Nat) : State :=
  ((s.cutLegs x).modObj x (fun o => { o.cut with st := 5, cause := 4, dwellRestart := o.dwelling })).bumpEvt x

/-- The feed of an object is below UV_OFF. -/
def State.uvNow (s : State) (x : Nat) : Bool := s.rdb (F.PFB_FEED_STAT_UV (s.feedOf x))

/-- A change between FORWARD and REVERSE that passes the dwell state (R136). -/
def State.reverses (s : State) (x to_ : Nat) : Bool :=
  let st := (s.obj x).st
  isBrg x && (st + to_ == 3) && (st != 0) && (to_ != 0) && (s.rd (F.PFB_BRG_CFG0_REV_DWELL (x - 576)) != 0)

/-- The dwell of a reversal that starts now. -/
def State.newDwell (s : State) (x to_ : Nat) (until_ : Option Nat) : Dwell :=
  { target := to_, until_ := until_, dur := ms (s.rd (F.PFB_BRG_CFG0_REV_DWELL (x - 576))) }

/-- Drive an object's output to a state: one that would turn on below UV_OFF is in UV_OFF (R83, R96). -/
def State.moveDirect (s : State) (x to_ : Nat) : State :=
  if onCmd x to_ && s.uvNow x then s.enterUv x
  else if isBrg x then (if (s.obj x).st = to_ then s else s.moveBrg x to_)
  else s.moveCell x to_

/-- Drive an object's output to a commanded state; a reversal of a bridge passes its dwell state (R136). -/
def State.move (s : State) (x to_ : Nat) : State :=
  if s.reverses x to_ && !s.uvNow x then
    (s.modObj x (fun o => { o with dwell := some (s.newDwell x to_ none) })).moveBrg x (s.dwellSt (x - 576))
  else s.moveDirect x to_

/-- A retry waits: for RETRY_DLY, or for alignment (R93, R127). -/
def Obj.retryWait (o : Obj) : Bool := o.retryEnd.isSome || o.heldEdges.any (fun e => e.kind == .retry)

/-- Where the output of an object belongs: at OFF while the probe bars it (R113, R143), at SAFE_ST while a bank is lost (R114,
R132), at OFF while shed (R168), else at CMD. -/
def State.goal (s : State) (x : Nat) : Nat :=
  if s.barred x then 0 else if s.objLost x then s.safeOf x else if (s.obj x).shed then 0 else (s.obj x).cmd

/-- Drive the output where it belongs, a bridge without a dwell (R137). -/
def State.toGoal (s : State) (x : Nat) : State := s.moveDirect x (s.goal x)

/-- Nothing holds the output of an object and nothing of it is under way. -/
def Obj.idle (o : Obj) : Bool :=
  o.st != 5 && o.st != 6 && !o.probing && !o.retryWait && o.trans.isNone && o.dwell.isNone && o.lates.isEmpty

/-- CMD takes a new value, from a disposition where `disp` holds: a command to OFF or INPUT zeroes RETRY, a disposition leaves it; a
safe state that waits for a freewheel's end is superseded (R84, R93, R100, R111, R112, R129, R168). -/
def State.takeCmd (s : State) (disp : Bool) (x a : Nat) : State :=
  let lost := s.objLost x
  s.modObj x (fun o => { o with cmd := a, retry := (if !disp && (a == 0 || (a == 3 && !isBrg x)) then 0 else o.retry), shareWarn := false,
                                shareStop := false, shed := (if a = 0 then false else o.shed),
                                lates := if lost then o.lates else o.lates.filter (fun e => e.kind != .safe) })

/-- A command or disposition that sets CMD ends a deferred safe state and the end of a hold window that wait (R111, R112). -/
def State.dropSafe (s : State) (x : Nat) : State :=
  s.modObj x (fun o => { o with wantSafe := none, ints := o.ints.filter (fun e => e.kind != .safe),
                                heldEdges := o.heldEdges.filter (fun e => e.kind != .safe && e.kind != .window) })

/-- An edge that falls due during a transition starts when that ends (R88). -/
def State.lateFor (s : State) (x a : Nat) : State :=
  s.modObj x (fun o => { o with lates := o.lates ++ [{ at_ := s.now, action := a, kind := .mailbox }] })

/-- The output starts towards a new CMD now (R88): LATE_EDGE follows this edge. -/
def State.startEdge (s : State) (x a : Nat) (late : Bool) : State := (s.modObj x (fun o => { o with lateEdge := late })).move x a

/-- The output follows a new CMD as the object's state lets it (R88, R93, R97, R99, R100, R136, R137, R168); a disposition overrides
neither UV_OFF nor the retry wait (R112). -/
def State.follow (s : State) (disp : Bool) (x a : Nat) (late : Bool) : State :=
  let o := s.obj x
  let off := !disp && (a == 0 || (a == 3 && !isBrg x))
  if o.st = 6 ∨ o.probing = true ∨ s.objLost x = true then s
  else if o.st = 5 then (if off then (s.modObj x (fun o => { o with dwellRestart := false, lateEdge := late })).quietEdge x a else s)
  else if o.retryWait then
    (if off then (s.modObj x (fun o => { o with retryEnd := none, lateEdge := late, heldEdges := o.heldEdges.filter (fun e => e.kind != .retry) })).quietEdge x a
     else s)
  else if o.shed then s
  else if o.dwelling ∧ (a = 1 ∨ a = 2) then s.modObj x (fun o => { o with dwell := o.dwell.map (fun d => { d with target := a }) })
  else
    let s := if o.dwelling then s.modObj x (fun o => { o with dwell := none, heldEdges := o.heldEdges.filter (fun e => e.kind != .dwell) }) else s
    if o.trans.isSome then s.lateFor x a else s.startEdge x a late

/-- CMD takes the value of an edge, and the output follows; an edge to the present CMD changes nothing, but for an output that a
granted command turns on again after shedding (R88, R168). -/
def State.setBy (s : State) (disp : Bool) (x a : Nat) (late : Bool) : State :=
  let s := s.dropSafe x
  if a = (s.obj x).cmd then (if (s.obj x).idle then s.toGoal x else s) else (s.takeCmd disp x a).follow disp x a late

/-- CMD takes the value of a commanded edge. -/
def State.setCmd (s : State) (x a : Nat) (late : Bool) : State := s.setBy false x a late

/-- CMD takes the value of a disposition or safe state (R112): a running freewheel goes on to its end before the output turns on
(R100), and a dwell ends, a reversing safe state passing through a new one, also where it equals CMD (R137). -/
def State.dispCmd (s : State) (x a : Nat) : State :=
  let o := s.obj x
  if o.dwelling ∧ (a = 1 ∨ a = 2) then
    ((s.dropSafe x).takeCmd true x a).modObj x (fun o => { o with dwell := some (s.newDwell x a
      (if o.trans.isSome then none else some (s.now + ms (s.rd (F.PFB_BRG_CFG0_REV_DWELL (x - 576)))))) })
  else if a ≠ o.cmd ∧ onCmd x a ∧ s.wheelOn x = true ∧ o.st = 0 ∧ o.idle = true ∧ o.shed = false ∧ s.objLost x = false then
    ((s.dropSafe x).takeCmd true x a).modObj x (fun o => { o with lates := o.lates ++ [{ at_ := s.now, action := a, kind := .safe }] })
  else s.setBy true x a false

/-! ## Protections -/

/-- TRIP_TERM of the terminal's gang names the terminal of a trip or latch (R130). -/
def State.noteTrip (s : State) (x term : Nat) : State :=
  let s := s.modObj x (fun o => { o with tripAt := some s.now })
  match s.gangOf term with
  | some g => s.modObj (xGang g) (fun o => { o with tripTerm := term })
  | none => s

/-- A further member trips at the instant of the object's trip: TRIP_TERM names the lowest (R130). -/
def State.sameTrip (s : State) (x term : Nat) : State :=
  match s.gangOf term with
  | some g => if (s.obj x).tripAt = some s.now ∧ term < (s.obj (xGang g)).tripTerm then s.modObj (xGang g) (fun o => { o with tripTerm := term }) else s
  | none => s

/-- Enter LATCHED with a cause (R94, R95, R130). -/
def State.latch (s : State) (x cause term : Nat) : State :=
  let s := (s.noteTrip x term).cutLegs x
  (s.modObj x (fun o => { o.cut with st := 6, cause := cause, probing := false, dwellRestart := false })).bumpEvt x

/-- A trip: the retry wait, or LATCHED where RETRY has reached RETRIES (R91–R93, R130, R137). With CMD OFF (a freewheel) or
INPUT the object is in the retry wait as well, but no retry follows and RETRY returns to 0 (R84, R100). -/
def State.trip (s : State) (x cause term : Nat) : State :=
  let o := s.obj x
  if o.cmd = 0 ∨ (o.cmd = 3 ∧ isBrg x = false) then
    (((s.noteTrip x term).cutLegs x).modObj x (fun o => { o.cut with st := 0, retry := 0, retryEnd := some (s.now + s.retryDly x), cause := cause })).bumpEvt x
  else if s.retriesOf x ≤ o.retry then s.latch x cause term
  else
    (((s.noteTrip x term).cutLegs x).modObj x (fun o => { o.cut with st := 0, retry := o.retry + 1, retryEnd := some (s.now + s.retryDly x), cause := cause })).bumpEvt x

/-- An object that is on, moves or waits for a retry enters UV_OFF; an input shows the under-voltage (R96, R137). -/
def State.uvOff (s : State) (x : Nat) : State :=
  let o := s.obj x
  if o.st = 6 ∨ o.probing = true ∨ o.st = 5 then s
  else if onCmd x (s.goal x) && (onState x o.st || o.retryWait || o.trans.isSome || o.dwell.isSome) then s.enterUv x
  else if isCell x && s.goal x == 3 && (o.st == 3 || o.trans.isSome) then
    let s := (s.modObj x (fun o => { (if o.trans.isSome then o.cut else o) with cause := 4 })).toSt x 3
    if o.cause = 0 then s.bumpEvt x else s
  else s

/-! ## Lost banks -/

/-- The object's output takes its safe state while its bank is lost (R114, R132); its protections stay above it (R99). -/
def State.lostSafe (s : State) (x : Nat) : State :=
  let o := s.obj x
  let s := s.modObj x (fun o => { o with lates := [], dwell := none, probing := false, st := (if o.st = probeSt x then 0 else o.st) })
  let s := if o.cause = 0 then (s.modObj x (fun o => { o with cause := 9 })).bumpEvt x else s
  if o.st = 6 ∨ o.st = 5 ∨ o.retryWait = true then s
  else if o.trans.isSome then s.modObj x (fun o => { o with lates := [{ at_ := s.now, action := s.goal x, kind := .safe }] })
  else s.toGoal x

/-! ## The status words of cells, gangs and bridges -/

/-- SENSE of a cell (R102, R103), rounded down to its 1.25 mA steps (DESIGN CHOICE, assumption 116). -/
def senseOf (m : Meas) (cause : Nat) : Nat :=
  if cause ≠ 0 then 0xFFF
  else if m.mA.natAbs > 5000 then 0xFFE
  else min 0xFA0 (m.mA.natAbs * 4 / 5)

/-- A voltage code of R105, rounded down to its 15 mV steps (DESIGN CHOICE, assumption 116). -/
def voltCode (mV : Int) : Nat := if mV < 0 ∨ mV > 60000 then 0xFFE else mV.toNat / 15

/-- The cause that a cell reports: its object's, a lost bank, a failed reference check or an off-state diagnosis
(R103, R104). -/
def State.causeOf (s : State) (n : Nat) : Nat :=
  let v := s.cellView n
  if s.bankLost (n / 16) || s.objLost (s.topOf n) then 9
  else if v.cause ≠ 0 then v.cause
  else if (s.meas n).chkFail then 7
  else (s.meas n).ol

/-- Word A of a terminal (PFB_TSn_A). -/
def State.wordA (s : State) (n : Nat) : Word :=
  let v := s.cellView n
  let m := s.meas n
  let c := s.causeOf n
  let evt := (v.evt + (if s.gangOf n = none then 0 else (s.obj n).evt)) % 256
  BitVec.ofNat 32 (v.st * 2 ^ 26 + b2n (decide (m.mA < 0)) * 2 ^ 25 + evt * 2 ^ 16 + c * 2 ^ 12 + senseOf m c)

/-- Word B of a terminal (PFB_TSn_B). -/
def State.wordB (s : State) (n : Nat) : Word :=
  let v := s.cellView n
  let m := s.meas n
  let c := s.causeOf n
  let settling := v.st == 3 && decide (m.settle ≤ m.filt)
  BitVec.ofNat 32 (v.retry * 2 ^ 28 + v.cmd * 2 ^ 26 + b2n (v.st == 3 && m.level) * 2 ^ 25 + b2n v.holdEnd.isSome * 2 ^ 24 +
    b2n (s.obj n).clamp * 2 ^ 23 + b2n v.lateEdge * 2 ^ 22 + b2n m.unaligned * 2 ^ 21 + b2n settling * 2 ^ 20 +
    min 255 (m.tj + 50).toNat * 2 ^ 12 + (if c = 7 ∨ c = 9 then 0xFFF else voltCode m.mV))

/-- PFB_GANGg_STAT. -/
def State.gangStat (s : State) (g : Nat) : Nat :=
  let v := s.gangView g
  let o := s.obj (xGang g)
  v.st * 2 ^ 29 + v.cmd * 2 ^ 27 + b2n v.holdEnd.isSome * 2 ^ 26 + b2n o.shareWarn * 2 ^ 25 + b2n v.lateEdge * 2 ^ 24 +
  b2n (s.isBlocked (s.topOf (xGang g))) * 2 ^ 23 + b2n ((s.gangMembers g).any (fun n => (s.obj n).clamp)) * 2 ^ 22 +
  (if s.objLost (s.topOf (xGang g)) then 9 else v.cause) * 2 ^ 18 + v.retry * 2 ^ 14 + v.edges.length * 2 ^ 10 + v.evt

/-- PFB_GANGg_ISUM, the sum rounded towards 0 to its 10 mA units (DESIGN CHOICE, assumption 116). -/
def State.gangIsum (s : State) (g : Nat) : Nat :=
  let sum : Int := (s.gangMembers g).foldl (fun a n => a + (s.meas n).mA) 0
  (s.obj (xGang g)).tripTerm * 2 ^ 23 + b2n (decide (sum < 0)) * 2 ^ 15 + min 0x7FFF (sum.natAbs / 10)

/-- PFB_BRGh_STAT. -/
def State.brgStat (s : State) (h : Nat) : Nat :=
  let o := s.obj (xBrg h)
  o.st * 2 ^ 29 + o.cmd * 2 ^ 26 + b2n o.holdEnd.isSome * 2 ^ 25 + b2n o.dwellShown * 2 ^ 24 + b2n o.lateEdge * 2 ^ 23 +
  b2n (s.isBlocked (xBrg h)) * 2 ^ 22 + (if s.objLost (xBrg h) then 9 else o.cause) * 2 ^ 18 + o.retry * 2 ^ 14 + o.edges.length * 2 ^ 10 + o.evt

/-- The newest terminal status page's grid instant (R115). -/
def State.pageStamp (s : State) : Nat := if s.rd F.PFB_TS_SEL_PAGE = 0 then s.fab.stamp0 else s.fab.stamp1
/-- Words A and B of a terminal in a page. -/
def State.pageWords (s : State) (p n : Nat) : Word × Word := (if p = 0 then s.fab.page0 else s.fab.page1).getD n (0, 0)

end Sys2Proof.Machine
end

