-- ==== Sys2Proof/Machine/Governor.lean ====
section
/-!
DEFINITION. Machine/Governor.lean: charges, heat, admission, shedding and restoration (R160–R170), and the acceptance of
a driving command by the governor (R118, R148, R167).
-/
namespace Sys2Proof.Machine

/-! ## Charges (R160–R162) -/

/-- The wetting current of a cell in mA (WET, as the last grid instant applied it). -/
def State.wetMA (s : State) (n : Nat) : Nat := ([0, 1, 2, 5, 10] : List Nat).getD (s.meas n).wet 0

def State.iDecl (s : State) (x : Nat) : Nat := s.rd (F.PFB_BUD_I_DECL x)
def State.classOf (s : State) (x : Nat) : Nat := s.rd (F.PFB_BUD_CLASS x)

/-- The charge that a commanded action requires (R160). -/
def State.chargeFor (s : State) (x a : Nat) : Nat :=
  if a = 0 then 0 else if isCell x ∧ a = 3 then s.wetMA x else s.iDecl x

/-- A pending edge of the governor's kind. -/
def Obj.hasInt (o : Obj) (k : EdgeKind) : Bool := o.ints.any (fun e => e.kind == k)

/-- The charge an object holds (R161, R162, R168): the largest its CMD and queued edges, held ones among them, require; none while it is shed, but
for a standing charge. -/
def State.charge (s : State) (x : Nat) : Nat :=
  let o := s.obj x
  if o.standing then s.iDecl x
  else if o.shed && !o.hasInt .restore then 0
  else (o.edges ++ o.lates ++ o.heldEdges ++ o.ints.filter (fun e => e.kind == .safe)).foldl (fun m e => max m (s.chargeFor x e.action)) (s.chargeFor x o.cmd)

/-- The sum of charges on a feed, mA. -/
def State.usedF (s : State) (f : Nat) : Nat := (s.topsOf f).foldl (fun a x => a + s.charge x) 0
/-- The sum of a holder's charges, mA. -/
def State.usedH (s : State) (v : Nat) : Nat := (s.tops.filter (fun x => s.objOwner x == v)).foldl (fun a x => a + s.charge x) 0
def State.allot (s : State) (v : Nat) : Nat := s.rd (F.PFB_ALLOT_ALLOT v)
def State.feedLimit (s : State) (f : Nat) : Nat := 1000 * s.rd (F.PFB_FEED_CFG0_FEED_LIMIT f)

/-! ## Heat (R165, R166) -/

/-- The mean of the first `n` values of a list, 0 for none. -/
def meanOf (n : Nat) (l : List Nat) : Nat := let k := l.take n; if k.length = 0 then 0 else k.foldl (· + ·) 0 / k.length

/-- P_ELEC as its 1 s mean, mW. -/
def State.pElec (s : State) : Nat := meanOf 4000 (s.fab.hist.map (fun p => p.1))
/-- P_DIST at the latest grid instant, mW. -/
def State.pDist (s : State) : Nat := (s.fab.hist.map (fun p => p.2)).getD 0 0

/-- HEAT_LIM in 0.1 W: the smaller of HEAT_MAX, within its bound, and the derated limit (R165). -/
def State.heatLim (s : State) : Nat :=
  min (min (s.rd F.PFB_HEAT_CFG_HEAT_MAX) (if s.rdb F.PFB_HEAT_CFG_COLD_PLATE then 600 else 250)) (s.rd F.PFB_THERM_DERATED)

/-- The maximum on-resistance of a switch in µΩ at a junction temperature (R85, R165). -/
def rOn (high : Bool) (tj : Int) : Nat :=
  let d : Int := if tj < 25 then 0 else tj - 25
  if high then (19000 + 88 * d).toNat else (24000 + 64 * d).toNat

/-- Whether a cell conducts, and through its high side: by its state, or by the freewheeling switch (R165). -/
def State.conducts (s : State) (n : Nat) : Option Bool :=
  let v := s.cellView n
  let w := match s.gangOf n with | none => (s.obj n).wheel | some g => (s.obj (xGang g)).wheel
  match w with
  | .run _ => some (decide ((s.meas n).mA < 0))
  | _ => if v.st = 1 then some true else if v.st = 2 then some false else none

/-- The loss of a cell now, pW: I² × R_on (R165). -/
def State.cellLoss (s : State) (n : Nat) : Nat :=
  match s.conducts n with
  | some high => (s.meas n).mA.natAbs ^ 2 * rOn high (s.meas n).tj
  | none => 0

/-- An object's share of P_DIST now, mW (R166). -/
def State.heatOf (s : State) (x : Nat) : Nat := (s.members x).foldl (fun a n => a + s.cellLoss n) 0 / 10 ^ 9

/-- The heat rise of a charge rise `d` (mA) for an action, mW (R166): the object's switches and the busbar term. -/
def State.heatRise (s : State) (x a d : Nat) : Nat :=
  let i := (s.fab.feeds.get {} (s.feedOf x)).mA.natAbs
  let bus := ((i + d) ^ 2 - i ^ 2) / 5
  let sw :=
    if isBrg x then
      let na := max 1 (s.gangMembers (s.legA (x - 576))).length
      let nb := max 1 (s.gangMembers (s.legB (x - 576))).length
      d ^ 2 * 30 / na + d ^ 2 * 32 / nb
    else d ^ 2 * (if a = 2 then 32 else 30) / max 1 (s.members x).length
  (sw + bus) / 10 ^ 6

/-! ## Admission (R166) -/

/-- Insert a victim candidate: the most recently admitted first, then the higher index. -/
def State.insNewest (s : State) (x : Nat) : List Nat → List Nat
  | [] => [x]
  | y :: l =>
    let p := s.obj x
    let q := s.obj y
    if q.admAt < p.admAt ∨ (q.admAt = p.admAt ∧ y < x) then x :: y :: l else y :: s.insNewest x l

/-- The objects of a class that hold a charge and are not shed, newest first. -/
def State.chargedUnshed (s : State) (cls : Nat) : List Nat :=
  (s.tops.filter (fun x => (s.classOf x == cls) && decide (0 < s.charge x) && !(s.obj x).shed && !(s.obj x).hasInt .shed)).foldl
    (fun l x => s.insNewest x l) []

/-- The candidates of the classes strictly below `cls`, C first (R166). -/
def State.candidates (s : State) (cls : Nat) : List Nat :=
  (([3, 2, 1] : List Nat).filter (fun c => decide (cls < c))).flatMap (fun c => s.chargedUnshed c)

/-- Take victims while a need remains, each only where it reduces one (R166). -/
def State.victims (s : State) (f : Nat) : List Nat → Int → Int → List Nat → Int × Int × List Nat
  | [], nf, nh, v => (nf, nh, v)
  | x :: l, nf, nh, v =>
    if nf ≤ 0 ∧ nh ≤ 0 then (nf, nh, v)
    else
      let helpsF := decide (nf > 0) && (s.feedOf x == f) && !(s.obj x).standing
      let helpsH := decide (nh > 0)
      if !helpsF && !helpsH then s.victims f l nf nh v
      else s.victims f l (if helpsF then nf - s.charge x else nf) (nh - s.heatOf x) (v ++ [x])

/-- The result of admission (R166, R167). -/
inductive Adm where
  | denyAllot
  | short
  | grant (victims : List Nat)
deriving DecidableEq, Repr

/-- Admission of a rise `d` for an action of an object (R166), with `extra` mW of heat on top of the present heat (the
objects before it in a group, R204). A feed that has restored in the present governor cycle does not shed in it (R170). -/
def State.admitWith (s : State) (extra : Int) (x a d : Nat) (checkAllot : Bool) : Adm :=
  let f := s.feedOf x
  let v := s.objOwner x
  if checkAllot && decide (s.allot v < s.usedH v + d) then .denyAllot
  else if s.rdb (F.PFB_FEED_STAT_OV f) then .short
  else
    let nf : Int := (s.usedF f + d : Nat) - (s.feedLimit f : Nat)
    let nh : Int := (s.pElec + s.pDist + s.heatRise x a d : Nat) + extra - (100 * s.heatLim : Nat)
    let r := s.victims f (s.candidates (s.classOf x)) nf nh []
    if r.1 > 0 ∨ r.2.1 > 0 ∨ r.2.2.any (fun y => s.fab.restFeeds.contains (s.feedOf y)) = true then .short else .grant r.2.2

/-- Admission of a rise `d` for an action of an object (R166). -/
def State.admission (s : State) (x a d : Nat) (checkAllot : Bool) : Adm := s.admitWith 0 x a d checkAllot

/-- The rise in charge that an action needs (R161). -/
def State.rise (s : State) (x a : Nat) : Nat := s.chargeFor x a - s.charge x

/-! ## Shedding (R168) -/

/-- Insert an edge by instant; an edge of the same instant is replaced (R139). -/
def insEdge (e : Edge) : List Edge → List Edge
  | [] => [e]
  | d :: l => if e.at_ < d.at_ then e :: d :: l else if e.at_ = d.at_ then e :: l else d :: insEdge e l

/-- Place a shedding edge for an object. -/
def State.shedEdge (s : State) (at_ x : Nat) : State :=
  let s := s.modObj x (fun o => { o with ints := o.ints ++ [{ at_ := at_, action := 0, kind := .shed }] })
  { s with fab.shedFeeds := s.feedOf x :: s.fab.shedFeeds }

/-- Place the shedding edges of victims. -/
def State.shedAll (s : State) (at_ : Nat) (v : List Nat) : State := foldS v (fun x s => s.shedEdge at_ x) s

/-- The shedding edge of an object: its output turns off, at once or when its transition ends, CMD is kept, SHED is set and the
fault raised (R88, R168). -/
def State.doShed (s : State) (x : Nat) : State :=
  let o := s.obj x
  let s := s.modObj x (fun o => { o with shed := true, shedSeq := s.fab.shedCount, restFrom := none })
  let s := { s with fab.shedCount := s.fab.shedCount + 1 }
  let s := if o.st = 6 ∨ o.probing = true ∨ s.objLost x = true then s
    else if o.st = 5 ∨ o.retryWait = true then
      s.modObj x (fun o => { o with st := 0, retryEnd := none, heldEdges := o.heldEdges.filter (fun e => e.kind != .retry && e.kind != .restart) })
    else
      let s := s.modObj x (fun o => { o with dwell := none, lates := [], heldEdges := o.heldEdges.filter (fun e => e.kind != .dwell) })
      if o.trans.isSome then s.modObj x (fun o => { o with lates := [{ at_ := s.now, action := 0, kind := .shed }] }) else s.move x 0
  s.ownFault 0x0301 .corrected (s.objOwner x) x 0

/-- The restoring edge of an object (R170). -/
def State.doRestore (s : State) (x : Nat) : State :=
  let s := s.modObj x (fun o => { o with shed := false, restFrom := none })
  if (s.obj x).idle then s.toGoal x else s

/-- The next victim of measured shedding, from every class but S, on a feed or anywhere (R169). -/
def State.nextVictim (s : State) (f : Option Nat) : Option Nat :=
  (s.candidates 0).find? (fun x => match f with | some f => s.feedOf x == f | none => true)

/-- Shed one more victim of measured shedding now. -/
def State.shedOne (s : State) (f : Option Nat) : State :=
  match s.nextVictim f with
  | some x => s.shedEdge s.now x
  | none => s

/-! ## Safe states and dispositions admitted by the governor (R111, R164) -/

/-- An object takes its safe state, deferred where the governor defers it (R111). -/
def State.applySafe (s : State) (x : Nat) : State :=
  if s.barred x then s
  else
    let a := s.safeOf x
    if a = 0 ∨ s.rise x a = 0 then s.dispCmd x a
    else match s.admission x a (s.rise x a) false with
      | .grant [] => (s.modObj x (fun o => { o with admAt := s.now })).dispCmd x a
      | .grant v =>
        let s := s.shedAll s.now v
        s.modObj x (fun o => { o with admAt := s.now, ints := o.ints ++ [{ at_ := s.now + ms 1, action := a, kind := .safe }] })
      | _ => s.modObj x (fun o => { o with wantSafe := some a })

/-- A FATAL or power-on safe state: past a hold window and whatever DISP says, admitted as a disposition is (R113, R164). -/
def State.forceSafe (s : State) (x : Nat) : State :=
  if s.barred x then s else (s.modObj x (fun o => { o with holdEnd := none })).applySafe x

/-- Answer the command whose edge this is, with the edge instant (R118). -/
def State.answerEdge (s : State) (x : Nat) (e : Edge) (st : Nat) : State :=
  match s.mbx.cmds.find? (fun c => c.phase == .running && (c.aux == e.at_) && (c.objs == [okey (objKind x) (objIdx x)])) with
  | some c => s.answerAt c st e.at_ (if st = stOK then bytesLE 8 e.at_ else [])
  | none => s

/-- An edge of a fast-actuation frame. -/
def Edge.fastPath (e : Edge) : Bool := match e.kind with | .fast _ => true | _ => false
/-- An edge of the queue of R139, whether it is still pending or held for alignment: of the mailbox, the fast path or the cycle engine. -/
def Edge.queued (e : Edge) : Bool := e.fastPath || e.kind == .mailbox || e.kind == .engine

/-- Edges that a disposition discards (R88, R294), held ones among them: every queued edge of a FAST_EN gang, counted in FA_DISCARD with source 294,
else the fast-actuation edges. A command still waiting for such an edge is answered MODE_FORBIDS (DESIGN CHOICE, assumption 20). -/
def State.discardEdges (s : State) (x : Nat) : State :=
  let gone := ((s.obj x).edges ++ (s.obj x).heldEdges).filter (fun e => if s.fastEn x then e.queued else e.fastPath)
  let s := s.modObj x (fun o => { o with edges := o.edges.filter (fun e => !gone.contains e), heldEdges := o.heldEdges.filter (fun e => !gone.contains e) })
  let s := if s.fastEn x ∧ gone ≠ [] then ({ s with tsn.faDiscard := s.tsn.faDiscard + gone.length }).trig 294 else s
  foldS gone (fun e s => s.answerEdge x e stMODE_FORBIDS) s

/-- A disposition comes into force for an object (R110–R112, R133): a running hold window is left as it is. -/
def State.dispose (s : State) (x : Nat) : State :=
  let s := s.discardEdges x
  let o := s.obj x
  if o.holdEnd.isSome ∨ s.barred x = true then s
  else if s.dispOf x = 0 ∧ s.holdMs x ≠ 0 then s.modObj x (fun o => { o with holdEnd := some (s.now + s.holdMs x * 990000) })
  else if s.dispOf x = 2 then s.dispCmd x 0
  else s.applySafe x

/-- Release the standing charge of an object (R162, R206). -/
def State.dropStanding (s : State) (x : Nat) : State := s.modObj x (fun o => { o with standing := false, wantStanding := false })

/-! ## A driving command at steps 14 and 15 (R118, R139, R148, R167) -/

/-- Place a command's edge: a cell holds one pending edge, a gang or bridge a queue by instant, which FLUSH empties, of the edges held for
alignment too (R118, R139). -/
def State.placeEdge (s : State) (x : Nat) (e : Edge) (flush : Bool) : State :=
  s.modObj x (fun o => { o with edges := if isCell x then [e] else insEdge e (if flush then [] else o.edges), holdEnd := none,
                                heldEdges := if flush || isCell x then o.heldEdges.filter (fun e => !e.queued) else o.heldEdges })

/-- Execute an admitted driving command: reserve the charge, shed the victims, place the edge no earlier than 1 ms after their
shedding edge, and answer (R118, R167, DEDUCED, assumption 117). -/
def State.drive (s : State) (x a at_ : Nat) (flush : Bool) (v : List Nat) (rise : Nat) : Res :=
  let s := s.shedAll (if at_ = 0 then s.now else max s.now (at_ - ms 1)) v
  let s := if rise = 0 then s else s.modObj x (fun o => { o with admAt := s.now, shed := false })
  if at_ = 0 then
    let d := s.draw (us 40)
    let inst := s.now + (if v.isEmpty then 0 else ms 1) + d.1
    .later .running inst (d.2.placeEdge x { at_ := inst, action := a, kind := .mailbox } flush)
  else
    let inst := if v.isEmpty then at_ else max at_ (s.now + ms 1)
    .done stACCEPTED (bytesLE 8 inst) (s.placeEdge x { at_ := inst, action := a, kind := .mailbox } flush)

/-- Count a BUDGET_DENIED response against the holder (PFB_ALLOTv_USED). -/
def State.denied (s : State) (v : Nat) : State := s.inc (F.PFB_ALLOT_USED_DENIED v)

/-- Steps 14 and 15 of a driving command (R167). -/
def State.admitDrive (s : State) (c : Cmd) (x a at_ : Nat) (flush : Bool) : Res :=
  let d := if (s.obj x).shed && decide (a ≠ 0) then s.chargeFor x a else s.rise x a
  if a = 0 ∨ d = 0 then s.drive x a at_ flush [] 0
  else match s.admission x a d true with
    | .denyAllot => .done stBUDGET_DENIED [] (s.denied (s.objOwner x))
    | .short =>
      if c.nowait then .done stBUDGET_DENIED [] (s.denied (s.objOwner x))
      else .later .deferred s.now s
    | .grant v => s.drive x a at_ flush v d

/-- A deferred command is admitted again: it executes, is refused by its allotment, or stays deferred from the same
instant (R167). -/
def State.retryDrive (s : State) (c : Cmd) (x a at_ : Nat) (flush : Bool) : State :=
  match s.admitDrive { c with req := { c.req with flags := clrBit c.req.flags 1 } } x a at_ flush with
  | .later .deferred _ _ => s
  | r => s.settleRes c r

/-- The object, action, AT and FLUSH of a driving command in flight (CELL_SET, GANG_SET, BRIDGE_SET). -/
def driveArgs (c : Cmd) : Option (Nat × Nat × Nat × Bool) :=
  if c.op = 0x0201 then some (c.arg 0 2, c.arg 2 1, c.arg 4 8, false)
  else if c.op = 0x0206 then some (xGang (c.arg 0 1), c.arg 1 1, c.arg 4 8, bitOf (c.arg 2 1) 0)
  else if c.op = 0x020A then some (xBrg (c.arg 0 1), c.arg 1 1, c.arg 4 8, bitOf (c.arg 2 1) 0)
  else none

/-! ## The governor's words (PFB_BUDx, PFB_FEEDf_USED, PFB_ALLOTv_USED) -/

/-- The objects that a program writes. -/
def Prog.objs (p : Prog) : List Nat := (List.range 608).filter (fun x => p.writer.getD x 0xFF != 0xFF)

/-- The objects of the active program. -/
def State.progObjs (s : State) : List Nat := match s.cyc.active with | some p => p.objs | none => []

/-- The objects that only the waiting program writes. -/
def State.newObjs (s : State) : List Nat :=
  match s.cyc.waiting with
  | some q => q.objs.filter (fun x => !s.progObjs.contains x)
  | none => []

/-- The objects whose admission a deferred command awaits (R167, R204, R216): CYC_START's and CYC_SWAP's are a program's. -/
def State.awaited (s : State) (c : Cmd) : List Nat :=
  match driveArgs c with
  | some p => [p.1]
  | none => if c.op = 0x0405 then s.progObjs else if c.op = 0x0404 then s.newObjs else []

/-- Count a BUDGET_DENIED answer of a command against every holder of an object that it awaits (R167, DEDUCED, assumption 118). -/
def State.denyAwaited (s : State) (c : Cmd) : State :=
  foldS ((List.range 18).filter (fun v => (s.awaited c).any (fun x => s.objOwner x == v))) (fun v s => s.denied v) s

/-- Commands deferred for an object. -/
def State.deferredFor (s : State) (x : Nat) : Nat :=
  (s.mbx.cmds.filter (fun c => c.phase == .deferred && (s.awaited c).contains x)).length

/-- PFB_BUDx. -/
def State.budWord (s : State) (x : Nat) : Nat :=
  let o := s.obj x
  s.classOf x * 2 ^ 30 + b2n o.shed * 2 ^ 29 + b2n (decide (0 < s.charge x)) * 2 ^ 28 + b2n o.standing * 2 ^ 27 +
  b2n (decide (0 < s.deferredFor x) || o.wantSafe.isSome) * 2 ^ 26 + s.iDecl x

/-- Commands deferred on a feed. -/
def State.deferredOn (s : State) (f : Nat) : Nat :=
  (s.mbx.cmds.filter (fun c => c.phase == .deferred && (s.awaited c).any (fun x => s.feedOf x == f))).length

/-- PFB_FEEDf_USED. -/
def State.feedUsedWord (s : State) (f : Nat) : Nat := min 0xFFFF (s.usedF f / 10) * 2 ^ 16 + min 255 (s.deferredOn f)

/-- PFB_ALLOTv_USED. -/
def State.allotUsedWord (s : State) (v : Nat) : Nat :=
  s.rd (F.PFB_ALLOT_USED_DENIED v) * 2 ^ 24 + s.rd (F.PFB_ALLOT_USED_OVER_ALLOT v) * 2 ^ 23 + min (2 ^ 20 - 1) (s.usedH v)

end Sys2Proof.Machine
end

