-- ==== Sys2Proof/Machine/Switching.lean ====
section
/-!
DEFINITION. Machine/Switching.lean: the events of cells, gangs and bridges (chapters 03 and 04): edges, transitions,
protections, retries, under-voltage, hold windows, lost banks.
-/
namespace Sys2Proof.Machine

/-! ## Edges -/

/-- The earlier of two edges, if any. -/
def earlierEdge (a b : Option Edge) : Option Edge :=
  match a, b with
  | none, b => b
  | a, none => a
  | some x, some y => if x.at_ ≤ y.at_ then some x else some y

/-- The earliest pending edge of an object. -/
def Obj.nextEdge (o : Obj) : Option Edge := (o.edges ++ o.ints).foldl (fun b e => earlierEdge b (some e)) none

/-- The object without an edge. -/
def Obj.dropEdge (o : Obj) (e : Edge) : Obj := { o with edges := o.edges.erase e, ints := o.ints.erase e }

/-- A gang or bridge acts with an aligned edge (R126, R127, R131, R133, R136): an event of its own that falls due while a replica
of its banks is not aligned waits as a held edge. A cell acts at once. -/
def State.mustHold (s : State) (x : Nat) : Bool := !isCell x && !s.objAligned x

/-- Hold an edge for alignment, once (R42, R127). -/
def State.holdEdge (s : State) (x : Nat) (e : Edge) : State :=
  s.modObj x (fun o => { o with heldEdges := if o.heldEdges.any (fun d => d.kind == e.kind) then o.heldEdges else o.heldEdges ++ [e] })

/-! ## Late edges (R88) -/

/-- Start late edges in order until one is under way: LATE_EDGE is set by each but the governor's and a waiting safe state's; a
dwell takes a new target or ends (R88, R137); a safe state waits for a freewheel's end (R100). -/
def State.runLates (x : Nat) : List Edge → State → State
  | [], s => s
  | e :: l, s =>
    let o := s.obj x
    if o.st = 5 ∨ o.st = 6 then s.modObj x (fun o => { o with lates := [] })
    else if o.dwelling ∧ (e.action = 1 ∨ e.action = 2) then
      State.runLates x l (s.modObj x (fun o => { o with lates := l, lateEdge := true, dwell := o.dwell.map (fun d => { d with target := e.action }) }))
    else
      let s := if o.dwelling then s.modObj x (fun o => { o with dwell := none }) else s
      if o.trans.isSome || (e.kind == .safe && s.wheelOn x && onCmd x e.action) then s
      else State.runLates x l ((s.modObj x (fun o => { o with lates := l, lateEdge := o.lateEdge || (e.kind == .mailbox) })).move x e.action)

/-- The late edges of an object start when its transition or freewheel ends. -/
def State.startLate (s : State) (x : Nat) : State := State.runLates x (s.obj x).lates s

/-! ## Retries, restarts and dwells -/

/-- A retry: the object turns on again in the direction of CMD (R93); a shed object does not (R157, R168). -/
def State.retryNow (s : State) (x : Nat) : State := if (s.obj x).shed then s else s.toGoal x

/-- An object restarts from UV_OFF in the direction of CMD, a bridge through its dwell state where a dwell was in progress
(R97, R137). -/
def State.uvRestartObj (s : State) (x : Nat) : State :=
  let o := s.obj x
  if o.st = 5 ∧ o.shed = false ∧ s.uvNow x = false then
    let s := s.modObj x (fun o => { o with st := 0, dwellRestart := false })
    if o.dwellRestart ∧ (o.cmd = 1 ∨ o.cmd = 2) ∧ s.goal x = o.cmd then
      if s.dwellSt (x - 576) = 0 then
        s.modObj x (fun ob => { ob with dwell := some (s.newDwell x o.cmd (some (s.now + ms (s.rd (F.PFB_BRG_CFG0_REV_DWELL (x - 576)))))) })
      else (s.modObj x (fun ob => { ob with dwell := some (s.newDwell x o.cmd none) })).moveBrg x 3
    else s.toGoal x
  else s

/-- The dwell is over and the bridge completes the change at an internal edge instant (R136, R137). -/
def State.dwellDone (s : State) (x : Nat) : State :=
  match (s.obj x).dwell with
  | some d =>
    if d.final then s
    else if (s.obj x).st = d.target then (s.modObj x (fun o => { o with dwell := none })).startLate x
    else (s.modObj x (fun o => { o with dwell := some { d with final := true } })).moveDirect x d.target
  | none => s

/-- Carry out an edge (R86, R93, R97, R111, R136, R168, R170); a command's edge cannot drive an object that the probe has come to bar
(R143): it has no effect and a command that waits for it is refused. -/
def State.doEdge (s : State) (x : Nat) (e : Edge) (late : Bool) : State :=
  let s := match e.kind with
    | .shed => s.doShed x
    | .restore => s.doRestore x
    | .retry => s.retryNow x
    | .restart => s.uvRestartObj x
    | .window => s.applySafe x
    | .dwell => s.dwellDone x
    | .safe => s.dispCmd x e.action
    | _ => if s.barred x && e.action != 0 then s else s.setCmd x e.action late
  let s := if late then s.modObj x (fun o => { o with lateEdge := true }) else s
  s.answerEdge x e (if s.barred x && e.action != 0 then stMODE_FORBIDS else stOK)

/-- The earliest edge of an object that is due falls due: it is carried out, or held while a replica of its banks is not
aligned (R42, R127). -/
def State.edgeDue (s : State) (x : Nat) (late : Bool) : State :=
  match (s.obj x).nextEdge with
  | none => s
  | some e =>
    if s.now < e.at_ then s
    else
      let s := s.modObj x (fun o => o.dropEdge e)
      if s.objAligned x then s.doEdge x e late else s.modObj x (fun o => { o with heldEdges := o.heldEdges ++ [e] })

/-- EDGE_INSTANT. -/
def edgeInstant (t x : Nat) (s : State) : State :=
  let s := s.at_ t
  if s.isTop x then s.edgeDue x false else s

/-- Held edges of an object whose banks are aligned again within 1 ms of their instants are carried out late (R42). -/
def State.releaseHeld (s : State) (x : Nat) : State :=
  if s.objAligned x then
    let h := (s.obj x).heldEdges
    let s := s.modObj x (fun o => { o with heldEdges := o.heldEdges.filter (fun e => decide (e.at_ + ms 1 < s.now)) })
    foldS (h.filter (fun e => decide (s.now ≤ e.at_ + ms 1))) (fun e s => s.doEdge x e true) s
  else s

/-- Held edges past their 1 ms window are discarded and counted as missed (R42, R127). -/
def State.discardHeld (s : State) (x : Nat) : State :=
  let gone := (s.obj x).heldEdges.filter (fun e => decide (e.at_ + ms 1 < s.now))
  let s := s.modObj x (fun o => { o with heldEdges := o.heldEdges.filter (fun e => decide (s.now ≤ e.at_ + ms 1)), missed := o.missed + gone.length })
  foldS gone (fun e s => s.answerEdge x e stINTERNAL_FAULT) s

/-- A gang's or bridge's own edge falls due now: held while a replica of its banks is not aligned (R127). -/
def State.ownEdge (s : State) (x : Nat) (k : EdgeKind) : State :=
  let e : Edge := { at_ := s.now, action := (s.obj x).cmd, kind := k }
  if s.mustHold x then s.holdEdge x e else s.doEdge x e false

/-! ## Transitions -/

/-- The state of a terminal of an object in a state of the object (R125, R135). -/
def State.termSt (s : State) (x n st : Nat) : Nat :=
  if isBrg x then legState st (if (s.gangMembers (s.legA (x - 576))).contains n then 0 else 1) else st

/-- CLAMP_WARN of the terminals that a clamp event above 8 mJ strikes (R98). -/
def State.clampSet (s : State) (hot : List Nat) : State := foldS (hot.filter (fun n => decide (n < 512))) (fun n s => s.modObj n (fun o => { o with clamp := true })) s

/-- CLAMP_WARN follows the clamp event of an edge of the terminals whose state changes (R98). -/
def State.clampEdge (s : State) (x a b : Nat) (hot : List Nat) : State :=
  foldS ((s.members x).filter (fun n => s.termSt x n a != s.termSt x n b)) (fun n s => s.modObj n (fun o => { o with clamp := hot.contains n })) s

/-- The regulations of an object that outlast a change of its state: those of the terminals that stay as they are, or that turn
on. -/
def State.keepReg (s : State) (x a b : Nat) (l : List (Nat × Nat)) : List (Nat × Nat) :=
  l.filter (fun p => let q := s.termSt x p.1 b; (q == 1 || q == 2) && (s.termSt x p.1 a == q || s.termSt x p.1 a == 0 || s.termSt x p.1 a == 3))

/-- TRANSITION_END, with the terminals that saw a clamp event above 8 mJ: STATE takes the new value, CLAMP_WARN follows (R98), a
dwell in COAST starts its count, DWELLING ends with the change, and late edges start (R86, R88, R136). -/
def transitionEnd (t x : Nat) (hot : List Nat) (s : State) : State :=
  let s := s.at_ t
  match (s.obj x).trans with
  | some tr =>
    if tr.dead then s
    else
      let st := (s.obj x).st
      let s := s.clampEdge x st tr.target hot
      let s := (s.modObj x (fun o =>
        { o with trans := none, regEnds := if onState x tr.target then o.regEnds else [],
                 condFrom := (if onState x tr.target then some s.now else none) })).toSt x tr.target
      match (s.obj x).dwell with
      | some d =>
        if d.final then (s.modObj x (fun o => { o with dwell := none })).startLate x
        else (s.modObj x (fun o => { o with dwell := some { d with until_ := some (d.until_.getD (s.now + d.dur)) } })).startLate x
      | none => s.startLate x
  | none => s

/-- DEAD_TIME_EXPIRY: the other switch turns on, and a dwell in BRAKE_LOW starts its count; or a freewheel starts, with the
FW_MAX of its edge (R87, R89, R136). -/
def deadTimeExpiry (t x : Nat) (s : State) : State :=
  let s := s.at_ t
  let wheel (o : Obj) : Obj := match o.wheel with | .dead fw => { o with wheel := .run (s.now + fw) } | _ => o
  match (s.obj x).trans with
  | some tr =>
    if tr.dead then
      s.modObj x (fun o => { o with trans := some { tr with dead := false }, regEnds := s.keepReg x o.st tr.target o.regEnds,
                                    dwell := o.dwell.map (fun d => if !d.final && tr.target == 3 then { d with until_ := some (s.now + d.dur) } else d) })
    else s.modObj x wheel
  | none => s.modObj x wheel

/-- A freewheel ends, its remaining current going to the clamp (R89, R98); a safe state that waited for it starts (R100). -/
def State.wheelEnd (s : State) (x : Nat) (hot : List Nat) : State :=
  ((s.modObj x (fun o => { o with wheel := .none, regEnds := if onState x o.st || o.trans.isSome then o.regEnds else [] })).clampSet hot).startLate (s.topOf x)

/-- FREEWHEEL_CURRENT_LOW: the freewheeling switch turns off (R89). -/
def freewheelCurrentLow (t x : Nat) (s : State) : State :=
  let s := s.at_ t
  match (s.obj x).wheel with
  | .run _ => s.wheelEnd x []
  | _ => s

/-- FREEWHEEL_MAX_EXPIRY, with the terminals that saw a clamp event above 8 mJ: FW_MAX ends the freewheel (R89). -/
def freewheelMaxExpiry (t x : Nat) (hot : List Nat) (s : State) : State :=
  let s := s.at_ t
  match (s.obj x).wheel with
  | .run e => if e ≤ s.now then s.wheelEnd x hot else s
  | _ => s

/-- REVERSAL_DWELL_EXPIRY: REV_DWELL ends and the bridge completes the change (R136, R137). -/
def reversalDwellExpiry (t h : Nat) (s : State) : State :=
  let s := s.at_ t
  let x := xBrg h
  match (s.obj x).dwell with
  | some d =>
    match d.until_ with
    | some u => if u ≤ s.now ∧ d.final = false ∧ (s.obj x).trans.isNone then s.ownEdge x .dwell else s
    | none => s
  | none => s

/-! ## Protections -/

/-- Some current can flow in the object: it conducts, moves, freewheels or is under test. -/
def State.live (s : State) (x : Nat) : Bool :=
  let o := s.obj x
  onState x o.st || o.trans.isSome || s.wheelOn x || o.probing

/-- SHORT_CIRCUIT at a terminal, with the terminals that saw a clamp event above 8 mJ (R91, R98, R130). -/
def shortCircuit (t n : Nat) (hot : List Nat) (s : State) : State :=
  let s := s.at_ t
  let x := s.topOf n
  if n < 512 then (if s.live x then (s.trip x 1 n).clampSet hot else s.sameTrip x n) else s

/-- CURRENT_LIMIT_ENTRY at a terminal: it regulates and its OC_BLANK starts (R92). -/
def currentLimitEntry (t n : Nat) (s : State) : State :=
  let s := s.at_ t
  let x := s.topOf n
  if n < 512 ∧ s.live x = true then s.modObj x (fun o => { o with regEnds := o.regEnds.filter (fun p => p.1 != n) ++ [(n, s.now + s.ocBlank x)] }) else s

/-- The terminal whose OC_BLANK ends now, the lowest of several (R130). One whose OC_BLANK ended earlier had left regulation by then,
since its object would have tripped at that end: the latest end counts (DEDUCED, assumption 150). -/
def firstDue (now : Nat) (l : List (Nat × Nat)) : Option (Nat × Nat) :=
  (l.filter (fun p => decide (p.2 ≤ now))).foldl (fun b p => match b with
    | none => some p
    | some q => if q.2 < p.2 ∨ (p.2 = q.2 ∧ p.1 < q.1) then some p else some q) none

/-- OC_BLANK_EXPIRY: a terminal still in regulation at the end of its OC_BLANK (R92, R130), with the terminals that saw a clamp
event above 8 mJ (R98). -/
def ocBlankExpiry (t x : Nat) (hot : List Nat) (s : State) : State :=
  let s := s.at_ t
  match firstDue s.now (s.obj x).regEnds with
  | some p => (s.trip x 2 p.1).clampSet hot
  | none => s

/-- RETRY_DELAY_EXPIRY (R93). -/
def retryDelayExpiry (t x : Nat) (s : State) : State :=
  let s := s.at_ t
  match (s.obj x).retryEnd with
  | some e => if e ≤ s.now then (s.modObj x (fun o => { o with retryEnd := none })).ownEdge x .retry else s
  | none => s

/-- RETRY_COUNTER_RESET: RETRY returns to 0 after 1 s of conduction without a trip (R93). -/
def retryCounterReset (t x : Nat) (s : State) : State :=
  let s := s.at_ t
  match (s.obj x).condFrom with
  | some e => if e + sec 1 ≤ s.now ∧ onState x (s.obj x).st = true then s.modObj x (fun o => { o with retry := 0 }) else s
  | none => s

/-- Record a probe result for every terminal of an object. -/
def State.probeMark (s : State) (x code : Nat) : State :=
  foldS (s.members x) (fun n s => { s with fab.probes := s.fab.probes.set n { s.fab.probes.get {} n with result := code, skipped := false } }) s

/-- A probe result takes effect on its object (R143): a pass unblocks it; another result but SKIPPED blocks it or warns, by
POLICY, and is reported. -/
def State.verdict (s : State) (x code : Nat) : State :=
  let warn (b : Bool) (s : State) : State :=
    foldS (s.members x) (fun n s => { s with fab.probes := s.fab.probes.set n { s.fab.probes.get {} n with warned := b } }) s
  if code = 8 then s
  else if code = 1 then warn false (s.modObj x (fun o => { o with blocked := false }))
  else
    let s := if s.rdb (F.PFB_PEXP_POLICY (s.entryTerm x)) then warn true s
      else warn false (s.modObj x (fun o => { o with blocked := true, cmd := 0, retry := 0, holdEnd := none, wantSafe := none }))
    s.ownFault 0x0202 .corrected (s.objOwner x) (lowest (s.members x)) code

/-- The result ABORTED for the object under the wiring probe, with the cause that a retest waits for (R142, R144). -/
def State.abortProbe (s : State) (x cause : Nat) : State :=
  if (s.obj x).probing ∧ s.fab.probeList.contains x then
    let s := (s.probeMark x 9).verdict x 9
    { s with fab.probeList := s.fab.probeList.erase x, fab.retests := s.fab.retests ++ [{ obj := x, cause := cause, due := none }] }
  else s

/-- THERMAL_SHUTDOWN at a terminal, with the terminals that saw a clamp event above 8 mJ (R94, R98, R130). -/
def thermalShutdown (t n : Nat) (hot : List Nat) (s : State) : State :=
  let s := s.at_ t
  if n < 512 then
    let x := s.topOf n
    let s := s.abortProbe x 2
    let s := { s with fab.meas := s.fab.meas.set n { s.meas n with cool := false } }
    if (s.obj x).st = 6 then s.sameTrip x n else (s.latch x 3 n).clampSet hot
  else s

/-- Release an object from PROBE: it follows CMD (R99, R100). -/
def State.unprobe (s : State) (x : Nat) : State :=
  let o := s.obj x
  if o.probing then
    let s := s.setObj x { o with probing := false, st := (if o.st = probeSt x then 0 else o.st) }
    if o.st = probeSt x then s.toGoal x else s
  else s

/-- FEED_UNDERVOLTAGE, with the terminals that saw a clamp event above 8 mJ: every on cell of the feed's banks enters UV_OFF
(R96, R98); a running probe of its objects aborts. -/
def feedUndervoltage (t f : Nat) (hot : List Nat) (s : State) : State :=
  let s := s.at_ t
  if 1 ≤ f ∧ f ≤ 4 then
    let s := s.wrb (F.PFB_FEED_STAT_UV f) true
    (foldS (s.topsOf f) (fun x s => (if s.fab.probeList.contains x then (s.abortProbe x 0).unprobe x else s).uvOff x) s).clampSet hot
  else s

/-- FEED_UV_RECOVERY: the feed rises above UV_ON at t_uvon (R97, R156). -/
def feedUvRecovery (t f : Nat) (s : State) : State :=
  let s := s.at_ t
  if 1 ≤ f ∧ f ≤ 4 then
    let s := s.wrb (F.PFB_FEED_STAT_UV f) false
    { s with fab.feeds := s.fab.feeds.set f { s.fab.feeds.get {} f with tUvon := s.now } }
  else s

/-- The restart instant of a bank's objects: t_uvon + 2 ms + (k mod 8) × STAGGER (R97, R157). -/
def State.restartAt (s : State) (k : Nat) : Nat :=
  let f := k / 8 + 1
  (s.fab.feeds.get {} f).tUvon + ms 2 + (k % 8) * us (10 * s.rd (F.PFB_FEED_CFG1_STAGGER f))

/-- UV_RESTART of a bank: the objects whose lowest bank it is and that are in UV_OFF turn on again (R97, R131, R156). -/
def uvRestart (t k : Nat) (s : State) : State :=
  let s := s.at_ t
  let f := k / 8 + 1
  if k < 32 ∧ s.rdb (F.PFB_FEED_STAT_UV f) = false ∧ s.restartAt k ≤ s.now then
    foldS ((s.topsOf f).filter (fun x => lowest (s.members x) / 16 == k && (s.obj x).st == 5)) (fun x s => s.ownEdge x .restart) s
  else s

/-! ## Hold windows and lost banks -/

/-- HOLD_WINDOW_EXPIRY: CMD becomes SAFE_ST, for a gang or bridge with one aligned edge (R111, R133). -/
def holdWindowExpiry (t x : Nat) (s : State) : State :=
  let s := s.at_ t
  match (s.obj x).holdEnd with
  | some e => if e ≤ s.now then (s.modObj x (fun o => { o with holdEnd := none })).ownEdge x .window else s
  | none => s

/-- The top-level objects with terminals in a bank. -/
def State.topsOfBank (s : State) (k : Nat) : List Nat := ((List.range 16).map (fun j => s.topOf (16 * k + j))).foldl (fun l x => if l.contains x then l else l ++ [x]) []

/-- BANK_NO_ANSWER: BANK_LOST is raised and the bank's cells take SAFE_ST, with every other member of their gangs and
bridges (R114, R132). -/
def bankNoAnswer (t k : Nat) (s : State) : State :=
  let s := s.at_ t
  if k < 32 ∧ s.bankLost k = false then
    let s := { s with fab.banks := s.fab.banks.set k { s.fab.banks.get {} k with lost := true } }
    let s := s.sysFault 0x0201 .contained (16 * k) k
    foldS (s.topsOfBank k) (fun x s => (s.abortProbe x 1).lostSafe x) s
  else s

/-- The output returns to where it belongs, at once or when its transition ends. -/
def State.backToGoal (s : State) (x : Nat) : State :=
  let o := s.obj x
  if o.idle then s.toGoal x
  else if o.trans.isSome then s.modObj x (fun o => { o with lates := o.lates ++ [{ at_ := s.now, action := s.goal x, kind := .shed }] })
  else s

/-- An object whose banks all answer again: a cell takes up its CMD; a gang or bridge resumes from its safe state with CMD
set to it (R114, R132). A blocked one stays OFF (R143). -/
def State.resumeBank (s : State) (x : Nat) : State :=
  if s.objLost x then s
  else if isCell x || s.barred x then s.backToGoal x
  else (s.setCmd x (s.safeOf x) false).backToGoal x

/-- BANK_ANSWER_RETURN (R114, R132). -/
def bankAnswerReturn (t k : Nat) (s : State) : State :=
  let s := s.at_ t
  if k < 32 ∧ s.bankLost k = true ∧ (s.fab.banks.get {} k).silent = false then
    let s := { s with fab.banks := s.fab.banks.set k {} }
    foldS (s.topsOfBank k) (fun x s => s.resumeBank x) s
  else s

/-- BANK_FEED_LOSS: the banks of a feed stop answering (R158). -/
def bankFeedLoss (t f : Nat) (s : State) : State :=
  let s := s.at_ t
  if 1 ≤ f ∧ f ≤ 4 then
    foldS (List.range 8) (fun j s => { s with fab.banks := s.fab.banks.set (8 * (f - 1) + j) { s.fab.banks.get {} (8 * (f - 1) + j) with silent := true } }) s
  else s

/-- BANK_FEED_RETURN: the hub reloads the banks' configuration and CMD values, a lost gang's or bridge's being its safe state (R132);
the objects that belong on are in UV_OFF, the others, shed ones among them, where they belong (R158). -/
def bankFeedReturn (t f : Nat) (s : State) : State :=
  let s := s.at_ t
  if 1 ≤ f ∧ f ≤ 4 ∧ (List.range 8).any (fun j => (s.fab.banks.get {} (8 * (f - 1) + j)).silent) = true then
    let was := (s.topsOf f).filter (fun x => s.objLost x)
    let s := foldS (List.range 8) (fun j s => { s with fab.banks := s.fab.banks.set (8 * (f - 1) + j) {} }) s
    foldS (s.topsOf f) (fun x s =>
      let s := if was.contains x && !isCell x && !s.barred x then s.takeCmd true x (s.safeOf x) else s
      if (s.obj x).st = 5 ∨ (s.obj x).st = 6 then s
      else if onCmd x (s.goal x) then (s.modObj x (fun o => { o.cut with st := 5, cause := 4 })).bumpEvt x
      else (s.modObj x (fun o => { o.cut with cause := o.cause })).toSt x (s.goal x)) s
  else s

end Sys2Proof.Machine
end

