-- ==== Sys2Proof/Machine/Staging.lean ====
section
/-!
DEFINITION. Machine/Staging.lean: STAGED fields and configuration commands (R15, R119, R515), the switch of an overlay and
a commit (R514–R517), and the maintenance arbiter (R519–R522).
-/
namespace Sys2Proof.Machine

/-! ## Staged fields -/

/-- The staged value of a field, or none. -/
def staged (l : List (Fld × Nat)) (f : Fld) : Option Nat := (l.find? (fun p => p.1 == f)).map (fun p => p.2)

/-- A list of field values with one more. -/
def putFld (l : List (Fld × Nat)) (f : Fld) (v : Nat) : List (Fld × Nat) := l.filter (fun p => p.1 != f) ++ [(f, v)]

/-- Stage a value for a field (R15, R119). -/
def State.stage (s : State) (f : Fld) (v : Nat) : State :=
  let s := { s with cfg.pend := putFld s.cfg.pend f (v % 2 ^ f.len) }
  s.wr F.CFG_STAT_STAGED_N (min 255 s.cfg.pend.length)

/-- The shadow value of a field: the pending value, else the active one (R122). -/
def State.shadow (s : State) (f : Fld) : Nat := (staged s.cfg.pend f).getD (s.rd f)

/-- A register's word with the shadow values of its pending fields (R122). The values of an overlay whose switch is pending are not shown
before t_ov, though the islands' shadows hold them from 0.5 ms before it (R514, DESIGN CHOICE, assumption 154). -/
def State.shadowWord (s : State) (a : Nat) : Word :=
  (s.cfg.pend.filter (fun p => p.1.reg == a)).foldl (fun w p => w.withField p.1.lo p.1.len p.2) (s.word a)

/-- Field classes (R15). -/
inductive FClass where
  | live | staged | locked
deriving DecidableEq, Repr

/-- A field that a configuration command can write: its class and its permitted values. -/
structure CfgFld where
  fld : Fld
  cls : FClass
  ok  : Nat → Bool

/-- The bits of a register that a field covers. -/
def fldMask (f : Fld) : Nat := (2 ^ f.len - 1) * 2 ^ f.lo

/-- A word image and a mask of a configuration command: register address, value, mask. -/
abbrev Image := Nat × Nat × Nat

/-- The mask bits of a field in an image. -/
def maskOf (im : Image) (f : Fld) : Nat := if f.reg = im.1 then bitsOf im.2.2 f.lo f.len else 0

/-- The fields that the images write, with their values. -/
def maskedFlds (fs : List CfgFld) (ims : List Image) : List (CfgFld × Nat) :=
  fs.flatMap (fun f => (ims.filter (fun im => maskOf im f.fld != 0)).map (fun im => (f, bitsOf im.2.1 f.fld.lo f.fld.len)))

/-- The masks cover whole fields and no reserved bit, no reserved bit of a word is 1 (R14), and every written value is
permitted (R119). -/
def imagesOk (fs : List CfgFld) (ims : List Image) : Bool :=
  ims.all (fun im =>
    (im.2.1 &&& reservedBits im.1 == 0) &&
    fs.all (fun f => f.fld.reg != im.1 || maskOf im f.fld == 0 || maskOf im f.fld == 2 ^ f.fld.len - 1) &&
    (im.2.2 == (fs.filter (fun f => f.fld.reg == im.1)).foldl (fun a f => a + (if maskOf im f.fld = 0 then 0 else fldMask f.fld)) 0)) &&
  (maskedFlds fs ims).all (fun p => p.1.ok p.2)

/-- Write one masked field: LIVE and LOCKED fields at once, STAGED fields to their shadow. -/
def State.writeCfg (s : State) (p : CfgFld × Nat) : State :=
  match p.1.cls with
  | .staged => s.stage p.1.fld p.2
  | _ => s.wr p.1.fld p.2

/-- The value a field has after the images, for conditions between fields. -/
def State.afterFld (s : State) (fs : List CfgFld) (ims : List Image) (f : Fld) : Nat :=
  match (maskedFlds fs ims).find? (fun p => p.1.fld == f) with
  | some p => p.2
  | none => s.shadow f

/-- A configuration command's LOCKED check, write and status, once its arguments and owner are checked (R119); `mode` is
the status of a later check that fails, or 0. -/
def State.configure (s : State) (fs : List CfgFld) (ims : List Image) (stopped : Bool) (mode : Nat) : Res :=
  let m := maskedFlds fs ims
  need (stopped || m.all (fun p => p.1.cls != .locked)) stLOCKED_FIELD <|
  need (mode == 0) mode <|
  .done (if m.any (fun p => p.1.cls == .staged) then stSTAGED else stOK) [] (foldS m (fun p s => s.writeCfg p) s)

/-! ## Overlays (R515) -/

/-- An overlay of the running set. -/
def State.overlay (s : State) (n : Nat) : Overlay := if n < 16 then s.cfg.ovls.get {} n else {}

/-- An overlay names a field (R507, R508: masks cover whole fields). -/
def Overlay.names (o : Overlay) (f : Fld) : Bool :=
  o.recs.any (fun r => r.addr == f.reg && decide (bitsOf r.mask f.lo f.len ≠ 0))

/-- The base value of a register. -/
def State.baseWord (s : State) (a : Nat) : Word := s.cfg.base.get (resetWord a) a

/-- The base value of a register under an overlay's records. -/
def State.overlaid (s : State) (o : Overlay) (a : Nat) : Word :=
  (o.recs.filter (fun r => r.addr == a)).foldl (fun w r => w.merge (BitVec.ofNat 32 r.value &&& ~~~ (hardZero a)) (BitVec.ofNat 32 r.mask)) (s.baseWord a)

/-- The STAGED bits of a register. -/
def stagedMask (a : Nat) : Word := match regRow a with | some r => BitVec.ofNat 32 r.staged | none => 0

/-- Give every STAGED field of the registers that `p` selects its base or overlay value (R515). -/
def State.applyBaseOn (s : State) (o : Overlay) (p : Nat → Bool) : State :=
  let keys := s.regs.keys ++ s.cfg.base.keys ++ o.recs.map (fun r => r.addr)
  foldS (keys.filter (fun a => p a && stagedMask a != 0)) (fun a s => s.setWord a ((s.word a).merge (s.overlaid o a) (stagedMask a))) s

/-- Give every STAGED field its base or overlay value (R515). -/
def State.applyBase (s : State) (o : Overlay) : State := s.applyBaseOn o (fun _ => true)

/-- Write the overrides. -/
def State.applyOver (s : State) : State := foldS s.cfg.overs (fun p s => s.wr p.1 p.2) s

/-- The owner of a CAN or LIN channel is fixed from BOOT_LOCK (R408). -/
def fixedOwner (k : Nat) : Bool := k / 0x10000 == kCan || k / 0x10000 == kLin

/-- Owners and readers under an overlay (R70): the owners of CAN and LIN channels stay (R408). -/
def State.applyOwn (s : State) (o : Overlay) : State :=
  { s with own := o.owns.foldl (fun t p =>
      t.set p.1 (if fixedOwner p.1 then { p.2 with owner := (s.cfg.baseOwn.get {} p.1).owner } else p.2)) s.cfg.baseOwn }

/-- A result that blocks under POLICY BLOCK: neither PASS nor SKIPPED, of an object that has been probed (R143). -/
def badResult (r : Nat) : Bool := r != 0 && r != 1 && r != 8

/-- An object whose POLICY is BLOCK now while its result is neither PASS nor SKIPPED: it goes OFF with CMD OFF (R143). -/
def State.enforcePolicy (s : State) (x : Nat) : State :=
  if !(s.obj x).blocked && s.rd (F.PFB_PEXP_POLICY (s.entryTerm x)) == 0 && (s.members x).any (fun n => badResult (s.fab.probes.get {} n).result) then
    let s := foldS (s.members x) (fun n s => { s with fab.probes := s.fab.probes.set n { s.fab.probes.get {} n with warned := false } }) s
    (s.modObj x (fun o => { o with blocked := true, holdEnd := none })).setCmd x 0 false
  else s

/-- POLICY takes effect on every object. -/
def State.enforceAll (s : State) : State := foldS s.tops (fun x s => s.enforcePolicy x) s

/-- The switch to an overlay, or a commit, with the pending values of its closed set (R515, R516), after the shapers' credits of the
settings before it (R282). -/
def State.applySwitch (s : State) (commit : Bool) (ovl : Nat) (cut : List (Fld × Nat)) : State :=
  let s := s.credits
  let o := s.overlay ovl
  let kept := if commit then s.cfg.overs else s.cfg.overs.filter (fun p => !o.names p.1)
  let s := { s with cfg.overs := foldS cut (fun p l => putFld l p.1 p.2) kept }
  if commit then s.applyOver.enforceAll
  else
    let s := (((s.applyBase o).applyOver).applyOwn o).enforceAll
    { s.wr F.CFG_STAT_OVERLAY ovl with fab.govCheck := true }

/-- A pending overlay switch or commit is discarded (R518). -/
def State.dropSwitch (s : State) : State :=
  let s := foldS (s.mbx.cmds.filter (fun c => (c.op == 0x0D02 || c.op == 0x0D03) && c.phase == .running)) (fun c s => s.answer c stMODE_FORBIDS []) s
  { (s.wrb F.CFG_STAT_SWITCH_PEND false).wr F.CFG_STAT_PENDING 0xFF with cfg.switch_ := none }

/-- A verification or preparation stops, and resumes as after power loss (R559, R560). -/
def State.stopVerify (s : State) : State :=
  if s.rd F.UPD_STAT_STATE = 3 then { s.wr F.UPD_STAT_STATE 2 with upd.reverify := true, upd.stAt := s.now } else s

/-! ## The maintenance arbiter -/

def aPROBE : Nat := 1
def aCELL_TEST : Nat := 2
def aCALIB : Nat := 3
def aSCRUB : Nat := 4
def aREMASK : Nat := 5
def aBUF_AUDIT : Nat := 6
def aLBIST : Nat := 7
def aSTAGE_COPY : Nat := 8

/-- The compatibility table of R520. -/
def compatible (a b : Nat) : Bool :=
  if a = b then false
  else if a = 8 ∨ b = 8 then true
  else if a = 7 ∨ b = 7 then false
  else !(decide (a ≤ 3) && decide (b ≤ 3))

/-- The priority order of R521. -/
def maintRank (a : Nat) : Nat := match a with | 5 => 0 | 6 => 1 | 1 => 2 | 2 => 3 | 3 => 4 | 4 => 5 | 7 => 6 | _ => 7

/-- An activity of the COMPUTE domain (R522, R589). -/
def computeAct (a : Nat) : Bool := a == 4 || a == 6 || a == 7 || a == 8

/-- The activity may be admitted in the present device state (R522); an interrupted staging copy resumes once the start is
confirmed (R559). -/
def State.actAdmitted (s : State) (a : Nat) : Bool :=
  !(s.dev == .fault && computeAct a) && !(s.dev == .coppice && (a == 7 || a == 8)) && !(s.dev == .starting && a == 8)

/-- CFG_MAINT_STAT follows the queue and the running activities. -/
def State.maintStat (s : State) : State :=
  let s := s.wr F.CFG_MAINT_STAT_QLEN s.cfg.mq.length
  let s := s.wr F.CFG_MAINT_STAT_QUEUED (s.cfg.mq.foldl (fun m q => m ||| 2 ^ (q.act - 1)) 0)
  s.wr F.CFG_MAINT_STAT_RUNNING (s.cfg.mrun.foldl (fun m q => m ||| 2 ^ (q.req.act - 1)) 0)

/-- A top-level object is stopped (R116, R146). -/
def State.stopped (s : State) (x : Nat) : Bool :=
  let o := s.obj x
  o.cmd == 0 && (o.st == 0 || o.st == 6) && o.edges.isEmpty && o.ints.isEmpty && o.heldEdges.isEmpty && o.lates.isEmpty &&
  o.trans.isNone && !o.probing

/-- The top-level objects that a range of terminals covers. -/
def State.coverTops (s : State) (first count : Nat) : List Nat :=
  ((List.range count).map (fun i => s.topOf (first + i))).foldl (fun l x => if l.contains x then l else l ++ [x]) []

/-- A range of terminals covers whole gangs and bridges (R152). -/
def State.coversWhole (s : State) (first count : Nat) : Bool :=
  (s.coverTops first count).all (fun x => (s.members x).all (fun n => decide (first ≤ n) && decide (n < first + count)))

/-- Hold an object in PROBE; a latched object stays LATCHED (R95, R99). -/
def State.holdProbe (s : State) (x : Nat) : State :=
  s.modObj x (fun o => { o with probing := true, st := (if o.st = 6 then 6 else probeSt x) })

/-- The report SKIPPED of an object that a run does not probe: its result and blocking state stay (R144, R145). -/
def State.skipProbe (s : State) (x : Nat) : State :=
  foldS (s.members x) (fun n s => { s with fab.probes := s.fab.probes.set n { s.fab.probes.get {} n with skipped := true } }) s

/-- An object of type SKIP reports SKIPPED and is never blocked; after power-on it takes its safe state as if it had passed (R113, R141,
R143, DESIGN CHOICE, assumption 155). -/
def State.passSkip (s : State) (x : Nat) : State :=
  let s := (s.probeMark x 8).modObj x (fun o => { o with blocked := false })
  if (s.obj x).probed then s else (s.modObj x (fun o => { o with probed := true })).forceSafe x

/-- An object is OFF with CMD OFF, whatever edges it has pending (R144). -/
def State.offNow (s : State) (x : Nat) : Bool :=
  let o := s.obj x
  o.cmd == 0 && o.st == 0 && o.trans.isNone && !o.probing

/-- The wiring probe of a run may probe an object: it is stopped, or at a start OFF with CMD OFF (R144, R145). -/
def State.mayProbe (s : State) (r : MaintReq) (x : Nat) : Bool :=
  if r.cmd.isSome || !r.objs.isEmpty then s.stopped x else s.offNow x

/-- Start the wiring probe over a range, or over the objects of a retest (R144, R145): an object of a retest that is not stopped
waits another 100 ms for it (DESIGN CHOICE, assumption 121). -/
def State.startProbe (s : State) (r : MaintReq) : List Nat × State :=
  let tops := if r.objs.isEmpty then s.coverTops r.first r.count else r.objs
  let skip := tops.filter (fun x => s.rd (F.PFB_PEXP_TYPE (s.entryTerm x)) == 4)
  let rest := tops.filter (fun x => !skip.contains x)
  let go := rest.filter (fun x => s.mayProbe r x)
  let no := rest.filter (fun x => !go.contains x)
  let s := foldS skip (fun x s => s.passSkip x) s
  let s := if r.objs.isEmpty then foldS no (fun x s => s.skipProbe x) s
    else { s with fab.retests := s.fab.retests ++ no.map (fun x => { obj := x, cause := 3, due := some (s.now + ms 100) }) }
  let s := foldS go (fun x s => s.holdProbe x) s
  (go, { s with fab.probeList := go, fab.probeAll := go, fab.probeCrossed := [], fab.probeCross := bitOf r.flags 0,
                fab.probeState := 1, fab.probeSeq := (s.fab.probeSeq + 1) % 2 ^ 32 })

/-- A re-masking pass starts: more than one period after its due instant, it is counted late (R474). -/
def State.remaskStart (s : State) (r : MaintReq) : State :=
  if r.due + sec (60 * s.rd F.HWN_CFG_REMASK_MIN) < s.now then
    ({ s.sat F.HWN_STAT_REMASK_LATE 1 with cfg.mLateRemask := (s.cfg.mLateRemask + 1) % 2 ^ 32 }).trig 739
  else s

/-- STAGE_COPY starts: the session is PREPARING, the fallback area is being written, and the copy is journaled (R553,
R555). -/
def State.stageStart (s : State) : State :=
  if s.rd F.UPD_STAT_STATE = 4 ∨ s.rd F.UPD_STAT_STATE = 5 then
    { ((s.wr F.UPD_STAT_STATE 5).wrb F.UPD_STAT_FALLBACK_OK false).wr F.UPD_STAT_JOP 1 with upd.stAt := s.now }
  else s

/-- What starting an activity does to its objects (R519). -/
def State.startEffect (s : State) (r : MaintReq) : List Nat × State :=
  if r.act = aPROBE then s.startProbe r
  else if r.act = aCELL_TEST ∨ r.act = aCALIB then
    let go := (s.coverTops r.first r.count).filter (fun x => s.stopped x)
    (go, foldS go (fun x s => s.holdProbe x) s)
  else if r.act = aREMASK then ([], s.remaskStart r)
  else if r.act = aSTAGE_COPY then ([], s.stageStart)
  else ([], s)

/-- Start an activity now. -/
def State.startAct (s : State) (r : MaintReq) : State :=
  let e := s.startEffect r
  { e.2 with cfg.mrun := e.2.cfg.mrun ++ [{ req := r, start := s.now, objs := e.1 }] }

/-- The response payload of a command whose activity starts: the start instant for MAINT_REQUEST (R525), the audit words for
SWC_AUDIT (R271), else none. -/
def State.startPayload (s : State) (op : Nat) : List Byte :=
  if op = 0x0F01 then bytesLE 8 s.now
  else if op = 0x050B then bytesLE 4 ((s.word R.SWC_AUDIT_STAT).withField 1 1 1).toNat ++ bytesLE 4 s.poolFree ++ bytesLE 4 s.swc.snaps
  else []

/-- The command that queued a request, while it waits. -/
def State.maintCmd (s : State) (r : MaintReq) : Option Cmd :=
  match r.cmd with
  | some (n, w, g) => s.mbx.cmds.find? (fun c => c.node == n && c.win == w && c.tag == g && c.phase == .maint)
  | none => none

/-- The limit of the command that queued a request has passed (R62, R71). -/
def State.reqExpired (s : State) (r : MaintReq) : Bool := match s.maintCmd r with | some c => s.expired c | none => false

/-- That command is removed without effect (R62, R71). -/
def State.expireReq (s : State) (r : MaintReq) : State := match s.maintCmd r with | some c => s.expire c | none => s

/-- Answer the command that queued a request (R521). -/
def State.answerReq (s : State) (r : MaintReq) (st : Nat) (pl : List Byte) : State :=
  match s.maintCmd r with | some c => s.answer c st pl | none => s

/-- A request has waited 1 s (R521). -/
def State.waitedLong (s : State) (q : MaintReq) : Bool := q.old || decide (q.since + sec 1 ≤ s.now)

/-- A request can start: compatible with every running activity, permitted by the device state, and with no older request
that has waited 1 s in its way (R520–R522). -/
def State.canStart (s : State) (older : List MaintReq) (r : MaintReq) : Bool :=
  s.actAdmitted r.act && s.cfg.mrun.all (fun m => compatible r.act m.req.act) &&
  older.all (fun q => !s.waitedLong q || compatible r.act q.act)

/-- The requests of a queue in the order they are taken (R521). -/
def maintOrder (l : List MaintReq) : List MaintReq :=
  (List.range 8).flatMap (fun k => l.filter (fun r => maintRank r.act == k))

/-- The arbiter takes its queue (R521). -/
def State.arbitrate (s : State) : State :=
  (foldS (maintOrder s.cfg.mq) (fun r s =>
    if s.reqExpired r then ({ s with cfg.mq := s.cfg.mq.erase r }).expireReq r
    else if s.canStart (s.cfg.mq.takeWhile (fun q => q != r)) r then
      let s := { s with cfg.mq := s.cfg.mq.erase r }
      (s.startAct r).answerReq r stACCEPTED (s.startPayload r.op)
    else s) s).maintStat

/-- A running activity ends: the arbiter takes its queue (R521). -/
def State.endRun (s : State) (a : Nat) : State :=
  ({ s with cfg.mrun := s.cfg.mrun.filter (fun m => m.req.act != a) }).arbitrate

/-- An activity is running. -/
def State.running (s : State) (a : Nat) : Bool := s.cfg.mrun.any (fun m => m.req.act == a)

/-- An activity is queued. -/
def State.queued (s : State) (a : Nat) : Bool := s.cfg.mq.any (fun r => r.act == a)

/-- Room in the queue for an activity: 16 entries, one of them reserved for REMASK and one for BUF_AUDIT (R521). -/
def State.maintRoom (s : State) (a : Nat) : Bool :=
  ((a == aREMASK || a == aBUF_AUDIT) && !s.queued a) || decide (s.cfg.mq.length < 14 + b2n (s.queued aREMASK) + b2n (s.queued aBUF_AUDIT))

/-- A request of the unit's own: queued, and started where it can be (R521). -/
def State.requestAct (s : State) (r : MaintReq) : State :=
  if s.maintRoom r.act then ({ s with cfg.mq := s.cfg.mq ++ [{ r with since := s.now }] }).arbitrate else s

/-- A periodic request: one that is already queued stands for it; held while the sleep phase is READY or COMMITTED
(R522). -/
def State.periodicAct (s : State) (a : Nat) : State :=
  if s.queued a then s
  else if s.rd F.WAK_STAT_PHASE ≠ 0 then
    (if s.cfg.heldActs.any (fun p => p.1 == a) then s else { s with cfg.heldActs := s.cfg.heldActs ++ [(a, s.now)] })
  else s.requestAct { act := a, due := s.now }

/-- The periodic requests that were held are queued once the phase is neither READY nor COMMITTED, late by the time that they were
held (R474, R522). -/
def State.releaseActs (s : State) : State :=
  if s.cfg.heldActs ≠ [] ∧ s.rd F.WAK_STAT_PHASE = 0 then
    foldS s.cfg.heldActs (fun p s => if s.queued p.1 then s else s.requestAct { act := p.1, due := p.2 }) { s with cfg.heldActs := [] }
  else s

/-- A command's request (R521): started at once, refused with NOWAIT, queued, or waiting for an entry. -/
def State.commandAct (s : State) (c : Cmd) (act first count flags : Nat) : Res :=
  let r : MaintReq := { act := act, cmd := some (c.node, c.win, c.tag), op := c.op, who := c.who, first := first, count := count,
                        flags := flags, since := s.now }
  if s.canStart s.cfg.mq r then .done stACCEPTED (s.startPayload c.op) (s.startAct r).maintStat
  else if c.nowait then .done stBUSY_MAINT [] { s with cfg.mBusy := (s.cfg.mBusy + 1) % 2 ^ 32 }
  else if s.maintRoom act then .later .maint s.now ({ s with cfg.mq := s.cfg.mq ++ [r] }).maintStat
  else .wait .waitQueue

/-- The queued request of a command in flight leaves the queue. -/
def State.dropReq (s : State) (c : Cmd) : State :=
  ({ s with cfg.mq := s.cfg.mq.filter (fun r => r.cmd != some (c.node, c.win, c.tag)) }).maintStat

/-- The end of an object's wiring probe: released from PROBE; the first pass of all its members after power-on gives it its safe
state (R113, R133). -/
def State.releaseProbe (s : State) (x : Nat) : State :=
  let s := s.unprobe x
  if !(s.obj x).probed && (s.members x).all (fun n => (s.fab.probes.get {} n).result == 1) then
    (s.modObj x (fun o => { o with probed := true })).forceSafe x
  else s

end Sys2Proof.Machine
end

