-- ==== Sys2Proof/Machine/Grid.lean ====
section
/-!
DEFINITION. Machine/Grid.lean: what a grid instant does in the fabric (R101–R109, R129, R154, R165, R171), the status
page switch (R115), the events of the wiring probe (R142–R144) and the energy log (R173).
-/
namespace Sys2Proof.Machine

/-! ## Measurements -/

def State.setMeas (s : State) (n : Nat) (m : Meas) : State := { s with fab.meas := s.fab.meas.set n m }
def State.feed (s : State) (f : Nat) : Feed := s.fab.feeds.get {} f
def State.setFeed (s : State) (f : Nat) (x : Feed) : State := { s with fab.feeds := s.fab.feeds.set f x }

/-- Hold one cell's sample (R101). -/
def State.holdCell (s : State) (c : CellSample) : State :=
  s.setMeas c.n { s.meas c.n with mA := c.mA, mV := c.mV, tj := c.tj, chkFail := c.chkFail, cool := c.cool }

/-- Hold one feed's sample: its registers, the end of over-voltage (R159) and of measured shedding, and the instants from
which its overload conditions have held (R169). -/
def State.holdFeed (s : State) (p : FeedSample) : State :=
  let x := s.feed p.f
  let lim := s.feedLimit p.f
  let above := decide ((lim : Int) < p.mA)
  let peak := decide ((150000 : Int) < p.mA)
  let s := s.setFeed p.f { x with
      mV := p.mV
      mA := p.mA
      overFrom := if above then some (x.overFrom.getD s.now) else none
      peakFrom := if peak then some (x.peakFrom.getD s.now) else none
      classSFrom := if peak ∧ s.nextVictim (some p.f) = none then some (x.classSFrom.getD s.now) else none }
  let s := s.wr (F.PFB_FEED_STAT_V_FEED p.f) (voltCode p.mV)
  let s := s.wr (F.PFB_FEED_STAT_I_FEED p.f) (min 0x7FFF (p.mA.natAbs / 10))
  let s := if p.mV < 53000 then s.wrb (F.PFB_FEED_STAT_OV p.f) false else s
  if above then s else (s.wrb (F.PFB_FEED_STAT_OVL p.f) false).wrb (F.PFB_FEED_STAT_PEAK p.f) false

/-- The open-load judgement of a grid instant (R109). -/
def olJudge (mode : Nat) (mV : Int) : Nat :=
  if mode = 1 then (if mV < 3000 then 0 else if mV ≤ 5500 then 5 else 6)
  else if mode = 2 then (if mV < 2000 then 5 else 0)
  else 0

/-- The open-load judgement that a cell reports: two grid instants in a row that agree (R109). One that disagrees ends a reported
diagnosis at once (DESIGN CHOICE, assumption 151). -/
def Meas.judge (m : Meas) (j : Nat) : Meas := { m with ol := if j = m.olLast then j else 0, olLast := j }

/-- The digital input of a grid instant (R107, R108). -/
def Meas.filter (m : Meas) (lo hi filt : Nat) : Meas :=
  let high : Bool := if m.mV > (250 * hi : Nat) then true else if m.mV < (250 * lo : Nat) then false else m.last
  let run := if high = m.level then 0 else m.run + 1
  { m with last := high, settle := min 17 (m.settle + 1),
           level := if filt + 1 ≤ run then high else m.level, run := if filt + 1 ≤ run then 0 else run }

/-- A freewheel of the cell's object is running. -/
def State.wheeling (s : State) (n : Nat) : Bool :=
  match s.gangOf n with
  | none => (s.obj n).wheel != .none
  | some g => (s.obj (xGang g)).wheel != .none

/-- A cell at a grid instant: alignment, the input settings whose boundary it is, input and open-load readings (R101, R106–R109,
R119). -/
def State.gridCell (s : State) (n : Nat) : State :=
  let st := (s.cellView n).st
  let m := { s.meas n with unaligned := !s.aligned (10 + n / 16), filt := s.rd (F.PFB_CELL_CFG1_IN_FILT n), wet := s.rd (F.PFB_CELL_CFG1_WET n) }
  let m := if st = 3 then m.filter (s.rd (F.PFB_CELL_CFG2_THR_LO n)) (s.rd (F.PFB_CELL_CFG2_THR_HI n)) (s.rd (F.PFB_CELL_CFG1_IN_FILT n))
    else { m with level := false, last := false, run := 0, settle := 0 }
  let m := if st = 0 ∧ s.wheeling n = false then m.judge (olJudge (s.rd (F.PFB_CELL_CFG1_OL_MODE n)) m.mV) else m.judge 0
  s.setMeas n m

/-- The cause of an object still holds (R103). -/
def State.causeHolds (s : State) (x : Nat) : Bool :=
  let o := s.obj x
  o.st == 5 || o.st == 6 || o.retryWait || s.objLost x ||
  (o.st == 3 && isCell x && s.rdb (F.PFB_FEED_STAT_UV (s.feedOf x)))

/-- CAUSE at a grid instant: cleared where nothing holds it; an input under a feed below UV_OFF is invalid (R96, R103). -/
def State.gridCause (s : State) (x : Nat) : State :=
  let o := s.obj x
  if s.causeHolds x then
    (if o.cause = 0 ∧ o.st = 3 then (s.setObj x { o with cause := 4 }).bumpEvt x else s)
  else if o.cause = 0 then s
  else s.setObj x { o with cause := 0 }

/-- Count a cell's own change of CAUSE from 0 (PFB_TSn_A), given its cause before: its object's own is counted with the object. -/
def State.gridEvt (s : State) (n before : Nat) : State :=
  if before = 0 ∧ s.causeOf n ≠ 0 ∧ (s.cellView n).cause = 0 then (s.modObj n (fun o => { o with evt := (o.evt + 1) % 256 })).trig (640 + n / 16) else s

/-! ## Current sharing of gangs (R129) -/

/-- A member's current lies outside the sharing band of a sum over `k` members. -/
def shareBad (a sum k : Nat) : Bool := decide (13 * sum + 500 * k < 10 * a * k) || decide (2 * a * k < sum)

/-- The sharing comparison of a gang at a grid instant. -/
def State.gridShare (s : State) (g : Nat) : State :=
  let l := s.gangMembers g
  let v := s.gangView g
  let a (n : Nat) : Nat := (s.meas n).mA.natAbs
  let sum := l.foldl (fun x n => x + a n) 0
  let fault := l.any (fun n => s.causeOf n != 0)
  let on := v.st == 1 || v.st == 2
  let stop := (s.obj (xGang g)).shareStop || (on && fault)
  if !on || stop || decide (sum < 200 * l.length) then
    let s := foldS l (fun n s => s.setMeas n { s.meas n with share := 0 }) s
    s.modObj (xGang g) (fun o => { o with shareStop := stop })
  else
    let s := foldS l (fun n s => s.setMeas n { s.meas n with share := if shareBad (a n) sum l.length then min 400 ((s.meas n).share + 1) else 0 }) s
    match l.find? (fun n => (s.meas n).share == 400) with
    | some n =>
      if (s.obj (xGang g)).shareWarn then s
      else (s.modObj (xGang g) (fun o => { o with shareWarn := true, tripTerm := n })).ownFault 0x0203 .corrected (s.objOwner (s.topOf (xGang g))) (xGang g) n
    | none => s

/-! ## Energy (R171) -/

/-- Add picojoules to a meter: delivered for a positive amount, returned for a negative one; the remainder below 1 µJ is
carried (R171). -/
def State.meter (s : State) (m : Nat) (e : Int) : State :=
  if 0 ≤ e then
    let x := s.fab.remDel.get 0 m + e.natAbs
    { s with fab.mDel := s.fab.mDel.set m ((s.fab.mDel.get 0 m + x / 1000000) % 2 ^ 64), fab.remDel := s.fab.remDel.set m (x % 1000000) }
  else
    let x := s.fab.remRet.get 0 m + e.natAbs
    { s with fab.mRet := s.fab.mRet.set m ((s.fab.mRet.get 0 m + x / 1000000) % 2 ^ 64), fab.remRet := s.fab.remRet.set m (x % 1000000) }

/-- A cell's energy of one grid interval, to its own meter and its holder's. -/
def State.meterCell (s : State) (n : Nat) : State :=
  let m := s.meas n
  let e : Int := m.mA * max 0 m.mV * 250
  if e = 0 then s else (s.meter n e).meter (608 + s.objOwner (s.topOf n)) e

/-- A feed's energy of one grid interval. -/
def State.meterFeed (s : State) (f : Nat) : State := s.meter (625 + f) ((s.feed f).mA * (s.feed f).mV * 250)

/-- The distribution loss now, mW (R165). -/
def State.lossNow (s : State) : Nat :=
  ((List.range 512).foldl (fun a n => a + s.cellLoss n) 0 +
   ([1, 2, 3, 4] : List Nat).foldl (fun a f => a + (s.feed f).mA.natAbs ^ 2 * 200) 0) / 10 ^ 9

/-- E_DEL of a meter: gangs and bridges are sums over their members (R171). -/
def State.eDel (s : State) (m : Nat) : Nat :=
  if 512 ≤ m ∧ m < 608 then (s.members m).foldl (fun a n => a + s.fab.mDel.get 0 n) 0 % 2 ^ 64 else s.fab.mDel.get 0 m
/-- E_RET of a meter. -/
def State.eRet (s : State) (m : Nat) : Nat :=
  if 512 ≤ m ∧ m < 608 then (s.members m).foldl (fun a n => a + s.fab.mRet.get 0 n) 0 % 2 ^ 64 else s.fab.mRet.get 0 m

/-- PFB_HEAT_STAT follows the means (R165). -/
def State.heatStat (s : State) : State :=
  let h := s.fab.hist
  let s := s.wr F.PFB_HEAT_STAT_P_ELEC (min 1023 (meanOf 4000 (h.map (fun p => p.1)) / 100))
  let s := s.wr F.PFB_HEAT_STAT_P_DIST (min 1023 (meanOf 4000 (h.map (fun p => p.2)) / 100))
  let s := if decide (meanOf 4000 (h.map (fun p => p.1 + p.2)) < 100 * s.heatLim) then s.wrb F.PFB_HEAT_STAT_HOT false else s
  s.wr F.PFB_HEAT_STAT_HEAT_LIM s.heatLim

/-- The energy and the loss of a grid interval, with the electronics' power in mW. -/
def State.gridEnergy (s : State) (elec : Nat) : State :=
  let loss := s.lossNow
  let s := foldS (List.range 512) (fun n s => s.meterCell n) s
  let s := foldS [1, 2, 3, 4] (fun f s => s.meterFeed f) s
  let s := (s.meter 630 (elec * 250000 : Nat)).meter 631 (loss * 250000 : Nat)
  ({ s with fab.hist := ((elec, loss) :: s.fab.hist).take 40000 }).heatStat

/-! ## The grid instant -/

/-- The cause of an ABORTED probe has cleared (R144). -/
def State.retestClear (s : State) (r : Retest) : Bool :=
  match r.cause with
  | 0 => !s.rdb (F.PFB_FEED_STAT_UV (s.feedOf r.obj))
  | 1 => !s.objLost r.obj
  | 2 => (s.obj r.obj).st != 6
  | _ => s.boot.privetEnd.isNone

/-- Judge the causes of ABORTED objects: the new probe is due 100 ms after the first grid instant that finds the cause
cleared (R144). -/
def State.gridRetests (s : State) : State :=
  { s with fab.retests := s.fab.retests.map (fun r => if r.due.isNone && s.retestClear r then { r with due := some (s.now + ms 100) } else r) }

/-- What a grid instant does in the fabric. -/
def gridFabric (t : Nat) (cells : List CellSample) (feeds : List FeedSample) (elec : Nat) (s : State) : State :=
  let s := s.at_ t
  if t % us 250 = 0 ∧ s.now = t then
    let before := (List.range 512).map (fun n => s.causeOf n)
    let s := { s with fab.lastGrid := t }
    let s := foldS (cells.filter (fun c => decide (c.n < 512))) (fun c s => s.holdCell c) s
    let s := foldS (feeds.filter (fun p => decide (1 ≤ p.f) && decide (p.f ≤ 4))) (fun p s => s.holdFeed p) s
    let s := foldS (List.range 608) (fun x s => s.gridCause x) s
    let s := foldS (List.range 512) (fun n s => s.gridCell n) s
    let s := foldS (List.range 512) (fun n s => s.gridEvt n (before.getD n 0)) s
    let s := foldS ((List.range 64).filter (fun g => s.rdb (F.PFB_GANG_DEF_VALID g))) (fun g s => s.gridShare g) s
    let s := s.gridEnergy elec
    let s := s.gridRetests
    { s with fab.snap := (List.range 512).map (fun n => (s.wordA n, s.wordB n)), fab.snapAt := t }
  else s

/-- STATUS_PAGE_SWITCH: the samples of the last grid instant fill the page that is not selected, which is then selected
(R101, R115). -/
def statusPageSwitch (t : Nat) (s : State) : State :=
  let s := s.at_ t
  if s.fab.snap.isEmpty || decide (s.now < s.fab.snapAt + us 25) then s
  else
    let p := s.rd F.PFB_TS_SEL_PAGE
    let s := if p = 0 then { s with fab.page1 := s.fab.snap, fab.stamp1 := s.fab.snapAt, fab.snap := [] }
      else { s with fab.page0 := s.fab.snap, fab.stamp0 := s.fab.snapAt, fab.snap := [] }
    (s.wr F.PFB_TS_SEL_PAGE (1 - p)).inc F.PFB_TS_SEL_SEQ

/-! ## The wiring probe -/

/-- The upper limit of the probe at an object in mΩ: 4,000 Ω, and 400 Ω at feeds below 8 V (R140). -/
def State.probeLimit (s : State) (x : Nat) : Nat := if (s.feed (s.feedOf x)).mV < 8000 then 400000 else 4000000

/-- A resistance within the measuring range; a reading above it is open (R140). -/
def State.inRange (s : State) (x : Nat) (ohm : Option Nat) : Option Nat := ohm.filter (fun v => decide (v ≤ s.probeLimit x))

/-- The readings of an object as the limits of R140 and the thresholds of R142 leave them: members that differ by more than 20 mV,
terminals of the connector outside the object that rise by more than 50 mV. -/
structure ProbeRead where
  ohm    : Option Nat
  split  : List Nat
  cross  : List Nat
  legGnd : Bool
deriving DecidableEq, Repr

/-- The readings judged by R140 and R142; a connector carries the 128 terminals of its feed (R27). -/
def State.probeRead (s : State) (x : Nat) (r : ProbeReading) : ProbeRead :=
  let l := s.members x
  { ohm := s.inRange x r.ohm
    split := (r.split.filter (fun p => decide (200 < p.2))).map (fun p => p.1)
    cross := (r.cross.filter (fun p => decide (500 < p.2) && decide (p.1 < 512) && (p.1 / 128 + 1 == s.feedOf x) && !l.contains p.1)).map (fun p => p.1)
    legGnd := (s.inRange x r.legGnd).isSome }

/-- The resistance judgement of R142 against the entry of a terminal: 0 passes. -/
def State.resJudge (s : State) (n : Nat) (r : ProbeRead) : Nat :=
  let ty := s.rd (F.PFB_PEXP_TYPE n)
  let unit := if s.rdb (F.PFB_PEXP_RANGE n) then 1000 else 10
  if ty = 0 then (if r.ohm.isSome then 2 else 0)
  else if ty = 3 ∧ r.legGnd = true then 2
  else match r.ohm with
    | none => 4
    | some v => if v < unit * s.rd (F.PFB_PEXP_RMIN n) then 2 else if unit * s.rd (F.PFB_PEXP_RMAX n) < v then 3 else 0

/-- The result code of a terminal of an object (R142): the first failing check, or PASS. -/
def State.probeCode (s : State) (x n idle : Nat) (r : ProbeRead) : Nat :=
  let e := s.entryTerm x
  if 1000 < idle ∧ s.rd (F.PFB_PEXP_TYPE e) ≠ 2 then 5
  else if s.fab.probeCross && (!r.cross.isEmpty || s.fab.probeCrossed.contains x) then 7
  else if r.split.contains n ∧ isCell x = false then 6
  else match s.resJudge e r with
    | 0 => 1
    | c => c

/-- RMEAS in the unit of RANGE, 0xFFFF for open (R153); rounded down, and at most 0xFFFE (DESIGN CHOICE, assumption 116). -/
def State.rmeasOf (s : State) (e : Nat) (r : ProbeRead) : Nat :=
  match r.ohm with
  | none => 0xFFFF
  | some v => min 0xFFFE (v / (if s.rdb (F.PFB_PEXP_RANGE e) then 1000 else 10))

/-- A crossing found at another object (R142): its result where the same run probes it, else only a report. -/
def State.crossOther (s : State) (y : Nat) : State :=
  if s.fab.probeAll.contains y then
    (if s.fab.probeList.contains y then { s with fab.probeCrossed := s.fab.probeCrossed ++ [y] }
     else if (s.fab.probes.get {} (s.entryTerm y)).result = 5 ∨ (s.fab.probes.get {} (s.entryTerm y)).result = 9 then s
     else (s.probeMark y 7).verdict y 7)
  else s.ownFault 0x0202 .corrected (s.objOwner y) (lowest (s.members y)) 7

/-- PROBE_SETTLE_EXPIRY: the probe reads an object and records its result (R142, R143). -/
def probeSettleExpiry (t x : Nat) (r : ProbeReading) (s : State) : State :=
  let s := s.at_ t
  if s.fab.probeList.contains x && (s.obj x).probing then
    let e := s.entryTerm x
    let m := s.probeRead x r
    let codes := (s.members x).map (fun n => (n, s.probeCode x n r.idle m))
    let first := ((codes.find? (fun p => p.2 != 1)).map (fun p => p.2)).getD 1
    let s := foldS codes (fun p s =>
      let q := { s.fab.probes.get {} p.1 with result := p.2, skipped := false, rmeas := s.rmeasOf e m, range := s.rdb (F.PFB_PEXP_RANGE e) }
      { s with fab.probes := s.fab.probes.set p.1 q }) s
    let s := { s with fab.probeList := s.fab.probeList.erase x }
    let s := s.verdict x first
    let others := if s.fab.probeCross then (m.cross.map (fun n => s.topOf n)).foldl (fun l y => if l.contains y || y == x then l else l ++ [y]) [] else []
    foldS others (fun y s => s.crossOther y) s
  else s

/-- PROBE_RETRY_TIMER: a new probe of every ABORTED object whose 100 ms have passed is requested, for that object alone (R144). -/
def probeRetryTimer (t : Nat) (s : State) : State :=
  let s := s.at_ t
  let due := s.fab.retests.filter (fun r => match r.due with | some d => decide (d ≤ s.now) | none => false)
  foldS due (fun r s =>
    if s.maintRoom aPROBE then
      ({ s with fab.retests := s.fab.retests.erase r }).requestAct { act := aPROBE, objs := [r.obj] }
    else s) s

/-! ## The energy log (R173) -/

/-- One step of CRC-32 over a bit (IEEE 802.3, reflected). -/
def crcBit (c : Nat) : Nat := if c % 2 = 1 then (c / 2) ^^^ 0xEDB88320 else c / 2
/-- CRC-32 over a byte. -/
def crcByte (c : Nat) (b : Byte) : Nat := (List.range 8).foldl (fun c _ => crcBit c) (c ^^^ b.toNat)
/-- CRC-32 with the IEEE 802.3 polynomial. -/
def crc32 (l : List Byte) : Nat := (l.foldl crcByte 0xFFFFFFFF) ^^^ 0xFFFFFFFF

/-- Millijoules delivered by a meter since the last record. -/
def State.sinceRec (s : State) (m : Nat) : Nat := ((s.eDel m + 2 ^ 64 - s.fab.elogBase.get 0 m) % 2 ^ 64) / 1000

/-- The first 252 bytes of an energy log record. -/
def State.energyRec (s : State) : List Byte :=
  bytesLE 8 s.now ++ bytesLE 4 s.fab.elogSeq ++ bytesLE 3 (((s.now : Int) - s.fab.elogAt) / 1000000).toNat ++
  bytesLE 1 (b2n s.fab.elogStep + 2 * b2n s.fab.elogRestored + 4 * b2n s.fab.elogPartial) ++
  ([626, 627, 628, 629, 630, 631] : List Nat).flatMap (fun m => bytesLE 8 (s.sinceRec m)) ++
  (List.range 18).flatMap (fun v => bytesLE 8 (s.sinceRec (608 + v))) ++ List.replicate 44 0

/-- Write an energy log record and copy the totals (R172, R173). -/
def State.logEnergy (s : State) : State :=
  let r := s.energyRec
  { s with fab.elog := s.fab.elog.set (s.fab.elogSeq % 8192) (r ++ bytesLE 4 (crc32 r)),
           fab.elogSeq := (s.fab.elogSeq + 1) % 2 ^ 32, fab.elogAt := s.now,
           fab.elogBase := s.fab.mDel, fab.elogBaseRet := s.fab.mRet,
           fab.elogStep := false, fab.elogRestored := false, fab.elogPartial := false }

/-- ENERGY_LOG_RECORD: at a multiple of ELOG_INT (R173). -/
def energyLogRecord (t : Nat) (s : State) : State :=
  let s := s.at_ t
  if s.aligned 9 = true ∧ t = s.now ∧ 0 < s.rd F.PFB_GOV_CFG_ELOG_INT ∧ t % sec (s.rd F.PFB_GOV_CFG_ELOG_INT) = 0 ∧ s.fab.elogAt < t then s.logEnergy else s

end Sys2Proof.Machine
end

