-- ==== Sys2Proof/Machine/GovCycle.lean ====
section
/-!
DEFINITION. Machine/GovCycle.lean: the governor's cycle and its timed events (R162, R164, R167–R170).
-/
namespace Sys2Proof.Machine

/-! ## Restoring broken limits after an overlay switch (R164) -/

/-- Victims, in order, until a need in mA is met; a standing charge frees nothing. -/
def State.pickVictims (s : State) : List Nat → Int → List Nat
  | [], _ => []
  | x :: l, need =>
    if need ≤ 0 then []
    else if (s.obj x).standing then s.pickVictims l need
    else x :: s.pickVictims l (need - s.charge x)

/-- The charges of objects that a pending shedding edge will release. -/
def State.releasing (s : State) (l : List Nat) : Nat :=
  (l.filter (fun x => (s.obj x).hasInt .shed && !(s.obj x).standing)).foldl (fun a x => a + s.charge x) 0

/-- A holder whose USED exceeds its ALLOT sheds its own objects, class S excepted. OVER_ALLOT shows that charges stay above ALLOT, those of
class S or standing ones; it is judged, and clears, only at the cycle after a switch (DESIGN CHOICE, assumption 158). -/
def State.fitAllot (s : State) (v : Nat) : State :=
  let need : Int := (s.usedH v : Nat) - (s.releasing (s.tops.filter (fun x => s.objOwner x == v)) : Nat) - (s.allot v : Nat)
  let l := s.pickVictims ((s.candidates 0).filter (fun x => s.objOwner x == v)) need
  let left : Int := need - (l.foldl (fun a x => a + s.charge x) 0 : Nat)
  (s.shedAll s.now l).wrb (F.PFB_ALLOT_USED_OVER_ALLOT v) (decide (left > 0))

/-- A feed whose USED exceeds FEED_LIMIT sheds victims on it from every class but S. -/
def State.fitFeed (s : State) (f : Nat) : State :=
  s.shedAll s.now (s.pickVictims ((s.candidates 0).filter (fun x => s.feedOf x == f)) ((s.usedF f : Nat) - (s.releasing (s.topsOf f) : Nat) - (s.feedLimit f : Nat)))

/-- The limits that new charges or allotments break are restored at the first cycle after the switch (R164). -/
def State.fitLimits (s : State) : State :=
  if s.fab.govCheck then
    let s := { s with fab.govCheck := false }
    foldS [1, 2, 3, 4] (fun f s => s.fitFeed f) (foldS (List.range 18) (fun v s => s.fitAllot v) s)
  else s

/-! ## Standing charges and safe states (R111, R162) -/

/-- A standing charge is wanted for the object: by the cycle engine, or for a FAST_EN gang once the configuration is
loaded, but not from the commit of sleep on, when no charge may remain (R363). -/
def State.wantsStanding (s : State) (x : Nat) : Bool := (s.obj x).wantStanding || (s.fab.loaded && s.fastEn x && s.rd F.WAK_STAT_PHASE != 2)

/-- Try to take the standing charge of an object. Its heat rise is figured for ON_HIGH, action 1, whatever the object will be commanded
(R166, DESIGN CHOICE, assumption 157). -/
def State.takeStanding (s : State) (x : Nat) : State :=
  if (s.obj x).standing || !s.wantsStanding x then s
  else
    let d := s.iDecl x - s.charge x
    match s.admission x 1 d true with
    | .grant v => (s.shedAll s.now v).modObj x (fun o => { o with standing := true, admAt := s.now })
    | _ => s

/-- Try a deferred safe state again. -/
def State.retrySafe (s : State) (x : Nat) : State := if (s.obj x).wantSafe.isSome then s.applySafe x else s

/-! ## Restoration (R170) -/

/-- The charge that a restoration brings back. -/
def State.backCharge (s : State) (x : Nat) : Nat := if (s.obj x).standing then 0 else s.chargeFor x (s.obj x).cmd

/-- The four conditions of R170 hold now, and no over-voltage defers a charge on the feed (R159). -/
def State.mayRestore (s : State) (x : Nat) : Bool :=
  let d := s.backCharge x
  !s.rdb (F.PFB_FEED_STAT_OV (s.feedOf x)) &&
  decide (10 * (s.usedF (s.feedOf x) + d) ≤ 9 * s.feedLimit (s.feedOf x)) &&
  decide (10 * (s.pElec + s.pDist + s.heatRise x (s.obj x).cmd (s.chargeFor x (s.obj x).cmd)) ≤ 9 * (100 * s.heatLim)) &&
  decide (s.usedH (s.objOwner x) + d ≤ s.allot (s.objOwner x)) && decide ((s.obj x).cmd ≠ 0)

/-- RESTORE_DLY of the object's feed. -/
def State.restoreDly (s : State) (x : Nat) : Nat := ms (100 * s.rd (F.PFB_FEED_CFG1_RESTORE_DLY (s.feedOf x)))

/-- Note since when the conditions of a shed object have held. -/
def State.trackRestore (s : State) (x : Nat) : State :=
  s.modObj x (fun o => { o with restFrom := if s.mayRestore x then some (o.restFrom.getD s.now) else none })

/-- Restore a shed object whose conditions have held for RESTORE_DLY, unless its feed has shed in this cycle. -/
def State.restoreIfDue (s : State) (x : Nat) : State :=
  match (s.obj x).restFrom with
  | some t0 =>
    if (s.obj x).shed && !(s.obj x).hasInt .restore && s.mayRestore x && decide (t0 + s.restoreDly x ≤ s.now) && !s.fab.shedFeeds.contains (s.feedOf x) then
      ({ s with fab.restFeeds := s.feedOf x :: s.fab.restFeeds } : State).modObj x (fun o => { o with admAt := s.now, ints := o.ints ++ [{ at_ := s.now, action := 0, kind := .restore }] })
    else s
  | none => s

/-- Insert an object by the order in which it was shed. -/
def State.insShed (s : State) (x : Nat) : List Nat → List Nat
  | [] => [x]
  | y :: l => if (s.obj x).shedSeq < (s.obj y).shedSeq then x :: y :: l else y :: s.insShed x l

/-- The shed objects of a class, in the order in which they were shed. -/
def State.shedOf (s : State) (cls : Nat) : List Nat :=
  (s.tops.filter (fun x => (s.obj x).shed && (s.classOf x == cls))).foldl (fun l x => s.insShed x l) []

/-- The commands deferred for objects of a class, in the order in which they were taken. -/
def State.deferredOf (s : State) (cls : Nat) : List Cmd :=
  s.mbx.cmds.filter (fun c => c.phase == .deferred && (match driveArgs c with | some p => s.classOf p.1 == cls | none => false))

/-- Admit a deferred command again, unless its limit has passed (R62, R167). -/
def State.readmit (s : State) (c : Cmd) : State :=
  if s.expired c then s.expire c
  else match driveArgs c with
    | some (x, a, at_, fl) => s.retryDrive c x a at_ fl
    | none => s

/-- One class of a governor cycle: restorations, then deferred commands (R170). -/
def State.cycleClass (s : State) (cls : Nat) : State :=
  let s := foldS (s.shedOf cls) (fun x s => (s.trackRestore x).restoreIfDue x) s
  foldS (s.deferredOf cls) (fun c s => s.readmit c) s

/-- GOVERNOR_CYCLE: once per millisecond (R164, R166–R170). -/
def governorCycle (t : Nat) (s : State) : State :=
  let s := s.at_ t
  if s.fab.lastGov + ms 1 ≤ s.now then
    let s := { s with fab.lastGov := s.now }
    let s := s.fitLimits
    let s := foldS s.tops (fun x s => s.takeStanding x) s
    let s := foldS s.tops (fun x s => s.retrySafe x) s
    let s := foldS [0, 1, 2, 3] (fun c s => s.cycleClass c) s
    { s with fab.shedFeeds := [] }
  else s

/-- RESTORE_DELAY_EXPIRY (R170). -/
def restoreDelayExpiry (t x : Nat) (s : State) : State :=
  let s := s.at_ t
  if s.isTop x then { s.restoreIfDue x with fab.restFeeds := [] } else s

/-- DEFER_MAX_EXPIRY: a deferred command is answered BUDGET_DENIED (R167). -/
def deferMaxExpiry (t node w tag : Nat) (s : State) : State :=
  let s := s.at_ t
  match s.mbx.cmds.find? (fun c => c.node == node && c.win == w && c.tag == tag && c.phase == .deferred) with
  | some c =>
    if c.aux + ms (10 * s.rd F.PFB_GOV_CFG_DEFER_MAX) ≤ s.now then
      (s.denyAwaited c).answer c stBUDGET_DENIED []
    else s
  | none => s

/-! ## Measured shedding (R169) -/

/-- FEED_OVERLOAD_DELAY_EXPIRY. -/
def feedOverloadDelayExpiry (t f : Nat) (s : State) : State :=
  let s := s.at_ t
  match (s.feed f).overFrom with
  | some e =>
    if 1 ≤ f ∧ f ≤ 4 ∧ e + ms (s.rd (F.PFB_FEED_CFG1_OVL_DLY f)) ≤ s.now ∧ s.rdb (F.PFB_FEED_STAT_OVL f) = false then
      let s := (s.wrb (F.PFB_FEED_STAT_OVL f) true).sysFault 0x0303 .corrected f 0
      if s.rdb (F.PFB_FEED_STAT_PEAK f) then s.shedOne (some f)
      else (s.shedOne (some f)).setFeed f { s.feed f with nextShed := s.now + ms 10 }
    else s
  | none => s

/-- FEED_PEAK. -/
def feedPeak (t f : Nat) (s : State) : State :=
  let s := s.at_ t
  match (s.feed f).peakFrom with
  | some e =>
    if 1 ≤ f ∧ f ≤ 4 ∧ e + ms 1 ≤ s.now ∧ s.rdb (F.PFB_FEED_STAT_PEAK f) = false then
      let s := s.wrb (F.PFB_FEED_STAT_PEAK f) true
      (s.shedOne (some f)).setFeed f { s.feed f with nextShed := s.now + ms 1 }
    else s
  | none => s

/-- HEAT_SHED_START: judged only once 10 s of grid samples exist. -/
def heatShedStart (t : Nat) (s : State) : State :=
  let s := s.at_ t
  if s.fab.hist.length = 40000 ∧ 100 * s.heatLim < meanOf 40000 (s.fab.hist.map (fun p => p.1 + p.2)) ∧ s.rdb F.PFB_HEAT_STAT_HOT = false then
    let s := (s.wrb F.PFB_HEAT_STAT_HOT true).sysFault 0x0304 .corrected 0xFFFF 0
    { s.shedOne none with fab.hotNext := s.now + ms 100 }
  else s

/-- The next interval of a feed's measured shedding. -/
def State.shedFeedNext (s : State) (f : Nat) : State :=
  let peak := s.rdb (F.PFB_FEED_STAT_PEAK f)
  if (peak || s.rdb (F.PFB_FEED_STAT_OVL f)) && decide ((s.feed f).nextShed ≤ s.now) then
    (s.shedOne (some f)).setFeed f { s.feed f with nextShed := s.now + ms (if peak then 1 else 10) }
  else s

/-- MEASURED_SHED_INTERVAL: one more victim of each measured condition that persists and whose interval has elapsed. -/
def measuredShedInterval (t : Nat) (s : State) : State :=
  let s := s.at_ t
  let s := foldS [1, 2, 3, 4] (fun f s => s.shedFeedNext f) s
  if s.rdb F.PFB_HEAT_STAT_HOT && decide (s.fab.hotNext ≤ s.now) then { s.shedOne none with fab.hotNext := s.now + ms 100 } else s

/-- CLASS_S_OVERLOAD_EXPIRY: only class S objects remain and I_FEED stays above 150 A for 10 s. -/
def classSOverloadExpiry (t f : Nat) (s : State) : State :=
  let s := s.at_ t
  match (s.feed f).classSFrom with
  | some e =>
    if 1 ≤ f ∧ f ≤ 4 ∧ e + sec 10 ≤ s.now ∧ s.nextVictim (some f) = none then
      (s.setFeed f { s.feed f with classSFrom := none }).sysFault 0x0303 .contained f 0
    else s
  | none => s

/-- FEED_OVERVOLT (R159). -/
def feedOvervolt (t f : Nat) (s : State) : State :=
  let s := s.at_ t
  if 1 ≤ f ∧ f ≤ 4 ∧ s.rdb (F.PFB_FEED_STAT_OV f) = false then
    (s.wrb (F.PFB_FEED_STAT_OV f) true).sysFault 0x0302 .corrected f 0
  else s

end Sys2Proof.Machine
end

