-- ==== Sys2Proof/Machine/CellCmds.lean ====
section
/-!
DEFINITION. Machine/CellCmds.lean: the commands of cells, gangs, bridges and the wiring probe (groups 0x02, R117–R122,
R147–R153): steps 7 to 15 of R66 for each.
-/
namespace Sys2Proof.Machine

/-- LEN is exactly `n`. -/
def lenIs (n : Nat) (l : Nat) : Bool := l == n

/-- A word pair as bytes. -/
def wordBytes (w : Word) : List Byte := bytesLE 4 w.toNat

/-- An object in PROBE makes a command wait, or answers BUSY_MAINT with NOWAIT (R62, R118). -/
def State.busyMaint (s : State) (c : Cmd) : Res :=
  if c.nowait then .done stBUSY_MAINT [] { s with cfg.mBusy := (s.cfg.mBusy + 1) % 2 ^ 32 } else .wait .waitObject

/-- AT lies from 50 µs to 10 s after the take instant, or is 0 (R118). -/
def atOk (c : Cmd) (at_ : Nat) : Bool := at_ == 0 || (decide (c.taken + us 50 ≤ at_) && decide (at_ ≤ c.taken + sec 10))

/-- The command would change a class S top-level object for a requester whose pair has LOCKSTEP_BROKEN set (R442). -/
def State.brokenFor (s : State) (c : Cmd) (x : Nat) : Bool := s.lockBroken c && (s.classOf (s.topOf x) == 0)

/-! ## Setting (R118, R148) -/

/-- Steps 12 to 15 of CELL_SET, GANG_SET and BRIDGE_SET: `other` says that the object is switched by something else. -/
def State.setObject (s : State) (c : Cmd) (x a at_ : Nat) (flush other : Bool) : Res :=
  need (!other && !s.brokenFor c x && (s.driverOf x != 1) && ((s.obj x).st != 6) && !(s.barred x && (a != 0 || !isCell x))) stMODE_FORBIDS <|
  need (!s.objLost x) stINTERNAL_FAULT <|
  if (s.obj x).probing then s.busyMaint c
  else if !isCell x && !flush && decide (8 ≤ (s.obj x).edges.length) && !(s.obj x).edges.any (fun e => e.at_ == at_) then .wait .waitObject
  else s.admitDrive c x a at_ flush

def cellSetBody (c : Cmd) (s : State) : Res :=
  let n := c.arg 0 2
  let a := c.arg 2 1
  let at_ := c.arg 4 8
  need (decide (n < 512) && decide (a ≤ 3) && c.zero 3 1 && atOk c at_) stBAD_ARGUMENT <|
  need (s.owns c kTerm n) stNOT_OWNER <|
  s.setObject c n a at_ false (s.gangOf n).isSome

def gangSetBody (c : Cmd) (s : State) : Res :=
  let g := c.arg 0 1
  let a := c.arg 1 1
  let at_ := c.arg 4 8
  need (decide (g < 64) && s.defined (xGang g) && decide (a ≤ 2) && decide (c.arg 2 1 ≤ 1) && c.zero 3 1 && c.zero 12 4 && atOk c at_) stBAD_ARGUMENT <|
  need (s.owns c kGang g) stNOT_OWNER <|
  s.setObject c (xGang g) a at_ (bitOf (c.arg 2 1) 0) (s.brgOf g).isSome

def bridgeSetBody (c : Cmd) (s : State) : Res :=
  let h := c.arg 0 1
  let a := c.arg 1 1
  let at_ := c.arg 4 8
  need (decide (h < 32) && s.defined (xBrg h) && decide (a ≤ 4) && decide (c.arg 2 1 ≤ 1) && c.zero 3 1 && c.zero 12 4 && atOk c at_) stBAD_ARGUMENT <|
  need (s.owns c kBrg h) stNOT_OWNER <|
  s.setObject c (xBrg h) a at_ (bitOf (c.arg 2 1) 0) false

/-! ## Configuration (R119, R149) -/

def cellFlds (n : Nat) : List CfgFld := [
  ⟨F.PFB_CELL_CFG0_DT n, .live, anyVal⟩, ⟨F.PFB_CELL_CFG0_OC_BLANK n, .live, upTo 10⟩, ⟨F.PFB_CELL_CFG0_RETRY_DLY n, .live, anyVal⟩,
  ⟨F.PFB_CELL_CFG0_RETRIES n, .live, anyVal⟩, ⟨F.PFB_CELL_CFG0_TURNOFF n, .live, anyVal⟩, ⟨F.PFB_CELL_CFG0_SLEW n, .live, anyVal⟩,
  ⟨F.PFB_CELL_CFG0_ILIM n, .live, upTo 28⟩,
  ⟨F.PFB_CELL_CFG1_IN_FILT n, .live, anyVal⟩, ⟨F.PFB_CELL_CFG1_WET_DIR n, .live, anyVal⟩, ⟨F.PFB_CELL_CFG1_WET n, .live, upTo 4⟩,
  ⟨F.PFB_CELL_CFG1_OL_MODE n, .live, upTo 2⟩, ⟨F.PFB_CELL_CFG1_DRIVER n, .locked, upTo 1⟩, ⟨F.PFB_CELL_CFG1_HOLD_MS n, .staged, upTo 2000⟩,
  ⟨F.PFB_CELL_CFG1_SAFE_ST n, .staged, upTo 2⟩, ⟨F.PFB_CELL_CFG1_DISP n, .staged, upTo 2⟩,
  ⟨F.PFB_CELL_CFG2_FW_MAX n, .live, between 1 255⟩, ⟨F.PFB_CELL_CFG2_THR_HI n, .live, anyVal⟩, ⟨F.PFB_CELL_CFG2_THR_LO n, .live, anyVal⟩]

def gangFlds (g : Nat) : List CfgFld := [
  ⟨F.PFB_GANG_CFG0_DT g, .live, anyVal⟩, ⟨F.PFB_GANG_CFG0_OC_BLANK g, .live, upTo 10⟩, ⟨F.PFB_GANG_CFG0_RETRY_DLY g, .live, anyVal⟩,
  ⟨F.PFB_GANG_CFG0_RETRIES g, .live, anyVal⟩, ⟨F.PFB_GANG_CFG0_TURNOFF g, .live, anyVal⟩, ⟨F.PFB_GANG_CFG0_SLEW g, .live, anyVal⟩,
  ⟨F.PFB_GANG_CFG0_ILIM g, .live, upTo 28⟩,
  ⟨F.PFB_GANG_CFG1_FAST_EN g, .locked, anyVal⟩, ⟨F.PFB_GANG_CFG1_DRIVER g, .locked, upTo 1⟩, ⟨F.PFB_GANG_CFG1_FW_MAX g, .live, between 1 255⟩,
  ⟨F.PFB_GANG_CFG1_HOLD_MS g, .staged, upTo 2000⟩, ⟨F.PFB_GANG_CFG1_SAFE_ST g, .staged, upTo 2⟩, ⟨F.PFB_GANG_CFG1_DISP g, .staged, upTo 2⟩]

def bridgeFlds (h : Nat) : List CfgFld := [
  ⟨F.PFB_BRG_CFG0_VALID h, .locked, anyVal⟩, ⟨F.PFB_BRG_CFG0_GANG_B h, .locked, anyVal⟩, ⟨F.PFB_BRG_CFG0_GANG_A h, .locked, anyVal⟩,
  ⟨F.PFB_BRG_CFG0_DT h, .live, anyVal⟩, ⟨F.PFB_BRG_CFG0_DWELL_ST h, .live, upTo 1⟩, ⟨F.PFB_BRG_CFG0_REV_DWELL h, .live, upTo 1000⟩,
  ⟨F.PFB_BRG_CFG1_DRIVER h, .locked, upTo 1⟩, ⟨F.PFB_BRG_CFG1_SAFE_ST h, .staged, upTo 4⟩, ⟨F.PFB_BRG_CFG1_HOLD_MS h, .staged, upTo 2000⟩,
  ⟨F.PFB_BRG_CFG1_DISP h, .staged, upTo 2⟩]

/-- The word and mask at payload bytes `o` to `o + 7`. -/
def Cmd.image (c : Cmd) (reg o : Nat) : Image := (reg, c.arg o 4, c.arg (o + 4) 4)

/-- The status of a command to an object whose bank is lost (R114, R132), or 0. -/
def State.lostStatus (s : State) (x : Nat) : Nat := if s.objLost (s.topOf x) then stINTERNAL_FAULT else 0

/-- A gang member's cell is refused as its other cell commands are (R118, R124, DESIGN CHOICE, assumption 122). -/
def cellConfigBody (c : Cmd) (s : State) : Res :=
  let n := c.arg 0 2
  let ims := [c.image (R.PFB_CELL_CFG0 n) 4, c.image (R.PFB_CELL_CFG1 n) 12, c.image (R.PFB_CELL_CFG2 n) 20]
  let fs := cellFlds n
  need (decide (n < 512) && c.zero 2 2 && imagesOk fs ims &&
    decide (s.afterFld fs ims (F.PFB_CELL_CFG2_THR_LO n) < s.afterFld fs ims (F.PFB_CELL_CFG2_THR_HI n))) stBAD_ARGUMENT <|
  need (s.owns c kTerm n) stNOT_OWNER <|
  s.configure fs ims (s.stopped n) (if (s.gangOf n).isSome || s.brokenFor c n then stMODE_FORBIDS else s.lostStatus n)

/-- A gang that loses FAST_EN gives up its standing charge (R162). -/
def gangConfigBody (c : Cmd) (s : State) : Res :=
  let g := c.arg 0 1
  let ims := [c.image (R.PFB_GANG_CFG0 g) 4, c.image (R.PFB_GANG_CFG1 g) 12]
  let fs := gangFlds g
  need (decide (g < 64) && s.defined (xGang g) && c.zero 1 3 && c.zero 20 8 && imagesOk fs ims &&
    (s.afterFld fs ims (F.PFB_GANG_CFG1_FAST_EN g) == 0 || s.afterFld fs ims (F.PFB_GANG_CFG1_DRIVER g) == 0)) stBAD_ARGUMENT <|
  need (s.owns c kGang g) stNOT_OWNER <|
  (s.configure fs ims (s.stopped (s.topOf (xGang g))) (if s.brokenFor c (xGang g) then stMODE_FORBIDS else s.lostStatus (xGang g))).andThen
    (fun s' => if s.fastEn (xGang g) && !s'.fastEn (xGang g) then s'.dropStanding (xGang g) else s')

/-- A stopped bridge may rewrite its LOCKED VALID, GANG_A and GANG_B: no rule refuses a leg that is no gang, lies on another feed or is in
another bridge, and the command accepts it (DESIGN CHOICE, assumption 153). -/
def bridgeConfigBody (c : Cmd) (s : State) : Res :=
  let h := c.arg 0 1
  let ims := [c.image (R.PFB_BRG_CFG0 h) 4, c.image (R.PFB_BRG_CFG1 h) 12]
  let fs := bridgeFlds h
  need (decide (h < 32) && s.defined (xBrg h) && c.zero 1 3 && imagesOk fs ims) stBAD_ARGUMENT <|
  need (s.owns c kBrg h) stNOT_OWNER <|
  s.configure fs ims (s.stopped (xBrg h)) (if s.brokenFor c (xBrg h) then stMODE_FORBIDS else s.lostStatus (xBrg h))

/-! ## Status (R120, R150) -/

/-- The DIR 1 buffer of a DESC command is large enough. -/
def Cmd.room (c : Cmd) (n : Nat) : Bool := decide (n ≤ c.dSize 1)

/-- Answer a range reading: in the payload, or in the DIR 1 buffer with `pl` as the payload. -/
def State.answerRange (s : State) (c : Cmd) (data pl : List Byte) : Res :=
  if c.desc then .done stOK pl (s.putBuf c 1 data) else .done stOK data s

/-- With DESC, COUNT takes bytes 2 and 3 of the buffer, since 512 fits no byte (DESIGN CHOICE, assumption 123). -/
def cellStatusBody (c : Cmd) (s : State) : Res :=
  let b := s.rangeBytes c
  let first := leAt b 0 2
  let count := if c.desc then leAt b 2 2 else leAt b 2 1
  need ((c.desc || leAt b 3 1 == 0) && (!c.desc || c.dSize 0 == 4) && between 1 (if c.desc then 512 else 5) count &&
    decide (first + count ≤ 512) && (!c.desc || c.room (8 + 8 * count))) stBAD_ARGUMENT <|
  need ((List.range count).all (fun i => s.mayRead c kTerm (first + i))) stNOT_OWNER <|
  need ((List.range count).all (fun i => !s.bankLost ((first + i) / 16))) stINTERNAL_FAULT <|
  let p := s.rd F.PFB_TS_SEL_PAGE
  s.answerRange c (bytesLE 8 s.pageStamp ++ (List.range count).flatMap (fun i =>
    let w := s.pageWords p (first + i)
    wordBytes w.1 ++ wordBytes w.2)) []

def gangStatusBody (c : Cmd) (s : State) : Res :=
  let first := c.arg 0 1
  let count := c.arg 1 1
  let l := (List.range count).map (fun i => first + i)
  need (between 1 5 count && decide (first + count ≤ 64) && c.zero 2 2) stBAD_ARGUMENT <|
  need (l.all (fun g => !s.defined (xGang g) || s.mayRead c kGang g)) stNOT_OWNER <|
  need (l.all (fun g => !s.defined (xGang g) || !s.objLost (s.topOf (xGang g)))) stINTERNAL_FAULT <|
  .done stOK (bytesLE 8 s.pageStamp ++ l.flatMap (fun g =>
    if s.defined (xGang g) then bytesLE 4 (s.gangStat g) ++ bytesLE 4 (s.gangIsum g) else bytesLE 8 0)) s

def bridgeStatusBody (c : Cmd) (s : State) : Res :=
  let first := c.arg 0 1
  let count := c.arg 1 1
  let l := (List.range count).map (fun i => first + i)
  need (between 1 3 count && decide (first + count ≤ 32) && c.zero 2 2) stBAD_ARGUMENT <|
  need (l.all (fun h => !s.defined (xBrg h) || s.mayRead c kBrg h)) stNOT_OWNER <|
  need (l.all (fun h => !s.defined (xBrg h) || !s.objLost (xBrg h))) stINTERNAL_FAULT <|
  .done stOK (bytesLE 8 s.pageStamp ++ l.flatMap (fun h =>
    if s.defined (xBrg h) then bytesLE 4 (s.brgStat h) ++ bytesLE 4 (s.gangIsum (s.legA h)) ++ bytesLE 4 (s.gangIsum (s.legB h))
    else bytesLE 12 0)) s

/-- The active or staged word of a configuration register (R122): a LIVE value is shown from its command on, before its boundary
(DESIGN CHOICE, assumption 124). -/
def State.confWord (s : State) (which a : Nat) : List Byte := wordBytes (if which = 1 then s.shadowWord a else s.word a)

def cellReadConfigBody (c : Cmd) (s : State) : Res :=
  let n := c.arg 0 2
  let w := c.arg 2 1
  need (decide (n < 512) && decide (w ≤ 1) && c.zero 3 1) stBAD_ARGUMENT <|
  need (s.mayRead c kTerm n) stNOT_OWNER <|
  need (!s.bankLost (n / 16)) stINTERNAL_FAULT <|
  .done stOK (s.confWord w (R.PFB_CELL_CFG0 n) ++ s.confWord w (R.PFB_CELL_CFG1 n) ++ s.confWord w (R.PFB_CELL_CFG2 n)) s

/-- PFB_GANGg_DEF with its member count. -/
def State.gangDef (s : State) (g : Nat) : Word :=
  (s.word (R.PFB_GANG_DEF g)).withField 16 7 (if s.defined (xGang g) then (s.gangMembers g).length else 0)

/-- PFB_GANGg_CFG1 shows DRIVER 0b10 for a leg of a bridge (R134). -/
def State.gangCfg1 (s : State) (g : Nat) (w : Word) : Word := if (s.brgOf g).isSome then w.withField 29 2 2 else w

def gangReadConfigBody (c : Cmd) (s : State) : Res :=
  let o := c.arg 0 1
  let ty := c.arg 1 1
  let w := c.arg 2 1
  need (decide (ty ≤ 1) && decide (w ≤ 1) && c.zero 3 1 &&
    (if ty = 0 then decide (o < 64) && s.defined (xGang o) else decide (o < 32) && s.defined (xBrg o))) stBAD_ARGUMENT <|
  need (s.mayRead c (if ty = 0 then kGang else kBrg) o) stNOT_OWNER <|
  need (!s.objLost (if ty = 0 then s.topOf (xGang o) else xBrg o)) stINTERNAL_FAULT <|
  if ty = 0 then
    .done stOK (s.confWord w (R.PFB_GANG_CFG0 o) ++
      wordBytes (s.gangCfg1 o (if w = 1 then s.shadowWord (R.PFB_GANG_CFG1 o) else s.word (R.PFB_GANG_CFG1 o))) ++ wordBytes (s.gangDef o)) s
  else .done stOK (s.confWord w (R.PFB_BRG_CFG0 o) ++ s.confWord w (R.PFB_BRG_CFG1 o) ++ bytesLE 4 0) s

/-! ## Clearing (R121, R151) -/

/-- Steps 12 to 15 of CELL_CLEAR, GANG_CLEAR and BRIDGE_CLEAR. R151's state after the command is taken for a latched object, as R121
has it: one that is not latched only has its RETRY reset (DEDUCED, assumption 152). -/
def State.clearObject (s : State) (x : Nat) (other : Bool) : Res :=
  let o := s.obj x
  need (!other) stMODE_FORBIDS <|
  need (!s.objLost x) stINTERNAL_FAULT <|
  if o.st ≠ 6 then .done stOK [] (s.setObj x { o with retry := 0 })
  else
    need (!(o.cause == 8 && o.testFail)) stMODE_FORBIDS <|
    need (o.cause != 3 || (s.members x).all (fun n => (s.meas n).cool)) stMODE_FORBIDS <|
    .done stOK [] (s.modObj x (fun o =>
      { o with st := 0, cmd := 0, retry := 0, shed := false, wantSafe := none, ints := o.ints.filter (fun e => e.kind != .safe),
               heldEdges := o.heldEdges.filter (fun e => e.kind != .safe) }))

def cellClearBody (c : Cmd) (s : State) : Res :=
  let n := c.arg 0 2
  need (decide (n < 512) && c.zero 2 2) stBAD_ARGUMENT <|
  need (s.owns c kTerm n) stNOT_OWNER <| s.clearObject n ((s.gangOf n).isSome || s.brokenFor c n)

def gangClearBody (c : Cmd) (s : State) : Res :=
  let g := c.arg 0 1
  need (decide (g < 64) && s.defined (xGang g) && c.zero 1 3) stBAD_ARGUMENT <|
  need (s.owns c kGang g) stNOT_OWNER <| s.clearObject (xGang g) ((s.brgOf g).isSome || s.brokenFor c (xGang g))

def bridgeClearBody (c : Cmd) (s : State) : Res :=
  let h := c.arg 0 1
  need (decide (h < 32) && s.defined (xBrg h) && c.zero 1 3) stBAD_ARGUMENT <|
  need (s.owns c kBrg h) stNOT_OWNER <| s.clearObject (xBrg h) (s.brokenFor c (xBrg h))

/-! ## The wiring probe (R152, R153) -/

/-- The requester owns every object that a range of terminals covers. -/
def State.ownsCover (s : State) (c : Cmd) (first count : Nat) : Bool :=
  (s.coverTops first count).all (fun x => s.owns c (objKind x) (objIdx x))

def probeRunBody (c : Cmd) (s : State) : Res :=
  let first := c.arg 0 2
  let count := c.arg 2 2
  need (between 1 512 count && decide (first + count ≤ 512) && s.coversWhole first count && decide (c.arg 4 1 ≤ 1) && c.zero 5 3) stBAD_ARGUMENT <|
  need (c.isSecure || s.ownsCover c first count) stNOT_OWNER <|
  s.commandAct c aPROBE first count (c.arg 4 1)

/-- The four bytes of a terminal's probe result (R153). -/
def State.probeBytes (s : State) (n : Nat) : List Byte :=
  let p := s.fab.probes.get {} n
  bytesLE 1 (if p.skipped then 8 else p.result) ++ bytesLE 1 (b2n (s.isBlocked (s.topOf n)) + 2 * b2n p.range + 4 * b2n p.warned) ++ bytesLE 2 p.rmeas

def probeResultBody (c : Cmd) (s : State) : Res :=
  let b := s.rangeBytes c
  let first := leAt b 0 2
  let count := leAt b 2 2
  need ((!c.desc || c.dSize 0 == 4) && between 1 (if c.desc then 512 else 8) count && decide (first + count ≤ 512) &&
    (!c.desc || c.room (16 + 4 * count))) stBAD_ARGUMENT <|
  need ((List.range count).all (fun i => s.mayRead c kTerm (first + i))) stNOT_OWNER <|
  s.answerRange c (bytesLE 8 (if s.fab.probeState = 1 then 0 else s.fab.probeDone) ++ bytesLE 4 s.fab.probeSeq ++
    bytesLE 1 s.fab.probeState ++ bytesLE 3 0 ++ (List.range count).flatMap (fun i => s.probeBytes (first + i))) []

/-! ## Definitions -/

def dCellSet : CmdDef := { op := 0x0201, lens := lenIs 12, coppice := true, names := argKey kTerm 0 2, body := cellSetBody }
def dCellConfig : CmdDef := { op := 0x0202, lens := lenIs 28, coppice := true, names := argKey kTerm 0 2, body := cellConfigBody }
def dCellStatus : CmdDef := { op := 0x0203, lens := lenIs 4, descs := [[0, 1]], coppice := true, names := fun c s => let b := s.rangeBytes c; s.termKeys (leAt b 0 2) (leAt b 2 (if c.desc then 2 else 1)), body := cellStatusBody }
def dCellClear : CmdDef := { op := 0x0204, lens := lenIs 4, coppice := true, names := argKey kTerm 0 2, body := cellClearBody }
def dCellReadConfig : CmdDef := { op := 0x0205, lens := lenIs 4, coppice := true, names := argKey kTerm 0 2, body := cellReadConfigBody }
def dGangSet : CmdDef := { op := 0x0206, lens := lenIs 16, coppice := true, names := argKey kGang 0 1, body := gangSetBody }
def dGangConfig : CmdDef := { op := 0x0207, lens := lenIs 28, coppice := true, names := argKey kGang 0 1, body := gangConfigBody }
def dGangStatus : CmdDef := { op := 0x0208, lens := lenIs 4, coppice := true, names := fun c _ => spanKeys kGang (c.arg 0 1) (c.arg 1 1), body := gangStatusBody }
def dGangClear : CmdDef := { op := 0x0209, lens := lenIs 4, coppice := true, names := argKey kGang 0 1, body := gangClearBody }
def dBridgeSet : CmdDef := { op := 0x020A, lens := lenIs 16, coppice := true, names := argKey kBrg 0 1, body := bridgeSetBody }
def dBridgeConfig : CmdDef := { op := 0x020B, lens := lenIs 20, coppice := true, names := argKey kBrg 0 1, body := bridgeConfigBody }
def dBridgeStatus : CmdDef := { op := 0x020C, lens := lenIs 4, coppice := true, names := fun c _ => spanKeys kBrg (c.arg 0 1) (c.arg 1 1), body := bridgeStatusBody }
def dBridgeClear : CmdDef := { op := 0x020D, lens := lenIs 4, coppice := true, names := argKey kBrg 0 1, body := bridgeClearBody }
def dProbeRun : CmdDef := { op := 0x020E, lens := lenIs 8, coppice := true, names := rangeKeys 0, body := probeRunBody }
def dProbeResult : CmdDef := { op := 0x020F, lens := lenIs 4, descs := [[0, 1]], coppice := true, names := fun c s => let b := s.rangeBytes c; s.termKeys (leAt b 0 2) (leAt b 2 2), body := probeResultBody }
def dGangReadConfig : CmdDef := { op := 0x0210, lens := lenIs 4, coppice := true, names := fun c _ => [okey (if c.arg 1 1 = 0 then kGang else kBrg) (c.arg 0 1)], body := gangReadConfigBody }

end Sys2Proof.Machine
end

