-- ==== Sys2Proof/Machine/EnergyCmds.lean ====
section
/-!
DEFINITION. Machine/EnergyCmds.lean: the budget and energy commands (group 0x03, R175–R180).
-/
namespace Sys2Proof.Machine

/-- The requester may read a holder's figures: its own, or the secure world; a remote requester through a READ grant of the
holder's entry (R175, R399). -/
def State.mayHolder (s : State) (c : Cmd) (v : Nat) : Bool :=
  if c.node = 0xFFFF then c.who == v || c.who == 16 else s.granted c.node c.who kBud v false

/-- Shed objects of a holder. -/
def State.shedCountOf (s : State) (v : Nat) : Nat := (s.tops.filter (fun x => s.objOwner x == v && (s.obj x).shed)).length

/-- Deferred commands of a holder. -/
def State.deferredCountOf (s : State) (v : Nat) : Nat :=
  (s.mbx.cmds.filter (fun c => c.phase == .deferred && (s.awaited c).any (fun x => s.objOwner x == v))).length

/-- One byte of feed flags (R176). -/
def State.feedFlags (s : State) (f : Nat) : Nat :=
  s.rd (F.PFB_FEED_STAT_UV f) + 2 * s.rd (F.PFB_FEED_STAT_OV f) + 4 * s.rd (F.PFB_FEED_STAT_OVL f) + 8 * s.rd (F.PFB_FEED_STAT_PEAK f)

def budgetStatusBody (c : Cmd) (s : State) : Res :=
  let v := if c.arg 0 1 = 0xFF then c.who else c.arg 0 1
  need (decide (v ≤ 17) && c.zero 1 3) stBAD_ARGUMENT <|
  need (s.mayHolder c v) stNOT_OWNER <|
  .done stOK (bytesLE 4 (s.allot v) ++ bytesLE 4 (s.usedH v) ++ bytesLE 2 (s.deferredCountOf v) ++
    bytesLE 2 (s.rd (F.PFB_ALLOT_USED_DENIED v)) ++ bytesLE 2 (s.shedCountOf v) ++ bytesLE 1 (s.rd (F.PFB_ALLOT_USED_OVER_ALLOT v)) ++ bytesLE 1 0 ++
    ([1, 2, 3, 4] : List Nat).flatMap (fun f => bytesLE 2 (s.rd (F.PFB_FEED_STAT_I_FEED f)) ++ bytesLE 2 (min 0xFFFF (s.usedF f / 10))) ++
    ([1, 2, 3, 4] : List Nat).flatMap (fun f => bytesLE 1 (s.feedFlags f)) ++
    bytesLE 2 (s.rd F.PFB_HEAT_STAT_P_ELEC + s.rd F.PFB_HEAT_STAT_P_DIST) ++ bytesLE 2 (s.heatLim)) s

/-- The greatest I_DECL of an object, mA (PFB_BUDx): a bridge takes the rating of its smaller leg. -/
def State.declMax (s : State) (x : Nat) : Nat :=
  if isCell x then 1600 else if isGang x then 1360 * (s.members x).length
  else 1360 * min (s.gangMembers (s.legA (x - 576))).length (s.gangMembers (s.legB (x - 576))).length

def budgetObjectBody (c : Cmd) (s : State) : Res :=
  let x := c.arg 0 2
  let d := c.arg 4 4
  need (decide (x < 608) && s.isTop x && decide (c.arg 2 1 ≤ 3) && c.zero 3 1 && between 10 (s.declMax x) d) stBAD_ARGUMENT <|
  need (s.owns c (objKind x) (objIdx x)) stNOT_OWNER <|
  need (!s.brokenFor c x) stMODE_FORBIDS <|
  .done stSTAGED [] ((s.stage (F.PFB_BUD_CLASS x) (c.arg 2 1)).stage (F.PFB_BUD_I_DECL x) d)

def budgetObjStatusBody (c : Cmd) (s : State) : Res :=
  let first := c.arg 0 2
  let count := c.arg 2 1
  let l := (List.range count).map (fun i => first + i)
  need (between 1 10 count && decide (first + count ≤ 608) && c.zero 3 1) stBAD_ARGUMENT <|
  need (l.all (fun x => s.mayRead c (objKind x) (objIdx x))) stNOT_OWNER <|
  .done stOK (bytesLE 8 s.pageStamp ++ l.flatMap (fun x => bytesLE 4 (s.budWord x))) s

/-- The requester may read a meter (R175). -/
def State.mayMeter (s : State) (c : Cmd) (m : Nat) : Bool :=
  if m < 608 then s.mayRead c (objKind m) (objIdx m) else if m < 626 then s.mayHolder c (m - 608) else true

def energyReadBody (c : Cmd) (s : State) : Res :=
  let b := s.rangeBytes c
  let first := leAt b 0 2
  let count := leAt b 2 2
  let l := (List.range count).map (fun i => first + i)
  need ((!c.desc || c.dSize 0 == 4) && between 1 (if c.desc then 632 else 2) count && decide (first + count ≤ 632) &&
    (!c.desc || c.room (8 + 16 * count))) stBAD_ARGUMENT <|
  need (l.all (fun m => s.mayMeter c m)) stNOT_OWNER <|
  s.answerRange c (bytesLE 8 s.fab.lastGrid ++ l.flatMap (fun m => bytesLE 8 (s.eDel m) ++ bytesLE 8 (s.eRet m)))
    (bytesLE 4 (8 + 16 * count) ++ bytesLE 4 0)

/-- A record of the energy log is valid: its CRC agrees (R173). -/
def recValid (r : List Byte) : Bool := r.length == 256 && leAt r 252 4 == crc32 (r.take 252)

/-- A record as a requester sees it: a partition sees its own HOLDER entry only (R180). -/
def recFor (who : Nat) (r : List Byte) : List Byte :=
  if who = 16 then r
  else
    let b := r.take 64 ++ (List.range 18).flatMap (fun v => if v = who then slice r (64 + 8 * v) 8 else bytesLE 8 0) ++ slice r 208 44
    b ++ bytesLE 4 (crc32 b)

/-- The number of records that the ring holds, and the oldest SEQ held (R173). -/
def State.elogCount (s : State) : Nat := min 8192 s.fab.elog.cells.length
def State.elogOldest (s : State) : Nat := (s.fab.elogSeq + 2 ^ 32 - s.elogCount) % 2 ^ 32

/-- The valid records from a SEQ onwards, oldest first: none where that SEQ is still to be written, by serial-number order
(R180, DESIGN CHOICE, assumption 119). -/
def State.elogFrom (s : State) (seq : Nat) : List (List Byte) :=
  let age := (s.fab.elogSeq + 2 ^ 32 - seq) % 2 ^ 32
  let n := if age ≤ s.elogCount then age else if age < 2 ^ 31 then s.elogCount else 0
  ((List.range n).map (fun i => s.fab.elog.get [] ((s.fab.elogSeq + 2 ^ 32 - n + i) % 2 ^ 32 % 8192))).filter recValid

def energyLogReadBody (c : Cmd) (s : State) : Res :=
  need (c.dSize 0 == 4 && c.dSize 1 % 256 == 0) stBAD_ARGUMENT <|
  let l := ((s.elogFrom (natLE (s.load (c.dAddr 0) 4))).take (c.dSize 1 / 256)).map (fun r => recFor c.who r)
  .done stOK (bytesLE 4 (256 * l.length) ++ bytesLE 4 s.elogOldest) (s.putBuf c 1 l.flatten)

def dBudgetStatus : CmdDef := { op := 0x0301, lens := lenIs 4, coppice := true, body := budgetStatusBody }
def dBudgetObject : CmdDef := { op := 0x0302, lens := lenIs 8, coppice := true, names := fun c _ => [okey (objKind (c.arg 0 2)) (objIdx (c.arg 0 2))], body := budgetObjectBody }
def dBudgetObjStatus : CmdDef := { op := 0x0303, lens := lenIs 4, coppice := true, body := budgetObjStatusBody }
def dEnergyRead : CmdDef := { op := 0x0304, lens := lenIs 4, descs := [[0, 1]], coppice := true, names := fun c s => let b := s.rangeBytes c; ((List.range (min 632 (leAt b 2 2))).map (fun i => leAt b 0 2 + i)).filterMap (fun m => if m < 608 then some (okey (objKind m) (objIdx m)) else none), body := energyReadBody }
def dEnergyLogRead : CmdDef := { op := 0x0305, lens := fun _ => false, descs := [[0, 1]], coppice := true, body := energyLogReadBody }

end Sys2Proof.Machine
end

