-- ==== Sys2Proof/Machine/Cycle.lean ====
section
/-!
DEFINITION. Machine/Cycle.lean: the cycle engine (chapter 06): program images, tasks, images, forces, retained values,
engine states and swaps.
-/
namespace Sys2Proof.Machine

/-! ## Layout of cycle memory (R184) -/

def cycProg (bank : Nat) : Nat := 0x2000000 + 0x100000 * bank
def cycStatus : Nat := 0x2200000
def cycForce (i : Nat) : Nat := 0x2201000 + 16 * i
def cycOut (k : Nat) : Nat := 0x2202000 + 0x400 * k
def cycIn (k : Nat) : Nat := 0x2210000 + 0x2000 * k
def cycData (bank : Nat) : Nat := 0x2240000 + 0xE0000 * bank

/-- The grid interval. -/
def gridNs : Nat := us 250

def State.task (s : State) (k : Nat) : CTask := s.cyc.tasks.get {} k
def State.setTask (s : State) (k : Nat) (x : CTask) : State := { s with cyc.tasks := s.cyc.tasks.set k x }
def State.modTask (s : State) (k : Nat) (f : CTask → CTask) : State := s.setTask k (f (s.task k))

/-- STATE of the engine (R202). -/
def State.eng (s : State) : Nat := s.rd F.CYC_STATE_STATE
/-- The active bank. -/
def State.bank (s : State) : Nat := s.rd F.CYC_STATE_BANK
/-- The engine's replica is aligned (island 5). -/
def State.cycAligned (s : State) : Bool := s.aligned 5
def isCyclic (k : Nat) : Bool := decide (k < 8)

/-- PERIOD or DL in grid intervals, from a configuration word (R189, R191). -/
def cfgSpan (w : Nat) : Nat := bitsOf w 20 12
/-- A task entry is used. -/
def cfgUsed (k w : Nat) : Bool := if isCyclic k then cfgSpan w != 0 else bitsOf w 17 3 != 0
/-- LANE and PRIO of a task. -/
def cfgLane (w : Nat) : Nat := w % 2
def cfgPrio (w : Nat) : Nat := bitsOf w 1 3
/-- OVR_LIMIT of a task. -/
def cfgLimit (k w : Nat) : Nat := if isCyclic k then bitsOf w 4 4 else bitsOf w 4 3

def State.taskCfg (s : State) (k : Nat) : Nat := s.wordN (R.CYC_TASK_CFG k)
def State.taskUsed (s : State) (k : Nat) : Bool := decide (k < 24) && cfgUsed k (s.taskCfg k)
/-- P or DL × 250 µs (R189, R191). -/
def State.taskSpan (s : State) (k : Nat) : Nat := cfgSpan (s.taskCfg k) * gridNs
/-- φ × 250 µs. -/
def State.taskPhase (s : State) (k : Nat) : Nat := bitsOf (s.taskCfg k) 8 12 * gridNs
def State.tstate (s : State) (k : Nat) : Nat := s.rd (F.CYC_TASK_STAT_TSTATE k)
def State.setT (s : State) (k v : Nat) : State := s.wr (F.CYC_TASK_STAT_TSTATE k) v
/-- A task's owner as a holder (R188). -/
def State.taskOwner (s : State) (k : Nat) : Nat := whoOfTarget (s.rd (F.CYC_TASK_OWN_OWNER k))

/-! ## Program images (R186, R187) -/

/-- The header's words are inside the image: offset and size. -/
def inImage (b : List Byte) (off size : Nat) : Bool := decide (off + size ≤ b.length)

def symAt (b : List Byte) (o : Nat) : Sym := { off := leAt b o 4, size := leAt b (o + 4) 4, flags := leAt b (o + 8) 1, hash := leAt b (o + 9) 7 }
def ridAt (b : List Byte) (o : Nat) : Rid :=
  { rid := leAt b o 4, off := leAt b (o + 4) 4, size := leAt b (o + 8) 4, task := leAt b (o + 12) 1, hash := leAt b (o + 13) 3 }

/-- The least common multiple of the periods of the used cyclic tasks, 1 without one (R187). -/
def hyperOf (cfgs : List Nat) : Nat :=
  (List.range 8).foldl (fun h k => let p := cfgSpan (cfgs.getD k 0); if p = 0 then h else Nat.lcm h p) 1

/-- The program that an image holds. -/
def progOf (b : List Byte) : Prog :=
  let cfgs := (List.range 24).map (fun k => leAt b (leAt b 32 4 + 16 * k) 4)
  { id := leAt b 8 8, hyper := hyperOf cfgs, cfgs := cfgs,
    writer := (List.range 608).map (fun x => leAt b (leAt b 36 4 + x) 1),
    syms := (List.range (leAt b 44 4)).map (fun i => symAt b (leAt b 40 4 + 16 * i)),
    rids := (List.range (leAt b 52 4)).map (fun i => ridAt b (leAt b 48 4 + 16 * i)),
    code := slice b (leAt b 16 4) (leAt b 20 4), data := slice b (leAt b 24 4) (leAt b 28 4) }

/-- The header and the tables lie inside the image and the sizes fit their ranges (R186, R187). -/
def headerOk (b : List Byte) : Bool :=
  decide (64 ≤ b.length) && leAt b 0 4 == 0x43594331 && leAt b 4 2 == 1 && leAt b 6 2 == 0 && leAt b 8 8 != 0 &&
  decide (leAt b 20 4 ≤ 0x100000) && inImage b (leAt b 16 4) (leAt b 20 4) &&
  decide (leAt b 28 4 ≤ 0xE0000) && inImage b (leAt b 24 4) (leAt b 28 4) &&
  inImage b (leAt b 32 4) 384 && inImage b (leAt b 36 4) 608 &&
  decide (leAt b 44 4 ≤ 65535) && inImage b (leAt b 40 4) (16 * leAt b 44 4) &&
  decide (leAt b 52 4 ≤ 4096) && inImage b (leAt b 48 4) (16 * leAt b 52 4) &&
  inImage b (leAt b 56 4) (leAt b 60 4) && (leAt b 60 4 == 0 || leAt b 60 4 == 32)

/-- A task entry is valid by the register tables (R187). -/
def taskOk (k w : Nat) : Bool :=
  let n := cfgSpan w
  decide (n ≤ 4000) &&
  (if isCyclic k then (n == 0 || decide (bitsOf w 8 12 < n))
   else
    let kind := bitsOf w 17 3
    let src := bitsOf w 7 10
    (kind == 0 && n == 0) || (n != 0 && ((between 1 3 kind && decide (src < 512)) || (kind == 4 && decide (src < 608)) || (kind == 5 && src == 0))))

/-- Where one object's writer must be (R187): a used task of the object's owner for an engine object, none otherwise. -/
def State.writerOk (s : State) (p : Prog) (x : Nat) : Bool :=
  let k := p.writer.getD x 0xFF
  if s.isTop x && s.driverOf x == 1 then decide (k < 24) && cfgUsed k (p.cfgs.getD k 0) && s.taskOwner k == s.objOwner x
  else k == 0xFF

/-- No two entries of a list are equal. -/
def distinct : List Nat → Bool
  | [] => true
  | a :: l => !l.contains a && distinct l

/-- Σ retained bytes / period is at most 64 MiB/s (R187), in exact integers over the least common multiple of the spans. -/
def rateOk (p : Prog) : Bool :=
  let spans := p.cfgs.map (fun w => max 1 (cfgSpan w))
  let m := spans.foldl Nat.lcm 1
  decide ((p.rids.foldl (fun a r => a + r.size * (m / spans.getD r.task 1)) 0) * 4000 ≤ 67108864 * m)

/-- No code writes a retained variable of another task (R213). -/
def Prog.retOk (p : Prog) : Bool :=
  p.rids.all (fun r => (Config.codeWrites p.code).all (fun w => w.1 == r.task || decide (w.2.1 + w.2.2 ≤ r.off) || decide (r.off + r.size ≤ w.2.1)))

/-- The checks of R187 but the tag, the reserved bytes of the tables (R14, R186), and the check of R213. -/
def State.progOk (s : State) (b : List Byte) : Bool :=
  headerOk b &&
  (let p := progOf b
   p.retOk &&
   (List.range 24).all (fun k => leAt b (leAt b 32 4 + 16 * k + 8) 8 == 0 && (!cfgUsed k (p.cfgs.getD k 0) || (taskOk k (p.cfgs.getD k 0) &&
     decide (leAt b (leAt b 32 4 + 16 * k + 4) 4 < max 1 (leAt b 20 4))))) &&
   p.syms.all (fun y => decide (y.flags < 4)) &&
   (List.range 608).all (fun x => s.writerOk p x) &&
   distinct (p.rids.map (fun r => r.rid)) &&
   p.rids.all (fun r => decide (r.off + r.size ≤ p.data.length) && decide (r.task < 24) && cfgUsed r.task (p.cfgs.getD r.task 0)) &&
   decide (p.rids.foldl (fun a r => a + r.size) 0 ≤ 262144) && rateOk p && decide (p.hyper ≤ 14400000))

/-- The image's tag verifies under the slot of cycle programs; DEVELOP admits none (R187). -/
def State.progTag (s : State) (b : List Byte) : Bool :=
  if leAt b 60 4 = 0 then s.rd F.MPC_LC_STAT_LIFECYCLE == 1
  else Config.hmac256 (s.hwn.slots.get {} s.cyc.keySlot).value (b.take (leAt b 56 4)) == slice b (leAt b 56 4) 32

/-! ## Objects of a program -/

/-- The objects that task `k` of the active program writes. -/
def State.taskObjs (s : State) (k : Nat) : List Nat :=
  match s.cyc.active with
  | some p => (List.range 608).filter (fun x => p.writer.getD x 0xFF == k)
  | none => []

/-- The byte of an object in an output image (R200). -/
def outOff (x : Nat) : Nat := x

/-- The greatest output code of an object (R200). -/
def outMax (x : Nat) : Nat := if isCell x then 3 else if isGang x then 2 else 4

/-! ## Forces (R210, R211) -/

def State.forceEntry (s : State) (i : Nat) : List Byte := s.load (cycForce i) 16
/-- The slot of a force of a kind and index. -/
def State.forceSlot (s : State) (kind idx : Nat) : Option Nat :=
  (List.range 256).find? (fun i => leAt (s.forceEntry i) 0 1 == kind && leAt (s.forceEntry i) 2 2 == idx)
/-- The value of a force in force. -/
def State.forced (s : State) (kind idx : Nat) : Option Nat := (s.forceSlot kind idx).map (fun i => leAt (s.forceEntry i) 4 2)
/-- Entries in use. -/
def State.forceCount (s : State) : Nat := ((List.range 256).filter (fun i => leAt (s.forceEntry i) 0 1 != 0)).length
/-- The engine writes SET_AT of a force before it first acts (R210). -/
def State.stampForce (s : State) (kind idx at_ : Nat) : State :=
  match s.forceSlot kind idx with
  | some i => if leAt (s.forceEntry i) 8 8 = 0 then s.store (cycForce i + 8) (bytesLE 8 at_) else s
  | none => s
/-- FORCES follows the table. -/
def State.forceStat (s : State) : State := s.wr F.CYC_STATE_FORCES s.forceCount
/-- Clear every force. -/
def State.clearForces (s : State) : State := { s with mem := Memory.zero s.mem (cycForce 0) 4096 }.forceStat
/-- HOLD and forces are permitted: DEVELOP, or the SERVICE overlay with an open session (R202). -/
def State.holdPermitted (s : State) : Bool :=
  s.rd F.MPC_LC_STAT_LIFECYCLE == 1 || (s.rd F.CFG_STAT_OVERLAY == 4 && s.cfg.svcEnd.isSome)

/-! ## Retained values (R213–R215) -/

/-- The retained entries of a task, in table order. -/
def Prog.ridsOf (p : Prog) (k : Nat) : List Rid := p.rids.filter (fun r => r.task == k)

/-- The retained values of a task in the active data bank. -/
def State.retValues (s : State) (p : Prog) (k : Nat) : List Byte := (p.ridsOf k).flatMap (fun r => s.load (cycData s.bank + r.off) r.size)

/-- A record is valid: its CRC agrees (R214). -/
def RetSlot.valid (r : RetSlot) : Bool :=
  decide (32 ≤ r.bytes.length) && leAt r.bytes 28 4 == crc32 (r.bytes.take 28 ++ r.bytes.drop 32)
/-- SEQ of a record. -/
def RetSlot.seq (r : RetSlot) : Nat := leAt r.bytes 8 4

/-- The valid record with the higher SEQ of a task (R215). -/
def State.lastRet (s : State) (k : Nat) : Option RetSlot :=
  let a := s.cyc.ret.get {} (2 * k)
  let b := s.cyc.ret.get {} (2 * k + 1)
  if a.valid && b.valid then (if a.seq < b.seq then some b else some a)
  else if a.valid then some a else if b.valid then some b else none

/-- The value of a retained entry in a record: same RID, size and type hash (R215). -/
def RetSlot.value (r : RetSlot) (e : Rid) : Option (List Byte) :=
  let rec go : List Rid → Nat → Option (List Byte)
    | [], _ => none
    | x :: l, o => if x.rid = e.rid ∧ x.size = e.size ∧ x.hash = e.hash then some (slice r.bytes o e.size) else go l (o + x.size)
  go r.rids 32

/-- A task's retained record is written to the slot that does not hold the last one, under the program that made it (R214). -/
def State.writeRet (s : State) (k : Nat) : State :=
  let t := s.task k
  let n := match s.lastRet k with | some r => r.seq + 1 | none => 0
  let slot := match s.lastRet k with
    | some r => if (s.cyc.ret.get {} (2 * k)) = r then 2 * k + 1 else 2 * k
    | none => 2 * k
  let h := bytesLE 8 t.retId ++ bytesLE 4 n ++ bytesLE 4 t.retVals.length ++ bytesLE 8 t.retRel ++ bytesLE 4 0
  { s with cyc.ret := s.cyc.ret.set slot { bytes := h ++ bytesLE 4 (crc32 (h ++ t.retVals)) ++ t.retVals, rids := t.retRids } }

/-- Restore the retained values of the active program from the records, all tasks' (R215). -/
def State.restoreRet (s : State) (p : Prog) : State :=
  let recs := (List.range 24).filterMap (fun k => s.lastRet k)
  let s := foldS p.rids (fun e s =>
    match recs.findSome? (fun r => r.value e) with
    | some v => s.store (cycData s.bank + e.off) v
    | none => s) s
  foldS ((List.range 24).filter (fun k => !(p.ridsOf k).isEmpty && (s.lastRet k).isNone)) (fun k s =>
    ((s.wrb F.CYC_STATE_RET_LOST true).ownFault 0x0404 .corrected (s.taskOwner k) k 0).trig 124) s

/-! ## Output to the fabric (R200, R201) -/

/-- Count a discarded output of a task. -/
def State.discard (s : State) (k : Nat) : State := s.sat (F.CYC_TASK_OWN_DISCARDS k) 1

/-- An output reaches its object as an edge with the output instant (R112, R201). -/
def State.outObj (s : State) (k x v at_ : Nat) : State :=
  if outMax x < v then (s.discard k).ownFault 0x0402 .corrected (s.taskOwner k) x v
  else if s.barred x then s.discard k
  else
    let s := s.modObj x (fun o => { o with holdEnd := none, wantSafe := none })
    let e : Edge := { at_ := at_, action := v, kind := .engine }
    if s.objAligned x || s.objLost x then s.doEdge x e (decide (at_ < s.now)) else s.modObj x (fun o => { o with heldEdges := o.heldEdges ++ [e] })

/-! ## Scheduling (R193) -/

/-- A task may run: READY with no retained write in progress, RUNNING or PREEMPTED. -/
def State.runnable (s : State) (k : Nat) : Bool :=
  let t := s.tstate k
  t == 3 || t == 4 || (t == 2 && !(s.task k).retBusy)

/-- Task `j` ranks before task `k`: priority, cyclic before event, lower number. -/
def State.ranks (s : State) (j k : Nat) : Bool :=
  let p := cfgPrio (s.taskCfg j)
  let q := cfgPrio (s.taskCfg k)
  decide (p < q) || (p == q && ((isCyclic j && !isCyclic k) || (isCyclic j == isCyclic k && decide (j < k))))

/-- The best runnable task of a lane. -/
def State.bestOf (s : State) (lane : Nat) : Option Nat :=
  ((List.range 24).filter (fun k => s.taskUsed k && cfgLane (s.taskCfg k) == lane && s.runnable k)).foldl
    (fun b k => match b with | none => some k | some j => if s.ranks k j then some k else some j) none

/-- The lane runs its best task; a running task is preempted only by a higher priority. -/
def State.scheduleLane (s : State) (lane : Nat) : State :=
  match s.bestOf lane, (List.range 24).find? (fun k => cfgLane (s.taskCfg k) == lane && s.tstate k == 3) with
  | none, _ => s
  | some b, none => s.setT b 3
  | some b, some r => if cfgPrio (s.taskCfg b) < cfgPrio (s.taskCfg r) then (s.setT r 4).setT b 3 else s

def State.schedule (s : State) : State := (s.scheduleLane 0).scheduleLane 1

/-! ## Releases (R189–R192) -/

/-- The output instant of a release. -/
def State.outAt (s : State) (k rel : Nat) : Nat := rel + s.taskSpan k

/-- Count missed releases or merged triggers. -/
def State.miss (s : State) (k n : Nat) : State := s.sat (F.CYC_TASK_CNT_MISSED k) n

/-- Answer the CYC_EVENT commands that wait for a task's pending release (R228). -/
def State.answerEvent (s : State) (k at_ : Nat) : State :=
  foldS (s.mbx.cmds.filter (fun c => c.op == 0x040C && c.phase == .running && c.aux == k)) (fun c s => s.answer c stOK (bytesLE 8 at_)) s

/-- Release a task at a grid instant; its pending release ends PENDING (R192). -/
def State.release (s : State) (k t : Nat) : State :=
  let pend := (s.task k).pendRel
  let s := s.modTask k (fun x => { x with rel := some t, imaged := false, overrun := false, stepped := false, relAt := none, pendRel := false,
                                          seq := (x.seq + 1) % 2 ^ 32, lastRel := t })
  let s := if pend then (s.wrb (F.CYC_TASK_STAT_PENDING k) false).answerEvent k t else s
  s.setT k 1

/-- The scheduled release of an event task does not take place and is counted (R197, R202): a trigger pending behind it is released
at the first grid instant after `from_`; a pending release that is itself missed answers its command with 0. -/
def State.dropRelease (s : State) (k from_ : Nat) : State :=
  let s := s.miss k 1
  if (s.task k).pendRel = false ∧ s.rdb (F.CYC_TASK_STAT_PENDING k) = true then
    s.modTask k (fun x => { x with relAt := some ((from_ / gridNs + 1) * gridNs), pendRel := true })
  else ((s.wrb (F.CYC_TASK_STAT_PENDING k) false).modTask k (fun x => { x with relAt := none, pendRel := false })).answerEvent k 0

/-- A release at `t` belongs to the old program of a pending swap, which does not execute it (R216). -/
def State.afterSwap (s : State) (k t : Nat) : Bool :=
  match s.cyc.swapAt with
  | some e => decide (e < s.outAt k t)
  | none => false

/-- The pending swap has its instant at or before `t`. -/
def State.swapDue (s : State) (t : Nat) : Bool := match s.cyc.swapAt with | some e => decide (e ≤ t) | none => false

/-- A release that the old program of a pending swap does not execute, and does not count (R216). -/
def State.swapSkip (s : State) (k : Nat) : State :=
  ((s.wrb (F.CYC_TASK_STAT_PENDING k) false).modTask k (fun x => { x with relAt := none, pendRel := false })).answerEvent k 0

/-- A release instant that does not take place: a cyclic task's is counted, an event task's dropped (R197). -/
def State.lostRelease (s : State) (k : Nat) : State := if isCyclic k then s.miss k 1 else s.dropRelease k s.now

/-- TASK_RELEASE: a release at the swap instant or later is the new program's (R189–R192, R195, R197, R202, R216). -/
def taskRelease (t k : Nat) (s : State) : State :=
  let s := s.at_ t
  let due := if isCyclic k then decide (s.taskPhase k ≤ t + s.taskSpan k) && (t + s.taskSpan k - s.taskPhase k) % s.taskSpan k == 0
    else (s.task k).relAt == some t
  if t % gridNs = 0 ∧ s.taskUsed k = true ∧ due = true ∧ s.cyc.tRun ≤ t ∧ s.now = t ∧ s.tstate k ≠ 5 then
    if s.eng = 2 then s.lostRelease k
    else if s.eng ≠ 1 ∨ s.swapDue t = true then s
    else if s.afterSwap k t then s.swapSkip k
    else if !s.cycAligned then s.lostRelease k
    else if (s.task k).rel.isSome then s.lostRelease k
    else s.release k t
  else s

/-- A trigger of an event task at a grid instant (R191, R192); in HOLD its release is skipped and counted (R202). -/
def State.trigger (s : State) (k t : Nat) : State :=
  if s.eng = 2 ∧ s.tstate k ≠ 5 ∧ s.tstate k ≠ 0 then s.miss k 1
  else if s.eng ≠ 1 ∨ s.tstate k = 5 ∨ s.tstate k = 0 then s
  else if (s.task k).rel.isSome || (s.task k).relAt.isSome then
    (if s.rdb (F.CYC_TASK_STAT_PENDING k) then s.miss k 1 else s.wrb (F.CYC_TASK_STAT_PENDING k) true)
  else s.modTask k (fun x => { x with relAt := some t, pendRel := false })

/-- The LEVEL of a terminal where its sample is valid (R108, R191). -/
def State.validLevel (s : State) (n : Nat) : Option Bool :=
  if (s.cellView n).st = 3 ∧ s.rd (F.PFB_CELL_CFG1_IN_FILT n) < (s.meas n).settle then some (s.meas n).level else none

/-- EVT of an object, in PFB_BUDx numbering. -/
def State.evtOf (s : State) (x : Nat) : Nat :=
  if isCell x then (s.wordA x).field 16 8 else if isGang x then (s.gangView (x - 512)).evt else (s.obj x).evt

/-- Judge the trigger of an event task at a grid instant, against the samples of the one before (R191). -/
def State.judgeTrigger (s : State) (k : Nat) : State :=
  let w := s.taskCfg k
  let kind := bitsOf w 17 3
  let src := bitsOf w 7 10
  let hit : Bool :=
    if kind = 4 then (match s.cyc.evts[src]? with | some p => p != s.evtOf src | none => false)
    else if 1 ≤ kind ∧ kind ≤ 3 then
      (match s.cyc.levels.getD src none, s.validLevel src with
       | some false, some true => kind != 2
       | some true, some false => kind != 1
       | _, _ => false)
    else false
  if hit then s.trigger k s.now else s

/-- Judge every event task's trigger, and keep the samples for the next grid instant (R191). -/
def State.judgeTriggers (s : State) : State :=
  let s := foldS ((List.range 24).filter (fun k => !isCyclic k && s.taskUsed k)) (fun k s => s.judgeTrigger k) s
  { s with cyc.levels := (List.range 512).map (fun n => s.validLevel n), cyc.evts := (List.range 608).map (fun x => s.evtOf x) }

/-! ## Images (R199) -/

/-- The terminal words of the newest grid instant. -/
def State.gridWords (s : State) (n : Nat) : Word × Word :=
  if s.fab.snap.isEmpty then s.pageWords (s.rd F.PFB_TS_SEL_PAGE) n else s.fab.snap.getD n (0, 0)

/-- Word B of a terminal with its input forces applied (R211). -/
def State.forcedB (s : State) (n : Nat) (w : Word) : Word :=
  let w := match s.forced 2 n with | some v => w.withField 25 1 v | none => w
  match s.forced 3 n with | some v => w.withField 0 12 v | none => w

/-- The input image of a release (R199). -/
def State.inputImage (s : State) (k : Nat) : List Byte :=
  let t := s.task k
  let anyForce := (List.range 256).any (fun i => let kd := leAt (s.forceEntry i) 0 1; kd == 2 || kd == 3)
  let unal := (List.range 32).any (fun b => !s.aligned (10 + b))
  bytesLE 8 t.lastRel ++ bytesLE 4 t.seq ++ bytesLE 4 (b2n unal + 2 * b2n anyForce + 4 * b2n t.prime) ++ List.replicate 48 0 ++
  s.cyc.aux.flatMap (fun w => bytesLE 4 w) ++ List.replicate (0x400 - 64 - 4 * s.cyc.aux.length) 0 ++
  (List.range 512).flatMap (fun n => let w := s.gridWords n; wordBytes w.1 ++ wordBytes (s.forcedB n w.2)) ++ List.replicate 0xC00 0

/-- INPUT_IMAGE_CAPTURE: 25 µs after the release the image is written and the task is READY (R190). -/
def inputImageCapture (t k : Nat) (s : State) : State :=
  let s := s.at_ t
  match (s.task k).rel with
  | some r =>
    if r + us 25 ≤ s.now ∧ (s.task k).imaged = false ∧ s.eng = 1 ∧ k < 24 then
      let s := s.store (cycIn k) (s.inputImage k)
      let s := foldS (List.range 512) (fun n s => (s.stampForce 2 n r).stampForce 3 n r) s
      ((s.modTask k (fun x => { x with imaged := true, readyAt := s.now })).setT k 2).schedule
    else s
  | none => s

/-! ## Task faults (R196) -/

/-- A task faults with a cause; in HOLD its dispositions wait for the end of HOLD (R202). -/
def State.taskFault (s : State) (k cause : Nat) : State :=
  let hold := s.eng == 2
  let s := (s.setT k 5).wr (F.CYC_TASK_STAT_CAUSE k) cause
  let s := s.wrb (F.CYC_TASK_STAT_PENDING k) false
  let s := s.modTask k (fun x => { x with rel := none, outs := [], relAt := none, pendRel := false, overrun := false, heldDisp := hold })
  let s := s.answerEvent k 0
  let s := if hold then s else foldS (s.taskObjs k) (fun x s => s.dispose x) s
  ((s.ownFault 0x0403 .contained (s.taskOwner k) k cause).trig 121).schedule

/-- LANE_EXCEPTION: EXCEPTION or ECC faults its task, ENGINE every task (R196). -/
def laneException (t k cause : Nat) (s : State) : State :=
  let s := s.at_ t
  if s.eng = 0 then s
  else if cause = 4 then foldS ((List.range 24).filter (fun j => s.taskUsed j && s.tstate j != 5)) (fun j s => s.taskFault j 4) s
  else if (cause = 2 ∨ cause = 3) ∧ s.taskUsed k = true ∧ s.tstate k ≠ 5 then s.taskFault k cause
  else s

/-! ## Completion (R190, R192, R195, R213) -/

/-- The task that runs on a lane. -/
def State.runningOn (s : State) (lane : Nat) : Option Nat :=
  if s.eng = 1 then (List.range 24).find? (fun k => cfgLane (s.taskCfg k) == lane && s.tstate k == 3) else none

/-- A range of the active data bank has none of its bytes in a part of the bank. -/
def State.apart (s : State) (a n off size : Nat) : Bool := decide (a + n ≤ cycData s.bank + off) || decide (cycData s.bank + off + size ≤ a)

/-- Task `k` may write a range: its own output image, or the active data bank outside its constants and other tasks' retained
variables (R184, R185, R213). -/
def State.laneMay (s : State) (k a n : Nat) : Bool :=
  (decide (cycOut k ≤ a) && decide (a + n ≤ cycOut k + 0x400)) ||
  (decide (cycData s.bank ≤ a) && decide (a + n ≤ cycData s.bank + 0xE0000) &&
   (match s.cyc.active with
    | some p => p.syms.all (fun y => !bitOf y.flags 1 || s.apart a n y.off y.size) && p.rids.all (fun r => r.task == k || s.apart a n r.off r.size)
    | none => false))

/-- The writes of an execution of task `k`, in order, up to one that the lane may not make (R182). -/
def State.laneWrites (k : Nat) : List (Nat × List Byte) → State → Bool × State
  | [], s => (true, s)
  | w :: l, s => if s.laneMay k w.1 w.2.length then State.laneWrites k l (s.store w.1 w.2) else (false, s)

/-- The first output instant of a task whose cut-off follows this instant (R195). -/
def State.firstOut (s : State) (k : Nat) : Nat :=
  let t := s.now + us 20
  if isCyclic k then (t + s.taskSpan k - s.taskPhase k) / s.taskSpan k * s.taskSpan k + s.taskPhase k
  else (t / gridNs + 1) * gridNs

/-- The output instant of a completion now: the release's own, or after an overrun or a backward step the first whose cut-off
follows (R45, R195). -/
def State.handAt (s : State) (k rel : Nat) : Nat :=
  if (s.task k).stepped = false ∧ s.now + us 20 ≤ s.outAt k rel then s.outAt k rel else s.firstOut k

/-- Outputs handed over take their place by output instant, over those of the same one. -/
def putOuts (o : Outs) : List Outs → List Outs
  | [] => [o]
  | x :: l => if o.at_ < x.at_ then o :: x :: l else if o.at_ = x.at_ then o :: l else x :: putOuts o l

/-- The completion of an execution: the handover, the retained write and a pending release. -/
def State.completed (s : State) (p : Prog) (k r : Nat) : State :=
  let vals := (s.taskObjs k).map (fun x => (x, (s.byte (cycOut k + outOff x)).toNat))
  let exec := (s.now - (s.task k).readyAt) / 1000
  let s := s.wr (F.CYC_TASK_STAT_EXEC_MAX k) (min 0xFFFF (max exec (s.rd (F.CYC_TASK_STAT_EXEC_MAX k))))
  let s := if (s.task k).overrun then s else s.wr (F.CYC_TASK_STAT_OVR_RUN k) 0
  let own := !(p.ridsOf k).isEmpty
  let pend := s.rdb (F.CYC_TASK_STAT_PENDING k)
  let s := s.modTask k (fun x => { x with
    rel := none
    overrun := false
    stepped := false
    prime := false
    outs := putOuts { at_ := s.handAt k r, vals := vals } x.outs
    retBusy := own
    retVals := s.retValues p k
    retRel := r
    retId := p.id
    retRids := p.ridsOf k
    relAt := if pend then some (ceilTo gridNs s.now) else x.relAt
    pendRel := pend || x.pendRel })
  ((s.setT k 1).trig (96 + k)).schedule

/-- TASK_COMPLETE: the execution's writes, one of which may be a lane exception (R182, R196), then its completion. -/
def taskComplete (t k : Nat) (writes : List (Nat × List Byte)) (s : State) : State :=
  let s := s.at_ t
  match (s.task k).rel, s.cyc.active with
  | some r, some p =>
    if s.tstate k = 3 ∧ s.eng = 1 then
      let w := State.laneWrites k writes s
      if w.1 then w.2.completed p k r else w.2.taskFault k 2
    else s
  | _, _ => s

/-- RETAINED_WRITE_COMPLETE (R213). -/
def retainedWriteComplete (t k : Nat) (s : State) : State :=
  let s := s.at_ t
  if (s.task k).retBusy then ((s.writeRet k).modTask k (fun x => { x with retBusy := false })).schedule else s

/-- Forces are applied to the handed-over outputs whose cut-off has come (R211). -/
def State.cutOuts (s : State) (k : Nat) : State :=
  let due := (s.task k).outs.filter (fun o => decide (o.at_ ≤ s.now + us 20) && !o.cut)
  let s := foldS due (fun o s => foldS o.vals (fun p s => s.stampForce 1 p.1 o.at_) s) s
  s.modTask k (fun x => { x with outs := x.outs.map (fun o =>
    if o.at_ ≤ s.now + us 20 ∧ o.cut = false then { o with cut := true, vals := o.vals.map (fun p => (p.1, (s.forced 1 p.1).getD p.2)) } else o) })

/-- OUTPUT_CUTOFF: forces are applied to a completed execution's outputs; an execution not complete is an overrun (R195,
R211), but for one that a backward step found in flight (R45). -/
def outputCutoff (t k : Nat) (s : State) : State :=
  let s := (s.at_ t).cutOuts k
  let x := s.task k
  match x.rel with
  | some r =>
    if s.eng = 1 ∧ s.outAt k r ≤ s.now + us 20 ∧ x.overrun = false ∧ x.stepped = false then
      let s := s.modTask k (fun x => { x with overrun := true })
      let s := (s.sat (F.CYC_TASK_CNT_OVERRUNS k) 1).sat (F.CYC_TASK_STAT_OVR_RUN k) 1
      let s := s.ownFault 0x0401 .corrected (s.taskOwner k) k 0
      let lim := cfgLimit k (s.taskCfg k)
      if lim ≠ 0 ∧ lim ≤ s.rd (F.CYC_TASK_STAT_OVR_RUN k) then s.taskFault k 1 else s
    else s
  | none => s

/-! ## Standing charges and engine states (R203–R206) -/

/-- The objects of a list that the pending swap's old program writes for the last time: their standing charges end where
the new program does not write them, and their dispositions come into force (R216, R217). -/
def State.lastOutputs (s : State) (l : List Nat) : State :=
  let kept := match s.cyc.waiting with | some q => q.objs | none => []
  foldS (l.filter (fun x => !s.cyc.swapDone.contains x)) (fun x s =>
    let s := if kept.contains x then s else s.dropStanding x
    { s.dispose x with cyc.swapDone := x :: s.cyc.swapDone }) s

/-- The last output instant of task `k` before a pending swap has come: a cyclic task's by its schedule, an event task's once no
release of it can still have an output by the swap (R216, R217). -/
def State.outputsOver (s : State) (k e : Nat) : Bool :=
  let x := s.task k
  if isCyclic k then decide ((e + s.taskSpan k - s.taskPhase k) / s.taskSpan k * s.taskSpan k + s.taskPhase k ≤ s.now + s.taskSpan k)
  else x.outs.isEmpty && (match x.rel with | some r => decide (e < s.outAt k r) | none => true) &&
    (match x.relAt with | some r => decide (e < s.outAt k r) | none => true) && decide (e < s.now + gridNs + s.taskSpan k)

/-- Every object of the task receives the values of the outputs whose instant has come; in HOLD they are not applied (R201, R202). -/
def State.applyOuts (s : State) (k : Nat) : State :=
  let s := s.cutOuts k
  let due := (s.task k).outs.filter (fun o => decide (o.at_ ≤ s.now))
  if due.isEmpty then s
  else
    let s := s.modTask k (fun x => { x with outs := x.outs.filter (fun o => decide (s.now < o.at_)), lastOut := if s.eng = 1 then s.now else x.lastOut })
    if s.eng = 1 then foldS due (fun o s => foldS o.vals (fun p s => s.outObj k p.1 p.2 o.at_) s) s else s

/-- Objects whose writers have made their last output before a pending swap follow their dispositions, after its edges (R217). -/
def State.swapOver (s : State) : State :=
  match s.cyc.swapAt with
  | some e =>
    if s.eng = 1 then foldS ((List.range 24).filter (fun k => s.taskUsed k)) (fun k s => if s.outputsOver k e then (s.applyOuts k).lastOutputs (s.taskObjs k) else s) s
    else s
  | none => s

/-- OUTPUT_INSTANT: the task's outputs are applied; its last before a swap brings its objects' dispositions into force after the
edge (R201, R217). -/
def outputInstant (t k : Nat) (s : State) : State := ((s.at_ t).applyOuts k).swapOver

/-- What a grid instant does in the engine: the words of gangs, bridges and feeds are sampled, and triggers are judged; those of a
swap instant are judged for the new program (R190, R191, R216). -/
def gridCycle (t : Nat) (s : State) : State :=
  if s.fab.lastGrid = t ∧ s.now = t then
    let s := { s with cyc.aux := (List.range 64).flatMap (fun g => if s.defined (xGang g) then [s.gangStat g, s.gangIsum g] else [0, 0]) ++
        (List.range 32).flatMap (fun h => if s.defined (xBrg h) then [s.brgStat h, 0] else [0, 0]) ++
        ([1, 2, 3, 4] : List Nat).flatMap (fun f => [s.wordN (R.PFB_FEED_STAT f), s.feedUsedWord f]) }
    if s.swapDue t then s else s.judgeTriggers.swapOver
  else s

/-- One object of a group admission (R204): the scratch state with the charges and victims before it, the heat they add or
free, the victims, and whether all were granted. -/
structure Group where
  sc      : State
  heat    : Int
  victims : List Nat
  ok      : Bool

def Group.add (g : Group) (x : Nat) : Group :=
  if !g.ok then g
  else
    let d := g.sc.iDecl x - g.sc.charge x
    match g.sc.admitWith g.heat x 1 d true with
    | .grant v =>
      let freed := v.foldl (fun a y => a + g.sc.heatOf y) 0
      let sc := foldS v (fun y s => s.modObj y (fun o => { o with shed := true })) g.sc
      { sc := sc.modObj x (fun o => { o with standing := true }), heat := g.heat + (g.sc.heatRise x 1 d : Nat) - (freed : Nat), victims := g.victims ++ v, ok := true }
    | _ => { g with ok := false }

/-- Admit a group of objects, each with its I_DECL as a standing charge: all or none (R204). -/
def State.admitGroup (s : State) (l : List Nat) : Option State :=
  let g := l.foldl Group.add { sc := s, heat := 0, victims := [], ok := true }
  if g.ok then
    some (foldS l (fun x s => s.modObj x (fun o => { o with standing := true, admAt := s.now })) (s.shedAll s.now g.victims))
  else none

/-- CMD of every object, in PFB_BUDx order. -/
def State.allCmds (s : State) : List Byte :=
  (List.range 608).map (fun x => BitVec.ofNat 8 (if isCell x then (s.cellView x).cmd else if isGang x then (s.gangView (x - 512)).cmd else (s.obj x).cmd))

/-- Fill every output image from each object's CMD, at program load (R200). -/
def State.fillOutputs (s : State) : State :=
  let b := s.allCmds
  foldS (List.range 24) (fun k s => s.store (cycOut k) b) s

/-- Set TSTATE of every task: WAITING where used, else UNUSED, with CAUSE, OVR_RUN and PENDING 0. A release that CYC_EVENT has
scheduled for a swap instant or later is the new program's (R216). -/
def State.freshTasks (s : State) (swap : Bool) : State :=
  foldS (List.range 24) (fun k s =>
    let x := s.task k
    let keep (r : Nat) : Bool := swap && decide (s.now ≤ r) && !x.pendRel && (bitsOf (s.taskCfg k) 17 3 == 5) && !isCyclic k
    let s := s.answerEvent k 0
    let s := s.setWord (R.CYC_TASK_STAT k) 0
    let s := s.setT k (if s.taskUsed k then 1 else 0)
    s.setTask k { seq := x.seq, lastRel := x.lastRel, lastOut := x.lastOut, retBusy := x.retBusy, retVals := x.retVals, retRel := x.retRel,
                  retId := x.retId, retRids := x.retRids, relAt := x.relAt.filter keep }) s

/-- The active data bank takes the program's initial values (R215). -/
def State.initData (s : State) (p : Prog) : State :=
  ({ s with mem := Memory.zero s.mem (cycData s.bank) 0xE0000 }).store (cycData s.bank) p.data

/-- Enter RUN (R203, R215, R219): a RESUME abandons the frozen executions, and the dispositions of tasks that faulted in HOLD come
into force (DEDUCED, assumption 126). -/
def State.enterRun (s : State) (mode : Nat) : State :=
  let s := match s.cyc.active with
    | some p =>
      if mode = 2 then
        let s := foldS ((List.range 24).filter (fun k => s.taskUsed k && s.tstate k != 5)) (fun k (s : State) =>
          (s.setT k 1).modTask k (fun x => { x with rel := none, outs := x.outs.filter (fun o => decide (s.now ≤ o.at_)), relAt := none, pendRel := false,
                                                    overrun := false, stepped := false })) s
        foldS ((List.range 24).filter (fun k => (s.task k).heldDisp)) (fun k (s : State) =>
          foldS (s.taskObjs k) (fun x (s : State) => s.dispose x) (s.modTask k (fun x => { x with heldDisp := false }))) s
      else
        let s := ((s.wrb F.CYC_STATE_RET_LOST false).initData p).freshTasks false
        if mode = 0 then s.restoreRet p else s
    | none => s
  ((s.wr F.CYC_STATE_STATE 1).wrb F.CYC_STATE_START_PEND false).trig 120

/-- Drop the charges admitted for a pending swap and cancel it (R216). -/
def State.cancelSwap (s : State) : State :=
  match s.cyc.swapAt with
  | some _ =>
    let s := foldS s.cyc.swapNew (fun x s => s.dropStanding x) s
    { s.wrb F.CYC_STATE_SWAP_PEND false with cyc.swapAt := none, cyc.swapNew := [], cyc.swapDone := [] }
  | none => s

/-- Standing charges of the program end (R206). -/
def State.endStanding (s : State) : State := foldS s.progObjs (fun x s => s.dropStanding x) s

/-- A start that awaits admission or its instant ends: the engine does not enter RUN for it, its admitted charges are released,
and its command is answered MODE_FORBIDS (R220, R225, DESIGN CHOICE, assumption 125). -/
def State.dropStart (s : State) : State :=
  match s.cyc.start with
  | some r =>
    let s := (if r.runAt.isSome then s.endStanding else s)
    let s := ({ s with cyc.start := none }).wrb F.CYC_STATE_START_PEND false
    (match r.cmd with
     | some k => foldS (s.mbx.cmds.filter (fun c => c.node == k.1 && c.win == k.2.1 && c.tag == k.2.2)) (fun c s => s.answer c stMODE_FORBIDS []) s
     | none => s)
  | none => s

/-- Leave RUN or HOLD for STOP; `disp` says whether dispositions come into force (R203, R363). A start that awaits ends too
(R220). -/
def State.cycStop (s : State) (disp : Bool) : State :=
  let s := s.dropStart
  if s.eng = 0 then s
  else
    let s := (s.cancelSwap).endStanding
    let s := foldS (List.range 24) (fun k s => s.answerEvent k 0) s
    let s := foldS ((List.range 24).filter (fun k => s.taskUsed k)) (fun k s =>
      let s := s.modTask k (fun x => { x with rel := none, outs := [], relAt := none, pendRel := false, overrun := false, stepped := false, heldDisp := false })
      if s.tstate k = 5 then s else (s.setT k 1).wrb (F.CYC_TASK_STAT_PENDING k) false) s
    let s := { s.wr F.CYC_STATE_STATE 0 with cyc.tRun := 0 }
    let s := s.trig 120
    if disp then foldS s.progObjs (fun x s => s.dispose x) s else s

/-- The releases that HOLD skips where it finds them scheduled or pending (R202). -/
def State.heldReleases (s : State) (k : Nat) : Nat :=
  let x := s.task k
  b2n x.relAt.isSome + b2n (s.rdb (F.CYC_TASK_STAT_PENDING k) && !(x.pendRel && x.relAt.isSome))

/-- RUN to HOLD: executions freeze, scheduled releases are skipped and counted, and standing charges end (R202, R203). -/
def State.cycHoldNow (s : State) : State :=
  let s := (s.cancelSwap).endStanding
  let s := foldS (List.range 24) (fun k s => s.answerEvent k 0) s
  let s := foldS ((List.range 24).filter (fun k => s.taskUsed k)) (fun k s =>
    let s := s.miss k (s.heldReleases k)
    let s := s.modTask k (fun x => { x with relAt := none, pendRel := false })
    let s := s.wrb (F.CYC_TASK_STAT_PENDING k) false
    if (2 ≤ s.tstate k ∧ s.tstate k ≤ 4) ∨ (s.tstate k = 1 ∧ (s.task k).rel.isSome = true) then s.setT k 6 else s) s
  (s.wr F.CYC_STATE_STATE 2).trig 120

/-- The condition of R202 has ended: forces are cleared, and HOLD becomes STOP (R203, R210). -/
def State.checkHold (s : State) : State :=
  if s.holdPermitted then s
  else
    let s := if s.forceCount = 0 then s else s.clearForces
    if s.eng = 2 then s.cycStop true else s

/-! ## Admission to RUN (R204, R225) -/

/-- A command of a key is still in flight and deferred. -/
def State.stillDeferred (s : State) (key : Nat × Nat × Nat) : Bool :=
  s.mbx.cmds.any (fun c => c.node == key.1 && c.win == key.2.1 && c.tag == key.2.2 && c.phase == .deferred)

/-- The present start still awaits: a command's start ends with its command. -/
def State.startLive (s : State) : Option CStart :=
  match s.cyc.start with
  | some r =>
    (match r.cmd with
     | some k => if r.runAt.isSome || s.stillDeferred k then some r else none
     | none => some r)
  | none => none

/-- The commands that a start answers. -/
def State.startCmds (s : State) (r : CStart) : List Cmd :=
  match r.cmd with
  | some k => s.mbx.cmds.filter (fun c => c.node == k.1 && c.win == k.2.1 && c.tag == k.2.2)
  | none => []

/-- The limit of the start's command has passed (R62, R71). -/
def State.startExpired (s : State) (r : CStart) : Bool := (s.startCmds r).any (fun c => s.expired c)

/-- That start ends without effect (R62). -/
def State.expireStart (s : State) (r : CStart) : State :=
  foldS (s.startCmds r) (fun c s => s.expire c) (({ s with cyc.start := none }).wrb F.CYC_STATE_START_PEND false)

/-- Try the admission of the awaiting start: granted, the engine enters RUN at the next grid instant. -/
def State.tryStart (s : State) : State :=
  match s.startLive with
  | some r =>
    if r.runAt.isSome then s
    else if s.startExpired r then s.expireStart r
    else match s.admitGroup (s.progObjs) with
      | some s' =>
        let at_ := (s.now / gridNs + 1) * gridNs
        let s' := { s'.wrb F.CYC_STATE_START_PEND false with cyc.start := some { r with runAt := some at_ } }
        match r.cmd with
        | some k => { s' with mbx.cmds := s'.mbx.cmds.map (fun c => if c.node == k.1 && c.win == k.2.1 && c.tag == k.2.2 then { c with phase := .running } else c) }
        | none => s'
      | none => s.wrb F.CYC_STATE_START_PEND true
  | none => ({ s with cyc.start := none }).wrb F.CYC_STATE_START_PEND false

/-- RUN_ADMISSION: a start that awaits is admitted, and an admitted one enters RUN at its grid instant. -/
def runAdmission (t : Nat) (s : State) : State :=
  let s := s.at_ t
  match s.startLive with
  | some r =>
    (match r.runAt with
     | some a =>
       if a ≤ s.now then
         let s := { s.enterRun r.mode with cyc.start := none, cyc.tRun := s.now }
         match r.cmd with
         | some k =>
           (match s.mbx.cmds.find? (fun c => c.node == k.1 && c.win == k.2.1 && c.tag == k.2.2) with
            | some c => s.answer c stOK (bytesLE 8 s.now)
            | none => s)
         | none => s
       else s
     | none => s.tryStart)
  | none => s

/-! ## Swaps (R216–R218) -/

/-- The longest period of a program, an event task's being its output delay (R216). -/
def Prog.longest (p : Prog) : Nat :=
  ((List.range 24).foldl (fun m k => let w := p.cfgs.getD k 0; if cfgUsed k w then max m (cfgSpan w) else m) 0) * gridNs

/-- The waiting program becomes the active one; `carry` says whether retained values are carried over (R218). -/
def State.activate (s : State) (carry : Bool) : State :=
  match s.cyc.waiting with
  | some q =>
    let vals := match s.cyc.active with
      | some p =>
        if carry then q.rids.filterMap (fun e => (p.rids.find? (fun r => r.rid == e.rid && r.size == e.size && r.hash == e.hash)).map
            (fun r => (e.off, s.load (cycData s.bank + r.off) r.size)))
        else []
      | none => []
    let s := s.wr F.CYC_STATE_BANK (1 - s.bank)
    let s := { s with cyc.active := some q, cyc.waiting := none, cyc.staged := [] }
    let s := s.initData q
    let s := foldS vals (fun p s => s.store (cycData s.bank + p.1) p.2) s
    let s := foldS (List.range 24) (fun k s =>
      let s := s.setWord (R.CYC_TASK_CFG k) (BitVec.ofNat 32 (q.cfgs.getD k 0))
      let s := s.setWord (R.CYC_TASK_CNT k) 0
      s.wr (F.CYC_TASK_OWN_DISCARDS k) 0) s
    let s := (s.wr F.CYC_HYPER_HYPER q.hyper).freshTasks carry
    let s := s.fillOutputs
    let s := foldS (List.range 256) (fun i s =>
      let e := s.forceEntry i
      if leAt e 0 1 = 1 ∧ q.writer.getD (leAt e 2 2) 0xFF = 0xFF then s.store (cycForce i) (List.replicate 16 0) else s) s
    let s := s.forceStat
    let s := if s.cyc.commitAt.isSome then ({ s.wr F.CYC_STATE_OC_RESULT 4 with cyc.commitAt := none }).trig 122 else s
    (s.wr F.CYC_STATE_OC_STAGED 0).wrb F.CYC_STATE_LOADED false
  | none => s

/-- The exchange of the programs: the last outputs of the old one, then the new one active, its swap no longer pending. -/
def State.exchange (s : State) : State :=
  let s := foldS (List.range 24) (fun k s => s.applyOuts k) s
  let s := ((s.lastOutputs s.progObjs).activate true).trig 123
  { s.wrb F.CYC_STATE_SWAP_PEND false with cyc.swapAt := none, cyc.swapNew := [], cyc.swapDone := [] }

/-- SWAP_INSTANT: the old program's outputs of that instant are applied, then the programs are exchanged, and triggers of that
grid instant go to the new one (R216–R218). -/
def swapInstant (t : Nat) (s : State) : State :=
  let s := s.at_ t
  match s.cyc.swapAt with
  | some e =>
    if e ≤ s.now ∧ s.eng = 1 then
      let s := s.exchange
      if s.fab.lastGrid = s.now ∧ s.now = e then s.judgeTriggers else s
    else s
  | none => s

/-! ## Online change (R207–R209) -/

/-- Apply a staged entry to the active data bank. -/
def State.applyChange (s : State) (p : Prog) (e : List Byte) : State :=
  match p.syms[leAt e 0 2]? with
  | some y => s.store (cycData s.bank + y.off + leAt e 2 2) (slice e 8 (leAt e 4 1))
  | none => s

/-- Apply every staged entry and empty the list. -/
def State.applyStaged (s : State) : State :=
  let s := match s.cyc.active with | some p => foldS s.cyc.staged (fun e (s : State) => s.applyChange p e) s | none => s
  ({ s with cyc.staged := [], cyc.commitAt := none }).wr F.CYC_STATE_OC_STAGED 0

/-- No task is RUNNING, PREEMPTED or READY. -/
def State.idle (s : State) : Bool := (List.range 24).all (fun k => !(decide (2 ≤ s.tstate k) && decide (s.tstate k ≤ 4)))

/-- ONLINE_CHANGE_IDLE_POINT. -/
def onlineChangeIdlePoint (t : Nat) (s : State) : State :=
  let s := s.at_ t
  match s.cyc.commitAt with
  | some a => if a ≤ t ∧ t % gridNs = 0 ∧ t ≤ a + ms 100 ∧ s.idle = true then (s.applyStaged.wr F.CYC_STATE_OC_RESULT 2).trig 122 else s
  | none => s

/-- ONLINE_CHANGE_NO_IDLE. -/
def onlineChangeNoIdle (t : Nat) (s : State) : State :=
  let s := s.at_ t
  match s.cyc.commitAt with
  | some a => if a + ms 100 ≤ s.now then ({ s.wr F.CYC_STATE_OC_RESULT 3 with cyc.commitAt := none }).trig 122 else s
  | none => s

end Sys2Proof.Machine
end

