-- ==== Sys2Proof/Machine/CycleCmds.lean ====
section
/-!
DEFINITION. Machine/CycleCmds.lean: the cycle-engine commands (group 0x04, R222–R228).
-/
namespace Sys2Proof.Machine

/-- The program is owned by PROG_OWNER (R222). -/
def State.ownsProg (s : State) (c : Cmd) : Bool :=
  if c.pass9 then true
  else if c.node = 0xFFFF then whoOfTarget (s.rd F.CYC_CFG_PROG_OWNER) == c.who && c.who != 17
  else s.rd F.CYC_CFG_PROG_OWNER != 0x3F && s.granted c.node c.who kCyc 0 true
/-- The program's owner, or a reader of it. -/
def State.readsProg (s : State) (c : Cmd) : Bool :=
  if c.node = 0xFFFF then s.ownsProg c || bitOf (s.ownOf kVar 0).readers c.who else s.granted c.node c.who kCyc 0 false
/-- A task is owned by its OWNER; grants name task k by k + 1 (the program is 0, R399). -/
def State.ownsTask (s : State) (c : Cmd) (k : Nat) : Bool :=
  if c.node = 0xFFFF then s.taskOwner k == c.who && c.who != 17 else s.taskOwner k != 17 && s.granted c.node c.who kCyc (k + 1) true
def State.readsTask (s : State) (c : Cmd) (k : Nat) : Bool :=
  if c.node = 0xFFFF then s.ownsTask c k || bitOf (s.ownOf kCyc k).readers c.who else s.granted c.node c.who kCyc (k + 1) false

/-- CYC_STATE as it reads: START_PEND while a start awaits admission. -/
def State.cycStateWord (s : State) : Word :=
  (s.word R.CYC_STATE).withField 2 1 (match s.startLive with | some r => b2n r.runAt.isNone | none => 0)

def cycStatusBody (c : Cmd) (s : State) : Res :=
  need (s.readsProg c) stNOT_OWNER <|
  .done stOK (wordBytes s.cycStateWord ++ wordBytes (s.word R.CYC_CFG) ++ wordBytes (s.word R.CYC_HYPER) ++
    bytesLE 8 ((s.cyc.active.map (fun p => p.id)).getD 0) ++ bytesLE 8 ((s.cyc.waiting.map (fun p => p.id)).getD 0) ++
    bytesLE 8 (s.cyc.swapAt.getD 0) ++ bytesLE 8 (if s.eng = 1 then s.cyc.tRun else 0) ++ bytesLE 4 0) s

def cycTaskStatusBody (c : Cmd) (s : State) : Res :=
  let k := c.arg 0 1
  need (decide (k < 24) && c.zero 1 3) stBAD_ARGUMENT <|
  need (s.readsTask c k) stNOT_OWNER <|
  .done stOK (wordBytes (s.word (R.CYC_TASK_CFG k)) ++ wordBytes (s.word (R.CYC_TASK_STAT k)) ++ wordBytes (s.word (R.CYC_TASK_CNT k)) ++
    wordBytes (s.word (R.CYC_TASK_OWN k)) ++ bytesLE 8 (s.task k).lastRel ++ bytesLE 8 (s.task k).lastOut) s

/-- Put a program image into the inactive banks (R185, R224). -/
def State.loadInactive (s : State) (p : Prog) : State :=
  let b := 1 - s.bank
  let s := { s with mem := Memory.zero (Memory.zero s.mem (cycProg b) 0x100000) (cycData b) 0xE0000 }
  let s := (s.store (cycProg b) p.code).store (cycData b) p.data
  ({ s with cyc.waiting := some p }).wrb F.CYC_STATE_LOADED true

def cycLoadBody (c : Cmd) (s : State) : Res :=
  let b := s.load (c.dAddr 0) (c.dSize 0)
  need (s.ownsProg c) stNOT_OWNER <|
  need (s.progOk b) stBAD_ARGUMENT <|
  need (s.progTag b) stAUTH_FAILED <|
  if s.cyc.swapAt.isSome then .wait .waitObject
  else .done stOK (bytesLE 8 (progOf b).id) (s.loadInactive (progOf b))

/-- t_sw for an instant from which the longest period counts (R216). -/
def State.swapInstantOf (s : State) (at_ from_ : Nat) : Nat :=
  let h := max 1 (s.rd F.CYC_HYPER_HYPER) * gridNs
  let l := match s.cyc.active with | some p => p.longest | none => 0
  ceilTo h (max at_ (from_ + l))

/-- Schedule the swap, admitting the objects that only the new program writes; `from_` is the take instant, or that of a later
admission (R216). -/
def State.scheduleSwap (s : State) (at_ from_ : Nat) : Option (Nat × State) :=
  let new := s.newObjs.filter (fun x => !s.cyc.swapNew.contains x)
  match s.admitGroup new with
  | some s' =>
    let e := s.swapInstantOf at_ from_
    some (e, { s'.wrb F.CYC_STATE_SWAP_PEND true with cyc.swapAt := some e, cyc.swapNew := s.newObjs, cyc.swapDone := [] })
  | none => none

def cycSwapBody (c : Cmd) (s : State) : Res :=
  need (s.ownsProg c) stNOT_OWNER <|
  need (s.eng != 2 && s.cyc.waiting.isSome && !(s.eng == 1 && s.swapDue s.now)) stMODE_FORBIDS <|
  if s.eng = 0 then .done stOK (bytesLE 8 s.now) ((s.activate false).trig 123)
  else match s.scheduleSwap (c.arg 0 8) c.taken with
    | some (e, s') => .done stACCEPTED (bytesLE 8 e) s'
    | none => if c.nowait then .done stBUDGET_DENIED [] (s.denyAwaited c) else .later .deferred s.now s

def cycStartBody (c : Cmd) (s : State) : Res :=
  let m := c.arg 0 1
  need (decide (m ≤ 2) && c.zero 1 3) stBAD_ARGUMENT <|
  need (s.ownsProg c) stNOT_OWNER <|
  need (s.cyc.active.isSome) stBAD_ARGUMENT <|
  need ((m == 2 && s.eng == 2) || (m != 2 && s.eng == 0)) stMODE_FORBIDS <|
  if (match s.startLive with | some r => !r.auto | none => false) then .wait .waitObject
  else
    let s := { s with cyc.start := some { mode := m, auto := false, cmd := some (c.node, c.win, c.tag) } }
    match s.admitGroup s.progObjs with
    | some s' =>
      let at_ := (s.now / gridNs + 1) * gridNs
      .later .running at_ ({ s' with cyc.start := some { mode := m, auto := false, cmd := some (c.node, c.win, c.tag), runAt := some at_ } })
    | none => if c.nowait then .done stBUDGET_DENIED [] (({ s with cyc.start := none } : State).denyAwaited c) else .later .deferred s.now s

def cycStopBody (c : Cmd) (s : State) : Res :=
  need (s.ownsProg c) stNOT_OWNER <|
  need (s.eng == 1 || s.eng == 2) stMODE_FORBIDS <|
  .done stOK (bytesLE 8 s.now) (s.cycStop true)

def cycHoldBody (c : Cmd) (s : State) : Res :=
  need (s.ownsProg c) stNOT_OWNER <|
  need (s.eng == 1 && s.holdPermitted) stMODE_FORBIDS <|
  .done stOK (bytesLE 8 s.now) s.cycHoldNow

/-- The next release instant of a cyclic task after now (R189). -/
def State.nextRelease (s : State) (k : Nat) : Nat :=
  let p := s.taskSpan k
  (s.now + p - s.taskPhase k) / p * p + s.taskPhase k

def cycTaskRestartBody (c : Cmd) (s : State) : Res :=
  let k := c.arg 0 1
  need (decide (k < 24) && c.zero 1 3) stBAD_ARGUMENT <|
  need (s.ownsTask c k) stNOT_OWNER <|
  need (s.eng == 1 && s.tstate k == 5) stMODE_FORBIDS <|
  let s := ((s.setT k 1).wr (F.CYC_TASK_STAT_CAUSE k) 0).wr (F.CYC_TASK_STAT_OVR_RUN k) 0
  .done stOK (bytesLE 8 (if isCyclic k then s.nextRelease k else 0)) (s.modTask k (fun x => { x with prime := true }))

/-- The payload of CYC_CHANGE: its own, or the DIR 0 buffer's with DESC (R226). -/
def State.changeBytes (s : State) (c : Cmd) : List Byte := if c.desc then s.load (c.dAddr 0) (min (c.dSize 0) 1036) else c.argBytes 0 c.req.len

/-- An online-change entry is valid (R207). -/
def State.changeOk (s : State) (e : List Byte) : Bool :=
  let w := leAt e 4 1
  let o := leAt e 2 2
  (w == 1 || w == 2 || w == 4 || w == 8) && decide (leAt e 5 1 ≤ 1) && leAt e 6 2 == 0 && decide (leAt e 8 8 < 256 ^ w) && o % w == 0 &&
  (match s.cyc.active with
   | some p => (match p.syms[leAt e 0 2]? with | some y => bitOf y.flags (leAt e 5 1) && decide (o + w ≤ y.size) | none => false)
   | none => false)

/-- The response of CYC_CHANGE: OC_STAGED (R226). -/
def State.stagedBytes (s : State) : List Byte := bytesLE 1 s.cyc.staged.length ++ bytesLE 3 0

def cycChangeBody (c : Cmd) (s : State) : Res :=
  let b := s.changeBytes c
  let op := leAt b 0 1
  let n := leAt b 1 1
  let es := (List.range n).map (fun i => slice b (12 + 16 * i) 16)
  let at_ := leAt b 4 8
  need (decide (op ≤ 2) && leAt b 2 2 == 0 && (op == 1 || at_ == 0) &&
    (if op = 0 then between 1 64 n && (if c.desc then decide (12 + 16 * n ≤ c.dSize 0) else c.req.len == 12 + 16 * n) && es.all (fun e => s.changeOk e)
     else n == 0 && (c.desc || c.req.len == 12))) stBAD_ARGUMENT <|
  need (s.ownsProg c) stNOT_OWNER <|
  need (if op = 0 then decide (s.cyc.staged.length + n ≤ 64) else op != 1 || !s.cyc.staged.isEmpty) stBAD_ARGUMENT <|
  need (op != 1 || s.eng != 2) stMODE_FORBIDS <|
  if s.cyc.commitAt.isSome then .wait .waitObject
  else if op = 0 then
    let s := { s with cyc.staged := s.cyc.staged ++ es }
    .done stOK s.stagedBytes (s.wr F.CYC_STATE_OC_STAGED s.cyc.staged.length)
  else if op = 1 then
    if s.eng = 0 then
      let s := s.applyStaged.wr F.CYC_STATE_OC_RESULT 2
      .done stOK s.stagedBytes s
    else .done stACCEPTED s.stagedBytes ({ s.wr F.CYC_STATE_OC_RESULT 1 with cyc.commitAt := some (if at_ = 0 then s.now else max at_ s.now) })
  else
    let s := { s with cyc.staged := [] }
    .done stOK s.stagedBytes ((s.wr F.CYC_STATE_OC_STAGED 0).wr F.CYC_STATE_OC_RESULT 4)

/-- A force entry of a request has a KIND, zero reserved bytes and SET_AT zero (R210, R227). -/
def forceForm (e : List Byte) : Bool := between 1 3 (leAt e 0 1) && leAt e 1 1 == 0 && leAt e 6 2 == 0 && leAt e 8 8 == 0

/-- A force entry to be set is well formed (R210, R227). -/
def forceOk (e : List Byte) : Bool :=
  let k := leAt e 0 1
  let i := leAt e 2 2
  let v := leAt e 4 2
  forceForm e &&
  (if k = 1 then decide (i < 608) && decide (v ≤ outMax i) else decide (i < 512) && (if k = 2 then decide (v ≤ 1) else decide (v ≤ 0xFA0)))

/-- Put one force into the table: over the entry of its KIND and INDEX, else into a free slot. -/
def State.putForce (s : State) (e : List Byte) : Option State :=
  match s.forceSlot (leAt e 0 1) (leAt e 2 2) with
  | some i => some (s.store (cycForce i) e)
  | none => ((List.range 256).find? (fun i => leAt (s.forceEntry i) 0 1 == 0)).map (fun i => s.store (cycForce i) e)

/-- Set a list of forces, or none where the table is full. -/
def State.putForces (s : State) : List (List Byte) → Option State
  | [] => some s
  | e :: l => match s.putForce e with | some s' => s'.putForces l | none => none

def State.forceBytes (s : State) : List Byte := bytesLE 2 s.forceCount ++ bytesLE 2 0

def cycForceBody (c : Cmd) (s : State) : Res :=
  let op := c.arg 0 1
  let n := c.arg 1 1
  let es := (List.range n).map (fun i => c.argBytes (4 + 16 * i) 16)
  let key (e : List Byte) := s.forceSlot (leAt e 0 1) (leAt e 2 2)
  need (c.zero 2 2 && (c.req.len == 4 + 16 * n) &&
    (if op = 0 then between 1 2 n && es.all forceOk else if op = 1 then n == 1 && es.all (fun e => forceForm e && (key e).isSome) else op == 2 && n == 0)) stBAD_ARGUMENT <|
  need (s.ownsProg c) stNOT_OWNER <|
  need (s.holdPermitted && (op != 0 || es.all (fun e => leAt e 0 1 != 1 || s.progObjs.contains (leAt e 2 2)))) stMODE_FORBIDS <|
  if op = 0 then
    (match s.putForces es with
     | some s' => .done stOK s'.forceBytes s'.forceStat
     | none => .refuse stBAD_ARGUMENT)
  else if op = 1 then
    let s' := foldS es (fun e (s : State) => match s.forceSlot (leAt e 0 1) (leAt e 2 2) with | some i => s.store (cycForce i) (List.replicate 16 0) | none => s) s
    .done stOK s'.forceBytes s'.forceStat
  else .done stOK (s.clearForces).forceBytes s.clearForces

def cycVarReadBody (c : Cmd) (s : State) : Res :=
  let o := c.arg 2 2
  let w := c.arg 4 1
  let y := match s.cyc.active with | some p => p.syms[c.arg 0 2]? | none => none
  need (between 1 40 w && c.zero 5 3 && (match y with | some y => decide (o + w ≤ y.size) | none => false)) stBAD_ARGUMENT <|
  need (s.readsProg c) stNOT_OWNER <|
  .done stOK (bytesLE 8 s.now ++ (match y with | some y => s.load (cycData s.bank + y.off + o) w | none => [])) s

/-- CYC_EVENT: the release is at the grid instant of R191, or, for a command that had to wait, at the next one (DEDUCED, assumption 159). -/
def cycEventBody (c : Cmd) (s : State) : Res :=
  let k := c.arg 0 1
  need (between 8 23 k && c.zero 1 3 && bitsOf (s.taskCfg k) 17 3 == 5) stBAD_ARGUMENT <|
  need (s.ownsTask c k) stNOT_OWNER <|
  if s.eng ≠ 1 ∨ s.tstate k = 5 then .done stOK (bytesLE 8 0) (s.trigger k s.now)
  else
    let t := ceilTo gridNs (max (c.taken + us 50) (s.now + 1))
    if (s.task k).rel.isSome || (s.task k).relAt.isSome then .later .running k (s.trigger k t)
    else .done stOK (bytesLE 8 t) (s.trigger k t)

/-- Deferred CYC_SWAP commands are admitted again at every governor cycle (R216). -/
def State.retrySwaps (s : State) : State :=
  foldS (s.mbx.cmds.filter (fun c => c.op == 0x0404 && c.phase == .deferred)) (fun c s =>
    if s.expired c then s.expire c
    else if s.eng = 1 ∧ s.cyc.waiting.isSome = true then
      (match s.scheduleSwap (c.arg 0 8) s.now with
       | some (e, s') => s'.answer c stACCEPTED (bytesLE 8 e)
       | none => s)
    else s.answer c stMODE_FORBIDS []) s

/-- What a governor cycle does for the engine: awaiting starts and swaps are tried again (R204, R216). -/
def cycleGovern (s : State) : State := ((match s.startLive with | some _ => s.tryStart | none => s)).retrySwaps

/-- A governor cycle with the engine's share in it: no feed sheds after it has restored (R164, R170, R204). -/
def governorRound (t : Nat) (s : State) : State :=
  let s := s.at_ t
  if s.fab.lastGov + ms 1 ≤ s.now then { cycleGovern (governorCycle t s) with fab.restFeeds := [] } else s

/-- The engine's status page, rewritten after every grid instant. -/
def cycleStatusPage (s : State) : State :=
  let s := s.store cycStatus (wordBytes s.cycStateWord ++ wordBytes (s.word R.CYC_CFG) ++ wordBytes (s.word R.CYC_HYPER) ++ bytesLE 4 0 ++ bytesLE 8 s.fab.lastGrid)
  s.store (cycStatus + 0x100) ((List.range 24).flatMap (fun k => wordBytes (s.word (R.CYC_TASK_CFG k)) ++ wordBytes (s.word (R.CYC_TASK_STAT k)) ++
    wordBytes (s.word (R.CYC_TASK_CNT k)) ++ wordBytes (s.word (R.CYC_TASK_OWN k))))

def dCycStatus : CmdDef := { op := 0x0401, lens := lenIs 0, coppice := true, body := cycStatusBody }
def dCycTaskStatus : CmdDef := { op := 0x0402, lens := lenIs 4, coppice := true, names := argKey kCyc 0 1, body := cycTaskStatusBody }
def dCycLoad : CmdDef := { op := 0x0403, lens := fun _ => false, descs := [[0]], names := progKey, body := cycLoadBody }
def dCycSwap : CmdDef := { op := 0x0404, lens := lenIs 8, names := progKey, body := cycSwapBody }
def dCycStart : CmdDef := { op := 0x0405, lens := lenIs 4, names := progKey, body := cycStartBody }
def dCycStop : CmdDef := { op := 0x0406, lens := lenIs 0, names := progKey, body := cycStopBody }
def dCycHold : CmdDef := { op := 0x0407, lens := lenIs 0, names := progKey, body := cycHoldBody }
def dCycTaskRestart : CmdDef := { op := 0x0408, lens := lenIs 4, names := argKey kCyc 0 1, body := cycTaskRestartBody }
def dCycChange : CmdDef := { op := 0x0409, lens := fun n => n == 12 || n == 28 || n == 44, descs := [[0]], names := progKey, body := cycChangeBody }
def dCycForce : CmdDef := { op := 0x040A, lens := fun n => n == 4 || n == 20 || n == 36, names := progKey, body := cycForceBody }
def dCycVarRead : CmdDef := { op := 0x040B, lens := lenIs 8, names := progKey, body := cycVarReadBody }
def dCycEvent : CmdDef := { op := 0x040C, lens := lenIs 4, names := argKey kCyc 0 1, body := cycEventBody }

end Sys2Proof.Machine
end

