-- ==== Sys2Proof/Machine/Blocks.lean ====
section
/-!
DEFINITION. Machine/Blocks.lean: accesses to the register blocks of channels (R48, R307): who may reach them, the
answer of the bus, and the refusal of the others.
-/
namespace Sys2Proof.Machine

/-- The bus answers an access with data (R25). -/
def State.replyData (s : State) (w : Nat) : State := { s with bus := .data w }

/-- Write an entry of the bridge error log (R358): the type, the access and its address. -/
def State.blogWrite (s : State) (ty : Nat) (a : Acc) (addr : Nat) : State :=
  let n := s.rd F.GWY_BLOG_CTL_NEXT
  let s := s.setWord (R.GWY_BLOG_INFO n) 0
  let s := (((s.wr (F.GWY_BLOG_INFO_TYPE n) ty).wrb (F.GWY_BLOG_INFO_SECURE n) a.sec).wr (F.GWY_BLOG_INFO_PART n) a.part).wr (F.GWY_BLOG_INFO_MASTER n) a.master
  let s := (s.wr (F.GWY_BLOG_INFO_ADDR_HI n) (addr / 2 ^ 32)).setWord (R.GWY_BLOG_ADDR n) (BitVec.ofNat 32 addr)
  let s := (s.setPair (R.GWY_BLOG_TS_LO n) (R.GWY_BLOG_TS_HI n) s.now).wr F.GWY_BLOG_CTL_NEXT (n + 1)
  s.sat F.GWY_BLOG_CTL_TOTAL 1

/-- The clock island of a master (R41, R494): bank controllers as 10–41. -/
def masterIsland (m : Nat) : Nat :=
  if m < 8 then 3 else if m < 0x10 then 4 else if m = 0x10 then 2 else if m = 0x11 then 1 else if m < 0x14 then 5 else if m = 0x14 then 6
  else if m = 0x15 then 7 else if 0x20 ≤ m ∧ m < 0x40 then m - 0x20 + 10 else if m = 0x40 then 9 else 8

/-- The type of a failed posted write in the bridge error log, by its fault (R358): 1 DECODE, 2 ACCESS, 3 ECC. -/
def blogType (code : Nat) : Nat := if code = 0x0103 then 1 else if code = 0x0105 then 3 else 2

/-- An access fails with a fault: a load or fetch takes a bus error; a store is posted, so its failure enters the bridge
error log and raises the source of its master's island (R32, R48, R357, R451). The type is 1 READ, 2 WRITE, 3 FETCH
(R494). -/
def State.failAcc (s : State) (code : Nat) (a : Acc) (ty addr : Nat) : State :=
  if ty = 2 then
    { ((s.blogWrite (blogType code) a addr).trig (80 + min 10 (masterIsland a.master))).accFault code a ty addr with bus := .none }
  else { s.accFault code a ty addr with bus := .busError }

/-- An access is refused with a CONTAINED access-violation fault (R48, R307). -/
def State.refuseAcc (s : State) (a : Acc) (ty addr : Nat) : State := s.failAcc 0x0B01 a ty addr

/-- The Privet controller's own access. -/
def accPrivet (a : Acc) : Bool := a.dev && a.master == 0x10

/-- An access may write the block of an object: its owner or the Privet controller (R307). -/
def State.blockWrites (s : State) (a : Acc) (kind idx : Nat) : Bool :=
  accPrivet a || (!a.dev && s.ownerOf kind idx == accWho a)

/-- An access may read the block of an object: also the members of its reader mask (R307). -/
def State.blockReads (s : State) (a : Acc) (kind idx : Nat) : Bool :=
  s.blockWrites a kind idx || (!a.dev && bitOf (s.ownOf kind idx).readers (accWho a))

/-- A write to an object's block, or its refusal. -/
def State.blockWrite (s : State) (a : Acc) (kind idx addr : Nat) (f : State → State) : State :=
  if s.blockWrites a kind idx then f { s with bus := .none } else s.refuseAcc a 2 addr

/-- A read of an object's block, or its refusal. -/
def State.blockRead (s : State) (a : Acc) (kind idx addr : Nat) (f : State → State) : State :=
  if s.blockReads a kind idx then f s else s.refuseAcc a 1 addr

/-- The Privet controller or a unit of the module stores with the identity of an object's owner (R310, R445): DEVICE's
own store, an admitted one, or a refusal with its fault. -/
def State.storeAs (s : State) (who master addr : Nat) (l : List Byte) : State :=
  if who = 17 ∨ s.admitsAll who .store addr l.length = true then s.store addr l
  else s.refuseAcc ⟨master, who == 16, (if who < 16 then who else 0), false, false⟩ 2 addr

/-! ## Routes and endpoints of the signal gateway (R336, R337) -/

/-- A route. -/
def State.route (s : State) (r : Nat) : GRoute := s.gwy.routes.get {} r
def State.setRoute (s : State) (r : Nat) (x : GRoute) : State := { s with gwy.routes := s.gwy.routes.set r x }
def State.modRoute (s : State) (r : Nat) (f : GRoute → GRoute) : State := s.setRoute r (f (s.route r))

/-- The endpoint words of R337. -/
def epCan (c k : Nat) : Nat := 0x10000000 + 0x10000 * c + k
def epLin (c i : Nat) : Nat := 0x20000000 + 0x10000 * c + i
def epPdu (id : Nat) : Nat := 0x30000000 + id

/-- The signal entries of a route (R340). -/
def State.routeSigs (s : State) (x : GRoute) : List GSig := if x.level = 2 then (s.gwy.sigs.drop x.first).take x.count else []

/-- A route names a source endpoint (R338). -/
def State.routeFrom (s : State) (x : GRoute) (ep : Nat) : Bool :=
  if x.level = 1 then x.src == ep else (s.routeSigs x).any (fun g => g.src == ep)

/-- The defined routes whose source is an endpoint, and those that drive one. -/
def State.routesFrom (s : State) (ep : Nat) : List Nat := s.gwy.routes.keys.filter (fun r => (s.route r).defined && s.routeFrom (s.route r) ep)
def State.routesTo (s : State) (ep : Nat) : List Nat := s.gwy.routes.keys.filter (fun r => (s.route r).defined && (s.route r).dst == ep)

end Sys2Proof.Machine
end

