-- ==== Sys2Proof/Machine/CanCore.lean ====
section
/-!
DEFINITION. Machine/CanCore.lean: CAN channels (R305–R325): registers, object area, message objects, event queues.
-/
namespace Sys2Proof.Machine

/-- A channel beside its registers. -/
def State.can_ (s : State) (c : Nat) : CanChan := s.can.get {} c
def State.modCan (s : State) (c : Nat) (f : CanChan → CanChan) : State := { s with can := s.can.set c (f (s.can_ c)) }

/-- Raise interrupt source `i` of channel `c` (R325). -/
def State.canTrig (s : State) (c i : Nat) : State := s.trig (384 + 8 * c + i)

/-- The level lines of the event queues (R325). -/
def State.canLines (s : State) (c : Nat) : State :=
  let x := s.can_ c
  { s with irq.line := (s.irq.line.set (384 + 8 * c) (!x.rxq.isEmpty)).set (384 + 8 * c + 1) (!x.txq.isEmpty) }

/-! ## Object area (R310, R311) -/

/-- The base of a channel's object area. -/
def State.canArea (s : State) (c : Nat) : Nat := s.rd (F.CAN_AREA_LO_ADDR c) * 4096 + s.rd (F.CAN_AREA_HI_ADDR_HI c) * 2 ^ 32

/-- The address of slot `sl` of object `k`. -/
def State.canSlot (s : State) (c k sl : Nat) : Nat := s.canArea c + 160 * k + 80 * sl

/-- The owner of a channel. -/
def State.canOwner (s : State) (c : Nat) : Nat := s.ownerOf kCan c

/-- The area check of a configuration (R310). -/
def State.canAreaOk (s : State) (c : Nat) : Bool :=
  let w := s.canOwner c
  let a := s.canArea c
  let d := s.cfg.devArea
  if w = 17 then inSram a && inSram (a + 81919) && decide (d.1 ≤ a) && decide (a + 81920 ≤ d.1 + d.2)
  else s.ringRange w (s.canArea c) 81920 && s.admitsAll w .load (s.canArea c) 81920 && s.admitsAll w .store (s.canArea c) 81920

/-- Store into the object area with the owner's identity. -/
def State.canStore (s : State) (c addr : Nat) (l : List Byte) : State := s.storeAs (s.canOwner c) 0x10 addr l

/-- A slot read with the owner's identity: none where the memory protection refuses it, with the fault of R447 (R310). -/
def State.canLoad (s : State) (c addr : Nat) : Option (List Byte) × State :=
  let w := s.canOwner c
  if w = 17 ∨ s.admitsAll w .load addr 80 = true then (some (s.load addr 80), s)
  else (none, s.refuseAcc ⟨0x10, w == 16, (if w < 16 then w else 0), false, false⟩ 1 addr)

/-- The data length of a DLC: 8 at most in a classical frame (ISO 11898-1). -/
def dlcLen (fdf : Bool) (dlc : Nat) : Nat :=
  if dlc ≤ 8 then dlc else if !fdf then 8
  else match dlc with | 9 => 12 | 10 => 16 | 11 => 20 | 12 => 24 | 13 => 32 | 14 => 48 | _ => 64

/-- The DLC of a data length. -/
def lenDlc (n : Nat) : Nat :=
  if n ≤ 8 then n else if n ≤ 12 then 9 else if n ≤ 16 then 10 else if n ≤ 20 then 11 else if n ≤ 24 then 12 else if n ≤ 32 then 13
  else if n ≤ 48 then 14 else 15

/-- A slot's bytes (R311). -/
def slotBytes (stamp dlc ff : Nat) (data : List Byte) : List Byte :=
  bytesLE 8 stamp ++ bytesLE 4 0 ++ bytesLE 1 dlc ++ bytesLE 1 ff ++ bytesLE 2 0 ++ slice data 0 64

/-- FFLAGS of a frame. -/
def canFf (f : CanFrame) : Nat := b2n f.fdf + 2 * b2n f.brs + 4 * b2n f.esi + 8 * b2n f.rtr

/-- The data bytes a frame carries: none in a remote frame (R313). -/
def canPayload (f : CanFrame) : List Byte := if f.rtr then [] else slice f.data 0 (dlcLen f.fdf f.dlc)

/-- The slot bytes of a received frame. -/
def canSlotOf (f : CanFrame) : List Byte := slotBytes f.sof f.dlc (canFf f) (canPayload f)

/-! ## Objects -/

/-- TXST codes (R318). -/
def txIDLE : Nat := 0
def txPENDING : Nat := 1
def txACTIVE : Nat := 2
def txSENT : Nat := 3
def txABORTED : Nat := 4
def txABORT_PEND : Nat := 5

/-- The transmit state of an object. -/
def State.txst (s : State) (c k : Nat) : Nat := s.rd (F.CAN_OBJ_STAT_TXST c k)
def State.setTxst (s : State) (c k v : Nat) : State := s.wr (F.CAN_OBJ_STAT_TXST c k) v

/-- An object is a transmit object. -/
def State.isTx (s : State) (c k : Nat) : Bool := s.rdb (F.CAN_OBJ_ID_DIR c k)

/-- The identifier format and identifier of an object, as the low 30 bits of its word. -/
def State.objIdent (s : State) (c k : Nat) : Nat := (s.word (R.CAN_OBJ_ID c k)).toNat % 2 ^ 30

/-- The identifier of a frame in the layout of CAN_OBJk_ID. -/
def canIdent (f : CanFrame) : Nat := if f.ide then 2 ^ 29 + f.id % 2 ^ 29 else (f.id % 2 ^ 11) * 2 ^ 18

/-- EN of an object as the frame whose arbitration field began at `arb` sees it (R312). -/
def State.enAt (s : State) (c k arb : Nat) : Bool :=
  match ((s.can_ c).enLog.filter (fun e => e.2.1 == k && decide (arb < e.1))).getLast? with
  | some e => e.2.2
  | none => s.rdb (F.CAN_OBJ_ID_EN c k)

/-- Write EN and note its value before. -/
def State.setEn (s : State) (c k : Nat) (en : Bool) : State :=
  let old := s.rdb (F.CAN_OBJ_ID_EN c k)
  (s.modCan c (fun x => { x with enLog := (s.now, k, old) :: x.enLog })).wrb (F.CAN_OBJ_ID_EN c k) en

/-- A nominal bit lasts this many periods of 12.5 ns (R309). -/
def State.canBit (s : State) (c : Nat) : Nat := (s.rd (F.CAN_NBT_NBRP c) + 1) * (3 + s.rd (F.CAN_NBT_NTSEG1 c) + s.rd (F.CAN_NBT_NTSEG2 c))

/-- A data bit lasts this many periods of 12.5 ns. -/
def State.canDataBit (s : State) (c : Nat) : Nat := (s.rd (F.CAN_DBT_DBRP c) + 1) * (3 + s.rd (F.CAN_DBT_DTSEG1 c) + s.rd (F.CAN_DBT_DTSEG2 c))

/-! ## Event queues (R320, R321) -/

/-- Queue a receive event (R316). -/
def State.rxEvent (s : State) (c k : Nat) : State :=
  if s.rdb (F.CAN_OBJ_STAT_EVQ c k) && !(s.can_ c).rxq.contains k then (s.modCan c (fun x => { x with rxq := x.rxq ++ [k] })).canLines c else s

/-- Queue a transmit outcome (R320). -/
def State.txEvent (s : State) (c k outcome : Nat) : State :=
  if !s.rdb (F.CAN_OBJ_STAT_EVQ c k) then s
  else if (s.can_ c).txq.length < 512 then (s.modCan c (fun x => { x with txq := x.txq ++ [(outcome, k)] })).canLines c
  else (s.modCan c (fun x => { x with ovf := satAdd x.ovf 1 0xFFFFFFFF })).canTrig c 6

/-- The word of a pop register, as its HEAD register also shows it (R13). -/
def State.rxHeadWord (s : State) (c : Nat) : Nat := match (s.can_ c).rxq with | k :: _ => 2 ^ 31 + k | [] => 0
def State.txHeadWord (s : State) (c : Nat) : Nat := match (s.can_ c).txq with | (o, k) :: _ => 2 ^ 31 + o * 2 ^ 24 + k | [] => 0

/-! ## Receive objects (R316) -/

/-- LOST rises on an object (R316, R325). -/
def State.objLostNow (s : State) (c k : Nat) : State := (s.wrb (F.CAN_OBJ_STAT_LOST c k) true).canTrig c 4

/-- Write the slot that is not current (R315). -/
def State.otherSlot (s : State) (c k : Nat) (b : List Byte) : State :=
  s.canStore c (s.canSlot c k (1 - s.rd (F.CAN_OBJ_STAT_CUR c k))) b

/-- CUR ← 1 − CUR. -/
def State.flipCur (s : State) (c k : Nat) : State := s.wr (F.CAN_OBJ_STAT_CUR c k) (1 - s.rd (F.CAN_OBJ_STAT_CUR c k))

/-- A frame is accepted by receive object `k`: the first three rows of R316. -/
def State.objAccept (s : State) (c k : Nat) (b : List Byte) : State :=
  let s := (s.otherSlot c k b).inc (F.CAN_OBJ_STAT_FRAMES c k)
  if s.rdb (F.CAN_OBJ_STAT_HELD c k) then
    (if s.rdb (F.CAN_OBJ_STAT_PEND c k) then s.objLostNow c k else s.wrb (F.CAN_OBJ_STAT_PEND c k) true)
  else
    let s := s.flipCur c k
    let s := if s.rdb (F.CAN_OBJ_STAT_NEW c k) then s.objLostNow c k else s
    (s.wrb (F.CAN_OBJ_STAT_NEW c k) true).rxEvent c k

/-- HOLD_SET on a receive object. -/
def State.objHold (s : State) (c k : Nat) : State := s.wrb (F.CAN_OBJ_STAT_HELD c k) true

/-- HOLD_REL on a receive object: the three rows of R316. -/
def State.objRelease (s : State) (c k : Nat) : State :=
  if s.rdb (F.CAN_OBJ_STAT_HELD c k) && s.rdb (F.CAN_OBJ_STAT_PEND c k) then
    ((((s.flipCur c k).wrb (F.CAN_OBJ_STAT_PEND c k) false).wrb (F.CAN_OBJ_STAT_HELD c k) false).wrb (F.CAN_OBJ_STAT_NEW c k) true).rxEvent c k
  else (s.wrb (F.CAN_OBJ_STAT_NEW c k) false).wrb (F.CAN_OBJ_STAT_HELD c k) false

/-! ## Transmit objects (R317–R320) -/

/-- TXREQ: the TXREQ column of R318. -/
def State.objTxreq (s : State) (c k slot : Nat) : State :=
  let st := s.txst c k
  if st = txACTIVE ∨ st = txABORT_PEND then (s.wr (F.CAN_OBJ_STAT_NSLOT c k) slot).wrb (F.CAN_OBJ_STAT_PEND c k) true
  else (s.wr (F.CAN_OBJ_STAT_CUR c k) slot).setTxst c k txPENDING

/-- A request ends with an outcome; a waiting second request becomes PENDING (R318). -/
def State.txEnd (s : State) (c k st outcome : Nat) : State :=
  let s := (s.setTxst c k st).txEvent c k outcome
  if s.rdb (F.CAN_OBJ_STAT_PEND c k) then
    ((s.wr (F.CAN_OBJ_STAT_CUR c k) (s.rd (F.CAN_OBJ_STAT_NSLOT c k))).wrb (F.CAN_OBJ_STAT_PEND c k) false).setTxst c k txPENDING
  else s

/-- ABORT: the ABORT column of R318. -/
def State.objAbort (s : State) (c k : Nat) : State :=
  let st := s.txst c k
  if st = txPENDING then s.txEnd c k txABORTED 2 else if st = txACTIVE then s.setTxst c k txABORT_PEND else s

/-- The object whose frame is on the bus. -/
def State.onBus (s : State) (c k : Nat) : Bool := match (s.can_ c).active with | some (j, _) => j == k | none => false

/-- A frame has left the bus: an object whose EN was written 0 is disabled now (R318). -/
def State.offBus (s : State) (c : Nat) : State :=
  match (s.can_ c).active with
  | none => s
  | some (k, _) =>
    let s := s.modCan c (fun x => { x with active := none })
    if (s.can_ c).leaving.contains k then
      (s.modCan c (fun x => { x with leaving := x.leaving.filter (fun j => j != k) })).setEn c k false
    else s

/-! ## Actions (R314) -/

/-- Actions on an object are ignored while it is disabled or driven by a gateway route (R314). -/
def State.objTakes (s : State) (c k : Nat) (tx : Bool) : Bool :=
  s.rdb (F.CAN_OBJ_ID_EN c k) && !s.rdb (F.CAN_OBJ_STAT_GW c k) && (s.isTx c k == tx)

/-- The object is enabled and no route drives it. -/
def State.objFree (s : State) (c k : Nat) : Bool := s.rdb (F.CAN_OBJ_ID_EN c k) && !s.rdb (F.CAN_OBJ_STAT_GW c k)

def State.actEvqOff (s : State) (c k : Nat) : State := if s.objFree c k then s.wrb (F.CAN_OBJ_STAT_EVQ c k) false else s
def State.actEvqOn (s : State) (c k : Nat) : State := if s.objFree c k then s.wrb (F.CAN_OBJ_STAT_EVQ c k) true else s
def State.actLostClr (s : State) (c k : Nat) : State := if s.objTakes c k false then s.wrb (F.CAN_OBJ_STAT_LOST c k) false else s
def State.actHoldRel (s : State) (c k : Nat) : State := if s.objTakes c k false then s.objRelease c k else s
def State.actHoldSet (s : State) (c k : Nat) : State := if s.objTakes c k false then s.objHold c k else s
def State.actAbort (s : State) (c k : Nat) : State := if s.objTakes c k true then s.objAbort c k else s
def State.actTxreq (s : State) (c k slot : Nat) : State := if s.objTakes c k true then s.objTxreq c k slot else s

/-- A write to CAN_OBJk_CTL: its actions in the stated order, or none of them (R314). -/
def State.writeObjCtl (s : State) (c k v : Nat) : State :=
  if (bitOf v 8 && bitOf v 7) || (bitOf v 5 && bitOf v 4) then s
  else
    let s := if bitOf v 8 then s.actEvqOff c k else s
    let s := if bitOf v 7 then s.actEvqOn c k else s
    let s := if bitOf v 6 then s.actLostClr c k else s
    let s := if bitOf v 5 then s.actHoldRel c k else s
    let s := if bitOf v 4 then s.actHoldSet c k else s
    let s := if bitOf v 3 then s.actAbort c k else s
    if bitOf v 0 then s.actTxreq c k (bitsOf v 1 1) else s

/-! ## Enabling (R312) -/

/-- Enabling object `k` would share IDE and ID with an enabled object of its direction (R312). -/
def State.objDup (s : State) (c k : Nat) : Bool :=
  (List.range 512).any (fun j => j != k && s.rdb (F.CAN_OBJ_ID_EN c j) && (s.isTx c j == s.isTx c k) && (s.objIdent c j == s.objIdent c k))

/-- The identifier word is permitted: with IDE 0, bits [17:0] are zero. -/
def identOk (v : Nat) : Bool := bitOf v 29 || (bitsOf v 0 18 == 0)

/-- EN is written 0 (R316, R318). -/
def State.disableObj (s : State) (c k : Nat) : State :=
  if s.isTx c k then
    let s := (s.wrb (F.CAN_OBJ_STAT_PEND c k) false).objAbort c k
    let s := s.wrb (F.CAN_OBJ_STAT_DUP c k) false
    if s.onBus c k then s.modCan c (fun x => { x with leaving := k :: x.leaving }) else s.setEn c k false
  else
    let s := ((s.wrb (F.CAN_OBJ_STAT_HELD c k) false).wrb (F.CAN_OBJ_STAT_PEND c k) false).wrb (F.CAN_OBJ_STAT_NEW c k) false
    let s := (s.modCan c (fun x => { x with rxq := x.rxq.filter (fun j => j != k) })).canLines c
    (s.wrb (F.CAN_OBJ_STAT_DUP c k) false).setEn c k false

/-- A write to CAN_OBJk_ID (R15, R312): the identifier and direction while the object is disabled, then EN. -/
def State.writeObjId (s : State) (c k v : Nat) : State :=
  if s.rdb (F.CAN_OBJ_ID_EN c k) then (if bitOf v 31 then s.wrb (F.CAN_OBJ_STAT_DUP c k) false else s.disableObj c k)
  else if !identOk v then s
  else
    let s := s.setWord (R.CAN_OBJ_ID c k) (BitVec.ofNat 32 (v % 2 ^ 31))
    let s := if bitOf v 30 then s else s.setTxst c k txIDLE
    if !bitOf v 31 then s
    else if s.objDup c k then s.wrb (F.CAN_OBJ_STAT_DUP c k) true
    else (s.wrb (F.CAN_OBJ_STAT_DUP c k) false).setEn c k true

/-! ## STATE and the error counters (R322, R323) -/

/-- Change STATE (R322). -/
def State.canState (s : State) (c v : Nat) : State :=
  if s.rd (F.CAN_STAT_STATE c) = v then s
  else ((s.wr (F.CAN_STAT_STATE c) v).modCan c (fun x => { x with stateAt := s.now })).canTrig c 2

/-- WARN, and ERROR_ACTIVE or ERROR_PASSIVE, as the counters give them (R322). -/
def State.canCounters (s : State) (c : Nat) : State :=
  let t := s.rd (F.CAN_STAT_TEC c)
  let r := s.rd (F.CAN_STAT_REC c)
  let s := s.wrb (F.CAN_STAT_WARN c) (decide (96 ≤ t) || decide (96 ≤ r))
  if s.rd (F.CAN_STAT_STATE c) = 1 ∨ s.rd (F.CAN_STAT_STATE c) = 2 then s.canState c (if 128 ≤ t ∨ 128 ≤ r then 2 else 1) else s

/-- The channel takes part in bus traffic. -/
def State.canLive (s : State) (c : Nat) : Bool := s.rd (F.CAN_STAT_STATE c) == 1 || s.rd (F.CAN_STAT_STATE c) == 2

/-- A channel starts: ERROR_ACTIVE with both counters 0 (DESIGN CHOICE, assumption 50). -/
def State.canBegin (s : State) (c : Nat) : State :=
  (((s.wr (F.CAN_STAT_TEC c) 0).wr (F.CAN_STAT_REC c) 0).wrb (F.CAN_STAT_WARN c) false).canState c 1

/-- MODE takes effect (R308): LOOPBACK only in the DEVELOP lifecycle; a base configuration that asks for it in another leaves the
channel OFF (R305, DESIGN CHOICE, assumption 160). A channel that sleeps alone decodes no more once it is OFF. -/
def State.canMode (s : State) (c m : Nat) : State :=
  let m := if m = 4 ∧ s.rd F.MPC_LC_STAT_LIFECYCLE ≠ 1 then 0 else m
  let old := s.rd (F.CAN_CTL_MODE c)
  let s := (s.modCan c (fun x => { x with modeWant := none })).wr (F.CAN_CTL_MODE c) m
  if m = 0 then
    ({ s with can := s.can.set c { s.can_ c with recoverAt := none }, slp.decoding := s.slp.decoding.filter (fun d => d != c),
              slp.armChan := s.slp.armChan.filter (fun d => d != c) }).canState c 0
  else if old = 0 then s.canBegin c else s

end Sys2Proof.Machine
end

