-- ==== Sys2Proof/Machine/LinCore.lean ====
section
/-!
DEFINITION. Machine/LinCore.lean: LIN channels (R326–R329): frame buffers and errors.
-/
namespace Sys2Proof.Machine

/-- A channel beside its registers. -/
def State.lin_ (s : State) (c : Nat) : LinChan := s.lin.get {} c
def State.modLin (s : State) (c : Nat) (f : LinChan → LinChan) : State := { s with lin := s.lin.set c (f (s.lin_ c)) }

/-- Raise interrupt source `i` of channel `c` (R325). -/
def State.linTrig (s : State) (c i : Nat) : State := s.trig (512 + 4 * c + i)

/-- The data registers of a buffer hold these bytes. -/
def State.setLinData (s : State) (c i : Nat) (b : List Byte) : State :=
  (s.setWord (R.LIN_BUF_DATA0 c i) (BitVec.ofNat 32 (leAt b 0 4))).setWord (R.LIN_BUF_DATA1 c i) (BitVec.ofNat 32 (leAt b 4 4))

/-- The data bytes of a buffer. -/
def State.linData (s : State) (c i : Nat) : List Byte :=
  bytesLE 4 (s.wordN (R.LIN_BUF_DATA0 c i)) ++ bytesLE 4 (s.wordN (R.LIN_BUF_DATA1 c i))

/-- A buffer is published by the commander (R327). -/
def State.linPub (s : State) (c i : Nat) : Bool := s.rdb (F.LIN_BUF_CFG_DIR c i)

/-- NEW rises on a subscribed buffer (R325). -/
def State.linNew (s : State) (c i : Nat) : State :=
  let s := if s.rdb (F.LIN_BUF_ST_NEW c i) then s else s.linTrig c 0
  s.wrb (F.LIN_BUF_ST_NEW c i) true

/-- A response is accepted by a subscribe buffer: the first three rows of R316, with the shadow in the island (R327). -/
def State.linAccept (s : State) (c i : Nat) (b : List Byte) : State :=
  if s.rdb (F.LIN_BUF_ST_HELD c i) then
    let s := s.modLin c (fun x => { x with shadow := x.shadow.set i b })
    if s.rdb (F.LIN_BUF_ST_PEND c i) then s.wrb (F.LIN_BUF_ST_LOST c i) true else s.wrb (F.LIN_BUF_ST_PEND c i) true
  else
    let s := s.setLinData c i b
    let s := if s.rdb (F.LIN_BUF_ST_NEW c i) then s.wrb (F.LIN_BUF_ST_LOST c i) true else s
    s.linNew c i

/-- HOLD_REL on a subscribe buffer (R316). -/
def State.linRelease (s : State) (c i : Nat) : State :=
  if s.rdb (F.LIN_BUF_ST_HELD c i) && s.rdb (F.LIN_BUF_ST_PEND c i) then
    let s := s.setLinData c i ((s.lin_ c).shadow.get [] i)
    let s := s.modLin c (fun x => { x with shadow := x.shadow.erase i })
    ((s.wrb (F.LIN_BUF_ST_PEND c i) false).wrb (F.LIN_BUF_ST_HELD c i) false).linNew c i
  else (s.wrb (F.LIN_BUF_ST_NEW c i) false).wrb (F.LIN_BUF_ST_HELD c i) false

/-- HOLD_SET on a subscribe buffer: ignored on a source of the gateway, its only consumer, where LOST never rises (R338; DEDUCED,
assumption 163). -/
def State.linHoldSet (s : State) (c i : Nat) : State :=
  if s.linPub c i || !(s.routesFrom (epLin c i)).isEmpty then s else s.wrb (F.LIN_BUF_ST_HELD c i) true
def State.linHoldRel (s : State) (c i : Nat) : State := if s.linPub c i then s else s.linRelease c i
def State.linLostClr (s : State) (c i : Nat) : State := if s.linPub c i then s else s.wrb (F.LIN_BUF_ST_LOST c i) false

/-- The CTL actions of a write to LIN_BUFi_CFG, in the order of R308; both HOLD actions together are none (R314). -/
def State.linCtl (s : State) (c i v : Nat) : State :=
  if bitOf v 0 && bitOf v 1 then s
  else
    let s := if bitOf v 2 then s.linLostClr c i else s
    let s := if bitOf v 1 then s.linHoldRel c i else s
    if bitOf v 0 then s.linHoldSet c i else s

/-- A channel is stopped: ENABLE is 0, from the slot start at which that takes effect (R15, R326). -/
def State.linStopped (s : State) (c : Nat) : Bool := !s.rdb (F.LIN_CTL_ENABLE c) && !(s.lin_ c).run

/-- A write to LIN_BUFi_CFG: its LOCKED fields while the channel is stopped, then its actions. -/
def State.writeLinCfg (s : State) (c i v : Nat) : State :=
  let s := if !s.linStopped c || !(decide (1 ≤ bitsOf v 0 4) && decide (bitsOf v 0 4 ≤ 8)) then s
           else ((s.wr (F.LIN_BUF_CFG_DIR c i) (bitsOf v 5 1)).wr (F.LIN_BUF_CFG_CSUM c i) (bitsOf v 4 1)).wr (F.LIN_BUF_CFG_LEN c i) (bitsOf v 0 4)
  s.linCtl c i (bitsOf v 6 4)

/-- A write to DATA1 of a publish buffer sets DIRTY (R327); a subscribe buffer's data is the current slot. -/
def State.writeLinData1 (s : State) (c i v : Nat) : State :=
  if s.linPub c i then (s.setWord (R.LIN_BUF_DATA1 c i) (BitVec.ofNat 32 v)).wrb (F.LIN_BUF_ST_DIRTY c i) true else s

/-- A write to DATA0. -/
def State.writeLinData0 (s : State) (c i v : Nat) : State :=
  if s.linPub c i then s.setWord (R.LIN_BUF_DATA0 c i) (BitVec.ofNat 32 v) else s

/-- A frame error: recorded in the buffer, counted, and raised (R329). -/
def State.linError (s : State) (c i err : Nat) : State :=
  ((s.wr (F.LIN_BUF_ST_ERR c i) err).sat (F.LIN_STAT_ERRORS c) 1).linTrig c 1

/-- A bit lasts this many ns, rounded up. -/
def State.linBit (s : State) (c : Nat) : Nat := (1000000000 + s.rd (F.LIN_CTL_BAUD c) - 1) / max 1 (s.rd (F.LIN_CTL_BAUD c))

/-- T_FRAME_MAX of a buffer's frame in ns, rounded up (R329). -/
def linFrameMax (baud len : Nat) : Nat := (14 * (34 + 10 * (len + 1)) * 100000000 + baud - 1) / max 1 baud

/-- The LIN_NEW pair (R329). -/
def State.linNewWord (s : State) (c : Nat) : Nat :=
  ((List.range 64).filter (fun i => s.rdb (F.LIN_BUF_ST_NEW c i))).foldl (fun a i => a + 2 ^ i) 0

end Sys2Proof.Machine
end

