-- ==== Sys2Proof/Machine/Streams.lean ====
section
/-!
DEFINITION. Machine/Streams.lean: stream identification, filters, gates and redundancy (R285–R288).
-/
namespace Sys2Proof.Machine

def State.stream (s : State) (n : Nat) : Stream := s.tsn.streams.get {} n
def State.setStream (s : State) (n : Nat) (x : Stream) : State := { s with tsn.streams := s.tsn.streams.set n x }
def wrap32 (n : Nat) : Nat := n % 2 ^ 32

/-- The streams that are defined, in stream-number order. -/
def State.streamsDefined (s : State) : List Nat :=
  (s.regs.keys.filter (fun a => decide (R.TSN_STR_ID 0 ≤ a) && decide (a ≤ R.TSN_STR_ID 1023) && (a % 16 == 0))).map
    (fun a => (a - R.TSN_STR_ID 0) / 16) |>.filter (fun n => s.rd (F.TSN_STR_ID_IDTYPE n) != 0)

def State.strMac (s : State) (n : Nat) : Nat := s.rd (F.TSN_STR_MACL_MAC n) + 2 ^ 32 * s.rd (F.TSN_STR_MACH_MAC n)

/-- The stream that a frame belongs to: the first matching entry (R285). -/
def State.identify (s : State) (vid : Nat) (b : List Byte) : Option Nat :=
  s.streamsDefined.find? (fun n =>
    (s.rd (F.TSN_STR_MACH_VID n) == vid) &&
    (if s.rd (F.TSN_STR_ID_IDTYPE n) = 1 then s.strMac n == dstMac b else s.strMac n == srcMac b))

/-- Sub-steps 1 and 2 for an identified frame of `len` bytes: whether it passes (R285). -/
def State.streamFilter (s : State) (n len : Nat) : Bool × State :=
  let x := { s.stream n with matched := wrap32 ((s.stream n).matched + 1) }
  if x.blocked then (false, s.setStream n { x with dropOver := wrap32 (x.dropOver + 1) })
  else if x.maxSdu ≠ 0 ∧ x.maxSdu < len then
    let s := s.setStream n { x with dropOver := wrap32 (x.dropOver + 1), blocked := x.blockOver }
    (false, if x.blockOver then s.trig 289 else s)
  else if x.sgate ≠ 0xFFFF ∧ (s.gates (kSg x.sgate)).open_ = false then
    (false, s.setStream n { x with dropGate := wrap32 (x.dropGate + 1) })
  else (true, s.setStream n x)

/-- Sub-step 3: the class the stream sets, if any (R285). -/
def State.streamClass (s : State) (n : Nat) : Option Nat :=
  let x := s.stream n
  let g := (s.gates (kSg x.sgate)).ipv
  if x.sgate ≠ 0xFFFF ∧ g ≠ 0xFF then some g else if x.ipvValid then some x.ipv else none

/-! ## Sequence recovery (R288) -/

inductive Rcv where
  | pass | dup | rogue
deriving DecidableEq, Repr

/-- The signed distance of a 16-bit number from the highest seen. -/
def seqDelta (high seq : Nat) : Int := sgn 16 ((seq + 65536 - high) % 65536)

/-- The recovery of a sequence number by a function: bit i of the history is the number `high - i` (R288). -/
def Frer.recover (f : Frer) (alg history seq : Nat) : Rcv × Frer :=
  if f.any then (.pass, { f with any := false, high := seq, hist := 1 })
  else if alg = 1 then (if seq = f.high then (.dup, f) else (.pass, { f with high := seq }))
  else
    let d := seqDelta f.high seq
    if (history : Int) ≤ d ∨ d ≤ -(history : Int) then (.rogue, f)
    else if d ≤ 0 then
      (if bitOf f.hist (-d).toNat then (.dup, f) else (.pass, { f with hist := setBit f.hist (-d).toNat }))
    else (.pass, { f with high := seq, hist := (f.hist * 2 ^ d.toNat + 1) % 2 ^ history })

/-- A frame's R-TAG: its sequence number, and the frame without it (R287, R288). -/
def rtagOf (b : List Byte) : Option (Nat × List Byte) :=
  if frameType b = 0xF1C1 then some (beAt b (typeOff b + 4) 2, b.take (typeOff b) ++ b.drop (typeOff b + 6)) else none

/-- Recovery of an identified frame: whether it passes, the frame with its R-TAG decoded, and the state (R288). -/
def State.recover (s : State) (n : Nat) (b : List Byte) : Bool × List Byte × State :=
  let x := s.stream n
  if x.recov = 0xFFFF then (true, b, s)
  else match rtagOf b with
    | none => (false, b, s.setStream n { x with rogue := wrap32 (x.rogue + 1) })
    | some (seq, b') =>
      let r := (s.tsn.frer.get {} x.recov).recover (s.rd (F.TSN_FRER_A_ALG x.recov)) (s.rd (F.TSN_FRER_A_HISTORY x.recov)) seq
      let put (f : Frer) (s : State) : State := { s with tsn.frer := s.tsn.frer.set x.recov f }
      match r.1 with
      | .pass => (true, b', (put { r.2 with lastAt := s.now, passed := r.2.passed + 1 } s).setStream n { x with passed := wrap32 (x.passed + 1) })
      | .dup => (false, b, (put { r.2 with disc := r.2.disc + 1 } s).setStream n { x with dup := wrap32 (x.dup + 1) })
      | .rogue => (false, b, (put { r.2 with disc := r.2.disc + 1 } s).setStream n { x with rogue := wrap32 (x.rogue + 1) })

/-- The streams that name a recovery function. -/
def State.frerStreams (s : State) (f : Nat) : List Nat := s.tsn.streams.keys.filter (fun n => (s.stream n).recov == f)

/-- FRER_RESET_TIMER of a function: no frame passed within RESET_MS (R288). -/
def frerResetTimer (t f : Nat) (s : State) : State :=
  let s := s.at_ t
  let x := s.tsn.frer.get {} f
  if f < 256 ∧ x.any = false ∧ x.lastAt + ms (s.rd (F.TSN_FRER_B_RESET_MS f)) ≤ s.now then
    let s := { s with tsn.frer := s.tsn.frer.set f { x with any := true, hist := 0, lastAt := s.now } }
    (foldS (s.frerStreams f) (fun n s => s.setStream n { s.stream n with resets := wrap32 ((s.stream n).resets + 1) }) s).trig 292
  else s

/-- FRER_LATENT_PERIOD of a function, every LATENT_PERIOD ms: latent error detection compares discarded frames with passed frames × (paths − 1)
(R288; paths: the streams that name the function, PRESUMED, assumption 26). -/
def frerLatentPeriod (t f : Nat) (s : State) : State :=
  let s := s.at_ t
  let x := s.tsn.frer.get {} f
  if f < 256 ∧ s.rdb (F.TSN_FRER_A_LATENT f) = true ∧ x.latAt + ms (s.rd (F.TSN_FRER_B_LATENT_PERIOD f)) ≤ s.now then
    let want : Int := (x.passed : Int) * (((s.frerStreams f).length : Int) - 1)
    let s := { s with tsn.frer := s.tsn.frer.set f { x with passed := 0, disc := 0, latAt := s.now } }
    if s.rd (F.TSN_FRER_A_LATENT_DIFF f) < ((x.disc : Int) - want).natAbs then
      (s.trig 291).ownFault 0x0502 .corrected (s.ownerOf kRecov f) f 0
    else s
  else s

end Sys2Proof.Machine
end

