-- ==== Sys2Proof/Machine/SwitchRx.lean ====
section
/-!
DEFINITION. Machine/SwitchRx.lean: what a received frame passes (R233, R236–R243, R252–R254, R285–R289).
-/
namespace Sys2Proof.Machine

/-- A destination of a frame at step 7: port, class, marked. -/
structure Dest where
  port : Nat
  cls  : Nat
  mark : Bool := false
deriving DecidableEq, Repr

/-- A frame of `n` bytes is above the maximum SDU of a queue, 0 for none (R273, PRESUMED, assumption 137). -/
def State.overSdu (s : State) (q n : Nat) : Bool := let m := s.rd (F.TSN_MAXSDU_LEN q); m != 0 && decide (m < n)

/-- Step 7 of R236 for one destination: the link, the queue's maximum SDU, Q_MAX, and random early drop (R243, R250, R251, R255). -/
def State.queueCheck (s : State) (n : Nat) (b : List Byte) (colour : Nat) (d : Dest) : Option Dest × State :=
  if !s.admitsFrames d.port then (none, s.countDrop d.port d.cls cDROP_LINK)
  else if s.overSdu (qOf d.port d.cls) n then (none, s.queueDrop d.port d.cls)
  else if s.rd (F.SWC_Q_CFG0_Q_MAX (qOf d.port d.cls)) ≤ (s.swQueue (qOf d.port d.cls)).occ then (none, s.countDrop d.port d.cls cDROP_QMAX)
  else
    let r := s.redDecide (qOf d.port d.cls) colour
    match r.1 with
    | .accept => (some d, r.2)
    | .drop => (none, r.2.countDrop d.port d.cls cDROP_RED)
    | .mark => if ecnCapable b then (some { d with mark := true }, r.2.count d.port cMARK_RED 1)
               else (none, r.2.countDrop d.port d.cls cDROP_RED)

/-- Step 7 of R236 for every destination. -/
def State.queueChecks (s : State) (n : Nat) (b : List Byte) (colour : Nat) : List Dest → List Dest × State
  | [] => ([], s)
  | d :: l =>
    let r := s.queueCheck n b colour d
    let k := r.2.queueChecks n b colour l
    (match r.1 with | some x => x :: k.1 | none => k.1, k.2)

/-- The classes that frames of a stream can take: the IPVs of its gate's list, its own IPV, or a PCP map's classes (R238,
R285). -/
def State.streamClasses (s : State) (n : Nat) : List Nat :=
  let x := s.stream n
  let own := if x.ipvValid then [x.ipv] else (List.range 28).flatMap (fun p => (List.range 8).map (fun k => s.rd (F.SWC_PORT_CFG2_PCP_MAP p) / 8 ^ k % 8))
  let g := s.gates (kSg x.sgate)
  let ipvs := if x.sgate = 0xFFFF then [0xFF] else g.ipv :: (match g.oper with | some l => l.ents.map (fun e => e.2.1) | none => [])
  ipvs.flatMap (fun v => if v = 0xFF then own else [v])

/-- The ports that frames of a stream can leave by: those of its destination's entry, else of its VLAN (R239, R241). -/
def State.streamPorts (s : State) (n : Nat) : Nat :=
  let vid := s.rd (F.TSN_STR_MACH_VID n)
  match (if s.rd (F.TSN_STR_ID_IDTYPE n) = 1 then s.fdbFind vid (s.strMac n) else none) with
  | some i => (s.fdbE i).mask
  | none => (s.swc.vlans.get {} vid).member

/-- A queue carries a stream with an 802.1CB function or one marked SAFETY: one that can take its class and leave by its port, or
the frame's own (R252, R288). -/
def State.carriesStreams (s : State) (str : Option Nat) (p c : Nat) : Bool :=
  let special (n : Nat) : Bool := s.rdb (F.TSN_STR_ID_SAFETY n) || (s.stream n).seqGen || (s.stream n).recov != 0xFFFF
  (match str with | some n => special n | none => false) ||
  s.streamsDefined.any (fun n => special n && (s.streamClasses n).contains c && bitOf (s.streamPorts n) p)

/-- A destination receives the frame cut through (R252). -/
def State.cutThrough (s : State) (p : Nat) (secTag : Bool) (str : Option Nat) (d : Dest) : Bool :=
  let q := qOf d.port d.cls
  isExt d.port && s.rdb (F.SWC_Q_CFG1_CT_EN q) && (!s.carriesStreams str d.port d.cls || s.rdb (F.SWC_Q_CFG1_CT_OVR q)) &&
  !secTag && decide (s.portRate d.port ≤ s.portRate p)

/-- A frame is classified as fast actuation (R289). -/
def State.isFast (s : State) (p : Nat) (b : List Byte) : Bool :=
  s.rdb F.TSN_FA_CFG_FA_EN && isExt p && bitOf (s.rd F.TSN_FA_CFG_FA_PORTS) p && (frameType b == s.rd F.TSN_FA_ETYPE_FA_ETYPE)

/-- Step 3 of R236: the VID of a frame, or none where it is dropped (R237). -/
def State.classify (s : State) (p : Nat) (b : List Byte) : Option Nat :=
  let tag := tagged b && (tagVid b != 0)
  let acc := s.rd (F.SWC_PORT_CFG0_ACCEPT p)
  let vid := if tag then tagVid b else s.rd (F.SWC_PORT_CFG1_PVID p)
  if (acc = 1 ∧ tag = false) ∨ (acc = 2 ∧ tag = true) then none
  else if vid = 4095 ∨ (s.swc.vlans.get {} vid).defined = false then none
  else if bitOf (s.swc.vlans.get {} vid).member p then some vid else none

/-- Step 8 of R236: the frame takes its cells and its copies wait in their queues; on ABORT_POOL every copy is counted in
DROP_POOL (R243). -/
def State.admitFrame (s : State) (f : Frame) (arrived : Nat) (secTag : Bool) (str : Option Nat) (dests : List Dest) : Option Nat × State :=
  let s0 : State := { s with swc.frames := s.swc.frames ++ [f], swc.nextFid := s.swc.nextFid + 1 }
  match s0.takeCells f.fid arrived (dests.map (fun d => qOf d.port d.cls)) with
  | none => (none, foldS dests (fun d s => s.countDrop d.port d.cls cDROP_POOL) s)
  | some s => (some f.fid, { s with swc.copies := s.swc.copies ++ dests.map (fun d =>
      { fid := f.fid, src := f.src, port := d.port, cls := d.cls, cut := s.cutThrough f.src secTag str d, mark := d.mark, enq := s.now }) })

/-- Steps 7 and 8 of R236: the lookup gives the destinations, each queue takes or drops its copy, and the buffer takes the frame. -/
def State.toQueues (s : State) (f : Frame) (arrived : Nat) (secTag : Bool) (str : Option Nat) : Option Nat × State :=
  let b := f.bytes
  let fast := s.isFast f.src b
  let toFa : Dest := { port := 27, cls := s.rd F.TSN_FA_CFG_FA_CLASS }
  match s.lookup f.src f.vid (dstMac b) with
  | none =>
    if fast then
      let q := s.queueChecks f.len b f.colour [toFa]
      if q.1 = [] then (none, q.2) else q.2.admitFrame { f with fast := true } arrived secTag str q.1
    else (none, s.count f.src cDROP_UNKNOWN 1)
  | some (ports, flood) =>
    let ds := (ports.filter (fun o => !(fast && o == 27))).map (fun o => ({ port := o, cls := f.cls } : Dest))
    let q := s.queueChecks f.len b f.colour (if fast then ds ++ [toFa] else ds)
    if q.1 = [] then (none, q.2) else q.2.admitFrame { f with flood := flood, fast := fast } arrived secTag str q.1

/-- Step 6 of R236 and what follows it: the stream's sequence generation and recovery, then the queues. -/
def State.sequence (s : State) (f : Frame) (arrived : Nat) (secTag : Bool) (str : Option Nat) : Option Nat × State :=
  match str with
  | none => s.toQueues { f with fid := s.swc.nextFid } arrived secTag none
  | some n =>
    let x := s.stream n
    let s := if x.seqGen then s.setStream n { x with seq := (x.seq + 1) % 65536 } else s
    let rc := s.recover n f.bytes
    if !rc.1 then (none, rc.2.2)
    else
      rc.2.2.toQueues { f with fid := rc.2.2.swc.nextFid, bytes := rc.2.1, rtag := (if x.seqGen then some (x.seq, x.encode) else none),
                               dec := decide (rc.2.1.length ≠ f.bytes.length) } arrived secTag (some n)

/-- Step 5 of R236 and what follows it: policing. -/
def State.policed (s : State) (f : Frame) (arrived : Nat) (secTag : Bool) (str : Option Nat) : Option Nat × State :=
  let pol := match str with
    | some n => (if (s.stream n).policer = 0xFFFF then none else some (s.stream n).policer)
    | none => (match s.swc.polBind.get 0 (8 * f.src + f.cls) with | 0 => none | k + 1 => some k)
  let m := s.police pol f.len f.colour
  match m.1 with
  | none =>
    let s := m.2.count f.src cDROP_POLICE 1
    (none, match str with | some n => s.setStream n { s.stream n with dropMeter := wrap32 ((s.stream n).dropMeter + 1) } | none => s)
  | some colour => m.2.sequence { f with colour := colour } arrived secTag str

/-- Steps 3 to 8 of R236 for a frame in clear from port `p`, with the class of a transmit descriptor where it gives one, and
the bytes that have arrived; answers the frame's number in the buffer, if it is admitted. -/
def State.ingress (s : State) (f : Frame) (clsOver : Option Nat) (arrived : Nat) (secTag : Bool) : Option Nat × State :=
  let p := f.src
  let b := f.bytes
  match s.classify p b with
  | none => (none, s.count p cDROP_VLAN 1)
  | some vid =>
    let s := if s.rdb (F.SWC_PORT_CFG0_LEARN p) && (s.swc.vlans.get {} vid).learn then s.learn p vid (srcMac b) else s
    let str := s.identify vid b
    let flt := match str with | some n => s.streamFilter n f.len | none => (true, s)
    if !flt.1 then (none, flt.2)
    else
      let s := flt.2
      let byPcp := (s.rd (F.SWC_PORT_CFG2_PCP_MAP p) / 8 ^ tagPcp b) % 8
      let cls := ((str.bind (fun n => s.streamClass n)).or clsOver).getD byPcp
      let colour := if s.rdb (F.SWC_PORT_CFG2_COLOUR_AWARE p) && tagDei b then 1 else 0
      s.policed { f with vid := vid, cls := cls, colour := colour } arrived secTag str

/-! ## FRAME_RECEIVE -/

/-- The frame that a reception makes, before the buffer numbers it. -/
def frameOf (fr : RxFrame) (b : List Byte) : Frame := { fid := 0, src := fr.port, bytes := b, len := fr.len, fin := fr.fin, sfd := fr.sfd }

/-- Step 1 of R236 for a frame that has ended, under the MAX_FRAME at its start: the counter of its fault, if any (R15, R233). -/
def lengthFault (fr : RxFrame) (mx : Nat) : Option Nat :=
  if fr.len < 64 then some cRX_RUNT
  else if mx < fr.len then some cRX_OVERSIZE
  else if !fr.fcsOk then some cRX_FCS_ERR else none

def State.setRx (s : State) (p : Nat) (r : Option Rx) : State := s.setSwPort p { s.swPort p with rx := r }

/-- A SecTAG of the frame will be validated, or a Strict port waits for one: the frame is not cut through before step 2 has
passed it (R234, R236, R252). -/
def State.secWaits (s : State) (p : Nat) (b : List Byte) : Bool :=
  let y := (s.swPort p).secy
  if etAt b 12 = 0x88E5 then y.validate != 0 || bitOf (beAt b 14 1) 3 else y.validate == 2

/-- The AN and SCI that a SecTAG names, where it is validated. -/
def State.secOf (s : State) (p : Nat) (b : List Byte) : Option (Nat × Option Nat) :=
  if etAt b 12 = 0x88E5 ∧ (s.swPort p).secy.validate ≠ 0 ∧ 28 ≤ b.length then
    some (beAt b 14 1 % 4, if secLen b = 16 then some (beAt b 20 8) else none)
  else none

/-- A frame that is being cut through, as it crosses the core: a SecTAG of a port with validation Disabled removed, and with its
end the ICV; an R-TAG decoded (R234, R288). -/
def State.clearBytes (s : State) (p : Nat) (dec fin : Bool) (b : List Byte) : List Byte :=
  let b := if isExt p && etAt b 12 == 0x88E5 && (s.swPort p).secy.validate == 0 then
      (if fin then s.secOpen none b else b.take 12 ++ b.drop (12 + secLen b)) else b
  if dec then ((rtagOf b).map (fun r => r.2)).getD b else b

/-- A whole frame: steps 1 to 8 (R236). A frame to the time-synchronisation address passes steps 3 to 5 and has no destination port
(R241, R276): the rows of that function carry its messages. -/
def State.rxWhole (s : State) (fr : RxFrame) (mx : Nat) : State :=
  match lengthFault fr mx with
  | some i => s.count fr.port i 1
  | none =>
    let s := (s.count fr.port cRX_FRAMES 1).count fr.port cRX_BYTES fr.len
    let v := s.secValidate fr.port fr.bytes
    match v.1 with
    | none => v.2
    | some b => (v.2.ingress (frameOf fr b) none (cellsOf fr.len) (etAt fr.bytes 12 == 0x88E5 && (s.swPort fr.port).secy.validate != 0)).2

/-- The first part of a frame: it enters the buffer if some copy of it is cut through, else the rest is awaited
(DESIGN CHOICE, assumption 21). -/
def State.rxHead (s : State) (fr : RxFrame) (mx : Nat) : State :=
  let r : Rx := { sfd := fr.sfd, got := fr.bytes.length, max := mx, sec := s.secOf fr.port fr.bytes }
  if mx < fr.bytes.length then (s.count fr.port cRX_OVERSIZE 1).setRx fr.port (some { r with dead := true })
  else
    let s := s.setRx fr.port (some r)
    if fr.bytes.length < 128 ∨ s.secWaits fr.port fr.bytes = true ∨ dstMac fr.bytes = 0x0180C200000E then s
    else
      let e := s.ingress (frameOf fr (s.clearBytes fr.port false false fr.bytes)) none (fr.bytes.length / 128) false
      match e.1 with
      | some f => if (e.2.copiesOf f).any (fun c => c.cut) then e.2.setRx fr.port (some { r with fid := some f }) else s
      | none => s

/-- A further part of a frame that entered the buffer before its end: its copies carry it on, or are stomped (R243, R252, R253); with
no copy left its cells are free, and the ingress port goes on counting it (R242). -/
def State.rxMore (s : State) (fr : RxFrame) (r : Rx) (f : Nat) : State :=
  let p := fr.port
  let dead (s : State) : State := s.setRx p (if fr.fin then none else some { r with dead := true })
  let goes (s : State) : State :=
    if fr.fin then ((s.count p cRX_FRAMES 1).count p cRX_BYTES fr.len).setRx p none else s.setRx p (some { r with got := fr.bytes.length })
  let bad := if fr.fin then lengthFault fr r.max else if r.max < fr.bytes.length then some cRX_OVERSIZE else none
  match s.frame f with
  | none => (match bad with | some i => dead (s.count p i 1) | none => goes s)
  | some x =>
    let s := (s.modFrame f (fun y => { y with bytes := s.clearBytes p x.dec fr.fin fr.bytes })).rewire f
    match bad with
    | some i => dead ((s.count p i 1).spoil f none)
    | none =>
      let have_ := if fr.fin then cellsOf fr.len else fr.bytes.length / 128
      match s.takeCells f (have_ - x.cells) ((s.copiesOf f).map (fun c => qOf c.port c.cls)) with
      | none => dead (s.spoil f (some cDROP_POOL))
      | some s => (goes s).modFrame f (fun x => { x with fin := x.fin || fr.fin })

/-- Collisions and jabber conditions that the PHY of a 10BASE-T1S port reports (R232). -/
def State.phyCounts (s : State) (fr : RxFrame) : State :=
  if 16 ≤ fr.port ∧ fr.port < 24 then (s.count fr.port cCOLLISIONS fr.coll).count fr.port cJABBER fr.jab else s

/-- A new frame begins at an enabled port, with the MAX_FRAME in force. -/
def State.rxNew (s : State) (fr : RxFrame) : State :=
  let mx := s.maxFrame fr.port
  if !s.portOn fr.port then s else if fr.fin then s.rxWhole fr mx else s.rxHead fr mx

/-- A reception goes on under the settings of its start (R15). -/
def State.rxOn (s : State) (fr : RxFrame) (r : Rx) : State :=
  if r.dead then (if fr.fin then s.setRx fr.port none else s)
  else match r.fid with
    | some f => s.rxMore fr r f
    | none => if fr.fin then (s.setRx fr.port none).rxWhole fr r.max else s.rxHead fr r.max

/-- Another frame begins before the end of a reception was reported: what was received is a frame with a bad FCS (R233,
DEDUCED, assumption 138). -/
def State.rxEnds (s : State) (p : Nat) (r : Rx) : State :=
  if r.dead then s.setRx p none
  else
    let s := (s.count p cRX_FCS_ERR 1).setRx p none
    match r.fid with | some f => s.spoil f none | none => s

/-- FRAME_RECEIVE. -/
def frameReceive (t : Nat) (fr : RxFrame) (s : State) : State :=
  let s := s.swAt t
  if isExt fr.port && s.linkUp fr.port then
    let s := if s.portOn fr.port then s.phyCounts fr else s
    match (s.swPort fr.port).rx with
    | some r => if r.sfd = fr.sfd then s.rxOn fr r else (s.rxEnds fr.port r).rxNew fr
    | none => s.rxNew fr
  else s

/-- FRAME_TRUNCATION_TIMEOUT: the end of a frame has not arrived within T_TRUNC (R254). -/
def frameTruncationTimeout (t p : Nat) (s : State) : State :=
  let s := s.swAt t
  match (s.swPort p).rx with
  | some r =>
    if !r.dead && decide (r.sfd + s.tTrunc p r.max ≤ s.now) then
      let s := (s.count p cRX_TRUNC 1).setRx p (some { r with dead := true })
      match r.fid with | some f => s.spoil f none | none => s
    else s
  | none => s

/-- A frame that an internal function of port `p` sends, with its class (R296, R398): it enters as any frame of that port. -/
def State.sendFrom (s : State) (p : Nat) (b : List Byte) (cls : Nat) : State :=
  let s := s.credits
  let n := max 64 (b.length + 4)
  if s.portOn p then
    if s.maxFrame p < n then s.count p cRX_OVERSIZE 1
    else (((s.count p cRX_FRAMES 1).count p cRX_BYTES n).ingress { fid := 0, src := p, bytes := b, len := n, sfd := s.now } (some cls) (cellsOf n) false).2
  else s

end Sys2Proof.Machine
end

