-- ==== Sys2Proof/Machine/Gateway.lean ====
section
/-!
DEFINITION. Machine/Gateway.lean: the signal gateway (R336–R350).
-/
namespace Sys2Proof.Machine

/-- ENABLE of a route (R336). -/
def State.routeEn (s : State) (r : Nat) : Bool := s.rdb (F.GWY_ROUTE_ENABLE r)

/-- The gateway runs, and the route acts (R336, R349). -/
def State.routeActs (s : State) (r : Nat) : Bool :=
  s.gwy.running && s.dev != .coppice && (s.route r).defined && s.routeEn r && (s.route r).run

/-! ## Entries of the tables (R340, R345) -/

/-- A route entry of 32 bytes with the template of a level-2 route (R340); its ENABLE is a register of the model. -/
def routeEntry (b tmpl : List Byte) : GRoute :=
  { defined := true, src := leAt b 0 4, dst := leAt b 4 4, level := leAt b 8 1, onChange := bitOf (leAt b 9 1) 1, minGap := leAt b 10 2,
    maxGap := leAt b 12 2, timeout := leAt b 14 2, tmoAct := leAt b 16 1, dlen := leAt b 17 1, dff := leAt b 18 1, pad := leAt b 19 1,
    first := leAt b 20 2, count := leAt b 22 1, tmpl := tmpl }

/-- The length and the reserved bits of a route entry (R340). -/
def routeEntryOk (b : List Byte) : Bool :=
  (b.length == 32) && decide (leAt b 9 1 < 4) && decide (leAt b 18 1 < 4) && (slice b 23 9).all (fun x => x == 0)

/-- A signal entry of 32 bytes (R345). -/
def sigEntry (b : List Byte) : GSig :=
  let sf := leAt b 7 1
  let df := leAt b 11 1
  { src := leAt b 0 4, sstart := leAt b 4 2, slen := leAt b 6 1, smot := bitOf sf 0, ssgn := bitOf sf 1, dstart := leAt b 8 2, dlen := leAt b 10 1,
    dmot := bitOf df 0, dsgn := bitOf df 1, act := bitsOf df 2 2, num := sgn 32 (leAt b 12 4), den := leAt b 16 4, off := sgn 32 (leAt b 20 4),
    lo := sgn 32 (leAt b 24 4), hi := sgn 32 (leAt b 28 4) }

/-- The length and the reserved bits of a signal entry (R345). -/
def sigEntryOk (b : List Byte) : Bool := (b.length == 32) && decide (leAt b 7 1 < 4) && decide (leAt b 11 1 < 16)

/-! ## Signals (R345, R346) -/

/-- The bit positions of a signal in the order get_bits visits them. -/
def sigBits (start mot : Nat) : Nat → List Nat
  | 0 => []
  | n + 1 => start :: sigBits (if mot = 1 then (if start % 8 = 0 then start + 15 else start - 1) else start + 1) mot n

/-- Bit `b` of a PDU. -/
def pduBit (d : List Byte) (b : Nat) : Bool := bitOf (leAt d (b / 8) 1) (b % 8)

/-- get_bits (R346). -/
def getBits (d : List Byte) (start len : Nat) (mot : Bool) : Nat :=
  let ps := sigBits start (b2n mot) len
  (if mot then ps else ps.reverse).foldl (fun v b => 2 * v + b2n (pduBit d b)) 0

/-- A byte string with bit `b` set to `v`. -/
def putBit (d : List Byte) (b : Nat) (v : Bool) : List Byte :=
  d.zipIdx.map (fun p => if p.2 = b / 8 then BitVec.ofNat 8 (if v then setBit p.1.toNat (b % 8) else clrBit p.1.toNat (b % 8)) else p.1)

/-- The inverse of get_bits. -/
def putBits (d : List Byte) (start len : Nat) (mot : Bool) (v : Nat) : List Byte :=
  let ps := sigBits start (b2n mot) len
  (((if mot then ps.reverse else ps).zipIdx).foldl (fun d p => putBit d p.1 (bitOf v p.2)) d)

/-- scale (R346): half away from zero, by C's truncating division. -/
def sigScale (x num : Int) (den : Nat) (off : Int) : Int :=
  let p := x * num
  (if 0 ≤ p then (p + (den / 2 : Nat)).tdiv den else (p - (den / 2 : Nat)).tdiv den) + off

/-- What one signal of an update does: the buffer after it, and whether RANGE and SHORT count (R344, R346). -/
def sigStep (g : GSig) (d buf : List Byte) : List Byte × Nat × Nat :=
  if !(sigBits g.sstart (b2n g.smot) g.slen).all (fun b => decide (b / 8 < d.length)) then (buf, 0, 1)
  else
    let v := getBits d g.sstart g.slen g.smot
    let x : Int := if g.ssgn then sgn g.slen v else v
    let y := sigScale x g.num g.den g.off
    let put (z : Int) : List Byte := putBits buf g.dstart g.dlen g.dmot (unsgn g.dlen z)
    if y < g.lo ∨ g.hi < y then
      ((if g.act = 0 then put (if y < g.lo then g.lo else g.hi) else if g.act = 1 then put (-1) else buf), 1, 0)
    else (put y, 0, 0)

/-- The signals of one update in entry order (R346). -/
def sigSteps (d : List Byte) : List GSig → List Byte × Nat × Nat → List Byte × Nat × Nat
  | [], a => a
  | g :: l, a => let r := sigStep g d a.1; sigSteps d l (r.1, a.2.1 + r.2.1, a.2.2 + r.2.2)

/-- The network I/O island's own clock, which steps of the count do not move (R342). -/
def State.ioClock (s : State) : Nat := s.now + s.gwy.bck - s.gwy.fwd

/-! ## Containers (R348) -/

/-- The payload of a container. -/
def State.contPayload (s : State) (k : GCont) : List Byte :=
  bytesBE 1 0x10 ++ bytesBE 1 k.pdus.length ++ bytesBE 2 k.seq ++ bytesBE 2 (if s.ownNode = 0x7FF then 0xFFFF else s.ownNode) ++ bytesBE 2 0 ++
  k.pdus.flatMap (fun p => bytesBE 2 p.1 ++ bytesBE 1 p.2.length ++ bytesBE 1 0 ++ p.2)

/-- Send a container from I3. -/
def State.sendCont (s : State) (k : Nat) : State :=
  let x := s.gwy.conts.get {} k
  if x.pdus = [] then s
  else
    let b := bytesBE 6 x.mac ++ bytesBE 6 Config.unitMac ++ (if x.vid = 0 then [] else bytesBE 2 0x8100 ++ bytesBE 2 (x.pcp * 8192 + x.vid)) ++
      bytesBE 2 (s.rd ⟨R.GWY_ETYPE, 0, 16⟩) ++ s.contPayload x
    let s := { s with gwy.conts := s.gwy.conts.set k { x with pdus := [], seq := (x.seq + 1) % 2 ^ 16 } }
    s.sendFrom 26 b x.pcp

/-- The payload bytes of an unsent container. -/
def GCont.size (k : GCont) : Nat := 8 + k.pdus.foldl (fun n p => n + 4 + p.2.length) 0

/-- Place a PDU in its container: replaced in place, or added, the container sent first where it would not fit. -/
def State.placePdu (s : State) (k id : Nat) (d : List Byte) : State :=
  let x := s.gwy.conts.get {} k
  if x.pdus.any (fun p => p.1 == id) then
    { s with gwy.conts := s.gwy.conts.set k { x with pdus := x.pdus.map (fun p => if p.1 = id then (id, d) else p) } }
  else
    let s := if x.maxLen < x.size + 4 + d.length ∨ 255 ≤ x.pdus.length then s.sendCont k else s
    let x := s.gwy.conts.get {} k
    { s with gwy.conts := s.gwy.conts.set k { x with firstAt := (if x.pdus = [] then s.ioClock else x.firstAt), pdus := x.pdus ++ [(id, d)] } }

/-! ## Sending (R339, R342, R344) -/

/-- A destination fails (R344): the buffer is kept for the next update or MAX_GAP. -/
def State.dstFail (s : State) (r : Nat) : State :=
  (s.modRoute r (fun x => { x with fails := satAdd x.fails 1 255, last := none })).trig 547

/-- A slot that a request of a transmit object names (R317, R339). -/
def State.slotNamed (s : State) (c k sl : Nat) : Bool :=
  ((s.txst c k == txPENDING || s.txst c k == txACTIVE || s.txst c k == txABORT_PEND) && s.rd (F.CAN_OBJ_STAT_CUR c k) == sl) ||
  (s.rdb (F.CAN_OBJ_STAT_PEND c k) && s.rd (F.CAN_OBJ_STAT_NSLOT c k) == sl)

/-- The send has been made. -/
def State.sendDone (s : State) (r : Nat) (b : List Byte) : State :=
  { s.modRoute r (fun x => { x with pend := false, sendAt := some s.now, sendClk := s.ioClock, last := some b, sends := wrap32 (x.sends + 1) }) with
    gwy.sends := wrap32 (s.gwy.sends + 1) }

/-- The send finds its destination OFF. -/
def State.sendFail (s : State) (r : Nat) : State := (s.modRoute r (fun x => { x with pend := false, sendAt := some s.now, sendClk := s.ioClock })).dstFail r

/-- send(r): hand the buffer to the destination (R339, R342). -/
def State.gwySend (s : State) (r : Nat) : State :=
  let x := s.route r
  match x.buf with
  | none => s.modRoute r (fun x => { x with pend := false })
  | some b =>
    let ty := bitsOf x.dst 28 4
    if ty = 1 then
      let c := bitsOf x.dst 16 4
      let k := bitsOf x.dst 0 9
      if s.rd (F.CAN_STAT_STATE c) = 0 then s.sendFail r
      else
        match (List.range 2).find? (fun sl => !s.slotNamed c k sl) with
        | none => s.modRoute r (fun x => { x with pend := true })
        | some sl =>
          let s := s.canStore c (s.canSlot c k sl) (slotBytes 0 (lenDlc x.dlen) x.dff b)
          let s := if s.rdb (F.CAN_OBJ_ID_EN c k) && s.isTx c k then s.objTxreq c k sl else s
          s.sendDone r b
    else if ty = 2 then
      let c := bitsOf x.dst 16 3
      let i := bitsOf x.dst 0 6
      if !s.rdb (F.LIN_CTL_ENABLE c) then s.sendFail r
      else ((s.setLinData c i b).wrb (F.LIN_BUF_ST_DIRTY c i) true).sendDone r b
    else (s.placePdu (bitsOf x.dst 16 6) (bitsOf x.dst 0 16) b).sendDone r b

/-- on_update of R342, on the island's own clock, after the buffer has its newest value. -/
def State.onUpdate (s : State) (r : Nat) : State :=
  let x := s.route r
  let gap := if bitsOf x.dst 28 4 = 2 then 0 else x.minGap * 100000
  if x.onChange && x.buf == x.last then s
  else if x.pend then s.setRoute r { x with coalesced := wrap32 (x.coalesced + 1) }
  else s.setRoute r { x with pend := true, due := (if x.sendAt.isSome then max s.ioClock (x.sendClk + gap) else s.ioClock) }

/-- The level-1 buffer of a source PDU (R341). -/
def pduBuffer (d : List Byte) (n pad : Nat) : List Byte :=
  (d.take n) ++ List.replicate (n - min n d.length) (BitVec.ofNat 8 pad)

/-- One route's source update (R341, R342, R346, R354). -/
def State.routeUpdate (s : State) (r ep ff : Nat) (d : List Byte) : State :=
  let x := s.route r
  let s := s.setRoute r { x with run := x.runWant, pend := x.pend && x.runWant }
  if !s.routeActs r then s
  else
    let x := s.route r
    let x := { x with updAt := s.now, updClk := s.ioClock, timedOut := false, stopped := false, updates := wrap32 (x.updates + 1) }
    let s := { s with gwy.updates := wrap32 (s.gwy.updates + 1) }
    if x.level = 1 then
      let b := pduBuffer d x.dlen x.pad
      let same := x.buf == some b && x.pdu == d && x.pduFf == ff % 4
      (s.setRoute r { x with buf := some b, pdu := d, pduFf := ff % 4, bufAt := if same then x.bufAt else s.now }).onUpdate r
    else
      let b := x.buf.getD x.tmpl
      let o := sigSteps d ((s.routeSigs x).filter (fun g => g.src == ep)) (b, 0, 0)
      let s := s.setRoute r { x with buf := some o.1, bufAt := (if o.1 = b then x.bufAt else s.now), ranges := satAdd x.ranges o.2.1 255, shorts := satAdd x.shorts o.2.2 255 }
      (if 0 < o.2.1 then s.trig 545 else s).onUpdate r

/-- A source endpoint has a new PDU (R338). -/
def State.gwyUpdate (s : State) (ep ff : Nat) (d : List Byte) : State :=
  foldS (s.routesFrom ep) (fun r s => s.routeUpdate r ep ff d) s

/-- An outcome of a destination object (R339, R344): a failure counts; a send that waited for a slot goes on. -/
def State.gwyOutcome (s : State) (c k outcome : Nat) : State :=
  foldS (s.routesTo (epCan c k)) (fun r s =>
    let s := if outcome = 3 ∨ outcome = 4 then s.dstFail r else s
    if s.routeActs r && (s.route r).pend && decide ((s.route r).due ≤ s.ioClock) then s.gwySend r else s) s

/-- Pending sends of routes whose ENABLE or RUN is 0 are discarded (R344, R354). -/
def State.gwyDiscard (s : State) : State :=
  { s with gwy.routes := { cells := s.gwy.routes.cells.map (fun p => (p.1, if s.routeEn p.1 && p.2.run then p.2 else { p.2 with pend := false })) } }

/-! ## Events -/

/-- GATEWAY_SEND_DUE: a pending send falls due (R342). -/
def gatewaySendDue (t r : Nat) (s : State) : State :=
  let s := s.at_ t
  if s.routeActs r && (s.route r).pend && decide ((s.route r).due ≤ s.ioClock) then s.gwySend r else s

/-- GATEWAY_MAX_GAP_EXPIRY (R342): the buffer is repeated. -/
def gatewayMaxGapExpiry (t r : Nat) (s : State) : State :=
  let s := s.at_ t
  let x := s.route r
  if s.routeActs r && !x.pend && !x.stopped && x.maxGap != 0 && decide ((if x.sendAt.isSome then x.sendClk else s.gwy.loadAt) + ms x.maxGap ≤ s.ioClock) then s.gwySend r else s

/-- GATEWAY_TIMEOUT (R343). -/
def gatewayTimeout (t r : Nat) (s : State) : State :=
  let s := s.at_ t
  let x := s.route r
  if s.routeActs r && x.timeout != 0 && !x.timedOut && decide (max x.updClk s.gwy.loadAt + ms x.timeout ≤ s.ioClock) then
    let x := { x with timedOut := true, timeouts := satAdd x.timeouts 1 255 }
    let s := s.trig 544
    if x.tmoAct = 1 then s.setRoute r { x with pend := false, stopped := true }
    else if x.tmoAct = 2 then
      let b := if x.level = 2 then x.tmpl else List.replicate x.dlen (BitVec.ofNat 8 x.pad)
      (s.setRoute r { x with buf := some b, bufAt := if x.buf = some b then x.bufAt else s.now }).onUpdate r
    else s.setRoute r x
  else s

/-- CONTAINER_SEND_TIMEOUT (R348). -/
def containerSendTimeout (t k : Nat) (s : State) : State :=
  let s := s.at_ t
  let x := s.gwy.conts.get {} k
  if s.gwy.running && s.dev != .coppice && decide (x.firstAt + x.tmo ≤ s.ioClock) then s.sendCont k else s

/-- The entries of a container's payload from an offset, or none where they do not fit (R348). -/
def contEntries (b : List Byte) : Nat → Nat → Option (List (Nat × List Byte))
  | 0, _ => some []
  | n + 1, o =>
    let l := beAt b (o + 2) 1
    if b.length < o + 4 + l ∨ 64 < l then none
    else (contEntries b n (o + 4 + l)).map (fun r => (beAt b o 2, slice b (o + 4) l) :: r)

/-- CONTAINER_RECEIVE: the oldest container that waits is unpacked (R348). -/
def containerReceive (t : Nat) (s : State) : State :=
  let s := s.at_ t
  match s.gwy.waiting with
  | [] => s
  | b :: l =>
    let s := { s with gwy.waiting := l }
    if !s.gwy.running || s.dev == .coppice || beAt b 0 1 != 0x10 || beAt b 1 1 == 0 then s
    else
      match contEntries b (beAt b 1 1) 8 with
      | none => s
      | some es =>
        foldS es (fun e s =>
          if (s.routesFrom (epPdu e.1)).isEmpty then ({ s with gwy.unknown := wrap32 (s.gwy.unknown + 1) }).trig 546
          else s.gwyUpdate (epPdu e.1) 0 e.2) s

end Sys2Proof.Machine
end

