-- ==== Sys2Proof/Machine/WakeCore.lean ====
section
/-!
DEFINITION. Machine/WakeCore.lean: the wake latches (R366) and the sleep of single CAN channels (R370, R371).
-/
namespace Sys2Proof.Machine

/-- Phases of R362. -/
def State.phase (s : State) : Nat := s.rd F.WAK_STAT_PHASE

/-- The wake latches are armed: from t_commit to the wake-up (R366). -/
def State.latching (s : State) : Bool := s.phase == 2

/-- Latch a cause (R366): its bit of KINDS, the first of all with its instant, AFTER_COMMIT before t_sleep; in SLEEP the
wake-up starts. -/
def State.wakeLatch (s : State) (k : Nat) : State :=
  let kinds := s.rd F.WAK_CAUSE_KINDS
  let s := s.wr F.WAK_CAUSE_KINDS (setBit kinds k)
  let s := if kinds = 0 then
      (((s.wr F.WAK_CAUSE_FIRST k).setPair R.WAK_FIRST_LO R.WAK_FIRST_HI s.now).wrb F.WAK_CAUSE_AFTER_COMMIT (s.dev != .sleep))
    else s
  if s.dev = .sleep then { s with flt.react := s.flt.react ++ [React.wake] } else s

/-- Latch a cause of CAN channel `c`. -/
def State.latchCan (s : State) (c : Nat) (fec : Bool) : State :=
  (if fec then s.wr F.WAK_CAUSE_CAN_FEC (setBit (s.rd F.WAK_CAUSE_CAN_FEC) c)
   else s.wr F.WAK_CAUSE_CAN_WAKE (setBit (s.rd F.WAK_CAUSE_CAN_WAKE) c)).wakeLatch (if fec then 4 else 3)

/-! ## Selective wake (R370) -/

/-- The nominal rate of a channel permits decoding: 125, 250, 500 or 1,000 kbit/s. -/
def State.swkRate (s : State) (c : Nat) : Bool := [640, 320, 160, 80].contains (s.canBit c)

/-- The filter of a channel since its last sleep entry (R381). -/
def State.swkOf (s : State) (c : Nat) : Swk := s.slp.swkUse.get {} c

/-- A channel decodes wake-up frames now. -/
def State.decodes (s : State) (c : Nat) : Bool := s.slp.decoding.contains c

/-- A frame is a wake-up frame for a filter (R370). -/
def swkMatch (k : Swk) (f : CanFrame) : Bool :=
  let fid := if f.ide then f.id % 2 ^ 29 else f.id % 2 ^ 11
  !f.rtr && !f.fdf && decide (f.dlc ≤ 8) && (f.ide == k.ide) && ((fid ^^^ k.id) &&& k.mask == 0) &&
  (!k.dlcM || (f.dlc == k.dlc && (k.data.all (fun b => b == 0) ||
    (List.range f.dlc).any (fun i => (leAt f.data i 1) &&& (leAt k.data i 1) != 0))))

/-- Decoding starts: FEC is 0 (R370). -/
def State.startDecoding (s : State) (c : Nat) : State :=
  { s with slp.swkUse := s.slp.swkUse.set c (s.slp.swk.get {} c),
           slp.decoding := if s.slp.decoding.contains c then s.slp.decoding else c :: s.slp.decoding, slp.fec := s.slp.fec.set c 0 }

/-- A channel wakes while the module runs (R371): STATE as the counters give it. -/
def State.canThaw (s : State) (c : Nat) : State :=
  if s.rd (F.CAN_STAT_STATE c) = 5 then
    let s := { s with slp.decoding := s.slp.decoding.filter (fun d => d != c), slp.armChan := s.slp.armChan.filter (fun d => d != c) }
    (if (s.can_ c).boff then s.canState c 3 else (s.canState c 1).canCounters c).canTrig c 5
  else s

/-- A wake event of CAN channel `c`: latched from t_commit on, else the channel wakes (R367, R371). -/
def State.canWakeEvent (s : State) (c : Nat) (fec : Bool) : State :=
  if s.latching then (if bitOf (bitsOf s.slp.arm 0 16) c then s.latchCan c fec else s)
  else if s.slp.armChan.contains c then s.canThaw c else s

/-- A valid frame on a decoding channel: FEC falls, and a wake-up frame wakes; a frame with FDF is ignored (R370). -/
def State.swkFrame (s : State) (c : Nat) (f : CanFrame) : State :=
  if f.fdf then s
  else
    let s := { s with slp.fec := s.slp.fec.set c (s.slp.fec.get 0 c - 1) }
    if swkMatch (s.swkOf c) f then s.canWakeEvent c false else s

/-- A frame with a stuff, form or CRC error on a decoding channel: FEC rises to 32, where it latches with FEC_WAKE
(R370). -/
def State.swkError (s : State) (c : Nat) : State :=
  let n := s.slp.fec.get 0 c
  let s := { s with slp.fec := s.slp.fec.set c (min 32 (n + 1)) }
  if n = 31 ∧ (s.swkOf c).fecW = true then s.canWakeEvent c true else s

end Sys2Proof.Machine
end

