-- ==== Sys2Proof/Machine/Can.lean ====
section
/-!
DEFINITION. Machine/Can.lean: what happens on CAN channels (R312–R325).
-/
namespace Sys2Proof.Machine

/-! ## Receiving (R313, R316, R338) -/

/-- The enabled receive object of a frame's identifier (R313). -/
def State.rxObject (s : State) (c : Nat) (f : CanFrame) : Option Nat :=
  (List.range 512).find? (fun k => s.enAt c k (f.sof + s.canBit c * 25 / 2) && !s.isTx c k && (s.objIdent c k == canIdent f))

/-- A frame is taken by receive object `k`; a gateway source hands it to its routes and clears NEW (R316, R338). -/
def State.canTakes (s : State) (c k : Nat) (f : CanFrame) : State :=
  let s := s.objAccept c k (canSlotOf f)
  let s := s.modCan c (fun x => { x with accepted := wrap32 (x.accepted + 1) })
  if s.rdb (F.CAN_OBJ_STAT_GW c k) then
    let s := s.wrb (F.CAN_OBJ_STAT_NEW c k) false
    if f.rtr then s else s.gwyUpdate (epCan c k) (canFf f) (canPayload f)
  else s

/-- A valid frame at its valid point (R313). -/
def State.canReceive (s : State) (c : Nat) (f : CanFrame) : State :=
  let s' := match s.rxObject c f with
    | some k => s.canTakes c k f
    | none => s.sat (F.CAN_CNT_RX_UNMATCHED c) 1
  s'.modCan c (fun x => { x with enLog := [] })

/-- REC falls after a frame received without an error (ISO 11898-1, PRESUMED, assumption 51). -/
def State.recDown (s : State) (c : Nat) : State :=
  let r := s.rd (F.CAN_STAT_REC c)
  if 127 < r then
    let d := s.draw 8
    (d.2.wr (F.CAN_STAT_REC c) (119 + d.1)).canCounters c
  else (s.wr (F.CAN_STAT_REC c) (r - 1)).canCounters c

/-! ## Errors and bus-off (R322, R323) -/

/-- The frame on the bus was not sent: the last column of R318. -/
def State.txBack (s : State) (c k : Nat) : State :=
  if s.txst c k = txABORT_PEND then ((s.txEnd c k txABORTED 2).offBus c).gwyOutcome c k 2
  else
    let s := s.offBus c
    if s.rdb (F.CAN_OBJ_STAT_PEND c k) then
      ((s.wr (F.CAN_OBJ_STAT_CUR c k) (s.rd (F.CAN_OBJ_STAT_NSLOT c k))).wrb (F.CAN_OBJ_STAT_PEND c k) false).setTxst c k txPENDING
    else s.setTxst c k txPENDING

/-- A request of an object at the entry of bus-off with ABORT (R323). -/
def State.boffAbort (s : State) (c k : Nat) : State :=
  let st := s.txst c k
  let s := s.wrb (F.CAN_OBJ_STAT_PEND c k) false
  if st = txPENDING ∨ st = txACTIVE then ((s.txEnd c k txABORTED 4).gwyOutcome c k 4)
  else if st = txABORT_PEND then (s.txEnd c k txABORTED 2).gwyOutcome c k 2 else s

/-- Objects of a channel with a request. -/
def State.requested (s : State) (c : Nat) : List Nat :=
  (List.range 512).filter (fun k => s.isTx c k && (s.txst c k == txPENDING || s.txst c k == txACTIVE || s.txst c k == txABORT_PEND))

/-- Entry to BUS_OFF (R323). -/
def State.busOff (s : State) (c : Nat) : State :=
  let s := (((s.wr (F.CAN_STAT_TEC c) 255).wrb (F.CAN_STAT_WARN c) true).canState c 3).sat (F.CAN_CNT_BUSOFFS c) 1
  let s := s.canTrig c 3
  let s := s.ownFault 0x0601 .corrected (s.canOwner c) c 0
  let s := if s.rdb (F.CAN_CTL_BOFF_POLICY c) then (foldS (s.requested c) (fun k s => s.boffAbort c k) s).offBus c
    else match (s.can_ c).active with
      | some (k, _) => s.txBack c k
      | none => s
  if s.rdb (F.CAN_CTL_AUTO_RECOVER c) then
    s.modCan c (fun x => { x with recoverAt := some (s.now + ms (s.rd (F.CAN_CTL_RECOVER_DLY c))) })
  else s

/-- An error frame, with what ISO 11898-1 adds to each counter and the error's code (R322, R332). -/
def State.canError (s : State) (c dTec dRec lec : Nat) (dataPhase : Bool) : State :=
  let s := s.modCan c (fun x => { x with errs := wrap32 (x.errs + 1) })
  let s := if dataPhase then s.wr (F.CAN_STAT_DLEC c) lec else s.wr (F.CAN_STAT_LEC c) lec
  let s := s.sat (F.CAN_STAT_REC c) dRec
  if 255 < s.rd (F.CAN_STAT_TEC c) + dTec then s.busOff c
  else (s.wr (F.CAN_STAT_TEC c) (s.rd (F.CAN_STAT_TEC c) + dTec)).canCounters c

/-! ## Frames of other nodes -/

/-- CAN_FRAME_VALID: a frame of another node reaches its valid point (R313); a decoding channel looks at it (R370), and a channel
that is FROZEN or without its compute island delivers nothing (R363, R371). A res bit of 1, and an FD frame with
FD_EN 0, is a protocol exception, after which the frame is ignored, or with PXHD a form error (R305, R313). -/
def canFrameValid (t c : Nat) (f : CanFrame) (s : State) : State :=
  let s := s.at_ t
  let s := if c = 0 then { s with slp.can0At := s.now } else s
  let live := s.canLive c && !s.slp.prepped
  let s := if s.decodes c then s.swkFrame c f else s
  if 16 ≤ c ∨ live = false ∨ s.rd (F.CAN_CTL_MODE c) = 4 then s
  else if f.fdf && (f.res || !s.rdb (F.CAN_CTL_FD_EN c)) then (if s.rdb (F.CAN_CTL_PXHD c) then s.canError c 0 1 2 false else s)
  else (s.canReceive c f).recDown c

/-! ## Transmitting (R317–R320) -/

/-- The order of arbitration among identifiers (R319): base identifier, base before extended format, the rest. -/
def arbKey (ident : Nat) : Nat := bitsOf ident 18 11 * 2 ^ 20 + (if bitOf ident 29 then 2 ^ 19 + ident % 2 ^ 18 else 0)

/-- The PENDING object whose arbitration field wins (R319). -/
def State.txChoice (s : State) (c : Nat) : Option Nat :=
  ((List.range 512).filter (fun k => s.rdb (F.CAN_OBJ_ID_EN c k) && s.isTx c k && s.txst c k == txPENDING)).foldl
    (fun b k => match b with
      | none => some k
      | some j => if arbKey (s.objIdent c k) < arbKey (s.objIdent c j) then some k else some j) none

/-- A loaded slot can be sent (R317). -/
def slotOk (b : List Byte) (fd : Bool) : Bool :=
  let ff := leAt b 13 1
  (leAt b 8 4 == 0) && (leAt b 14 2 == 0) && decide (leAt b 12 1 < 16) && decide (ff < 16) &&
  !(bitOf ff 3 && bitOf ff 0) && !(bitOf ff 1 && !bitOf ff 0) && !(bitOf ff 0 && !fd)

/-- Load the chosen object's slot and start its frame, or end the request as BAD_SLOT (R317); so does a slot that the owner may
not read (R310, DEDUCED, assumption 134). -/
def State.loadFrame (s : State) (c k : Nat) : State :=
  let b := s.canLoad c (s.canSlot c k (s.rd (F.CAN_OBJ_STAT_CUR c k)))
  let s := b.2
  match b.1 with
  | some b =>
    if slotOk b (s.rdb (F.CAN_CTL_FD_EN c)) then
      (s.setTxst c k txACTIVE).modCan c (fun x => { x with active := some (k, b) })
    else (s.txEnd c k txABORTED 3).gwyOutcome c k 3
  | none => (s.txEnd c k txABORTED 3).gwyOutcome c k 3

/-- CAN_TX_OPPORTUNITY: intermission or, with `idle`, bus idle: a pending MODE takes effect at bus idle, and the channel
chooses (R308, R319). Only NORMAL and LOOPBACK send frames (R305). -/
def canTxOpportunity (t c : Nat) (idle : Bool) (s : State) : State :=
  let s := s.at_ t
  if 16 ≤ c then s
  else
    let s := match (s.can_ c).modeWant with
      | some m => if idle && (s.can_ c).active.isNone then s.canMode c m else s
      | none => s
    let m := s.rd (F.CAN_CTL_MODE c)
    if s.canLive c && (s.can_ c).active.isNone && (m == 1 || m == 4) then
      match s.txChoice c with
      | some k => s.loadFrame c k
      | none => s
    else s

/-- The frame that a loaded slot spells: ESI is the sender's own, set while the channel is error passive (R311; PRESUMED from
ISO 11898-1, assumption 161). -/
def State.frameOfSlot (s : State) (c k sof : Nat) (b : List Byte) : CanFrame :=
  let i := s.objIdent c k
  let ff := leAt b 13 1
  { ide := bitOf i 29, id := if bitOf i 29 then i % 2 ^ 29 else bitsOf i 18 11, rtr := bitOf ff 3, fdf := bitOf ff 0, brs := bitOf ff 1, esi := bitOf ff 0 && s.rd (F.CAN_STAT_STATE c) == 2,
    dlc := leAt b 12 1, data := slice b 16 64, sof := sof }

/-- CAN_TX_FRAME_COMPLETE: the frame on the bus is acknowledged and complete (R318); in LOOPBACK the channel receives it, unless it is
FROZEN (R312, R371). -/
def canTxFrameComplete (t c sof : Nat) (s : State) : State :=
  let s := s.at_ t
  match (s.can_ c).active with
  | none => s
  | some (k, b) =>
    let s := if c = 0 then { s with slp.can0At := s.now } else s
    let s := s.canStore c (s.canSlot c k (s.rd (F.CAN_OBJ_STAT_CUR c k))) (bytesLE 8 sof)
    let s := (s.inc (F.CAN_OBJ_STAT_FRAMES c k)).modCan c (fun x => { x with sent := wrap32 (x.sent + 1) })
    let s := (s.txEnd c k txSENT 1).offBus c
    let s := if s.canLive c then (s.wr (F.CAN_STAT_TEC c) (s.rd (F.CAN_STAT_TEC c) - 1)).canCounters c else s
    let s := if s.rd (F.CAN_CTL_MODE c) = 4 ∧ s.rd (F.CAN_STAT_STATE c) ≠ 5 then s.canReceive c (s.frameOfSlot c k sof b) else s
    s.gwyOutcome c k 1

/-- CAN_TX_LOST_OR_ERROR (R318, R319). -/
def canTxLostOrError (t c : Nat) (lost : Bool) (s : State) : State :=
  let s := s.at_ t
  match (s.can_ c).active with
  | none => s
  | some (k, _) => (if lost then s.modCan c (fun x => { x with lost := wrap32 (x.lost + 1) }) else s).txBack c k

/-- CAN_BUS_ERROR: an error frame, with what ISO 11898-1 adds to each counter and the error's code (R322, R332); on a
decoding channel FEC counts stuff, form and CRC errors (R370). -/
def canBusError (t c dTec dRec lec : Nat) (dataPhase : Bool) (s : State) : State :=
  let s := s.at_ t
  let live := s.canLive c && !s.slp.prepped
  let s := if s.decodes c && (lec == 1 || lec == 2 || lec == 6) then s.swkError c else s
  if 16 ≤ c ∨ live = false then s else s.canError c dTec dRec lec dataPhase

/-- Recovery starts (R323). -/
def State.startRecovery (s : State) (c : Nat) : State := (s.modCan c (fun x => { x with recoverAt := none })).canState c 4

/-- CAN_RECOVER_DELAY_EXPIRY (R323). -/
def canRecoverDelayExpiry (t c : Nat) (s : State) : State :=
  let s := s.at_ t
  match (s.can_ c).recoverAt with
  | some u => if s.rd (F.CAN_STAT_STATE c) = 3 ∧ u ≤ s.now then s.startRecovery c else s
  | none => s

/-- CAN_RECOVERY_COMPLETE (R323). -/
def canRecoveryComplete (t c : Nat) (s : State) : State :=
  let s := s.at_ t
  if s.rd (F.CAN_STAT_STATE c) = 4 then (s.canBegin c).canTrig c 3 else s

/-- DOM_TIMEOUT (R306, R325). -/
def domTimeout (t c : Nat) (s : State) : State :=
  let s := s.at_ t
  if c < 16 ∧ s.rd (F.CAN_STAT_STATE c) ≠ 0 then (s.sat (F.CAN_CNT_DOM_TIMEOUT c) 1).canTrig c 6 else s

/-! ## Register accesses (R307, R312, R314, R321) -/

/-- CAN_OBJ_EN_WRITE: a write to CAN_OBJk_ID (R312). -/
def canObjEnWrite (t : Nat) (a : Acc) (c k v : Nat) (s : State) : State :=
  let s := s.at_ t
  if c < 16 ∧ k < 512 then s.blockWrite a kCan c (R.CAN_OBJ_ID c k) (fun s => s.writeObjId c k v) else s

/-- A write to CAN_OBJk_CTL. -/
def State.canCtl (s : State) (t : Nat) (a : Acc) (c k : Nat) (f : State → State) : State :=
  let s := s.at_ t
  if c < 16 ∧ k < 512 then s.blockWrite a kCan c (R.CAN_OBJ_CTL c k) f else s

def canEvqOff (t : Nat) (a : Acc) (c k : Nat) (s : State) : State := s.canCtl t a c k (fun s => s.actEvqOff c k)
def canEvqOn (t : Nat) (a : Acc) (c k : Nat) (s : State) : State := s.canCtl t a c k (fun s => s.actEvqOn c k)
def canLostClr (t : Nat) (a : Acc) (c k : Nat) (s : State) : State := s.canCtl t a c k (fun s => s.actLostClr c k)
def canHoldRel (t : Nat) (a : Acc) (c k : Nat) (s : State) : State := s.canCtl t a c k (fun s => s.actHoldRel c k)
def canHoldSet (t : Nat) (a : Acc) (c k : Nat) (s : State) : State := s.canCtl t a c k (fun s => s.actHoldSet c k)
def canAbort (t : Nat) (a : Acc) (c k : Nat) (s : State) : State := s.canCtl t a c k (fun s => s.actAbort c k)
def canTxreq (t : Nat) (a : Acc) (c k slot : Nat) (s : State) : State := s.canCtl t a c k (fun s => s.actTxreq c k (slot % 2))

/-- CAN_RXEVT_POP (R321). -/
def canRxevtPop (t : Nat) (a : Acc) (c : Nat) (s : State) : State :=
  let s := s.at_ t
  if c < 16 then
    s.blockRead a kCan c (R.CAN_RXEVT_POP c) (fun s =>
      ((s.replyData (s.rxHeadWord c)).modCan c (fun x => { x with rxq := x.rxq.drop 1 })).canLines c)
  else s

/-- CAN_TXEVT_POP (R321). -/
def canTxevtPop (t : Nat) (a : Acc) (c : Nat) (s : State) : State :=
  let s := s.at_ t
  if c < 16 then
    s.blockRead a kCan c (R.CAN_TXEVT_POP c) (fun s =>
      ((s.replyData (s.txHeadWord c)).modCan c (fun x => { x with txq := x.txq.drop 1 })).canLines c)
  else s

/-! ## Resets (R324) -/

/-- A partition reset of a channel's owner: holds released, requests ended, queues emptied; a frame on the bus runs to its end, and its
request ends ABORTED where that frame is not sent (R324). -/
def State.canOwnerReset (s : State) (c : Nat) : State :=
  let s := foldS ((List.range 512).filter (fun k => !s.isTx c k && s.rdb (F.CAN_OBJ_STAT_HELD c k))) (fun k s => s.objRelease c k) s
  let s := foldS (s.requested c) (fun k s =>
    let s := s.wrb (F.CAN_OBJ_STAT_PEND c k) false
    if s.txst c k = txPENDING then (s.txEnd c k txABORTED 2).gwyOutcome c k 2
    else if s.txst c k = txACTIVE then s.setTxst c k txABORT_PEND else s) s
  (s.modCan c (fun x => { x with rxq := [], txq := [] })).canLines c

/-- Every CAN request in PENDING ends ABORTED, and waiting second requests are discarded (R363). -/
def State.canSleepCommit (s : State) (c : Nat) : State :=
  foldS (s.requested c) (fun k s =>
    let s := s.wrb (F.CAN_OBJ_STAT_PEND c k) false
    if s.txst c k = txPENDING then s.txEnd c k txABORTED 2 else s) s

end Sys2Proof.Machine
end

