-- ==== Sys2Proof/Machine/Lin.lean ====
section
/-!
DEFINITION. Machine/Lin.lean: LIN schedules, slots and responses (R326–R329, R372).
-/
namespace Sys2Proof.Machine

/-- A schedule table of a channel. -/
def State.linTable (s : State) (c n : Nat) : LinTable := (s.lin_ c).tables.get {} n

/-- The frame identifier that a slot sends, and whether the commander publishes it (R328): none for a silent sporadic
slot. -/
def State.linPick (s : State) (c : Nat) (e : LinEnt) : Option (Nat × Bool) :=
  if e.ty = 0 ∨ e.ty = 1 then some (e.fid, s.linPub c e.fid)
  else if e.ty = 2 then
    ((List.range e.aux).find? (fun i => s.linPub c (e.fid + i) && s.rdb (F.LIN_BUF_ST_DIRTY c (e.fid + i)))).map (fun i => (e.fid + i, true))
  else if e.ty = 3 then some (0x3C, true)
  else if e.ty = 4 then some (0x3D, false) else none

/-- The schedule stops: its table has ended (R325). -/
def State.linStop (s : State) (c : Nat) : State :=
  let s := if (s.lin_ c).run then s.linTrig c 2 else s
  s.modLin c (fun x => { x with run := false, frame := none, coll := false, back := none })

/-- The bytes of the go-to-sleep frame and its classic checksum, the inverted sum with carry over the data bytes (R372). -/
def goToSleepData : List Byte := 0 :: List.replicate 7 0xFF
def classicSum (l : List Byte) : Nat := 255 - l.foldl (fun n b => let m := n + b.toNat; if 256 ≤ m then m - 255 else m) 0

/-- The go-to-sleep frame, identifier 0x3C, is sent, the schedule stops, and the bus is left recessive (R372). -/
def State.linGoToSleep (s : State) (c : Nat) : State :=
  let s := s.linStop c
  let sent : LinSent := { fid := 0x3C, data := goToSleepData, sum := classicSum goToSleepData, at_ := s.now }
  ({ s.modLin c (fun x => { x with asleep := true, slotAt := s.now, lastSent := some sent }) with
      slp.linSleep := s.slp.linSleep.filter (fun d => d != c) }).linTrig c 3

/-- The instant at which the slot that starts now begins: a slot of a running schedule served late keeps its own (R326). -/
def State.linStart (s : State) (c : Nat) : Nat := if (s.lin_ c).run then min s.now (s.lin_ c).nextAt else s.now

/-- Serve entry `i` of table `n` at its slot start: the header, and the frame of the slot (R326–R329). -/
def State.linServe (s : State) (c n i : Nat) : State :=
  match (s.linTable c n).ents[i]? with
  | none => s.linStop c
  | some e =>
    let b := s.linStart c
    let s := s.modLin c (fun x => { x with run := true, table := n, slotAt := b, nextAt := b + ms e.slot, coll := false, frame := none })
    let s := (s.wr (F.LIN_STAT_ENTRY c) i).wrb (F.LIN_STAT_RESOLVING c) (s.lin_ c).back.isSome
    if e.ty = 5 then s.linGoToSleep c
    else
      match s.linPick c e with
      | none => s
      | some (fid, pub) =>
        let d := s.draw (s.linBit c)
        let lim := s.now + d.1 + linFrameMax (s.rd (F.LIN_CTL_BAUD c)) (s.rd (F.LIN_BUF_CFG_LEN c fid))
        let out := if pub then slice (s.linData c fid) 0 (s.rd (F.LIN_BUF_CFG_LEN c fid)) else []
        let s := d.2.modLin c (fun x => { x with frame := some { fid := fid, pub := pub, evt := e.ty == 1, limit := lim, data := out } })
        if pub then s.wrb (F.LIN_BUF_ST_DIRTY c fid) false else s

/-- A new table begins (R334, R335). -/
def State.linBegin (s : State) (c n : Nat) : State :=
  let s := s.modLin c (fun x => { x with switch_ := none, back := none, prev := s.rd (F.LIN_CTL_TABLE c) })
  ((s.wr (F.LIN_CTL_TABLE c) n).linTrig c 2).linServe c n 0

/-- The pass of a table has ended: a switch, the return of a ONCE table, or the next pass (R334, R335). -/
def State.linPassEnd (s : State) (c n : Nat) : State :=
  match (s.lin_ c).switch_ with
  | some (m, _) => s.linBegin c m
  | none => if (s.linTable c n).once then s.linBegin c (s.lin_ c).prev else s.linServe c n 0

/-- The collision resolution table of the present slot (R328). -/
def State.linResolve (s : State) (c : Nat) : Nat :=
  match (s.linTable c (s.lin_ c).table).ents[s.rd (F.LIN_STAT_ENTRY c)]? with | some e => e.aux | none => 0

/-- The slot after the present one (R328, R335). -/
def State.linNext (s : State) (c : Nat) : State :=
  let x := s.lin_ c
  let i := s.rd (F.LIN_STAT_ENTRY c)
  let len := (s.linTable c x.table).ents.length
  match x.back with
  | some (n, j) =>
    if i + 1 < len then s.linServe c x.table (i + 1)
    else
      let s := s.modLin c (fun x => { x with back := none })
      (match x.switch_ with
       | some (m, 0) => s.linBegin c m
       | _ => if j < (s.linTable c n).ents.length then s.linServe c n j else s.linPassEnd c n)
  | none =>
    let res := s.linResolve c
    if x.coll && !(s.linTable c res).ents.isEmpty then
      (s.modLin c (fun y => { y with back := some (x.table, i + 1) })).linServe c res 0
    else
      match x.switch_ with
      | some (m, 0) => s.linBegin c m
      | _ => if i + 1 < len then s.linServe c x.table (i + 1) else s.linPassEnd c x.table

/-- The present frame of a channel has ended. -/
def State.linFrameEnd (s : State) (c : Nat) : State := s.modLin c (fun x => { x with frame := none })

/-- A subscribed response arrives (R327), for a gateway source also at its routes (R338). -/
def State.linResponse (s : State) (c i : Nat) (b : List Byte) : State :=
  let s := (s.wr (F.LIN_BUF_ST_ERR c i) 0).linAccept c i b
  if (s.routesFrom (epLin c i)).isEmpty then s
  else (s.wrb (F.LIN_BUF_ST_NEW c i) false).gwyUpdate (epLin c i) 0 b

/-- LIN_RESPONSE_END: the response of the present frame ends, with error 0 none, 3 CHECKSUM, 4 FRAMING, 5 BIT (R328,
R329). -/
def linResponseEnd (t c err : Nat) (data : List Byte) (s : State) : State :=
  let s := s.at_ t
  match (s.lin_ c).frame with
  | none => s
  | some f =>
    if f.limit < s.now then s
    else if f.evt && (err == 3 || err == 4) then
      ((s.sat (F.LIN_STAT_COLLISIONS c) 1).modLin c (fun x => { x with coll := true })).linFrameEnd c
    else if err = 0 then
      (if f.pub then s.wr (F.LIN_BUF_ST_ERR c f.fid) 0 else s.linResponse c f.fid (slice data 0 (s.rd (F.LIN_BUF_CFG_LEN c f.fid)))).linFrameEnd c
    else (s.linError c f.fid err).linFrameEnd c

/-- LIN_FRAME_MAX_EXPIRY: T_FRAME_MAX passes; `got` says whether a byte arrived (R329). -/
def linFrameMaxExpiry (t c : Nat) (got : Bool) (s : State) : State :=
  let s := s.at_ t
  match (s.lin_ c).frame with
  | none => s
  | some f => if s.now < f.limit ∨ f.pub = true then s else (s.linError c f.fid (if got then 2 else 1)).linFrameEnd c

/-! ## Steps of the count (R44, R45) -/

/-- The length of a table's pass, ns. -/
def LinTable.pass (t : LinTable) : Nat := ms (t.ents.foldl (fun n e => n + e.slot) 0)

/-- After a forward step a schedule resumes at its first slot start at or after the new count; the slots before it are not
replayed (R44, DESIGN CHOICE, assumption 113). -/
def State.linForward (s : State) (c : Nat) : State :=
  let x := s.lin_ c
  let t := s.linTable c x.table
  if x.run = false ∨ s.now ≤ x.nextAt ∨ t.pass = 0 then s
  else
    let start := x.nextAt + (s.now - x.nextAt) / t.pass * t.pass
    let r := (List.range t.ents.length).foldl (fun (p : Nat × Nat) _ =>
      if p.2 < s.now then ((p.1 + 1) % t.ents.length, p.2 + ms ((t.ents.map (fun e => e.slot)).getD ((p.1 + 1) % t.ents.length) 0)) else p)
      (s.rd (F.LIN_STAT_ENTRY c), start)
    (s.modLin c (fun x => { x with nextAt := r.2 })).wr (F.LIN_STAT_ENTRY c) r.1

/-- After a backward step a schedule restarts at its first slot start at or after the new count (R45, DESIGN CHOICE, assumption 113). -/
def State.linBack (s : State) (c : Nat) : State :=
  let x := s.lin_ c
  let t := s.linTable c x.table
  if x.run = false ∨ x.nextAt ≤ s.now ∨ t.pass = 0 then s
  else
    let n := t.ents.length
    let start := x.nextAt - (x.nextAt - s.now) / t.pass * t.pass
    let r := (List.range n).foldl (fun (p : Nat × Nat) _ =>
      let w := ms ((t.ents.map (fun e => e.slot)).getD p.1 0)
      if s.now + w ≤ p.2 then ((p.1 + n - 1) % n, p.2 - w) else p)
      (s.rd (F.LIN_STAT_ENTRY c), start)
    (s.modLin c (fun x => { x with nextAt := r.2 })).wr (F.LIN_STAT_ENTRY c) r.1

/-- LIN_SLOT_START: a slot of the schedule starts (R326, R328, R372). A slot whose start fell due without alignment is served when
alignment returns within 1 ms; later ones resume at the first slot start then to come (R42, DEDUCED, assumption 162). -/
def linSlotStart (t c : Nat) (s : State) : State :=
  let s := s.at_ t
  if 8 ≤ c ∨ s.aligned 7 = false ∨ (s.lin_ c).asleep = true then s
  else
    let s := if (s.lin_ c).nextAt + ms 1 < s.now then s.linForward c else s
    let x := s.lin_ c
    if s.now < x.nextAt then s
    else if !s.rdb (F.LIN_CTL_ENABLE c) then s.linStop c
    else if s.slp.linSleep.contains c then s.linGoToSleep c
    else if x.run then s.linNext c
    else s.linServe c (s.rd (F.LIN_CTL_TABLE c)) 0

/-! ## Register accesses -/

/-- A write to the block of a LIN channel. -/
def State.linWrite (s : State) (t : Nat) (a : Acc) (c i addr : Nat) (f : State → State) : State :=
  let s := s.at_ t
  if c < 8 ∧ i < 64 then s.blockWrite a kLin c addr f else s

def linHoldSetWrite (t : Nat) (a : Acc) (c i : Nat) (s : State) : State := s.linWrite t a c i (R.LIN_BUF_CFG c i) (fun s => s.linHoldSet c i)
def linHoldRelWrite (t : Nat) (a : Acc) (c i : Nat) (s : State) : State := s.linWrite t a c i (R.LIN_BUF_CFG c i) (fun s => s.linHoldRel c i)
def linLostClrWrite (t : Nat) (a : Acc) (c i : Nat) (s : State) : State := s.linWrite t a c i (R.LIN_BUF_CFG c i) (fun s => s.linLostClr c i)
def linData1Write (t : Nat) (a : Acc) (c i v : Nat) (s : State) : State := s.linWrite t a c i (R.LIN_BUF_DATA1 c i) (fun s => s.writeLinData1 c i v)

/-! ## Partition resets (R324) -/

/-- A partition reset of a channel's owner releases the holds of its buffers; the schedule keeps running (R324). -/
def State.linOwnerReset (s : State) (c : Nat) : State :=
  foldS ((List.range 64).filter (fun i => s.rdb (F.LIN_BUF_ST_HELD c i))) (fun i s => s.linHoldRel c i) s

/-! ## Wake-up (R372) -/

/-- A sleeping LIN bus wakes at the end of a dominant level: the table resumes at the first slot start at least 100 ms
later. -/
def State.linWake (s : State) (c fin : Nat) : State :=
  (s.modLin c (fun x => { x with asleep := false, nextAt := fin + ms 100 })).linTrig c 3

end Sys2Proof.Machine
end

