-- ==== Sys2Proof/Machine/CanLinCmds.lean ====
section
/-!
DEFINITION. Machine/CanLinCmds.lean: the CAN and LIN commands (R330–R335): steps 7 to 15 of R66 for each.
-/
namespace Sys2Proof.Machine

/-- In COPPICE only CAN0 is served by CAN_CONFIG and CAN_RECOVER (R330). -/
def State.coppiceCan0 (s : State) (ch : Nat) (k : Res) : Res := need (s.dev != .coppice || ch == 0) stCOPPICE_ACTIVE k

/-- The fields that CAN_CONFIG writes (R308, R331). -/
def canFlds (c : Nat) : List CfgFld := [
  ⟨F.CAN_CTL_MODE c, .live, upTo 4⟩, ⟨F.CAN_CTL_FD_EN c, .locked, anyVal⟩, ⟨F.CAN_CTL_BOFF_POLICY c, .live, anyVal⟩,
  ⟨F.CAN_CTL_AUTO_RECOVER c, .live, anyVal⟩, ⟨F.CAN_CTL_PXHD c, .locked, anyVal⟩, ⟨F.CAN_CTL_RECOVER_DLY c, .live, upTo 1000⟩,
  ⟨⟨R.CAN_NBT c, 5, 27⟩, .locked, anyVal⟩, ⟨⟨R.CAN_DBT c, 6, 26⟩, .locked, anyVal⟩]

/-- A bit timing lies within the rates of R305 and the limits of R308 (R309). -/
def canTimingOk (nbt dbt : Nat) : Bool :=
  let n := (bitsOf nbt 27 5 + 1) * (3 + bitsOf nbt 19 8 + bitsOf nbt 12 7)
  let d := (bitsOf dbt 27 5 + 1) * (3 + bitsOf dbt 22 5 + bitsOf dbt 18 4)
  decide (80 ≤ n) && decide (n ≤ 1600) && decide (10 ≤ d) && decide (d ≤ 80) &&
  decide (bitsOf nbt 5 7 ≤ bitsOf nbt 12 7) && decide (bitsOf dbt 14 4 ≤ bitsOf dbt 18 4) && (bitsOf nbt 0 5 == 0) && (bitsOf dbt 0 6 == 0)

/-- MODE takes effect at once while the channel is OFF, else at the next bus idle (R15, R308); a mask without MODE leaves an
earlier write waiting. -/
def State.modeAfter (s : State) (c old mask : Nat) : State :=
  let m := s.rd (F.CAN_CTL_MODE c)
  if bitsOf mask 28 3 = 0 then s
  else if m = old then s.modCan c (fun x => { x with modeWant := none })
  else if old = 0 then (s.wr (F.CAN_CTL_MODE c) 0).canMode c m
  else (s.wr (F.CAN_CTL_MODE c) old).modCan c (fun x => { x with modeWant := some m })

def canConfigBody (c : Cmd) (s : State) : Res :=
  let n := c.arg 0 1
  s.coppiceCan0 n <|
  let nbt := c.arg 12 4
  let dbt := c.arg 16 4
  let im : List Image := [(R.CAN_CTL n, c.arg 4 4, c.arg 8 4)] ++
    (if nbt = s.wordN (R.CAN_NBT n) then [] else [(R.CAN_NBT n, nbt, 0xFFFFFFE0)]) ++
    (if dbt = s.wordN (R.CAN_DBT n) then [] else [(R.CAN_DBT n, dbt, 0xFFFFFFC0)])
  let old := s.rd (F.CAN_CTL_MODE n)
  let new := s.afterFld (canFlds n) im (F.CAN_CTL_MODE n)
  need (decide (n ≤ 15) && c.zero 1 3 && imagesOk (canFlds n) im && canTimingOk nbt dbt && (new == 0 || s.canAreaOk n)) stBAD_ARGUMENT <|
  need (s.owns c kCan n) stNOT_OWNER <|
  (s.configure (canFlds n) im (old == 0) (if new = 4 ∧ s.rd F.MPC_LC_STAT_LIFECYCLE ≠ 1 then stMODE_FORBIDS else 0)).andThen
    (fun s => s.modeAfter n old (c.arg 8 4))

def canStatusBody (c : Cmd) (s : State) : Res :=
  let n := c.arg 0 1
  need (decide (n ≤ 15) && c.zero 1 3) stBAD_ARGUMENT <|
  need (s.owns c kCan n || s.mayRead c kCan n) stNOT_OWNER <|
  let x := s.can_ n
  .done stOK (wordBytes (s.word (R.CAN_CTL n)) ++ wordBytes (s.word (R.CAN_NBT n)) ++ wordBytes (s.word (R.CAN_DBT n)) ++
    wordBytes (s.word (R.CAN_STAT n)) ++ wordBytes (s.word (R.CAN_CNT n)) ++ bytesLE 4 x.accepted ++ bytesLE 4 x.sent ++ bytesLE 4 x.errs ++
    bytesLE 4 x.lost ++ bytesLE 4 x.ovf ++ bytesLE 8 x.stateAt) s

def canRecoverBody (c : Cmd) (s : State) : Res :=
  let n := c.arg 0 1
  s.coppiceCan0 n <|
  need (decide (n ≤ 15) && c.zero 1 3) stBAD_ARGUMENT <|
  need (s.owns c kCan n) stNOT_OWNER <|
  need (s.rd (F.CAN_STAT_STATE n) == 3) stMODE_FORBIDS <|
  .done stOK (bytesLE 8 s.now) (s.startRecovery n)

/-- The fields that LIN_CONFIG writes (R329, R334). -/
def linFlds (c : Nat) : List CfgFld := [⟨F.LIN_CTL_ENABLE c, .live, anyVal⟩, ⟨F.LIN_CTL_BAUD c, .locked, between 1000 20000⟩]

def linConfigBody (c : Cmd) (s : State) : Res :=
  let n := c.arg 0 1
  let im : List Image := [(R.LIN_CTL n, c.arg 4 4, c.arg 8 4)]
  need (decide (n ≤ 7) && c.zero 1 3 && imagesOk (linFlds n) im) stBAD_ARGUMENT <|
  need (s.owns c kLin n) stNOT_OWNER <|
  s.configure (linFlds n) im (s.linStopped n) 0

/-! ## Schedule tables (R328, R334) -/

/-- An entry of a table as bytes. -/
def linEntry (b : List Byte) (o : Nat) : LinEnt := { ty := leAt b o 1, fid := leAt b (o + 1) 1, slot := leAt b (o + 2) 1, aux := leAt b (o + 3) 1 }

/-- The identifiers of the frames that an entry may send. -/
def linFids (e : LinEnt) : List Nat :=
  if e.ty = 2 then (List.range e.aux).map (fun i => e.fid + i) else if e.ty = 3 ∨ e.ty = 5 then [0x3C] else if e.ty = 4 then [0x3D] else [e.fid]

/-- An entry is permitted, and its slot is no shorter than T_FRAME_MAX of its frames. -/
def State.linEntryOk (s : State) (c : Nat) (e : LinEnt) : Bool :=
  decide (e.ty ≤ 5) && decide (e.fid ≤ 63) && decide (1 ≤ e.slot) &&
  (if e.ty = 1 then decide (e.aux ≤ 15) else if e.ty = 2 then decide (1 ≤ e.aux) && decide (e.aux ≤ 4) && decide (e.fid + e.aux ≤ 64) else e.aux == 0) &&
  (linFids e).all (fun i => decide (linFrameMax (s.rd (F.LIN_CTL_BAUD c)) (s.rd (F.LIN_BUF_CFG_LEN c i)) ≤ ms e.slot))

/-- The entries of a channel's tables other than one. -/
def State.linEntries (s : State) (c tab : Nat) : Nat :=
  ((List.range 16).filter (fun k => k != tab)).foldl (fun n k => n + (s.linTable c k).ents.length) 0

/-- A table is active: it is TABLE or runs, on a channel that is enabled or still runs. -/
def State.linActive (s : State) (c tab : Nat) : Bool :=
  (s.rdb (F.LIN_CTL_ENABLE c) || (s.lin_ c).run) && (s.rd (F.LIN_CTL_TABLE c) == tab || ((s.lin_ c).run && (s.lin_ c).table == tab))

def linTableLoadBody (c : Cmd) (s : State) : Res :=
  let b := s.load (c.dAddr 0) (min (c.dSize 0) 516)
  let n := leAt b 0 1
  let tab := leAt b 1 1
  let cnt := leAt b 3 1
  let es := (List.range cnt).map (fun i => linEntry b (4 + 8 * i))
  need (decide (n ≤ 7) && decide (tab ≤ 15) && decide (leAt b 2 1 ≤ 1) && between 1 64 cnt && decide (4 + 8 * cnt ≤ c.dSize 0) &&
    (List.range cnt).all (fun i => leAt b (8 + 8 * i) 4 == 0) && es.all (fun e => s.linEntryOk n e) && decide (s.linEntries n tab + cnt ≤ 256)) stBAD_ARGUMENT <|
  need (s.owns c kLin n) stNOT_OWNER <|
  if s.linActive n tab then .wait .waitObject
  else .done stOK [] (s.modLin n (fun x => { x with tables := x.tables.set tab { once := bitOf (leAt b 2 1) 0, ents := es } }))

/-- The ms of the entries of a table from entry `i` on. -/
def State.linRest (s : State) (c n i : Nat) : Nat := ((s.linTable c n).ents.drop i).foldl (fun a e => a + e.slot) 0

/-- The slot start at which a switch takes effect: a resolution table that runs, or that a collision in the present slot calls for, is
run in full before it (R328, R335). -/
def State.linSwitchAt (s : State) (c when_ : Nat) : Nat :=
  let x := s.lin_ c
  let rest := s.linRest c x.table (s.rd (F.LIN_STAT_ENTRY c) + 1)
  x.nextAt + ms (if x.back.isSome then rest else (if x.coll then s.linRest c (s.linResolve c) 0 else 0) + (if when_ = 1 then rest else 0))

/-- WHEN of a switch: one requested during a collision resolution takes effect when the resolution ends (R335). -/
def State.linWhen (s : State) (c when_ : Nat) : Nat := if (s.lin_ c).back.isSome then 0 else when_

def linScheduleBody (c : Cmd) (s : State) : Res :=
  let n := c.arg 0 1
  let tab := c.arg 1 1
  let w := c.arg 2 1
  need (decide (n ≤ 7) && decide (tab ≤ 15) && decide (w ≤ 1) && c.zero 3 1 && !(s.linTable n tab).ents.isEmpty) stBAD_ARGUMENT <|
  need (s.owns c kLin n) stNOT_OWNER <|
  if (s.lin_ n).run then .done stOK (bytesLE 8 (s.linSwitchAt n w)) (s.modLin n (fun x => { x with switch_ := some (tab, s.linWhen n w) }))
  else
    let t := if tab = s.rd (F.LIN_CTL_TABLE n) then s else s.linTrig n 2
    .done stOK (bytesLE 8 (max s.now (s.lin_ n).nextAt)) ((t.modLin n (fun x => { x with prev := s.rd (F.LIN_CTL_TABLE n) })).wr (F.LIN_CTL_TABLE n) tab)

def linStatusBody (c : Cmd) (s : State) : Res :=
  let n := c.arg 0 1
  need (decide (n ≤ 7) && c.zero 1 3) stBAD_ARGUMENT <|
  need (s.owns c kLin n || s.mayRead c kLin n) stNOT_OWNER <|
  .done stOK (wordBytes (s.word (R.LIN_CTL n)) ++ wordBytes (s.word (R.LIN_STAT n)) ++ bytesLE 8 (s.linNewWord n) ++ bytesLE 8 (s.lin_ n).slotAt) s

def dCanConfig : CmdDef := { op := 0x0601, lens := lenIs 20, coppice := true, names := argKey kCan 0 1, body := canConfigBody }
def dCanStatus : CmdDef := { op := 0x0602, lens := lenIs 4, coppice := true, names := argKey kCan 0 1, body := canStatusBody }
def dCanRecover : CmdDef := { op := 0x0603, lens := lenIs 4, coppice := true, names := argKey kCan 0 1, body := canRecoverBody }
def dLinConfig : CmdDef := { op := 0x0604, lens := lenIs 12, names := argKey kLin 0 1, body := linConfigBody }
def dLinTableLoad : CmdDef := { op := 0x0605, lens := fun _ => false, descs := [[0]], remote := false, names := fun c s => [okey kLin (leAt (s.load (c.dAddr 0) 1) 0 1)], body := linTableLoadBody }
def dLinSchedule : CmdDef := { op := 0x0606, lens := lenIs 4, names := argKey kLin 0 1, body := linScheduleBody }
def dLinStatus : CmdDef := { op := 0x0607, lens := lenIs 4, names := argKey kLin 0 1, body := linStatusBody }

end Sys2Proof.Machine
end

