-- ==== Sys2Proof/Machine/GatewayCmds.lean ====
section
/-!
DEFINITION. Machine/GatewayCmds.lean: the gateway commands (R352–R354, R358): steps 7 to 15 of R66 for each.
-/
namespace Sys2Proof.Machine

def gwyStatusBody (_ : Cmd) (s : State) : Res :=
  let rs := s.gwy.routes.keys.filter (fun r => (s.route r).defined)
  .done stOK (bytesLE 2 rs.length ++ bytesLE 2 (rs.filter (fun r => s.routeEn r && (s.route r).run)).length ++ bytesLE 2 s.gwy.sigs.length ++
    bytesLE 1 s.gwy.nConts ++ bytesLE 1 (b2n (s.gwy.running && s.dev != .coppice)) ++ bytesLE 4 s.gwy.updates ++ bytesLE 4 s.gwy.sends ++
    bytesLE 2 (s.rd ⟨R.GWY_ETYPE, 0, 16⟩) ++ bytesLE 2 0 ++ bytesLE 4 s.gwy.unknown) s

/-- A route number names a defined route. -/
def State.isRoute (s : State) (r : Nat) : Bool := decide (r < 4096) && (s.route r).defined

def gwyRouteStatusBody (c : Cmd) (s : State) : Res :=
  let r := c.arg 0 2
  need (s.isRoute r && c.zero 2 2) stBAD_ARGUMENT <|
  need (s.owns c kRoute r || s.mayRead c kRoute r) stNOT_OWNER <|
  let x := s.route r
  .done stOK (bytesLE 8 x.updAt ++ bytesLE 8 (x.sendAt.getD 0) ++ bytesLE 4 x.updates ++ bytesLE 4 x.sends ++ bytesLE 4 x.coalesced ++
    bytesLE 1 x.timeouts ++ bytesLE 1 x.ranges ++ bytesLE 1 x.shorts ++ bytesLE 1 x.fails ++
    bytesLE 1 (b2n (s.routeEn r) + 2 * b2n x.pend + 4 * b2n x.timedOut + 8 * b2n x.run) ++ bytesLE 3 0) s

def gwyRouteEnableBody (c : Cmd) (s : State) : Res :=
  let r := c.arg 0 2
  need (s.isRoute r && decide (c.arg 2 1 ≤ 1) && c.zero 3 1) stBAD_ARGUMENT <|
  need (s.owns c kRoute r) stNOT_OWNER <|
  .done stOK [] (s.modRoute r (fun x => { x with runWant := bitOf (c.arg 2 1) 0 }))

def gwyPduReadBody (c : Cmd) (s : State) : Res :=
  let r := c.arg 0 2
  let h := c.arg 2 1
  need (s.isRoute r && decide (h ≤ 1) && c.zero 3 1) stBAD_ARGUMENT <|
  need (s.owns c kRoute r || s.mayRead c kRoute r) stNOT_OWNER <|
  let x := s.route r
  let d := if x.level = 1 then x.pdu else x.buf.getD x.tmpl
  .done stOK (bytesLE 8 x.bufAt ++ bytesLE 1 d.length ++ bytesLE 1 ((if x.level = 1 then x.pduFf else x.dff) % 4 + 4 * b2n x.timedOut) ++ bytesLE 2 0 ++
    slice d (32 * h) 32) s

/-- An entry of the bridge error log as a requester sees it (R358). -/
def State.blogEntry (s : State) (c : Cmd) (n : Nat) : List Byte :=
  let i := n % 8
  let sec := s.rdb (F.GWY_BLOG_INFO_SECURE i)
  if c.isSecure || (c.node == 0xFFFF && !sec && s.rd (F.GWY_BLOG_INFO_PART i) == c.who) then
    bytesLE 4 (s.wordN (R.GWY_BLOG_ADDR i)) ++ bytesLE 1 (s.rd (F.GWY_BLOG_INFO_ADDR_HI i)) ++ bytesLE 1 (s.rd (F.GWY_BLOG_INFO_MASTER i)) ++
    bytesLE 1 (s.rd (F.GWY_BLOG_INFO_TYPE i)) ++ bytesLE 1 (s.rd (F.GWY_BLOG_INFO_PART i) + 16 * b2n sec) ++
    bytesLE 8 (s.pair (R.GWY_BLOG_TS_LO i) (R.GWY_BLOG_TS_HI i))
  else bytesLE 16 0

def gwyBridgeLogBody (c : Cmd) (s : State) : Res :=
  let f := c.arg 0 1
  let n := c.arg 1 1
  need (decide (f ≤ 7) && between 1 2 n && c.zero 2 2) stBAD_ARGUMENT <|
  .done stOK (bytesLE 2 (s.rd F.GWY_BLOG_CTL_TOTAL) ++ bytesLE 1 (s.rd F.GWY_BLOG_CTL_NEXT) ++ bytesLE 1 0 ++ bytesLE 4 s.brg.expired ++
    (List.range n).flatMap (fun i => s.blogEntry c (f + i))) s

def dGwyStatus : CmdDef := { op := 0x0701, lens := lenIs 0, coppice := true, body := gwyStatusBody }
def dGwyRouteStatus : CmdDef := { op := 0x0702, lens := lenIs 4, names := argKey kRoute 0 2, body := gwyRouteStatusBody }
def dGwyRouteEnable : CmdDef := { op := 0x0703, lens := lenIs 4, names := argKey kRoute 0 2, body := gwyRouteEnableBody }
def dGwyPduRead : CmdDef := { op := 0x0704, lens := lenIs 4, names := argKey kRoute 0 2, body := gwyPduReadBody }
def dGwyBridgeLog : CmdDef := { op := 0x0705, lens := lenIs 4, coppice := true, body := gwyBridgeLogBody }

/-- POSTED_WRITE_FAILURE: a posted write fails on the far side (R357): type 1 DECODE, 2 ACCESS, 3 ECC. -/
def postedWriteFailure (t : Nat) (a : Acc) (ty addr : Nat) (s : State) : State :=
  let s := s.at_ t
  if ty = 0 ∨ 3 < ty then s
  else
    s.failAcc (if ty = 1 then 0x0103 else if ty = 2 then 0x0B01 else 0x0105) a 2 addr

end Sys2Proof.Machine
end

