-- ==== Sys2Proof/Machine/FaCheck.lean ====
section
/-!
DEFINITION. Machine/FaCheck.lean: the checks of a fast-actuation frame (R290–R292).
-/
namespace Sys2Proof.Machine

/-- The fields of a fast-actuation frame (R290): the offset of its header, sender, target, count, SEQ, ACK_REQ, ATOMIC. -/
structure FaHdr where
  o      : Nat
  sender : Nat
  target : Nat
  count  : Nat
  seq    : Nat
  ack    : Bool
  atomic : Bool
deriving DecidableEq, Repr

/-- Read the header. -/
def faHdr (b : List Byte) : FaHdr :=
  let o := typeOff b + 2
  { o := o, sender := beAt b (o + 2) 2, target := beAt b (o + 4) 2, count := beAt b (o + 6) 1, seq := beAt b (o + 8) 6,
    ack := bitOf (beAt b (o + 1) 1) 7, atomic := bitOf (beAt b (o + 1) 1) 6 }

/-- The offset of entry `i`. -/
def FaHdr.ent (h : FaHdr) (i : Nat) : Nat := h.o + 16 + 12 * i

/-- Check 1: the format of a COMMAND (R290, R292). -/
def faFormat (b : List Byte) : Bool :=
  let h := faHdr b
  (beAt b h.o 1 == 0x11) && (beAt b (h.o + 1) 1 % 64 == 0) && between 1 32 h.count && (beAt b (h.o + 7) 1 == 0) && (beAt b (h.o + 14) 2 == 0) &&
  decide (h.ent h.count + 16 ≤ b.length) &&
  (List.range h.count).all (fun i => decide (beAt b (h.ent i) 1 < 64) && beAt b (h.ent i + 2) 2 == 0)

/-- The bytes that the ICV covers: addresses, EtherType, header and entries (R291). -/
def faCovered (b : List Byte) : List Byte := let h := faHdr b; b.take 12 ++ (b.drop (h.o - 2)).take (2 + 16 + 12 * h.count)

/-- The key of a sender. -/
def State.faKey (s : State) (snd : Nat) : List Byte := (s.slot (s.rd (F.TSN_FA_SND_CFG_KEY_SLOT snd))).value

/-- The last SEQ of a sender. -/
def State.faSeq (s : State) (snd : Nat) : Nat := s.pair (R.TSN_FA_SND_SEQ_LO snd) (R.TSN_FA_SND_SEQ_HI snd)

/-- Checks 1 to 5 of R292: the code of the first that fails, or 0. -/
def State.faAuth (s : State) (b : List Byte) : Nat :=
  let h := faHdr b
  let k := s.rd (F.TSN_FA_SND_CFG_KEY_SLOT h.sender)
  if !faFormat b then 1
  else if 64 ≤ h.sender ∨ s.rdb (F.TSN_FA_SND_CFG_VALID h.sender) = false then 2
  else if !(s.usable k && s.slotType k == 2 && s.slotUse k 7) then 3
  else if slice b (h.ent h.count) 16 ≠ slice (Config.cmac (s.faKey h.sender) (faCovered b)) 0 16 then 4
  else if h.seq ≤ s.faSeq h.sender then 5 else 0

/-- Checks 6 and 7 of R292. -/
def State.faTarget (s : State) (b : List Byte) : Nat :=
  let h := faHdr b
  if !(h.target == 0xFFFF || (h.target == s.ownNode && s.ownNode != 0x7FF)) then 6
  else if s.rdb F.TSN_FA_CFG_REQ_LOCK && s.rd F.TBS_STATUS_SYNC != 2 then 7 else 0

/-- Count a frame result against its sender; source 290 for a failed check (R292, R297). -/
def State.faCount (s : State) (snd r : Nat) : State :=
  let k := 16 * min 64 snd + r
  let s := { s with tsn.faCnt := s.tsn.faCnt.set k (wrap32 (s.tsn.faCnt.get 0 k + 1)) }
  if r = 0 then s else s.trig 290

/-- The frame that the fast path is checking: the oldest one waiting (R289, DEDUCED, assumption 136). -/
def State.faChecked (s : State) : Option FaFrame := s.tsn.waiting.head?

/-- A key is invalidated while the frame is checked: the frame is dropped with KEY_ABORT, or with the check before it that it
also fails; its number is used up (R292). -/
def State.faAbort (s : State) (f : FaFrame) (code : Nat) : State :=
  let h := faHdr f.bytes
  let s : State := { s with tsn.waiting := s.tsn.waiting.drop 1 }
  (s.setPair (R.TSN_FA_SND_SEQ_LO h.sender) (R.TSN_FA_SND_SEQ_HI h.sender) h.seq).faCount h.sender code

/-- The frame being checked depends on its sender's key, and what it would be answered once that key is lost: none where checks
1 to 5 refuse it anyway. -/
def State.faAtRisk (s : State) : Option (FaFrame × Nat × Nat) :=
  match s.faChecked with
  | some f =>
    if s.faAuth f.bytes = 0 then
      some (f, s.rd (F.TSN_FA_SND_CFG_KEY_SLOT (faHdr f.bytes).sender), if s.faTarget f.bytes = 0 then 8 else s.faTarget f.bytes)
    else none
  | none => none

end Sys2Proof.Machine
end

