-- ==== Sys2Proof/Machine/Keys.lean ====
section
/-!
DEFINITION. Machine/Keys.lean: key changes, key operations and the tamper response (R470–R482).
-/
namespace Sys2Proof.Machine

/-! ## Aborts and generation changes (R470, R476) -/

/-- The parameters of a KEY_OP in flight (R486), from its parameter buffer. -/
structure KeyParam where
  slot : Nat
  op   : Nat
  aad  : Nat
  iv   : List Byte
deriving DecidableEq, Repr

def State.keyParam (s : State) (c : Cmd) : KeyParam :=
  let b := s.load (c.dAddr 0) 32
  { slot := leAt b 0 2, op := leAt b 2 1, aad := leAt b 4 4, iv := slice b 8 16 }

/-- The length of the output of an operation on `n` input bytes (R475). -/
def State.keyOutLen (s : State) (p : KeyParam) (n : Nat) : Nat :=
  match p.op with
  | 1 => n | 2 => n | 3 => n | 4 => n - p.aad + 16 | 5 => n - p.aad - 16 | 6 => 16
  | 8 => if s.slotType p.slot = 4 then 48 else 32
  | 10 => 96 | 12 => 32 | 13 => 48 | _ => 0

/-- Zero the output bytes that an aborted operation has written: how many is open (R470, DESIGN CHOICE, assumption 32). -/
def State.zeroOut (s : State) (c : Cmd) (n : Nat) : State :=
  let d := s.draw n
  { d.2 with mem := Memory.zero d.2.mem (c.dAddr 2) d.1 }

/-- Abort a running operation with a status (R476). -/
def State.abortKeyOp (s : State) (c : Cmd) (st : Nat) : State :=
  (s.zeroOut c (s.keyOutLen (s.keyParam c) (c.dSize 1))).answer c st []

/-- Slots have become unusable: their operations and associations end (R235, R470). -/
def State.keyLost (s : State) (lost : List Nat) : State :=
  let s := foldS lost (fun k s => s.disableSas k) s
  foldS (s.keyOps.filter (fun c => c.phase == .running && lost.contains (s.keyParam c).slot)) (fun c s => s.abortKeyOp c stKEY_REVOKED) s

/-- A change of the key store: what became unusable by it is lost, the frame at the fast path whose check needs it too (R292,
R470). -/
def State.keyChange (s : State) (f : State → State) : State :=
  let before := (s.hwn.slots.keys).filter (fun k => s.usable k)
  let risk := s.faAtRisk
  let s := f s
  let s := match risk with
    | some (x, k, code) => if s.usable k then s else s.faAbort x code
    | none => s
  s.keyLost (before.filter (fun k => !s.usable k))

/-- The last SEQ of every fast-actuation sender with a slot returns to 0 (R292). -/
def State.resetFaSeq (s : State) (k : Nat) : State :=
  foldS (List.range 64) (fun n s =>
    if s.rd (F.TSN_FA_SND_CFG_KEY_SLOT n) = k ∧ (s.pair (R.TSN_FA_SND_SEQ_LO n) (R.TSN_FA_SND_SEQ_HI n)) ≠ 0 then
      s.setPair (R.TSN_FA_SND_SEQ_LO n) (R.TSN_FA_SND_SEQ_HI n) 0 else s) s

/-- The SEQ windows of the Hedgerow chain reset when its key is replaced (R385). -/
def State.resetHdgWin (s : State) (k : Nat) : State :=
  if s.rd F.HDG_CFG_KEY_SLOT = k then { s with hdg.rx := Tab.empty } else s

/-- LOCK_STATE leaves ERASED once no defined slot is ERASED (R480). -/
def State.unErase (s : State) : State :=
  if s.rd F.HWN_STAT_LOCK_STATE = 2 ∧ (s.hwn.slots.keys).all (fun k => (s.slot k).raw != 3) then (s.wr F.HWN_STAT_LOCK_STATE 0).trig 740 else s

/-- The shadow becomes the active value at t_kc (R471). -/
def State.commitKey (s : State) (k : Nat) : State :=
  let s := s.keyChange (fun s =>
    let x := s.slot k
    (s.setSlot k { x with raw := 1, value := x.shadow, shadow := [], gen := wrap32g (x.gen + 1), pgen := s.parentGen k, tkc := s.now, commit := none }).wrb (F.HWN_SLOT_STAT_SHADOW k) false)
  (((s.resetFaSeq k).resetHdgWin k).unErase).trig 738
where
  wrap32g (n : Nat) : Nat := n % 2 ^ 32

/-- A slot is emptied (R473), with source 738 (R483). -/
def State.revokeKey (s : State) (k : Nat) : State :=
  (s.trig 738).keyChange (fun s =>
    let x := s.slot k
    (s.setSlot k { x with raw := 0, value := [], shadow := [], gen := (x.gen + 1) % 2 ^ 32, commit := none }).wrb (F.HWN_SLOT_STAT_SHADOW k) false)

/-- Operations on a slot that are running. -/
def State.opsOn (s : State) (k : Nat) : List Cmd := s.keyOps.filter (fun c => c.phase == .running && (s.keyParam c).slot == k)

/-- KEY_COMMIT_EFFECT of a slot: the operations that started before the commit have ended (R471). -/
def keyCommitEffect (t k : Nat) (s : State) : State :=
  let s := s.at_ t
  match (s.slot k).commit with
  | some (n, w, g) =>
    if s.opsOn k = [] then
      let s := s.commitKey k
      match s.mbx.cmds.find? (fun c => c.node == n && c.win == w && c.tag == g) with
      | some c => s.answer c stOK (bytesLE 8 s.now)
      | none => s
    else s
  | none => s

/-! ## Key operations (R475) -/

/-- The output of an operation, or none for a mismatch. -/
def State.keyOut (s : State) (p : KeyParam) (inp : List Byte) : Option (List Byte) :=
  let key := (s.slot p.slot).value
  let n := s.keyOutLen p inp.length
  let full := p.iv ++ bytesLE 4 p.aad ++ inp
  let mac (m : List Byte) : List Byte :=
    if p.op = 6 ∨ p.op = 7 then slice (Config.cmac key m) 0 16
    else if s.slotType p.slot = 4 then slice (Config.hmac384 key m) 0 48 else slice (Config.hmac256 key m) 0 32
  let tl := if p.op = 7 then 16 else if s.slotType p.slot = 4 then 48 else 32
  match p.op with
  | 5 => if Config.verify 5 key full then some (slice (Config.cipher 5 key full) 0 n) else none
  | 6 => some (mac inp)
  | 7 => if mac (inp.take (inp.length - tl)) = inp.drop (inp.length - tl) then some [] else none
  | 8 => some (mac inp)
  | 9 => if mac (inp.take (inp.length - tl)) = inp.drop (inp.length - tl) then some [] else none
  | 11 => if Config.verify 11 key inp then some [] else none
  | 12 => some (slice (Config.digest 0x256 inp) 0 32)
  | 13 => some (slice (Config.digest 0x384 inp) 0 48)
  | k => some (slice (Config.cipher k key full) 0 n)

/-- KEY_OP_COMPLETE: one of the four oldest operations ends (R465, R470, R475). -/
def keyOpComplete (t node w tag : Nat) (s : State) : State :=
  let s := s.at_ t
  match ((s.keyOps.filter (fun c => c.phase == .running)).take 4).find? (fun c => c.node == node && c.win == w && c.tag == tag) with
  | none => s
  | some c =>
    let p := s.keyParam c
    if p.op < 12 ∧ s.usable p.slot = false then s.abortKeyOp c stKEY_REVOKED
    else match s.keyOut p (s.load (c.dAddr 1) (c.dSize 1)) with
      | some o => (s.putBuf c 2 o).answer c stOK (bytesLE 4 o.length ++ bytesLE 4 0)
      | none => s.abortKeyOp c stAUTH_FAILED

/-! ## Re-masking (R474) -/

/-- REMASK_DUE: at every multiple of REMASK_MIN minutes (R474). -/
def remaskDue (t : Nat) (s : State) : State :=
  let s := s.at_ t
  if s.now % sec (60 * s.rd F.HWN_CFG_REMASK_MIN) = 0 then s.periodicAct aREMASK else s

/-- An alarm ends a re-masking pass that is running (R482). -/
def State.endRemask (s : State) : State := if s.running aREMASK then s.endRun aREMASK else s

/-! ## Tamper response (R478–R482) -/

/-- The policy of a sensor in force: 0 ERASE, 1 LOCK, 2 LOG (R479). -/
def State.tamperPolicy (s : State) (i : Nat) : Nat :=
  let lc := s.rd F.MPC_LC_STAT_LIFECYCLE
  if lc = 0 then 2 else if i = 0 ∧ lc = 2 then 0 else bitsOf s.hwn.policy (2 * i) 2

/-- The device state code of R79. -/
def DevState.code : DevState → Nat
  | .off => 0 | .sleep => 1 | .starting => 2 | .running => 3 | .fault => 4 | .coppice => 5

/-- Enter an event in the tamper log (R487). -/
def State.tamperLog (s : State) (i pol action : Nat) : State :=
  let q := (s.hwn.tseq + 1) % 2 ^ 32
  { s with hwn.tseq := q, hwn.since := true,
           hwn.tlog := ({ at_ := s.now, sensor := i, policy := pol, dev := s.dev.code, action := action, seq := q } :: s.hwn.tlog).take 32 }

/-- Every operation in flight aborts with TAMPER_LOCKOUT (R476, R481). -/
def State.abortKeyOps (s : State) (st : Nat) : State := foldS (s.keyOps.filter (fun c => c.phase == .running)) (fun c s => s.abortKeyOp c st) s

/-- LOCK_STATE takes a value, with source 740. -/
def State.lockState (s : State) (v : Nat) : State := if s.rd F.HWN_STAT_LOCK_STATE = v then s else (s.wr F.HWN_STAT_LOCK_STATE v).trig 740

/-- Zero every key value: every slot becomes ERASED (R479). -/
def State.eraseSlots (s : State) : State :=
  s.keyChange (fun s => foldS s.hwn.slots.keys (fun k s =>
    (s.setSlot k { s.slot k with raw := 3, value := [], shadow := [], commit := none }).wrb (F.HWN_SLOT_STAT_SHADOW k) false) s)

/-- Blow one further erase fuse; past the eighth no domain key is derivable (R479). -/
def State.blowFuse (s : State) : State :=
  if s.epoch < 8 then s.wr F.HWN_STAT_EPOCH (s.epoch + 1) else { s with hwn.spent := true }

/-- Shadows are zeroed by an alarm, and pending commits do not take place (R482). -/
def State.dropShadows (s : State) : State :=
  foldS s.hwn.slots.keys (fun k s =>
    let x := s.slot k
    let s := (s.setSlot k { x with shadow := [], commit := none }).wrb (F.HWN_SLOT_STAT_SHADOW k) false
    match x.commit with
    | some (n, w, g) => (match s.mbx.cmds.find? (fun c => c.node == n && c.win == w && c.tag == g) with
        | some c => s.answer c stTAMPER_LOCKOUT [] | none => s)
    | none => s) s

/-- TAMPER_SENSOR_EVENT (R478–R482). -/
def tamperSensorEvent (t i : Nat) (s : State) : State :=
  let s := s.at_ t
  if 6 ≤ i ∨ (s.dev = .sleep ∧ i ≠ 0 ∧ i ≠ 4) ∨ s.dev = .off then s
  else
    let pol := s.tamperPolicy i
    let bit (f : Fld) (s : State) : State := s.wr f (setBit (s.rd f) i)
    let s := (bit F.HWN_TAMPER_STAT_ACTIVE (bit F.HWN_TAMPER_STAT_LATCHED s)).sat F.HWN_TAMPER_STAT_EVENTS 1
    if s.dev = .sleep then
      let s := s.tamperLog i pol (if pol = 0 then 3 else if pol = 1 then 1 else 0)
      let rec_ (s : State) : State := { s with hwn.bootAlarms := s.hwn.bootAlarms ++ [(i, pol)] }
      if pol = 0 then rec_ s.eraseSlots else rec_ s
    else
      let s := s.abortKeyOps stTAMPER_LOCKOUT
      let s := s.tamperLog i pol (if pol = 0 then 2 else if pol = 1 then 1 else 0)
      if pol = 0 then
        let s := (s.endRemask.dropShadows.eraseSlots).blowFuse.lockState 2
        let s := (s.sysFault 0x0B05 .contained i pol).trig 737
        { s with flt.react := s.flt.react ++ [React.coppice 0x06] }
      else if pol = 1 then
        let s := s.endRemask.dropShadows
        let s := if s.rd F.HWN_STAT_LOCK_STATE = 2 then s else s.lockState 1
        let s := (s.sysFault 0x0B05 .contained i pol).trig 737
        if s.hwn.released ∨ s.dev = .coppice then s else { s with flt.react := s.flt.react ++ [React.coppice 0x06] }
      else (s.sysFault 0x0B04 .corrected i pol).trig 736

/-- TAMPER_CONDITION_END: a sensor leaves its event condition (R478). -/
def tamperConditionEnd (t i : Nat) (s : State) : State :=
  let s := s.at_ t
  if i < 6 then s.wr F.HWN_TAMPER_STAT_ACTIVE (clrBit (s.rd F.HWN_TAMPER_STAT_ACTIVE) i) else s

end Sys2Proof.Machine
end

