-- ==== Sys2Proof/Machine/SwitchTx.lean ====
section
/-!
DEFINITION. Machine/SwitchTx.lean: the matching scheduler, egress selection, transmission, link loss, ring pairs and the
buffer audit (R245–R248, R254–R259, R277–R284).
-/
namespace Sys2Proof.Machine

/-! ## Matching (R245–R247) -/

/-- Cells of a staging queue: those that crossed and are not in a transmit context. -/
def State.staged (s : State) (p c : Nat) : Nat :=
  (s.swc.copies.filter (fun x => x.port == p && x.cls == c && !s.leaving x)).foldl (fun a x => a + x.crossed) 0

/-- The copy has cells that have not crossed, or its frame is still arriving. -/
def State.inVoq (s : State) (c : Copy) : Bool :=
  match s.frame c.fid with | some f => decide (c.crossed < f.cells) || !f.fin | none => false

/-- Two copies wait in the same VOQ. -/
def Copy.sameVoq (a b : Copy) : Bool := a.src == b.src && a.port == b.port && a.cls == b.cls

/-- The heads of the VOQs, oldest first. -/
def State.voqHeads (s : State) : List Copy :=
  (s.swc.copies.filter (fun c => s.inVoq c)).foldl (fun l c => if l.any (fun d => d.sameVoq c) then l else l ++ [c]) []

/-- A request of the scheduler: input, output, rank, and the frame at the VOQ's head. -/
structure MReq where
  i : Nat
  o : Nat
  rank : Nat
  fid : Nat
deriving DecidableEq, Repr

/-- The requests of a round: eligible VOQs, with rank above every class for a cut-through frame that continues (R246). -/
def State.requests (s : State) : List MReq :=
  (s.voqHeads.filter (fun c => (match s.frame c.fid with | some f => decide (c.crossed < f.cells) | none => false) &&
      decide (s.staged c.port c.cls < 32))).map
    (fun c => { i := c.src, o := c.port, rank := if c.cut && decide (0 < c.crossed) then 8 else c.cls, fid := c.fid })

/-- The better of two requests from a pointer, by a key: higher rank, then first at or after the pointer cyclically. -/
def better (ptr : Nat) (key : MReq → Nat) (b : Option MReq) (r : MReq) : Option MReq :=
  match b with
  | none => some r
  | some x =>
    if x.rank < r.rank then some r
    else if r.rank < x.rank then some x
    else if (key r + 28 - ptr) % 28 < (key x + 28 - ptr) % 28 then some r else some x

/-- The grants of one iteration among unmatched ports (R246). -/
def State.grants (s : State) (l : List MReq) : List MReq :=
  (List.range 28).filterMap (fun o => (l.filter (fun r => r.o == o)).foldl (better (s.swc.grant.get 0 o) (fun r => r.i)) none)

/-- The accepts of one iteration. -/
def State.accepts (s : State) (g : List MReq) : List MReq :=
  (List.range 28).filterMap (fun i => (g.filter (fun r => r.i == i)).foldl (better (s.swc.accept.get 0 i) (fun r => r.o)) none)

/-- Move the pointers for a match of the first iteration (R247). -/
def State.movePtrs (s : State) (l : List MReq) : State :=
  foldS l (fun r (s : State) => { s with swc.grant := s.swc.grant.set r.o ((r.i + 1) % 28), swc.accept := s.swc.accept.set r.i ((r.o + 1) % 28) }) s

/-- Three iterations: the matches of a round, and the pointers after it. -/
def State.matchIter : Nat → List MReq → List MReq → State → List MReq × State
  | 0, _, done, s => (done, s)
  | n + 1, l, done, s =>
    let open_ := l.filter (fun r => !done.any (fun d => d.i == r.i || d.o == r.o))
    let acc := s.accepts (s.grants open_)
    State.matchIter n l (done ++ acc) (if done = [] ∧ n = 2 then s.movePtrs acc else s)

/-- A matched pair moves the head cell of its VOQ. -/
def State.cross (s : State) (r : MReq) : State :=
  { s with swc.copies := s.swc.copies.map (fun c => if c.fid = r.fid ∧ c.port = r.o then { c with crossed := c.crossed + 1 } else c) }

/-- MATCHING_ROUND. -/
def matchingRound (t : Nat) (s : State) : State :=
  let s := s.at_ t
  let m := State.matchIter 3 s.requests [] s
  foldS m.1 (fun r s => s.cross r) m.2

/-! ## Frames at egress -/

/-- The bytes of MACsec that port `p` adds. -/
def State.secAdd (s : State) (p : Nat) : Nat :=
  if isExt p && (s.swPort p).secy.protect then (match s.txSa p with | some a => (if a.inclSci then 32 else 24) | none => 0) else 0

/-- The length of a copy on the wire at its port. -/
def State.copyLen (s : State) (c : Copy) : Nat :=
  match s.frame c.fid with
  | some f => (if f.fin then wireLen (egressBytes (s.untags f c.port) (s.remarks c.port) f c) else f.len) + s.secAdd c.port
  | none => 64

/-- A copy is available for transmission (R245). -/
def State.available (s : State) (c : Copy) : Bool :=
  !s.leaving c && (match s.frame c.fid with
    | some f => (f.fin && c.crossed == f.cells) || (c.cut && decide (0 < c.crossed))
    | none => false)

/-- The available frame at the head of a staging queue. -/
def State.headOf (s : State) (p c : Nat) : Option Copy := s.swc.copies.find? (fun x => x.port == p && x.cls == c && s.available x)

/-- A class of a port uses the preemptable MAC (R283). -/
def State.preemptable (s : State) (p c : Nat) : Bool :=
  decide (p < 16) && s.rdb (F.TSN_PRE_STAT_ACTIVE p) && bitOf (s.rd (F.TSN_PRE_CFG_PREEMPTABLE p)) c

/-- The time that `n` bytes need before their gate closes: preamble, the bytes, or the first fragment where they may be split,
and the inter-frame gap (R280, R283). -/
def State.fragNs (s : State) (p n : Nat) (pre : Bool) : Nat :=
  s.wireNs p (8 + (if pre && decide (s.minFrag p + 60 ≤ n) then s.minFrag p + 4 else n) + 12)

/-- The time a frame needs before its gate closes (R280). -/
def State.needNs (s : State) (x : Copy) : Nat := s.fragNs x.port (s.copyLen x) (s.preemptable x.port x.cls)

/-- The head of a class that could never fit into an open interval (R280). -/
def State.neverFits (s : State) (x : Copy) : Bool :=
  s.gated x.port && (match (s.gates x.port).oper with
    | some l => (match l.longest x.cls with | some n => decide (n < s.needNs x) | none => false)
    | none => false)

/-- The transmit association in use has sent its last packet number and is disabled with that frame's end: nothing else can be
protected until then (R235). -/
def State.pnSpent (s : State) (p : Nat) : Bool :=
  isExt p && (s.swPort p).secy.protect && (match s.txSa p with | some a => decide (a.lastPn < a.next) | none => false)

/-- A class is eligible (R277). -/
def State.eligible (s : State) (p c : Nat) : Bool :=
  match s.headOf p c with
  | none => false
  | some x =>
    bitOf (s.gateMask p) c && !s.pnSpent p && (match s.openFor p c with | some n => decide (s.needNs x ≤ n) | none => true) &&
    (!s.rdb (F.TSN_CBS_CBS_EN p c) || decide (0 ≤ s.tsn.credit.get 0 (qOf p c))) &&
    !(s.preemptable p c && s.rdb (F.TSN_GATE_STAT_HOLD p))

/-- The highest class that satisfies a test. -/
def topClass (f : Nat → Bool) : Option Nat := [7, 6, 5, 4, 3, 2, 1, 0].find? f

/-- The packet number of an association moves on with a frame. -/
def State.usePn (s : State) (p : Nat) (a : Sa) : State := s.modSas p (fun x => if x = a then { x with next := a.next + 1 } else x)

/-- A frame has ended: an association that has sent its last packet number is disabled (R235). -/
def State.endPn (s : State) (p : Nat) : State :=
  let spent (a : Sa) : Bool := !a.rx && a.enabled && decide (a.lastPn < a.next)
  if (s.swPort p).secy.sas.any spent then (s.modSas p (fun a => if spent a then { a with enabled := false } else a)).trig 286 else s

/-- A copy starts to leave (R248, R277). -/
def State.startTx (s : State) (x : Copy) : State :=
  match s.frame x.fid with
  | none => s
  | some f =>
    let sa := if isExt x.port && (s.swPort x.port).secy.protect then s.txSa x.port else none
    let t : Tx := { fid := x.fid, cls := x.cls, start := s.now, begun := s.now, pre := s.preemptable x.port x.cls, sa := sa, extra := s.secAdd x.port,
                    untag := s.untags f x.port, remark := s.remarks x.port }
    let s := s.setSwPort x.port { s.swPort x.port with tx := some { t with wire := s.wireOf f x t } }
    let s := match sa with | some a => s.usePn x.port a | none => s
    if x.cut then s.count x.port cCUT_THROUGH 1 else s

/-- Drop a copy with a counter of its port. -/
def State.dropFor (s : State) (i : Nat) (x : Copy) : State := (s.countDrop x.port x.cls i).dropCopy x

/-- Before a choice: frames without a transmit association and frames that never fit are dropped (R235, R280). -/
def State.weed (s : State) (p : Nat) : State :=
  let mine := s.swc.copies.filter (fun x => x.port == p && s.available x)
  if isExt p && (s.swPort p).secy.protect && (s.txSa p).isNone then foldS mine (fun x s => s.dropFor cMACSEC_TX_NO_SA x) s
  else foldS (mine.filter (fun x => s.neverFits x)) (fun x s => s.dropFor cLATE_DROP x) s

/-- The rest of an interrupted frame, or its next fragment, ends before its gate closes (R280). -/
def State.restFits (s : State) (p : Nat) (x : Tx) : Bool :=
  match s.openFor p x.cls with
  | some n => decide (s.fragNs p (s.txLen x - x.sent) true ≤ n)
  | none => true

/-- Choose and start a frame at an idle port (R277, R284). -/
def State.choose (s : State) (p : Nat) : State :=
  let s := s.weed p
  let start (c : Nat) : State := match s.headOf p c with | some x => s.startTx x | none => s
  match (s.swPort p).heldTx with
  | none => (match topClass (fun c => s.eligible p c) with | some c => start c | none => s)
  | some h =>
    match topClass (fun c => !s.preemptable p c && s.eligible p c) with
    | some c => start c
    | none =>
      if bitOf (s.gateMask p) h.cls && !s.rdb (F.TSN_GATE_STAT_HOLD p) && s.restFits p h then
        s.setSwPort p { s.swPort p with tx := some { h with start := s.now }, heldTx := none }
      else s

/-- TRANSMIT_OPPORTUNITY of a port (R277, R284; R232 for PLCA). -/
def transmitOpportunity (t p : Nat) (s : State) : State :=
  let s := s.swAt t
  if s.portOn p && s.linkUp p && decide (p < 28) then
    let s := s.setSwPort p { s.swPort p with burst := if s.rdb (F.SWC_PORT_CFG1_PLCA_EN p) then s.rd (F.SWC_PORT_CFG1_BURST_CNT p) else 0 }
    match (s.swPort p).tx with
    | none => s.choose p
    | some x =>
      let sent := s.sentBytes p x
      if x.pre && (s.swPort p).heldTx.isNone && decide (s.minFrag p ≤ sent - x.sent) && decide (sent + 60 ≤ s.txLen x) then
        (match topClass (fun c => !s.preemptable p c && s.eligible p c) with
         | some _ => (s.splitTx p sent x).choose p
         | none => s)
      else s
  else s

/-! ## Ring pairs on I1 and I2 (R244, R258, R259) -/

/-- The holder of a ring pair as an identity: 0–15, 16 the secure world, 17 none. -/
def State.ringHolder (s : State) (r : Nat) : Nat := s.shareOf (s.rd (F.SWC_RING_CTL_HOLDER r))

/-- Place a frame on a receive ring, or drop that ring's copy as DROP_SHARE (R244, R258, R259). -/
def State.placeRx (s : State) (p : Nat) (f : Frame) (b : List Byte) (r : Nat) : State :=
  let i := s.rd (F.SWC_RING_RX_DONE_CNT r)
  let a := s.rxDesc r i
  let addr := natLE (s.load a 5)
  let size := natLE (s.load (a + 6) 2)
  let h := s.ringHolder r
  if i = s.rd (F.SWC_RING_RX_FILL_CNT r) ∨ size < b.length ∨ s.rd (F.SWC_SHARE_SHARE h) < s.rd (F.SWC_SHARE_USED h) + f.cells ∨
     s.ringRange h addr b.length = false ∨ s.admitsAll h .store addr b.length = false then s.countDrop p f.cls cDROP_SHARE
  else
    let s := ((s.store addr b).dramCharge h addr b.length).dramCharge h a 16
    let s := (s.store (a + 5) (bytesLE 1 (f.src + 32 * f.cls))).store (a + 6) (bytesLE 2 b.length ++ bytesLE 8 f.sfd)
    let s := s.inc (F.SWC_RING_RX_DONE_CNT r)
    if s.rdb (F.SWC_RING_CTL_RX_IRQ_EN r) then s.trig (129 + 2 * r) else s

/-- A partition reset has cleared a ring pair since an instant (R258). -/
def State.ringReset (s : State) (enq r : Nat) : Bool := match s.swc.ringOff.get none r with | some u => decide (enq ≤ u) | none => false

/-- Ring pairs of a port that a partition reset has cleared since an instant, in service again or not (R258). -/
def State.ringsReset (s : State) (p enq : Nat) : List Nat := (List.range 64).filter (fun r => (s.ringPort r == p) && s.ringReset enq r)

/-- A frame leaves I1 or I2: it goes to every ring pair that it is for; for a pair that a partition reset has cleared while the
frame waited it is dropped as DROP_SHARE (R258). -/
def State.toRings (s : State) (p : Nat) (f : Frame) (b : List Byte) (enq : Nat) : State :=
  let goes (r : Nat) : Bool := (f.flood || s.ringHolds r (dstMac b)) && (match f.ring with | some (k, _) => k != r | none => true)
  foldS ((s.ringsReset p enq).filter goes) (fun _ s => s.countDrop p f.cls cDROP_SHARE)
    (foldS ((s.ringsOn p).filter (fun r => goes r && !s.ringReset enq r)) (fun r s => s.placeRx p f b r) s)

/-- The fast path is disabled: COPPICE, and FAULT by FATAL (R260, R289, R499). -/
def State.faDark (s : State) : Bool := s.dev == .coppice || (s.dev == .fault && s.rd F.FLT_STAT_ENTRY == 2)

/-- A frame classified as fast actuation reaches the fast path in I4: it waits, or is dropped with OVERFLOW (R289, R292). -/
def State.toFast (s : State) (f : Frame) (b : List Byte) : State :=
  if f.fast = false ∨ s.faDark = true then s
  else if s.tsn.waiting.length < 8 then { s with tsn.waiting := s.tsn.waiting ++ [{ tIn := f.sfd, bytes := b, cls := f.cls }] }
  else
    let snd := min 64 (beAt b (typeOff b + 4) 2)
    ({ s with tsn.faCnt := s.tsn.faCnt.set (16 * snd + 9) (wrap32 (s.tsn.faCnt.get 0 (16 * snd + 9) + 1)) }).trig 290

/-- A frame leaves I3 towards the network I/O island: a container for this unit waits for the gateway (R348), a Hedgerow
frame for the root (R398). -/
def State.toI3 (s : State) (b : List Byte) : State :=
  if !(dstMac b == Config.unitMac || bitOf (dstMac b) 40) then s
  else if frameType b = s.rd ⟨R.GWY_ETYPE, 0, 16⟩ then { s with gwy.waiting := s.gwy.waiting ++ [b.drop (typeOff b + 2)] }
  else if frameType b = s.rd ⟨R.HDG_ETYPE, 0, 16⟩ then { s with hdg.inEth := s.hdg.inEth ++ [b] }
  else s

/-- A copy has left its port whole (R242, R259). -/
def State.leave (s : State) (p : Nat) (x : Tx) : State :=
  match s.frame x.fid, s.swc.copies.find? (fun c => c.fid == x.fid && c.port == p) with
  | some f, some c =>
    let n := s.txLen x
    let s := if x.stomp then s else
      let s := (s.count p cTX_FRAMES 1).count p cTX_BYTES n
      let s := s.modFrame x.fid (fun y => { y with leftAt := some (y.leftAt.getD (x.begun + s.wireNs p 8)) })
      if p = 24 ∨ p = 25 then s.toRings p f x.wire c.enq else if p = 26 then s.toI3 x.wire else if p = 27 then s.toFast f x.wire else s
    s.dropCopy c
  | _, _ => s

/-- A frame boundary of a port: shaper words that waited for it take effect (R282). -/
def State.takeSlopes (s : State) (p : Nat) : State :=
  foldS ((List.range 8).map (fun c => qOf p c)) (fun q (s : State) =>
    match s.tsn.slopeWant.get none q with
    | some w => ({ s with tsn.slopeWant := s.tsn.slopeWant.erase q }).setWord (R.TSN_CBS p (q % 8)) (BitVec.ofNat 32 w)
    | none => s) s

/-- FRAME_TRANSMIT_COMPLETE of a port: its frame has left once its last byte is due (R248, R259, R284). -/
def frameTransmitComplete (t p : Nat) (s : State) : State :=
  let s := s.swAt t
  match (s.swPort p).tx with
  | none => s
  | some x =>
    let whole := match s.frame x.fid with | some f => f.fin | none => true
    if whole && decide (x.start + s.wireNs p (8 + s.txLen x - x.sent) ≤ s.now) then
      let s := if 0 < x.sent then s.inc (F.TSN_PRE_STAT_FRAGS p) else s
      let s := s.leave p x
      let s := ((s.setSwPort p { s.swPort p with tx := none }).takeSlopes p).endPn p
      let b := (s.swPort p).burst
      if s.rdb (F.SWC_PORT_CFG1_PLCA_EN p) && decide (0 < b) then (s.setSwPort p { s.swPort p with burst := b - 1 }).choose p else s
    else s

/-! ## Link loss and the flap hold (R255) -/

/-- Flush a port: every frame queued for it is dropped in FLAP_FLUSH, and its dynamic entries go (R240, R255). -/
def State.flushPort (s : State) (p : Nat) : State :=
  let s := foldS (s.swc.copies.filter (fun c => c.port == p)) (fun c s =>
    (s.modFrame c.fid (fun f => { f with flushed := true })).dropFor cFLAP_FLUSH c) s
  let s := s.setSwPort p { s.swPort p with holdEnd := none }
  ((s.wrb (F.SWC_PORT_STAT_HOLDING p) false).wrb (F.SWC_PORT_STAT_FLUSHED p) true).forgetPort p

/-- The frame of a transmit context is lost (R255). -/
def State.abortTx (s : State) (p : Nat) (x : Option Tx) : State :=
  match x with
  | none => s
  | some x =>
    match s.swc.copies.find? (fun c => c.fid == x.fid && c.port == p) with
    | some c => s.dropFor cTX_ABORT c
    | none => s

/-- A port's reception ends with its link: a frame that is not already found bad is (R253). -/
def State.abortRx (s : State) (p : Nat) : State :=
  let f := (s.swPort p).rx.bind (fun r => if r.dead then none else r.fid)
  let s := s.setRx p none
  match f with | some f => s.spoil f none | none => s

/-- LINK_DOWN of an external port (R255, R276, R284). -/
def linkDown (t p : Nat) (s : State) : State :=
  let s := s.swAt t
  if isExt p && s.rdb (F.SWC_PORT_STAT_LINK p) then
    let x := s.swPort p
    let s := s.setSwPort p { x with tx := none, heldTx := none, linkAt := s.now, holdEnd := some (s.now + ms (s.rd (F.SWC_PORT_CFG0_FLAP_HOLD p))) }
    let s := ((((s.abortTx p x.tx).abortTx p x.heldTx).abortRx p).takeSlopes p).endPn p
    let s := (s.wrb (F.SWC_PORT_STAT_LINK p) false).sat (F.SWC_PORT_STAT_DOWNS p) 1
    let s := s.wr (F.SWC_PORT_STAT_SPEED p) 0
    let s := if p < 16 then (s.wr (F.TSN_PRE_STAT_VERIFY_STATUS p) 0).wrb (F.TSN_PRE_STAT_ACTIVE p) false else s
    let s := foldS [p, 32 + p, 64 + p] (fun k (s : State) => { s with tsn.gports := s.tsn.gports.set k { s.tsn.gports.get {} k with asCap := false } }) s
    let s := (s.wrb (F.SWC_PORT_STAT_HOLDING p) true).trig (256 + p)
    if s.rd (F.SWC_PORT_CFG0_FLAP_HOLD p) = 0 then s.flushPort p else s
  else s

/-- Frames of gated queues whose window has ended are dropped (R255). -/
def State.dropLate (s : State) (p : Nat) : State :=
  if s.gated p then
    match (s.gates p).oper with
    | some l =>
      foldS (s.swc.copies.filter (fun c => c.port == p && (match l.windowEnd c.cls c.enq with | some e => decide (e ≤ s.now) | none => false)))
        (fun c s => s.dropFor cLATE_DROP c) s
    | none => s
  else s

/-- Verification of preemption begins with the link (R283). -/
def State.startVerify (s : State) (p : Nat) : State :=
  if p < 16 ∧ s.rdb (F.TSN_PRE_CFG_PREEMPT_EN p) = true then
    if s.rdb (F.TSN_PRE_CFG_VERIFY_DIS p) then (s.wr (F.TSN_PRE_STAT_VERIFY_STATUS p) 4).wrb (F.TSN_PRE_STAT_ACTIVE p) true
    else { s.wr (F.TSN_PRE_STAT_VERIFY_STATUS p) 1 with tsn.verify := s.tsn.verify.set p 0, tsn.verifyAt := s.tsn.verifyAt.set p s.now }
  else s

/-- LINK_UP of an external port (R231, R255). -/
def linkUpEvent (t p : Nat) (s : State) : State :=
  let s := s.swAt t
  if isExt p && s.portOn p && !s.rdb (F.SWC_PORT_STAT_LINK p) && !s.slp.ethAsleep.contains p then
    let s := match (s.swPort p).holdEnd with
      | some e => if s.now ≤ e then s.dropLate p else s.flushPort p
      | none => s
    let s := s.setSwPort p { s.swPort p with linkAt := s.now, holdEnd := none }
    let s := (s.wrb (F.SWC_PORT_STAT_HOLDING p) false).wrb (F.SWC_PORT_STAT_FLUSHED p) false
    let s := (s.wrb (F.SWC_PORT_STAT_LINK p) true).wr (F.SWC_PORT_STAT_SPEED p) (s.rd (F.SWC_PORT_CFG0_MODE p))
    (s.startVerify p).trig (256 + p)
  else s

/-- FLAP_HOLD_EXPIRY: the link has not come back (R255). -/
def flapHoldExpiry (t p : Nat) (s : State) : State :=
  let s := s.swAt t
  match (s.swPort p).holdEnd with
  | some e => if e ≤ s.now then s.flushPort p else s
  | none => s

/-- PREEMPT_VERIFY_TIMER: an attempt succeeds; or VERIFY_TIME has passed since it began and it has failed, the third one for
good (R283). -/
def preemptVerifyTimer (t p : Nat) (ok : Bool) (s : State) : State :=
  let s := s.at_ t
  if p < 16 ∧ s.rd (F.TSN_PRE_STAT_VERIFY_STATUS p) = 1 then
    if ok then (s.wr (F.TSN_PRE_STAT_VERIFY_STATUS p) 2).wrb (F.TSN_PRE_STAT_ACTIVE p) true
    else if s.now < s.tsn.verifyAt.get 0 p + ms (s.rd (F.TSN_PRE_CFG_VERIFY_TIME p)) then s
    else
      let n := s.tsn.verify.get 0 p + 1
      let s := { s with tsn.verify := s.tsn.verify.set p n, tsn.verifyAt := s.tsn.verifyAt.set p s.now }
      if 3 ≤ n then (s.wr (F.TSN_PRE_STAT_VERIFY_STATUS p) 3).trig 293 else s
  else s

/-! ## Ring registers (R258, R259) -/

/-- An access reaches ring pair `r` with the identity of its holder (R258). -/
def State.holdsRing (s : State) (a : Acc) (r : Nat) : Bool :=
  let h := s.rd (F.SWC_RING_CTL_HOLDER r)
  !a.dev && (if 0x18 ≤ h then 8 ≤ a.master && a.master < 16 && (h == 0x18 + (a.master - 8)) else if h = 0x10 then a.sec else !a.sec && a.part == h)

/-- The checks of R52 with the rings of a pair (R258). -/
def State.ringOk (s : State) (r : Nat) : Bool :=
  let n := 16 * s.ringSize r
  let h := s.ringHolder r
  let ok (a : Nat) : Bool := s.ringRange h a n && s.admitsAll h .load a n && s.admitsAll h .store a n
  ok (s.txBase r) && ok (s.rxBase r) && (decide (s.txBase r + n ≤ s.rxBase r) || decide (s.rxBase r + n ≤ s.txBase r))

/-- Descriptors taken and not completed. -/
def State.ringBusy (s : State) (r : Nat) : Bool := s.swc.taken.get 0 r != s.rd (F.SWC_RING_TX_DONE_CNT r)

/-- A write of SWC_RINGr_CTL by its holder: SIZE while ENABLE is 0, the interrupt enables, and ENABLE by R52 and R55. -/
def State.ringCtl (s : State) (r v : Nat) : State :=
  let was := s.rdb (F.SWC_RING_CTL_ENABLE r)
  let s := if was then s else s.wr (F.SWC_RING_CTL_SIZE r) (bitsOf v 4 3)
  let s := (s.wr (F.SWC_RING_CTL_TX_IRQ_EN r) (bitsOf v 1 1)).wr (F.SWC_RING_CTL_RX_IRQ_EN r) (bitsOf v 2 1)
  if bitOf v 0 then
    if s.ringBusy r then s
    else
      let s := foldS [F.SWC_RING_TX_PROD_PROD r, F.SWC_RING_TX_DONE_CNT r, F.SWC_RING_RX_FILL_CNT r, F.SWC_RING_RX_DONE_CNT r] (fun f s => s.wr f 0) s
      let s := { s with swc.taken := s.swc.taken.set r 0 }
      s.wrb (F.SWC_RING_CTL_ENABLE r) (s.ringOk r && s.rd (F.SWC_RING_CTL_SIZE r) != 7)
  else s.wrb (F.SWC_RING_CTL_ENABLE r) false

/-- A write of TX_PROD or RX_FILL within the limits of R51; a write beyond them is ignored. -/
def State.ringAdvance (s : State) (r : Nat) (f done : Fld) (v : Nat) : State :=
  let cur := (s.rd f + 65536 - s.rd done) % 65536
  let nxt := (v % 65536 + 65536 - s.rd done) % 65536
  if cur ≤ nxt ∧ nxt ≤ s.ringSize r then s.wr f v else s

/-- TX_DESCRIPTOR_TAKE: the next posted transmit descriptor is taken once the holder's share has room (R244, R259). -/
def txDescriptorTake (t r : Nat) (s : State) : State :=
  let s := s.swAt t
  let i := s.swc.taken.get 0 r
  if r < 64 ∧ s.rdb (F.SWC_RING_CTL_ENABLE r) = true ∧ i ≠ s.rd (F.SWC_RING_TX_PROD_PROD r) then
    let a := s.txDesc r i
    let addr := natLE (s.load a 5)
    let len := natLE (s.load (a + 6) 2)
    let txf := natLE (s.load (a + 8) 1)
    let h := s.ringHolder r
    let p := s.ringPort r
    let take (s : State) : State := { s.dramCharge h a 16 with swc.taken := s.swc.taken.set r ((i + 1) % 65536) }
    if s.ringRange h addr len = false ∨ s.admitsAll h .load addr len = false then (take s).completeTx r i 0x03 0
    else if s.rd (F.SWC_SHARE_SHARE h) < s.rd (F.SWC_SHARE_USED h) + cellsOf len then s
    else if s.portOn p = false ∨ txf / 32 ≠ 0 then (take s).completeTx r i 0x02 0
    else if len < 60 then ((take s).count p cRX_RUNT 1).completeTx r i 0x02 0
    else if s.maxFrame p < len + 4 then ((take s).count p cRX_OVERSIZE 1).completeTx r i 0x02 0
    else
      let s := (((take s).dramCharge h addr len).count p cRX_FRAMES 1).count p cRX_BYTES (len + 4)
      let f : Frame := { fid := 0, src := p, ring := some (r, i), charge := some h, bytes := s.load addr len, len := len + 4, sfd := s.now, tstamp := bitOf txf 4 }
      let e := s.ingress f (if bitOf txf 3 then some (txf % 8) else none) (cellsOf (len + 4)) false
      match e.1 with
      | some _ => e.2
      | none => e.2.completeTx r i 0x02 0
  else s

/-! ## Buffer audit (R256, R257) -/

/-- BUFFER_AUDIT_SNAPSHOT with the number of cells that the snapshot counts: free, referenced and arriving. -/
def State.auditSnapshot (s : State) (total : Nat) : State :=
  let s := { s with swc.snaps := wrap32 (s.swc.snaps + 1) }
  if total = 65536 then { s.wrb F.SWC_AUDIT_STAT_LAST_MISS false with swc.missRun := 0 }
  else
    let s := ((s.wrb F.SWC_AUDIT_STAT_LAST_MISS true).sat F.SWC_AUDIT_STAT_MISSES 1).trig 284
    { s with swc.missRun := s.swc.missRun + 1 }

end Sys2Proof.Machine
end

