-- ==== Sys2Proof/Machine/Sleep.lean ====
section
/-!
DEFINITION. Machine/Sleep.lean: readiness, commit and sleep entry (R359–R365), wake sources (R366–R374).
-/
namespace Sys2Proof.Machine

/-! ## Readiness (R361) -/

/-- The votes of WAK_STAT: bits of non-voters read 1. -/
def State.votes (s : State) : Nat := s.rd F.WAK_STAT_VOTES ||| (0x1FFFF - s.slp.voters % 2 ^ 17)

/-- The active overlay permits sleep (R511); with no overlay active, none does (DESIGN CHOICE, assumption 58). -/
def State.ovlOk (s : State) : Bool :=
  let n := s.rd F.CFG_STAT_OVERLAY
  if n = 0 ∨ n = 5 then true else if n = 1 ∨ (7 ≤ n ∧ n < 16) then (s.overlay n).sleepOk else false

/-- WAKE_IN is at its active level, by WAKE_POL (R368). -/
def State.wakeActive (s : State) : Bool := s.slp.wakeIn != s.rdb F.WAK_CFG0_WAKE_POL

/-- The filter time of both line inputs (R368). -/
def State.wakeFilt (s : State) : Nat := us (50 * s.rd F.WAK_CFG0_WAKE_FILT)

/-- The line inputs take these levels: since when, and since when both are inactive (R368, R376). -/
def State.setLines (s : State) (wakeIn ign : Bool) : State :=
  let was := s.wakeActive || s.slp.ign
  let x := s.slp
  let s : State := { s with slp.wakeIn := wakeIn, slp.ign := ign, slp.wakeSince := if wakeIn = x.wakeIn then x.wakeSince else s.now,
                            slp.ignSince := if ign = x.ign then x.ignSince else s.now }
  if was && !(s.wakeActive || ign) then { s with slp.lineAt := s.now } else s

/-- No armed or gating line input is active. -/
def State.linesOk (s : State) : Bool :=
  !(s.rdb F.WAK_ARM_ARM_WAKE && !s.rdb F.WAK_CFG0_WAKE_EDGE && s.wakeActive) &&
  !((s.rdb F.WAK_ARM_ARM_IGN || s.rdb F.WAK_CFG0_IGN_GATE) && s.slp.ign)

/-- No maintenance activity runs or is queued. -/
def State.maintOk (s : State) : Bool := s.cfg.mq.isEmpty && s.cfg.mrun.isEmpty

/-- The unit takes part in chain sleep. -/
def State.chainSleeps (s : State) : Bool := (s.rd F.HDG_CFG_ROLE == 1 || s.rd F.HDG_CFG_ROLE == 2) && s.rdb F.HDG_CFG_CHAIN_SLEEP

/-- The chain agrees (R361, R395); a CUT or PROVISIONAL member sleeps by its own readiness (R396). -/
def State.chainOk (s : State) : Bool :=
  !s.chainSleeps ||
  (if s.rd F.HDG_CFG_ROLE = 1 then s.rdb F.HDG_STAT_READY_DN || !s.rdb F.HDG_STAT_DN_LINK
   else [1, 3, 5].contains (s.rd F.HDG_STAT_STATE))

/-- The unit's own conditions, without the chain's (R395). -/
def State.ownReady (s : State) : Bool :=
  s.dev == .running && (s.votes == 0x1FFFF) && s.ovlOk && s.maintOk && s.linesOk

/-- The module is ready to sleep. -/
def State.ready (s : State) : Bool := s.ownReady && s.chainOk

/-- The chain's root names the commit instant: at every member but a CUT or PROVISIONAL one (R362, R396). -/
def State.chainNames (s : State) : Bool := s.chainSleeps && s.rd F.HDG_CFG_ROLE == 2 && [2, 3, 4].contains (s.rd F.HDG_STAT_STATE)

/-- The phase follows readiness until the commit (R362, R377). -/
def State.sleepPhase (s : State) : State :=
  let p := s.phase
  if p = 2 ∨ s.ready = (p == 1) then s
  else
    let s := (s.wr F.WAK_STAT_PHASE (1 - p)).trig 704
    if p = 0 then { s with slp.readyAt := s.now }
    else if s.chainNames then s
    else { s with hdg.commitAt := none, hdg.outDn := if s.rd F.HDG_CFG_ROLE = 1 then s.hdg.outDn.filter (fun f => f.ty != 7) else s.hdg.outDn }

/-- CAN channels that would decode (R359). -/
def State.decoders (s : State) : List Nat := (List.range 16).filter (fun c => (s.slp.swk.get {} c).decode && s.swkRate c)

/-- WAK_STAT as it reads. -/
def State.wakStat (s : State) : Word :=
  let w := s.word R.WAK_STAT
  let w := w.withField 29 1 (b2n (!s.decoders.isEmpty && s.dev != .coppice))
  let w := w.withField 28 1 (b2n s.ovlOk)
  let w := w.withField 27 1 (b2n s.linesOk)
  let w := w.withField 26 1 (b2n s.maintOk)
  let w := w.withField 25 1 (b2n (s.dev == .running && s.chainOk))
  w.withField 0 17 s.votes

/-! ## Commit (R362, R363) -/

/-- An object's queued edges are discarded, its standing charge ends and it takes CMD OFF or COAST; where it is on, or turning on, its
turn-off edge falls due at the next grid instant (R363). -/
def State.sleepObject (s : State) (x : Nat) : State :=
  let o := s.obj x
  let s := s.modObj x (fun o => { o with edges := [], ints := [], heldEdges := [], lates := [], wantSafe := none, holdEnd := none })
  let s := foldS o.edges (fun e s => s.answerEdge x e stMODE_FORBIDS) s
  let on := o.cmd != 0 || (match o.trans with | some t => t.target != 0 | none => false)
  let s := if on then { s with slp.offList := s.slp.offList ++ [x] } else s
  (s.modObj x (fun o => { o with cmd := 0 })).dropStanding x

/-- The wake latches are armed and cleared (R366, R367). -/
def State.armWake (s : State) (arm armEth : Nat) : State :=
  let s := ((s.setWord R.WAK_CAUSE 0xF00).setWord R.WAK_CAUSE_CAN 0).setWord R.WAK_CAUSE_NET 0
  { s.setPair R.WAK_FIRST_LO R.WAK_FIRST_HI 0 with slp.arm := arm, slp.armEth := armEth }

/-- An alarm that has passed at t_commit is latched then (R374). -/
def State.commitAlarms (s : State) : State :=
  if bitOf s.slp.arm 29 then
    foldS ((List.range 17).filter (fun v => s.slp.alarms.get 0 v != 0 && decide (s.slp.alarms.get 0 v ≤ s.now))) (fun v s =>
      ({ s with slp.alarms := s.slp.alarms.erase v }).wakeLatch 2) s
  else s

/-- The commit (R363): with `arm` and `armEth` armed and these channels decoding. -/
def State.sleepCommit (s : State) (at_ arm armEth : Nat) (dec : List Nat) : State :=
  let s := { (s.wr F.WAK_STAT_PHASE 2).trig 705 with slp.tCommit := at_, slp.prepped := false, slp.offList := [], hdg.commitAt := none }
  let s := (s.armWake arm armEth).dropSwitch.stopVerify
  let s := s.cycStop false
  let s := foldS s.tops (fun x s => s.sleepObject x) s
  let s := foldS (List.range 16) (fun c s => s.canSleepCommit c) s
  let s := { s with slp.linSleep := (List.range 8).filter (fun c => s.rdb (F.LIN_CTL_ENABLE c) && !(s.lin_ c).asleep),
                    slp.decoding := s.slp.decoding.filter (fun c => dec.contains c),
                    slp.tc10 := (List.range 16).filter (fun p => s.rdb (F.SWC_PORT_STAT_LINK p)) }
  let s := foldS dec (fun c s => s.startDecoding c) s
  s.commitAlarms

/-- The commit of R362. -/
def State.commitNow (s : State) (at_ : Nat) : State :=
  s.sleepCommit at_ (s.wordN R.WAK_ARM) (s.rd F.WAK_ARM_ETH_ARM_ETH) s.decoders

/-- The first grid instant at or after `t`. -/
def gridAt (t : Nat) : Nat := ceilTo (us 250) t

/-- The end of READY_DLY (R362). -/
def State.readyEnd (s : State) : Nat := s.slp.readyAt + ms (s.rd F.WAK_CFG0_READY_DLY)

/-- READY_DLY_EXPIRY (R362, R396): the commit at the grid instant, at the instant that the root named, or at a root the
COMMIT frame first, which names the instant when it is sent (`State.sendCommit`). -/
def readyDlyExpiry (t : Nat) (s : State) : State :=
  let s := s.at_ t
  match s.hdg.commitAt with
  | some u => if (s.phase = 1 ∨ (s.chainNames = true ∧ s.phase = 0)) ∧ u ≤ s.now ∧ s.dev = .running then s.commitNow u else s
  | none =>
    if s.phase = 1 ∧ s.readyEnd ≤ s.now ∧ s.chainNames = false then
      (if s.chainSleeps && s.rd F.HDG_CFG_ROLE == 1 && s.rdb F.HDG_STAT_DN_LINK then
        if s.hdg.outDn.any (fun f => f.ty == 7) then s
        else
          let f := s.hdgSeal { ty := 7, dst := s.rd F.HDG_STAT_NODE / 64 * 64 + 63, payload := bytesBE 8 0 }
          f.2.sendDn f.1
       else if gridAt s.readyEnd ≤ s.now then s.commitNow (gridAt s.readyEnd) else s)
    else s

/-- The turn-off edge of an object after the commit (R363). -/
def State.sleepEdge (s : State) (x : Nat) : State :=
  if s.slp.offList.contains x && decide (gridAt (s.slp.tCommit + 1) ≤ s.now) then
    (({ s with slp.offList := s.slp.offList.filter (fun y => y != x) }).modObj x (fun o => { o with cmd := 1 })).setCmd x 0 false
  else s

/-- A port is forced into wake detection: its link goes down with FLAP_HOLD taken as 0 (R373). -/
def State.ethSleep (s : State) (p : Nat) : State :=
  let s := if s.rdb (F.SWC_PORT_STAT_LINK p) then (linkDown s.now p s).flushPort p else s
  { s with slp.tc10 := s.slp.tc10.filter (fun q => q != p), slp.ethAsleep := if s.slp.ethAsleep.contains p then s.slp.ethAsleep else p :: s.slp.ethAsleep }

/-- PREP_MS_EXPIRY (R363, R364): the compute islands stop: retained writes and a final energy record are committed, frames
still leaving a port are cut off, open TC10 handshakes are forced down, and commands in flight get no response. -/
def prepMsExpiry (t : Nat) (s : State) : State :=
  let s := s.at_ t
  if s.phase = 2 ∧ s.slp.prepped = false ∧ (s.slp.tCommit + ms (s.rd F.WAK_CFG0_PREP_MS) ≤ s.now) then
    let s := foldS ((List.range 24).filter (fun k => (s.task k).retBusy)) (fun k s => retainedWriteComplete s.now k s) s
    let s := s.logEnergy
    let s := foldS ((List.range 28).filter (fun p => (s.swPort p).tx.isSome || (s.swPort p).heldTx.isSome)) (fun p s =>
      let x := s.swPort p
      ((s.abortTx p x.tx).abortTx p x.heldTx).setSwPort p { s.swPort p with tx := none, heldTx := none }) s
    let s := foldS s.slp.tc10 (fun p s => s.ethSleep p) s
    { s with slp.prepped := true, mbx.cmds := [], boot.privetCmds := [] }
  else s

/-! ## Wake sources (R366–R374) -/

/-- A level of a line has been held for WAKE_FILT, by the instant of its last change where that was reported before; an event that brings
the change itself says that its filter has run (R368, DESIGN CHOICE, assumption 165). -/
def State.lineHeld (s : State) (seen : Bool) (since : Nat) : Bool := !seen || decide (since + s.wakeFilt ≤ s.now)

/-- WAKE_IN_EVENT: the line has had this level for WAKE_FILT. In level mode it must be the active one; with WAKE_EDGE the change must
have met its criterion since t_commit (R367, R368). -/
def wakeInEvent (t : Nat) (level : Bool) (s : State) : State :=
  let s := s.at_ t
  let seen := s.slp.wakeIn == level
  let held := s.lineHeld seen s.slp.wakeSince
  let s := if seen then s else { s.setLines level s.slp.ign with slp.wakeSince := s.now - s.wakeFilt }
  let hit := if s.rdb F.WAK_CFG0_WAKE_EDGE then decide (s.slp.tCommit ≤ s.slp.wakeSince + s.wakeFilt) else s.wakeActive
  if s.latching && bitOf s.slp.arm 31 && held && hit then s.wakeLatch 0 else s

/-- IGN_SENSE_EVENT: the input has had this level for WAKE_FILT (R368). -/
def ignSenseEvent (t : Nat) (level : Bool) (s : State) : State :=
  let s := s.at_ t
  let seen := s.slp.ign == level
  let held := s.lineHeld seen s.slp.ignSince
  let s := if seen then s else { s.setLines s.slp.wakeIn level with slp.ignSince := s.now - s.wakeFilt }
  if s.latching && bitOf s.slp.arm 30 && held && level then s.wakeLatch 1 else s

/-- RTC_ALARM of voter `v` (R374). -/
def rtcAlarm (t v : Nat) (s : State) : State :=
  let s := s.at_ t
  let a := s.slp.alarms.get 0 v
  if a = 0 ∨ s.now < a then s
  else if s.latching then
    (if bitOf s.slp.arm 29 then ({ s with slp.alarms := s.slp.alarms.erase v }).wakeLatch 2 else s)
  else ({ s with slp.alarms := s.slp.alarms.erase v }).trig 706

/-- CAN_WAKE_PATTERN (R367, R371). -/
def canWakePattern (t c : Nat) (s : State) : State :=
  let s := s.at_ t
  if c < 16 ∧ s.decodes c = false then s.canWakeEvent c false else s

/-- CAN_WAKE_FRAME: a frame on a decoding channel (R370). -/
def canWakeFrame (t c : Nat) (f : CanFrame) (s : State) : State :=
  let s := s.at_ t
  if c < 16 ∧ s.decodes c = true then s.swkFrame c f else s

/-- CAN_FEC_OVERFLOW: the frame error that takes FEC to 32 (R370). -/
def canFecOverflow (t c : Nat) (s : State) : State :=
  let s := s.at_ t
  if c < 16 ∧ s.decodes c = true ∧ s.slp.fec.get 0 c = 31 then s.swkError c else s

/-- LIN_WAKE_DOMINANT: a dominant level of 150 µs or more, not driven by the channel, that ends at `fin` (R372). -/
def linWakeDominant (t c fin : Nat) (s : State) : State :=
  let s := s.at_ t
  if 8 ≤ c then s
  else if s.latching then
    (if bitOf s.slp.arm (16 + c) then (s.wr F.WAK_CAUSE_NET_LIN (setBit (s.rd F.WAK_CAUSE_NET_LIN) c)).wakeLatch 5 else s)
  else if (s.lin_ c).asleep then s.linWake c (max s.now fin) else s

/-- ETH_TC10_WAKE (R373). -/
def ethTc10Wake (t p : Nat) (s : State) : State :=
  let s := s.at_ t
  if 16 ≤ p then s
  else if s.latching then
    (if bitOf s.slp.armEth p then (s.wr F.WAK_CAUSE_NET_ETH (setBit (s.rd F.WAK_CAUSE_NET_ETH) p)).wakeLatch 6 else s)
  else { s with slp.ethAsleep := s.slp.ethAsleep.filter (fun q => q != p) }

/-- CHAIN_WAKE_PULSE on a Hedgerow port (R394): latched while sleeping or starting. -/
def chainWakePulse (t : Nat) (_up : Bool) (s : State) : State :=
  let s := s.at_ t
  if (s.latching && bitOf s.slp.arm 28) || (s.dev == .starting && s.rdb F.WAK_ARM_ARM_CHAIN) then s.wakeLatch 7 else s

/-- TC10_HANDSHAKE_COMPLETE: with `ok` the link goes down; a refusal leaves it up while the module runs (R373). -/
def tc10HandshakeComplete (t p : Nat) (ok : Bool) (s : State) : State :=
  let s := s.at_ t
  if s.slp.tc10.contains p then
    (if ok then s.ethSleep p else if s.phase = 2 then s else { s with slp.tc10 := s.slp.tc10.filter (fun q => q != p) })
  else s

/-- WAKE_OUT_PULSE_END (R369). -/
def wakeOutPulseEnd (t : Nat) (s : State) : State :=
  let s := s.at_ t
  match s.slp.woutEnd with
  | some u => if u ≤ s.now then { s with slp.wakeOut := false, slp.woutEnd := none } else s
  | none => s

/-- COPPICE_SLEEP_COMMIT (R376): only WAKE_IN, IGN_SENSE, CHAIN and CAN0 are armed, and the depth is DEEP. -/
def coppiceSleepCommit (t : Nat) (s : State) : State :=
  let s := s.at_ t
  if s.dev = .coppice ∧ s.phase ≠ 2 ∧ s.wakeActive = false ∧ s.slp.ign = false ∧ s.slp.lineAt + sec 600 ≤ s.now ∧ s.slp.can0At + sec 60 ≤ s.now then
    s.sleepCommit s.now (2 ^ 31 + 2 ^ 30 + 2 ^ 28 + 1) 0 []
  else s

/-- A FATAL fault ends the entry (R365): the causes latched until then are kept, with ABORTED; only channels that sleep alone go on
decoding. An object that is still turning on takes its turn-off edge after that. -/
def State.sleepAbort (s : State) : State :=
  if s.phase = 2 ∧ s.dev ≠ .sleep then
    let s := foldS (s.slp.offList.filter (fun x => (s.obj x).trans.isSome)) (fun x s => s.lateFor x 0) s
    { ((s.wr F.WAK_STAT_PHASE 0).wrb F.WAK_CAUSE_ABORTED true) with slp.prepped := false, slp.offList := [], slp.decoding := s.slp.decoding.filter (fun c => s.rd (F.CAN_STAT_STATE c) == 5), slp.linSleep := [], slp.tc10 := [] }
  else s

end Sys2Proof.Machine
end

