-- ==== Sys2Proof/Machine/SleepCmds.lean ====
section
/-!
DEFINITION. Machine/SleepCmds.lean: the sleep and wake commands (R378–R381): steps 7 to 15 of R66 for each.
-/
namespace Sys2Proof.Machine

/-- A requester is a voter of this unit (R361). -/
def State.isVoter (s : State) (c : Cmd) : Bool := c.node == 0xFFFF && bitOf s.slp.voters c.who

def slpVoteBody (c : Cmd) (s : State) : Res :=
  let v := c.arg 0 1
  need (decide (v ≤ 1) && c.zero 1 3) stBAD_ARGUMENT <|
  need (s.isVoter c) stNOT_OWNER <|
  let w := s.rd F.WAK_STAT_VOTES
  .done stOK (bytesLE 8 s.now) (s.wr F.WAK_STAT_VOTES (if v = 1 then setBit w c.who else clrBit w c.who))

def slpStatusBody (_ : Cmd) (s : State) : Res :=
  let at_ := if s.phase = 1 then s.slp.readyAt else if s.phase = 2 then s.slp.tCommit else 0
  .done stOK (wordBytes s.wakStat ++ wordBytes (s.word R.WAK_ARM) ++ wordBytes (s.word R.WAK_ARM_ETH) ++ bytesLE 8 at_ ++
    bytesLE 2 (s.rd F.WAK_CFG0_READY_DLY) ++ bytesLE 1 (s.rd F.WAK_CFG0_PREP_MS) ++ bytesLE 1 0) s

def slpWakeInfoBody (_ : Cmd) (s : State) : Res :=
  .done stOK (wordBytes (s.word R.WAK_CAUSE) ++ wordBytes (s.word R.WAK_CAUSE_CAN) ++ wordBytes (s.word R.WAK_CAUSE_NET) ++
    wordBytes (s.word R.WAK_COUNT) ++ bytesLE 8 (s.pair R.WAK_FIRST_LO R.WAK_FIRST_HI) ++ bytesLE 8 s.slp.tSleep) s

/-! ## SLP_CHANNEL (R371–R373, R380) -/

/-- A CAN channel goes to sleep: FROZEN, decoding where its filter and rate permit it. -/
def State.canFreeze (s : State) (n : Nat) : State :=
  let st := s.rd (F.CAN_STAT_STATE n)
  let again := if st = 4 ∧ s.rdb (F.CAN_CTL_AUTO_RECOVER n) = true then some s.now else (s.can_ n).recoverAt
  let s := (s.modCan n (fun x => { x with boff := st == 3 || st == 4, recoverAt := again })).canState n 5
  let s := if bitOf (s.rd F.WAK_ARM_ARM_CAN) n then { s with slp.armChan := n :: s.slp.armChan } else s
  if (s.slp.swk.get {} n).decode && s.swkRate n then s.startDecoding n else s

def State.slpCan (s : State) (n op : Nat) : Res :=
  need (s.rd (F.CAN_CTL_MODE n) != 0) stMODE_FORBIDS <|
  let fz := s.rd (F.CAN_STAT_STATE n) == 5
  .done stOK (bytesLE 8 s.now) (if op = 0 then (if fz then s else s.canFreeze n) else s.canThaw n)

def State.slpLin (s : State) (n op : Nat) : Res :=
  need (s.rdb (F.LIN_CTL_ENABLE n)) stMODE_FORBIDS <|
  let x := s.lin_ n
  if op = 0 then
    (if x.asleep ∨ s.slp.linSleep.contains n = true then .done stOK (bytesLE 8 s.now) s
     else .done stACCEPTED (bytesLE 8 (max s.now x.nextAt)) { s with slp.linSleep := n :: s.slp.linSleep })
  else if !x.asleep then .done stOK (bytesLE 8 s.now) s
  else .done stACCEPTED (bytesLE 8 s.now) ((s.linWake n (s.now + ms 1)).modLin n (fun x => { x with pulseAt := s.now }))

def State.slpEth (s : State) (p op : Nat) : Res :=
  need (s.portOn p) stMODE_FORBIDS <|
  let z := s.slp.ethAsleep.contains p
  if op = 0 then
    (if z ∨ s.slp.tc10.contains p = true then .done stOK (bytesLE 8 s.now) s
     else .done stACCEPTED (bytesLE 8 s.now)
       (if s.rdb (F.SWC_PORT_STAT_LINK p) then { s with slp.tc10 := p :: s.slp.tc10 } else { s with slp.ethAsleep := p :: s.slp.ethAsleep }))
  else if !z then .done stOK (bytesLE 8 s.now) s
  else .done stACCEPTED (bytesLE 8 s.now) { s with slp.ethAsleep := s.slp.ethAsleep.filter (fun q => q != p), slp.ethPulse := s.slp.ethPulse.set p s.now }

def slpChannelBody (c : Cmd) (s : State) : Res :=
  let k := c.arg 0 1
  let n := c.arg 1 1
  let op := c.arg 2 1
  need (decide (k ≤ 2) && decide (n < (if k = 1 then 8 else 16)) && decide (op ≤ 1) && c.zero 3 1) stBAD_ARGUMENT <|
  need (s.owns c (if k = 0 then kCan else if k = 1 then kLin else kPort) n) stNOT_OWNER <|
  if k = 0 then s.slpCan n op else if k = 1 then s.slpLin n op else s.slpEth n op

def slpAlarmBody (c : Cmd) (s : State) : Res :=
  let v := c.arg 0 8
  need (c.zero 8 4) stBAD_ARGUMENT <|
  need (s.isVoter c) stNOT_OWNER <|
  .done stOK (bytesLE 8 v) { s with slp.alarms := if v = 0 then s.slp.alarms.erase c.who else s.slp.alarms.set c.who v }

/-- The filter that SLP_SWK_CONFIG gives. -/
def swkOfCmd (c : Cmd) : Swk :=
  let f := c.arg 1 1
  { decode := bitOf f 0, ide := bitOf f 1, dlcM := bitOf f 2, fecW := bitOf f 3, id := c.arg 4 4, mask := c.arg 8 4, dlc := c.arg 12 1, data := c.argBytes 16 8 }

def slpSwkConfigBody (c : Cmd) (s : State) : Res :=
  let n := c.arg 0 1
  let k := swkOfCmd c
  let top := if k.ide then 2 ^ 29 else 2 ^ 11
  let others := ((List.range 16).filter (fun m => m != n && (s.slp.swk.get {} m).decode)).length
  need (decide (n ≤ 15) && decide (c.arg 1 1 < 16) && c.zero 2 2 && decide (k.id < top) && decide (k.mask < top) && decide (k.dlc ≤ 8) && c.zero 13 3) stBAD_ARGUMENT <|
  need (!(k.decode && decide (4 ≤ others)) && s.swkRate n) stBAD_ARGUMENT <|
  need (s.owns c kCan n) stNOT_OWNER <|
  .done stOK [] { s with slp.swk := s.slp.swk.set n k }

def dSlpVote : CmdDef := { op := 0x0801, lens := lenIs 4, body := slpVoteBody }
def dSlpStatus : CmdDef := { op := 0x0802, lens := lenIs 0, coppice := true, body := slpStatusBody }
def dSlpWakeInfo : CmdDef := { op := 0x0803, lens := lenIs 0, coppice := true, body := slpWakeInfoBody }
def dSlpChannel : CmdDef := { op := 0x0804, lens := lenIs 4, names := fun c _ => [okey (if c.arg 0 1 = 0 then kCan else if c.arg 0 1 = 1 then kLin else kPort) (c.arg 1 1)], body := slpChannelBody }
def dSlpAlarm : CmdDef := { op := 0x0805, lens := lenIs 12, body := slpAlarmBody }
def dSlpSwkConfig : CmdDef := { op := 0x0806, lens := lenIs 24, names := argKey kCan 0 1, body := slpSwkConfigBody }

end Sys2Proof.Machine
end

