-- ==== Sys2Proof/Machine/Part.lean ====
section
/-!
DEFINITION. Machine/Part.lean: partitions (R404–R428): states, partition reset, the DRAM regulator, storage and the
partition commands.
-/
namespace Sys2Proof.Machine

/-! ## States (R412) -/

def psOFF : Nat := 0
def psSTARTING : Nat := 1
def psREADY : Nat := 2
def psRESETTING : Nat := 3
def psHALTED : Nat := 4

def State.pst (s : State) (v : Nat) : Nat := s.rd (F.MPC_PART_STAT_STATE v)
/-- HOSTING: 0 none, 1 application cluster, 2 safety core. -/
def State.hosting (s : State) (v : Nat) : Nat := s.rd (F.MPC_PART_CFG_HOSTING v)
/-- The partition carries HOST. -/
def State.isHost (s : State) (v : Nat) : Bool := s.hostPart == some v

/-- The handling timers of a partition's CONTAINED records start when it enters STARTING and stand while it is down
(R496, R497, R502). -/
def State.noteTimers (s : State) (v st : Nat) : State :=
  let q := s.flt.queue.get [] v
  let tm (n : Note) : Option Nat := if !n.cont then none else if st = psSTARTING then some (s.now + s.htimer) else if st = psREADY then n.timer else none
  if q = [] then s else { s with flt.queue := s.flt.queue.set v (q.map (fun n => { n with timer := tm n })) }

/-- A change of a partition's state: MPC_PEVT, its instant and the timers (R412). -/
def State.setPart (s : State) (v st : Nat) : State :=
  if s.pst v = st then s
  else
    let s := (s.wr (F.MPC_PART_STAT_STATE v) st).wr F.MPC_PEVT_CHG (setBit (s.rd F.MPC_PEVT_CHG) v)
    (s.modPart v (fun p => { p with stAt := s.now })).noteTimers v st

/-- MPC_CORE_PART_WRITE: accepted from core `c` itself at the hypervisor level, for a partition of its affinity (R406). -/
def mpcCorePartWrite (t : Nat) (a : Acc) (hyp : Bool) (c v : Nat) (s : State) : State :=
  let s := { s.at_ t with bus := .none }
  let p := v % 32
  if 6 ≤ c then s
  else if hyp ∧ a.sec = false ∧ a.dev = false ∧ a.master = c ∧ (bitOf v 31 = false ∨ (p < 16 ∧ s.hosting p = 1 ∧ bitOf (s.rd (F.MPC_PART_CFG_AFFINITY p)) c = true)) then
    (s.wr (F.MPC_CORE_PART_PART c) p).wr (F.MPC_CORE_PART_VALID c) (bitsOf v 31 1)
  else s.refuseAcc a 2 (R.MPC_CORE_PART c)

/-- MPC_PEVT_CLEAR: writes of 1 clear bits at the hypervisor level (R412). -/
def mpcPevtClear (t : Nat) (a : Acc) (hyp : Bool) (v : Nat) (s : State) : State :=
  let s := { s.at_ t with bus := .none }
  if hyp ∧ a.sec = false ∧ a.dev = false then s.wr F.MPC_PEVT_CHG (s.rd F.MPC_PEVT_CHG &&& (0xFFFF - v % 2 ^ 16)) else s

/-- A partition is descheduled (R410). -/
def State.descheduled (s : State) (v : Nat) : Bool :=
  (List.range 6).all (fun c => !(s.rdb (F.MPC_CORE_PART_VALID c) && s.rd (F.MPC_CORE_PART_PART c) == v))

/-- The word of MPC_COREc_HNOTE (R410). -/
def State.hnote (s : State) (c : Nat) : Nat :=
  (List.range 16).foldl (fun m v =>
    if bitOf (s.rd (F.MPC_PART_CFG_AFFINITY v)) c && (s.pst v == psSTARTING || s.pst v == psREADY) && s.descheduled v && (s.irqHead v).isSome
    then m + 2 ^ v else m) 0

/-! ## Partition reset (R414–R419) -/

/-- A partition reset begins at this instant (R415). -/
def State.beginReset (s : State) (v cause : Nat) (scrub : Bool) : State :=
  let s := (s.wr (F.MPC_PART_STAT_CAUSE v) cause).sat (F.MPC_PART_STAT_RESETS v) 1
  let s := s.modPart v (fun p => { p with tpr := s.now, scrub := scrub })
  s.setPart v psRESETTING

/-- Some application core is in a gate call. -/
def State.inGate (s : State) : Bool := s.rd F.MPC_GW_STAT_IN_GATE != 0

/-- The reset of the host partition takes every partition of the application cluster with it (R419). -/
def State.hostReset (s : State) (v cause : Nat) (scrub : Bool) : State :=
  let others := (List.range 16).filter (fun u => u != v && (s.hosting u == 1) && (s.pst u == psSTARTING || s.pst u == psREADY))
  foldS others (fun u s => s.beginReset u 5 false) (s.beginReset v cause scrub)

/-- A reset of a partition is requested (R414, R417, R457): merged into a running one, and waiting for gate calls where the
host is reset. -/
def State.resetPart (s : State) (v cause : Nat) (scrub : Bool) : State :=
  let st := s.pst v
  if st = psOFF ∨ st = psHALTED then s
  else if st = psRESETTING then (if scrub then s.modPart v (fun p => { p with scrub := p.scrub || !s.rdb (F.MPC_PART_STAT_SCRUBBING v) }) else s)
  else if s.isHost v = true ∧ s.hosting v = 1 then
    (if s.inGate then (if s.prt.hostWait.isSome then s else { s with prt.hostWait := some (cause + if scrub then 16 else 0) })
     else s.hostReset v cause scrub)
  else s.beginReset v cause scrub

/-- PART_RESET commands that wait for a host reset are answered (R427). -/
def State.answerHostWait (s : State) : State :=
  foldS (s.mbx.cmds.filter (fun c => c.op == 0x0A03 && c.phase == .running)) (fun c s => s.answer c stACCEPTED (bytesLE 8 s.now)) s

/-- A host reset that waited starts once no gate call runs (R457). -/
def State.hostWaitCheck (s : State) : State :=
  match s.prt.hostWait, s.hostPart with
  | some k, some v =>
    if s.inGate then s else (({ s with prt.hostWait := none }).hostReset v (k % 16) (decide (16 ≤ k))).answerHostWait
  | some _, none => { s with prt.hostWait := none }
  | none, _ => s

/-- A pop value is lost (R356). -/
def State.popLost (s : State) (x : RaSlot) : State :=
  match x.data with
  | some (some _) => s.blogWrite 4 x.acc x.addr
  | _ => s

/-- Slots of the bridges that satisfy a condition are discarded, and their popped values logged (R356, R415). -/
def State.dropSlots (s : State) (f : RaSlot → Bool) : State :=
  let gone := s.brg.slots.filter f
  foldS (gone.filter (fun x => x.pop)) (fun x s => s.popLost x) { s with brg.slots := s.brg.slots.filter (fun x => !f x) }

/-- The requester bank of a partition (R36). -/
def State.bankOf (s : State) (v : Nat) : Nat := match s.hostCore v with | some c => 0x18 + c | none => v

/-- Active states of the sources routed to a requester clear (R39). -/
def State.clearActive (s : State) (bank : Nat) : State :=
  { s with irq.active := s.irq.active.keep (fun n => !s.irqMine bank n) }

/-- The mailbox-driven top-level objects of a holder. -/
def State.mailObjs (s : State) (v : Nat) : List Nat := s.tops.filter (fun x => (s.objOwner x == v) && (s.driverOf x == 0))

/-- The ring pairs of a holder are disabled, at this instant (R258, R416). -/
def State.ringsOff (s : State) (v : Nat) : State :=
  foldS ((List.range 64).filter (fun r => s.rdb (F.SWC_RING_CTL_ENABLE r) && (s.ringHolder r == v))) (fun r s =>
    ({ s with swc.ringOff := s.swc.ringOff.set r (some s.now) }).wrb (F.SWC_RING_CTL_ENABLE r) false) s

/-- The device-side effects of a partition reset (R416). -/
def State.partEffects (s : State) (v : Nat) : State :=
  let s := s.wrb (F.MBX_CTL_ENABLE v) false
  let s := s.ringsOff v
  let s := foldS ((List.range 16).filter (fun c => s.canOwner c == v)) (fun c s => s.canOwnerReset c) s
  let s := foldS ((List.range 8).filter (fun c => s.ownerOf kLin c == v)) (fun c s => s.linOwnerReset c) s
  let s := s.clearActive (s.bankOf v)
  let s := { s with irq.mask := s.irq.mask.set (s.bankOf v) 0 }
  let s := foldS (s.mailObjs v) (fun x s => s.dispose x) s
  let s := foldS (s.keyOps.filter (fun c => c.node == 0xFFFF && c.who == v)) (fun c s => s.abortKeyOp c stINTERNAL_FAULT) s
  s.wr F.WAK_STAT_VOTES (clrBit (s.rd F.WAK_STAT_VOTES) v)

/-- Zero every memory region whose partition mask names only VPv (R418). -/
def State.scrubRegions (s : State) (v : Nat) : State :=
  foldS ((List.range 6).filter (fun m => m != 4)) (fun m s =>
    foldS ((List.range 32).filter (fun r => s.rdb (F.MPC_R_ATTR_VALID m r) && s.rd (F.MPC_R_ATTR_PMASK m r) == 2 ^ v)) (fun r (s : State) =>
      let a := s.rd (F.MPC_R_START_START m r)
      { s with mem := Memory.zero s.mem (4096 * a) (4096 * (s.rd (F.MPC_R_END_END m r) + 1 - a)) }) s) s

/-- PART_SCRUB_COMPLETE: the zero-fill ends (R418). -/
def partScrubComplete (t v : Nat) (s : State) : State :=
  let s := s.at_ t
  if v < 16 ∧ s.pst v = psRESETTING ∧ s.rdb (F.MPC_PART_STAT_SCRUBBING v) = true then
    let s := ((s.scrubRegions v).wrb (F.MPC_PART_STAT_SCRUBBING v) false).modPart v (fun p => { p with scrub := false })
    s.setPart v psHALTED
  else s

/-! ## Safety pairs beside their registers -/

def State.pair_ (s : State) (n : Nat) : Pair := s.pairs.get {} n
def State.modPair (s : State) (n : Nat) (f : Pair → Pair) : State := { s with pairs := s.pairs.set n (f (s.pair_ n)) }

/-- A change of a pair's STATE (R444). -/
def State.setPair_ (s : State) (n st : Nat) : State :=
  if s.rd (F.FLT_LS_STAT_STATE n) = st then s
  else (s.wr (F.FLT_LS_STAT_STATE n) st).modPair n (fun p => { p with stAt := s.now })

/-- The restarts of the last second, and RECENT (R438). -/
def State.recents (s : State) (n : Nat) : List Nat := (s.pair_ n).recents.filter (fun x => decide (s.now < x + sec 1))

/-- The hosted partition is released on its pair (R430, R434, R438, R439): the checkpoint buffer is emptied. -/
def State.releasePair (s : State) (n : Nat) : State :=
  let s := s.setPair_ n (if s.isSplit n then 5 else if s.rd (F.FLT_LS_STAT_FENCED n) ≠ 0 then 4 else 1)
  (s.modPair n (fun p => { p with ckpt := false })).setPair (R.FLT_LS_CKPT_TS_LO n) (R.FLT_LS_CKPT_TS_HI n) 0

/-- Halt both cores of a pair (R441). -/
def State.haltPair (s : State) (n : Nat) : State :=
  let s := (s.setPair_ n 6).wrb (F.FLT_LS_STAT_LOCKSTEP_BROKEN n) true
  (s.modPair n (fun p => { p with halt := false })).wrb F.MPC_LC_STAT_DEBUG_ACTIVE true

/-- A halt request that was held takes effect (R439). -/
def State.heldHalt (s : State) (n : Nat) : State := if (s.pair_ n).halt then s.haltPair n else s

/-! ## DRAM regulation (R421–R423) -/

/-- The bytes that a partition carries into the next period: its debt, capped at one BUDGET (R423). -/
def State.debt (s : State) (v : Nat) : Nat := let b := 256 * s.rd (F.MPC_PART_REG_BUDGET v); min ((s.part_ v).used - b) b

/-- The word of MPC_PARTv_RSTAT (R421, R422). -/
def State.rstat (s : State) (v : Nat) : Word := (s.word (R.MPC_PART_RSTAT v)).withField 0 20 (min ((s.part_ v).used / 256) 0xFFFFF)

/-! ## Commands (R425–R428) -/

/-- Ownership keys of partitions, for their reader masks. -/
def kPart : Nat := 20

/-- The partition a command names: 0xFF is the requester itself. -/
def Cmd.partArg (c : Cmd) : Nat := if c.arg 0 1 = 0xFF then c.who else c.arg 0 1

/-- The host partition or the secure world of this unit, over a partition of the application cluster. -/
def State.overPart (s : State) (c : Cmd) (v : Nat) : Bool :=
  c.node == 0xFFFF && (c.who == 16 || (s.isHost c.who && s.hosting v == 1))

def partStatusBody (c : Cmd) (s : State) : Res :=
  let v := c.partArg
  need (decide (v < 16) && c.zero 1 3 && (s.hosting v != 0)) stBAD_ARGUMENT <|
  need (c.node == 0xFFFF && (c.who == v || s.overPart c v || bitOf (s.ownOf kPart v).readers c.who)) stNOT_OWNER <|
  let p := s.part_ v
  .done stOK (bytesLE 1 (s.pst v) ++ bytesLE 1 (s.rd (F.MPC_PART_STAT_CAUSE v)) ++ bytesLE 1 (s.hosting v) ++
    bytesLE 1 (s.rd (F.MPC_PART_CFG_REQUIRED v) + 2 * s.rd (F.MPC_PART_CFG_HOST v) + 4 * s.rd (F.MPC_PART_STAT_SCRUBBING v)) ++
    bytesLE 2 (s.rd (F.MPC_PART_STAT_RESETS v)) ++ bytesLE 1 (s.rd (F.MPC_PART_CFG_AFFINITY v)) ++
    bytesLE 1 ((s.hostCore v).getD 0xFF) ++ bytesLE 8 p.stAt ++ bytesLE 8 p.moved ++ wordBytes (s.word (R.MPC_PART_REG v)) ++
    wordBytes (s.rstat v) ++ bytesLE 4 p.blocked ++ bytesLE 2 (s.rd (F.MPC_PART_CFG_LLC_WAYS v)) ++ bytesLE 2 0) s

def partReadyBody (c : Cmd) (s : State) : Res :=
  need (c.node != 0xFFFF || decide (c.who < 16)) stBAD_ARGUMENT <|
  need (c.node == 0xFFFF) stNOT_OWNER <|
  if s.pst c.who = psREADY then .done stOK (bytesLE 8 s.now) s
  else if s.pst c.who = psSTARTING then .done stOK (bytesLE 8 s.now) (s.setPart c.who psREADY)
  else .refuse stMODE_FORBIDS

def partResetBody (c : Cmd) (s : State) : Res :=
  let v := c.partArg
  let f := c.arg 1 1
  need (decide (v < 16) && decide (f ≤ 1) && c.zero 2 2) stBAD_ARGUMENT <|
  need (c.node == 0xFFFF && (c.who == v || s.overPart c v)) stNOT_OWNER <|
  need (s.pst v != psOFF) stMODE_FORBIDS <|
  let s' := s.resetPart v (if c.who = v then 1 else if c.who = 16 then 3 else 2) (f == 1)
  if s'.prt.hostWait.isSome ∧ s.isHost v = true then .later .running 0 s'
  else .done stACCEPTED (bytesLE 8 (s'.part_ v).tpr) s'

def partReleaseBody (c : Cmd) (s : State) : Res :=
  let v := c.arg 0 1
  need (decide (v < 16) && c.zero 1 3) stBAD_ARGUMENT <|
  need (c.node == 0xFFFF && (c.who == 16 || s.isHost c.who)) stNOT_OWNER <|
  need (s.pst v == psHALTED && s.hosting v == 1) stMODE_FORBIDS <|
  .done stOK (bytesLE 8 s.now) (s.setPart v psSTARTING)

/-! ## Storage (R424, R428) -/

def State.storeOf (s : State) (w : Nat) : Store := s.prt.stores.get {} w
/-- The key of a block of an area. -/
def blockKey (w b : Nat) : Nat := w * 2 ^ 24 + b
/-- A block's contents: zeros where it was never written. -/
def State.block (s : State) (w b : Nat) : List Byte := slice (s.prt.blocks.get [] (blockKey w b)) 0 4096

def partStoreInfoBody (c : Cmd) (s : State) : Res :=
  need (c.node == 0xFFFF) stNOT_OWNER <|
  let x := s.storeOf c.who
  let d := s.draw 100
  .done stOK (bytesLE 4 x.size ++ bytesLE 8 x.written ++ bytesLE 1 d.1 ++ bytesLE 3 0 ++ bytesLE 8 x.last) d.2

/-- BLOCK and COUNT of the first buffer, and whether they are permitted for an area and a second buffer (R428). -/
def State.storeArgs (s : State) (c : Cmd) : Nat × Nat × Bool :=
  let b := s.load (c.dAddr 0) 8
  let k := leAt b 0 4
  let n := leAt b 4 2
  (k, n, (c.dSize 0 == 8) && decide (1 ≤ n) && decide (n ≤ 1024) && (leAt b 6 2 == 0) && decide (4096 * n ≤ c.dSize 1) &&
    decide (k + n ≤ (s.storeOf c.who).size))

/-- The blocks of a read as they are returned: those that the free value `bad` names fail integrity and read as zeros
(DESIGN CHOICE, assumption 71). -/
def State.readBlocks (s : State) (w k n bad : Nat) : List Byte :=
  (List.range n).flatMap (fun i => if bad.testBit i then List.replicate 4096 0 else s.block w (k + i))

def partStoreReadBody (c : Cmd) (s : State) : Res :=
  let (k, n, ok) := s.storeArgs c
  need ok stBAD_ARGUMENT <|
  let d := s.draw (2 ^ n - 1)
  let bad := (List.range n).filter (fun i => d.1.testBit i)
  .done stOK (bytesLE 4 n ++ bytesLE 4 bad.length ++ bytesLE 4 (match bad with | i :: _ => k + i | [] => 0xFFFFFFFF) ++ bytesLE 4 0)
    (d.2.putBuf c 1 (s.readBlocks c.who k n d.1))

def partStoreWriteBody (c : Cmd) (s : State) : Res :=
  let (k, n, ok) := s.storeArgs c
  need ok stBAD_ARGUMENT <|
  let blocks := foldS (List.range n) (fun i (t : Tab (List Byte)) => t.set (blockKey c.who (k + i)) (s.load (c.dAddr 1 + 4096 * i) 4096)) s.prt.blocks
  let x := s.storeOf c.who
  .done stOK (bytesLE 4 n ++ bytesLE 4 0)
    { s with prt.blocks := blocks, prt.stores := s.prt.stores.set c.who { x with written := (x.written + 4096 * n) % 2 ^ 64, last := s.now } }

def dPartStatus : CmdDef := { op := 0x0A01, lens := lenIs 4, coppice := true, names := fun c _ => [okey kPart c.partArg], body := partStatusBody }
def dPartReady : CmdDef := { op := 0x0A02, lens := lenIs 0, coppice := true, body := partReadyBody }
def dPartReset : CmdDef := { op := 0x0A03, lens := lenIs 4, names := fun c _ => [okey kPart c.partArg], body := partResetBody }
def dPartRelease : CmdDef := { op := 0x0A04, lens := lenIs 4, names := argKey kPart 0 1, body := partReleaseBody }
def dPartStoreInfo : CmdDef := { op := 0x0A05, lens := lenIs 0, body := partStoreInfoBody }
def dPartStoreRead : CmdDef := { op := 0x0A06, lens := fun _ => false, descs := [[0, 1]], body := partStoreReadBody }
def dPartStoreWrite : CmdDef := { op := 0x0A07, lens := fun _ => false, descs := [[0, 0]], body := partStoreWriteBody }

end Sys2Proof.Machine
end

