-- ==== Sys2Proof/Machine/SwitchCmds.lean ====
section
/-!
DEFINITION. Machine/SwitchCmds.lean: the buffer audit under the maintenance arbiter, and the switch commands (R256, R257,
R263–R271): steps 7 to 15 of R66 for each.
-/
namespace Sys2Proof.Machine

/-! ## Buffer audit (R256, R257) -/

/-- BUFFER_AUDIT_SNAPSHOT, taken while the switch island is aligned (R42): a second mismatch in a row raises BUF_LEAK and requests a
sweep (R256). -/
def bufferAuditSnapshot (t total : Nat) (s : State) : State :=
  let s := s.at_ t
  if !s.aligned 6 then s else
  let s := s.auditSnapshot total
  if s.swc.missRun = 2 then ((s.sysFault 0x0501 .contained 0xFFFF (if total < 65536 then 65536 - total else total - 65536))).requestAct { act := aBUF_AUDIT } else s

/-- RECLAIM_SWEEP_COMPLETE: the sweep ends, having returned some cells (R257). -/
def reclaimSweepComplete (t returned : Nat) (s : State) : State :=
  let s := s.at_ t
  if s.running aBUF_AUDIT then ((s.sat F.SWC_AUDIT_STAT_RECLAIMED returned).trig 285).endRun aBUF_AUDIT else s

/-- SWC_AUDIT_STAT as it reads: SWEEP while the sweep runs or is queued. -/
def State.auditWord (s : State) : Word :=
  (s.word R.SWC_AUDIT_STAT).withField 1 1 (b2n (s.running aBUF_AUDIT || s.cfg.mq.any (fun r => r.act == aBUF_AUDIT)))

/-- SWC_POOL_STAT as it reads. -/
def State.poolWord (s : State) : Word := BitVec.ofNat 32 s.poolFree

/-- SWC_Qq_STAT as it reads (R242, R250). -/
def State.queueWord (s : State) (q : Nat) : Word :=
  let x := s.swQueue q
  BitVec.ofNat 32 (min 0xFFFF x.occ * 2 ^ 16 + min 0xFFFF (x.avg / 256))

/-! ## Ports (R264) -/

def swcPortStatusBody (c : Cmd) (s : State) : Res :=
  let p := c.arg 0 1
  need (decide (p < 28) && c.zero 1 3) stBAD_ARGUMENT <|
  need (s.mayRead c kPort p || s.owns c kPort p) stNOT_OWNER <|
  .done stOK (wordBytes (s.word (R.SWC_PORT_CFG0 p)) ++ wordBytes (s.word (R.SWC_PORT_CFG1 p)) ++ wordBytes (s.word (R.SWC_PORT_CFG2 p)) ++
    wordBytes (s.word (R.SWC_PORT_STAT p)) ++ bytesLE 8 (s.swPort p).linkAt) s

/-- The MODE codes that a port permits (R230). -/
def modeOk (p v : Nat) : Bool :=
  if p < 4 then decide (v ≤ 2) else if p < 16 then v == 3 || v == 4 else if p < 24 then v == 5 else v == 7

def portFlds (p : Nat) : List CfgFld := [
  ⟨F.SWC_PORT_CFG0_ENABLE p, .live, anyVal⟩, ⟨F.SWC_PORT_CFG0_MODE p, .locked, modeOk p⟩, ⟨F.SWC_PORT_CFG0_ROLE p, .locked, anyVal⟩,
  ⟨F.SWC_PORT_CFG0_LEARN p, .live, anyVal⟩, ⟨F.SWC_PORT_CFG0_ACCEPT p, .staged, upTo 2⟩, ⟨F.SWC_PORT_CFG0_FLAP_HOLD p, .live, upTo 50⟩,
  ⟨F.SWC_PORT_CFG0_MAX_FRAME p, .live, between 64 (if 16 ≤ p ∧ p < 24 then 2048 else 9216)⟩,
  ⟨F.SWC_PORT_CFG1_PVID p, .staged, between 1 4094⟩, ⟨F.SWC_PORT_CFG1_PLCA_EN p, .locked, fun v => v == 0 || (decide (16 ≤ p) && decide (p < 24))⟩,
  ⟨F.SWC_PORT_CFG1_NODE_ID p, .locked, anyVal⟩, ⟨F.SWC_PORT_CFG1_NODE_CNT p, .locked, between 2 8⟩,
  ⟨F.SWC_PORT_CFG1_BURST_CNT p, .locked, anyVal⟩, ⟨F.SWC_PORT_CFG1_TO_TIMER p, .locked, between 1 255⟩,
  ⟨F.SWC_PORT_CFG2_DEI_REMARK p, .live, anyVal⟩, ⟨F.SWC_PORT_CFG2_COLOUR_AWARE p, .live, anyVal⟩, ⟨F.SWC_PORT_CFG2_PCP_MAP p, .live, anyVal⟩]

/-- A port is stopped: ENABLE is 0 and the link is down. -/
def State.portStopped (s : State) (p : Nat) : Bool := !s.rdb (F.SWC_PORT_CFG0_ENABLE p) && !s.rdb (F.SWC_PORT_STAT_LINK p)

def swcPortConfigBody (c : Cmd) (s : State) : Res :=
  let p := c.arg 0 1
  let ims := [c.image (R.SWC_PORT_CFG0 p) 4, c.image (R.SWC_PORT_CFG1 p) 12, c.image (R.SWC_PORT_CFG2 p) 20]
  need (decide (p < 28) && c.zero 1 3 && imagesOk (portFlds p) ims) stBAD_ARGUMENT <|
  need (s.owns c kPort p) stNOT_OWNER <|
  s.configure (portFlds p) ims (s.portStopped p) 0

/-! ## Queues (R265, R266) -/

def queueFlds (q : Nat) : List CfgFld :=
  [⟨F.SWC_Q_CFG0_Q_MAX q, .live, between 1 65535⟩, ⟨F.SWC_Q_CFG0_Q_MIN q, .staged, upTo 1024⟩, ⟨F.SWC_Q_CFG1_W q, .live, anyVal⟩,
   ⟨F.SWC_Q_CFG1_CT_OVR q, .staged, anyVal⟩, ⟨F.SWC_Q_CFG1_CT_EN q, .live, fun v => v == 0 || isExt (q / 8)⟩] ++
  ([0, 1, 2] : List Nat).flatMap (fun k => [⟨F.SWC_Q_RED_TH_MAX_TH q k, .live, anyVal⟩, ⟨F.SWC_Q_RED_TH_MIN_TH q k, .live, anyVal⟩,
   ⟨F.SWC_Q_RED_P_ENABLE q k, .live, anyVal⟩, ⟨F.SWC_Q_RED_P_ACT q k, .live, anyVal⟩, ⟨F.SWC_Q_RED_P_P_MAX_CODE q k, .live, anyVal⟩])

/-- The mask of a register's fields. -/
def fullMask (fs : List CfgFld) (a : Nat) : Nat := (fs.filter (fun f => f.fld.reg == a)).foldl (fun m f => m + fldMask f.fld) 0

/-- The word images of a SWC_QUEUE_CONFIG request: register, value, SEL bit. -/
def queueWords (c : Cmd) (q : Nat) : List (Nat × Nat × Bool) :=
  let sel := c.arg 2 1
  [(R.SWC_Q_CFG0 q, c.arg 4 4, bitOf sel 0), (R.SWC_Q_CFG1 q, c.arg 8 4, bitOf sel 1)] ++
  ([0, 1, 2] : List Nat).flatMap (fun k => [(R.SWC_Q_RED_TH q k, c.arg (12 + 8 * k) 4, bitOf sel (2 + k)), (R.SWC_Q_RED_P q k, c.arg (16 + 8 * k) 4, bitOf sel (2 + k))])

def swcQueueConfigBody (c : Cmd) (s : State) : Res :=
  let q := c.arg 0 2
  let fs := queueFlds q
  let ws := queueWords c q
  let ims : List Image := (ws.filter (fun w => w.2.2)).map (fun w => (w.1, w.2.1, fullMask fs w.1))
  let val (f : Fld) : Nat := s.afterFld fs ims f
  let sum := (List.range 224).foldl (fun a k => a + (if k = q then val (F.SWC_Q_CFG0_Q_MIN q) else s.shadow (F.SWC_Q_CFG0_Q_MIN k))) 0
  need (decide (q < 224) && decide (c.arg 2 1 < 32) && c.zero 3 1 && ws.all (fun w => w.2.2 || w.2.1 == 0) &&
    ims.all (fun im => im.2.1 &&& im.2.2 == im.2.1) && imagesOk fs ims && decide (sum ≤ 32768) &&
    decide (val (F.SWC_Q_CFG0_Q_MIN q) ≤ val (F.SWC_Q_CFG0_Q_MAX q)) &&
    ([0, 1, 2] : List Nat).all (fun k => val (F.SWC_Q_RED_P_ENABLE q k) == 0 || decide (val (F.SWC_Q_RED_TH_MIN_TH q k) < val (F.SWC_Q_RED_TH_MAX_TH q k)))) stBAD_ARGUMENT <|
  need (s.owns c kPort (q / 8)) stNOT_OWNER <|
  s.configure fs ims true 0

def swcQueueStatusBody (c : Cmd) (s : State) : Res :=
  let f := c.arg 0 2
  let n := c.arg 2 1
  let l := (List.range n).map (fun i => f + i)
  need (between 1 5 n && c.zero 3 1 && decide (f + n ≤ 224)) stBAD_ARGUMENT <|
  need (l.all (fun q => s.mayRead c kPort (q / 8) || s.owns c kPort (q / 8))) stNOT_OWNER <|
  .done stOK (bytesLE 8 s.now ++ l.flatMap (fun q => wordBytes (s.queueWord q) ++ bytesLE 4 (s.swQueue q).drops)) s

def swcCountersBody (c : Cmd) (s : State) : Res :=
  let b := s.rangeBytes c
  let p := leAt b 0 1
  let f := leAt b 1 1
  let n := leAt b 2 1
  need (decide (p < 28) && leAt b 3 1 == 0 && between 1 (if c.desc then 32 else 5) n && decide (f + n ≤ 32) && (!c.desc || c.dSize 0 == 4) &&
    (!c.desc || c.room (8 + 8 * n))) stBAD_ARGUMENT <|
  need (s.mayRead c kPort p || s.owns c kPort p) stNOT_OWNER <|
  s.answerRange c (bytesLE 8 s.now ++ (List.range n).flatMap (fun i => bytesLE 8 (s.swCnt p (f + i)))) (bytesLE 4 (8 + 8 * n) ++ bytesLE 4 0)

/-! ## Forwarding entries and VLANs (R267, R268) -/

/-- A VID is a VLAN of a local requester. -/
def State.ownsVlan (s : State) (c : Cmd) (v : Nat) : Bool := s.owns c kVlan v
def State.readsVlan (s : State) (c : Cmd) (v : Nat) : Bool := s.mayRead c kVlan v || s.owns c kVlan v

/-- The index of the least recently seen dynamic entry of a bucket. -/
def State.oldestDyn (s : State) (l : List Nat) : Option Nat :=
  (l.filter (fun i => !(s.fdbE i).static)).foldl (fun b i => match b with | none => some i | some j => if (s.fdbE i).seen < (s.fdbE j).seen then some i else b) none

/-- The index that a static entry of an address takes (R267). -/
def State.staticSlot (s : State) (vid mac : Nat) : Option Nat :=
  match s.fdbFind vid mac with
  | some i => some i
  | none =>
    let l := fdbBucket vid mac
    match l.find? (fun i => !(s.fdbE i).valid) with
    | some i => some i
    | none => s.oldestDyn l

def swcFdbSetBody (c : Cmd) (s : State) : Res :=
  let mac := natBE (c.argBytes 0 6)
  let vid := c.arg 6 2
  let m := c.arg 8 4
  need (between 1 4094 vid && (s.swc.vlans.get {} vid).defined && decide (m < 2 ^ 28) && c.zero 12 4 && (m == 0 || (s.staticSlot vid mac).isSome)) stBAD_ARGUMENT <|
  need (s.ownsVlan c vid) stNOT_OWNER <|
  if m = 0 then .done stOK [] (match s.fdbFind vid mac with | some i => { s with swc.fdb := s.swc.fdb.erase i } | none => s)
  else match s.staticSlot vid mac with
    | some i => .done stOK [] (s.setFdb i { mac := mac, vid := vid, mask := m, static := true, valid := true, seen := s.now })
    | none => .refuse stBAD_ARGUMENT

/-- A forwarding entry as SWC_FDB_READ gives it. -/
def State.fdbBytes (s : State) (e : FdbE) : List Byte :=
  bytesBE 6 e.mac ++ bytesLE 2 e.vid ++ bytesLE 4 e.mask ++ bytesLE 1 (b2n e.static + 2 * b2n e.valid) ++
  bytesLE 2 (if e.static then 0 else min 0xFFFF ((s.now - e.seen) / sec 1)) ++ bytesLE 1 0

def swcFdbReadBody (c : Cmd) (s : State) : Res :=
  let start := natLE (s.load (c.dAddr 0) 4)
  need (c.dSize 0 == 4 && decide (start < 16384) && (c.dSize 1 % 16 == 0)) stBAD_ARGUMENT <|
  need (c.node == 0xFFFF) stNOT_OWNER <|
  let l := s.swc.fdb.keys.filter (fun i => decide (start ≤ i) && (s.fdbE i).valid && s.readsVlan c (s.fdbE i).vid)
  let got := l.take (c.dSize 1 / 16)
  let rest := l.drop (c.dSize 1 / 16)
  .done stOK (bytesLE 4 (16 * got.length) ++ bytesLE 4 (match rest with | [] => 0xFFFFFFFF | i :: _ => i))
    (s.putBuf c 1 (got.flatMap (fun i => s.fdbBytes (s.fdbE i))))

def swcVlanConfigBody (c : Cmd) (s : State) : Res :=
  let v := c.arg 0 2
  let f := c.arg 12 1
  need (between 1 4094 v && c.zero 2 2 && decide (c.arg 4 4 < 2 ^ 28) && decide (c.arg 8 4 < 2 ^ 28) && decide (f < 16) && c.zero 13 3) stBAD_ARGUMENT <|
  need (s.ownsVlan c v) stNOT_OWNER <|
  if bitOf f 3 then
    .done stOK [] { s with swc.vlans := s.swc.vlans.set v { defined := true, member := c.arg 4 4, untag := c.arg 8 4, learn := bitOf f 0, floodUc := bitOf f 1, floodMc := bitOf f 2 } }
  else .done stOK [] { s with swc.vlans := s.swc.vlans.erase v, swc.fdb := s.swc.fdb.keep (fun i => (s.fdbE i).vid != v) }

/-! ## Policers and MACsec (R269, R270) -/

def swcPolicerBody (c : Cmd) (s : State) : Res :=
  let k := c.arg 0 2
  let m := c.arg 2 1
  let cir := c.arg 4 4
  let pir := c.arg 8 4
  let cbs := c.arg 12 4
  let pbs := c.arg 16 4
  need (decide (k < 1024) && decide (m < 4) && c.zero 3 1 && c.zero 20 4 && decide (cir ≤ pir) && decide (pir ≤ 400000) &&
    between 64 1048575 cbs && between 64 1048575 pbs) stBAD_ARGUMENT <|
  need (s.owns c kPolicer k) stNOT_OWNER <|
  let p := s.swc.pols.get {} k
  .done stOK (bytesLE 4 p.green ++ bytesLE 4 p.yellow ++ bytesLE 4 p.red ++ bytesLE 4 0)
    { s with swc.pols := s.swc.pols.set k { p with aware := bitOf m 0, redPass := bitOf m 1, cir := cir, pir := pir, cbs := cbs, pbs := pbs,
                                                   tc := cbs * 125000, tp := pbs * 125000, at_ := s.now } }

/-- Install an association: it replaces the one of its channel and AN; an enabled transmit one comes into use (R270). -/
def State.putSa (s : State) (p : Nat) (a : Sa) : State :=
  let x := s.swPort p
  let same (b : Sa) : Bool := b.rx == a.rx && b.sc == a.sc && b.an == a.an
  let off := !a.enabled && x.secy.sas.any (fun b => same b && b.enabled)
  let s := s.setSwPort p { x with secy := { x.secy with sas := x.secy.sas.filter (fun b => !same b) ++ [a], txAn := if !a.rx && a.enabled then some a.an else x.secy.txAn } }
  if off then s.trig 286 else s

def swcMacsecSaBody (c : Cmd) (s : State) : Res :=
  let p := c.arg 0 1
  let rx := c.arg 1 1 == 1
  let an := c.arg 2 1
  let sc := c.arg 3 1
  let k := c.arg 4 2
  let f := c.arg 6 2
  let others := (s.swPort p).secy.sas.filter (fun a => a.rx == rx && a.sc == sc && a.an != an)
  need (decide (p < 24) && decide (c.arg 1 1 ≤ 1) && decide (an ≤ 3) && decide (sc ≤ 3) && (rx || sc == 0) && decide (k ≤ 255) && decide (f < 16) &&
    (bitOf f 0 || c.zero 12 4) && (rx || c.zero 16 8) && (s.slotType k == 2) && decide (others.length < 2)) stBAD_ARGUMENT <|
  need (s.owns c kPort p && s.owns c kKey k) stNOT_OWNER <|
  need (s.slotUse k 7) stMODE_FORBIDS <|
  need (s.usable k) stKEY_REVOKED <|
  .done stOK [] (s.putSa p { rx := rx, an := an, sc := sc, slot := k, xpn := bitOf f 0, enabled := bitOf f 1, conf := bitOf f 2, inclSci := bitOf f 3,
                             next := c.arg 8 8, low := c.arg 8 8, sci := c.arg 16 8 })

/-! ## The audit command (R271) -/

def swcAuditBody (c : Cmd) (s : State) : Res :=
  let op := c.arg 0 1
  need (decide (op ≤ 1) && c.zero 1 3) stBAD_ARGUMENT <|
  need (op == 0 || c.isSecure) stNOT_OWNER <|
  if op = 0 then .done stOK (wordBytes s.auditWord ++ wordBytes s.poolWord ++ bytesLE 4 s.swc.snaps) s
  else s.commandAct c aBUF_AUDIT 0 0 0

def dSwcPortStatus : CmdDef := { op := 0x0501, lens := lenIs 4, coppice := true, names := argKey kPort 0 1, body := swcPortStatusBody }
def dSwcPortConfig : CmdDef := { op := 0x0502, lens := lenIs 28, names := argKey kPort 0 1, body := swcPortConfigBody }
def dSwcQueueConfig : CmdDef := { op := 0x0503, lens := lenIs 36, names := fun c _ => [okey kPort (c.arg 0 2 / 8)], body := swcQueueConfigBody }
def dSwcQueueStatus : CmdDef := { op := 0x0504, lens := lenIs 4, names := fun c _ => (List.range (min 5 (c.arg 2 1))).map (fun i => okey kPort ((c.arg 0 2 + i) / 8)), body := swcQueueStatusBody }
def dSwcCounters : CmdDef := { op := 0x0505, lens := lenIs 4, descs := [[0, 1]], coppice := true, names := fun c s => [okey kPort (leAt (s.rangeBytes c) 0 1)], body := swcCountersBody }
def dSwcFdbSet : CmdDef := { op := 0x0506, lens := lenIs 16, names := argKey kVlan 6 2, body := swcFdbSetBody }
def dSwcFdbRead : CmdDef := { op := 0x0507, lens := fun _ => false, descs := [[0, 1]], body := swcFdbReadBody }
def dSwcVlanConfig : CmdDef := { op := 0x0508, lens := lenIs 16, names := argKey kVlan 0 2, body := swcVlanConfigBody }
def dSwcPolicer : CmdDef := { op := 0x0509, lens := lenIs 24, names := argKey kPolicer 0 2, body := swcPolicerBody }
def dSwcMacsecSa : CmdDef := { op := 0x050A, lens := lenIs 24, names := fun c _ => [okey kPort (c.arg 0 1), okey kKey (c.arg 4 2)], body := swcMacsecSaBody }
def dSwcAudit : CmdDef := { op := 0x050B, lens := lenIs 4, coppice := true, coppiceForm := fun c => c.arg 0 1 == 0, body := swcAuditBody }

end Sys2Proof.Machine
end

