-- ==== Sys2Proof/Machine/FastAct.lean ====
section
/-!
DEFINITION. Machine/FastAct.lean: fast-actuation frames (R289–R296).
-/
namespace Sys2Proof.Machine

/-- The result of an entry (R293): gang, action, INSTANT, the instant of its edge, ingress instant of the frame. -/
def State.faEntry (s : State) (snd g a inst at_ tIn : Nat) : Nat :=
  let x := xGang g
  let o := s.obj x
  if 2 < a then 0x10
  else if !s.defined x || !s.fastEn x || (s.brgOf g).isSome then 0x11
  else if s.objOwner x ≠ s.shareOf (s.rd (F.TSN_FA_SND_CFG_HOLDER snd)) then 0x12
  else if s.barred x then 0x13
  else if o.st = 6 then 0x14
  else if o.probing || s.objLost x then 0x15
  else if !o.standing then 0x16
  else if inst ≠ 0 ∧ inst < s.now + us 2 then 0x17
  else if tIn + sec 10 < inst then 0x18
  else if 8 ≤ o.edges.length ∧ o.edges.any (fun e => e.at_ == at_) = false then 0x19
  else if o.edges.any (fun e => e.at_ == at_) then 0x01
  else if o.shed then 0x02 else 0x00

/-- The result of one entry with the edge instant assigned, and the state after it. -/
def State.faQueue (s : State) (snd tIn : Nat) (b : List Byte) (o : Nat) : (Nat × Nat) × State :=
  let g := beAt b o 1
  let a := beAt b (o + 1) 1
  let inst := beAt b (o + 4) 8
  let d := s.draw (us 1)
  let at_ := if inst = 0 then s.now + d.1 else inst
  let r := s.faEntry snd g a inst at_ tIn
  if 0x10 ≤ r then ((r, 0), s)
  else
    ((r, at_), (if inst = 0 then d.2 else s).placeEdge (xGang g) { at_ := at_, action := a, kind := .fast snd } false)

/-- The entries of a frame in order (R293). -/
def State.faEntries (s : State) (snd tIn : Nat) (b : List Byte) : List Nat → List (Nat × Nat) × State
  | [] => ([], s)
  | o :: l =>
    let r := s.faQueue snd tIn b o
    let k := r.2.faEntries snd tIn b l
    (r.1 :: k.1, k.2)

/-- All entries, with ATOMIC (R293). -/
def State.faRun (s : State) (tIn : Nat) (b : List Byte) : List (Nat × Nat) × State :=
  let h := faHdr b
  let r := s.faEntries h.sender tIn b ((List.range h.count).map (fun i => h.ent i))
  if h.atomic && r.1.any (fun e => decide (0x10 ≤ e.1)) then (r.1.map (fun e => if e.1 < 0x10 then (0x1A, 0) else e), s) else r

/-- The RESULT frame (R296). -/
def State.faResult (s : State) (b : List Byte) (fstatus : Nat) (res : List (Nat × Nat)) : List Byte :=
  let h := faHdr b
  let macs := slice b 6 6 ++ bytesBE 6 Config.unitMac
  let tag := if tagged b then slice b 12 4 else []
  let ety := bytesBE 2 (s.rd F.TSN_FA_ETYPE_FA_ETYPE)
  let body := bytesBE 1 0x12 ++ bytesBE 1 0 ++ bytesBE 2 h.sender ++ bytesBE 2 h.target ++ bytesBE 1 h.count ++ bytesBE 1 fstatus ++ bytesBE 6 h.seq ++ bytesBE 2 0 ++
    (List.range h.count).flatMap (fun i => let r := res.getD i (0, 0); bytesBE 1 (beAt b (h.ent i) 1) ++ bytesBE 1 r.1 ++ bytesBE 2 0 ++ bytesBE 8 r.2)
  macs ++ tag ++ ety ++ body ++ slice (Config.cmac (s.faKey h.sender) (macs ++ ety ++ body)) 0 16

/-- FA_FRAME_ARRIVAL: the oldest frame that waits at the fast path is checked, its entries queued and its RESULT sent
(R292–R296). -/
def faFrameArrival (t : Nat) (s : State) : State :=
  let s := s.swAt t
  match s.tsn.waiting with
  | [] => s
  | f :: l =>
    let s := { s with tsn.waiting := l }
    let b := f.bytes
    let h := faHdr b
    let e := s.faAuth b
    if s.faDark then s
    else if e ≠ 0 then s.faCount h.sender e
    else
      let s := s.setPair (R.TSN_FA_SND_SEQ_LO h.sender) (R.TSN_FA_SND_SEQ_HI h.sender) h.seq
      let e := s.faTarget b
      let r := if e = 0 then s.faRun f.tIn b else ([], s)
      let s := r.2.faCount h.sender e
      if h.ack then s.sendFrom 27 (s.faResult b e r.1) (s.rd F.TSN_FA_CFG_FA_CLASS) else s

end Sys2Proof.Machine
end

