-- ==== Sys2Proof/Machine/TimeSrc.lean ====
section
/-!
DEFINITION. Machine/TimeSrc.lean: the discipline of the master count by its source (R43, R46).
-/
namespace Sys2Proof.Machine

/-- SYNC codes. -/
def syFREE : Nat := 0
def syACQUIRING : Nat := 1
def syLOCKED : Nat := 2
def syHOLDOVER : Nat := 3

/-- The 32-bit code of an offset, saturating. -/
def offsetCode (off : Int) : Nat := unsgn 32 (max (-(2 ^ 31 - 1)) (min (2 ^ 31 - 1) off))

/-- Slew an offset at a rate that is open up to SLEW_MAX (R43, DESIGN CHOICE, assumption 40); RATE in units of 0.01 ppb. -/
def State.slew (s : State) (off : Int) : State :=
  if off = 0 then { (s.wrb F.TBS_STATUS_SLEWING false).setWord R.TBS_RATE 0 with tb.slewLeft := 0 }
  else
    let d := s.draw (s.rd F.TBS_CFG_SLEW_MAX * 1000000 - 1)
    let r : Int := if off < 0 then -((d.1 : Int) + 1) else (d.1 : Int) + 1
    let s := (d.2.wrb F.TBS_STATUS_SLEWING true).wr F.TBS_RATE_RATE (unsgn 32 r)
    { s with tb.slewLeft := off.natAbs * 10 ^ 11, tb.slewBack := decide (off < 0) }

/-- The master measures its offset against its source: source minus master (R43). SYNC becomes LOCKED at the first
measurement within STEP_THRESH; a measurement that calls for a step leaves it (DESIGN CHOICE, assumption 112). -/
def State.measureSource (s : State) (off : Int) : State :=
  let s := s.wr F.TBS_OFFSET_OFFSET (offsetCode off)
  let th := us (s.rd F.TBS_CFG_STEP_THRESH)
  if s.rdb F.TBS_STATUS_BACKSTEP then s
  else if off.natAbs ≤ th then (s.slew off).wr F.TBS_STATUS_SYNC syLOCKED
  else if 0 < off then { s with tb.step := some { back := false, by_ := off.natAbs } }
  else if s.dev = .starting then { s with tb.step := some { back := true, by_ := off.natAbs } }
  else if off.natAbs ≤ sec 1 then s.slew off
  else
    let s := (s.wr F.TBS_STATUS_SYNC syHOLDOVER).wrb F.TBS_STATUS_BACKSTEP true
    s.sysFault 0x0102 .contained 0xFFFF 0

/-- SOURCE_MEASUREMENT. -/
def sourceMeasurement (t : Nat) (off : Int) (s : State) : State :=
  let s := s.at_ t
  if s.rd F.TBS_CFG_SOURCE = 1 ∨ s.rd F.TBS_CFG_SOURCE = 2 then s.measureSource off else s

/-- SOURCE_LOSS: after lock the master enters HOLDOVER and keeps its rate (R46). -/
def sourceLoss (t : Nat) (s : State) : State :=
  let s := s.at_ t
  if s.rd F.TBS_STATUS_SYNC = syLOCKED then s.wr F.TBS_STATUS_SYNC syHOLDOVER else s

end Sys2Proof.Machine
end

