-- ==== Sys2Proof/Machine/GptpFn.lean ====
section
/-!
DEFINITION. Machine/GptpFn.lean: the time-synchronisation function (R274–R276).
-/
namespace Sys2Proof.Machine

def State.gptp (s : State) (i : Nat) : Gptp := s.tsn.gptp.get {} i
def State.gport (s : State) (i p : Nat) : GptpPort := s.tsn.gports.get {} (32 * i + p)
def State.setGptp (s : State) (i : Nat) (g : Gptp) : State := { s with tsn.gptp := s.tsn.gptp.set i g }
def State.setGport (s : State) (i p : Nat) (g : GptpPort) : State := { s with tsn.gports := s.tsn.gports.set (32 * i + p) g }

/-- The instance is the source of the Taurn master (R275). -/
def State.isTaurnSource (s : State) (i : Nat) : Bool := s.rd F.TBS_CFG_SOURCE == 1 && s.rdb (F.TSN_GPTP_SRC i)

/-- The instance whose peer-delay exchanges serve a port: its own, or with CMLDS the common service, instance 2 (R273). -/
def State.linkInst (s : State) (i : Nat) : Nat := if s.rdb (F.TSN_GPTP_OPT_CMLDS i) then 2 else i

/-- What is known of a port's link: delay, rate ratio and asCapable. -/
def State.glink (s : State) (i p : Nat) : GptpPort := s.gport (s.linkInst i) p

/-- The neighbour propagation delay of a port: measured, or the static one of the configuration (R273). -/
def State.pathDelay (s : State) (i p : Nat) : Nat :=
  if s.rdb (F.TSN_GPTP_PORT_STATIC i p) then s.rd (F.TSN_GPTP_DLY_DELAY i p) else (s.glink i p).delay

/-- The static asymmetry of a port in ns (R273). -/
def State.asymmetry (s : State) (i p : Nat) : Int := sgn 32 (s.rd (F.TSN_GPTP_ASYM_NS i p))

/-- The role of a port: static with externalPortConfigurationEnabled, else that of the best-master algorithm (R273). -/
def State.portRole (s : State) (i p : Nat) : Nat :=
  if s.rdb (F.TSN_GPTP_OPT_EXT_PORTS i) then s.rd (F.TSN_GPTP_PORT_ROLE i p) else (s.gport i p).role

/-- logSyncInterval at a port: as signalled, else as configured, as a signed byte. -/
def State.logSyncOf (s : State) (i p : Nat) : Nat := (s.gport i p).logSync.getD (s.rd (F.TSN_GPTP_PORT_LOG_SYNC i p))

/-- A logSyncInterval code within −5 to 3 (R273). -/
def logSyncOk (v : Nat) : Bool := decide (v ≤ 3) || (decide (251 ≤ v) && decide (v ≤ 255))

/-- This unit is grandmaster of an instance whose time is the Taurn count (R275). -/
def State.taurnIsGm (s : State) (i : Nat) : Bool := (s.gptp i).isGm && (s.rd F.TBS_CFG_SOURCE == 0 || s.rd F.TBS_CFG_SOURCE == 2)

/-- The offset from the grandmaster that TSN_GPTP_STATUS reports: none where the unit's own count is the instance's time (R275). -/
def State.gptpOffset (s : State) (i : Nat) : Int := if s.taurnIsGm i then 0 else (s.gptp i).offset

/-- What a message does to its instance and port; a Sync gives a measurement of the source and is kept for its relay
(R274–R276). -/
def State.gptpMsg (s : State) (i p : Nat) : GptpMsg → State
  | .sync origin corr =>
    let there : Int := origin + corr + s.pathDelay i p + s.asymmetry i p
    let off : Int := there - (s.now : Int)
    let s := s.setGptp i { s.gptp i with offset := -off, sync := some (p, there, s.now) }
    if s.isTaurnSource i then s.measureSource off else s
  | .pdelay t1 t2 t3 t4 ratio =>
    let k := s.linkInst i
    s.setGport k p { s.gport k p with delay := (((t4 : Int) - t1 - ((t3 : Int) - t2)) / 2).toNat, ratio := ratio, asCap := true }
  | .announce gm steps role path =>
    let trace := s.rdb (F.TSN_GPTP_OPT_PATH_TRACE i)
    if trace && path.contains Config.serial then s
    else
      let g : Gptp := { s.gptp i with gm := gm, steps := steps, isGm := gm == Config.serial, path := if trace then path ++ [Config.serial] else [] }
      (s.setGptp i g).setGport i p { s.gport i p with role := role }
  | .signaling n => if logSyncOk n then s.setGport i p { s.gport i p with logSync := some n } else s

/-- A port takes part in an instance: the instance is enabled, the port time-aware, enabled and up. -/
def State.gptpAt (s : State) (i p : Nat) : Bool :=
  decide (i < 2) && decide (p < 16) && s.rdb (F.TSN_GPTP_ENABLE i) && s.portOn p && s.linkUp p

/-- GPTP_MESSAGE_RECEIVE at an external time-aware port with its link up (R274). -/
def gptpMessageReceive (t i p len : Nat) (m : GptpMsg) (s : State) : State :=
  let s := s.at_ t
  if s.gptpAt i p then
    let s := (s.count p cRX_FRAMES 1).count p cRX_BYTES len
    (s.setGport i p { s.gport i p with rxAt := s.now }).gptpMsg i p m
  else s

/-- What origin time and correctionField of a Sync add up to as this unit sends it at a port: a grandmaster's own time, or a
relayed Sync with its residence time added; none where there is nothing to send (R274, R275). -/
def State.syncOut (s : State) (i p : Nat) : Option Int :=
  if (s.gptp i).isGm then some s.now
  else match (s.gptp i).sync with
    | some (q, there, rx) => if q = p then none else some (there + ((s.now - rx : Nat) : Int))
    | none => none

/-- What the Sync of a two-step port carries: the time without this unit's residence, which its Follow_Up adds (R273, R274). -/
def State.syncStep1 (s : State) (i p : Nat) : Option Int :=
  if (s.gptp i).isGm then some s.now
  else match (s.gptp i).sync with
    | some (q, there, _) => if q = p then none else some there
    | none => none

/-- GPTP_MESSAGE_INTERVAL: the Sync of a master port, with its Follow_Up at a two-step port, or the peer-delay message of another, is
sent and time-stamped (R273, R274, R276). -/
def gptpMessageInterval (t i p len : Nat) (s : State) : State :=
  let s := s.at_ t
  if s.gptpAt i p then
    let s := (s.count p cTX_FRAMES 1).count p cTX_BYTES len
    let x := s.gport i p
    let two := s.rdb (F.TSN_GPTP_PORT_TWO_STEP i p)
    if s.portRole i p = 1 then
      s.setGport i p { x with txAt := s.now, sent := if two then s.syncStep1 i p else s.syncOut i p, follow := if two then s.syncOut i p else none }
    else s.setGport i p { x with txAt := s.now }
  else s

end Sys2Proof.Machine
end

