-- ==== Sys2Proof/Machine/TsnCmds.lean ====
section
/-!
DEFINITION. Machine/TsnCmds.lean: the TSN commands (R298–R304): steps 7 to 15 of R66 for each.
-/
namespace Sys2Proof.Machine

/-! ## Gate lists (R299) -/

/-- The key of a gate list: a port's or a stream gate's. -/
def gclKey (ty idx : Nat) : Nat := if ty = 0 then idx else kSg idx
def gclOwnKind (ty : Nat) : Nat := if ty = 0 then kPort else kSgate

/-- The entries of a list as its buffer gives them. -/
def gclEntries (b : List Byte) (n : Nat) : List (Nat × Nat × Nat) :=
  (List.range n).map (fun i => (leAt b (24 + 8 * i) 1, leAt b (25 + 8 * i) 1, leAt b (28 + 8 * i) 4))

/-- An entry is within the limits of R273, R278 and R286. -/
def State.gclEntryOk (s : State) (ty idx : Nat) (e : Nat × Nat × Nat) : Bool :=
  between 32 1000000000 e.2.2 &&
  (if ty = 0 then e.2.1 == 0 || (decide (e.2.1 ≤ 2) && decide (idx < 16) && s.rdb (F.TSN_PRE_CFG_PREEMPT_EN idx))
   else decide (e.1 ≤ 1) && (decide (e.2.1 ≤ 7) || e.2.1 == 0xFF))

/-- Entries that the other stream gates hold. -/
def State.sgEntries (s : State) (k : Nat) : Nat :=
  (s.tsn.gates.keys.filter (fun j => decide (32 ≤ j) && j != k)).foldl (fun a j =>
    let g := s.gates j
    a + max (match g.oper with | some l => l.ents.length | none => 0) (match g.pend with | some (l, _) => l.ents.length | none => 0)) 0

/-- The change instant of a list set by a command taken at `t` (R279). -/
def changeAt (t base cycle : Nat) : Nat :=
  if t < base then base else base + ((t + ms 1 - base) / cycle + 1) * cycle

def tsnGclSetBody (c : Cmd) (s : State) : Res :=
  let b := s.load (c.dAddr 0) (min (c.dSize 0) 2072)
  let ty := leAt b 0 1
  let idx := leAt b 2 2
  let base := leAt b 4 8
  let cyc := leAt b 12 4
  let n := leAt b 20 2
  let k := gclKey ty idx
  let es := gclEntries b n
  need (decide (24 + 8 * n ≤ c.dSize 0) && decide (ty ≤ 1) && leAt b 1 1 == 0 && decide (idx < (if ty = 0 then 28 else 256)) && between 1000 1000000000 cyc &&
    decide (leAt b 16 4 ≤ cyc) && leAt b 22 2 == 0 && between 1 (if ty = 0 then 256 else 64) n &&
    (List.range n).all (fun i => leAt b (26 + 8 * i) 2 == 0) && es.all (fun e => s.gclEntryOk ty idx e) && (ty == 0 || decide (s.sgEntries k + n ≤ 1024))) stBAD_ARGUMENT <|
  need (s.owns c (gclOwnKind ty) idx) stNOT_OWNER <|
  let tc := changeAt c.taken base cyc
  let s := s.setGates k { s.gates k with pendAt := s.now, pend := some ({ base := base, cycle := cyc, ext := leAt b 16 4, ents := es }, tc) }
  .done stOK (bytesLE 8 tc) (if ty = 0 then s.wrb (F.TSN_GATE_CTL_PENDING idx) true else s)

def tsnGclStatusBody (c : Cmd) (s : State) : Res :=
  let ty := c.arg 0 1
  let idx := c.arg 2 2
  need (decide (ty ≤ 1) && c.zero 1 1 && decide (idx < (if ty = 0 then 28 else 256))) stBAD_ARGUMENT <|
  need (s.mayRead c (gclOwnKind ty) idx || s.owns c (gclOwnKind ty) idx) stNOT_OWNER <|
  let g := s.gates (gclKey ty idx)
  let l := g.oper.getD {}
  let st := if ty = 0 then s.gateMask idx else b2n g.open_
  let en := if ty = 0 then s.rd (F.TSN_GATE_STAT_ENTRY idx) else g.entry
  .done stOK (bytesLE 8 l.base ++ bytesLE 4 l.cycle ++ bytesLE 2 l.ents.length ++ bytesLE 2 0 ++ bytesLE 8 ((g.pend.map (fun p => p.2)).getD 0) ++
    bytesLE 1 st ++ bytesLE 2 en ++ bytesLE 5 0) s

/-! ## Shapers and preemption (R300) -/

/-- The IDLE_SLOPE of a class, with one that waits for the next frame boundary. -/
def State.slopeOf (s : State) (p c : Nat) : Nat :=
  match s.tsn.slopeWant.get none (qOf p c) with | some w => w % 2 ^ 20 | none => s.rd (F.TSN_CBS_IDLE_SLOPE p c)

/-- A shaper word takes effect at the next frame boundary: at once while no frame leaves the port (R282). -/
def State.setSlope (s : State) (p c w : Nat) : State :=
  let s : State := { s with tsn.slopeWant := s.tsn.slopeWant.set (qOf p c) (some w) }
  if (s.swPort p).tx.isNone then s.takeSlopes p else s

def tsnShaperConfigBody (c : Cmd) (s : State) : Res :=
  let p := c.arg 0 1
  let k := c.arg 1 1
  let w := c.arg 4 4
  let sum := (List.range 8).foldl (fun a i => a + (if i = k then w % 2 ^ 20 else s.slopeOf p i)) 0
  need (decide (p < 28) && decide (k < 8) && c.zero 2 2 && bitsOf w 20 11 == 0 && decide (sum * 64 ≤ s.portRate p * 1000)) stBAD_ARGUMENT <|
  need (s.owns c kPort p) stNOT_OWNER <|
  .done stOK [] (s.credits.setSlope p k w)

def preemptFlds (p : Nat) : List CfgFld := [
  ⟨F.TSN_PRE_CFG_PREEMPT_EN p, .locked, anyVal⟩, ⟨F.TSN_PRE_CFG_VERIFY_DIS p, .locked, anyVal⟩, ⟨F.TSN_PRE_CFG_ADD_FRAG p, .locked, anyVal⟩,
  ⟨F.TSN_PRE_CFG_VERIFY_TIME p, .locked, between 1 128⟩, ⟨F.TSN_PRE_CFG_PREEMPTABLE p, .locked, anyVal⟩]

def tsnPreemptConfigBody (c : Cmd) (s : State) : Res :=
  let p := c.arg 0 1
  let ims := [c.image (R.TSN_PRE_CFG p) 4]
  need (decide (p < 16) && c.zero 1 3 && imagesOk (preemptFlds p) ims) stBAD_ARGUMENT <|
  need (s.owns c kPort p) stNOT_OWNER <|
  s.configure (preemptFlds p) ims (s.portStopped p) 0

/-! ## Streams and recovery (R301, R302) -/

/-- Stage several fields, answering STAGED if one of them changes (R301). -/
def State.stageAll (s : State) (l : List (Fld × Nat)) : Nat × State :=
  if l.all (fun p => s.shadow p.1 == p.2) then (stOK, s) else (stSTAGED, foldS l (fun p s => s.stage p.1 p.2) s)

def tsnStreamSetBody (c : Cmd) (s : State) : Res :=
  let n := c.arg 0 2
  let id := c.arg 2 1
  let f := c.arg 3 1
  let mac := natBE (c.argBytes 4 6)
  let vid := c.arg 10 2
  let opt (v m : Nat) : Bool := decide (v ≤ m) || v == 0xFFFF
  need (decide (n < 1024) && decide (id ≤ 2) && decide (f < 32) && (id == 0 || between 1 4094 vid) && decide (vid < 4096) && decide (c.arg 12 1 ≤ 7) && c.zero 13 1 &&
    opt (c.arg 16 2) 1023 && opt (c.arg 18 2) 255 && opt (c.arg 20 2) 255 && c.zero 22 2 && decide (c.arg 24 4 < 2 ^ 28) && c.zero 28 4) stBAD_ARGUMENT <|
  need (s.owns c kStream n) stNOT_OWNER <|
  let x := s.stream n
  let s := s.setStream n { x with
    seqGen := bitOf f 1, ipvValid := bitOf f 2, blockOver := bitOf f 3, ipv := c.arg 12 1, maxSdu := c.arg 14 2, policer := c.arg 16 2,
    sgate := c.arg 18 2, recov := c.arg 20 2, encode := c.arg 24 4, blocked := x.blocked && !bitOf f 4 }
  let r := s.stageAll [(F.TSN_STR_ID_IDTYPE n, id), (F.TSN_STR_ID_SAFETY n, f % 2), (F.TSN_STR_MACL_MAC n, mac % 2 ^ 32), (F.TSN_STR_MACH_MAC n, mac / 2 ^ 32), (F.TSN_STR_MACH_VID n, vid)]
  .done r.1 [] r.2

def tsnStreamStatusBody (c : Cmd) (s : State) : Res :=
  let n := c.arg 0 2
  need (decide (n < 1024) && c.zero 2 2) stBAD_ARGUMENT <|
  need (s.mayRead c kStream n || s.owns c kStream n) stNOT_OWNER <|
  let x := s.stream n
  .done stOK (bytesLE 8 s.now ++ [x.matched, x.dropOver, x.dropGate, x.dropMeter, x.passed, x.dup, x.rogue, x.resets].flatMap (fun v => bytesLE 4 v)) s

def tsnFrerSetBody (c : Cmd) (s : State) : Res :=
  let f := c.arg 0 2
  need (decide (f < 256) && decide (c.arg 2 1 ≤ 1) && between 2 32 (c.arg 3 1) && between 1 65535 (c.arg 4 2) && decide (c.arg 6 1 ≤ 1) &&
    between 1 65535 (c.arg 8 4) && c.zero 12 4) stBAD_ARGUMENT <|
  need (s.owns c kRecov f) stNOT_OWNER <|
  let r := s.stageAll [(F.TSN_FRER_A_ALG f, c.arg 2 1), (F.TSN_FRER_A_HISTORY f, c.arg 3 1), (F.TSN_FRER_B_RESET_MS f, c.arg 4 2),
    (F.TSN_FRER_A_LATENT f, c.arg 6 1), (F.TSN_FRER_A_LATENT_DIFF f, c.arg 7 1), (F.TSN_FRER_B_LATENT_PERIOD f, c.arg 8 4)]
  .done stSTAGED [] r.2

/-! ## gPTP and senders (R303, R304) -/

def tsnGptpStatusBody (c : Cmd) (s : State) : Res :=
  let i := c.arg 0 1
  let p := c.arg 1 1
  need (decide (i ≤ 1) && decide (p ≤ 15) && c.zero 2 2) stBAD_ARGUMENT <|
  let g := s.gptp i
  let x := s.glink i p
  .done stOK (bytesBE 8 g.gm ++ bytesLE 1 (s.rd (F.TSN_GPTP_DOMAIN i)) ++ bytesLE 1 (b2n g.isGm + 2 * b2n (s.isTaurnSource i)) ++ bytesLE 1 (s.portRole i p) ++
    bytesLE 1 (b2n x.asCap) ++ bytesLE 8 (unsgn 64 (s.gptpOffset i)) ++ bytesLE 4 (s.pathDelay i p) ++ bytesLE 8 (unsgn 64 x.ratio) ++ bytesLE 2 g.steps ++
    bytesLE 1 (s.logSyncOf i p) ++ bytesLE 5 0) s

/-- A target code of R36. -/
def targetOk (v : Nat) : Bool := decide (v ≤ 0x10) || (decide (0x18 ≤ v) && decide (v ≤ 0x1F)) || v == 0x3F

def faSenderSetBody (c : Cmd) (s : State) : Res :=
  let n := c.arg 0 1
  let w := c.arg 4 4
  need (decide (n < 64) && c.zero 1 3 && bitsOf w 22 9 == 0 && bitsOf w 8 8 == 0 && targetOk (bitsOf w 16 6)) stBAD_ARGUMENT <|
  need c.isSecure stNOT_OWNER <|
  let r := s.stageAll [(F.TSN_FA_SND_CFG_VALID n, bitsOf w 31 1), (F.TSN_FA_SND_CFG_HOLDER n, bitsOf w 16 6), (F.TSN_FA_SND_CFG_KEY_SLOT n, w % 256)]
  .done stSTAGED [] r.2

def faStatusBody (c : Cmd) (s : State) : Res :=
  let n := c.arg 0 1
  need ((decide (n < 64) || n == 0xFF) && c.zero 1 3) stBAD_ARGUMENT <|
  need (c.isSecure || (c.node == 0xFFFF && n != 0xFF && s.shareOf (s.rd (F.TSN_FA_SND_CFG_HOLDER n)) == c.who)) stNOT_OWNER <|
  let cnt (r : Nat) : Nat := if n = 0xFF then (List.range 65).foldl (fun a k => a + s.tsn.faCnt.get 0 (16 * k + r)) 0 else s.tsn.faCnt.get 0 (16 * n + r)
  .done stOK (bytesLE 8 (if n = 0xFF then 0 else s.faSeq n) ++ (List.range 10).flatMap (fun r => bytesLE 4 (cnt r))) s

def dTsnGclSet : CmdDef := { op := 0x050C, lens := fun _ => false, descs := [[0]], names := fun c s => let b := s.load (c.dAddr 0) 4; [okey (gclOwnKind (leAt b 0 1)) (leAt b 2 2)], body := tsnGclSetBody }
def dTsnGclStatus : CmdDef := { op := 0x050D, lens := lenIs 4, names := fun c _ => [okey (gclOwnKind (c.arg 0 1)) (c.arg 2 2)], body := tsnGclStatusBody }
def dTsnShaperConfig : CmdDef := { op := 0x050E, lens := lenIs 8, names := argKey kPort 0 1, body := tsnShaperConfigBody }
def dTsnPreemptConfig : CmdDef := { op := 0x050F, lens := lenIs 12, names := argKey kPort 0 1, body := tsnPreemptConfigBody }
def dTsnStreamSet : CmdDef := { op := 0x0510, lens := lenIs 32, names := argKey kStream 0 2, body := tsnStreamSetBody }
def dTsnStreamStatus : CmdDef := { op := 0x0511, lens := lenIs 4, names := argKey kStream 0 2, body := tsnStreamStatusBody }
def dTsnFrerSet : CmdDef := { op := 0x0512, lens := lenIs 16, names := argKey kRecov 0 2, body := tsnFrerSetBody }
def dTsnGptpStatus : CmdDef := { op := 0x0513, lens := lenIs 4, coppice := true, body := tsnGptpStatusBody }
def dFaSenderSet : CmdDef := { op := 0x0514, lens := lenIs 8, names := argKey 22 0 1, body := faSenderSetBody }
def dFaStatus : CmdDef := { op := 0x0515, lens := lenIs 4, coppice := true, names := argKey 22 0 1, body := faStatusBody }

end Sys2Proof.Machine
end

