-- ==== Sys2Proof/Machine/ConfigSet.lean ====
section
/-!
DEFINITION. Machine/ConfigSet.lean: configuration images and their two copies in MRAM (R506–R510), the content check, and
loading a set (R512, R529).
-/
namespace Sys2Proof.Machine

open Host

/-! ## The tables of a base image

The spec gives the record area's layout and not the tables' (R506): an uninterpreted function reads them. -/

/-- What the tables of a base image hold (R506, TBL_OFF): register fields, ownership, and the entries of the subject
chapters that are no registers. -/
structure Tables where
  words   : List Rec
  owns    : Tab Own
  /-- the gateway's entries of 32 bytes, and the templates of level-2 routes (R340, R345) -/
  routeEnts : Tab (List Byte)
  tmpls   : Tab (List Byte)
  sigEnts : List (List Byte)
  conts   : Tab GCont
  nConts  : Nat
  vlans   : Tab Vlan
  pols    : Tab Pol
  polBind : Tab Nat
  fdb     : Tab FdbE
  secy    : Tab SecY
  streams : Tab Stream
  lin     : Tab (Tab LinTable)
  swk     : Tab Swk
  voters  : Nat
  ovlCtrl : Nat
  roots   : Tab SegRoot
  mapFix  : List (Nat × Nat)
  stores  : Tab Nat
  slots   : Tab KeySlot
  cycKey  : Nat
  devArea : Nat × Nat
deriving DecidableEq, Repr

/-- The tables that the table area of a base image holds: not stated. -/
opaque Config.tables : List Byte → Option Tables

/-- The routes and the signals that the entries spell (R340, R345). -/
def Tables.routes (t : Tables) : Tab GRoute := { cells := t.routeEnts.cells.map (fun p => (p.1, routeEntry p.2 (t.tmpls.get [] p.1))) }
def Tables.sigs (t : Tables) : List GSig := t.sigEnts.map sigEntry

/-- ENABLE of the routes, as records of its register (R340). -/
def Tables.routeRecs (t : Tables) : List Rec := t.routeEnts.cells.map (fun p => ⟨R.GWY_ROUTE p.1, b2n (bitOf (leAt p.2 9 1) 0), 1⟩)

/-! ## Images (R506) -/

/-- Base address of copy 0 (A) or 1 (B), and of an image in it; image 16 is the base (R509). -/
def copyBase (k : Nat) : Nat := 0x4000000 + 0x800000 * k
def imgOff (i : Nat) : Nat := if i = 16 then 0 else 0x400000 + 0x10000 * i
def imgMax (i : Nat) : Nat := if i = 16 then 0x400000 else 0x10000

/-- A candidate set: its generation, its base image and its overlay images (none: absent). -/
structure CfgSet where
  gen  : Nat
  base : List Byte
  ovls : List (Option (List Byte))
deriving DecidableEq, Repr

/-- A record as it stands in an image: block code, instance, offset, value and mask. -/
structure RawRec where
  code : Nat
  inst : Nat
  off  : Nat
  value : Nat
  mask : Nat
deriving DecidableEq, Repr

/-- The record area of an image. -/
def rawRecs (b : List Byte) : List RawRec :=
  (List.range (leAt b 36 4)).map (fun i =>
    let o := leAt b 32 4 + 16 * i
    ⟨leAt b o 2, leAt b (o + 2) 2, leAt b (o + 4) 4, leAt b (o + 8) 4, leAt b (o + 12) 4⟩)

/-- The base address of a block instance (R10, R506). -/
def blockBase (code inst : Nat) : Option Nat :=
  match code with
  | 0x0 => if inst ≤ 16 then some (R.MBX_ID inst) else none
  | 0x1 => if inst = 0 then some 0x10010000 else none
  | 0x2 => if inst = 0 then some 0x10020000 else none
  | 0x3 => if inst = 0 then some 0x10030000 else none
  | 0x4 => if inst = 0 then some 0x10040000 else none
  | 0x5 => if inst = 0 then some 0x10A00000 else if inst ≤ 64 then some (0x10100000 + 0x1000 * (inst - 1)) else none
  | 0x6 => if inst = 0 then some 0x10B00000 else none
  | 0x7 => if inst < 16 then some (0x10200000 + 0x4000 * inst) else none
  | 0x8 => if inst < 8 then some (0x10280000 + 0x1000 * inst) else none
  | 0x9 => if inst = 0 then some 0x10C00000 else none
  | 0xA => if inst = 0 then some 0x10D00000 else none
  | 0xB => if inst = 0 then some 0x10D80000 else none
  | 0xC => if inst = 0 then some 0x10800000 else if inst ≤ 32 then some (0x10810000 + 0x1000 * (inst - 1)) else none
  | 0xD => if inst = 0 then some 0x10900000 else none
  | 0xE => if inst = 0 then some 0x10400000 else none
  | 0xF => if inst = 0 then some 0x10E00000 else none
  | 0x10 => if inst = 0 then some 0x10E80000 else none
  | 0x11 => if inst = 0 then some 0x10F00000 else none
  | _ => none

/-- The register that a record names: of its block, or an entry of a table that the model keeps as a register. -/
def RawRec.addr (r : RawRec) : Option Nat :=
  match blockBase r.code r.inst with
  | some b =>
    if (regRow (b + r.off)).isSome then some (b + r.off)
    else
      let e := Config.recEntry r.code r.inst r.off
      if 0x10000000000 ≤ e ∧ (regRow e).isSome = true then some e else none
  | none => none

/-- A record's mask covers whole fields and no reserved bit of its register, its value holds no reserved bit (R14), and an
overlay's record names STAGED fields only (R507, R508). -/
def RawRec.ok (r : RawRec) (ovl : Bool) : Bool :=
  if r.code = 0xFFFF then true
  else match r.addr with
    | some a =>
      (match regRow a with
       | some w =>
         w.flds.all (fun f => bitsOf r.mask f.1 f.2 == 0 || bitsOf r.mask f.1 f.2 == 2 ^ f.2 - 1) &&
         (r.mask == w.flds.foldl (fun m f => m + bitsOf r.mask f.1 f.2 * 2 ^ f.1) 0) &&
         (r.value &&& reservedBits a == 0) && (!ovl || r.mask &&& w.staged == r.mask)
       | none => false)
    | none => false

/-- A record as the model keeps it. -/
def RawRec.toRec (r : RawRec) : Option Rec := if r.code = 0xFFFF then none else r.addr.map (fun a => ⟨a, r.value, r.mask⟩)

/-- An ownership record. -/
def RawRec.own (r : RawRec) : Option (Nat × Own) :=
  if r.code = 0xFFFF then
    let o := Config.ownRecord r.inst r.off r.value r.mask
    some (o.1, ⟨o.2.1, o.2.2⟩)
  else none

/-- A NAME: ASCII, padded with zeros. -/
def nameOk (b : List Byte) : Bool := (b.dropWhile (fun x => x != 0)).all (fun x => x == 0) && b.all (fun x => decide (x.toNat < 128))

/-- A header is well formed (R506): image 16 is the base. -/
def headOk (b : List Byte) (i gen : Nat) : Bool :=
  let base := i == 16
  decide (64 ≤ b.length) && (leAt b 0 4 == 0x43464731) && (leAt b 4 2 == 1) && (leAt b 6 1 == (if base then 0 else 1)) &&
  (leAt b 7 1 == (if base then 0xFF else i)) && (leAt b 8 4 == gen) && (leAt b 12 4 == b.length) && nameOk (slice b 16 16) &&
  decide (leAt b 32 4 + 16 * leAt b 36 4 ≤ b.length) &&
  (if base then leAt b 40 4 == 0 || leAt b 40 4 == 2 else decide (leAt b 40 4 ≤ 1)) &&
  (if base then decide (leAt b 44 1 < 16) || leAt b 44 1 == 0xFF else leAt b 44 1 == 0xFF) && (leAt b 45 3 == 0) &&
  (if base then decide (leAt b 48 4 + leAt b 52 4 ≤ b.length) else leAt b 48 8 == 0) && (leAt b 56 8 == 0)

/-- The overlay that an image holds. -/
def overlayOf (b : List Byte) : Overlay :=
  { present := true, sleepOk := bitOf (leAt b 40 4) 0, recs := (rawRecs b).filterMap (fun r => r.toRec), owns := (rawRecs b).filterMap (fun r => r.own) }

/-- An overlay of a set. -/
def CfgSet.ovl (c : CfgSet) (n : Nat) : Overlay := match c.ovls.getD n none with | some b => overlayOf b | none => {}

/-- The tables of a set. -/
def CfgSet.tables (c : CfgSet) : Option Tables := Config.tables (slice c.base (leAt c.base 48 4) (leAt c.base 52 4))

/-- The records of a base: its tables' fields, then its record area. -/
def CfgSet.recs (c : CfgSet) : List Rec :=
  (match c.tables with | some t => t.routeRecs ++ t.words | none => []) ++ (rawRecs c.base).filterMap (fun r => r.toRec)

/-- Register words under a list of records. -/
def putRec (r : Rec) (t : Tab Word) : Tab Word :=
  t.set r.addr ((t.get (resetWord r.addr) r.addr).merge (BitVec.ofNat 32 r.value &&& ~~~ (hardZero r.addr)) (BitVec.ofNat 32 r.mask))

/-- The base values of a set's registers. -/
def CfgSet.words (c : CfgSet) : Tab Word := foldS c.recs putRec Tab.empty

/-- The base owners of a set. -/
def CfgSet.owns (c : CfgSet) : Tab Own :=
  foldS ((rawRecs c.base).filterMap (fun r => r.own)) (fun p t => t.set p.1 p.2) (match c.tables with | some t => t.owns | none => Tab.empty)

/-! ## The copies (R509, R510) -/

/-- The tag-table entry of an image (R509). -/
def State.tagEntry (s : State) (k i : Nat) : List Byte := s.load (copyBase k + 0x500000 + 64 * i) 64

/-- The image is absent: its entry is zeros. -/
def State.imgAbsent (s : State) (k i : Nat) : Bool := (s.tagEntry k i).all (fun b => b == 0)

/-- The bytes of an image. -/
def State.image (s : State) (k i : Nat) : List Byte := s.load (copyBase k + imgOff i) (leAt (s.tagEntry k i) 4 4)

/-- The tag of an image verifies (R509). -/
def State.tagOk (s : State) (k i : Nat) : Bool :=
  let e := s.tagEntry k i
  decide (leAt e 4 4 ≤ imgMax i) && (leAt e 8 8 == 0) && (slice e 16 48 == Config.hmac384 (s.domainKey 1) (s.image k i))

/-- Every tag of a copy verifies, and its base is present (R510). -/
def State.copyValid (s : State) (k : Nat) : Bool :=
  !s.hwn.spent && !s.imgAbsent k 16 && (List.range 17).all (fun i => s.imgAbsent k i || s.tagOk k i)

/-- The SET_GEN of a copy. -/
def State.copyGen (s : State) (k : Nat) : Nat := leAt (s.tagEntry k 16) 0 4

/-- The set that a copy holds. -/
def State.setOf (s : State) (k : Nat) : CfgSet :=
  { gen := s.copyGen k, base := s.image k 16, ovls := (List.range 16).map (fun i => if s.imgAbsent k i then none else some (s.image k i)) }

/-- The listed bytes of a copy, by their offset in it. -/
def State.copyCells (s : State) (k : Nat) : List Cell :=
  (s.mem.filter (fun c => decide (copyBase k ≤ c.1) && decide (c.1 < copyBase k + 0x800000))).map (fun c => (c.1 - copyBase k, c.2))

/-- The offset of the first byte in which two copies differ. -/
def firstDiff : List Cell → List Cell → Option Nat
  | [], [] => none
  | (a, _) :: _, [] => some a
  | [], (b, _) :: _ => some b
  | (a, x) :: l, (b, y) :: m => if a = b then (if x = y then firstDiff l m else some a) else some (min a b)

/-- Copy one copy over the other in full. -/
def State.repairCopy (s : State) (target : Nat) : State :=
  { s with mem := foldS (s.copyCells (1 - target)) (fun c m => Memory.put (copyBase target + c.1) c.2 m) (Memory.zero s.mem (copyBase target) 0x800000) }

/-- The source of a repair: A is 0, B is 1 (R510). -/
def State.repairSource (s : State) : Option Nat :=
  let a := s.copyValid 0
  let b := s.copyValid 1
  if a && b then (if s.copyGen 0 < s.copyGen 1 then some 1 else some 0) else if a then some 0 else if b then some 1 else none

/-- CFG_GEN_A and CFG_GEN_B follow the copies. -/
def State.copyGens (s : State) : State :=
  let g (k : Nat) : Nat := if s.copyValid k then s.copyGen k else 0
  (s.setWord R.CFG_GEN_A (BitVec.ofNat 32 (g 0))).setWord R.CFG_GEN_B (BitVec.ofNat 32 (g 1))

/-- The bitwise comparison and its repair (R510). -/
def State.compareCopies (s : State) : State :=
  let s : State := { s with cfg.cmpAt := s.now }
  match firstDiff (s.copyCells 0) (s.copyCells 1) with
  | none => (s.wr F.CFG_CMP_LAST (if (s.repairSource).isNone then 3 else 0)).copyGens
  | some d =>
    let s := s.sat F.CFG_CMP_DIVERGES 1
    match s.repairSource with
    | some k => (((s.repairCopy (1 - k)).wr F.CFG_CMP_LAST (2 - k)).sysFault 0x0D01 .corrected (1 - k) d).copyGens
    | none => ((s.wr F.CFG_CMP_LAST 3).sysFault 0x0D01 .corrected 0xFFFF d).copyGens

/-- CONFIG_COPY_COMPARE: every 10 s (R510). -/
def configCopyCompare (t : Nat) (s : State) : State :=
  let s := s.at_ t
  if (s.dev = .running ∨ s.dev = .fault ∨ s.dev = .coppice ∨ (s.dev = .starting ∧ s.boot.stage ≠ .images ∧ s.boot.stage ≠ .rom)) ∧ s.cfg.cmpAt + sec 10 ≤ s.now then
    s.compareCopies
  else s

/-! ## The content check (R508) -/

/-- The state with a set's base values in place, for conditions that the chapters state over configured registers. -/
def State.trial (s : State) (c : CfgSet) : State :=
  { s with regs := c.words, own := c.owns }

/-- Registers under further records, for the conditions over an overlay's values. -/
def State.withRecs (s : State) (l : List Rec) : State := { s with regs := foldS l putRec s.regs }

/-- The interrupt trigger rule (R35). -/
def State.trigRule (s : State) : Bool :=
  (List.range 1024).all (fun n => reservedSource n || (s.rdb (F.IRQ_ROUTE_TRIG n) == !levelSource n))

/-- The gang rules (R123): 2 to 64 members of one feed, and no terminal in two gangs. -/
def State.gangRule (s : State) : Bool :=
  (List.range 64).all (fun g => !s.rdb (F.PFB_GANG_DEF_VALID g) ||
    (let n := (s.gangMembers g).length
     decide (2 ≤ n) && decide (n ≤ 64) && (s.gangMembers g).all (fun t => s.gangOf t == some g)))

/-- Hosting (R407): at least one core for each partition of the cluster, exactly one HOST among them, and one partition on a
safety pair or split core. -/
def State.hostRule (s : State) : Bool :=
  let ac := (List.range 16).filter (fun v => s.rd (F.MPC_PART_CFG_HOSTING v) == 1)
  let hosts := (List.range 16).filter (fun v => s.rdb (F.MPC_PART_CFG_HOST v))
  ac.all (fun v => s.rd (F.MPC_PART_CFG_AFFINITY v) != 0) &&
  (if ac = [] then hosts.isEmpty else decide (hosts.length = 1) && hosts.all (fun v => ac.contains v)) &&
  (List.range 4).all (fun n =>
    let a := (List.range 16).filter (fun v => s.rd (F.MPC_PART_CFG_HOSTING v) == 2 && s.rd (F.MPC_PART_CFG_SCORE v) == 2 * n)
    let b := (List.range 16).filter (fun v => s.rd (F.MPC_PART_CFG_HOSTING v) == 2 && s.rd (F.MPC_PART_CFG_SCORE v) == 2 * n + 1)
    decide (a.length ≤ 1) && (if s.rdb (F.FLT_LS_CFG_SPLIT n) then decide (b.length ≤ 1) else b.isEmpty))

/-- The bandwidth sum (R422). -/
def State.bandRule (s : State) : Bool :=
  decide ((List.range 16).foldl (fun n v => n + s.rd (F.MPC_PART_REG_BUDGET v)) 0 ≤ 80 * s.rd F.MPC_REG_CFG_PERIOD)

/-- No owner and no holder of a ring pair is a partition that is hosted nowhere (R407). -/
def State.hosted (s : State) (w : Nat) : Bool := decide (16 ≤ w) || s.rd (F.MPC_PART_CFG_HOSTING w) != 0
def State.ownRule (s : State) : Bool :=
  s.own.cells.all (fun p => s.hosted p.2.owner) && (List.range 64).all (fun r => s.hosted (s.rd (F.SWC_RING_CTL_HOLDER r)))

/-- The ownership records of an overlay: owners that are hosted, and no other owner of a CAN or LIN channel (R407, R408). -/
def State.ovlOwnRule (s : State) (o : Overlay) : Bool :=
  o.owns.all (fun p => s.hosted p.2.owner && (!fixedOwner p.1 || p.2.owner == (s.own.get {} p.1).owner))

/-- The lock rule (R448). -/
def State.lockRule (s : State) : Bool :=
  (List.range 6).all (fun m => (List.range 32).all (fun r =>
    !s.rdb (F.MPC_R_ATTR_LOCK m r) || (s.rdb (F.MPC_R_ATTR_SEC m r) && !s.rdb (F.MPC_R_ATTR_NS m r))))

/-- The regions (R446, R452): a range within the target range of its controller, and a gateway region secure, not normal,
executable, and of the system SRAM or the DRAM. -/
def State.regionRule (s : State) : Bool :=
  (List.range 6).all (fun m => (List.range 32).all (fun r =>
    let a := s.rd (F.MPC_R_START_START m r)
    let b := s.rd (F.MPC_R_END_END m r)
    !s.rdb (F.MPC_R_ATTR_VALID m r) ||
      (decide (a ≤ b) && (mpcOf (4096 * a) == some m) && (mpcOf (4096 * b + 4095) == some m) &&
       (!s.rdb (F.MPC_R_ATTR_GW m r) ||
         ((m == 0 || m == 5) && s.rdb (F.MPC_R_ATTR_SEC m r) && !s.rdb (F.MPC_R_ATTR_NS m r) && s.rdb (F.MPC_R_ATTR_X m r))))))

/-- The uses that a key type permits, as a mask (R467). -/
def usesOf (ty : Nat) : Nat := ([0, 0xCF, 0xCF, 0x8C, 0x2C, 0x20, 0x18] : List Nat).getD ty 0

/-- The levels of a slot below its domain, counted to 5 (R467). -/
def Tables.slotLevel (t : Tables) : Nat → Nat → Nat
  | 0, _ => 5
  | n + 1, k =>
    let p := (t.slots.get {} k).parent
    if 0x8000 ≤ p then 1 else min 5 (1 + t.slotLevel n p)

/-- The definitions of the key slots (R467, R468): a type and the uses it permits, a parent at most 4 levels below a domain, a label
for a derived slot, a wrapping parent for an imported one, and DERIVE with a derivation key as parent. -/
def State.slotRule (s : State) (t : Tables) : Bool :=
  (List.range 256).all (fun k =>
    let ty := s.slotType k
    let use := s.rd (F.HWN_SLOT_STAT_USE k)
    let x := t.slots.get {} k
    let slotParent := decide (x.parent < 256)
    decide (ty ≤ 6) && (use &&& usesOf ty == use) &&
    (ty == 0 || ((slotParent || between 0x8000 0x8007 x.parent) && decide (t.slotLevel 4 k ≤ 4) &&
      (if x.imported then slotParent && s.slotUse x.parent 6
       else between 1 32 x.label.length && (!slotParent || !(s.slotType x.parent == 4 || s.slotType x.parent == 5) || s.slotUse x.parent 5)))))

/-- Storage sizes (R424): at most 48 GiB in blocks of 4 KiB. -/
def Tables.storeRule (t : Tables) : Bool := decide ((t.stores.cells.foldl (fun n c => n + c.2) 0) ≤ 12582912)

/-- The object that a route's endpoint word names, for its ownership (R336, R337). -/
def epObject (e : Nat) : Option (Nat × Nat) :=
  if e / 2 ^ 28 = 1 then some (kCan, bitsOf e 16 4) else if e / 2 ^ 28 = 2 then some (kLin, bitsOf e 16 3)
  else if e / 2 ^ 28 = 3 then some (kCont, bitsOf e 16 6) else none

/-- The signal entries of a route of the tables (R340). -/
def Tables.sigsOf (t : Tables) (x : GRoute) : List GSig := if x.level = 2 then (t.sigs.drop x.first).take x.count else []

/-- The source endpoints of a route of the tables. -/
def Tables.sources (t : Tables) (x : GRoute) : List Nat := if x.level = 1 then [x.src] else ((t.sigsOf x).map (fun g => g.src)).eraseDups

/-- The defined routes of the tables. -/
def Tables.routeList (t : Tables) : List (Nat × GRoute) := t.routes.cells.filter (fun p => p.2.defined)

/-- An endpoint word names a source: a CAN receive object, a LIN subscribe buffer or a PDU_ID (R337). -/
def State.srcOk (s : State) (e : Nat) : Bool :=
  if e / 2 ^ 28 = 1 then e == epCan (bitsOf e 16 4) (bitsOf e 0 9) && !s.isTx (bitsOf e 16 4) (bitsOf e 0 9)
  else if e / 2 ^ 28 = 2 then e == epLin (bitsOf e 16 3) (bitsOf e 0 6) && !s.linPub (bitsOf e 16 3) (bitsOf e 0 6)
  else e / 2 ^ 28 == 3 && e == epPdu (bitsOf e 0 16)

/-- DST, DLEN and DFFLAGS of a route: a CAN transmit object with a CAN data length, a LIN publish buffer with its LEN, or a PDU_ID
in a container (R337, R340). -/
def State.dstOk (s : State) (t : Tables) (x : GRoute) : Bool :=
  let e := x.dst
  if e / 2 ^ 28 = 1 then
    e == epCan (bitsOf e 16 4) (bitsOf e 0 9) && s.isTx (bitsOf e 16 4) (bitsOf e 0 9) && decide (x.dff ≤ 3) && x.dff != 2 &&
    ([0, 1, 2, 3, 4, 5, 6, 7, 8, 12, 16, 20, 24, 32, 48, 64].contains x.dlen) && (decide (x.dlen ≤ 8) || bitOf x.dff 0)
  else if e / 2 ^ 28 = 2 then
    e == epLin (bitsOf e 16 3) (bitsOf e 0 6) && s.linPub (bitsOf e 16 3) (bitsOf e 0 6) && (x.dff == 0) && between 1 8 x.dlen
  else e / 2 ^ 28 == 3 && e == epPdu (bitsOf e 0 16) + 0x10000 * bitsOf e 16 6 && (x.dff == 0) && decide (x.dlen ≤ 64) && decide (bitsOf e 16 6 < t.nConts)

/-- The limits of a signal entry (R345). -/
def GSig.ok (g : GSig) : Bool :=
  decide (g.sstart ≤ 511) && decide (g.dstart ≤ 511) && between 1 32 g.slen && between 1 32 g.dlen && decide (g.act ≤ 2) && between 1 0xFFFFFFFF g.den &&
  decide (g.lo ≤ g.hi) &&
  (if g.dsgn then decide (-(2 ^ (g.dlen - 1) : Int) ≤ g.lo) && decide (g.hi < (2 ^ (g.dlen - 1) : Int)) else decide (0 ≤ g.lo) && decide (g.hi < (2 ^ g.dlen : Int)))

/-- The limits of a route entry (R336, R340). -/
def State.routeOk (s : State) (t : Tables) (x : GRoute) : Bool :=
  s.dstOk t x && (t.sources x).all (fun e => s.srcOk e) && decide (x.minGap ≤ 60000) && decide (x.tmoAct ≤ 2) &&
  (if x.level = 1 then !x.onChange && (x.count == 0)
   else (x.level == 2) && (x.src == 0) && between 1 32 x.count && decide (x.first + x.count ≤ t.sigs.length) && (t.sigsOf x).all (fun g => g.ok))

/-- The route rule (R336–R340, R348): the limits of the gateway, one route to a destination, 8 routes from a source, and the owner of
a route owns its destination and may read its sources. -/
def State.routeRule (s : State) (t : Tables) : Bool :=
  let l := t.routeList
  t.routeEnts.cells.all (fun p => routeEntryOk p.2) && t.sigEnts.all sigEntryOk && decide (t.sigs.length ≤ 16384) && decide (t.nConts ≤ 64) &&
  t.conts.cells.all (fun p => between 250000 100000000 p.2.tmo && between 64 1500 p.2.maxLen) &&
  l.all (fun p =>
    let w := s.ownerOf kRoute p.1
    decide (p.1 < 4096) && s.routeOk t p.2 && l.all (fun q => q.1 == p.1 || q.2.dst != p.2.dst) &&
    (t.sources p.2).all (fun e => decide ((l.filter (fun q => (t.sources q.2).contains e)).length ≤ 8)) &&
    (match epObject p.2.dst with | some (k, i) => s.ownerOf k i == w | none => true) &&
    (t.sources p.2).all (fun e => match epObject e with | some (k, i) => k == kCont || s.ownerOf k i == w || bitOf (s.ownOf k i).readers w | none => true))

/-- The fields whose permitted values a field table states, as the configuration commands know them. -/
def rangedFlds : List CfgFld :=
  (List.range 512).flatMap cellFlds ++ (List.range 64).flatMap gangFlds ++ (List.range 32).flatMap bridgeFlds ++ (List.range 28).flatMap portFlds ++
  (List.range 224).flatMap queueFlds ++ (List.range 16).flatMap preemptFlds ++ (List.range 16).flatMap canFlds ++ (List.range 8).flatMap linFlds

/-- Fields that no configuration command writes, with the range that their field table states. -/
def setFlds : List (Fld × (Nat → Bool)) :=
  [(F.TBS_CFG_SLEW_MAX, between 1 100), (F.TBS_CFG_STEP_THRESH, between 10 10000), (F.TBS_CFG_SOURCE, upTo 2),
   (F.PFB_GOV_CFG_DEFER_MAX, between 1 255), (F.PFB_GOV_CFG_ELOG_INT, between 1 3600), (F.SWC_FDB_CFG_AGE_TIME, between 10 3600),
   (F.WAK_CFG0_READY_DLY, upTo 10000), (F.WAK_CFG0_PREP_MS, between 1 55), (F.WAK_CFG0_WAKE_FILT, between 1 20),
   (F.WAK_CFG1_WOUT_MS, between 1 255), (F.WAK_CFG1_WOUT_MODE, upTo 2), (F.HDG_CFG_ROLE, upTo 2), (F.MPC_REG_CFG_PERIOD, between 1 1000),
   (F.MPC_GW_CFG_TMO, between 1 10000), (F.HWN_CFG_REMASK_MIN, between 1 60), (F.FLT_CFG_QUIET, between 1 6000),
   (F.FLT_CFG_HTIMER, between 1 10000), (F.CFG_MAINT_CFG_SCRUB_MIN, between 1 255), (F.CFG_MAINT_CFG_LBIST_S, between 1 255),
   (F.BOOT_CFG_ATTEMPT_LIMIT, between 2 7)] ++
  ([1, 2, 3, 4] : List Nat).flatMap (fun f => [(F.PFB_FEED_CFG0_FEED_LIMIT f, between 1 100), (F.PFB_FEED_CFG1_OVL_DLY f, between 10 10000),
    (F.PFB_FEED_CFG1_RESTORE_DLY f, between 1 100), (F.PFB_FEED_CFG1_STAGGER f, upTo 100)]) ++
  (List.range 4).map (fun n => (F.FLT_LS_CFG_RST_LIMIT n, between 1 15)) ++ (List.range 512).map (fun t => (F.PFB_PEXP_TYPE t, upTo 4)) ++
  (List.range 18).map (fun v => (F.PFB_ALLOT_ALLOT v, upTo 400000)) ++
  (List.range 16).flatMap (fun v => [(F.MPC_PART_CFG_HOSTING v, upTo 2), (F.MPC_PART_REG_MODE v, upTo 1)]) ++
  (List.range 8).flatMap (fun c => (List.range 64).map (fun i => (F.LIN_BUF_CFG_LEN c i, between 1 8)))

/-- A value that a field table permits in an image and no command may write: the driver of a bridge's leg (R134). -/
def imageOnly (f : Fld) (v : Nat) : Bool := (List.range 64).any (fun g => f == F.PFB_GANG_CFG1_DRIVER g) && v == 2

/-- Every field of a register that the set names lies within its range (R508). -/
def State.rangeRule (s : State) : Bool :=
  let named := s.regs.keys
  rangedFlds.all (fun f => !named.contains f.fld.reg || f.ok (s.rd f.fld) || imageOnly f.fld (s.rd f.fld)) &&
  setFlds.all (fun f => !named.contains f.1.reg || f.2 (s.rd f.1))

/-- The ranges that a field table states between two fields: declared currents, input thresholds, queue reserves and bit timings
(R108, R243, R305, R308). -/
def State.pairRule (s : State) : Bool :=
  (s.tops.all (fun x => !s.regs.keys.contains (R.PFB_BUD x) || between 10 (s.declMax x) (s.rd (F.PFB_BUD_I_DECL x)))) &&
  (List.range 512).all (fun n => decide (s.rd (F.PFB_CELL_CFG2_THR_LO n) < s.rd (F.PFB_CELL_CFG2_THR_HI n))) &&
  (List.range 224).all (fun q => decide (s.rd (F.SWC_Q_CFG0_Q_MIN q) ≤ s.rd (F.SWC_Q_CFG0_Q_MAX q))) &&
  decide ((List.range 224).foldl (fun n q => n + s.rd (F.SWC_Q_CFG0_Q_MIN q)) 0 ≤ 32768) &&
  (List.range 16).all (fun c => !(s.regs.keys.contains (R.CAN_NBT c) || s.regs.keys.contains (R.CAN_DBT c)) ||
    canTimingOk (s.word (R.CAN_NBT c)).toNat (s.word (R.CAN_DBT c)).toNat)

/-- The thresholds of a feed (R155). -/
def State.feedRule (s : State) : Bool :=
  ([1, 2, 3, 4] : List Nat).all (fun f =>
    let off := s.rd (F.PFB_FEED_CFG0_UV_OFF f)
    let on := s.rd (F.PFB_FEED_CFG0_UV_ON f)
    between 50 450 off && between (off + 5) (off + 100) on)

/-- Both legs of a bridge are gangs of one feed, and a gang belongs to at most one bridge (R134). -/
def State.bridgeRule (s : State) : Bool :=
  (List.range 32).all (fun h => !s.brgValid h ||
    (decide (s.legA h < 64) && decide (s.legB h < 64) && s.defined (xGang (s.legA h)) && s.defined (xGang (s.legB h)) &&
     (s.feedOf (xGang (s.legA h)) == s.feedOf (xGang (s.legB h))))) &&
  (List.range 64).all (fun g =>
    decide (((List.range 32).foldl (fun n h => n + (if s.brgValid h then b2n (s.legA h == g) + b2n (s.legB h == g) else 0)) 0) ≤ 1))

/-- RMIN does not exceed RMAX in a terminal's expectation (R146). -/
def State.expectRule (s : State) : Bool := (List.range 512).all (fun t => decide (s.rd (F.PFB_PEXP_RMIN t) ≤ s.rd (F.PFB_PEXP_RMAX t)))

/-- The options of the TSN standards are within those that R273 lists. -/
def State.tsnRule (s : State) : Bool :=
  (List.range 2).all (fun i => (List.range 16).all (fun p =>
    logSyncOk (s.rd (F.TSN_GPTP_PORT_LOG_SYNC i p)) && decide (s.rd (F.TSN_GPTP_PORT_LOG_PDELAY i p) ≤ 3))) &&
  (List.range 28).all (fun p => decide (((List.range 8).foldl (fun n c => n + s.rd (F.TSN_CBS_IDLE_SLOPE p c)) 0) * 64 ≤ s.portRate p * 1000)) &&
  s.streamsDefined.all (fun n => decide (s.rd (F.TSN_STR_ID_IDTYPE n) ≤ 2) && between 1 4094 (s.rd (F.TSN_STR_MACH_VID n))) &&
  (List.range 256).all (fun f => !s.regs.keys.contains (R.TSN_FRER_A f) || between 2 32 (s.rd (F.TSN_FRER_A_HISTORY f)))

/-- The TSN entries of the tables: policers, stream filters and gates, and recovery functions (R249, R273, R286). -/
def Tables.tsnRule (t : Tables) : Bool :=
  t.pols.cells.all (fun p => decide (p.1 < 1024) && decide (p.2.cir ≤ p.2.pir) && decide (p.2.pir ≤ 400000) && between 64 1048575 p.2.cbs && between 64 1048575 p.2.pbs) &&
  t.streams.cells.all (fun p => decide (p.1 < 1024) && decide (p.2.ipv ≤ 7) && (decide (p.2.sgate < 256) || p.2.sgate == 0xFFFF) &&
    (decide (p.2.recov < 256) || p.2.recov == 0xFFFF) && (decide (p.2.policer < 1024) || p.2.policer == 0xFFFF))

/-- The conditions over the base values, or over those of an overlay. -/
def State.valueRules (s : State) : Bool := s.rangeRule && s.pairRule && s.feedRule && s.bridgeRule && s.expectRule && s.tsnRule && s.bandRule

/-- The content check of a set (R508). -/
def State.contentOk (s : State) (c : CfgSet) : Bool :=
  headOk c.base 16 c.gen && (rawRecs c.base).all (fun r => r.ok false) &&
  (List.range 16).all (fun i => match c.ovls.getD i none with
    | some b => headOk b i c.gen && (rawRecs b).all (fun r => r.ok true) && (s.trial c).ovlOwnRule (overlayOf b) &&
        ((s.trial c).withRecs (overlayOf b).recs).valueRules
    | none => true) &&
  (c.ovls.getD 6 none).isSome && (leAt c.base 44 1 == 0xFF || (c.ovls.getD (leAt c.base 44 1) none).isSome) &&
  (match c.tables with
   | some t =>
     let s := s.trial c
     s.trigRule && s.gangRule && s.hostRule && s.ownRule && s.lockRule && s.regionRule && s.slotRule t && t.storeRule && s.routeRule t && t.tsnRule && s.valueRules
   | none => false) &&
  Config.contentRest c.base

/-! ## Loading (R512, R529) -/

/-- A register of the power fabric's blocks. -/
def inFabric (a : Nat) : Bool := decide (0x10800000 ≤ a) && decide (a ≤ 0x108FFFFF)

/-- Write the masked bits of base values to the registers that `p` selects. -/
def State.writeRecs (s : State) (l : List Rec) (p : Nat → Bool) : State :=
  foldS (l.filter (fun r => p r.addr)) (fun r s => s.setWord r.addr ((s.word r.addr).merge (BitVec.ofNat 32 r.value &&& ~~~ (hardZero r.addr)) (BitVec.ofNat 32 r.mask))) s

/-- The LOCKED bits of a register. -/
def lockedMask (a : Nat) : Word := match regRow a with | some r => BitVec.ofNat 32 r.locked | none => 0

/-- The registers that define an object and hold its LOCKED fields. -/
def objRegs (x : Nat) : List Nat :=
  if isCell x then [R.PFB_CELL_CFG0 x, R.PFB_CELL_CFG1 x, R.PFB_CELL_CFG2 x]
  else if isGang x then
    let g := x - 512
    [R.PFB_GANG_DEF g, R.PFB_GANG_MEM g 0, R.PFB_GANG_MEM g 1, R.PFB_GANG_MEM g 2, R.PFB_GANG_MEM g 3, R.PFB_GANG_CFG0 g, R.PFB_GANG_CFG1 g]
  else [R.PFB_BRG_CFG0 (x - 576), R.PFB_BRG_CFG1 (x - 576)]

/-- An object whose LOCKED fields differ from the loaded base (R529). -/
def State.lockDiffers (s : State) (x : Nat) : Bool :=
  (objRegs x).any (fun a => (s.word a &&& lockedMask a) != (s.baseWord a &&& lockedMask a))

/-- The overlay that becomes active at a start (R512). -/
def State.chooseOvl (s : State) : Nat :=
  if s.dev = .coppice then 6
  else if s.cfg.resumeLast && (s.overlay s.cfg.lastOvl).present then s.cfg.lastOvl else s.cfg.startOvl

/-- Make the start overlay active: STAGED fields and owners (R512, R515); the fabric's fields where `fab` says so. -/
def State.startOverlay (s : State) (fab : Bool) : State :=
  let n := s.chooseOvl
  let o := s.overlay n
  let s := s.applyBaseOn o (fun a => fab || !inFabric a)
  { (s.applyOwn o).wr F.CFG_STAT_OVERLAY n with fab.govCheck := true }

/-- The segment map with the FIXED entries of a base configuration, as serial number and position (R389): a LEARNED entry stays where
no FIXED one has its serial number or position. -/
def fixMap (l : List (Nat × Nat)) (m : List MapEntry) : List MapEntry :=
  l.map (fun p => { serial := p.1, pos := p.2, fixed := true }) ++ m.filter (fun e => !e.fixed && l.all (fun p => p.1 != e.serial && p.2 != e.pos))

/-- A route right after a load: all that it counts and holds is as `routeEntry` leaves it, RUN 1 with it, and a level-2 buffer is its
template (R347, R349, R354). -/
def GRoute.fresh (x : GRoute) : GRoute :=
  let b := slice x.tmpl 0 x.dlen
  { x with tmpl := b, buf := if x.level = 2 then some b else none }

/-- GW of the CAN objects that a route names (R338). -/
def State.markGw (s : State) (t : Tables) : State :=
  foldS (t.routeList.flatMap (fun p => p.2.dst :: t.sources p.2)) (fun e s =>
    if e / 2 ^ 28 = 1 then s.wrb (F.CAN_OBJ_STAT_GW (bitsOf e 16 4) (bitsOf e 0 9)) true else s) s

/-- The entries of the subject chapters' tables take effect; the policers with both buckets full (R249). -/
def State.loadTables (s : State) (t : Tables) : State :=
  let s : State := s.markGw t
  let s : State := { s with gwy.routes := { cells := t.routes.cells.map (fun p => (p.1, p.2.fresh)) }, gwy.sigs := t.sigs, gwy.conts := t.conts, gwy.nConts := t.nConts, gwy.running := true, gwy.loadAt := s.ioClock }
  let s : State := { s with swc.vlans := t.vlans, swc.polBind := t.polBind, swc.fdb := t.fdb, tsn.streams := t.streams }
  let s := foldS t.secy.cells (fun p s => s.setSwPort p.1 { s.swPort p.1 with secy := p.2 }) s
  let s : State := foldS t.lin.cells (fun p (s : State) => { s with lin := s.lin.set p.1 { s.lin.get {} p.1 with tables := p.2 } }) s
  let s : State := { s with slp.swk := (if s.rd F.BOOT_STAT_START_TYPE = 0 then t.swk else s.slp.swk), slp.voters := t.voters, hdg.roots := t.roots, hdg.map := fixMap t.mapFix s.hdg.map, cyc.keySlot := t.cycKey, cfg.ovlCtrl := t.ovlCtrl,
                            cfg.devArea := t.devArea }
  let s : State := foldS t.pols.cells (fun p (s : State) =>
    { s with swc.pols := s.swc.pols.set p.1 { p.2 with tc := p.2.cbs * 125000, tp := p.2.pbs * 125000, at_ := s.now } }) { s with swc.pols := Tab.empty }
  let s : State := foldS t.stores.cells (fun p (s : State) => { s with prt.stores := s.prt.stores.set p.1 { s.prt.stores.get {} p.1 with size := p.2 } }) s
  foldS t.slots.cells (fun p s => s.setSlot p.1 { s.slot p.1 with parent := p.2.parent, imported := p.2.imported, label := p.2.label }) s

/-- A CAN channel starts with the MODE of the base configuration, or stays OFF where its area fails its checks (R308, R310). -/
def State.startCan (s : State) (c : Nat) : State :=
  let m := s.rd (F.CAN_CTL_MODE c)
  if m = 0 ∨ s.rd (F.CAN_STAT_STATE c) ≠ 0 then s
  else
    let s := s.wr (F.CAN_CTL_MODE c) 0
    if s.canAreaOk c then s.canMode c m else s

/-- Load a set: base values, tables and the start overlay. At a start that does not reach FABRIC the fabric's registers
keep their values until BOOT_LOCK where SET_GEN differs (R529). -/
def State.loadSet (s : State) (c : CfgSet) : State :=
  let same := s.fab.gen == c.gen && s.fab.loaded
  let s : State := { s with cfg.base := c.words, cfg.baseOwn := c.owns, cfg.overs := [], cfg.pend := [],
                            cfg.ovls := { cells := (List.range 16).filterMap (fun i => if (c.ovl i).present then some (i, c.ovl i) else none) },
                            cfg.startOvl := leAt c.base 44 1, cfg.resumeLast := bitOf (leAt c.base 40 4) 1 }
  let whole := s.boot.fabric
  let s := s.writeRecs c.recs (fun a => whole || !inFabric a)
  let s := match c.tables with | some t => s.loadTables t | none => s
  let s := s.startOverlay (whole || same)
  let s : State := foldS (List.range 16) (fun c s => s.startCan c) (if whole || same then s else { s with boot.newFab := true })
  let s := (s.setWord R.CFG_GEN_RUN (BitVec.ofNat 32 c.gen)).wr F.CFG_STAT_STAGED_N 0
  { s with fab.loaded := true, fab.gen := c.gen, hwn.policyNext := (c.words.get (resetWord R.HWN_TAMPER_POL) R.HWN_TAMPER_POL).field 0 12 }

/-- At BOOT_LOCK of such a start: the fabric's LIVE and STAGED fields of the new set, and the objects whose LOCKED fields wait
(R529). -/
def State.fabricAtLock (s : State) : State :=
  if s.boot.newFab then
    let s := foldS (s.cfg.base.keys.filter (fun a => inFabric a)) (fun a s => s.setWord a ((s.word a).merge (s.baseWord a) (~~~ (lockedMask a)))) s
    let s := s.applyBaseOn (s.overlay (s.rd F.CFG_STAT_OVERLAY)) (fun a => inFabric a)
    let l := (List.range 608).filter (fun x => s.lockDiffers x)
    { s.wrb F.BOOT_STAT_FAB_PEND (!l.isEmpty) with boot.newFab := false, boot.lockPend := l, fab.govCheck := true }
  else s

/-- The state with the LOCKED fields of an object written from the base. -/
def State.withLocked (s : State) (x : Nat) : State :=
  foldS (objRegs x) (fun a s => s.setWord a ((s.word a).merge (s.baseWord a) (lockedMask a))) s

/-- Every terminal that an object covers is stopped. -/
def State.allStopped (s : State) (terms : List Nat) : Bool := terms.all (fun n => s.stopped (s.topOf n))

/-- An object that waits for its LOCKED fields takes them once its terminals of either set are stopped, and is probed
(R529). -/
def State.takeLocked (s : State) (x : Nat) : State :=
  let s' := s.withLocked x
  let terms := s.members x ++ s'.members x
  if s.boot.lockPend.contains x && s.allStopped terms then
    let l := s.boot.lockPend.filter (fun y => y != x)
    let s' : State := { s'.wrb F.BOOT_STAT_FAB_PEND (!l.isEmpty) with boot.lockPend := l }
    if terms = [] then s' else s'.requestAct { act := aPROBE, objs := (terms.map (fun n => s'.topOf n)).eraseDups }
  else s

/-- Objects that wait for LOCKED fields are looked at again. -/
def State.lockCheck (s : State) : State := foldS s.boot.lockPend (fun x s => s.takeLocked x) s

end Sys2Proof.Machine
end

