-- ==== Sys2Proof/Machine/KeyCmds.lean ====
section
/-!
DEFINITION. Machine/KeyCmds.lean: the key and tamper commands (R484–R487): steps 7 to 15 of R66 for each.
-/
namespace Sys2Proof.Machine

/-- Key commands are refused while LOCKED (R479). -/
def State.notLocked (s : State) (k : Res) : Res := need (s.rd F.HWN_STAT_LOCK_STATE != 1) stTAMPER_LOCKOUT k

def keyStatusBody (c : Cmd) (s : State) : Res :=
  let k := c.arg 0 2
  need (decide (k ≤ 255) && c.zero 2 2) stBAD_ARGUMENT <|
  need (s.owns c kKey k || s.mayRead c kKey k) stNOT_OWNER <|
  let x := s.slot k
  .done stOK (wordBytes (s.slotWord k) ++ bytesLE 4 x.gen ++ bytesLE 2 x.parent ++ bytesLE 1 (ownerCode (s.ownerOf kKey k)) ++ bytesLE 1 0 ++
    (if x.raw = 1 then s.kcv k x.value else bytesLE 8 0) ++ bytesLE 8 x.tkc) s

/-- Write a slot's shadow and answer its KCV (R471). -/
def State.putShadow (s : State) (k : Nat) (v : List Byte) : Res :=
  .done stOK (s.kcv k v) ((s.setSlot k { s.slot k with shadow := v }).wrb (F.HWN_SLOT_STAT_SHADOW k) true)

/-- The value KEY_DERIVE computes (R468). -/
def State.derived (s : State) (k : Nat) (ctx : List Byte) : List Byte :=
  slice (Config.kdf (s.parentKey k) (s.slot k).label (s.keyContext ++ bytesBE 4 (s.parentGen k) ++ bytesBE 2 k ++ ctx)) 0 (keyLen (s.slotType k))

def keyDeriveBody (c : Cmd) (s : State) : Res :=
  let k := c.arg 0 2
  let n := c.arg 2 1
  need (decide (k ≤ 255) && decide (n ≤ 16) && c.zero 3 1 && (c.argBytes (4 + n) (16 - n)).all (fun b => b == 0)) stBAD_ARGUMENT <|
  need (s.owns c kKey k) stNOT_OWNER <|
  s.notLocked <|
  need (!(s.slot k).imported && s.parentOk k 5 && s.slotType k != 0) stMODE_FORBIDS <|
  s.putShadow k (s.derived k (c.argBytes 4 n))

def keyImportBody (c : Cmd) (s : State) : Res :=
  let b := s.load (c.dAddr 0) (min (c.dSize 0) 80)
  let k := leAt b 0 2
  let n := leAt b 4 2
  let par := (s.slot k).parent
  need (decide (k ≤ 255) && leAt b 2 2 == 0 && leAt b 6 2 == 0 && (n == keyLen (s.slotType k) + 8) && decide (8 + n ≤ c.dSize 0)) stBAD_ARGUMENT <|
  need (s.owns c kKey k && (0x8000 ≤ par || s.owns c kKey par)) stNOT_OWNER <|
  need (s.rd F.HWN_STAT_LOCK_STATE != 1) stTAMPER_LOCKOUT <|
  need ((s.slot k).imported && s.parentOk k 6 && s.slotType k != 0) stMODE_FORBIDS <|
  let w := slice b 8 n
  need (Config.verify 0x70 (s.slot par).value w) stAUTH_FAILED <|
  s.putShadow k (slice (Config.cipher 0x70 (s.slot par).value w) 0 (keyLen (s.slotType k)))

def keyCommitBody (c : Cmd) (s : State) : Res :=
  let k := c.arg 0 2
  let x := s.slot k
  need (decide (k ≤ 255) && c.zero 2 2) stBAD_ARGUMENT <|
  need (s.owns c kKey k) stNOT_OWNER <|
  s.notLocked <|
  if s.rdb (F.HWN_SLOT_STAT_SHADOW k) then
    need (s.kcv k x.shadow == c.argBytes 4 8) stAUTH_FAILED <|
    if x.commit.isSome then .wait .waitObject
    else if s.opsOn k = [] then .done stOK (bytesLE 8 s.now) (s.commitKey k)
    else .later .running 0 (s.setSlot k { x with commit := some (c.node, c.win, c.tag) })
  else .refuse stMODE_FORBIDS

def keyDiscardBody (c : Cmd) (s : State) : Res :=
  let k := c.arg 0 2
  need (decide (k ≤ 255) && c.zero 2 2) stBAD_ARGUMENT <|
  need (s.owns c kKey k) stNOT_OWNER <|
  s.notLocked <|
  .done stOK [] ((s.setSlot k { s.slot k with shadow := [] }).wrb (F.HWN_SLOT_STAT_SHADOW k) false)

def keyRevokeBody (c : Cmd) (s : State) : Res :=
  let k := c.arg 0 2
  need (decide (k ≤ 255) && c.zero 2 2) stBAD_ARGUMENT <|
  need (s.owns c kKey k) stNOT_OWNER <|
  s.notLocked <|
  .done stOK (bytesLE 8 s.now) (s.revokeKey k)

/-! ## KEY_OP (R475, R486) -/

/-- The use bit of an operation, or none for a hash. -/
def opUse (op : Nat) : Option Nat :=
  match op with
  | 1 => some 0 | 2 => some 1 | 3 => some 0 | 4 => some 0 | 5 => some 1 | 6 => some 2 | 7 => some 3 | 8 => some 2 | 9 => some 3
  | 10 => some 4 | 11 => some 3 | _ => none

/-- The types an operation works with (R465). -/
def opTypes (op : Nat) : List Nat := if op ≤ 7 then [1, 2] else if op ≤ 9 then [3, 4] else if op ≤ 11 then [6] else [0]

/-- The input length of an operation is permitted (R465, R475). -/
def opLen (op aad n tag : Nat) : Bool :=
  match op with
  | 1 => n % 16 == 0
  | 2 => n % 16 == 0
  | 4 => decide (aad < n)
  | 5 => decide (aad + 16 < n)
  | 7 => decide (16 < n)
  | 9 => decide (tag < n)
  | 10 => n == 48
  | 11 => n == 144
  | _ => true

/-- The IV field is as the operation uses it (R486). -/
def opIv (op : Nat) (iv : List Byte) : Bool :=
  if op ≤ 3 then true else if op ≤ 5 then leAt iv 12 4 == 0 else iv.all (fun b => b == 0)

def keyOpBody (c : Cmd) (s : State) : Res :=
  let p := s.keyParam c
  let b := s.load (c.dAddr 0) 32
  let n := c.dSize 1
  need (c.dSize 0 == 32 && between 1 13 p.op && leAt b 3 1 == 0 && leAt b 24 8 == 0 &&
    (if 12 ≤ p.op then p.slot == 0xFFFF else decide (p.slot ≤ 255)) && (p.op == 4 || p.op == 5 || p.aad == 0) && opIv p.op p.iv) stBAD_ARGUMENT <|
  need (opLen p.op p.aad n (if s.slotType p.slot = 4 then 48 else 32)) stBAD_ARGUMENT <|
  need (12 ≤ p.op || (opTypes p.op).contains (s.slotType p.slot)) stBAD_ARGUMENT <|
  need (p.op == 7 || p.op == 9 || p.op == 11 || decide (s.keyOutLen p n ≤ c.dSize 2)) stBAD_ARGUMENT <|
  need (12 ≤ p.op || s.owns c kKey p.slot || (opUse p.op == some 3 && s.mayRead c kKey p.slot)) stNOT_OWNER <|
  s.notLocked <|
  need (match opUse p.op with | some u => s.slotUse p.slot u | none => true) stMODE_FORBIDS <|
  if p.op < 12 ∧ (s.slot p.slot).commit.isSome then .wait .waitObject
  else need (12 ≤ p.op || s.usable p.slot) stKEY_REVOKED <|
  .later .running 0 s

/-! ## Attestation (R477) -/

/-- A measurement entry. -/
def measEntry (id ver : Nat) (digest : List Byte) : List Byte := bytesBE 1 id ++ bytesBE 1 0 ++ bytesBE 2 0 ++ bytesBE 4 ver ++ slice digest 0 48

/-- The measurements in ID order: entries 4 and 5 are those of the active overlay and program. -/
def State.measurements (s : State) : List (List Byte) :=
  (List.range 0x20).filterMap (fun id =>
    if id = 4 then
      (let n := s.rd F.CFG_STAT_OVERLAY
       if n = 0xFF then none
       else some (measEntry 4 (s.rd ⟨R.CFG_GEN_RUN, 0, 32⟩)
         (Config.digest 0x384 ((s.overlay n).recs.flatMap (fun r => bytesBE 4 r.addr ++ bytesBE 4 r.value ++ bytesBE 4 r.mask)))))
    else if id = 5 then s.cyc.active.map (fun p => measEntry 5 p.id (Config.digest 0x384 (p.code ++ p.data)))
    else if s.hwn.meas.keys.contains id then (let m := s.hwn.meas.get (0, []) id; some (measEntry id m.1 m.2)) else none)

/-- The attestation key. -/
def State.attestKey (s : State) : List Byte := slice (Config.kdf (s.domainKey 3) (ascii "VBZ-ATTEST") s.keyContext) 0 32

/-- The part number field. -/
def partNumber : List Byte := slice (ascii "VBZ-512-A") 0 16

/-- The report over a nonce. -/
def State.report (s : State) (nonce : List Byte) : List Byte :=
  let m := s.measurements
  let node := if s.ownNode = 0x7FF then 0xFFFF else s.ownNode
  let body := nonce ++ bytesBE 8 Config.serial ++ partNumber ++ bytesBE 1 0x42 ++ bytesBE 1 (s.rd F.MPC_LC_STAT_LIFECYCLE) ++ bytesBE 2 node ++
    bytesBE 1 s.dev.code ++ bytesBE 1 (b2n (s.rd F.HWN_STAT_LOCK_STATE == 1) + 2 * b2n (s.epoch != 0) + 4 * b2n s.hwn.since) ++
    bytesBE 1 s.epoch ++ bytesBE 1 m.length ++ bytesBE 8 s.now ++ m.flatten
  body ++ slice (Config.hmac256 s.attestKey body) 0 32

def keyAttestBody (c : Cmd) (s : State) : Res :=
  need (c.dSize 0 == 32 && decide (1448 ≤ c.dSize 1)) stBAD_ARGUMENT <|
  let r := s.report (s.load (c.dAddr 0) 32)
  .done stOK (bytesLE 4 r.length ++ bytesLE 4 0) (s.putBuf c 1 r)

/-- Draw `n` bytes from the DRBG. -/
def State.drbg (s : State) : Nat → List Byte × State
  | 0 => ([], s)
  | n + 1 => let d := s.draw 255; let r := State.drbg d.2 n; (bytesLE 1 d.1 ++ r.1, r.2)

def keyRandomBody (c : Cmd) (s : State) : Res :=
  let n := c.arg 0 1
  need (between 1 48 n && c.zero 1 3) stBAD_ARGUMENT <|
  s.notLocked <|
  let r := s.drbg n
  .done stOK r.1 r.2

/-! ## Tamper status (R487) -/

/-- A tamper log entry as bytes. -/
def TamperEnt.bytes (e : TamperEnt) : List Byte :=
  bytesLE 8 e.at_ ++ bytesLE 1 e.sensor ++ bytesLE 1 e.policy ++ bytesLE 1 e.dev ++ bytesLE 1 e.action ++ bytesLE 4 e.seq

def tamperStatusBody (c : Cmd) (s : State) : Res :=
  let f := c.arg 0 1
  let n := c.arg 1 1
  need (decide (f ≤ 31) && decide (n ≤ 2) && c.zero 2 2) stBAD_ARGUMENT <|
  .done stOK (wordBytes s.hwnStat ++ wordBytes (s.word R.HWN_TAMPER_STAT) ++ wordBytes (s.word R.HWN_TAMPER_POL) ++ bytesLE 4 s.hwn.tseq ++
    (List.range n).flatMap (fun i => match s.hwn.tlog[f + i]? with | some e => e.bytes | none => bytesLE 16 0)) s

/-- The requester that may clear (R484): the secure world, or in COPPICE the partition hosted on SP0. -/
def State.mayClear (s : State) (c : Cmd) : Bool :=
  c.node == 0xFFFF && (if s.dev = .coppice then s.corePart 0 == some c.who else c.who == 16)

/-- The CONFIRM value of TAMPER_CLEAR (R487; its numbers little-endian by R7, log entry 34). -/
def State.clearConfirm (s : State) (mask : Nat) : List Byte :=
  slice (Config.hmac256 (s.domainKey 5) (bytesLE 8 Config.serial ++ bytesLE 1 mask ++ bytesLE 4 s.hwn.tseq)) 0 16

def tamperClearBody (c : Cmd) (s : State) : Res :=
  let m := c.arg 0 1
  need (decide (m < 64) && c.zero 1 3) stBAD_ARGUMENT <|
  need (s.mayClear c) stNOT_OWNER <|
  need (c.argBytes 4 16 == s.clearConfirm m) stAUTH_FAILED <|
  need (m &&& s.rd F.HWN_TAMPER_STAT_ACTIVE == 0) stMODE_FORBIDS <|
  let s := s.wr F.HWN_TAMPER_STAT_LATCHED (s.rd F.HWN_TAMPER_STAT_LATCHED - (s.rd F.HWN_TAMPER_STAT_LATCHED &&& m))
  let s := if s.rd F.HWN_STAT_LOCK_STATE = 1 then s.lockState 0 else s
  let d := s.draw (2 ^ 64 - 1)
  .done stOK (bytesLE 8 d.1) d.2

def dKeyStatus : CmdDef := { op := 0x0B01, lens := lenIs 4, coppice := true, names := argKey kKey 0 2, body := keyStatusBody }
def dKeyDerive : CmdDef := { op := 0x0B02, lens := lenIs 20, names := argKey kKey 0 2, body := keyDeriveBody }
def dKeyImport : CmdDef := { op := 0x0B03, lens := fun _ => false, descs := [[0]], names := fun c s => [okey kKey (leAt (s.load (c.dAddr 0) 2) 0 2)], body := keyImportBody }
def dKeyCommit : CmdDef := { op := 0x0B04, lens := lenIs 12, names := argKey kKey 0 2, body := keyCommitBody }
def dKeyDiscard : CmdDef := { op := 0x0B05, lens := lenIs 4, names := argKey kKey 0 2, body := keyDiscardBody }
def dKeyRevoke : CmdDef := { op := 0x0B06, lens := lenIs 4, names := argKey kKey 0 2, body := keyRevokeBody }
def dKeyOp : CmdDef := { op := 0x0B07, lens := fun _ => false, descs := [[0, 0, 1]], names := fun c s => if (s.keyParam c).op < 12 then [okey kKey (s.keyParam c).slot] else [], body := keyOpBody }
def dKeyAttest : CmdDef := { op := 0x0B08, lens := fun _ => false, descs := [[0, 1]], coppice := true, body := keyAttestBody }
def dKeyRandom : CmdDef := { op := 0x0B09, lens := lenIs 4, body := keyRandomBody }
def dTamperStatus : CmdDef := { op := 0x0B0A, lens := lenIs 4, coppice := true, body := tamperStatusBody }
def dTamperClear : CmdDef := { op := 0x0B0B, lens := lenIs 20, coppice := true, body := tamperClearBody }

end Sys2Proof.Machine
end

