-- ==== Sys2Proof/Machine/Overlays.lean ====
section
/-!
DEFINITION. Machine/Overlays.lean: overlay switches and commits (R511–R518), the service session (R513), the maintenance
events (R519–R522) and the commands of R523–R525.
-/
namespace Sys2Proof.Machine

/-! ## Switch and commit -/

/-- The command of the pending switch or commit. -/
def State.switchCmds (s : State) : List Cmd := s.mbx.cmds.filter (fun c => (c.op == 0x0D02 || c.op == 0x0D03) && c.phase == .running)

/-- No switch is pending any more. -/
def State.clearSwitch (s : State) : State :=
  { (s.wrb F.CFG_STAT_SWITCH_PEND false).wr F.CFG_STAT_PENDING 0xFF with cfg.switch_ := none }

/-- Close the set of command-staged values (R514). -/
def State.closeSet (s : State) (p : SwitchPend) : SwitchPend := if p.closed then p else { p with cut := s.cfg.pend, closed := true }

/-- OVERLAY_CUTOFF: at t_ov - 1 ms (R514). -/
def overlayCutoff (t : Nat) (s : State) : State :=
  let s := s.at_ t
  match s.cfg.switch_ with
  | some p => if p.at_ ≤ s.now + ms 1 then { s with cfg.switch_ := some (s.closeSet p) } else s
  | none => s

/-- The end of the service session: SVC clears, and HOLD and the forces end (R513). -/
def State.endSession (s : State) : State :=
  if s.cfg.svcEnd.isSome then { s.wrb F.CFG_STAT_SVC false with cfg.svcEnd := none }.checkHold else s

/-- The pending values that a switch or commit has consumed leave the staged set. -/
def State.usePending (s : State) (cut : List (Fld × Nat)) : State :=
  let l := s.cfg.pend.filter (fun p => !cut.contains p)
  { s with cfg.pend := l }.wr F.CFG_STAT_STAGED_N (min 255 l.length)

/-- WAKE_OUT under a WOUT_MODE that a switch has changed: never driven in mode 0, and in mode 1 only for its pulse (R369). -/
def State.wakeOutMode (s : State) : State :=
  let m := s.rd F.WAK_CFG1_WOUT_MODE
  if m = 2 ∨ (m = 1 ∧ s.slp.woutEnd.isSome = true) then s else { s with slp.wakeOut := false, slp.woutEnd := none }

/-- Carry out the pending switch or commit (R514–R517). -/
def State.doSwitch (s : State) (p : SwitchPend) (late : Bool) : State :=
  let p := s.closeSet p
  let was := s.rd F.CFG_STAT_OVERLAY
  let s := ((s.applySwitch p.commit p.ovl p.cut).usePending p.cut).wakeOutMode
  let done := if late then s.now else p.at_
  let cmds := s.switchCmds
  let s := (s.clearSwitch.wrb F.CFG_STAT_LATE late).gwyDiscard
  let s := if was = 4 ∧ p.commit = false ∧ p.ovl ≠ 4 then s.endSession else s
  foldS cmds (fun c s => s.answerAt c stOK done (bytesLE 8 done)) s.checkHold

/-- OVERLAY_SWITCH_INSTANT: at t_ov the switch or commit is made, or held while ALIGN_ALL is 0; a held one is made at the
first alignment word after it returns (R514, R517). -/
def overlaySwitchInstant (t : Nat) (s : State) : State :=
  let s := s.at_ t
  match s.cfg.switch_ with
  | some p =>
    if s.now < p.at_ then s
    else if p.held then (if s.rdb F.TBS_STATUS_ALIGN_ALL && decide (s.now ≤ p.at_ + ms 1) then s.doSwitch p true else s)
    else if s.rdb F.TBS_STATUS_ALIGN_ALL then s.doSwitch p false
    else { s with cfg.switch_ := some { s.closeSet p with held := true } }
  | none => s

/-- OVERLAY_ALIGN_TIMEOUT: 1 ms after t_ov without ALIGN_ALL: nothing changes and the command is answered TIMEOUT (R517). -/
def overlayAlignTimeout (t : Nat) (s : State) : State :=
  let s := s.at_ t
  match s.cfg.switch_ with
  | some p =>
    if p.held ∧ p.at_ + ms 1 ≤ s.now then
      let cmds := s.switchCmds
      foldS cmds (fun c s => s.answer c stTIMEOUT []) s.clearSwitch
    else s
  | none => s

/-- SERVICE_SESSION_EXPIRY: the session time ends (R513). -/
def serviceSessionExpiry (t : Nat) (s : State) : State :=
  let s := s.at_ t
  match s.cfg.svcEnd with
  | some e => if e ≤ s.now then s.endSession else s
  | none => s

/-! ## Maintenance events -/

/-- A cell that fails its self-test latches with its top-level object (R104, R130, R519). -/
def State.testFailed (s : State) (x n : Nat) : State :=
  ((s.modObj x (fun o => { o with testFail := true, probing := false })).latch x 8 n)

/-- The end of an activity over its objects: results, then release from PROBE (R519). -/
def State.activityEnd (s : State) (m : MaintRun) (failed : List Nat) (trims : List (Nat × Int)) : State :=
  if m.req.act = aPROBE then
    let s := foldS s.fab.probeAll (fun x s => s.releaseProbe x) s
    { s with fab.probeState := 2, fab.probeDone := s.now }
  else if m.req.act = aCELL_TEST then
    foldS m.objs (fun x s =>
      if (s.members x).any (fun n => failed.contains n) then s.testFailed x (lowest ((s.members x).filter (fun n => failed.contains n))) else (s.modObj x (fun o => { o with testFail := false })).unprobe x) s
  else if m.req.act = aCALIB then
    let s := foldS (trims.filter (fun p => decide (p.1 < 32))) (fun p (s : State) => { s with fab.trim := s.fab.trim.set p.1 p.2 }) s
    foldS m.objs (fun x s => s.unprobe x) s
  else s

/-- The start's chain of activities (R528): the end of one requests the next. -/
def State.chainNext (s : State) (m : MaintRun) : State :=
  if bitOf m.req.flags 7 then
    (if m.req.act = aCELL_TEST then s.requestAct { act := aCALIB, first := 0, count := 512, flags := 128 }
     else if m.req.act = aCALIB then s.requestAct { act := aPROBE, first := 0, count := 512 } else s)
  else s

/-- MAINT_ACTIVITY_COMPLETE: with the terminals that failed CELL_TEST and the edge trims that CALIB measured, in ps (R126,
R519, R521). A PROBE ends once every object has been read; BUF_AUDIT and STAGE_COPY end by events of their own. -/
def maintActivityComplete (t act : Nat) (failed : List Nat) (trims : List (Nat × Int)) (s : State) : State :=
  let s := s.at_ t
  if act = aBUF_AUDIT ∨ act = aSTAGE_COPY ∨ (act = aPROBE ∧ s.fab.probeList ≠ []) then s
  else match s.cfg.mrun.find? (fun m => m.req.act == act) with
    | some m => (((s.activityEnd m failed trims).endRun act).chainNext m).checkHold
    | none => s

/-- MAINT_WAIT_LIMIT: requests that have waited 1 s stop later incompatible ones (R521). -/
def maintWaitLimit (t : Nat) (s : State) : State :=
  let s := s.at_ t
  ({ s with cfg.mq := s.cfg.mq.map (fun (r : MaintReq) => if r.since + sec 1 ≤ s.now then { r with old := true } else r) }).arbitrate

/-- SCRUB_DUE: every SCRUB_MIN (R519). -/
def scrubDue (t : Nat) (s : State) : State :=
  let s := s.at_ t
  if s.cfg.scrubAt + sec (60 * s.rd F.CFG_MAINT_CFG_SCRUB_MIN) ≤ s.now then ({ s with cfg.scrubAt := s.now }).periodicAct aSCRUB else s

/-- LBIST_DUE: every LBIST_S (R519). -/
def lbistDue (t : Nat) (s : State) : State :=
  let s := s.at_ t
  if s.cfg.lbistAt + sec (s.rd F.CFG_MAINT_CFG_LBIST_S) ≤ s.now then ({ s with cfg.lbistAt := s.now }).periodicAct aLBIST else s

/-! ## Commands -/

def configStatusBody (_ : Cmd) (s : State) : Res :=
  .done stOK (wordBytes (s.word R.CFG_STAT) ++ wordBytes (s.word R.CFG_GEN_A) ++ wordBytes (s.word R.CFG_GEN_B) ++ wordBytes (s.word R.CFG_GEN_RUN) ++
    wordBytes (s.word R.CFG_CMP) ++ bytesLE 4 s.cfg.ovlCtrl ++ bytesLE 8 (match s.cfg.switch_ with | some p => p.at_ | none => 0) ++
    bytesLE 8 s.cfg.nonce) s

/-- The requester may switch overlays (R512). -/
def State.ovlRight (s : State) (c : Cmd) : Bool := c.node == 0xFFFF && bitOf s.cfg.ovlCtrl c.who

/-- t_ov: the first multiple of 1 ms at or after AT and the take instant + 2 ms (R514); a command that waited past that instant counts
from the end of its wait (DEDUCED, assumption 146). -/
def State.tOv (s : State) (taken at_ : Nat) : Nat :=
  let u := ceilTo (ms 1) (max at_ (taken + ms 2))
  if u ≤ s.now then ceilTo (ms 1) (s.now + ms 2) else u

/-- Start a switch or commit: it takes effect at t_ov, and the response follows then (R514, R516). -/
def State.pendSwitch (s : State) (taken : Nat) (commit : Bool) (ovl at_ : Nat) : Res :=
  let u := s.tOv taken at_
  let s := s.wrb F.CFG_STAT_SWITCH_PEND true
  let s := if commit then s else s.wr F.CFG_STAT_PENDING ovl
  .later .running u { s with cfg.switch_ := some { commit := commit, ovl := ovl, at_ := u } }

def overlaySwitchBody (c : Cmd) (s : State) : Res :=
  let n := c.arg 0 1
  need (c.zero 1 3 && (s.overlay n).present) stBAD_ARGUMENT <|
  need (s.ovlRight c) stNOT_OWNER <|
  need (n != 4 || s.cfg.svcEnd.isSome) stMODE_FORBIDS <|
  if s.cfg.switch_.isSome then .wait .waitObject else s.pendSwitch c.taken false n (c.arg 4 8)

def configCommitBody (c : Cmd) (s : State) : Res :=
  need (!s.cfg.pend.isEmpty) stBAD_ARGUMENT <|
  need (s.ovlRight c) stNOT_OWNER <|
  if s.cfg.switch_.isSome then .wait .waitObject else s.pendSwitch c.taken true (s.rd F.CFG_STAT_OVERLAY) (c.arg 0 8)

/-- A fresh session nonce (R524, DESIGN CHOICE, assumption 90). -/
def State.freshNonce (s : State) : State :=
  let d := s.draw (2 ^ 64 - 1)
  { d.2 with cfg.nonce := d.1 }

/-- CONFIRM of SERVICE_OPEN (R524). -/
def State.svcConfirm (s : State) (minutes : Nat) : List Byte :=
  slice (Config.hmac256 (s.domainKey 5) (bytesLE 8 Config.serial ++ bytesLE 8 s.cfg.nonce ++ bytesLE 1 minutes)) 0 16

/-- A failed SERVICE_OPEN: the eighth in a row is an event of the SVC_AUTH sensor (R478, R513). -/
def State.svcFailed (s : State) : State :=
  let n := s.cfg.authFail + 1
  let s : State := { s with cfg.authFail := n % 8 }
  if n = 8 then tamperSensorEvent s.now 5 s else s

def serviceOpenBody (c : Cmd) (s : State) : Res :=
  let m := c.arg 0 1
  need (between 1 240 m && c.zero 1 3) stBAD_ARGUMENT <|
  need c.isSecure stNOT_OWNER <|
  if s.svcConfirm m = c.argBytes 4 16 then
    let u := s.now + sec (60 * m)
    .done stOK (bytesLE 8 u) ({ s.wrb F.CFG_STAT_SVC true with cfg.svcEnd := some u, cfg.authFail := 0 }).freshNonce
  else .done stAUTH_FAILED [] s.svcFailed.freshNonce

def serviceCloseBody (c : Cmd) (s : State) : Res :=
  need c.isSecure stNOT_OWNER <|
  need s.cfg.svcEnd.isSome stMODE_FORBIDS <|
  .done stOK (bytesLE 8 s.now) s.endSession

def maintRequestBody (c : Cmd) (s : State) : Res :=
  let a := c.arg 0 1
  let first := c.arg 2 2
  let count := c.arg 4 2
  need ([2, 3, 4, 7].contains a && c.zero 1 1 && c.zero 6 2) stBAD_ARGUMENT <|
  if a = aSCRUB ∨ a = aLBIST then
    need (c.who == 16) stNOT_OWNER <|
    s.commandAct c a first count 0
  else
    need (decide (1 ≤ count) && decide (first + count ≤ 512) && s.coversWhole first count) stBAD_ARGUMENT <|
    need ((s.coverTops first count).all (fun x => s.owns c (objKind x) (objIdx x))) stNOT_OWNER <|
    s.commandAct c a first count 0

/-- The start instant of the oldest running activity, or 0. -/
def State.oldestRun (s : State) : Nat := match s.cfg.mrun with | [] => 0 | m :: l => l.foldl (fun n x => min n x.start) m.start

def maintStatusBody (_ : Cmd) (s : State) : Res :=
  .done stOK (wordBytes (s.word R.CFG_MAINT_STAT) ++ wordBytes (s.word R.CFG_MAINT_CFG) ++ bytesLE 8 s.oldestRun ++ bytesLE 4 s.cfg.mBusy ++
    bytesLE 4 s.cfg.mLateRemask) s

/-- A queued request is the requester's own (R525). -/
def MaintReq.mine (r : MaintReq) (c : Cmd) : Bool := match r.cmd with | some (n, _, _) => n == c.node && r.who == c.who | none => false

def maintCancelBody (c : Cmd) (s : State) : Res :=
  let a := c.arg 0 1
  need (between 1 8 a && c.zero 1 3) stBAD_ARGUMENT <|
  match s.cfg.mq.find? (fun r => r.act == a && r.mine c) with
  | some r =>
    .done stOK [] (({ s with cfg.mq := s.cfg.mq.erase r }).answerReq r stTIMEOUT []).maintStat
  | none =>
    need (!s.cfg.mq.any (fun r => r.act == a)) stNOT_OWNER <|
    .refuse stMODE_FORBIDS

def dConfigStatus : CmdDef := { op := 0x0D01, lens := lenIs 0, coppice := true, body := configStatusBody }
def dOverlaySwitch : CmdDef := { op := 0x0D02, lens := lenIs 12, names := confKey, body := overlaySwitchBody }
def dConfigCommit : CmdDef := { op := 0x0D03, lens := lenIs 8, names := confKey, body := configCommitBody }
def dServiceOpen : CmdDef := { op := 0x0D04, lens := lenIs 20, remote := false, body := serviceOpenBody }
def dServiceClose : CmdDef := { op := 0x0D05, lens := lenIs 0, remote := false, body := serviceCloseBody }
def dMaintRequest : CmdDef := { op := 0x0F01, lens := lenIs 8, names := fun c s => if c.arg 0 1 = aSCRUB ∨ c.arg 0 1 = aLBIST then [] else rangeKeys 2 c s, body := maintRequestBody }
def dMaintStatus : CmdDef := { op := 0x0F02, lens := lenIs 0, coppice := true, body := maintStatusBody }
def dMaintCancel : CmdDef := { op := 0x0F03, lens := lenIs 4, body := maintCancelBody }

end Sys2Proof.Machine
end

