-- ==== Sys2Proof/Machine/Alignment.lean ====
section
/-!
DEFINITION. Machine/Alignment.lean: the alignment word, steps of the master count, held actions and the comparators
(R40–R47).
-/
namespace Sys2Proof.Machine

/-! ## Comparators (R47) -/

def State.cmp_ (s : State) (n : Nat) : Cmp := s.tb.cmps.get {} n
def State.setCmp (s : State) (n : Nat) (c : Cmp) : State := { s with tb.cmps := s.tb.cmps.set n c }

/-- Comparator `n` fires: FIRED, ARM 0, its interrupt source, and LATE (R44, R47). -/
def State.cmpFire (s : State) (n : Nat) (late : Bool) : State :=
  let s := ((s.wrb (F.TBS_CMP_CTL_FIRED n) true).wrb (F.TBS_CMP_CTL_LATE n) late).wrb (F.TBS_CMP_CTL_ARM n) false
  (s.setCmp n { value := (s.cmp_ n).value, late := late }).trig n

/-- Comparator `n` is armed at the alignment word: a value already passed fires it late (R47). -/
def State.cmpArmAt (s : State) (n : Nat) : State :=
  let c := s.cmp_ n
  if c.armPend then (if c.value < s.now then s.cmpFire n true else s.setCmp n { c with armPend := false, armed := true }) else s

/-- The requester of an access is the one that source `n` is routed to (R47). -/
def State.cmpMine (s : State) (a : Acc) (n : Nat) : Bool := !a.dev && s.irqMine (s.accBank a) n

/-- The effect of writing ARM 1 (R47). -/
def State.cmpArm (s : State) (n : Nat) : State :=
  let s := ((s.wrb (F.TBS_CMP_CTL_ARM n) true).wrb (F.TBS_CMP_CTL_FIRED n) false).wrb (F.TBS_CMP_CTL_LATE n) false
  s.setCmp n { armPend := true, value := s.pair (R.TBS_CMP_LO n) (R.TBS_CMP_HI n) }

/-- The effect of writing ARM 0 (R47): FIRED and LATE are cleared by every ARM write. -/
def State.cmpDisarm (s : State) (n : Nat) : State :=
  let s := ((s.wrb (F.TBS_CMP_CTL_ARM n) false).wrb (F.TBS_CMP_CTL_FIRED n) false).wrb (F.TBS_CMP_CTL_LATE n) false
  s.setCmp n {}

/-- COMPARATOR_FIRE: the count has reached the compare value of an armed comparator (R47). -/
def comparatorFire (t n : Nat) (s : State) : State :=
  let s := s.at_ t
  if n < 16 ∧ (s.cmp_ n).armed = true ∧ (s.cmp_ n).value ≤ s.now then s.cmpFire n false else s

/-! ## Steps (R44, R45) -/

/-- What a forward step carries out late. -/
inductive StepAct where
  | edge (x : Nat)
  | cmp (n : Nat)
  | overlay
  | output (k : Nat)
deriving DecidableEq, Repr

/-- Insert by instant, after equal ones. -/
def insertAct (e : Nat × StepAct) : List (Nat × StepAct) → List (Nat × StepAct)
  | [] => [e]
  | x :: l => if e.1 < x.1 then e :: x :: l else x :: insertAct e l

/-- In order of instant. -/
def sortActs (l : List (Nat × StepAct)) : List (Nat × StepAct) := l.foldl (fun a e => insertAct e a) []

/-- The one-shot actions with an instant below `c` (R44). -/
def State.skipped (s : State) (c : Nat) : List (Nat × StepAct) :=
  let edges := s.fab.objs.keys.flatMap (fun x => (((s.obj x).edges ++ (s.obj x).ints).filter (fun e => decide (e.at_ < c))).map (fun e => (e.at_, StepAct.edge x)))
  let cmps := ((List.range 16).filter (fun n => (s.cmp_ n).armed && decide ((s.cmp_ n).value < c))).map (fun n => ((s.cmp_ n).value, StepAct.cmp n))
  let ovl := match s.cfg.switch_ with | some p => if !p.held && decide (p.at_ < c) then [(p.at_, StepAct.overlay)] else [] | none => []
  let outs := (List.range 24).flatMap (fun k => ((s.task k).outs.filter (fun o => decide (o.at_ < c))).map (fun o => (o.at_, StepAct.output k)))
  sortActs (edges ++ cmps ++ ovl ++ outs)

/-- Carry out a skipped action, flagged LATE. -/
def State.lateAct (s : State) : StepAct → State
  | .edge x => s.edgeDue x true
  | .cmp n => s.cmpFire n true
  | .output k => outputInstant s.now k s
  | .overlay =>
    match s.cfg.switch_ with
    | some p => if s.rdb F.TBS_STATUS_ALIGN_ALL then s.doSwitch p true else { s with cfg.switch_ := some { s.closeSet p with held := true } }
    | none => s

/-- An instant that stands for an end of a duration moves with a step, so that the duration that has elapsed counts. -/
def moved (back : Bool) (d t : Nat) : Nat := if back then t - d else t + d

/-- Protection times run on: blanking times of current limits and the times of overloads do not depend on the count (R42). -/
def State.moveProtection (s : State) (back : Bool) (d : Nat) : State :=
  let m := moved back d
  let s := foldS s.fab.objs.keys (fun x s => s.modObj x (fun o => { o with regEnds := o.regEnds.map (fun p => (p.1, m p.2)) })) s
  foldS ([1, 2, 3, 4] : List Nat) (fun f s =>
    let x := s.feed f
    s.setFeed f { x with overFrom := x.overFrom.map m, peakFrom := x.peakFrom.map m, classSFrom := x.classSFrom.map m }) s

/-- The release instants of cyclic task `k` in [a, b) (R189). -/
def State.releasesIn (s : State) (k a b : Nat) : Nat :=
  let p := s.taskSpan k
  if p = 0 then 0 else (b + p - 1 - s.taskPhase k) / p - (a + p - 1 - s.taskPhase k) / p

/-- Releases in a skipped interval do not take place and are counted (R44, R197). -/
def State.skipReleases (s : State) (a b : Nat) : State :=
  if s.eng = 1 ∨ s.eng = 2 then
    foldS ((List.range 24).filter (fun k => s.taskUsed k && s.tstate k != 5)) (fun k s =>
      if isCyclic k then s.miss k (s.releasesIn k (max a s.cyc.tRun) b)
      else match (s.task k).relAt with
        | some r => if r < b then s.dropRelease k (b - 1) else s
        | none => s) s
  else s

/-- The forward step (R44): releases in the skipped interval are missed, its one-shots are carried out late and in order, and
gate lists, LIN schedules and the energy log resume at their first instants at or after the new count. -/
def State.stepForward (s : State) (d : Nat) : State :=
  let c := s.now + d
  let acts := s.skipped c
  let s := s.skipReleases s.now c
  let s : State := { s.moveProtection false d with now := c, fab.elogStep := true, fab.elogAt := s.fab.elogAt + d, gwy.fwd := s.gwy.fwd + d }
  let s := foldS (List.range 8) (fun k (s : State) =>
    (s.modLin k (fun x => { x with frame := x.frame.map (fun f => { f with limit := f.limit + d }) })).linForward k) s
  foldS acts (fun e s => s.lateAct e.2) s.stepGates

/-- The backward step (R45): one-shots stay armed, periodic schedules, the DRAM regulation period among them, restart at their first
instants at or after the new count, and executions in flight hand their outputs over on the new count. -/
def State.stepBackward (s : State) (d : Nat) : State :=
  let c := s.now - d
  let s : State := { s.moveProtection true d with now := c, fab.elogStep := true, fab.elogAt := s.fab.elogAt - d, cyc.tRun := min s.cyc.tRun c,
                                                  fab.lastGrid := min s.fab.lastGrid c, prt.period := min s.prt.period (c - 1), gwy.bck := s.gwy.bck + (s.now - c) }
  let s := foldS ((List.range 24).filter (fun k => (s.task k).rel.isSome)) (fun k s => s.modTask k (fun x => { x with stepped := true })) s
  let s := foldS (List.range 8) (fun k (s : State) =>
    (s.modLin k (fun x => { x with slotAt := x.slotAt - d, frame := x.frame.map (fun f => { f with limit := f.limit - d }) })).linBack k) s
  s.stepGates

/-- The step scheduled for this alignment word: a backward one only while the device is STARTING (R43–R45). -/
def State.takeStep (s : State) : State :=
  match s.tb.step with
  | none => s
  | some p =>
    let s : State := { s with tb.step := none }
    if p.back && s.dev != .starting then s
    else
      let s := s.sat F.TBS_STATUS_STEP_CNT 1
      if p.back then s.stepBackward p.by_ else s.stepForward p.by_

/-! ## Replicas (R40, R41) -/

/-- Replica `i` is powered: the banks of a lost feed are not, and in SLEEP only the wake domain is. -/
def State.replicaOn (s : State) (i : Nat) : Bool :=
  (s.tb.replicas.get {} i).powered && (i == 0 || (s.dev != .sleep && s.dev != .off)) && (i < 10 || !(s.fab.banks.get {} (i - 10)).silent)

/-- What an alignment word does to a replica, with its error beyond ±4 ns or not: three in a row mark it not aligned, three
in a row within mark it aligned again, and the first word within aligns one that was powered up (R40, R41). -/
def Replica.word (r : Replica) (bad : Bool) (t : Nat) : Replica :=
  if r.aligned then
    (if bad then (if 2 ≤ r.badRun then { r with aligned := false, badRun := 3, goodRun := 0, lostAt := t } else { r with badRun := r.badRun + 1 })
     else { r with badRun := 0 })
  else if bad then { r with goodRun := 0 }
  else if r.badRun < 3 ∨ 2 ≤ r.goodRun then { r with aligned := true, badRun := 0, goodRun := 0 }
  else { r with goodRun := r.goodRun + 1 }

/-- The alignment bits of TBS_ALIGN_ISL or TBS_ALIGN_BANK. -/
def State.alignMask (s : State) (lo n : Nat) : Nat := (List.range n).foldl (fun m i => if s.aligned (lo + i) then setBit m i else m) 0

/-- Replica `i` receives the alignment word. The system island holds the master itself, so its own error is none. -/
def State.replicaWord (s : State) (bad : List Nat) (i : Nat) : State :=
  let r := s.tb.replicas.get {} i
  let n : Replica := if s.replicaOn i then r.word (bad.contains i && i != 8) s.now else { powered := r.powered }
  let s : State := { s with tb.replicas := s.tb.replicas.set i n }
  let s := if r.aligned && !n.aligned && s.replicaOn i then s.sysFault 0x0101 .contained i 0 else s
  if i = 6 then (if r.aligned && !n.aligned then s.suspendGates else if !r.aligned && n.aligned then s.resumeGates else s) else s

/-- Every replica receives the word, and the alignment registers follow. -/
def State.alignAll (s : State) (bad : List Nat) : State :=
  let s := foldS (List.range 42) (fun i s => s.replicaWord bad i) s
  let s := (s.wr F.TBS_ALIGN_ISL_ALIGNED (s.alignMask 0 10)).wr F.TBS_ALIGN_BANK_ALIGNED (s.alignMask 10 32)
  s.wrb F.TBS_STATUS_ALIGN_ALL ((List.range 42).all (fun i => !s.replicaOn i || s.aligned i))

/-- A slew goes on for 1,024 ns at RATE, in units of 0.01 ppb (R43). -/
def State.slewOn (s : State) : State :=
  if s.rdb F.TBS_STATUS_SLEWING then
    let left := s.tb.slewLeft - 1024 * (sgn 32 (s.rd F.TBS_RATE_RATE)).natAbs
    let s : State := { s with tb.slewLeft := left }
    if left = 0 then (s.wrb F.TBS_STATUS_SLEWING false).setWord R.TBS_RATE 0 else s
  else s

/-- Actions held by misalignment whose replicas are aligned again (R42, R517). -/
def State.releaseAll (s : State) : State :=
  let s := foldS (s.fab.objs.keys.filter (fun x => !(s.obj x).heldEdges.isEmpty)) (fun x s => s.releaseHeld x) s
  match s.cfg.switch_ with
  | some p => if p.held then overlaySwitchInstant s.now s else s
  | none => s

/-- ALIGNMENT_WORD, with the replicas whose error exceeds ±4 ns (R40–R45, R47). In SLEEP the wake domain carries the count
alone (R46). -/
def alignmentWord (t : Nat) (bad : List Nat) (s : State) : State :=
  let s := s.at_ t
  if s.dev = .sleep ∨ s.dev = .off then s
  else
    let s := ((s.takeStep.alignAll bad).slewOn).releaseAll
    foldS (List.range 16) (fun n s => s.cmpArmAt n) s

/-- LATE_ACTION_WINDOW_EXPIRY: held actions more than 1 ms past their instants are discarded and counted as missed (R42). -/
def lateActionWindowExpiry (t : Nat) (s : State) : State :=
  let s := s.at_ t
  foldS (s.fab.objs.keys.filter (fun x => !(s.obj x).heldEdges.isEmpty)) (fun x s => s.discardHeld x) s

end Sys2Proof.Machine
end

