-- ==== Sys2Proof/Machine/Pairs.lean ====
section
/-!
DEFINITION. Machine/Pairs.lean: the lockstep safety pairs (R429–R444): mismatches, the self-test, restarts from a
checkpoint, and debug halts.
-/
namespace Sys2Proof.Machine

def lsOFF : Nat := 0
def lsLOCKSTEP : Nat := 1
def lsSELFTEST : Nat := 2
def lsRESTARTING : Nat := 3
def lsDEGRADED : Nat := 4
def lsSPLIT : Nat := 5
def lsHALTED : Nat := 6

def State.lst (s : State) (n : Nat) : Nat := s.rd (F.FLT_LS_STAT_STATE n)

/-- The partition that an unsplit pair hosts (R429). -/
def State.pairPart (s : State) (n : Nat) : Option Nat := s.corePart (2 * n)

/-- The pair's partition is running, so the pair issues transactions. -/
def State.pairUp (s : State) (n : Nat) : Bool := match s.pairPart n with | some v => !s.partDown v | none => false

/-- FLT_LSn_STAT as it reads: RECENT counts the restarts of the last second. -/
def State.lsStat (s : State) (n : Nat) : Word := (s.word (R.FLT_LS_STAT n)).withField 4 4 (min 15 (s.recents n).length)

/-- Both cores reset for a restart from the checkpoint (R436): active states clear, pop slots of the pair are lost. -/
def State.startRestart (s : State) (n : Nat) : State :=
  let s := s.clearActive (0x18 + 2 * n)
  let s := s.dropSlots (fun x => x.pop && (x.acc.master / 2 == 4 + n))
  s.setPair_ n lsRESTARTING

/-- The access of a mismatched transaction by kind: 1 STORE, 2 LOAD (R494). -/
def mismatchAcc (kind : Nat) : Nat := if kind = 1 then 2 else if kind = 2 then 1 else 0

/-- A mismatch: the pair stops, FLT_LSn_MIS is filled and the fault raised (R435, R436). -/
def State.mismatch (s : State) (n kind addr : Nat) : State :=
  let s := s.sat (F.FLT_LS_STAT_MISMATCHES n) 1
  let s := s.setWord (R.FLT_LS_MIS n) 0
  let s := (s.wr (F.FLT_LS_MIS_KIND n) kind).wr (F.FLT_LS_MIS_ADDR_HI n) (addr / 2 ^ 32)
  let s := s.setWord (R.FLT_LS_MIS_ADDR n) (BitVec.ofNat 32 addr)
  let s := s.setPair (R.FLT_LS_MIS_TS_LO n) (R.FLT_LS_MIS_TS_HI n) s.now
  let s := if s.rdb (F.FLT_LS_CFG_FOP n) then s.setPair_ n lsSELFTEST else (s.startRestart n).wr (F.FLT_LS_MIS_ACTION n) 2
  let v := (s.pairPart n).getD 0
  s.raise { code := 0x0A01, cls := .contained, kind := .owner v, acc := some (⟨8 + 2 * n, false, v, false, false⟩, mismatchAcc kind, addr), obj := n }

/-- LOCKSTEP_MISMATCH: kinds 1 STORE, 2 LOAD, 3 BUS, 4 TIMING (R432, R435). -/
def lockstepMismatch (t n kind addr : Nat) (s : State) : State :=
  let s := s.at_ t
  if n < 4 ∧ s.lst n = lsLOCKSTEP ∧ s.pairUp n = true ∧ 1 ≤ kind ∧ kind ≤ 4 then s.mismatch n kind addr else s

/-- LOCKSTEP_SIGNATURE_CHECK: a difference is a mismatch of kind LATENT (R433). -/
def lockstepSignatureCheck (t n : Nat) (equal : Bool) (s : State) : State :=
  let s := s.at_ t
  if n < 4 ∧ s.lst n = lsLOCKSTEP ∧ s.pairUp n = true ∧ equal = false then s.mismatch n 5 0 else s

/-- MISMATCH_SELFTEST_RESULT: one core failed and is fenced, or the pair restarts (R436). -/
def mismatchSelftestResult (t n : Nat) (aOk bOk : Bool) (s : State) : State :=
  let s := s.at_ t
  if n < 4 ∧ s.lst n = lsSELFTEST ∧ s.pairUp n = true then
    if aOk = bOk then ((s.wr (F.FLT_LS_MIS_RESULT n) 3).wr (F.FLT_LS_MIS_ACTION n) 2).startRestart n
    else
      let k := if aOk then 2 else 1
      let s := ((s.wr (F.FLT_LS_MIS_RESULT n) k).wr (F.FLT_LS_MIS_ACTION n) 1).wr (F.FLT_LS_STAT_FENCED n) k
      let s := s.setPair_ n lsDEGRADED
      (s.ownFault 0x0A02 .contained ((s.pairPart n).getD 0) n 0).heldHalt n
  else s

/-- CHECKPOINT_RESTART_COMPLETE: the cores resume from the checkpoint, or a partition reset follows (R436, R438). -/
def checkpointRestartComplete (t n : Nat) (s : State) : State :=
  let s := s.at_ t
  if n < 4 ∧ s.lst n = lsRESTARTING ∧ s.pairUp n = true then
    let r := s.recents n
    if (s.pair_ n).ckpt = false ∨ s.rd (F.FLT_LS_CFG_RST_LIMIT n) < r.length + 1 then
      (s.wr (F.FLT_LS_MIS_ACTION n) 3).resetPart ((s.pairPart n).getD 0) 4 false
    else
      let s := (s.sat (F.FLT_LS_STAT_RESTARTS n) 1).wr (F.FLT_LS_STAT_RECENT n) (r.length + 1)
      ((s.modPair n (fun p => { p with recents := s.now :: r })).setPair_ n lsLOCKSTEP).heldHalt n
  else s

/-- FLT_LS_CKPT_WRITE: TAKE by the pair in lockstep captures a checkpoint (R434). -/
def fltLsCkptWrite (t : Nat) (a : Acc) (n v : Nat) (s : State) : State :=
  let s := { s.at_ t with bus := .none }
  if 4 ≤ n then s
  else if a.dev ∨ a.master / 2 ≠ 4 + n then s.refuseAcc a 2 (R.FLT_LS_CKPT n)
  else if s.lst n = lsLOCKSTEP ∧ bitOf v 0 = true then
    (s.modPair n (fun p => { p with ckpt := true })).setPair (R.FLT_LS_CKPT_TS_LO n) (R.FLT_LS_CKPT_TS_HI n) s.now
  else s

/-- The lifecycle: 0 MANUFACTURE, 1 DEVELOP, 2 PRODUCTION, 3 RETIRED (R79, R460). -/
def State.lifecycle (s : State) : Nat := s.rd F.MPC_LC_STAT_LIFECYCLE

/-- DEBUG_HALT_REQUEST: never in PRODUCTION; held during a mismatch's handling (R439, R441, R461). -/
def debugHaltRequest (t n : Nat) (s : State) : State :=
  let s := s.at_ t
  if 4 ≤ n ∨ s.lifecycle = 2 then s
  else if s.lst n = lsLOCKSTEP ∨ s.lst n = lsDEGRADED ∨ s.lst n = lsSPLIT then s.haltPair n
  else if s.lst n = lsSELFTEST ∨ s.lst n = lsRESTARTING then s.modPair n (fun p => { p with halt := true })
  else s

/-- DEBUG_RESUME: comparison restarts (R441); a pair with a fenced core stays DEGRADED (R437), a split one SPLIT. -/
def debugResume (t n : Nat) (s : State) : State :=
  let s := s.at_ t
  if n < 4 ∧ s.lst n = lsHALTED then
    s.setPair_ n (if s.isSplit n then lsSPLIT else if s.rd (F.FLT_LS_STAT_FENCED n) ≠ 0 then lsDEGRADED else lsLOCKSTEP)
  else s

def pairStatusBody (c : Cmd) (s : State) : Res :=
  let n := c.arg 0 1
  need (decide (n ≤ 3) && c.zero 1 3) stBAD_ARGUMENT <|
  .done stOK (wordBytes (s.word (R.FLT_LS_CFG n)) ++ wordBytes (s.lsStat n) ++ wordBytes (s.word (R.FLT_LS_MIS n)) ++
    wordBytes (s.word (R.FLT_LS_MIS_ADDR n)) ++ bytesLE 8 (s.pair (R.FLT_LS_MIS_TS_LO n) (R.FLT_LS_MIS_TS_HI n)) ++
    bytesLE 8 (s.pair (R.FLT_LS_CKPT_TS_LO n) (R.FLT_LS_CKPT_TS_HI n)) ++ bytesLE 8 (s.pair_ n).stAt) s

def dPairStatus : CmdDef := { op := 0x0A08, lens := lenIs 4, coppice := true, body := pairStatusBody }

end Sys2Proof.Machine
end

