-- ==== Sys2Proof/Machine/Worlds.lean ====
section
/-!
DEFINITION. Machine/Worlds.lean: the world gateway (R452–R457), the clock and power controls (R458, R459), the lifecycle
(R460) and the world commands (R464).
-/
namespace Sys2Proof.Machine

/-! ## The gateway -/

/-- The word that a gateway entry carries (R452). -/
def gateMark : Nat := 0xE5A71C03

/-- An application core runs nothing: it is held in reset in FAULT and COPPICE (R499, R535), or its clock or power is off (R459). -/
def State.muteCore (s : State) (a : Acc) : Bool :=
  decide (a.master < 6) && !a.dev && (s.dev == .fault || s.dev == .coppice || s.rd (F.MPC_CPC_PSTATE a.master) != 0)

def State.secState (s : State) : Nat := s.rd F.MPC_GW_STAT_SEC_STATE

/-- A region of a controller is a gateway region that holds an address (R452). -/
def State.gwRegion (s : State) (m a : Nat) : Bool :=
  (List.range 32).any (fun r => s.regionHolds m r a && s.rdb (F.MPC_R_ATTR_GW m r) && s.rdb (F.MPC_R_ATTR_SEC m r) && s.rdb (F.MPC_R_ATTR_X m r))

/-- Checks 2 to 4 of R452 for a target. -/
def State.gateOk (s : State) (target : Nat) : Bool :=
  (target % 64 == 0) &&
  ((inSram target && s.gwRegion 0 target) || (inDram target && s.gwRegion 5 target)) &&
  s.admits true 0 .fetch target 4 && (natLE (s.load target 4) == gateMark)

/-- A core leaves its gate call: IN_GATE and MPC_GW_CALLERc clear, the timer stops (R453, R456). -/
def State.endCall (s : State) (c : Nat) : State :=
  let s := s.wr F.MPC_GW_STAT_IN_GATE (clrBit (s.rd F.MPC_GW_STAT_IN_GATE) c)
  { s.setWord (R.MPC_GW_CALLER c) 0 with prt.calls := s.prt.calls.erase c }

def State.inCall (s : State) (c : Nat) : Bool := bitOf (s.rd F.MPC_GW_STAT_IN_GATE) c

/-- The virtual interrupt line of core `c` as the core takes it: held during a gate call (R409, R454). -/
def State.virtLine (s : State) (c : Nat) : Bool :=
  let v := s.rd (F.MPC_CORE_PART_PART c)
  s.rdb (F.MPC_CORE_PART_VALID c) && (s.pst v == psSTARTING || s.pst v == psREADY) && (s.irqHead v).isSome && !s.inCall c

/-- The hypervisor notification line of core `c` as the core takes it: held during a gate call (R410, R454). -/
def State.noteLine (s : State) (c : Nat) : Bool := (s.hnote c != 0 || s.rd F.MPC_PEVT_CHG != 0) && !s.inCall c

/-- The secure interrupt line of core `c` (R455). -/
def State.secLine (s : State) (c : Nat) : Bool :=
  bitOf (s.rd F.MPC_GW_CFG_SEC_CORES) c && (s.secState == 1) && (s.irqHead 0x10).isSome

/-- The first result register that the module itself sets for a core whose gate call cannot be served: SERVICE_UNAVAILABLE (R452,
R456). -/
def State.gateUnserved (s : State) (c : Nat) : State := { s with prt.gateRes := s.prt.gateRes.set c (0x304 + 1) }

/-- GATE: executed by core `a.master` (R452). The first result register's value where the secure side hangs, and the
caller's exception where a check fails, are the answer of `bus`. -/
def gate (t : Nat) (a : Acc) (hyp : Bool) (target : Nat) (s : State) : State :=
  let s := { s.at_ t with bus := .none }
  let c := a.master
  if 6 ≤ c ∨ a.dev = true ∨ s.muteCore a = true then s
  else if a.sec then { s.accFault 0x0B02 a 4 target with bus := .busError }
  else if s.secState = 2 then { s.gateUnserved c with bus := .data 0x304 }
  else if s.inCall c then s
  else if !s.gateOk target then { s.accFault 0x0B02 a 4 target with bus := .busError }
  else
    let s := s.setWord (R.MPC_GW_CALLER c) 0
    let s := ((s.wrb (F.MPC_GW_CALLER_VALID c) true).wrb (F.MPC_GW_CALLER_HYP c) hyp).wr (F.MPC_GW_CALLER_PART c) a.part
    let s := s.wr F.MPC_GW_STAT_IN_GATE (setBit (s.rd F.MPC_GW_STAT_IN_GATE) c)
    let k : GateCall := { part := a.part, hyp := hyp, until_ := s.now + us (10 * s.rd F.MPC_GW_CFG_TMO) }
    { s with prt.calls := s.prt.calls.set c (some k), prt.gateRes := s.prt.gateRes.erase c }

/-- GRET: executed by core `a.master` (R453); in the normal world it is an undefined instruction. -/
def gret (t : Nat) (a : Acc) (s : State) : State :=
  let s := { s.at_ t with bus := .none }
  let c := a.master
  if 6 ≤ c ∨ a.sec = false ∨ s.muteCore a = true then s
  else if s.inCall c then (s.endCall c).hostWaitCheck
  else { s.accFault 0x0B02 a 4 0 with bus := .busError }

/-- GATE_TIMER_EXPIRY: the secure side hangs (R456). -/
def gateTimerExpiry (t c : Nat) (s : State) : State :=
  let s := s.at_ t
  match s.prt.calls.get none c with
  | some k =>
    if s.now < k.until_ ∨ 6 ≤ c then s
    else
      let s := foldS (List.range 6) (fun i s => if s.inCall i then (s.endCall i).gateUnserved i else s) s
      let s := (s.wr F.MPC_GW_STAT_SEC_STATE 2).wr F.MPC_GW_STAT_HUNG_CORE c
      let s := s.setPair R.MPC_GW_HUNG_LO R.MPC_GW_HUNG_HI s.now
      let s := s.raise { code := 0x0B03, cls := .contained, kind := .host }
      (foldS (s.mailObjs 16) (fun x s => s.dispose x) s).hostWaitCheck
  | none => s

/-! ## Clock and power controls -/

/-- A control may leave ON: a channel that is OFF, a PHY whose port is not enabled (R459). -/
def State.mayStop (s : State) (k : Nat) : Bool :=
  if k < 6 then true
  else if k < 22 then s.rd (F.CAN_CTL_MODE (k - 6)) == 0
  else if k < 30 then !s.rdb (F.LIN_CTL_ENABLE (k - 22))
  else !s.rdb (F.SWC_PORT_CFG0_ENABLE (k - 30))

/-- The owner of a control: the secure world's for a core, else that of the block it governs (R458). -/
def State.cpcOwner (s : State) (k : Nat) : Nat :=
  if k < 6 then 16 else if k < 22 then s.ownerOf kCan (k - 6) else if k < 30 then s.ownerOf kLin (k - 22) else s.ownerOf kPort (k - 30)

/-- A control is secure-assigned (R458). -/
def State.cpcSecure (s : State) (k : Nat) : Bool := s.cpcOwner k == 16

/-- MPC_CPCk as it reads: SECURE and OWNER follow the owner, PSTATE is ON in COPPICE (R458, R459). -/
def State.cpcWord (s : State) (k : Nat) : Word :=
  let w := s.word (R.MPC_CPC k)
  let w := if s.dev = .coppice then w.withField 0 2 0 else w
  if k < 54 then (w.withField 31 1 (b2n (s.cpcSecure k))).withField 24 6 (ownerCode (s.cpcOwner k)) else w

/-- An accepted write of a control that R459 takes or refuses. -/
def State.setPstate (s : State) (k v : Nat) : State :=
  if v = 3 then s
  else if v ≠ 0 ∧ s.mayStop k = false then s.wrb (F.MPC_CPC_REFUSED k) true
  else
    let s := s.wrb (F.MPC_CPC_REFUSED k) false
    if k < 6 then
      (if v = 0 then { s.wr (F.MPC_CPC_PSTATE k) 0 with prt.want := s.prt.want.erase k } else { s with prt.want := s.prt.want.set k (v + 1) })
    else s.wr (F.MPC_CPC_PSTATE k) v

/-- MPC_CPC_PSTATE_WRITE: who may write a control, and what the write does (R458, R459). -/
def mpcCpcPstateWrite (t : Nat) (a : Acc) (k v : Nat) (s : State) : State :=
  let s := { s.at_ t with bus := .none }
  if 54 ≤ k ∨ s.dev = .coppice then s
  else if a.sec = true ∧ a.dev = false then s.setPstate k (v % 4)
  else if a.dev = false ∧ s.cpcSecure k = true then s.failAcc 0x0B02 a 2 (R.MPC_CPC k)
  else if a.dev = false ∧ s.cpcOwner k = a.part then s.setPstate k (v % 4)
  else s.refuseAcc a 2 (R.MPC_CPC k)

/-- CORE_WAIT_FOR_INTERRUPT: a pending PSTATE of the core takes effect (R459). -/
def coreWaitForInterrupt (t c : Nat) (s : State) : State :=
  let s := s.at_ t
  let w := s.prt.want.get 0 c
  if c < 6 ∧ w ≠ 0 then { s.wr (F.MPC_CPC_PSTATE c) (w - 1) with prt.want := s.prt.want.erase c } else s

/-! ## Commands (R460, R464) -/

/-- The sum of a violation count over the controllers, saturating. -/
def State.violSum (s : State) (f : Nat → Fld) : Nat := min ((List.range 6).foldl (fun n m => n + s.rd (f m)) 0) 0xFFFFFFFF

def worldStatusBody (_ : Cmd) (s : State) : Res :=
  .done stOK (wordBytes (s.word R.MPC_GW_STAT) ++ wordBytes (s.word R.MPC_LC_STAT) ++ bytesLE 8 (s.pair R.MPC_GW_HUNG_LO R.MPC_GW_HUNG_HI) ++
    bytesLE 4 (s.violSum F.MPC_VIOL_WORLD) ++ bytesLE 4 (s.violSum F.MPC_VIOL_ACCESS)) s

/-- The transitions of R460. -/
def lcAllowed (a b : Nat) : Bool := (a == 0 && (b == 1 || b == 2)) || (a == 1 && b == 2) || (b == 3 && a != 3)

/-- CONFIRM of LC_SET: the lifecycle domain key over serial number, present and target code. -/
def State.lcConfirm (s : State) (b : Nat) : List Byte :=
  slice (Config.hmac256 (s.domainKey 5) (bytesLE 8 Config.serial ++ bytesLE 1 s.lifecycle ++ bytesLE 1 b)) 0 16

def lcSetBody (c : Cmd) (s : State) : Res :=
  let b := c.arg 0 1
  need (decide (b ≤ 3) && c.zero 1 3) stBAD_ARGUMENT <|
  need c.isSecure stNOT_OWNER <|
  need (s.lcConfirm b == c.argBytes 4 16) stAUTH_FAILED <|
  need (lcAllowed s.lifecycle b && (!s.rdb F.MPC_LC_STAT_NEXT_VALID || s.rd F.MPC_LC_STAT_NEXT == b || lcAllowed (s.rd F.MPC_LC_STAT_NEXT) b)) stMODE_FORBIDS <|
  .done stOK (bytesLE 8 s.now) ((s.wrb F.MPC_LC_STAT_NEXT_VALID true).wr F.MPC_LC_STAT_NEXT b)

def dWorldStatus : CmdDef := { op := 0x0A09, lens := lenIs 0, coppice := true, body := worldStatusBody }
def dLcSet : CmdDef := { op := 0x0B30, lens := lenIs 20, body := lcSetBody }

end Sys2Proof.Machine
end

