-- ==== Sys2Proof/Machine/Faults.lean ====
section
/-!
DEFINITION. Machine/Faults.lean: the fault collector's events and commands (R488–R505) and the entry to FAULT (R498–R500).
-/
namespace Sys2Proof.Machine

/-! ## Codes (R491) -/

/-- A handler kind of the code table. -/
inductive CodeKind where
  | accessor | owner | host | system | none
deriving DecidableEq, Repr

/-- The code table: code, the classes it may have (the first is the one FAULT_INJECT raises, DEDUCED, assumption 80), handler. -/
def codeTable : List (Nat × List FltClass × CodeKind) := [
  (0x0101, [.contained], .system), (0x0102, [.contained], .system), (0x0103, [.contained], .accessor), (0x0104, [.corrected], .system),
  (0x0105, [.contained], .accessor), (0x0106, [.contained], .system), (0x0107, [.fatal], .none),
  (0x0201, [.contained], .system), (0x0202, [.corrected], .owner), (0x0203, [.corrected], .owner), (0x0204, [.fatal], .none),
  (0x0301, [.corrected], .owner), (0x0302, [.corrected], .system), (0x0303, [.corrected, .contained], .system), (0x0304, [.corrected], .system),
  (0x0401, [.corrected], .owner), (0x0402, [.corrected], .owner), (0x0403, [.contained], .owner), (0x0404, [.corrected], .owner),
  (0x0501, [.contained], .system), (0x0502, [.corrected], .owner), (0x0601, [.corrected], .owner),
  (0x0901, [.contained], .system), (0x0902, [.corrected], .system), (0x0903, [.corrected], .system), (0x0904, [.contained], .system),
  (0x0A01, [.contained], .owner), (0x0A02, [.contained], .owner),
  (0x0B01, [.contained], .accessor), (0x0B02, [.contained], .accessor), (0x0B03, [.contained], .host), (0x0B04, [.corrected], .system),
  (0x0B05, [.contained], .system),
  (0x0C01, [.contained, .fatal], .system), (0x0C02, [.fatal], .none), (0x0C03, [.corrected, .contained, .fatal], .system),
  (0x0D01, [.corrected], .system)]

/-- The owner of the object that a record names, by the code's chapter (R492). -/
def State.codeOwner (s : State) (code obj : Nat) : Nat :=
  if code = 0x0203 ∨ code = 0x0301 then s.objOwner obj
  else if code = 0x0202 then s.objOwner (s.topOf obj)
  else if code / 256 = 4 then s.taskOwner obj
  else if code = 0x0502 then s.ownerOf kRecov obj
  else if code = 0x0601 then s.canOwner obj
  else (s.pairPart obj).getD 17

/-- The handler kind of a code for an object. -/
def State.codeKind (s : State) (code obj : Nat) : CodeKind → HKind
  | .accessor => .accessor
  | .owner => .owner (s.codeOwner code obj)
  | .host => .host
  | .system => .system
  | .none => .none

/-- A class by its code. -/
def classOfCode (n : Nat) : FltClass := if n = 0 then .corrected else if n = 1 then .contained else .fatal

/-- A FATAL fault whose condition persists (R501). -/
def persists (code : Nat) : Bool := code == 0x0204 || code == 0x0C01 || code == 0x0C02

/-- A persisting condition holds the quiet timer at zero (R501). -/
def State.addCond (s : State) (code src : Nat) : State :=
  if s.flt.conds.any (fun c => c.code == code && c.src == src) then s
  else
    let s := if s.dev = .fault then s.wrb F.FLT_STAT_QUIET_HELD true else s
    { s with flt.conds := { code := code, src := src } :: s.flt.conds, flt.quietEnd := none }

/-! ## Reports (R488, R489) -/

/-- An uncorrectable ECC error returns a bus error to its reader: to a load or fetch, or to the fetch of the read-ahead slot
that holds it (R28, R355). -/
def State.eccReader (s : State) (a : Acc) (addr : Nat) : State :=
  { s with bus := .busError,
           brg.slots := s.brg.slots.map (fun x =>
             if x.data.isNone && x.acc == a && decide (x.addr ≤ addr) && decide (addr < x.addr + x.size) then { x with data := some none, at_ := s.now } else x) }

/-- FAULT_REPORT: a line asserts with its record: code, class, object, detail, and the access it carries (master 0xFF:
none). The reader that met an uncorrectable ECC error takes a bus error (R28). -/
def faultReport (t code cls obj detail : Nat) (a : Acc) (ty addr : Nat) (s : State) : State :=
  let s := s.at_ t
  match codeTable.find? (fun r => r.1 == code) with
  | some (_, cs, k) =>
    let c := classOfCode cls
    if !cs.contains c then s
    else
      let s := if c = .fatal ∧ persists code = true then s.addCond code obj else s
      let s := s.raise { code := code, cls := c, kind := s.codeKind code obj k, acc := if a.master = 0xFF then none else some (a, ty, addr), obj := obj, detail := detail }
      if code = 0x0105 ∧ a.master ≠ 0xFF ∧ ty ≠ 2 then s.eccReader a addr else s
  | none => s

/-- An island's lines are masked: unpowered, or its domain in reset (R489): the clusters and the cycle engine in FAULT. -/
def State.railMasked (s : State) (i : Nat) : Bool :=
  !(s.tb.replicas.get {} i).powered || s.dev == .off || s.dev == .sleep || (s.dev == .fault && (i == 3 || i == 4 || i == 5))

/-- The log record of a FATAL line without a record: no second FATAL fault, no effect on the quiet timer or ENTRY (R488). -/
def State.fatalUnrecorded (s : State) (island : Nat) : State :=
  let r : Report := { code := 0x0C03, cls := .fatal, kind := .none, detail := island }
  let s := (s.countFault .fatal).capture r
  let s := s.logRec (s.record r 0x3F 0)
  if s.dev = .fault ∧ s.rd F.FLT_STAT_ENTRY = 2 then s else { s with flt.react := s.flt.react ++ [React.fatal] }

/-- UNRECORDED_TIMEOUT: no record within 2 µs of an assertion of an island's class line (R488, DEDUCED, assumption 81). -/
def unrecordedTimeout (t island cls : Nat) (s : State) : State :=
  let s := s.at_ t
  if 41 < island ∨ 2 < cls ∨ s.railMasked island = true then s
  else if cls = 2 then s.fatalUnrecorded island
  else s.raise { code := 0x0C03, cls := classOfCode cls, kind := .system, detail := island }

/-- RAIL_DISAGREEMENT: a rail pair of an island disagrees for more than 3 cycles (R489). -/
def railDisagreement (t island : Nat) (s : State) : State :=
  let s := s.at_ t
  if 41 < island ∨ s.railMasked island = true then s
  else
    let a := if island < 32 then R.FLT_RAIL_LO else R.FLT_RAIL_HI
    let s := s.setWord a ((s.word a) ||| BitVec.ofNat 32 (2 ^ (island % 32)))
    if island = 8 ∨ island = 4 ∨ 9 ≤ island then
      (s.addCond 0x0C01 island).raise { code := 0x0C01, cls := .fatal, kind := .system, detail := island }
    else s.raise { code := 0x0C01, cls := .contained, kind := .system, detail := island }

/-- FATAL_CONDITION_CLEAR: a check finds a persisting condition gone (R501). -/
def fatalConditionClear (t code src : Nat) (s : State) : State :=
  let s := s.at_ t
  let l := s.flt.conds.filter (fun c => !(c.code == code && c.src == src))
  if l = s.flt.conds then s
  else
    let s : State := { s with flt.conds := l }
    if s.dev = .fault ∧ l = [] then { s.wrb F.FLT_STAT_QUIET_HELD false with flt.quietEnd := some (s.now + s.quiet) } else s

/-! ## Notification (R493, R496, R497) -/

/-- The handler whose banked notification registers an access reaches (R36): none for DEVICE and for a safety core that
hosts no partition. -/
def State.handlerOfAcc (s : State) (a : Acc) : Option Nat :=
  let b := s.accBank a
  if b < 16 ∨ b = 0x10 then some b else if 0x18 ≤ b ∧ b ≤ 0x1F then s.corePart (b - 0x18) else none

/-- Remove an entry of a handler's queue. -/
def State.dropNote (s : State) (h idx : Nat) : State :=
  { s with flt.queue := s.flt.queue.set h ((s.flt.queue.get [] h).filter (fun n => n.index != idx)) }

/-- FLT_NOTE_ACK: the requester's entry with the index leaves its queue (R493, R496). -/
def fltNoteAck (t : Nat) (a : Acc) (v : Nat) (s : State) : State :=
  let s := { s.at_ t with bus := .none }
  match s.handlerOfAcc a with
  | some h =>
    let i := v % 4096
    if (s.flt.queue.get [] h).any (fun n => n.index == i) then (s.dropNote h i).logFlag i 1 else s
  | none => s

/-- Change an entry of a handler's queue. -/
def State.modNote (s : State) (h idx : Nat) (f : Note → Note) : State :=
  { s with flt.queue := s.flt.queue.set h ((s.flt.queue.get [] h).map (fun n => if n.index = idx then f n else n)) }

/-- HANDLING_TIMER_EXPIRY: stage 1 resets the partition, stage 2 puts the device into FAULT (R496, R497). -/
def handlingTimerExpiry (t h index : Nat) (s : State) : State :=
  let s := s.at_ t
  match (s.flt.queue.get [] h).find? (fun n => n.index == index) with
  | some n =>
    (match n.timer with
     | some e =>
       if s.now < e then s
       else
         let s := s.modNote h index (fun n => { n with timer := none })
         if h = 0x10 ∨ n.stage1 = true then { s.logFlag index 4 with flt.react := s.flt.react ++ [React.escalate] }
         else
           let s := (s.modNote h index (fun n => { n with stage1 := true })).logFlag index 2
           s.resetPart h 4 false
     | none => s)
  | none => s

/-- The words FLT_NOTE_HEAD and FLT_NOTE_CNT of a handler. -/
def State.noteHead (s : State) (h : Nat) : Nat :=
  match s.flt.queue.get [] h with
  | [] => 0
  | n :: _ => 2 ^ 31 + b2n n.cont * 2 ^ 30 + b2n n.timer.isSome * 2 ^ 29 + b2n n.stage1 * 2 ^ 28 + n.code * 2 ^ 12 + n.index
def State.noteCnt (s : State) (h : Nat) : Nat :=
  let q := s.flt.queue.get [] h
  (q.filter (fun n => n.cont)).length * 256 + q.length

/-! ## Entry to FAULT (R498–R500) -/

/-- Activities of the COMPUTE domain are aborted, and their requests queued again at the head of their activity (R522,
R589). -/
def State.abortCompute (s : State) : State :=
  let gone := s.cfg.mrun.filter (fun m => computeAct m.req.act)
  let again (m : MaintRun) : MaintReq := { m.req with cmd := none }
  ({ s with cfg.mrun := s.cfg.mrun.filter (fun m => !computeAct m.req.act), cfg.mq := gone.map again ++ s.cfg.mq }).maintStat

/-- The clusters are held in reset: partitions take R416 and read HALTED, pairs are off, the secure world does not run
(R499). -/
def State.holdClusters (s : State) : State :=
  let s := foldS ((List.range 16).filter (fun v => s.hosting v != 0)) (fun v s =>
    (((s.partEffects v).wrb (F.MPC_PART_STAT_SCRUBBING v) false).modPart v (fun p => { p with scrub := false })).setPart v psHALTED) s
  let s := foldS (List.range 4) (fun n s => s.setPair_ n lsOFF) s
  let s := foldS (List.range 6) (fun c s => if s.inCall c then s.endCall c else s) s
  let s := s.ringsOff 16
  let s := foldS ((List.range 16).filter (fun c => s.canOwner c == 16)) (fun c s => s.canOwnerReset c) s
  let s := foldS ((List.range 8).filter (fun c => s.ownerOf kLin c == 16)) (fun c s => s.linOwnerReset c) s
  let s := s.abortKeyOps stINTERNAL_FAULT
  let s := foldS (List.range 17) (fun w s => s.wrb (F.MBX_CTL_ENABLE w) false) s
  { s.wr F.MPC_GW_STAT_SEC_STATE 0 with prt.hostWait := none, mbx.cmds := s.mbx.cmds.filter (fun c => !(c.op == 0x0A03 && c.phase == .running)) }

/-- The state of the device changes (R79). -/
def State.setDev (s : State) (d : DevState) : State :=
  if s.dev = d then s else { s.wr F.BOOT_STAT_STATE d.code with dev := d, devSince := s.now }

/-- Every object takes SAFE_ST at once (R113, R500). -/
def State.allSafe (s : State) : State := foldS s.tops (fun x s => s.forceSafe x) s

/-- Entry to FAULT, or its change to FATAL (R498, R499). -/
def State.enterFault (s : State) (fatal : Bool) : State :=
  let s := if fatal then s.sleepAbort else s
  if s.dev = .fault then
    if fatal ∧ s.rd F.FLT_STAT_ENTRY = 1 then (s.wr F.FLT_STAT_ENTRY 2).allSafe else s
  else if s.dev = .off ∨ s.dev = .sleep then s
  else
    let s := if s.dev = .starting then s.wr F.BOOT_STAT_FAIL 7 else s
    let s := s.setDev .fault
    let s := ((s.wrb F.FLT_STAT_IN_FAULT true).wr F.FLT_STAT_ENTRY (if fatal then 2 else 1)).setPair R.FLT_ENTRY_LO R.FLT_ENTRY_HI s.now
    let s := if s.flt.conds = [] then { s with flt.quietEnd := some (s.now + s.quiet) } else s.wrb F.FLT_STAT_QUIET_HELD true
    let s := if fatal then s.allSafe else s
    let s := s.cycStop (!fatal)
    let s := if fatal then s else foldS s.tops (fun x s => s.dispose x) s
    (s.holdClusters.dropSwitch.abortCompute).stopVerify

/-- QUIET_TIMER_EXPIRY: RECOVERY increments, the queues are emptied and a COMPUTE_FAULT start follows (R501). -/
def quietTimerExpiry (t : Nat) (s : State) : State :=
  let s := s.at_ t
  match s.flt.quietEnd with
  | some e =>
    if s.dev = .fault ∧ e ≤ s.now ∧ s.flt.conds = [] then
      { s.sat F.FLT_STAT_RECOVERY 1 with flt.queue := Tab.empty, flt.quietEnd := none, flt.react := s.flt.react ++ [React.reset 6] }
    else s
  | none => s

/-! ## Commands (R503–R505) -/

def faultStatusBody (_ : Cmd) (s : State) : Res :=
  .done stOK (wordBytes (s.word R.FLT_CFG) ++ wordBytes (s.word R.FLT_SYS) ++ wordBytes (s.word R.FLT_STAT) ++
    bytesLE 4 (s.flt.seq + 2 ^ 32 - 1) ++ bytesLE 8 (s.pair R.FLT_ENTRY_LO R.FLT_ENTRY_HI) ++ bytesLE 8 (s.flt.quietEnd.getD 0) ++
    bytesLE 4 (s.flt.count.get 0 0) ++ bytesLE 2 (s.flt.count.get 0 1) ++ bytesLE 2 (s.flt.count.get 0 2)) s

/-- The 32 bytes of a log record (R495). -/
def LogRec.bytes (l : LogRec) : List Byte :=
  bytesLE 8 l.when_ ++ bytesLE 4 l.seq ++ bytesLE 2 l.code ++ bytesLE 1 l.cls ++ bytesLE 1 l.flags ++ bytesLE 5 l.addr ++ bytesLE 1 l.master ++
  bytesLE 1 l.acc ++ bytesLE 1 l.handler ++ bytesLE 2 l.obj ++ bytesLE 2 l.rep ++ bytesLE 4 l.detail

/-- How many records the log holds. -/
def State.logCount (s : State) : Nat := ((s.flt.log.cells).filter (fun c => c.2.valid)).length

/-- The oldest SEQ held. -/
def State.logOldest (s : State) : Nat := (s.flt.seq + 2 ^ 32 - s.logCount) % 2 ^ 32

/-- The records from a SEQ onwards, oldest first; from the oldest where that one is overwritten (R180, R504). -/
def State.logFrom (s : State) (seq : Nat) : List LogRec :=
  let age := (s.flt.seq + 2 ^ 32 - seq) % 2 ^ 32
  let n := if age ≤ s.logCount then age else s.logCount
  (List.range n).map (fun i => s.flt.log.get {} ((s.flt.seq + 2 ^ 32 - n + i) % 2 ^ 32 % 4096))

/-- A requester may receive a record (R504): a local partition those that name it, without the secure world's and DEVICE's
accesses. -/
def LogRec.forWho (l : LogRec) (c : Cmd) : Bool :=
  c.who == 16 || ((l.handler == c.who || (l.master != 0xFF && l.acc % 16 == c.who)) && !bitOf l.acc 4 && !bitOf l.flags 4)

def faultLogReadBody (c : Cmd) (s : State) : Res :=
  if c.desc then
    need (c.dSize 0 == 4 && c.dSize 1 % 32 == 0) stBAD_ARGUMENT <|
    need (c.node == 0xFFFF || c.who == 16) stNOT_OWNER <|
    let l := ((s.logFrom (natLE (s.load (c.dAddr 0) 4))).filter (fun r => r.forWho c)).take (c.dSize 1 / 32)
    .done stOK (bytesLE 4 (32 * l.length) ++ bytesLE 4 s.logOldest) (s.putBuf c 1 (l.flatMap (fun r => r.bytes)))
  else
    need (c.zero 4 4) stBAD_ARGUMENT <|
    need (c.node == 0xFFFF || c.who == 16) stNOT_OWNER <|
    match (s.logFrom (c.arg 0 4)).find? (fun r => r.forWho c) with
    | some r => .done stOK (bytesLE 4 r.seq ++ bytesLE 4 s.logOldest ++ r.bytes) s
    | none => .done stOK (bytesLE 4 0xFFFFFFFF ++ bytesLE 4 s.logOldest) s

/-- The five words of a capture. -/
def State.capWords (s : State) (k : Nat) : List Byte :=
  wordBytes (s.word (R.FLT_FE_INFO k)) ++ wordBytes (s.word (R.FLT_FE_CODE k)) ++ wordBytes (s.word (R.FLT_FE_ADDR k)) ++
  bytesLE 8 (s.pair (R.FLT_FE_TS_LO k) (R.FLT_FE_TS_HI k))

/-- Re-arm a capture (R494). -/
def State.rearm (s : State) (k : Nat) : State :=
  foldS [R.FLT_FE_INFO k, R.FLT_FE_CODE k, R.FLT_FE_ADDR k, R.FLT_FE_TS_LO k, R.FLT_FE_TS_HI k] (fun a s => s.setWord a 0) s

def faultCaptureBody (c : Cmd) (s : State) : Res :=
  let k := c.arg 0 1
  let op := c.arg 1 1
  need (decide (k ≤ 2) && decide (op ≤ 1) && c.zero 2 2) stBAD_ARGUMENT <|
  need (op == 0 || c.isSecure) stNOT_OWNER <|
  need (op == 0 || s.dev != .fault) stMODE_FORBIDS <|
  let mine := c.who == 16 || (c.node == 0xFFFF && s.flt.capH.get 0x3F k == c.who)
  .done stOK ((if mine then s.capWords k else bytesLE 20 0) ++ bytesLE 4 0) (if op = 1 then s.rearm k else s)

def faultRecoveryClearBody (c : Cmd) (s : State) : Res :=
  need c.isSecure stNOT_OWNER <|
  .done stOK (bytesLE 8 s.now) (s.wr F.FLT_STAT_RECOVERY 0)

def faultInjectBody (c : Cmd) (s : State) : Res :=
  let code := c.arg 0 2
  let obj := c.arg 2 2
  match codeTable.find? (fun r => r.1 == code) with
  | some (_, cs, k) =>
    need (c.zero 4 4) stBAD_ARGUMENT <|
    need c.isSecure stNOT_OWNER <|
    need (s.lifecycle == 1) stMODE_FORBIDS <|
    let s := s.raise { code := code, cls := cs.headD .corrected, kind := s.codeKind code obj k, acc := some (⟨0x10, false, 0, true, false⟩, 0, 0), obj := obj }
    .done stOK (bytesLE 4 (s.flt.seq + 2 ^ 32 - 1) ++ bytesLE 4 0) s
  | none => .refuse stBAD_ARGUMENT

def dFaultStatus : CmdDef := { op := 0x0C01, lens := lenIs 0, coppice := true, body := faultStatusBody }
def dFaultLogRead : CmdDef := { op := 0x0C02, lens := lenIs 8, descs := [[0, 1]], coppice := true, body := faultLogReadBody }
def dFaultCapture : CmdDef := { op := 0x0C03, lens := lenIs 4, coppice := true, coppiceForm := fun c => c.arg 1 1 == 0, body := faultCaptureBody }
def dFaultRecoveryClear : CmdDef := { op := 0x0C04, lens := lenIs 0, body := faultRecoveryClearBody }
def dFaultInject : CmdDef := { op := 0x0C05, lens := lenIs 8, body := faultInjectBody }

end Sys2Proof.Machine
end

