-- ==== Sys2Proof/Machine/Update.lean ====
section
/-!
DEFINITION. Machine/Update.lean: packages and areas (R543–R548), the update session (R549–R553), its copies (R553–R556),
confirmation (R557) and the update commands (R561–R565). The copies take effect whole at their completion (DESIGN CHOICE, assumption 96).
-/
namespace Sys2Proof.Machine

/-! ## Manifests (R546) -/

def mImgs (m : List Byte) : Nat := leAt m 6 1
def mKeys (m : List Byte) : Nat := leAt m 60 2
def mChunks (m : List Byte) : Nat := leAt m 56 4
def mLen (m : List Byte) : Nat := leAt m 48 8
def mSv (m : List Byte) : Nat := leAt m 16 4
def mKeyIndex (m : List Byte) : Nat := leAt m 7 1
/-- EXPLICIT and REVOKE_LOWER. -/
def mExplicit (m : List Byte) : Bool := bitOf (leAt m 24 4) 0
def mRevoke (m : List Byte) : Bool := bitOf (leAt m 24 4) 1

/-- Offset of the signature block, and the length of the manifest. -/
def mSigOff (m : List Byte) : Nat := 128 + 96 * mImgs m + 48 * mKeys m
def mSize (m : List Byte) : Nat := mSigOff m + 5460

/-- The image entries. -/
def mEnts (m : List Byte) : List (List Byte) := (List.range (mImgs m)).map (fun i => slice m (128 + 96 * i) 96)

def eId (e : List Byte) : Nat := leAt e 0 1
/-- IN_PACKAGE. -/
def ePkg (e : List Byte) : Bool := bitOf (leAt e 1 1) 0
def eVersion (e : List Byte) : Nat := leAt e 4 4
def eOff (e : List Byte) : Nat := leAt e 8 8
def eLen (e : List Byte) : Nat := leAt e 16 8
def eNonce (e : List Byte) : List Byte := slice e 24 12
def eDigest (e : List Byte) : List Byte := slice e 48 48

/-- The wrapped content key that the key table holds for this unit. -/
def mWrapped (m : List Byte) : Option (List Byte) :=
  ((List.range (mKeys m)).find? (fun i => leAt m (128 + 96 * mImgs m + 48 * i) 8 == Config.serial % 2 ^ 64)).map
    (fun i => slice m (128 + 96 * mImgs m + 48 * i + 8) 40)

/-- An image entry is well formed (R544, R546). -/
def entryOk (m e : List Byte) : Bool :=
  ([1, 2, 3, 5, 6, 7].contains (eId e) || (decide (0x10 ≤ eId e) && decide (eId e ≤ 0x1F))) && decide (leAt e 1 1 ≤ 1) && (leAt e 2 2 == 0) &&
  (eOff e % 4096 == 0) && (if ePkg e then decide (eOff e + eLen e ≤ mLen m) else eOff e == 0) && (slice e 36 12).all (fun b => b == 0)

/-- The IDs of a manifest are unique, with 1, 2 and 3 among them. -/
def idsOk (m : List Byte) : Bool :=
  let l := (mEnts m).map eId
  decide (l.eraseDups.length = l.length) && l.contains 1 && l.contains 2 && l.contains 3

/-- Sizes, counts and reserved fields of a manifest (check 1 of R548). -/
def formatOk (m : List Byte) : Bool :=
  decide (m.length ≤ 65536) && (leAt m 0 4 == 0x55504B31) && (leAt m 4 2 == 1) && between 1 24 (mImgs m) && decide (mKeyIndex m ≤ 3) &&
  (leAt m 8 8 != 0) && decide (leAt m 20 4 ≤ mSv m) && decide (leAt m 24 4 < 4) && (leAt m 45 3 == 0) && between 1 4293918720 (mLen m) &&
  (mChunks m == (mLen m + 262143) / 262144) && between 1 1024 (mKeys m) && (leAt m 62 2 == 0) && (slice m 112 16).all (fun b => b == 0) &&
  decide (m.length = mSize m) && (mEnts m).all (fun e => entryOk m e) && idsOk m && (leAt m (mSigOff m + 97) 3 == 0) &&
  (leAt m (mSigOff m + 5457) 3 == 0)

/-- PART and HW_REV are the unit's (R546). -/
def unitOk (m : List Byte) : Bool := (slice m 28 16 == slice (ascii "VBZ-512-A") 0 16) && (leAt m 44 1 == 0x42)

/-- The public keys and the signatures of a manifest. -/
def mEccPub (m : List Byte) : List Byte := slice m (mSigOff m) 97
def mMlPub (m : List Byte) : List Byte := slice m (mSigOff m + 100) 1952
def mEccSig (m : List Byte) : List Byte := slice m (mSigOff m + 2052) 96
def mMlSig (m : List Byte) : List Byte := slice m (mSigOff m + 2148) 3309

/-- KEK_U and KEK_F (R547). -/
def State.kekU (s : State) : List Byte := Config.kdf (s.domainKey 2) (ascii "VBZ-UPD-KEK") s.keyContext
def State.kekF (s : State) : List Byte := Config.kdf (s.domainKey 0) (ascii "VBZ-AREA-KEK") s.keyContext

/-- Checks 1 to 4 of R548: 0 passes, else the result code. -/
def State.checkSet (s : State) (m : List Byte) : Nat :=
  if !formatOk m then 2
  else if !unitOk m then 3
  else if !bitOf (s.rd F.UPD_KEYS_FUSED) (mKeyIndex m) || bitOf (s.rd F.UPD_KEYS_REVOKED) (mKeyIndex m) ||
    Config.digest 0x384 (mEccPub m ++ mMlPub m) != s.upd.hashes.get [] (mKeyIndex m) then 4
  else if !(Config.verify 0x61 (mEccPub m) (mEccSig m ++ m.take (mSigOff m)) && Config.verify 0x65 (mMlPub m) (mMlSig m ++ m.take (mSigOff m))) then 5
  else if mSv m < s.rd F.UPD_FLOOR_FLOOR then 6
  else 0

/-- Every image that is not in the package equals the active area's in VERSION and DIGEST (check 6). -/
def State.carryOk (s : State) (m : List Byte) : Bool :=
  (mEnts m).all (fun e => ePkg e || (mEnts s.upd.active.manifest).any (fun a => eId a == eId e && eVersion a == eVersion e && eDigest a == eDigest e))

/-- All seven checks of a download (R548); in ROM recovery every image must be in the package (R561). -/
def State.checkDownload (s : State) (m ct : List Byte) : Nat :=
  let e := s.checkSet m
  if e ≠ 0 then e
  else match mWrapped m with
    | none => 3
    | some w =>
      if s.hwn.spent || !Config.verify 0x70 s.kekU w then 3
      else if !(if s.boot.stage == .rom then (mEnts m).all ePkg else s.carryOk m) then 7
      else if Config.digest 0x384 ct != slice m 64 48 then 2
      else 0

/-! ## Areas (R543–R545) -/

/-- The content key of an area. -/
def State.areaKey (s : State) (a : Area) : List Byte := Config.cipher 0x70 s.kekF a.key

/-- An image decrypted. -/
def plainImage (ck : List Byte) (x : NandImage) : List Byte := Config.cipher 0x71 ck (x.nonce ++ x.data)

/-- The image of an entry is in the area and its plaintext has the entry's digest. -/
def Area.imageOk (a : Area) (ck e : List Byte) : Bool :=
  match a.images.get none (eId e) with
  | some x => decide (x.data.length = eLen e) && Config.digest 0x384 (plainImage ck x) == eDigest e
  | none => false

/-- An area is authentic (R545). -/
def State.areaOk (s : State) (a : Area) : Bool :=
  (s.checkSet a.manifest == 0) && !s.hwn.spent && Config.verify 0x70 s.kekF a.key && (mEnts a.manifest).all (fun e => a.imageOk (s.areaKey a) e)

/-- The Smisan image (ID 2) of an area is authentic (R530). -/
def State.smisanOk (s : State) (a : Area) : Bool :=
  (s.checkSet a.manifest == 0) && !s.hwn.spent && Config.verify 0x70 s.kekF a.key &&
  (mEnts a.manifest).any (fun e => eId e == 2 && a.imageOk (s.areaKey a) e)

/-- The configuration set that image 3 lays out: a copy of R509 without its tag table (R544). -/
def cfgOfImage (b : List Byte) : CfgSet :=
  let one (i : Nat) : List Byte := slice b (imgOff i) (min (imgMax i) (leAt b (imgOff i + 12) 4))
  { gen := leAt b 8 4, base := one 16,
    ovls := (List.range 16).map (fun i => if (slice b (imgOff i) 64).all (fun x => x == 0) then none else some (one i)) }

/-! ## The session -/

/-- STATE changes (R549, R563). -/
def State.setUpd (s : State) (st : Nat) : State :=
  if s.rd F.UPD_STAT_STATE = st then s else { s.wr F.UPD_STAT_STATE st with upd.stAt := s.now }

/-- The session is discarded with a result, and the state is IDLE. -/
def State.endUpd (s : State) (result : Nat) : State :=
  let s := ((s.setUpd 0).wr F.UPD_STAT_RESULT result).wrb F.UPD_STAT_ARMED false
  let s := ((s.setWord R.UPD_CHUNKS 0).setWord R.UPD_FIRST 0).setPair R.UPD_PKG_LO R.UPD_PKG_HI 0
  { (s.wrb F.UPD_STAT_EXPLICIT false).wr F.UPD_STAT_TRIES 0 with
    upd.manifest := [], upd.chunkTab := [], upd.chunks := Tab.empty, upd.key := [], upd.dropped := false, upd.reverify := false,
    upd.rollback := false, upd.rom := false }

/-- Chunk `i` has its bit set. -/
def State.hasChunk (s : State) (i : Nat) : Bool := (s.upd.chunks.get none i).isSome

/-- RECEIVED and FIRST follow the bitmap (R551). -/
def State.chunkCount (s : State) : State :=
  let n := mChunks s.upd.manifest
  let s := s.wr F.UPD_CHUNKS_RECEIVED ((List.range n).filter (fun i => s.hasChunk i)).length
  s.wr F.UPD_FIRST_FIRST (((List.range n).find? (fun i => !s.hasChunk i)).getD n)

/-- The length of chunk `i`. -/
def chunkLen (m : List Byte) (i : Nat) : Nat := min 262144 (mLen m - 262144 * i)

/-- The payload that has been downloaded. -/
def State.payload (s : State) : List Byte := (List.range (mChunks s.upd.manifest)).flatMap (fun i => (s.upd.chunks.get none i).getD [])

/-- An image of the package as staging holds it. -/
def State.stagedImage (s : State) (e : List Byte) : NandImage :=
  { data := slice s.payload (eOff e) (eLen e), nonce := eNonce e, version := eVersion e, digest := eDigest e }

/-- Write a journal slot (R555): the two slots are written alternately. -/
def State.journal (s : State) (jop img unit_ : Nat) : State :=
  let b := bytesLE 1 jop ++ bytesLE 1 img ++ bytesLE 2 0 ++ bytesLE 4 unit_ ++ bytesLE 4 s.upd.jseq ++ List.replicate 16 0
  { s.wr F.UPD_STAT_JOP jop with upd.slots := s.upd.slots.set (s.upd.jseq % 2) (b ++ bytesLE 4 (crc32 b)), upd.jseq := (s.upd.jseq + 1) % 2 ^ 32 }

/-- The result of the check of an image of the package: its digest, and for the configuration set its content and its SET_GEN (R552). -/
def State.verifyImage (s : State) (ck e : List Byte) : Nat :=
  let b := plainImage ck (s.stagedImage e)
  let c := cfgOfImage b
  if Config.digest 0x384 b != eDigest e then 9
  else if eId e == 3 && !(s.contentOk c && decide (s.wordN R.CFG_GEN_RUN < c.gen)) then 0xA else 0

/-- The key of the package that the manifest carries (R547). -/
def State.packageKey (s : State) : List Byte := Config.cipher 0x70 s.kekU ((mWrapped s.upd.manifest).getD [])

/-- The result of the first image of the package, in entry order, that its check fails (R552). -/
def State.packageFault (s : State) : Option Nat :=
  (((mEnts s.upd.manifest).filter ePkg).map (fun e => s.verifyImage s.packageKey e)).find? (fun r => r != 0)

/-- The package is verified: STAGED, its key kept under the unit's own, and the copy requested (R552). -/
def State.packageOk (s : State) : State :=
  let s : State := { s.setUpd 4 with upd.key := Config.cipher 0x72 s.kekF s.packageKey }
  if s.boot.stage = .rom then s else s.requestAct { act := aSTAGE_COPY }

/-- UPD_VERIFICATION_COMPLETE: every image of the package is checked in entry order, and the first that fails ends the session (R552). -/
def updVerificationComplete (t : Nat) (s : State) : State :=
  let s := s.at_ t
  if s.rd F.UPD_STAT_STATE ≠ 3 then s
  else match s.packageFault with
    | some r => s.endUpd r
    | none => s.packageOk

/-- The fallback area holds the active set (R553). -/
def State.prepared (s : State) : State := { (s.journal 0 0 0).wrb F.UPD_STAT_FALLBACK_OK true with upd.fallback := s.upd.active }

/-- STAGE_COPY_COMPLETE (R553); an aborted session ends after its copy (R560). -/
def stageCopyComplete (t : Nat) (s : State) : State :=
  let s := s.at_ t
  if s.running aSTAGE_COPY then
    let s := if s.rd F.UPD_STAT_STATE = 5 then (if s.upd.dropped then s.prepared.endUpd 0xE else s.prepared.setUpd 6) else s
    (s.endRun aSTAGE_COPY).checkHold
  else s

/-- The active area after activation: images of the package from staging, the others from the fallback area (R554). -/
def State.activated (s : State) : Area :=
  { manifest := s.upd.manifest, key := s.upd.key,
    images := { cells := ((mEnts s.upd.manifest).map eId |>.mergeSort (fun a b => decide (a ≤ b))).filterMap (fun i =>
      ((mEnts s.upd.manifest).find? (fun e => eId e == i)).map (fun e => (i, if ePkg e then some (s.stagedImage e) else s.upd.fallback.images.get none i))) } }

/-- The package replaces image 3. -/
def State.newConfig (s : State) : Bool := (mEnts s.upd.manifest).any (fun e => eId e == 3 && ePkg e)

/-- Activation (R554): prepared first where the state was not PREPARED. -/
def State.activateSet (s : State) (prep : Bool) : State :=
  let s := if prep then s.prepared else s
  let a := s.activated
  let s := ((s.journal 0 0 0).setUpd 8).wr F.UPD_STAT_TRIES 0
  let s := (s.wrb F.UPD_STAT_ARMED false).wrb F.UPD_STAT_CFG_PEND (s.newConfig || s.rdb F.UPD_STAT_CFG_PEND)
  { s.wrb F.UPD_STAT_EXPLICIT (mExplicit s.upd.manifest) with upd.active := a, upd.rbGen := if s.newConfig then none else s.upd.rbGen }

/-- The SET_GEN of an area's image 3. -/
def State.areaGen (s : State) (a : Area) : Nat :=
  match a.images.get none 3 with | some x => leAt (plainImage (s.areaKey a) x) 8 4 | none => 0

/-- Rollback (R556, R558): the fallback set is copied over the active area. -/
def State.rolledBack (s : State) : State :=
  let gen := s.areaGen s.upd.active + 1
  let s := ((s.journal 0 0 0).setUpd 9).wr F.UPD_STAT_RESULT s.upd.rbResult
  let s := (s.wrb F.UPD_STAT_CFG_PEND (s.newConfig || s.rdb F.UPD_STAT_CFG_PEND)).wr F.UPD_STAT_TRIES 0
  { s.wrb F.UPD_STAT_EXPLICIT false with upd.active := s.upd.fallback, upd.rollback := false, upd.rbGen := some gen }

/-- The registers that the coppice record holds: fabric, CAN0, P05 and the Hedgerow link (R536). -/
def inRecord (a : Nat) : Bool :=
  inFabric a || (decide (0x10200000 ≤ a) && decide (a < 0x10204000)) || (decide (R.SWC_PORT_CFG0 4 ≤ a) && decide (a < R.SWC_PORT_CFG0 5)) ||
  (decide (0x10D80000 ≤ a) && decide (a ≤ 0x10DFFFFF))

/-- The coppice record is written: the settings of the LIMP overlay (R536). -/
def State.saveRecord (s : State) : State :=
  let o := s.overlay 6
  let l := ((s.cfg.base.keys ++ o.recs.map (fun r => r.addr)).eraseDups.filter inRecord).map (fun a => (a, (s.overlaid o a).toNat))
  { s with boot.record := some (l, s.epoch) }

/-- Confirmation of the pending set (R557): the coppice record is rewritten from it. -/
def State.confirmSet (s : State) : State :=
  let m := s.upd.manifest
  let s := s.wr F.UPD_FLOOR_FLOOR (max (s.rd F.UPD_FLOOR_FLOOR) (leAt m 20 4))
  let s := if mRevoke m then s.wr F.UPD_KEYS_REVOKED (s.rd F.UPD_KEYS_REVOKED ||| (2 ^ mKeyIndex m - 1)) else s
  s.saveRecord.endUpd 1

/-! ## Commands -/

/-- The requester is an update controller (R562). -/
def State.updCtl (s : State) (c : Cmd) : Bool :=
  s.boot.stage == .rom ||
  (c.node == 0xFFFF && (c.who == 16 || bitOf (s.rd F.UPD_CTRL_CTRL) c.who || (s.dev == .coppice && s.corePart 0 == some c.who)))

/-- UPD_STAT as it reads: while a stage runs, PROGRESS and the image at work are open (DESIGN CHOICE, assumption 97). -/
def State.updStat (s : State) : Word × State :=
  let st := s.rd F.UPD_STAT_STATE
  if st = 3 ∨ st = 5 ∨ st = 7 then
    let d := s.draw 100
    let e := d.2.draw (mImgs s.upd.manifest - 1)
    (((s.word R.UPD_STAT).withField 0 7 d.1).withField 8 5 (eId ((mEnts s.upd.manifest).getD e.1 [])), e.2)
  else (s.word R.UPD_STAT, s)

def updStatusBody (_ : Cmd) (s : State) : Res :=
  let u := s.updStat
  .done stOK (wordBytes u.1 ++ wordBytes (s.word R.UPD_CHUNKS) ++ wordBytes (s.word R.UPD_FIRST) ++ wordBytes (s.word R.UPD_FLOOR) ++
    wordBytes (s.word R.UPD_KEYS) ++ wordBytes (s.word R.UPD_CTRL) ++ bytesLE 8 (s.pair R.UPD_PKG_LO R.UPD_PKG_HI) ++
    bytesLE 4 (mSv s.upd.active.manifest) ++ bytesLE 4 (mSv s.upd.manifest) ++ bytesLE 8 s.upd.stAt) u.2

/-- The response of UPD_BEGIN (R564). -/
def State.beginReply (s : State) : List Byte :=
  bytesLE 1 (s.rd F.UPD_STAT_STATE) ++ bytesLE 3 0 ++ bytesLE 4 (s.rd F.UPD_CHUNKS_TOTAL) ++ bytesLE 4 (s.rd F.UPD_CHUNKS_RECEIVED) ++
  bytesLE 4 (s.rd F.UPD_FIRST_FIRST)

/-- A new session opens (R550). -/
def State.openUpd (s : State) (m ct : List Byte) : State :=
  let s := (s.endUpd (s.rd F.UPD_STAT_RESULT)).setUpd 1
  let s : State := { s with upd.manifest := m, upd.chunkTab := ct, upd.rom := s.boot.stage == .rom }
  ((s.wr F.UPD_CHUNKS_TOTAL (mChunks m)).setPair R.UPD_PKG_LO R.UPD_PKG_HI (leAt m 8 8)).chunkCount

/-- UPD_BEGIN with its buffers' bytes (R550, R564). -/
def updBegin (m ct : List Byte) (c : Cmd) (s : State) : Res :=
  need (s.updCtl c) stNOT_OWNER <|
  s.notLocked <|
  let st := s.rd F.UPD_STAT_STATE
  if between 1 8 st = true ∧ m = s.upd.manifest then .done stOK s.beginReply s
  else need (!between 1 8 st) stMODE_FORBIDS <|
  let e := if ct.length = 32 * mChunks m then s.checkDownload m ct else (if s.checkSet m ≠ 0 then s.checkSet m else 2)
  if e ≠ 0 then .done (if e = 4 ∨ e = 5 then stAUTH_FAILED else stBAD_ARGUMENT) (bytesLE 1 e ++ bytesLE 3 0) (s.wr F.UPD_STAT_RESULT e)
  else
    let s := s.openUpd m ct
    .done stOK s.beginReply s

def updBeginBody (c : Cmd) (s : State) : Res := updBegin (s.load (c.dAddr 0) (min (c.dSize 0) 65537)) (s.load (c.dAddr 1) (c.dSize 1)) c s

/-- UPD_CHUNK with its buffers' bytes (R551, R564). -/
def updChunk (p data : List Byte) (c : Cmd) (s : State) : Res :=
  let i := leAt p 0 4
  let n := leAt p 4 4
  let m := s.upd.manifest
  need (p.length == 8) stBAD_ARGUMENT <|
  need (s.updCtl c) stNOT_OWNER <|
  need (s.rd F.UPD_STAT_STATE == 1 || s.rd F.UPD_STAT_STATE == 2) stMODE_FORBIDS <|
  need (decide (i < mChunks m)) stBAD_ARGUMENT <|
  let d := slice data 0 n
  if n ≠ chunkLen m i ∨ data.length < n ∨ Config.digest 0x256 d ≠ slice s.upd.chunkTab (32 * i) 32 then .done stBAD_ARGUMENT [] (s.wr F.UPD_STAT_RESULT 8)
  else
    let s := if s.hasChunk i then s else ({ s with upd.chunks := s.upd.chunks.set i (some d) }).chunkCount
    let s := if s.rd F.UPD_STAT_STATE = 1 ∧ s.rd F.UPD_CHUNKS_RECEIVED = s.rd F.UPD_CHUNKS_TOTAL then s.setUpd 2 else s
    .done stOK (bytesLE 4 (s.rd F.UPD_CHUNKS_RECEIVED) ++ bytesLE 4 (s.rd F.UPD_FIRST_FIRST)) s

def updChunkBody (c : Cmd) (s : State) : Res := updChunk (s.load (c.dAddr 0) (c.dSize 0)) (s.load (c.dAddr 1) (c.dSize 1)) c s

def updVerifyBody (c : Cmd) (s : State) : Res :=
  need (s.updCtl c) stNOT_OWNER <|
  s.notLocked <|
  need (s.rd F.UPD_STAT_STATE == 2) stMODE_FORBIDS <|
  .done stACCEPTED (bytesLE 8 s.now) { s.setUpd 3 with upd.reverify := false }

/-- The overlays under which an update may be armed (R553). -/
def State.mayArm (s : State) : Bool :=
  s.dev == .coppice || s.boot.stage == .rom || [0, 4, 5].contains (s.rd F.CFG_STAT_OVERLAY)

def updActivateBody (c : Cmd) (s : State) : Res :=
  need (s.updCtl c) stNOT_OWNER <|
  need (between 4 6 (s.rd F.UPD_STAT_STATE) && s.mayArm && !s.upd.dropped) stMODE_FORBIDS <|
  let s := s.wrb F.UPD_STAT_ARMED true
  .done stOK (bytesLE 8 s.now) (if s.boot.stage = .rom then { s with boot.rstAt := some (s.now + ms 1, 3) } else s)

def updConfirmBody (c : Cmd) (s : State) : Res :=
  need (s.updCtl c) stNOT_OWNER <|
  need (s.rd F.UPD_STAT_STATE == 8 && s.rdb F.UPD_STAT_EXPLICIT && s.rdb F.BOOT_STAT_CONFIRMED) stMODE_FORBIDS <|
  .done stOK (bytesLE 8 s.now) s.confirmSet

def updAbortBody (c : Cmd) (s : State) : Res :=
  need (s.updCtl c) stNOT_OWNER <|
  let st := s.rd F.UPD_STAT_STATE
  need (st != 0) stMODE_FORBIDS <|
  if st = 8 then .done stOK [] { s with upd.rollback := true }
  else if st = 9 then .done stOK [] (s.endUpd (s.rd F.UPD_STAT_RESULT))
  else if s.rd F.UPD_STAT_JOP ≠ 0 then .done stOK [] { s.wrb F.UPD_STAT_ARMED false with upd.dropped := true }
  else .done stOK [] ({ s.endUpd 0xE with cfg.mq := s.cfg.mq.filter (fun r => r.act != aSTAGE_COPY) }).maintStat

def dUpdStatus : CmdDef := { op := 0x0E01, lens := lenIs 0, coppice := true, body := updStatusBody }
def dUpdBegin : CmdDef := { op := 0x0E02, lens := fun _ => false, descs := [[0, 0]], coppice := true, body := updBeginBody }
def dUpdChunk : CmdDef := { op := 0x0E03, lens := fun _ => false, descs := [[0, 0]], coppice := true, body := updChunkBody }
def dUpdVerify : CmdDef := { op := 0x0E04, lens := lenIs 0, coppice := true, remote := false, body := updVerifyBody }
def dUpdActivate : CmdDef := { op := 0x0E05, lens := lenIs 0, coppice := true, remote := false, body := updActivateBody }
def dUpdConfirm : CmdDef := { op := 0x0E06, lens := lenIs 0, coppice := true, remote := false, body := updConfirmBody }
def dUpdAbort : CmdDef := { op := 0x0E07, lens := lenIs 0, coppice := true, remote := false, body := updAbortBody }

/-! ## ROM recovery (R561) -/

/-- A request that the boot ROM serves in ROM recovery: the request slot with its buffers' bytes; the response slot is kept
in the state. -/
def State.romServe (s : State) (op len tag : Nat) (body : Cmd → State → Res) (r : Req) : State :=
  let s := s.at_ r.t
  let c := s.cmdOf op r
  let reply (st : Nat) (pl : List Byte) (s : State) : State := { s with boot.romRsp := rspBytes op tag st s.now pl }
  if r.len ≠ len then reply stBAD_LENGTH [] s
  else match body c s with
    | .refuse st => reply st [] s
    | .done st pl s' => reply st pl s'
    | _ => s

end Sys2Proof.Machine
end

