-- ==== Sys2Proof/Machine/Resets.lean ====
section
/-!
DEFINITION. Machine/Resets.lean: what a reset of each domain does to the state (R526, R527, R538, R589 and the reset rules
of the chapters).
-/
namespace Sys2Proof.Machine

/-! ## Maintenance and commands -/

/-- Every running activity is aborted: cells in PROBE are released, objects not yet judged read ABORTED, and the queue is
emptied (R589). -/
def State.dropMaint (s : State) : State :=
  let s := foldS s.fab.probeList (fun x s => s.abortProbe x 3) s
  let s := foldS (s.cfg.mrun.flatMap (fun m => m.objs)) (fun x s => s.unprobe x) s
  ({ s with cfg.mrun := [], cfg.mq := [], cfg.heldActs := [], fab.probeState := if s.fab.probeState = 1 then 2 else s.fab.probeState }).maintStat

/-! ## The COMPUTE domain -/

/-- The registers of the COMPUTE domain return to their reset values, but for those that their meaning keeps: the first-error
captures and RECOVERY (R494, R501), the lifecycle (R460) and STEP_CNT; the last node address and the last sequence number of
each fast-actuation sender stand in MRAM (HDG_RETAIN, R292). -/
def State.computeRegs (s : State) : State :=
  let lc := s.word R.MPC_LC_STAT
  let rec_ := s.rd F.FLT_STAT_RECOVERY
  let steps := s.rd F.TBS_STATUS_STEP_CNT
  let kept (a : Nat) : Bool := (decide (0x10010100 ≤ a) && decide (a < 0x10010160)) || a == R.HDG_RETAIN ||
    (List.range 64).any (fun n => a == R.TSN_FA_SND_SEQ_LO n || a == R.TSN_FA_SND_SEQ_HI n)
  let comp (a : Nat) : Bool :=
    (decide (0x10000000 ≤ a) && decide (a ≤ 0x102FFFFF)) || (decide (0x10900000 ≤ a) && decide (a ≤ 0x10CFFFFF)) ||
    (decide (0x10D80000 ≤ a) && decide (a ≤ 0x10DFFFFF)) || decide (0x10000000000 ≤ a)
  let s : State := { s with regs := s.regs.keep (fun a => kept a || !comp a) }
  (((s.setWord R.MPC_LC_STAT lc).wrb F.MPC_LC_STAT_DEBUG_ACTIVE false).wr F.FLT_STAT_RECOVERY rec_).wr F.TBS_STATUS_STEP_CNT steps

/-- Replicas of islands that a reset holds are not aligned (R41). -/
def State.unalign (s : State) (isl : List Nat) (banks : Bool) : State :=
  let all := isl ++ (if banks then (List.range 32).map (fun k => 10 + k) else [])
  let s := foldS all (fun i (s : State) => { s with tb.replicas := s.tb.replicas.set i { s.tb.replicas.get {} i with aligned := false, badRun := 0, goodRun := 0, lostAt := s.now } }) s
  let s := s.wr F.TBS_ALIGN_ISL_ALIGNED (isl.foldl (fun m i => if i < 10 then clrBit m i else m) (s.rd F.TBS_ALIGN_ISL_ALIGNED))
  let s := if banks then s.setWord R.TBS_ALIGN_BANK 0 else s
  s.wrb F.TBS_STATUS_ALIGN_ALL false

/-- The clock islands of the COMPUTE domain (R23). -/
def inCompute (i : Nat) : Bool := decide (3 ≤ i) && decide (i ≤ 8)

/-- The read-ahead and pop slots of masters whose domain a reset reaches are discarded; the log that would name their popped values is
cleared by the same reset (R356, R358). -/
def State.loseSlots (s : State) (f : Nat → Bool) : State :=
  { s with brg.slots := s.brg.slots.filter (fun x => !f (masterIsland x.acc.master)) }

/-- A COMPUTE-domain reset (R74, R110, R220, R260, R324, R358, R39, R502, R515, R589): what the chapters keep stands. -/
def State.clearCompute (s : State) : State :=
  let ovl := s.rd F.CFG_STAT_OVERLAY
  let al := s.word R.TBS_ALIGN_ISL
  let ab := s.word R.TBS_ALIGN_BANK
  let s := s.stopVerify.computeRegs
  let s := ((s.setWord R.TBS_ALIGN_ISL al).setWord R.TBS_ALIGN_BANK ab).unalign [3, 4, 5, 6, 7, 8] false
  let s := (((s.setWord R.CFG_STAT (resetWord R.CFG_STAT)).wrb F.BOOT_CTL_BOOT_LOCK false).wr F.WAK_STAT_VOTES 0).wr F.WAK_STAT_PHASE 0
  let s : State := { s with hold := Tab.empty, irq := {}, mbx := {}, own := Tab.empty, swc := {}, tsn := {}, can := Tab.empty, lin := Tab.empty,
                            gwy := {}, brg := { slots := (s.loseSlots inCompute).brg.slots, wbuf := s.brg.wbuf.filter (fun x => !inCompute x.br) }, pairs := Tab.empty }
  let s : State := { s with cyc := { ret := s.cyc.ret, keySlot := s.cyc.keySlot }, hdg := { map := s.hdg.map },
                            prt := { stores := s.prt.stores, blocks := s.prt.blocks },
                            flt := { log := s.flt.log, seq := s.flt.seq, capH := s.flt.capH, lastPrivet := s.flt.lastPrivet, react := s.flt.react } }
  let s : State := { s with tb := { replicas := s.tb.replicas },
                            slp := { s.slp with prepped := false, arm := 0, armEth := 0, armChan := [], decoding := [], fec := Tab.empty, linSleep := [],
                                                tc10 := [], ethAsleep := [], offList := [] } }
  { s with boot.privetEnd := none, boot.privetCmds := [], cfg.overs := [], cfg.pend := [], cfg.switch_ := none, cfg.svcEnd := none, cfg.ovls := Tab.empty,
           cfg.mq := s.cfg.mq.map (fun r => { r with cmd := none }),
           cfg.lastOvl := if ovl = 0xFF then s.cfg.lastOvl else ovl, fab.elogPartial := true }

/-! ## The other domains -/

/-- A SECURE-domain reset (R527): slots, generations, policies, LOCK_STATE and the tamper log are kept in MRAM
(DEDUCED, assumption 98). -/
def State.clearSecure (s : State) : State :=
  let s := (((s.loseSlots (fun i => i == 1)).wr F.HWN_STAT_REMASK_LATE 0).wr F.HWN_STAT_QUEUED 0).unalign [1] false
  { s with hwn.released := false, hwn.since := false }

/-- A CONTROL-domain reset: BOOT and UPD fields kept in MRAM stand (R528, R532, R549), and DIVERGES (R510). -/
def State.clearControl (s : State) : State :=
  let div := s.rd F.CFG_CMP_DIVERGES
  let s := ((s.loseSlots (fun i => i == 2)).resetRegs 0x10E00000 0x10E7FFFF).wr F.CFG_CMP_DIVERGES div
  ({ s with cfg.mBusy := 0, cfg.mLateRemask := 0, cfg.authFail := 0 }).unalign [2] false

/-- A FABRIC-domain reset (R113, R172, R360): every cell OFF with CMD OFF; the meters resume from the last log record. T_PEAK
counts since the power-on reset (R585). -/
def State.clearFabric (s : State) : State :=
  let f := s.fab
  let peak := s.rd F.PFB_THERM_T_PEAK
  let s := ((s.loseSlots (fun i => decide (9 ≤ i))).resetRegs 0x10300000 0x103FFFFF).resetRegs 0x10800000 0x108FFFFF
  let s : State := { s.wr F.PFB_THERM_T_PEAK peak with sup.temps := [] }
  let s : State := { s with fab := { trim := f.trim, elog := f.elog, elogSeq := f.elogSeq, elogAt := s.now, elogBase := f.elogBase, elogBaseRet := f.elogBaseRet,
                                     mDel := f.elogBase, mRet := f.elogBaseRet } }
  ({ s with boot.lockPend := [] }).unalign [9] true

/-- Loss of all feeds: the wake domain and the time base start anew (R46, R360, R374). -/
def State.clearWake (s : State) : State :=
  let s := (s.resetRegs 0x10D00000 0x10D7FFFF).unalign [0] false
  let s := (s.setWord R.TBS_STATUS 0).wr F.PFB_THERM_T_PEAK 0
  { s with now := 0, devSince := 0, slp := { wakeIn := s.slp.wakeIn, ign := s.slp.ign }, sup := {}, fab.elogAt := 0, fab.elogRestored := true,
           cfg.cmpAt := 0, cfg.scrubAt := 0, cfg.lbistAt := 0, flt.lastPrivet := none }

/-- Memories without their supply lose their contents: MRAM keeps its own (R30, R360). -/
def State.loseMemory (s : State) : State := { s with mem := s.mem.filter (fun c => inMram c.1) }

/-- The domains that a reset type reaches (R526). -/
def reachesFabric (ty : Nat) : Bool := decide (ty ≤ 1)
def reachesControl (ty : Nat) : Bool := decide (ty ≤ 4) || ty == 8

/-- Key operations in flight abort: the output that they have written is zeroed, and none is answered (R476, R527). -/
def State.zeroKeyOps (s : State) : State :=
  foldS (s.keyOps.filter (fun c => c.phase == .running)) (fun c s => s.zeroOut c (s.keyOutLen (s.keyParam c) (c.dSize 1))) s

/-- A reset of R526 in every domain that it reaches: no command in flight is answered (R74), standing charges and forces end
(R206, R210), objects follow R538. -/
def State.domainReset (s : State) (ty : Nat) : State :=
  let s : State := { s.zeroKeyOps with mbx.cmds := [] }
  let s := s.cancelSwap.endStanding.clearForces
  let s := if reachesControl ty then s.dropMaint else s.abortCompute
  let s := if reachesFabric ty then s else foldS s.tops (fun x s => s.dispose x) s
  let s := s.clearCompute
  let s := if reachesControl ty then s.clearControl.clearSecure else s
  let s := if reachesFabric ty then s.clearFabric else s
  let s := if ty = 0 then s.clearWake else s
  if ty ≤ 2 then s.loseMemory else s

end Sys2Proof.Machine
end

