-- ==== Sys2Proof/Machine/Start.lean ====
section
/-!
DEFINITION. Machine/Start.lean: the start sequence (R528–R533), coppice mode (R534–R537), the wake-up (R366, R369), the
restart of the Privet controller (R74, R110) and the commands of R540–R542.
-/
namespace Sys2Proof.Machine

/-! ## Coppice mode -/

/-- DARK (R536): every terminal OFF with CMD OFF and blocked. -/
def State.goDark (s : State) : State :=
  let s := foldS s.tops (fun x s => (s.setCmd x 0 false).modObj x (fun o => { o with blocked := true })) s
  (s.wrb F.BOOT_STAT_DARK true).wr F.CFG_STAT_OVERLAY 6

/-- A coppice start without a valid set: the coppice record, or DARK (R536). -/
def State.loadRecord (s : State) : State :=
  match s.boot.record with
  | some (l, e) =>
    if e = s.epoch ∧ s.hwn.spent = false then
      let s := foldS (l.filter (fun p => s.boot.fabric || !inFabric p.1)) (fun p s => s.setWord p.1 (BitVec.ofNat 32 p.2)) s
      { s.wr F.CFG_STAT_OVERLAY 6 with fab.loaded := true, fab.govCheck := true }
    else s.goDark
  | none => s.goDark

/-- What COPPICE leaves in reset or OFF (R260, R324, R535): every CAN channel but CAN0, the LIN channels, the gateway, and
the ports but P05 and I3. -/
def State.coppiceOff (s : State) : State :=
  let s := foldS ((List.range 16).filter (fun c => c != 0)) (fun c s =>
    let s := s.canState c 0
    ({ s.resetRegs (0x10200000 + 0x4000 * c) (0x10203FFF + 0x4000 * c) with can := s.can.set c { stateAt := (s.can_ c).stateAt } }).canLines c) s
  let s := foldS (List.range 8) (fun c s => { s.resetRegs (0x10280000 + 0x1000 * c) (0x10280FFF + 0x1000 * c) with lin := s.lin.erase c }) s
  let s := foldS ((List.range 28).filter (fun p => p != 4 && p != 26)) (fun p s => (linkDown s.now p s).wrb (F.SWC_PORT_CFG0_ENABLE p) false) s
  { s with gwy.running := false }

/-- Only the window of the partition on SP0 is served in COPPICE (R535); none while the Privet controller restarts (R74). -/
def State.coppiceServing (s : State) : State :=
  foldS (List.range 17) (fun w s => s.wrb (F.MBX_STATUS_SERVING w) (s.boot.privetEnd.isNone && s.corePart 0 == some w)) s

/-- The windows are served (R51, R529). -/
def State.serveWindows (s : State) : State :=
  if s.dev = .coppice then s.coppiceServing
  else foldS (List.range 17) (fun w s => s.wrb (F.MBX_STATUS_SERVING w) (w == 16 || s.hosting w != 0)) s

/-- The fields of P05, its queues and its shapers that commands can change. -/
def p05Flds : List Fld :=
  ((portFlds 4 ++ preemptFlds 4 ++ (List.range 8).flatMap (fun c => queueFlds (qOf 4 c))).map (fun f => f.fld)) ++
  (List.range 8).flatMap (fun c => [F.TSN_CBS_CBS_EN 4 c, F.TSN_CBS_IDLE_SLOPE 4 c]) ++ [F.TSN_GATE_CTL_GATE_EN 4, F.TSN_GATE_CTL_FALLBACK 4]

/-- P05 takes its settings of the base configuration, which holds no security association (DEDUCED, assumption 164), and I3 is enabled
(R260). -/
def State.p05Base (s : State) : State :=
  let s := foldS p05Flds (fun f s => s.wr f ((s.baseWord f.reg).field f.lo f.len)) s
  let x := s.swPort 4
  (s.setSwPort 4 { x with secy := { x.secy with sas := [], txAn := none } }).wrb (F.SWC_PORT_CFG0_ENABLE 26) true

/-- CAN0 takes its settings of the base configuration (R324). -/
def State.can0Base (s : State) : State :=
  let m := (s.baseWord (R.CAN_CTL 0)).field 28 3
  let old := s.rd (F.CAN_CTL_MODE 0)
  let s := foldS [R.CAN_CTL 0, R.CAN_NBT 0, R.CAN_DBT 0] (fun a s => s.setWord a (s.baseWord a)) s
  let s := (s.wr (F.CAN_CTL_MODE 0) old).modCan 0 (fun x => { x with modeWant := none })
  if m = old then s else if m = 0 ∨ old ≠ 0 ∨ s.canAreaOk 0 = true then s.canMode 0 m else s

/-- The device enters COPPICE while it runs (R481, R535): the compute functions stop and the LIMP overlay applies. -/
def State.coppiceStop (s : State) : State :=
  let s := s.cycStop true
  let s := foldS ((List.range 16).filter (fun v => s.hosting v != 0 && s.corePart 0 != some v)) (fun v s => (s.partEffects v).setPart v psOFF) s
  let s := foldS [1, 2, 3] (fun n s => s.setPair_ n lsOFF) s
  let s := if s.lst 0 = lsSPLIT then s.setPair_ 0 lsLOCKSTEP else s
  let s := foldS (List.range 6) (fun c s => if s.inCall c then s.endCall c else s) s
  let s := if s.rd F.CFG_STAT_OVERLAY = 4 then s.endSession else s
  let s := ((s.wr F.MPC_GW_STAT_SEC_STATE 0).dropSwitch).coppiceOff
  let s : State := { s with prt.hostWait := none, cfg.overs := [], cfg.pend := [] }
  ((s.can0Base.p05Base.startOverlay true).wr F.CFG_STAT_STAGED_N 0).coppiceServing

/-- Entry to COPPICE with a reason (R534, R535): what a start has brought up until then is taken back to what COPPICE leaves, under the
LIMP overlay. -/
def State.enterCoppice (s : State) (reason : Nat) : State :=
  if s.dev = .off ∨ s.dev = .sleep then s
  else
    let s := s.wr F.BOOT_STAT_COPPICE_REASON reason
    if s.dev = .coppice then s
    else
      let s := if s.dev = .starting then s.sat F.BOOT_CNT_COPPICE_STARTS 1 else s
      let s := ({ s with flt.quietEnd := none }.wrb F.FLT_STAT_IN_FAULT false).setDev .coppice
      match s.boot.stage with
      | .released | .locked => s.coppiceStop
      | .loaded => (s.coppiceOff.wrb (F.SWC_PORT_CFG0_ENABLE 26) true).startOverlay (!s.boot.newFab)
      | _ => s

/-! ## The start (R528, R533, R554, R557, R558) -/

/-- A lifecycle transition takes effect at the start; RETIRED erases the domain keys; DEBUG_OPEN follows (R460, R461). -/
def State.lifecycleAtStart (s : State) : State :=
  let s := s.wrb F.MPC_LC_STAT_DEBUG_OPEN (s.rd F.MPC_LC_STAT_LIFECYCLE != 2)
  if s.rdb F.MPC_LC_STAT_NEXT_VALID then
    let n := s.rd F.MPC_LC_STAT_NEXT
    let s := ((s.wr F.MPC_LC_STAT_LIFECYCLE n).wrb F.MPC_LC_STAT_DEBUG_OPEN (n != 2)).wrb F.MPC_LC_STAT_NEXT_VALID false
    if n = 3 then { s with hwn.spent := true } else s
  else s

/-- The fault and the source of an event that was recorded in SLEEP (R479). -/
def State.raiseTamper (s : State) (p : Nat × Nat) : State :=
  if p.2 < 2 then (s.sysFault 0x0B05 .contained p.1 p.2).trig 737 else (s.sysFault 0x0B04 .corrected p.1 p.2).trig 736

/-- The events recorded in SLEEP: an alarm stops the boot: ERASE blows its fuse, LOCK locks, and the device enters COPPICE
(R481); each event raises its fault and its source (R479). -/
def State.tamperAtStart (s : State) : State :=
  let l := s.hwn.bootAlarms.filter (fun p => decide (p.2 < 2))
  let s := foldS s.hwn.bootAlarms (fun p s => s.raiseTamper p) { s with hwn.bootAlarms := [] }
  if l = [] then s
  else (if l.any (fun p => p.2 == 0) then s.blowFuse.lockState 2 else if s.rd F.HWN_STAT_LOCK_STATE = 2 then s else s.lockState 1).enterCoppice 6

/-- A set awaits confirmation, so the attempt check is held (R533, R561). -/
def State.attemptHeld (s : State) : Bool := s.rd F.UPD_STAT_STATE == 8 && !s.upd.rom

/-- Why a device without domain keys starts in COPPICE: RETIRED, its configuration fails (R460), or all erase fuses blown (R479). -/
def State.noKeyReason (s : State) : Nat := if s.lifecycle = 3 then 5 else 6

/-- t_start: the counts and the checks of R533, R537 and R557. -/
def State.startNow (s : State) : State :=
  let s := (s.setPair R.BOOT_START_LO R.BOOT_START_HI s.now).sat F.BOOT_CNT_STARTS 1
  let s := ({ s with boot.copying := none, boot.stage := .images }).freshNonce
  let reason := s.rd F.BOOT_STAT_COPPICE_REASON
  let s := if reason = 0 ∧ s.attemptHeld = true ∧ s.rd F.UPD_STAT_TRIES < 3 then s.wr F.UPD_STAT_TRIES (s.rd F.UPD_STAT_TRIES + 1) else s
  let s := s.tamperAtStart
  if s.dev = .coppice then s
  else if s.hwn.spent then s.enterCoppice s.noKeyReason
  else if reason ≠ 0 then s.enterCoppice reason
  else if s.attemptHeld = false ∧ s.rd F.BOOT_CFG_ATTEMPT_LIMIT ≤ s.rd F.BOOT_STAT_ATTEMPTS then s.enterCoppice (s.rd F.BOOT_STAT_FAIL)
  else s.wr F.BOOT_STAT_ATTEMPTS (min 7 (s.rd F.BOOT_STAT_ATTEMPTS + 1))

/-- The copy that the boot ROM performs before it reads an image, if one is due (R554, R558). A set that ROM recovery armed is activated
whatever COPPICE_REASON holds (R561, DEDUCED, assumption 172). -/
def State.bootCopy (s : State) : Option BootCopy × State :=
  let st := s.rd F.UPD_STAT_STATE
  if st = 7 then (some .activate, s)
  else if s.rd F.UPD_STAT_JOP = 3 then (some .rollback, s)
  else if (s.rd F.BOOT_STAT_COPPICE_REASON = 0 ∨ s.upd.rom = true) ∧ s.rdb F.UPD_STAT_ARMED = true ∧ between 4 6 st = true then
    let s := if st = 6 then s else s.wrb F.UPD_STAT_FALLBACK_OK false
    (some .activate, ({ s with upd.reprep := st != 6 }.setUpd 7).journal (if st = 6 then 2 else 1) 0 0)
  else if s.attemptHeld then
    let res := if s.rd F.UPD_STAT_TRIES = 3 then 0xB else if s.upd.rollback then 0xE else if !s.areaOk s.upd.active then 0xC else 0
    if res = 0 then (none, s)
    else if s.areaOk s.upd.fallback then (some .rollback, ({ s with upd.rbResult := res }).journal 3 0 0)
    else (none, s.endUpd 0xD)
  else (none, s)

/-- A start begins (R526, R528): a start that copies reaches t_start at the end of its copy (R554). -/
def State.beginStart (s : State) (ty : Nat) : State :=
  let s := s.setDev .starting
  let s := (((s.wr F.BOOT_STAT_START_TYPE ty).wrb F.BOOT_STAT_CONFIRMED false).wrb F.BOOT_STAT_FALLBACK false).wrb F.BOOT_STAT_DARK false
  let s := (s.setPair R.BOOT_CONFIRM_LO R.BOOT_CONFIRM_HI 0).wr F.BOOT_STAT_STATE DevState.starting.code
  let s : State := { s with boot.stage := .images, boot.rstAt := none, boot.dram := false, boot.lockAt := 0, boot.failed := [], boot.newFab := false,
                            boot.fabric := reachesFabric ty }
  let s : State := { s.lifecycleAtStart with hwn.policy := s.hwn.policyNext }
  match s.bootCopy with
  | (some k, s) => { s with boot.copying := some k }
  | (none, s) => s.startNow

/-- A reset with its start (R526, R532): a DEVICE_RESET before confirmation is recorded in FAIL. -/
def State.startReset (s : State) (ty : Nat) : State :=
  let s := if s.dev = .starting ∧ (ty = 3 ∨ ty = 5) then s.wr F.BOOT_STAT_FAIL 7 else s
  (s.domainReset ty).beginStart ty

/-- POWER_ON_RESET: all feeds are restored after loss (R526). -/
def powerOnReset (_t : Nat) (s : State) : State := s.startReset 0

/-- ACTIVATION_COPY_COMPLETE (R554). -/
def activationCopyComplete (t : Nat) (s : State) : State :=
  let s := s.at_ t
  if s.boot.copying = some .activate then ({ s.activateSet s.upd.reprep with upd.reprep := false }).startNow else s

/-- ROLLBACK_COPY_COMPLETE (R533, R558). -/
def rollbackCopyComplete (t : Nat) (s : State) : State :=
  let s := s.at_ t
  if s.boot.copying = some .rollback then (s.rolledBack.wr F.BOOT_STAT_ATTEMPTS 0).startNow else s

/-! ## Images and configuration -/

/-- Write a configuration set into a copy of MRAM with its tags (R509, R556). -/
def State.writeSet (s : State) (k : Nat) (c : CfgSet) : State :=
  let s : State := { s with mem := Memory.zero s.mem (copyBase k) 0x800000 }
  let put (i : Nat) (b : List Byte) (s : State) : State :=
    let s := s.store (copyBase k + imgOff i) b
    s.store (copyBase k + 0x500000 + 64 * i) (bytesLE 4 c.gen ++ bytesLE 4 b.length ++ bytesLE 8 0 ++ slice (Config.hmac384 (s.domainKey 1) b) 0 48)
  foldS (List.range 16) (fun i s => match c.ovls.getD i none with | some b => put i b s | none => s) (put 16 c.base s)

/-- A set with another generation in every header (R556). -/
def CfgSet.regen (c : CfgSet) (g : Nat) : CfgSet :=
  let one (b : List Byte) : List Byte := b.take 8 ++ bytesLE 4 g ++ b.drop 12
  { gen := g, base := one c.base, ovls := c.ovls.map (fun o => o.map one) }

/-- CFG_PEND: the active area's image 3 is written into MRAM (R556). -/
def State.writeCfgPend (s : State) : State :=
  if s.rdb F.UPD_STAT_CFG_PEND then
    match s.upd.active.images.get none 3 with
    | some x =>
      let c := cfgOfImage (plainImage (s.areaKey s.upd.active) x)
      let c := match s.upd.rbGen with | some g => c.regen g | none => c
      { ((s.writeSet 0 c).writeSet 1 c).wrb F.UPD_STAT_CFG_PEND false with upd.rbGen := none }
    | none => s.wrb F.UPD_STAT_CFG_PEND false
  else s

/-- The tests of a start: at one that reaches FABRIC CELL_TEST, CALIB and PROBE over all terminals, else the probe of R144 (R528, R538).
That probe runs with CROSS off (DESIGN CHOICE, assumption 156). -/
def State.startTests (s : State) : State :=
  if s.boot.fabric then s.requestAct { act := aCELL_TEST, first := 0, count := 512, flags := 128 }
  else s.requestAct { act := aPROBE, first := 0, count := 512 }

/-- The set of the copy to run, where its content passes (R508, R510). -/
def State.goodSet (s : State) : Option CfgSet :=
  match s.repairSource with
  | some k => if s.contentOk (s.setOf k) then some (s.setOf k) else none
  | none => none

/-- The set loaded, or COPPICE with CONFIG_AUTH and the coppice record (R510, R536). -/
def State.loadGood (s : State) : Option CfgSet → State
  | some c => s.loadSet c
  | none => (s.enterCoppice (if s.hwn.spent then s.noKeyReason else 5)).loadRecord

/-- The configuration step (R510, R528): the copies compared, the set loaded, or COPPICE with CONFIG_AUTH. -/
def State.configStep (s : State) : State :=
  let s : State := s.writeCfgPend.compareCopies
  let s : State := (s.loadGood s.goodSet).enforceAll
  let s : State := if s.dev = .coppice then s.coppiceOff.wrb (F.SWC_PORT_CFG0_ENABLE 26) true else s
  let s : State := { s with boot.stage := .loaded }
  s.startTests

/-- IMAGE_AUTHENTICATION_COMPLETE (R528, R530, R545): which area is used, or COPPICE, or ROM recovery. A device without domain keys
starts in COPPICE (R460, R479, DEDUCED, assumption 171). -/
def imageAuthenticationComplete (t : Nat) (s : State) : State :=
  let s := s.at_ t
  if (s.dev = .starting ∨ s.dev = .coppice) ∧ s.boot.stage = .images ∧ s.boot.copying.isNone = true then
    let a := s.areaOk s.upd.active
    let f := s.areaOk s.upd.fallback
    let sm := s.smisanOk s.upd.active || s.smisanOk s.upd.fallback
    if reachesControl (s.rd F.BOOT_STAT_START_TYPE) = true ∧ sm = false ∧ s.hwn.spent = false then
      foldS s.tops (fun x s => s.setCmd x 0 false) { s with boot.stage := .rom }
    else
      let s := if a then s else s.wrb F.BOOT_STAT_FALLBACK (f || !s.smisanOk s.upd.active)
      (if a || f || s.hwn.spent then s else s.enterCoppice 1).configStep
  else s

/-- The area that the start uses. -/
def State.usedArea (s : State) : Area := if s.rdb F.BOOT_STAT_FALLBACK then s.upd.fallback else s.upd.active

/-- DRAM_TRAINING_COMPLETE: failed training enters COPPICE (R530); a coppice start does not train. -/
def dramTrainingComplete (t : Nat) (ok : Bool) (s : State) : State :=
  let s := s.at_ t
  if s.dev = .starting ∧ s.boot.stage = .loaded then
    (if ok then { s with boot.dram := true } else s.enterCoppice 4)
  else s

/-- Alarms that passed unwatched are cleared once the routes have been written (R374). -/
def State.oldAlarms (s : State) : State :=
  foldS ((List.range 17).filter (fun v => s.slp.alarms.get 0 v != 0 && decide (s.slp.alarms.get 0 v ≤ s.now))) (fun v s =>
    ({ s with slp.alarms := s.slp.alarms.erase v }).trig 706) s

/-- BOOT_LOCK: regions, routes and assignments are written and locked, and the windows are served (R450, R528, R529). -/
def bootLock (t : Nat) (s : State) : State :=
  let s := s.at_ t
  if s.boot.stage = .loaded ∧ ((s.dev = .starting ∧ s.boot.dram = true) ∨ s.dev = .coppice) then
    let s := { (s.wrb F.BOOT_CTL_BOOT_LOCK true).fabricAtLock with boot.lockAt := s.now, boot.stage := .locked }.oldAlarms
    s.serveWindows
  else s

/-! ## Release -/

/-- An image of the set in use is written from an address on, at most `n` bytes of it (R415, R419, R528). -/
def State.loadImage (s : State) (i base n : Nat) : State :=
  match s.usedArea.images.get none i with
  | some x => s.store base ((plainImage (s.areaKey s.usedArea) x).take n)
  | none => s

/-- Where an image for the DRAM goes: stated nowhere, so it is open (assumption 168). -/
def State.loadDram (s : State) (i : Nat) : State := s.loadImage i (0x100000000 + Config.imageBase i % 2 ^ 32) (2 ^ 32)

/-- The image of a partition on a safety core is written into its TCM from its start (R415, R477, R528; assumption 168). -/
def State.loadPart (s : State) (v : Nat) : State :=
  match s.tcmOf v with
  | some p => s.loadImage (0x10 + v) p.1 p.2
  | none => s

/-- The start-up self-test of an unsplit pair and the release of its partition (R440). -/
def State.startPair (s : State) (n : Nat) (v : Nat) (aOk bOk : Bool) : State :=
  if aOk && bOk then ((s.loadPart v).releasePair n).setPart v psSTARTING
  else
    let s := ((s.setWord (R.FLT_LS_MIS n) 0).wr (F.FLT_LS_MIS_KIND n) 6).setPair (R.FLT_LS_MIS_TS_LO n) (R.FLT_LS_MIS_TS_HI n) s.now
    if (aOk || bOk) && s.rdb (F.FLT_LS_CFG_FOP n) then
      let k := if aOk then 2 else 1
      (((((s.wr (F.FLT_LS_STAT_FENCED n) k).wr (F.FLT_LS_MIS_RESULT n) k).wr (F.FLT_LS_MIS_ACTION n) 1).loadPart v).releasePair n).setPart v psSTARTING
    else
      let s := s.wr (F.FLT_LS_MIS_RESULT n) (if aOk then 2 else if bOk then 1 else 3)
      { s.ownFault 0x0A01 .contained v n 0 with boot.failed := v :: s.boot.failed }

/-- A split core's self-test and the release of its partition; a failure raises the fault as for a pair (R440, DEDUCED, assumption 170). -/
def State.startSplit (s : State) (n core : Nat) (ok : Bool) : State :=
  match s.corePart core with
  | some v =>
    if ok then ((s.loadPart v).releasePair n).setPart v psSTARTING
    else { s.ownFault 0x0A01 .contained v n 0 with boot.failed := v :: s.boot.failed }
  | none => s

/-- The release of a safety pair's partitions; in COPPICE only SP0, in lockstep (R430, R440, R535). -/
def State.startSafety (s : State) (n : Nat) (r : Bool × Bool) : State :=
  if s.dev = .coppice ∧ n ≠ 0 then s
  else if s.isSplit n then (s.startSplit n (2 * n) r.1).startSplit n (2 * n + 1) r.2
  else match s.pairPart n with
    | some v => s.startPair n v r.1 r.2
    | none => s

/-- SAFETY_PARTITION_RELOAD: a HALTED partition of a safety core has its image reloaded and is released (R415, R438). -/
def safetyPartitionReload (t v : Nat) (s : State) : State :=
  let s := s.at_ t
  match (if v < 16 then s.hostCore v else none) with
  | some k =>
    if s.pst v = psHALTED ∧ s.dev ≠ .fault then
      let s := if s.rd (F.FLT_LS_MIS_ACTION (k / 2)) = 3 ∧ s.rd (F.MPC_PART_STAT_CAUSE v) = 4 then
          (s.modPair (k / 2) (fun p => { p with recents := [] })).wr (F.FLT_LS_STAT_RECENT (k / 2)) 0 else s
      (((s.loadPart v).releasePair (k / 2)).setPart v psSTARTING).heldHalt (k / 2)
    else s
  | none => s

/-- The normal world of the application cores starts at the hypervisor image's entry point (R419, R528). -/
def State.startNormal (s : State) : State := { s.loadDram 7 with prt.normalAt := s.now }

/-- HOST_RESET_RELOAD: the hypervisor is reloaded, the normal world restarts and the host partition with it (R419). -/
def hostResetReload (t : Nat) (s : State) : State :=
  let s := s.at_ t
  match s.hostPart with
  | some v => if s.pst v = psHALTED ∧ s.hosting v = 1 ∧ s.dev ≠ .fault then s.startNormal.setPart v psSTARTING else s
  | none => s

/-- Images are measured into the measurement entries (R477). -/
def State.measure (s : State) : State :=
  let m := (mEnts s.usedArea.manifest).map (fun e => (eId e, (eVersion e, eDigest e)))
  { s with hwn.meas := foldS m (fun p t => t.set p.1 p.2) (s.hwn.meas.keep (fun i => i == 0)) }

/-- The cycle program of the set is reloaded, and started WARM with AUTOSTART (R220). -/
def State.loadProgram (s : State) : State :=
  match s.usedArea.images.get none 5 with
  | some x =>
    let b := plainImage (s.areaKey s.usedArea) x
    if s.progOk b && s.progTag b then
      let s := (s.loadInactive (progOf b)).activate false
      if s.rdb F.CYC_CFG_AUTOSTART then { s.wrb F.CYC_STATE_START_PEND true with cyc.start := some { mode := 0, auto := true } } else s
    else s
  | none => s

/-- IMAGES_RELEASED: with the results of the self-tests of the four pairs (R412, R440, R477, R528). -/
def imagesReleased (t : Nat) (pairs : List (Bool × Bool)) (s : State) : State :=
  let s := s.at_ t
  if s.boot.stage = .locked ∧ (s.dev = .starting ∨ s.dev = .coppice) then
    let s := s.measure
    let has6 := (mEnts s.usedArea.manifest).any (fun e => eId e == 6)
    let s := if s.dev = .starting ∧ has6 = true then (s.loadDram 6).wr F.MPC_GW_STAT_SEC_STATE 1 else s
    let s := if s.dev = .starting ∧ s.hostPart.isSome = true then s.startNormal else s
    let s := if s.dev = .starting then
        foldS ((List.range 16).filter (fun v => s.hosting v == 1)) (fun v s => s.setPart v (if s.isHost v then psSTARTING else psHALTED)) s else s
    let s := if s.rdb F.BOOT_STAT_DARK then s else foldS (List.range 4) (fun n s => s.startSafety n (pairs.getD n (true, true))) s
    let s := if s.dev = .starting then s.loadProgram else s
    let s := if s.dev = .coppice ∧ s.upd.reverify = true ∧ s.rd F.UPD_STAT_STATE = 2 then { s.setUpd 3 with upd.reverify := false } else s
    { s with boot.stage := .released, hwn.released := true }
  else s

/-- Every REQUIRED partition is READY. -/
def State.allRequired (s : State) : Bool :=
  (List.range 16).all (fun v => !s.rdb (F.MPC_PART_CFG_REQUIRED v) || s.hosting v == 0 || s.pst v == psREADY)

/-- The start is confirmed (R531, R536, R557, R559). -/
def State.confirm (s : State) : State :=
  if s.dev = .starting ∧ s.boot.stage = .released ∧ s.allRequired = true then
    let s := ((s.wr F.BOOT_STAT_ATTEMPTS 0).wrb F.BOOT_STAT_CONFIRMED true).setPair R.BOOT_CONFIRM_LO R.BOOT_CONFIRM_HI s.now
    let s := s.setDev .running
    let s := if s.rd F.UPD_STAT_STATE ≠ 8 then s.saveRecord else if s.rdb F.UPD_STAT_EXPLICIT then s else s.confirmSet
    let s := if s.upd.reverify ∧ s.rd F.UPD_STAT_STATE = 2 then { s.setUpd 3 with upd.reverify := false } else s
    let st := s.rd F.UPD_STAT_STATE
    if (st = 4 ∨ st = 5) ∧ s.running aSTAGE_COPY = false ∧ s.cfg.mq.any (fun r => r.act == aSTAGE_COPY) = false then s.requestAct { act := aSTAGE_COPY }
    else s.arbitrate
  else s

/-! ## Unconfirmed ends and scheduled resets -/

/-- t_start (BOOT_START). -/
def State.tStart (s : State) : Nat := s.pair R.BOOT_START_LO R.BOOT_START_HI

/-- BOOT_LOCK is still to come. -/
def State.beforeLock (s : State) : Bool := (s.boot.stage == .images || s.boot.stage == .loaded) && s.boot.copying.isNone

/-- BOOT_WATCHDOG_EXPIRY (R530, R532). -/
def bootWatchdogExpiry (t : Nat) (s : State) : State :=
  let s := s.at_ t
  if (s.dev = .starting ∨ s.dev = .coppice) ∧ s.beforeLock = true ∧ s.tStart + sec 5 ≤ s.now then
    ((if s.dev = .starting then s.wr F.BOOT_STAT_FAIL 2 else s)).startReset 4
  else s

/-- CONFIRMATION_LIMIT_EXPIRY (R532); confirmation wins in the same instant (R539). -/
def confirmationLimitExpiry (t : Nat) (s : State) : State :=
  let s := s.at_ t
  if s.dev = .starting ∧ s.boot.stage ≠ .rom ∧ s.boot.copying.isNone = true ∧ s.tStart + sec 30 ≤ s.now ∧
     (s.boot.stage ≠ .released ∨ s.allRequired = false) then (s.wr F.BOOT_STAT_FAIL 3).startReset 7
  else s

/-- A restart of the Privet controller after BOOT_LOCK begins (R74, R110, R489, R589): SERVING reads 0 and the commands in flight wait for
its end, the replica of CONTROL is not aligned, and the mailbox-driven objects follow their dispositions. How long it lasts is a free
value (DESIGN CHOICE, assumptions 1 and 107). -/
def State.privetAgain (s : State) : State :=
  let cmds := s.boot.privetCmds ++ s.mbx.cmds
  let s := (s.dropMaint.unalign [2] false).dropSlots (fun x => x.pop && masterIsland x.acc.master == 2)
  let s := foldS (List.range 17) (fun w s => s.wrb (F.MBX_STATUS_SERVING w) false) s
  let s : State := { s with mbx.cmds := [], boot.privetCmds := cmds, boot.privetEnd := some (s.now + 1 + Config.freeNat s.free), free := s.free + 1 }
  let s : State := { s with cfg.switch_ := none }
  let s := (s.wrb F.CFG_STAT_SWITCH_PEND false).wr F.CFG_STAT_PENDING 0xFF
  let s := foldS (s.tops.filter (fun x => s.driverOf x == 0)) (fun x s => s.dispose x) s
  let soon := match s.flt.lastPrivet with | some u => decide (s.now < u + sec 1) | none => false
  let s : State := { s with flt.lastPrivet := some s.now }
  if soon then s.raise { code := 0x0107, cls := .fatal, kind := .none } else s.sysFault 0x0106 .contained 0xFFFF 0

/-- The restart of the Privet controller is complete: each command that was in flight is answered INTERNAL_FAULT with its own opcode and
tag, EPOCH increments, and the windows are served again (R74). -/
def State.privetBack (s : State) : State :=
  match s.boot.privetEnd with
  | some u =>
    if u ≤ s.now then
      let cmds := s.boot.privetCmds
      let s : State := { s with boot.privetEnd := none, boot.privetCmds := [] }
      let s := foldS cmds (fun c s => s.answer c stINTERNAL_FAULT []) s
      (foldS (List.range 17) (fun w s => s.inc (F.MBX_STATUS_EPOCH w)) s).serveWindows
    else s
  | none => s

/-- PRIVET_RESTART: before BOOT_LOCK handled as the boot watchdog (R530). -/
def privetRestart (t : Nat) (s : State) : State :=
  let s := s.at_ t
  if s.dev = .off ∨ s.dev = .sleep ∨ s.boot.copying.isSome = true ∨ s.boot.stage = .rom then s
  else if s.beforeLock then (if s.dev = .starting ∨ s.dev = .coppice then ((if s.dev = .starting then s.wr F.BOOT_STAT_FAIL 2 else s)).startReset 4 else s)
  else s.privetAgain

/-- DEVICE_RESET_INSTANT (R541). -/
def deviceResetInstant (t : Nat) (s : State) : State :=
  let s := s.at_ t
  match s.boot.rstAt with
  | some (u, ty) => if u ≤ s.now ∧ ty ≠ 8 ∧ s.dev ≠ .off ∧ s.dev ≠ .sleep then s.startReset ty else s
  | none => s

/-- COPPICE_EXIT_RESET: ATTEMPTS 0 and COPPICE_REASON NONE (R537). -/
def coppiceExitReset (t : Nat) (s : State) : State :=
  let s := s.at_ t
  match s.boot.rstAt with
  | some (u, ty) => if u ≤ s.now ∧ ty = 8 ∧ s.dev = .coppice then ((s.wr F.BOOT_STAT_ATTEMPTS 0).wr F.BOOT_STAT_COPPICE_REASON 0).startReset 8 else s
  | none => s

/-! ## Sleep and wake-up -/

/-- Every domain but WAKE loses its supply (R360): what a WAKE start would find freshly powered is lost now, with the phase, the arming
and what the wake domain watches left standing. -/
def State.powerDown (s : State) : State :=
  let slp := { s.slp with wakeDrive := s.rdb F.HDG_CFG_WAKE_DRIVE, tbSource := s.rd F.TBS_CFG_SOURCE, offList := [], linSleep := [], tc10 := [] }
  let votes := s.rd F.WAK_STAT_VOTES
  let react := s.flt.react
  let s := ((s.domainReset 1).wr F.WAK_STAT_VOTES votes).wr F.WAK_STAT_PHASE 2
  { s with slp := slp, flt.react := react }

/-- SLEEP_POWER_DOWN_COMPLETE: t_sleep (R360, R363, R366, R369): a latch already set starts the wake-up. -/
def sleepPowerDownComplete (t : Nat) (s : State) : State :=
  let s := s.at_ t
  if s.phase = 2 ∧ s.slp.prepped = true ∧ s.dev ≠ .sleep then
    let out := s.slp.wakeOut && s.rd F.WAK_CFG1_WOUT_MODE != 2
    let s : State := { s.powerDown.setDev .sleep with slp.tSleep := s.now, slp.wakeOut := out }
    if s.rd F.WAK_CAUSE_KINDS = 0 then s else { s with flt.react := s.flt.react ++ [React.wake] }
  else s

/-- The wake-up (R366, R369, R394): its count and cause, WAKE_OUT, TC10 pulses and the wake pulse of the chain, then a WAKE
start. -/
def State.wakeUp (s : State) : State :=
  let s := s.wrb F.WAK_CAUSE_VALID (s.rd F.WAK_CAUSE_KINDS != 0)
  let s := s.sat F.WAK_COUNT_ALL 1
  let s := if s.rdb F.WAK_CAUSE_AFTER_COMMIT then s.sat F.WAK_COUNT_LATE 1 else s
  let mode := s.rd F.WAK_CFG1_WOUT_MODE
  let s : State := { s with slp.wakeOut := mode == 1 || mode == 2,
                            slp.woutEnd := if mode = 1 then some (s.now + ms (s.rd F.WAK_CFG1_WOUT_MS)) else none,
                            slp.wakeFwd := (List.range 16).filter (fun p => bitOf (s.rd F.WAK_ARM_ETH_WAKE_FWD) p) }
  let s : State := if s.slp.wakeDrive then { s with slp.pulseAt := s.now } else s
  let src := s.slp.tbSource
  let s := s.startReset 1
  if src = 0 then s else s.wr F.TBS_STATUS_SYNC 1

/-! ## Commands (R540–R542) -/

def bootStatusBody (_ : Cmd) (s : State) : Res :=
  .done stOK (wordBytes (s.word R.BOOT_CFG) ++ wordBytes (s.word R.BOOT_STAT) ++ wordBytes (s.word R.BOOT_CNT) ++ bytesLE 4 0 ++ bytesLE 8 s.tStart ++
    bytesLE 8 (s.pair R.BOOT_CONFIRM_LO R.BOOT_CONFIRM_HI) ++ bytesLE 8 s.boot.lockAt) s

/-- A reset is due at an instant: one that is due earlier stands (R541). -/
def State.resetAt (s : State) (u ty : Nat) : State :=
  match s.boot.rstAt with
  | some p => if p.1 ≤ u then s else { s with boot.rstAt := some (u, ty) }
  | none => { s with boot.rstAt := some (u, ty) }

def deviceResetBody (c : Cmd) (s : State) : Res :=
  let k := c.arg 0 1
  need (decide (k ≤ 1) && c.zero 1 3) stBAD_ARGUMENT <|
  need c.isSecure stNOT_OWNER <|
  let u := s.now + ms 1
  .done stACCEPTED (bytesLE 8 u) (s.resetAt u (if k = 0 then 5 else 3))

/-- CONFIRM of COPPICE_EXIT (R542). -/
def State.exitConfirm (s : State) : List Byte :=
  slice (Config.hmac256 (s.domainKey 5) (bytesLE 8 Config.serial ++ bytesLE 1 (s.rd F.BOOT_STAT_COPPICE_REASON) ++ bytesLE 8 s.cfg.nonce)) 0 16

def coppiceExitBody (c : Cmd) (s : State) : Res :=
  need (c.zero 0 4) stBAD_ARGUMENT <|
  need (c.node == 0xFFFF) stNOT_OWNER <|
  need (s.corePart 0 == some c.who) stNOT_OWNER <|
  need (s.rd F.HWN_STAT_LOCK_STATE != 1) stTAMPER_LOCKOUT <|
  need (s.exitConfirm == c.argBytes 4 16) stAUTH_FAILED <|
  need (s.dev == .coppice) stMODE_FORBIDS <|
  let u := s.now + ms 1
  .done stACCEPTED (bytesLE 8 u) (s.resetAt u 8)

def dBootStatus : CmdDef := { op := 0x0A0A, lens := lenIs 0, coppice := true, body := bootStatusBody }
def dDeviceReset : CmdDef := { op := 0x0A0B, lens := lenIs 4, remote := false, body := deviceResetBody }
def dCoppiceExit : CmdDef := { op := 0x0A0C, lens := lenIs 20, coppice := true, remote := false, body := coppiceExitBody }

end Sys2Proof.Machine
end

