-- ==== Sys2Proof/Machine/Supply.lean ====
section
/-!
DEFINITION. Machine/Supply.lean: the supply and the housing (R574, R575, R578, R584, R585), and the line inputs while the
module is awake (R361, R376).
-/
namespace Sys2Proof.Machine

/-- A feed of the supply beside its registers. -/
def State.feedReversed (s : State) (f : Nat) (on : Bool) : State :=
  { s with fab.feeds := s.fab.feeds.set f { s.fab.feeds.get {} f with reversed := on } }

/-- FEED_REVERSE: the reverse-polarity switch of feed `f` opens, and its banks act as under a feed below UV_OFF; or it closes
again (R574). -/
def feedReverse (t f : Nat) (on : Bool) (s : State) : State :=
  let s := s.at_ t
  if 1 ≤ f ∧ f ≤ 4 then (if on then feedUndervoltage t f [] (s.feedReversed f true) else s.feedReversed f false) else s

/-- The logic supply is on: the module is neither off nor asleep. -/
def State.logicOn (s : State) : Bool := s.dev != .off && s.dev != .sleep

/-- HIGHEST_FEED_LOW: the logic supply runs from hold-up for 10 ms, or the highest feed has risen to 4.5 V again (R575); in
SLEEP there is no effect (R578). -/
def highestFeedLow (t : Nat) (low : Bool) (s : State) : State :=
  let s := s.at_ t
  if low then
    (if s.logicOn && s.sup.holdEnd.isNone then { s with sup.holdEnd := some (s.now + ms 10) } else s)
  else { s with sup.holdEnd := none }

/-- HOLD_UP_EXPIRY: SYSTEM_SUPPLY reset (R575); a sleep entry ends with the causes latched until then kept and ABORTED set
(R578). -/
def holdUpExpiry (t : Nat) (s : State) : State :=
  let s := s.at_ t
  match s.sup.holdEnd with
  | some u =>
    if u ≤ s.now ∧ s.logicOn = true then
      let s : State := { s with sup.holdEnd := none }
      s.sleepAbort.startReset 2
    else s
  | none => s

/-- The derated limit of R584, 0.1 W. -/
def derated (coldPlate : Bool) (th : Int) : Nat :=
  let top : Nat := if coldPlate then 600 else 250
  let knee : Int := if coldPlate then 85 else 100
  if th ≤ knee then top
  else if 110 ≤ th then 0
  else top * (110 - th).toNat / (110 - knee).toNat

/-- The 1 s mean of the housing temperature: of the last ten samples, or of those there are (R584). -/
def meanTemp (l : List Int) : Int := if l = [] then 0 else (l.foldl (fun a b => a + b) 0).tdiv (l.length : Int)

/-- A temperature as T_HOUSING reads it: °C + 50, saturating (R585). -/
def tempCode (th : Int) : Nat := min 255 (th + 50).toNat

/-- THERMAL_SAMPLE (R584, R585). -/
def thermalSample (t : Nat) (celsius : Int) (s : State) : State :=
  let s := s.at_ t
  let l := (celsius :: s.sup.temps).take 10
  let th := meanTemp l
  let s : State := { s with sup.temps := l }
  let s := (s.wr F.PFB_THERM_T_HOUSING (tempCode th)).wr F.PFB_THERM_DERATED (derated (s.rdb F.PFB_HEAT_CFG_COLD_PLATE) th)
  s.wr F.PFB_THERM_T_PEAK (max (s.rd F.PFB_THERM_T_PEAK) (tempCode th))

/-- LINE_INPUT_CHANGE: the filtered levels of WAKE_IN and IGN_SENSE while the module is awake (R361); the phase follows
readiness at the end of the command. -/
def lineInputChange (t : Nat) (wakeIn ign : Bool) (s : State) : State :=
  (s.at_ t).setLines wakeIn ign

end Sys2Proof.Machine
end

