-- ==== Sys2Proof/Machine/Access.lean ====
section
/-!
DEFINITION. Machine/Access.lean: accesses to the address map: the checks of R30–R33, R405, R413 and R446–R449, loads,
stores and register reads and writes (R11–R15), the interrupt registers (R36–R38), the mailbox window registers (R51, R55)
and the read-ahead slots of the island bridges (R355, R356).
-/
namespace Sys2Proof.Machine

/-! ## Checks -/

/-- What the checks of an access come to: admitted, refused without a fault because its partition is down (R413), or
refused with a fault (R32, R451). -/
inductive Verdict where
  | ok
  /-- an exception of the lane that runs a task (R182) -/
  | lane (k : Nat)
  | blocked (v : Nat)
  | fail (code : Nat)
deriving DecidableEq, Repr

/-- The access type codes of R494. -/
def kindCode : AccKind → Nat
  | .load => 1
  | .store => 2
  | .fetch => 3

/-- Every byte lies in a range or block of the tables of R30 and R31. -/
def covered (addr len : Nat) : Bool :=
  (inMemory addr && inMemory (addr + len - 1)) || (inBlock addr && inBlock (addr + len - 1))

/-- The refusal of a region: WORLD_VIOLATION where a region of the secure world alone holds the address (R451). -/
def State.regionCode (s : State) (a : Acc) (addr : Nat) : Nat :=
  match mpcOf addr with
  | none => 0x0B01
  | some m =>
    match s.regionAt m addr with
    | some r => if !a.sec && s.rdb (F.MPC_R_ATTR_SEC m r) && !s.rdb (F.MPC_R_ATTR_NS m r) then 0x0B02 else 0x0B01
    | none => 0x0B01

/-- The identity is one that an application core in the normal world can carry: at the hypervisor level the host partition's, at a
partition level its PART while VALID (R405). -/
def State.coreMay (s : State) (a : Acc) : Bool :=
  decide (6 ≤ a.master) || a.sec || a.dev ||
  (if a.hyp then s.hostPart == some a.part else s.rdb (F.MPC_CORE_PART_VALID a.master) && s.rd (F.MPC_CORE_PART_PART a.master) == a.part)

/-- The partition of an identity is RESETTING or HALTED (R413). -/
def State.accDown (s : State) (a : Acc) : Bool :=
  !a.sec && !a.dev && (s.pst a.part == psRESETTING || s.pst a.part == psHALTED)

/-- A lane of the cycle engine (R181). -/
def isLane (a : Acc) : Bool := a.dev && (a.master == 0x12 || a.master == 0x13)

/-- What a lane that runs task `k` may reach (R182, R184): execute the active program bank; read the status page, its own
images and the active data bank; write its own output image and the data bank outside the constants and other tasks' retained
variables. -/
def State.laneReach (s : State) (k : Nat) (kind : AccKind) (a n : Nat) : Bool :=
  let within (lo len : Nat) : Bool := decide (lo ≤ a) && decide (a + n ≤ lo + len)
  match kind with
  | .fetch => within (cycProg s.bank) 0x100000
  | .load => within cycStatus 0x1000 || within (cycOut k) 0x400 || within (cycIn k) 0x2000 || within (cycData s.bank) 0xE0000
  | .store => s.laneMay k a n

/-- An access by a lane: one outside its reach is a lane exception of the task that it runs (R182, R185); a lane that runs no
task makes none. -/
def State.laneVerdict (s : State) (a : Acc) (kind : AccKind) (addr len : Nat) : Verdict :=
  match s.runningOn (a.master - 0x12) with
  | some k => if s.laneReach k kind addr len then .ok else .lane k
  | none => .fail 0x0B01

/-- The checks of an access's identity as it is issued (R405, R413). They come before those of its address (DESIGN CHOICE,
assumption 111). -/
def State.idVerdict (s : State) (a : Acc) : Verdict :=
  if isLane a then .ok else if s.accDown a then .blocked a.part else if !s.coreMay a then .fail 0x0B01 else .ok

/-- The checks of an access of `len` bytes once issued (R31–R33, R446–R448, R182, R185). The control window's check of its
master comes before the check of width and alignment (DESIGN CHOICE, assumption 111). -/
def State.areaVerdict (s : State) (a : Acc) (k : AccKind) (addr len : Nat) : Verdict :=
  if isLane a then s.laneVerdict a k addr len
  else if inControl addr && !accPrivet a then .fail 0x0B01
  else if len = 0 ∨ covered addr len = false then .fail 0x0103
  else if inPeri addr && k == .fetch then .fail 0x0B01
  else if inPeri addr && !(addr % 4 == 0 && len == 4) then .fail 0x0103
  else if inControl addr then .ok
  else if (a.dev || a.master == 0x16) && s.lockedRange addr len then .fail 0x0B01
  else if k == .store && inCycle addr && !accPrivet a then .fail 0x0B01
  else if a.dev then .ok
  else if s.admits a.sec a.part k addr len then .ok
  else .fail (s.regionCode a addr)

/-- The checks of an access (R31–R33, R405, R413, R446–R448, R182, R185). -/
def State.accVerdict (s : State) (a : Acc) (k : AccKind) (addr len : Nat) : Verdict :=
  match s.idVerdict a with
  | .ok => s.areaVerdict a k addr len
  | v => v

/-- A unit of the module is off: its masters make no access. -/
def State.asleep (s : State) : Bool := s.dev == .sleep || s.dev == .off

/-- A safety core issues no such access (R405, R407, R435, R437): it has no secure world, it carries the identity of the partition that it
hosts, and it issues nothing while its pair is off or handles a mismatch or once it is fenced. -/
def State.muteSafety (s : State) (a : Acc) : Bool :=
  let c := a.master - 8
  let n := c / 2
  decide (8 ≤ a.master) && decide (a.master < 16) && !a.dev &&
  (a.sec || s.corePart (if s.isSplit n then c else 2 * n) != some a.part || s.lst n == lsOFF || s.lst n == lsSELFTEST || s.lst n == lsRESTARTING ||
    s.rd (F.FLT_LS_STAT_FENCED n) == 1 + c % 2)

/-- A debug access that the lifecycle does not permit is not made: none in PRODUCTION, and in DEVELOP none of the secure world without
SECDBG (R461). It is made through a halted core, whose world and partition it carries (R445). -/
def State.muteDebug (s : State) (a : Acc) : Bool :=
  a.master == 0x16 && (s.lifecycle == 2 || (a.sec && s.lifecycle == 1 && !s.rdb F.MPC_LC_STAT_SECDBG))

/-- A master that issues no such access. -/
def State.mute (s : State) (a : Acc) : Bool := s.muteSafety a || s.muteCore a || s.muteDebug a

/-- No access is issued: the module is off, or the core issues none. -/
def State.silent (s : State) (a : Acc) : Bool := s.asleep || s.mute a

/-- An access with the verdict of its checks: carried out, or refused (R32, R413, R451). -/
def State.accept (s : State) (v : Verdict) (x : Waiting) (f : State → State) : State :=
  match v with
  | .ok => f { s with bus := .none }
  | .lane j => { s.taskFault j 2 with bus := .busError }
  | .blocked v => { s.modPart v (fun p => { p with blocked := p.blocked + 1 }) with bus := .busError }
  | .fail code => s.failAcc code x.acc (kindCode x.kind) x.addr

/-- The same where the access waits at the cluster interface while its partition has no rank (R422). -/
def State.acceptOrWait (s : State) (v : Verdict) (x : Waiting) (f : State → State) : State :=
  if v = .ok ∧ s.stalls x.acc x.addr x.len = true then { s with bus := .waits, prt.waiting := s.prt.waiting ++ [x] } else s.accept v x f

/-- Issue an access: its identity and its address are checked (R32, R405, R413). -/
def State.viaBus (s : State) (x : Waiting) (f : State → State) : State :=
  if s.silent x.acc then s else s.acceptOrWait (s.accVerdict x.acc x.kind x.addr x.len) x f

/-! ## The write buffers of the bridges (R26, R357) -/

/-- The clock island that an address lies in (R23, R30, R31): memory and the distributors are the system island's. -/
def addrIsland (addr : Nat) : Nat :=
  if inTcm addr then 4 else if inCycle addr then 5
  else if 0x10100000 ≤ addr ∧ addr ≤ 0x101FFFFF then 6 else if 0x10200000 ≤ addr ∧ addr ≤ 0x102FFFFF then 7
  else if 0x10300000 ≤ addr ∧ addr ≤ 0x103FFFFF then 9 else if 0x10400000 ≤ addr ∧ addr ≤ 0x104FFFFF then 1
  else if 0x10800000 ≤ addr ∧ addr ≤ 0x1080FFFF then 9 else if 0x10810000 ≤ addr ∧ addr < 0x10830000 then 10 + (addr - 0x10810000) / 0x1000
  else if 0x10900000 ≤ addr ∧ addr ≤ 0x109FFFFF then 5 else if 0x10A00000 ≤ addr ∧ addr ≤ 0x10BFFFFF then 6
  else if 0x10C00000 ≤ addr ∧ addr ≤ 0x10CFFFFF then 7 else if 0x10D00000 ≤ addr ∧ addr ≤ 0x10D7FFFF then 0
  else if 0x10E00000 ≤ addr ∧ addr ≤ 0x10FFFFFF then 2 else 8

/-- The first bridge that an access crosses and its direction: that of its master's island towards the system interconnect, else that of
the island it goes to; none within one island. -/
def firstBridge (a : Acc) (addr : Nat) : Option (Nat × Bool) :=
  let i := masterIsland a.master
  let j := addrIsland addr
  if i = j then none else if i ≠ 8 then some (i, false) else some (j, true)

/-- The writes that a direction of a bridge still holds (R357). -/
def State.bufHeld (s : State) (br : Nat) (away : Bool) : List PostedWrite :=
  s.brg.wbuf.filter (fun x => x.br == br && x.away == away && decide (s.now < x.until_))

/-- A write finds an entry in the buffer of the bridge it crosses (R357). -/
def State.bufRoom (s : State) (a : Acc) (addr : Nat) : Bool :=
  match firstBridge a addr with
  | some p => decide ((s.bufHeld p.1 p.2).length < 16)
  | none => true

/-- A write enters the buffer of the bridge it crosses, and stays there for a free time (R357; DESIGN CHOICE, assumption 167: its effect
is made at once). -/
def State.pushWrite (s : State) (a : Acc) (addr : Nat) : State :=
  match firstBridge a addr with
  | some p =>
    { s with brg.wbuf := s.brg.wbuf.filter (fun x => decide (s.now < x.until_)) ++ [⟨p.1, p.2, a.master, s.now, s.now + Config.freeNat s.free⟩],
             free := s.free + 1 }
  | none => s

/-- A read through a bridge waits for an earlier write of its master there (R26, R355). -/
def State.writesAhead (s : State) (x : RaSlot) : Bool :=
  (s.bufHeld x.br x.away).any (fun w => w.master == x.acc.master && decide (w.at_ ≤ x.at_))

/-! ## Families of register addresses -/

/-- The index of an address in a family of `n` registers at `base` with a stride. -/
def atIdx (addr base st n : Nat) : Option Nat :=
  if base ≤ addr ∧ (addr - base) % st = 0 ∧ (addr - base) / st < n then some ((addr - base) / st) else none

/-- The mailbox window that an address lies in (R48). -/
def windowOf (addr : Nat) : Option Nat :=
  if 0x10000000 ≤ addr ∧ addr ≤ 0x1000FFFF then some ((addr - 0x10000000) / 0x1000)
  else if 0x10050000 ≤ addr ∧ addr ≤ 0x10050FFF then some 16 else none

/-- The ring pair that an address lies in (R258). -/
def ringOf (addr : Nat) : Option Nat :=
  if 0x10100000 ≤ addr ∧ addr < 0x10140000 then some ((addr - 0x10100000) / 0x1000) else none

/-- The CAN channel, and the LIN channel, that an address lies in (R307). -/
def canOf (addr : Nat) : Option Nat :=
  if 0x10200000 ≤ addr ∧ addr < 0x10240000 then some ((addr - 0x10200000) / 0x4000) else none
def linOf (addr : Nat) : Option Nat :=
  if 0x10280000 ≤ addr ∧ addr < 0x10288000 then some ((addr - 0x10280000) / 0x1000) else none

/-- The port whose register block an address lies in. -/
def portOf (addr : Nat) : Option Nat :=
  if 0x10A00000 ≤ addr ∧ addr < 0x10A00700 then some ((addr - 0x10A00000) / 0x40) else none

/-- The block of an address is a channel or a PHY that its control has not ON: its registers read zero and ignore writes
(R459). -/
def State.powered (s : State) (addr : Nat) : Bool :=
  let on (k : Nat) : Bool := s.dev == .coppice || s.rd (F.MPC_CPC_PSTATE k) == 0
  (match canOf addr with | some c => on (6 + c) | none => true) &&
  (match linOf addr with | some c => on (22 + c) | none => true) &&
  (match portOf addr with | some p => decide (24 ≤ p) || on (30 + p) | none => true)

/-- The access passes the identity check of its block (R48, R258, R307, R449). -/
def State.blockAdmits (s : State) (a : Acc) (store : Bool) (addr : Nat) : Bool :=
  (match windowOf addr with | some w => !a.dev && (if w = 16 then a.sec else !a.sec && a.part == w) | none => true) &&
  (match ringOf addr with | some r => s.holdsRing a r | none => true) &&
  (match canOf addr with | some c => if store then s.blockWrites a kCan c else s.blockReads a kCan c | none => true) &&
  (match linOf addr with | some c => if store then s.blockWrites a kLin c else s.blockReads a kLin c | none => true)

/-! ## Reading registers -/

/-- The bits of IRQ_PEND_k that a requester sees (R37). -/
def State.irqPendWord (s : State) (bank k : Nat) : Nat :=
  (List.range 32).foldl (fun m b => if s.irqMine bank (32 * k + b) && s.irqPending (32 * k + b) then m + 2 ^ b else m) 0

/-- The banked interrupt registers (R36, R37): DEVICE takes no part and reads zero. -/
def State.irqRead (s : State) (a : Acc) (addr : Nat) : Option Nat :=
  let b := s.accBank a
  if addr < R.IRQ_PEND 0 ∨ (R.IRQ_DOORBELL < addr ∧ addr ≠ R.IRQ_CLAIM_POP) ∨ R.IRQ_CLAIM_POP < addr then none
  else if a.dev then some 0
  else match atIdx addr (R.IRQ_PEND 0) 4 32 with
    | some k => some (s.irqPendWord b k)
    | none => some (if addr = R.IRQ_HEAD then s.irqHeadWord b else if addr = R.IRQ_PMASK then s.irq.mask.get 0x10 b else 0)

/-- A banked register of the fault collector's notification queues (R493). -/
def State.noteRead (s : State) (a : Acc) (addr : Nat) : Option Nat :=
  if addr = R.FLT_NOTE_HEAD then some (match s.handlerOfAcc a with | some h => s.noteHead h | none => 0)
  else if addr = R.FLT_NOTE_CNT then some (match s.handlerOfAcc a with | some h => s.noteCnt h | none => 0)
  else none

/-- Half a 64-bit number: the low word for `h` = 0. -/
def half (v h : Nat) : Nat := v / 2 ^ (32 * h)

/-- Registers whose value follows from other state: the power fabric's. -/
def State.fabRead (s : State) (addr : Nat) : Option Nat :=
  [ (atIdx addr (R.PFB_TS_A 0 0) 8 512).map (fun n => (s.pageWords 0 n).1.toNat),
    (atIdx addr (R.PFB_TS_B 0 0) 8 512).map (fun n => (s.pageWords 0 n).2.toNat),
    (atIdx addr (R.PFB_TS_A 1 0) 8 512).map (fun n => (s.pageWords 1 n).1.toNat),
    (atIdx addr (R.PFB_TS_B 1 0) 8 512).map (fun n => (s.pageWords 1 n).2.toNat),
    (atIdx addr (R.PFB_TS_STAMP_LO 0) 4 2).map (fun h => half s.fab.stamp0 h),
    (atIdx addr (R.PFB_TS_STAMP_LO 1) 4 2).map (fun h => half s.fab.stamp1 h),
    (atIdx addr (R.PFB_GANG_STAT 0) 0x40 64).map (fun g => s.gangStat g),
    (atIdx addr (R.PFB_GANG_ISUM 0) 0x40 64).map (fun g => s.gangIsum g),
    (atIdx addr (R.PFB_BRG_STAT 0) 0x20 32).map (fun h => s.brgStat h),
    (atIdx addr (R.PFB_FEED_USED 1) 0x10 4).map (fun f => s.feedUsedWord (f + 1)),
    (atIdx addr (R.PFB_ALLOT_USED 0) 8 18).map (fun v => s.allotUsedWord v),
    (atIdx addr (R.PFB_BUD 0) 4 608).map (fun x => s.budWord x),
    (atIdx addr (R.PFB_MTR_E_DEL_LO 0) 0x10 632).map (fun m => s.eDel m),
    (atIdx addr (R.PFB_MTR_E_DEL_HI 0) 0x10 632).map (fun m => half (s.eDel m) 1),
    (atIdx addr (R.PFB_MTR_E_RET_LO 0) 0x10 632).map (fun m => s.eRet m),
    (atIdx addr (R.PFB_MTR_E_RET_HI 0) 0x10 632).map (fun m => half (s.eRet m) 1)
  ].findSome? id

/-- STAT_A and STAT_B of a cell in its bank controller, with the current values (chapter 03). -/
def State.bankRead (s : State) (addr : Nat) : Option Nat :=
  if 0x10810000 ≤ addr ∧ addr < 0x10830000 then
    let k := (addr - 0x10810000) / 0x1000
    let o := (addr - 0x10810000) % 0x1000
    let j := (o - 0x100) / 0x20
    if 0x100 ≤ o ∧ j < 16 ∧ (o - 0x100) % 0x20 = 0x10 then some (s.wordA (16 * k + j)).toNat
    else if 0x100 ≤ o ∧ j < 16 ∧ (o - 0x100) % 0x20 = 0x14 then some (s.wordB (16 * k + j)).toNat else none
  else none

/-- MBX_STATUS of a window: SERVING reads 1 while the window is enabled and served (R55, R74). -/
def State.mbxStatus (s : State) (w : Nat) : Word :=
  (s.word (R.MBX_STATUS w)).withField 8 1 (b2n (s.rdb (F.MBX_STATUS_SERVING w) && s.rdb (F.MBX_CTL_ENABLE w)))

/-- Registers whose value follows from other state: the other blocks'. -/
def State.calcRead (s : State) (a : Acc) (addr : Nat) : Option Nat :=
  [ (atIdx addr (R.MBX_STATUS 0) 0x1000 16).map (fun w => (s.mbxStatus w).toNat),
    (atIdx addr (R.MBX_STATUS 16) 4 1).map (fun _ => (s.mbxStatus 16).toNat),
    (atIdx addr R.TBS_NOW_LO 4 2).map (fun h => half s.now h),
    (atIdx addr R.CYC_STATE 4 1).map (fun _ => s.cycStateWord.toNat),
    (atIdx addr R.SWC_POOL_STAT 4 1).map (fun _ => s.poolWord.toNat),
    (atIdx addr R.SWC_AUDIT_STAT 4 1).map (fun _ => s.auditWord.toNat),
    (atIdx addr (R.SWC_Q_STAT 0) 0x40 224).map (fun q => (s.queueWord q).toNat),
    (atIdx addr (R.TSN_GATE_STAT 0) 0x40 28).map (fun p => ((s.word addr).withField 24 8 (s.gateMask p)).toNat),
    (atIdx addr 0x10200020 0x4000 16).map (fun c => s.rxHeadWord c),
    (atIdx addr 0x10200024 0x4000 16).map (fun c => s.txHeadWord c),
    (atIdx addr 0x10280008 0x1000 8).map (fun c => s.linNewWord c),
    (atIdx addr 0x1028000C 0x1000 8).map (fun c => half (s.linNewWord c) 1),
    (atIdx addr R.WAK_STAT 4 1).map (fun _ => s.wakStat.toNat),
    (atIdx addr R.HWN_STAT 4 1).map (fun _ => s.hwnStat.toNat),
    (atIdx addr (R.HWN_SLOT_STAT 0) 4 256).map (fun k => (s.slotWord k).toNat),
    (atIdx addr (R.MPC_CORE_HNOTE 0) 4 6).map (fun c => s.hnote c),
    (atIdx addr (R.MPC_PART_RSTAT 0) 0x10 16).map (fun v => (s.rstat v).toNat),
    (atIdx addr (R.MPC_GW_CALLER 0) 4 6).map (fun _ => if a.sec then (s.word addr).toNat else 0),
    (atIdx addr (R.MPC_CPC 0) 4 64).map (fun k => (s.cpcWord k).toNat),
    (atIdx addr (R.FLT_LS_STAT 0) 0x40 4).map (fun n => (s.lsStat n).toNat)
  ].findSome? id

/-- The word that a register of the peripheral range holds for a requester (R11–R14). -/
def State.regValue (s : State) (a : Acc) (addr : Nat) : Nat :=
  let v : Nat :=
    if 0x10030000 ≤ addr ∧ addr ≤ 0x1003FFFF then (s.irqRead a addr).getD (s.word addr).toNat
    else if 0x10010000 ≤ addr ∧ addr ≤ 0x1001FFFF then ((s.noteRead a addr).orElse (fun _ => s.calcRead a addr)).getD (s.word addr).toNat
    else if (0x10300000 ≤ addr ∧ addr ≤ 0x103FFFFF) ∨ (0x10800000 ≤ addr ∧ addr ≤ 0x1080FFFF) then (s.fabRead addr).getD (s.word addr).toNat
    else if 0x10810000 ≤ addr ∧ addr < 0x10830000 then (s.bankRead addr).getD (s.word addr).toNat
    else (s.calcRead a addr).getD (s.word addr).toNat
  v % 2 ^ 32

/-- An address is the low word of a 64-bit pair (R11). -/
def isLow (addr : Nat) : Bool :=
  (match regRow addr with | some r => r.low | none => false) || (atIdx addr 0x10280008 0x1000 8).isSome

/-- The key of a requester's holding copy: the register, the master, and the world and partition (R11). -/
def holdKey (a : Acc) (addr : Nat) : Nat := (addr * 256 + a.master % 256) * 64 + (if a.dev then 32 else if a.sec then 16 else a.part % 16)

/-- A claim: the value of IRQ_HEAD; a valid source leaves the pending state and becomes active (R37). -/
def State.irqClaim (s : State) (a : Acc) : State :=
  let b := s.accBank a
  if a.dev then s.replyData 0
  else
    let w := s.irqHeadWord b
    match s.irqHead b with
    | some n => { s.replyData w with irq.pend := s.irq.pend.set n false, irq.active := s.irq.active.set n true }
    | none => s.replyData w

/-- A load from a register (R11, R13): pop registers, the holding copies of pairs, and UPD_STAT, whose PROGRESS is open. A
requester's copy of a high word serves every later read of it until its next low-word read (DEDUCED, assumption 103). -/
def State.regLoad (s : State) (a : Acc) (addr : Nat) : State :=
  if !s.blockAdmits a false addr then s.refuseAcc a 1 addr
  else if !s.powered addr then s.replyData 0
  else if addr = R.IRQ_CLAIM_POP then s.irqClaim a
  else match atIdx addr (R.CAN_RXEVT_POP 0) 0x4000 16, atIdx addr (R.CAN_TXEVT_POP 0) 0x4000 16 with
    | some c, _ => canRxevtPop s.now a c s
    | _, some c => canTxevtPop s.now a c s
    | none, none =>
      if addr = R.UPD_STAT then (let u := s.updStat; u.2.replyData u.1.toNat)
      else if isLow addr then
        { s.replyData (s.regValue a addr) with hold := s.hold.set (holdKey a addr) (BitVec.ofNat 32 (s.regValue a (addr + 4))) }
      else if isLow (addr - 4) && s.hold.keys.contains (holdKey a (addr - 4)) then s.replyData (s.hold.get 0 (holdKey a (addr - 4))).toNat
      else s.replyData (s.regValue a addr)

/-! ## Writing registers -/

/-- The block of a register is stopped in the sense of R15: its LOCKED fields may be written. -/
def State.regStopped (s : State) (addr : Nat) : Bool :=
  match windowOf addr, ringOf addr, canOf addr, linOf addr with
  | some w, _, _, _ => !s.rdb (F.MBX_CTL_ENABLE w)
  | _, some r, _, _ => !s.rdb (F.SWC_RING_CTL_ENABLE r)
  | _, _, some c, _ => s.rd (F.CAN_CTL_MODE c) == 0
  | _, _, _, some c => s.linStopped c
  | none, none, none, none =>
    if 0x10810000 ≤ addr ∧ addr < 0x10830000 then s.stopped (s.topOf (16 * ((addr - 0x10810000) / 0x1000) + ((addr - 0x10810000) % 0x1000 - 0x100) / 0x20))
    else if R.PFB_GANG_DEF 0 ≤ addr ∧ addr < R.PFB_GANG_DEF 64 then s.stopped (s.topOf (xGang ((addr - R.PFB_GANG_DEF 0) / 0x40)))
    else if R.PFB_BRG_CFG0 0 ≤ addr ∧ addr < R.PFB_BRG_CFG0 32 then s.stopped (xBrg ((addr - R.PFB_BRG_CFG0 0) / 0x20))
    else if 0x10900000 ≤ addr ∧ addr ≤ 0x109FFFFF then s.eng == 0
    else match portOf addr with
      | some p => s.portStopped p
      | none => match atIdx addr (R.TSN_PRE_CFG 0) 0x10 16 with
        | some p => s.portStopped p
        | none => if addr = R.HDG_CFG then !s.rdb F.HDG_STAT_UP_LINK && !s.rdb F.HDG_STAT_DN_LINK else !s.rdb F.BOOT_CTL_BOOT_LOCK

/-- A write to a register with no rule of its own, by access types and classes (R12, R14, R15, R450): LIVE fields at once,
STAGED fields to their shadow, LOCKED fields while the block is stopped, RWL fields until BOOT_LOCK. -/
def State.plainWrite (s : State) (a : Acc) (addr v : Nat) : State :=
  match regRow addr with
  | none => s
  | some r =>
    let closed := s.rdb F.BOOT_CTL_BOOT_LOCK
    let s := if closed && r.rwl != 0 && !a.dev then s.refuseAcc a 2 addr else s
    let off : Nat := (if closed then r.rwl else 0) ||| r.staged ||| (if s.regStopped addr then 0 else r.locked ^^^ (r.locked &&& r.rwl))
    let m : Word := BitVec.ofNat 32 r.rw &&& ~~~ (BitVec.ofNat 32 off)
    let w := (s.word addr).merge (BitVec.ofNat 32 v &&& ~~~ (hardZero addr)) m
    let s := s.setWord addr (w &&& ~~~ (BitVec.ofNat 32 v &&& BitVec.ofNat 32 r.w1c))
    foldS (r.flds.filter (fun f => bitsOf (r.staged &&& r.rw) f.1 f.2 != 0)) (fun f s => s.stage ⟨addr, f.1, f.2⟩ (bitsOf v f.1 f.2)) s

/-- Rings of other windows overlap a range (R50, R52): those of the windows whose ENABLE is set (DESIGN CHOICE, assumption 114). -/
def State.ringOverlaps (s : State) (w base : Nat) : Bool :=
  (List.range 17).any (fun u => u != w && s.rdb (F.MBX_CTL_ENABLE u) &&
    (decide (base < s.reqBase u + 4096 ∧ s.reqBase u < base + 4096) || decide (base < s.rspBase u + 4096 ∧ s.rspBase u < base + 4096)))

/-- The checks of R52 for both rings of a window. -/
def State.ringsPass (s : State) (w : Nat) : Bool :=
  let ok (b : Nat) : Bool := s.ringRange w b 4096 && s.admitsAll w .load b 4096 && s.admitsAll w .store b 4096 && !s.ringOverlaps w b
  ok (s.reqBase w) && ok (s.rspBase w) && (decide (s.reqBase w + 4096 ≤ s.rspBase w) || decide (s.rspBase w + 4096 ≤ s.reqBase w))

/-- ENABLE written 1 (R55): ignored while INFLIGHT is not 0, and of a partition that is hosted nowhere (R407); else the four indices are set to 0 and the rings are checked
(R52). -/
def State.mbxOn (s : State) (w : Nat) : State :=
  if s.rd (F.MBX_STATUS_INFLIGHT w) ≠ 0 then s
  else if w < 16 ∧ s.hosting w = 0 then s.wrb (F.MBX_CTL_ENABLE w) false
  else
    let s := (((s.wr (F.MBX_REQ_PROD_PROD w) 0).wr (F.MBX_REQ_CONS_CONS w) 0).wr (F.MBX_RSP_PROD_PROD w) 0).wr (F.MBX_RSP_CONS_CONS w) 0
    if s.ringsPass w then s.wrb (F.MBX_CTL_ENABLE w) true else (s.wrb (F.MBX_CTL_ENABLE w) false).wrb (F.MBX_ERR_RING_ACCESS w) true

/-- A write of MBX_CTL (R55). -/
def State.mbxCtl (s : State) (w v : Nat) : State :=
  let s := s.wr (F.MBX_CTL_IRQ_EN w) (bitsOf v 1 1)
  if bitOf v 0 then s.mbxOn w else s.wrb (F.MBX_CTL_ENABLE w) false

/-- A write of MBX_REQ_PROD: PROD stays between its value and CONS + 64, or PROD_JUMP is set (R51). -/
def State.mbxProd (s : State) (w v : Nat) : State :=
  let cons := s.rd (F.MBX_REQ_CONS_CONS w)
  let cur := (s.rd (F.MBX_REQ_PROD_PROD w) + 65536 - cons) % 65536
  let nxt := (v % 65536 + 65536 - cons) % 65536
  if cur ≤ nxt ∧ nxt ≤ 64 then s.wr (F.MBX_REQ_PROD_PROD w) v else s.wrb (F.MBX_ERR_PROD_JUMP w) true

/-- A write of MBX_RSP_CONS: up to MBX_RSP_PROD and not backwards, or CONS_JUMP is set (R51). -/
def State.mbxCons (s : State) (w v : Nat) : State :=
  let cur := s.rd (F.MBX_RSP_CONS_CONS w)
  let room := (s.rd (F.MBX_RSP_PROD_PROD w) + 65536 - cur) % 65536
  let step := (v % 65536 + 65536 - cur) % 65536
  if step ≤ room then s.wr (F.MBX_RSP_CONS_CONS w) v else s.wrb (F.MBX_ERR_CONS_JUMP w) true

/-- A write to a mailbox window. -/
def State.mbxWrite (s : State) (a : Acc) (w addr v : Nat) : State :=
  if addr = R.MBX_CTL w then s.mbxCtl w v
  else if addr = R.MBX_REQ_PROD w then s.mbxProd w v
  else if addr = R.MBX_RSP_CONS w then s.mbxCons w v
  else s.plainWrite a addr v

/-- A doorbell that the requester may ring (R37). -/
def State.mayRing (s : State) (a : Acc) (src : Nat) : Bool :=
  decide (768 ≤ src) && !a.dev &&
  (if a.sec then s.rdb (F.IRQ_RINGMASK_SECURE (src - 768)) else bitOf (s.rd (F.IRQ_RINGMASK_VPMASK (src - 768))) a.part)

/-- A write to the interrupt distributor (R37, R38). -/
def State.irqWrite (s : State) (a : Acc) (addr v : Nat) : State :=
  let b := s.accBank a
  let n := v % 1024
  if addr = R.IRQ_EOI then
    (if !a.dev && s.irqMine b n && s.irq.active.get false n then { s with irq.active := s.irq.active.set n false } else s)
  else if addr = R.IRQ_PMASK then (if a.dev then s else { s with irq.mask := s.irq.mask.set b (v % 32) })
  else if addr = R.IRQ_DOORBELL then (if s.mayRing a n then s.trig n else s.refuseAcc a 2 addr)
  else s.plainWrite a addr v

/-- A write to the time base: the comparators, by the requester of their source alone (R47). -/
def State.tbsWrite (s : State) (a : Acc) (addr v : Nat) : State :=
  if R.TBS_CMP_LO 0 ≤ addr ∧ addr < R.TBS_CMP_LO 16 then
    let n := (addr - R.TBS_CMP_LO 0) / 0x10
    if !s.cmpMine a n then s
    else if addr = R.TBS_CMP_CTL n then (if bitOf v 0 then s.cmpArm n else s.cmpDisarm n)
    else s.plainWrite a addr v
  else s.plainWrite a addr v

/-- A write to a ring pair (R258, R259). -/
def State.ringWrite (s : State) (a : Acc) (r addr v : Nat) : State :=
  if addr = R.SWC_RING_CTL r then s.ringCtl r v
  else if addr = R.SWC_RING_TX_PROD r then s.ringAdvance r (F.SWC_RING_TX_PROD_PROD r) (F.SWC_RING_TX_DONE_CNT r) v
  else if addr = R.SWC_RING_RX_FILL r then s.ringAdvance r (F.SWC_RING_RX_FILL_CNT r) (F.SWC_RING_RX_DONE_CNT r) v
  else s.plainWrite a addr v

/-- A write to a CAN channel's block (R312–R314). -/
def State.canWrite (s : State) (a : Acc) (c addr v : Nat) : State :=
  match atIdx addr (R.CAN_OBJ_CTL c 0) 4 512, atIdx addr (R.CAN_OBJ_ID c 0) 4 512 with
  | some k, _ => s.writeObjCtl c k v
  | _, some k => s.writeObjId c k v
  | none, none => s.plainWrite a addr v

/-- A write to a LIN channel's block (R327). -/
def State.linStore (s : State) (a : Acc) (c addr v : Nat) : State :=
  match atIdx addr (R.LIN_BUF_CFG c 0) 0x10 64, atIdx addr (R.LIN_BUF_DATA0 c 0) 0x10 64, atIdx addr (R.LIN_BUF_DATA1 c 0) 0x10 64 with
  | some i, _, _ => s.writeLinCfg c i v
  | _, some i, _ => s.writeLinData0 c i v
  | _, _, some i => s.writeLinData1 c i v
  | none, none, none => s.plainWrite a addr v

/-- A write to the protection block: partition control, clock and power, regions (R406, R412, R458). `hyp`: the write comes
from the hypervisor level. -/
def State.mpcWrite (s : State) (a : Acc) (hyp : Bool) (addr v : Nat) : State :=
  match atIdx addr (R.MPC_CORE_PART 0) 4 6, atIdx addr (R.MPC_CPC 0) 4 64 with
  | some c, _ => mpcCorePartWrite s.now a hyp c v s
  | _, some k => mpcCpcPstateWrite s.now a k v s
  | none, none => if addr = R.MPC_PEVT then mpcPevtClear s.now a hyp v s else s.plainWrite a addr v

/-- A write to the fault collector. -/
def State.fltWrite (s : State) (a : Acc) (addr v : Nat) : State :=
  if addr = R.FLT_NOTE_ACK then fltNoteAck s.now a v s
  else match atIdx addr (R.FLT_LS_CKPT 0) 0x40 4 with
    | some n => fltLsCkptWrite s.now a n v s
    | none => s.plainWrite a addr v

/-- A store to a register of the peripheral range; one to the TSN block acts after the shapers' credits of the settings before it (R282). -/
def State.regStore (s : State) (a : Acc) (hyp : Bool) (addr v : Nat) : State :=
  if !s.blockAdmits a true addr then s.refuseAcc a 2 addr
  else if !s.powered addr then s
  else match windowOf addr, ringOf addr, canOf addr, linOf addr with
    | some w, _, _, _ => s.mbxWrite a w addr v
    | _, some r, _, _ => s.ringWrite a r addr v
    | _, _, some c, _ => s.canWrite a c addr v
    | _, _, _, some c => s.linStore a c addr v
    | none, none, none, none =>
      if 0x10010000 ≤ addr ∧ addr ≤ 0x1001FFFF then s.fltWrite a addr v
      else if 0x10020000 ≤ addr ∧ addr ≤ 0x1002FFFF then s.mpcWrite a hyp addr v
      else if 0x10030000 ≤ addr ∧ addr ≤ 0x1003FFFF then s.irqWrite a addr v
      else if 0x10040000 ≤ addr ∧ addr ≤ 0x1004FFFF then s.tbsWrite a addr v
      else if 0x10300000 ≤ addr ∧ addr ≤ 0x103FFFFF then s.refuseAcc a 2 addr
      else if addr = R.BOOT_CTL then (if bitOf v 31 then bootLock s.now s else s)
      else if 0x10B00000 ≤ addr ∧ addr ≤ 0x10BFFFFF then s.credits.plainWrite a addr v
      else s.plainWrite a addr v

/-! ## Loads and stores -/

/-- Filled read-ahead slots that a write through their bridge overlaps are invalidated (R355). -/
def State.wipeSlots (s : State) (a : Acc) (addr len : Nat) : State :=
  { s with brg.slots := s.brg.slots.filter (fun x =>
      !(x.data.isSome && !x.pop && decide (x.addr < addr + len) && decide (addr < x.addr + min 64 x.size) && (x.away || masterIsland a.master == x.br))) }

/-- What an admitted load does: the answer is the bytes as a little-endian number (R7). -/
def State.doLoad (s : State) (a : Acc) (addr len : Nat) : State :=
  if inPeri addr then s.regLoad a addr else (s.traffic a false addr len).replyData (natLE (s.load addr len))

/-- What an admitted fetch does. -/
def State.doFetch (s : State) (a : Acc) (addr len : Nat) : State := (s.traffic a false addr len).replyData (natLE (s.load addr len))

/-- What an admitted store does, once it has entered the write buffer. -/
def State.doStore (s : State) (a : Acc) (hyp : Bool) (addr : Nat) (data : List Byte) : State :=
  let s := (s.pushWrite a addr).wipeSlots a addr data.length
  if inPeri addr then s.regStore a hyp addr (natLE data) else (s.store addr data).traffic a true addr data.length

/-- A load. -/
def State.busLoad (s : State) (a : Acc) (addr len : Nat) : State := s.viaBus ⟨a, .load, addr, len, []⟩ (fun s => s.doLoad a addr len)

/-- An instruction fetch. -/
def State.busFetch (s : State) (a : Acc) (addr len : Nat) : State := s.viaBus ⟨a, .fetch, addr, len, []⟩ (fun s => s.doFetch a addr len)

/-- A posted store: a full write buffer answers with a retry (R357). -/
def State.busStore (s : State) (a : Acc) (hyp : Bool) (addr : Nat) (data : List Byte) : State :=
  if !s.silent a && !s.bufRoom a addr then { s with bus := .retry }
  else s.viaBus ⟨a, .store, addr, data.length, data⟩ (fun s => s.doStore a hyp addr data)

/-- A store to a register that runs its own operation, once the bus and the block allow it. -/
def State.busReg (s : State) (a : Acc) (addr : Nat) (f : State → State) : State :=
  if !s.silent a && !s.bufRoom a addr then { s with bus := .retry }
  else s.viaBus ⟨a, .store, addr, 4, []⟩ (fun s =>
    let s := (s.pushWrite a addr).wipeSlots a addr 4
    if !s.blockAdmits a true addr then s.refuseAcc a 2 addr else if s.powered addr then f s else s)

/-- What an access issued before does, under the identity it was issued with (R406, R415). -/
def State.act (s : State) (x : Waiting) : State :=
  match x.kind with
  | .load => s.doLoad x.acc x.addr x.len
  | .fetch => s.doFetch x.acc x.addr x.len
  | .store => s.doStore x.acc x.acc.hyp x.addr x.data

/-- Carry out an access issued before: its address is checked now. -/
def State.carryOn (s : State) (x : Waiting) : State := s.accept (s.areaVerdict x.acc x.kind x.addr x.len) x (fun s => s.act x)

/-- An access that has waited goes on, or waits again; its reply is kept (R422). -/
def State.resumeAcc (s : State) (x : Waiting) : State :=
  let s := s.acceptOrWait (s.areaVerdict x.acc x.kind x.addr x.len) x (fun s => s.act x)
  if s.bus = .waits then s else { s with prt.replies := s.prt.replies ++ [(x.acc, s.bus)] }

/-- The accesses that waited go on in their order (R422). -/
def State.resumeAll (s : State) : State := foldS s.prt.waiting (fun x s => s.resumeAcc x) { s with prt.waiting := [], prt.replies := [] }

/-- REGULATION_PERIOD: a period begins, at multiples of PERIOD, and what waited for it goes on (R421, R422). -/
def regulationPeriod (t : Nat) (s : State) : State :=
  let s := s.at_ t
  let p := us (s.rd F.MPC_REG_CFG_PERIOD)
  let at_ := if p = 0 then 0 else s.now / p * p
  if s.prt.period < at_ then
    (foldS (List.range 16) (fun v (s : State) => s.modPart v (fun x => { x with used := s.debt v, thr := false })) { s with prt.period := at_ }).resumeAll
  else s

/-! ## The rows -/

/-- REGISTER_WRITE. -/
def registerWrite (t : Nat) (a : Acc) (addr v : Nat) (s : State) : State := (s.at_ t).busStore a a.hyp addr (bytesLE 4 v)

/-- LOW_WORD_READ: a read of the low word of a pair (R11). -/
def lowWordRead (t : Nat) (a : Acc) (addr : Nat) (s : State) : State :=
  let s := s.at_ t
  if isLow addr then s.busLoad a addr 4 else s

/-- MEMORY_ACCESS: a load, store or fetch; a store takes its bytes from `data`. -/
def memoryAccess (t : Nat) (a : Acc) (k : AccKind) (addr len : Nat) (data : List Byte) (s : State) : State :=
  let s := s.at_ t
  match k with
  | .load => s.busLoad a addr len
  | .store => s.busStore a a.hyp addr (slice data 0 len)
  | .fetch => s.busFetch a addr len

/-- A pop register (R34). -/
def isPop (addr : Nat) : Bool :=
  decide (addr = R.IRQ_CLAIM_POP) || (atIdx addr (R.CAN_RXEVT_POP 0) 0x4000 16).isSome || (atIdx addr (R.CAN_TXEVT_POP 0) 0x4000 16).isSome

/-- A slot is the one that a repeat of a read matches: master, world, partition, address and size (R355). -/
def RaSlot.matches (x : RaSlot) (a : Acc) (br : Nat) (away : Bool) (addr size : Nat) : Bool :=
  x.br == br && x.away == away && { x.acc with hyp := a.hyp } == a && x.addr == addr && x.size == size

/-- There is room for a new slot: 8 in each direction of a bridge; one pop slot per master and bridge (R355, R356). -/
def State.slotRoom (s : State) (a : Acc) (br : Nat) (away : Bool) (addr : Nat) : Bool :=
  if isPop addr then !s.brg.slots.any (fun x => x.pop && x.br == br && x.acc.master == a.master)
  else decide ((s.brg.slots.filter (fun x => !x.pop && x.br == br && x.away == away)).length < 8)

/-- BRIDGE_READ: a repeat collects a filled slot; any other read is answered with a retry, and a slot is allocated where
there is room (R355, R356). A refused identity has no read (R405, R413). -/
def bridgeRead (t : Nat) (a : Acc) (br : Nat) (away : Bool) (addr size : Nat) (s : State) : State :=
  let s := s.at_ t
  if s.silent a then s
  else if s.idVerdict a ≠ .ok then s.accept (s.idVerdict a) ⟨a, .load, addr, size, []⟩ (fun s => s)
  else match s.brg.slots.find? (fun x => x.matches a br away addr size) with
    | some x =>
      match x.data with
      | none => { s with bus := .retry }
      | some d => { s with brg.slots := s.brg.slots.erase x, bus := match d with | some b => BusReply.data (natLE b) | none => .busError }
    | none =>
      if s.slotRoom a br away addr then
        { s with bus := .retry, brg.slots := s.brg.slots ++ [{ br := br, away := away, acc := a, addr := addr, size := size, pop := isPop addr, at_ := s.now }] }
      else { s with bus := .retry }

/-- The fetch of an empty slot: with the identity that the read was issued with (R406, R415), once earlier writes of its master through the
bridge have completed (R26, R355), and where its partition has a rank (R422). -/
def State.fillSlot (s : State) (i : Nat) : State :=
  match s.brg.slots[i]? with
  | none => s
  | some x =>
    let n := min 64 x.size
    if x.data.isSome || s.asleep || s.writesAhead x || s.stalls x.acc x.addr n then s
    else
      let was := s.bus
      let s := s.carryOn ⟨x.acc, .load, x.addr, n, []⟩
      let d : Option (List Byte) := match s.bus with | .data w => some (bytesLE n w) | _ => none
      { s with bus := was, brg.slots := s.brg.slots.set i { x with data := some d, at_ := s.now } }

/-- READAHEAD_FILL: the fetch of slot `i` completes with data or a bus error (R355); a fetch that met an uncorrectable ECC
error has its bus error by FAULT_REPORT (R28). -/
def readaheadFill (t i : Nat) (s : State) : State := (s.at_ t).fillSlot i

/-- An access carries the identity of a partition. -/
def accOf (v : Nat) (a : Acc) : Bool := !a.dev && !a.sec && a.part == v

/-- What a partition has issued completes (R415): its waiting accesses and its pop reads. -/
def State.drainIssued (s : State) (v : Nat) : State :=
  let was := s.bus
  let l := s.prt.waiting.filter (fun x => accOf v x.acc)
  let s := foldS l (fun x s => s.carryOn x) { s with prt.waiting := s.prt.waiting.filter (fun x => !accOf v x.acc) }
  let s := foldS (List.range s.brg.slots.length) (fun i s =>
    match s.brg.slots[i]? with | some x => if x.pop && accOf v x.acc then s.fillSlot i else s | none => s) s
  { s with bus := was }

/-- PART_RESET_DRAIN_COMPLETE: transactions have drained and the device-side effects are complete (R415, R416, R418). -/
def partResetDrainComplete (t v : Nat) (s : State) : State :=
  let s := s.at_ t
  if v < 16 ∧ s.pst v = psRESETTING ∧ s.rdb (F.MPC_PART_STAT_SCRUBBING v) = false then
    let s := (s.drainIssued v).dropSlots (fun x => accOf v x.acc)
    let s := s.partEffects v
    if (s.part_ v).scrub then s.wrb (F.MPC_PART_STAT_SCRUBBING v) true else s.setPart v psHALTED
  else s

/-- READAHEAD_EXPIRY: a filled slot not collected within 10 µs is discarded and counted; a pop slot never expires (R355,
R356). -/
def readaheadExpiry (t i : Nat) (s : State) : State :=
  let s := s.at_ t
  match s.brg.slots[i]? with
  | none => s
  | some x =>
    if x.data.isSome ∧ x.pop = false ∧ x.at_ + us 10 ≤ s.now then
      { s with brg.slots := s.brg.slots.eraseIdx i, brg.expired := (s.brg.expired + 1) % 2 ^ 32 }
    else s

/-- IRQ_SOURCE_TRIGGER: an edge source triggers, or the line of a level source changes (R35, R38). -/
def irqSourceTrigger (t src : Nat) (on : Bool) (s : State) : State :=
  let s := s.at_ t
  if reservedSource src || s.asleep then s
  else if levelSource src then { s with irq.line := s.irq.line.set src on }
  else if on then s.trig src else s

/-- IRQ_CLAIM_POP. -/
def irqClaimPop (t : Nat) (a : Acc) (s : State) : State := (s.at_ t).busLoad a R.IRQ_CLAIM_POP 4

/-- IRQ_EOI, IRQ_DOORBELL. -/
def irqEoi (t : Nat) (a : Acc) (v : Nat) (s : State) : State := (s.at_ t).busStore a false R.IRQ_EOI (bytesLE 4 v)
def irqDoorbell (t : Nat) (a : Acc) (v : Nat) (s : State) : State := (s.at_ t).busStore a false R.IRQ_DOORBELL (bytesLE 4 v)

/-- TBS_CMP_ARM, TBS_CMP_DISARM. -/
def tbsCmpArm (t : Nat) (a : Acc) (n : Nat) (s : State) : State :=
  if n < 16 then (s.at_ t).busStore a false (R.TBS_CMP_CTL n) (bytesLE 4 1) else s.at_ t
def tbsCmpDisarm (t : Nat) (a : Acc) (n : Nat) (s : State) : State :=
  if n < 16 then (s.at_ t).busStore a false (R.TBS_CMP_CTL n) (bytesLE 4 0) else s.at_ t

/-- MBX_ENABLE and MBX_DISABLE: a write of MBX_CTL whose ENABLE bit is 1, or 0. -/
def mbxEnable (t : Nat) (a : Acc) (w v : Nat) (s : State) : State :=
  if w ≤ 16 then (s.at_ t).busStore a false (R.MBX_CTL w) (bytesLE 4 (setBit v 0)) else s.at_ t
def mbxDisable (t : Nat) (a : Acc) (w v : Nat) (s : State) : State :=
  if w ≤ 16 then (s.at_ t).busStore a false (R.MBX_CTL w) (bytesLE 4 (clrBit v 0)) else s.at_ t

/-- MBX_REQ_PROD_WRITE, MBX_RSP_CONS_WRITE, MBX_ERR_CLEAR. -/
def mbxReqProdWrite (t : Nat) (a : Acc) (w v : Nat) (s : State) : State :=
  if w ≤ 16 then (s.at_ t).busStore a false (R.MBX_REQ_PROD w) (bytesLE 4 v) else s.at_ t
def mbxRspConsWrite (t : Nat) (a : Acc) (w v : Nat) (s : State) : State :=
  if w ≤ 16 then (s.at_ t).busStore a false (R.MBX_RSP_CONS w) (bytesLE 4 v) else s.at_ t
def mbxErrClear (t : Nat) (a : Acc) (w v : Nat) (s : State) : State :=
  if w ≤ 16 then (s.at_ t).busStore a false (R.MBX_ERR w) (bytesLE 4 v) else s.at_ t

end Sys2Proof.Machine
end

