-- ==== Sys2Proof/Machine/Chain.lean ====
section
/-!
DEFINITION. Machine/Chain.lean: the Hedgerow chain (R382–R396): hops, frames, enumeration, time and chain sleep.
-/
namespace Sys2Proof.Machine

/-! ## Link and ports -/

def State.isMember (s : State) : Bool := s.rd F.HDG_CFG_ROLE == 2
/-- The LINK bit of a hop: CHN_UP± or CHN_DN±. -/
def State.hopUp (s : State) (up : Bool) : Bool := s.rdb (F.HDG_HOP_LINK (if up then 0 else 1))

/-- Queue a frame on a port. -/
def State.sendOn (s : State) (up : Bool) (f : HdgFrame) : State := if up then s.sendUp f else s.sendDn f

/-- A frame of this unit that carries no MAC (R384). -/
def State.plainFrame (s : State) (ty dst flags : Nat) (pl : List Byte) : HdgFrame :=
  { ty := ty, dst := dst, src := s.ownNode, flags := flags, payload := pl }

/-- The root's address in this unit's segment. -/
def State.rootNode (s : State) : Nat := s.hdg.seg % 32 * 64

/-- A hop changes state (R383, R395). -/
def State.setHop (s : State) (up link : Bool) : State :=
  let n := if up then 0 else 1
  let s := (((s.wrb (F.HDG_HOP_LINK n) link).sat (F.HDG_HOP_BREAKS n) 1).wrb (if up then F.HDG_STAT_UP_LINK else F.HDG_STAT_DN_LINK) link).trig 722
  if up ∨ link = true then s else s.wrb F.HDG_STAT_READY_DN false

/-! ## Enumeration (R390, R391) -/

/-- STATE of the link. -/
def State.setHdg (s : State) (v : Nat) : State := s.wr F.HDG_STAT_STATE v

/-- The root starts an enumeration: ENUM with its segment and depth 1 (R390). -/
def State.startEnum (s : State) : State :=
  let seg := s.rd F.HDG_CFG_SEG
  let s := ((s.setHdg 2).wr F.HDG_STAT_DEPTH 0).wr F.HDG_STAT_NODE (seg * 64)
  let s := { s with hdg.enumAt := some s.now, hdg.acks := [], hdg.seg := seg }
  s.sendDn (s.plainFrame 1 (seg * 64 + 63) 0 (bytesBE 1 seg ++ bytesBE 1 1))

/-- This unit's ENUM_ACK with END or DONE (R390). -/
def State.enumAck (s : State) (fin done : Bool) : State :=
  s.sendUp (s.plainFrame 2 s.rootNode (4 * b2n fin + 8 * b2n done)
    (bytesBE 8 Config.serial ++ bytesBE 1 (s.rd F.HDG_STAT_DEPTH) ++ bytesBE 2 (s.rd F.HDG_RETAIN_RETAINED)))

/-- A member passes ENUM on and answers without END. -/
def State.passEnum (s : State) : State :=
  let d := s.rd F.HDG_STAT_DEPTH
  let s := ({ s with hdg.ackDue := none, hdg.isEnd := false }).enumAck false false
  s.sendDn (s.plainFrame 1 (s.rootNode + 63) 0 (bytesBE 1 s.hdg.seg ++ bytesBE 1 (d + 1)))

/-- The lowest position that no map entry holds (R390). -/
def freePos (m : List MapEntry) : Option Nat := ((List.range 62).map (fun i => i + 1)).find? (fun p => !m.any (fun e => e.pos == p))

/-- Positions of answers in depth order: positions so far, serial numbers seen, newly learned (R390, R391). A depth without an
answer reads 0xFF and has no serial number (R402). -/
def State.assign (s : State) : List (Option EnumAck) → List Nat × List Nat × List Nat → (List Nat × List Nat × List Nat) × State
  | [], a => (a, s)
  | none :: l, (ps, seen, new) => s.assign l (ps ++ [0xFF], seen ++ [2 ^ 64], new)
  | some k :: l, (ps, seen, new) =>
    if seen.contains k.serial then
      let s := s.sysFault 0x0904 .contained 0xFFFF 0
      s.assign l (ps ++ [0x3F], seen ++ [k.serial], new)
    else
      match s.hdg.map.find? (fun e => e.serial == k.serial) with
      | some e => s.assign l (ps ++ [e.pos], seen ++ [k.serial], new)
      | none =>
        match freePos s.hdg.map with
        | some p =>
          let s : State := { s with hdg.map := s.hdg.map ++ [{ serial := k.serial, pos := p, fixed := false }] }
          s.assign l (ps ++ [p], seen ++ [k.serial], new ++ [k.serial])
        | none =>
          let s := s.sysFault 0x0902 .corrected 0xFFFF 0
          s.assign l (ps ++ [0x3F], seen ++ [k.serial], new)

/-- Answers by depth down to the deepest (R390). -/
def ackOrder (l : List EnumAck) : List (Option EnumAck) :=
  (List.range (min 62 (l.foldl (fun m k => max m k.depth) 0))).map (fun d => l.find? (fun k => k.depth == d + 1))

/-- The root assigns positions to the answers and keeps them as its TOPO (R390). -/
def State.makeTopo (s : State) : State :=
  let r := s.assign (ackOrder s.hdg.acks) ([], [], [])
  let s := { r.2 with hdg.topoHeld := true, hdg.topo := r.1.1, hdg.topoAt := s.now, hdg.topoSerial := r.1.2.1, hdg.newLearned := r.1.2.2 }
  s.wr F.HDG_STAT_MEMBERS (r.1.1.filter (fun p => p < 0x3F)).length

/-- The payload of TOPO: how many depths, and the position at each; 0x3F where none (R390). -/
def topoPayload (ps : List Nat) : List Byte :=
  bytesBE 1 ps.length ++ (ps ++ List.replicate (62 - ps.length) 0x3F).flatMap (fun p => bytesBE 1 (min p 0x3F))

/-- The root assigns positions and sends TOPO (R390). -/
def State.sendTopo (s : State) : State :=
  let s := s.makeTopo
  let f := s.hdgSeal { ty := 3, dst := s.rd F.HDG_STAT_NODE / 64 * 64 + 63, payload := topoPayload s.hdg.topo }
  f.2.sendDn f.1

/-! ## Receiving -/

/-- The frame types that require AUTH (R384). -/
def needsAuth (ty : Nat) : Bool := [3, 7, 8, 9].contains ty

/-- The SEQ window of a sender accepts a number (R385). -/
def HdgWin.accepts (w : HdgWin) (q : Nat) : Bool :=
  !w.any || decide (w.hi < q) || (decide (q < w.hi) && decide (w.hi ≤ q + 32) && !bitOf w.seen (w.hi - 1 - q))

/-- The window after a number is accepted. -/
def HdgWin.put (w : HdgWin) (q : Nat) : HdgWin :=
  if !w.any then { any := true, hi := q, seen := 0 }
  else if w.hi < q then { any := true, hi := q, seen := (w.seen * 2 ^ (q - w.hi) + 2 ^ (q - w.hi - 1)) % 2 ^ 32 }
  else { w with seen := setBit w.seen (w.hi - 1 - q) }

/-- Authentication of a frame (R385): accepted with its number noted, or dropped and counted with source 725. -/
def State.hdgAuth (s : State) (f : HdgFrame) : Bool × State :=
  let w := s.hdg.rx.get {} f.src
  if s.hdgKeyOk && f.mac == s.hdgMac f && w.accepts f.seq then
    (true, { s with hdg.rx := s.hdg.rx.set f.src (w.put f.seq) })
  else (false, (s.sat F.HDG_ERR_AUTH_FAIL 1).trig 725)

/-- A frame without a valid end, CRC, type or AUTH is dropped and counted (R384). -/
def State.hdgBad (s : State) : State := s.sat F.HDG_ERR_CRC_ERR 1

/-- A valid frame on a port: it keeps or brings up the hop, and carries READY from below; at a root, the hop below coming
up starts an enumeration, at a member it answers a waiting ENUM and sends CHANGE (R383, R390, R392, R395). -/
def State.hopAlive (s : State) (up : Bool) (f : HdgFrame) : State :=
  let was := s.hopUp up
  let s := if up then { s with hdg.lastUp := s.now } else { s with hdg.lastDn := s.now }
  let s := if was then s else s.setHop up true
  let s := if up then s else s.wrb F.HDG_STAT_READY_DN (bitOf f.flags 1)
  if was then s
  else if up then (if s.rd F.HDG_STAT_STATE = 5 then s.setHdg 1 else s)
  else if s.isRoot then s.startEnum
  else
    let s := if s.hdg.ackDue.isSome then s.passEnum else s
    s.sendUp (s.plainFrame 0xA s.rootNode 0 [])

/-- The link takes frames: the role is set and the bypass is open (R387). -/
def State.hdgOn (s : State) : Bool := (s.isRoot || s.isMember) && s.hdg.bypassOpen

/-- The header's fields hold what R384 allows, and a frame whose type requires AUTH carries it. -/
def hdgFormOk (f : HdgFrame) : Bool :=
  decide (f.hops ≤ 63) && decide (f.dst < 2 ^ 11) && decide (f.src < 2 ^ 11) && decide (f.payload.length ≤ 64) && decide (f.flags < 16) &&
  (!needsAuth f.ty || bitOf f.flags 0)

/-- The end of a received frame of a type (R384, R388): `k` is what the frame does where the checks pass. -/
def State.hdgReceive (s : State) (ty : Nat) (up : Bool) (f : HdgFrame) (k : HdgFrame → State → State) : State :=
  let f : HdgFrame := { f with ty := ty }
  if !s.hdgOn then s
  else if s.isRoot && up then s.sysFault 0x0901 .contained 0xFFFF 0
  else if !hdgFormOk f then s.hdgBad
  else
    let s := s.hopAlive up f
    if needsAuth ty then (let a := s.hdgAuth f; if a.1 then k f a.2 else a.2) else k f s

/-- Relay a frame on the other hop, one hop further (R384, R386). -/
def State.relay (s : State) (up : Bool) (f : HdgFrame) : State :=
  if 63 < f.hops + 1 then s
  else if !up && s.isRoot then s
  else s.sendOn (!up) { f with hops := f.hops + 1, inAt := s.now }

/-- HDG_IDLE_FRAME (R383). -/
def hdgIdleFrame (t : Nat) (up : Bool) (f : HdgFrame) (s : State) : State := (s.at_ t).hdgReceive 0 up f (fun _ s => s)

/-- HDG_ENUM_FRAME (R390): segment in byte 0, depth in byte 1 (DESIGN CHOICE, assumption 63). A PROVISIONAL member stays so
until TOPO gives it an address (R389). -/
def hdgEnumFrame (t : Nat) (up : Bool) (f : HdgFrame) (s : State) : State :=
  (s.at_ t).hdgReceive 1 up f (fun f s =>
    if up && s.isMember then
      let d := beAt f.payload 1 1
      let s := if s.rd F.HDG_STAT_STATE = 1 then s else s.setHdg 2
      let s := { s.wr F.HDG_STAT_DEPTH d with hdg.seg := beAt f.payload 0 1 % 32, hdg.isEnd := false, hdg.ackDue := none }
      if 63 ≤ d + 1 then ({ s with hdg.isEnd := true }).enumAck true false
      else if s.hopUp false then s.passEnum
      else { s with hdg.ackDue := some (s.now + us 240) }
    else s)

/-- The answer that an ENUM_ACK carries. -/
def ackOf (f : HdgFrame) : EnumAck :=
  { serial := beAt f.payload 0 8, depth := beAt f.payload 8 1, retained := beAt f.payload 9 2, fin := bitOf f.flags 2 }

/-- HDG_ENUM_ACK_FRAME (R390). -/
def hdgEnumAckFrame (t : Nat) (up : Bool) (f : HdgFrame) (s : State) : State :=
  (s.at_ t).hdgReceive 2 up f (fun f s =>
    if up then s
    else if s.isMember then s.relay false f
    else if s.hdg.enumAt.isNone then s
    else if bitOf f.flags 3 then
      ({ s.setHdg 3 with hdg.enumAt := none, hdg.enumDone := s.now }).trig 720
    else
      let s := { s with hdg.acks := s.hdg.acks ++ [ackOf f] }
      if bitOf f.flags 2 then s.sendTopo else s)

/-- The address in use gives way to another: responses sent to it are late (R391). -/
def State.leaveNode (s : State) (n : Nat) : State :=
  if s.ownNode = 0x7FF ∨ s.ownNode = n then s else { s with hdg.oldNode := some s.ownNode }

/-- A member takes its position, and the enumeration is complete for it (R391; R402 by DEDUCED, assumption 63). -/
def State.takePos (s : State) (p : Nat) : State :=
  let s : State := { s with hdg.enumDone := s.now }
  if p = 0x3F then ((s.leaveNode 0x7FF).wr F.HDG_STAT_NODE 0x7FF).setHdg 4
  else
    let n := s.hdg.seg % 32 * 64 + p
    let s := ((s.leaveNode n).wr F.HDG_STAT_NODE n).setHdg 3
    if n = s.rd F.HDG_RETAIN_RETAINED then s
    else (((s.wr F.HDG_RETAIN_RETAINED n).wrb F.HDG_STAT_ADDR_CHG true).sysFault 0x0903 .corrected 0xFFFF n).trig 721

/-- HDG_TOPO_FRAME (R390, R391). -/
def hdgTopoFrame (t : Nat) (up : Bool) (f : HdgFrame) (s : State) : State :=
  (s.at_ t).hdgReceive 3 up f (fun f s =>
    if up && s.isMember then
      let n := min 62 (beAt f.payload 0 1)
      let ps := (List.range n).map (fun i => beAt f.payload (1 + i) 1 % 64)
      let s := { s with hdg.topoHeld := true, hdg.topo := ps, hdg.topoAt := s.now }
      let s := s.takePos (ps.getD (s.rd F.HDG_STAT_DEPTH - 1) 0x3F)
      let s := s.relay true f
      if s.hdg.isEnd then ({ s with hdg.isEnd := false }).enumAck false true else s
    else s)

/-- HDG_CHANGE_FRAME (R390). -/
def hdgChangeFrame (t : Nat) (up : Bool) (f : HdgFrame) (s : State) : State :=
  (s.at_ t).hdgReceive 10 up f (fun f s =>
    if up then s else if s.isRoot then (s.trig 723).startEnum else s.relay false f)

/-! ## Time (R393) -/

/-- HDG_SYNC_FRAME at the instant of its start delimiter: the root's instant in bytes 0–7 and the correction in 8–15. -/
def hdgSyncFrame (t : Nat) (up : Bool) (f : HdgFrame) (s : State) : State :=
  (s.at_ t).hdgReceive 4 up f (fun f s =>
    if up && s.isMember then
      let src := beAt f.payload 0 8 + beAt f.payload 8 8 + s.rd (F.HDG_HOP_DELAY 0)
      let s : State := { s.wrb F.HDG_STAT_SYNCED true with hdg.lastSync := some s.now }
      let s := if s.rd F.TBS_CFG_SOURCE = 2 then s.measureSource ((src : Int) - s.now) else s
      s.relay true f
    else s)

/-- HDG_DELAY_REQ_FRAME: the upper unit answers in its next window. -/
def hdgDelayReqFrame (t : Nat) (up : Bool) (f : HdgFrame) (s : State) : State :=
  (s.at_ t).hdgReceive 5 up f (fun _ s => if up then s else { s with hdg.rspDue := some s.now })

/-- HDG_DELAY_RSP_FRAME: receipt of the request in bytes 0–7, sending of the answer in 8–15 (DESIGN CHOICE, assumption 63). -/
def hdgDelayRspFrame (t : Nat) (up : Bool) (f : HdgFrame) (s : State) : State :=
  (s.at_ t).hdgReceive 6 up f (fun f s =>
    match s.hdg.delayReq with
    | some t1 =>
      if up then
        { s.wr (F.HDG_HOP_DELAY 0) (((s.now - t1) - (beAt f.payload 8 8 - beAt f.payload 0 8)) / 2) with hdg.delayReq := none }
      else s
    | none => s)

/-- DELAY_MEASUREMENT_PERIOD: every 64 ms a member sends DELAY_REQ on CHN_UP±. -/
def delayMeasurementPeriod (t : Nat) (s : State) : State :=
  let s := s.at_ t
  if s.hdgOn && s.isMember && s.hopUp true && decide (s.hdg.delayAt + ms 64 ≤ s.now) then
    ({ s with hdg.delayAt := s.now }).sendUp (s.plainFrame 5 s.rootNode 0 [])
  else s

/-- SYNC_LOSS_TIMEOUT: without SYNC for 3 s the member's master enters HOLDOVER. -/
def syncLossTimeout (t : Nat) (s : State) : State :=
  let s := s.at_ t
  match s.hdg.lastSync with
  | some u =>
    if u + sec 3 ≤ s.now then
      let s : State := { s.wrb F.HDG_STAT_SYNCED false with hdg.lastSync := none }
      if s.rd F.TBS_CFG_SOURCE = 2 ∧ s.rd F.TBS_STATUS_SYNC ≠ 0 then s.wr F.TBS_STATUS_SYNC syHOLDOVER else s
    else s
  | none => s

/-! ## Hop cycles (R383, R386) -/

/-- READY that this unit sends on CHN_UP± (R395). -/
def State.readyUp (s : State) : Bool :=
  let below := s.rdb F.HDG_STAT_READY_DN || !s.rdb F.HDG_STAT_DN_LINK
  below && (!s.chainSleeps || s.ownReady)

/-- What a frame carries when it leaves: SYNC with the hop's delay and the residence time, FWD_REQ with REMAIN lowered by
the residence time, READY on CHN_UP±, and the MAC of what it then is (R385, R393, R395, R397). -/
def State.onWire (s : State) (up : Bool) (f : HdgFrame) : HdgFrame :=
  let res := if f.inAt = 0 then 0 else s.now - f.inAt
  let pl :=
    if f.ty = 4 ∧ f.inAt ≠ 0 then f.payload.take 8 ++ bytesBE 8 (beAt f.payload 8 8 + s.rd (F.HDG_HOP_DELAY 0) + res)
    else if f.ty = 8 then bytesBE 8 (beAt f.payload 0 8 - res) ++ f.payload.drop 8
    else f.payload
  let f := { f with payload := pl, flags := (if up then (if s.readyUp then setBit f.flags 1 else clrBit f.flags 1) else f.flags) }
  if needsAuth f.ty then { f with mac := s.hdgMac f } else f

/-- The root's COMMIT as it is sent: t_commit is the first grid instant at least 10 ms later (R396). -/
def State.sendCommit (s : State) (f : HdgFrame) : HdgFrame × State :=
  if f.ty = 7 ∧ f.inAt = 0 then
    let u := gridAt (s.now + ms 10)
    ({ f with payload := bytesBE 8 u }, { s with hdg.commitAt := some u })
  else (f, s)

/-- The frame for a window of CHN_DN±: SYNC once a millisecond at the root, an answer to DELAY_REQ, the oldest queued
frame, or IDLE. -/
def State.windowDn (s : State) : HdgFrame × State :=
  let ms_ := s.now / ms 1
  if s.isRoot && decide (s.hdg.syncMs < ms_) then
    (s.plainFrame 4 (s.rd F.HDG_STAT_NODE / 64 * 64 + 63) 0 (bytesBE 8 s.now ++ bytesBE 8 0), { s with hdg.syncMs := ms_ })
  else match s.hdg.rspDue with
    | some t2 => (s.plainFrame 6 0 0 (bytesBE 8 t2 ++ bytesBE 8 s.now), { s with hdg.rspDue := none })
    | none =>
      match s.hdg.outDn with
      | f :: l => ({ s with hdg.outDn := l } : State).sendCommit f
      | [] => (s.plainFrame 0 0 0 [], s)

/-- The frame for a window of CHN_UP±. -/
def State.windowUp (s : State) : HdgFrame × State :=
  match s.hdg.outUp with
  | f :: l =>
    let s := { s with hdg.outUp := l }
    (f, if f.ty = 5 ∧ f.inAt = 0 then { s with hdg.delayReq := some s.now } else s)
  | [] => (s.plainFrame 0 0 0 [], s)

/-- HOP_CYCLE: this unit's window on a port (R383). An END answer falls due 240 µs after ENUM (R390). -/
def hopCycle (t : Nat) (up : Bool) (s : State) : State :=
  let s := s.at_ t
  if !s.hdgOn || (up && s.isRoot) then s
  else if up then
    let s := match s.hdg.ackDue with
      | some u => if u ≤ s.now then ({ s with hdg.ackDue := none, hdg.isEnd := true }).enumAck true false else s
      | none => s
    let w := s.windowUp
    { w.2 with hdg.sentUp := some (w.2.onWire true w.1) }
  else
    let w := s.windowDn
    { w.2 with hdg.sentDn := some (w.2.onWire false w.1) }

/-- HOP_DOWN_TIMEOUT: 240 µs without a valid frame (R383, R390, R392). -/
def hopDownTimeout (t : Nat) (up : Bool) (s : State) : State :=
  let s := s.at_ t
  if s.hopUp up && decide ((if up then s.hdg.lastUp else s.hdg.lastDn) + us 240 ≤ s.now) then
    let s := s.setHop up false
    if up then s.setHdg 5
    else if s.isMember then s.sendUp (s.plainFrame 0xA s.rootNode 0 []) else s
  else s

/-- HDG_FRAME_TRUNCATION (R386). -/
def hdgFrameTruncation (t : Nat) (_up : Bool) (s : State) : State :=
  let s := s.at_ t
  if s.hdgOn then s.sat F.HDG_ERR_RX_TRUNC 1 else s

/-- HDG_INVALID_FRAME (R384). -/
def hdgInvalidFrame (t : Nat) (_up : Bool) (s : State) : State :=
  let s := s.at_ t
  if s.hdgOn then s.hdgBad else s

/-- ENUM_RESTART_TIMEOUT (R390). -/
def enumRestartTimeout (t : Nat) (s : State) : State :=
  let s := s.at_ t
  match s.hdg.enumAt with
  | some u => if s.isRoot && decide (u + ms 100 ≤ s.now) then s.startEnum else s
  | none => s

/-- BYPASS_OPEN: the Hedgerow logic starts (R387–R390). -/
def bypassOpen (t : Nat) (s : State) : State :=
  let s := s.at_ t
  if s.hdg.bypassOpen ∨ s.dev = .off ∨ s.dev = .sleep ∨ (s.isRoot = false ∧ s.isMember = false) then s
  else
    let s := { s with hdg.bypassOpen := true }
    if s.isRoot then s.startEnum
    else
      let s := (s.setHdg 1).wr F.HDG_STAT_NODE (s.rd F.HDG_RETAIN_RETAINED)
      { s with hdg.seg := s.rd F.HDG_RETAIN_RETAINED / 64 }

/-- HDG_COMMIT_FRAME (R396). -/
def hdgCommitFrame (t : Nat) (up : Bool) (f : HdgFrame) (s : State) : State :=
  (s.at_ t).hdgReceive 7 up f (fun f s =>
    if up && s.isMember then
      let u := beAt f.payload 0 8
      let s := (s.relay true f).trig 724
      if s.chainNames && s.dev == .running && s.phase != 2 then
        (if u ≤ s.now then s.commitNow s.now else { s with hdg.commitAt := some u })
      else s
    else s)

/-! ## Commands (R401–R403) -/

def hdgStatusBody (_ : Cmd) (s : State) : Res :=
  .done stOK ([R.HDG_CFG, R.HDG_STAT, R.HDG_RETAIN, R.HDG_HOP 0, R.HDG_HOP 1, R.HDG_ERR].flatMap (fun a => wordBytes (s.word a)) ++ bytesLE 8 s.hdg.enumDone) s

/-- A depth as HDG_TOPOLOGY reports it (R402). -/
def State.topoEntry (s : State) (d : Nat) : List Byte :=
  match s.hdg.topo[d - 1]? with
  | some p =>
    let k := s.hdg.topoSerial[d - 1]?
    let fixed := match k with | some n => s.hdg.map.any (fun e => e.serial == n && e.fixed) | none => false
    let new := match k with | some n => s.hdg.newLearned.contains n | none => false
    bytesLE 1 p ++ bytesLE 1 (b2n fixed + 2 * b2n new) ++ bytesLE 2 0
  | none => bytesLE 1 0xFF ++ bytesLE 3 0

def hdgTopologyBody (c : Cmd) (s : State) : Res :=
  let f := c.arg 0 1
  let n := c.arg 1 1
  need (between 1 62 f && between 1 10 n && c.zero 2 2) stBAD_ARGUMENT <|
  .done stOK (bytesLE 8 s.hdg.topoAt ++ (List.range n).flatMap (fun i => s.topoEntry (f + i))) s

def hdgEnumBody (c : Cmd) (s : State) : Res :=
  need c.isSecure stNOT_OWNER <|
  need (s.isRoot && s.hdgOn) stMODE_FORBIDS <|
  .done stOK (bytesLE 8 s.now) s.startEnum

def hdgMapForgetBody (c : Cmd) (s : State) : Res :=
  let k := c.arg 0 8
  need (!s.isRoot || s.hdg.map.any (fun e => e.serial == k && !e.fixed)) stBAD_ARGUMENT <|
  need c.isSecure stNOT_OWNER <|
  need s.isRoot stMODE_FORBIDS <|
  .done stOK [] { s with hdg.map := s.hdg.map.filter (fun e => e.serial != k) }

def dHdgStatus : CmdDef := { op := 0x0901, lens := lenIs 0, coppice := true, body := hdgStatusBody }
def dHdgTopology : CmdDef := { op := 0x0902, lens := lenIs 4, coppice := true, body := hdgTopologyBody }
def dHdgEnum : CmdDef := { op := 0x0903, lens := lenIs 0, body := hdgEnumBody }
def dHdgMapForget : CmdDef := { op := 0x0904, lens := lenIs 8, body := hdgMapForgetBody }

end Sys2Proof.Machine
end

