-- ==== Sys2Proof/Machine/Devices.lean ====
section
/-!
DEFINITION. Machine/Devices.lean: the device commands (group 0x01, R76–R81), the table of opcodes (R75), commands that wait
and time out (R62, R72), and the forwarding frames of the Hedgerow chain (R397, R398).
-/
namespace Sys2Proof.Machine

/-! ## Device commands -/

def devIdentityBody (_ : Cmd) (s : State) : Res :=
  .done stOK (partNumber ++ bytesLE 1 0x42 ++ bytesLE 1 0 ++ bytesLE 2 (if s.ownNode = 0x7FF then 0xFFFF else s.ownNode) ++ bytesLE 8 Config.serial ++
    bytesLE 1 s.lifecycle ++ bytesLE 3 0) s

/-- The firmware is release 3.2 (R1, R78, DESIGN CHOICE, assumption 99); the other versions are not stated. -/
def devVersionBody (_ : Cmd) (s : State) : Res :=
  .done stOK (bytesLE 1 3 ++ bytesLE 1 2 ++ bytesLE 2 (Config.version 2) ++ bytesLE 4 (Config.version 4) ++ bytesLE 4 (Config.version 8) ++
    bytesLE 4 (Config.version 12) ++ bytesLE 2 (Config.version 16) ++ bytesLE 2 0 ++ wordBytes (s.word R.CFG_GEN_RUN)) s

/-- FLAGS of DEV_STATE (R79). -/
def State.devFlags (s : State) : Nat :=
  b2n (s.rdb F.BOOT_STAT_CONFIRMED) + 2 * b2n ((List.range 4).any (fun n => s.lst n == lsDEGRADED)) +
  4 * b2n ((List.range 4).any (fun n => s.rdb (F.FLT_LS_STAT_LOCKSTEP_BROKEN n)))

def devStateBody (_ : Cmd) (s : State) : Res :=
  .done stOK (bytesLE 1 s.dev.code ++ bytesLE 1 s.lifecycle ++ bytesLE 1 (s.rd F.CFG_STAT_OVERLAY) ++
    bytesLE 1 (if s.dev = .coppice then s.rd F.BOOT_STAT_COPPICE_REASON else 0) ++ bytesLE 2 (s.rd F.FLT_STAT_RECOVERY) ++
    bytesLE 1 (s.rd F.BOOT_STAT_ATTEMPTS) ++ bytesLE 1 s.devFlags ++ bytesLE 8 s.tStart ++ bytesLE 8 s.devSince) s

def devTimeBody (_ : Cmd) (s : State) : Res :=
  .done stOK (bytesLE 8 s.now ++ wordBytes (s.word R.TBS_OFFSET) ++ wordBytes (s.word R.TBS_RATE) ++ bytesLE 1 (s.rd F.TBS_STATUS_SYNC) ++
    bytesLE 1 (s.rd F.TBS_STATUS_ALIGN_ALL + 2 * s.rd F.TBS_STATUS_BACKSTEP + 4 * s.rd F.TBS_STATUS_SLEWING) ++ bytesLE 2 (s.rd F.TBS_STATUS_STEP_CNT)) s

def devEchoBody (c : Cmd) (s : State) : Res := .done stOK (c.argBytes 0 c.req.len) s

/-- The counts of a window. A forwarded request is judged by the requester code it carries: a remote secure world may name any
window, a remote partition n window n (DESIGN CHOICE, assumption 143). -/
def devMbxStatsBody (c : Cmd) (s : State) : Res :=
  let w := c.arg 0 1
  let m := s.mbx.stat.get {} w
  need (decide (w ≤ 16) && c.zero 1 3) stBAD_ARGUMENT <|
  need (c.who == 16 || c.who == w) stNOT_OWNER <|
  .done stOK (bytesLE 4 m.served ++ bytesLE 4 m.refused ++ bytesLE 2 m.timeouts ++ bytesLE 2 (s.rd (F.MBX_LATE_CNT_LATE w)) ++ bytesLE 1 m.peak ++ bytesLE 3 0) s

def dDevIdentity : CmdDef := { op := 0x0101, lens := lenIs 0, coppice := true, body := devIdentityBody }
def dDevVersion : CmdDef := { op := 0x0102, lens := lenIs 0, coppice := true, body := devVersionBody }
def dDevState : CmdDef := { op := 0x0103, lens := lenIs 0, coppice := true, body := devStateBody }
def dDevTime : CmdDef := { op := 0x0104, lens := lenIs 0, coppice := true, body := devTimeBody }
def dDevEcho : CmdDef := { op := 0x0105, lens := fun n => decide (n ≤ 48), coppice := true, body := devEchoBody }
def dDevMbxStats : CmdDef := { op := 0x0106, lens := lenIs 4, coppice := true, body := devMbxStatsBody }

/-! ## Opcodes (R75) -/

def cmdsFabric : List CmdDef :=
  [dDevIdentity, dDevVersion, dDevState, dDevTime, dDevEcho, dDevMbxStats, dCellSet, dCellConfig, dCellStatus, dCellClear, dCellReadConfig,
   dGangSet, dGangConfig, dGangStatus, dGangClear, dBridgeSet, dBridgeConfig, dBridgeStatus, dBridgeClear, dProbeRun, dProbeResult, dGangReadConfig,
   dBudgetStatus, dBudgetObject, dBudgetObjStatus, dEnergyRead, dEnergyLogRead]
def cmdsEngine : List CmdDef :=
  [dCycStatus, dCycTaskStatus, dCycLoad, dCycSwap, dCycStart, dCycStop, dCycHold, dCycTaskRestart, dCycChange, dCycForce, dCycVarRead, dCycEvent]
def cmdsSwitch : List CmdDef :=
  [dSwcPortStatus, dSwcPortConfig, dSwcQueueConfig, dSwcQueueStatus, dSwcCounters, dSwcFdbSet, dSwcFdbRead, dSwcVlanConfig, dSwcPolicer, dSwcMacsecSa,
   dSwcAudit, dTsnGclSet, dTsnGclStatus, dTsnShaperConfig, dTsnPreemptConfig, dTsnStreamSet, dTsnStreamStatus, dTsnFrerSet, dTsnGptpStatus,
   dFaSenderSet, dFaStatus]
def cmdsNet : List CmdDef :=
  [dCanConfig, dCanStatus, dCanRecover, dLinConfig, dLinTableLoad, dLinSchedule, dLinStatus, dGwyStatus, dGwyRouteStatus, dGwyRouteEnable, dGwyPduRead,
   dGwyBridgeLog, dSlpVote, dSlpStatus, dSlpWakeInfo, dSlpChannel, dSlpAlarm, dSlpSwkConfig, dHdgStatus, dHdgTopology, dHdgEnum, dHdgMapForget]
def cmdsPart : List CmdDef :=
  [dPartStatus, dPartReady, dPartReset, dPartRelease, dPartStoreInfo, dPartStoreRead, dPartStoreWrite, dPairStatus, dWorldStatus, dBootStatus,
   dDeviceReset, dCoppiceExit, dKeyStatus, dKeyDerive, dKeyImport, dKeyCommit, dKeyDiscard, dKeyRevoke, dKeyOp, dKeyAttest, dKeyRandom, dTamperStatus,
   dTamperClear, dLcSet]
def cmdsSystem : List CmdDef :=
  [dFaultStatus, dFaultLogRead, dFaultCapture, dFaultRecoveryClear, dFaultInject, dConfigStatus, dOverlaySwitch, dConfigCommit, dServiceOpen,
   dServiceClose, dUpdStatus, dUpdBegin, dUpdChunk, dUpdVerify, dUpdActivate, dUpdConfirm, dUpdAbort, dMaintRequest, dMaintStatus, dMaintCancel]

/-- Every command that a chapter defines. -/
def allCmds : List CmdDef := cmdsFabric ++ cmdsEngine ++ cmdsSwitch ++ cmdsNet ++ cmdsPart ++ cmdsSystem

/-- The definition of an opcode, if a chapter defines it. -/
def cmdOfOp (op : Nat) : Option CmdDef := allCmds.find? (fun d => d.op == op)

/-- REQUEST_UNDEFINED_OPCODE: taken and answered BAD_OPCODE at step 1 of R66 (R75). -/
def requestUndefinedOpcode (r : Req) (op : Nat) (s : State) : State :=
  let s := s.at_ r.t
  if s.canTake r.win && s.slotHolds op r && (cmdOfOp op).isNone then (s.take r.win).respond r.win op r.tag stBAD_OPCODE s.now [] else s

/-! ## Waiting (R57, R62, R71) -/

/-- The command in flight of an origin, window and tag. -/
def State.inFlight (s : State) (node w tag : Nat) : Option Cmd := s.mbx.cmds.find? (fun c => c.node == node && c.win == w && c.tag == tag)

/-- The Privet controller serves commands now. -/
def State.serving (s : State) : Bool := (s.dev == .starting || s.dev == .running || s.dev == .coppice || s.dev == .fault) && !s.slp.prepped

/-- COMMAND_WAIT_RESUME: a command that waits for its order, an object, or room goes on with its steps (R57, R62). -/
def commandWaitResume (t node w tag : Nat) (s : State) : State :=
  let s := s.at_ t
  match s.inFlight node w tag with
  | none => s
  | some c =>
    if !s.serving || s.expired c || !(c.phase == .waitOrder || c.phase == .waitObject || c.phase == .waitQueue) then s
    else if node = 0xFFFF ∧ s.isLocal c.req.target = false then (if s.orderHolds c then s else s.forward c)
    else match cmdOfOp c.op with
      | some d => s.runBody d c
      | none => s

/-- COMMAND_WAIT_TIMEOUT: a waiting command is removed without effect and answered TIMEOUT; a waiting forwarded one is
removed (R62, R71). The limit holds for a command that waits for its ORDERED turn as well (DEDUCED, assumption 144). -/
def commandWaitTimeout (t node w tag : Nat) (s : State) : State :=
  let s := s.at_ t
  match s.inFlight node w tag with
  | none => s
  | some c =>
    if !s.expired c || c.phase == .running || c.phase == .forwarded then s
    else
      let s := if c.phase == .maint then s.dropReq c else s
      s.expire c

/-- FORWARD_DEADLINE_EXPIRY (R72). -/
def forwardDeadlineExpiry (t w tag : Nat) (s : State) : State :=
  let s := s.at_ t
  match s.inFlight 0xFFFF w tag with
  | some c => if c.phase == .forwarded && s.expired c then s.answer c stTIMEOUT [] else s
  | none => s

/-- A late forwarded response is discarded and counted (R72). -/
def State.lateRsp (s : State) (w : Nat) : State :=
  if w ≤ 16 then (s.wrb (F.MBX_ERR_LATE_RSP w) true).sat (F.MBX_LATE_CNT_LATE w) 1 else s

/-- A forwarded response reaches its originator (R59, R72). -/
def State.forwardedResponse (s : State) (w tag status done : Nat) (payload : List Byte) : State :=
  match s.inFlight 0xFFFF w tag with
  | some c =>
    if c.phase != .forwarded then s.lateRsp w
    else if s.expired c && c.limit != some s.now then (s.answer c stTIMEOUT []).lateRsp w
    else s.answerAt c status done payload
  | none => s.lateRsp w

/-- FORWARDED_RESPONSE_ARRIVAL. -/
def forwardedResponseArrival (t w tag status done : Nat) (payload : List Byte) (s : State) : State :=
  (s.at_ t).forwardedResponse w tag status done (payload.take 48)

/-! ## Forwarding frames (R397, R398) -/

/-- The command that a FWD_REQ carries (R71, R397). -/
def State.cmdOfFwd (s : State) (f : HdgFrame) : Cmd :=
  let p := f.payload
  let len := beAt p 14 1
  let fl := beAt p 15 1
  { node := f.src, who := whoOfTarget (beAt p 8 1), op := beAt p 10 2, taken := s.now, limit := some (s.now + beAt p 0 8), phase := .running,
    req := { t := s.now, win := beAt p 9 1, tag := beAt p 12 2, len := len, target := 0xFFFF, flags := 2 * b2n (bitOf fl 0) + 4 * b2n (bitOf fl 1), rsvd := 0,
             payload := slice p 16 48 } }

/-- A FWD_REQ for this unit: REMAIN 0 removes the command without effect (R71, R397). -/
def State.executeFwd (s : State) (f : HdgFrame) : State :=
  if beAt f.payload 0 8 = 0 ∨ s.serving = false then s
  else
    let c := s.cmdOfFwd f
    match cmdOfOp c.op with
    | some d => s.serveRemote d c
    | none => s.answer c stBAD_OPCODE []

/-- A FWD_RSP for this unit. -/
def State.takeRsp (s : State) (f : HdgFrame) : State :=
  let p := f.payload
  s.forwardedResponse (beAt p 7 1) (beAt p 2 2) (beAt p 4 2) (beAt p 8 8) (slice p 16 (min 48 (beAt p 6 1)))

/-- This unit is the frame's destination. -/
def State.isMine (s : State) (f : HdgFrame) : Bool := s.ownNode != 0x7FF && f.dst == s.ownNode

/-- The frame is for every unit of this unit's segment (R392). -/
def State.isForAll (s : State) (f : HdgFrame) : Bool := f.dst == s.hdg.seg % 32 * 64 + 63

/-- The frame was sent to this unit's old address, which no unit of the segment holds now (R391). -/
def State.isForOld (s : State) (f : HdgFrame) : Bool :=
  s.hdg.oldNode == some f.dst && f.dst / 64 == s.hdg.seg % 32 && (s.depthOf (f.dst % 64)).isNone

/-- A FWD_REQ for every unit: this unit takes it too where its command may be broadcast, which no command may (R73, R392; DEDUCED,
assumption 63). -/
def State.executeForAll (s : State) (f : HdgFrame) : State :=
  match cmdOfOp (beAt f.payload 10 2) with
  | some d => if d.bcast then s.executeFwd f else s
  | none => s

/-- A frame for another unit goes on: at a root towards another segment over Ethernet, else on the other hop (R392, R398). -/
def State.passOn (s : State) (up : Bool) (f : HdgFrame) : State :=
  if s.isRoot && f.dst / 64 != s.ownNode / 64 then
    (if f.hops + 1 ≤ 63 then { s with hdg.outEth := s.hdg.outEth ++ [(f.dst / 64, { f with hops := f.hops + 1, inAt := s.now })] } else s)
  else s.relay up f

/-- A FWD_REQ whose REMAIN exceeds 2.55 s is dropped as AUTH_FAIL (R397). -/
def State.fwdTooLong (s : State) : State := (s.sat F.HDG_ERR_AUTH_FAIL 1).trig 725

/-- HDG_FWD_REQ_FRAME. -/
def hdgFwdReqFrame (t : Nat) (up : Bool) (f : HdgFrame) (s : State) : State :=
  (s.at_ t).hdgReceive 8 up f (fun f s =>
    if ms 2550 < beAt f.payload 0 8 then s.fwdTooLong
    else if s.isMine f then s.executeFwd f
    else if s.isForAll f then (s.executeForAll f).passOn up f
    else s.passOn up f)

/-- HDG_FWD_RSP_FRAME. -/
def hdgFwdRspFrame (t : Nat) (up : Bool) (f : HdgFrame) (s : State) : State :=
  (s.at_ t).hdgReceive 9 up f (fun f s =>
    if s.isMine f then s.takeRsp f
    else if s.isForOld f then s.lateRsp (beAt f.payload 7 1)
    else if s.isForAll f then (s.takeRsp f).passOn up f
    else s.passOn up f)

/-- The Hedgerow frame in an Ethernet frame (R384, R398). -/
def hdgOfEth (b : List Byte) : HdgFrame :=
  let p := b.drop (typeOff b + 2)
  let n := beAt p 6 1
  { ty := beAt p 0 1 / 16, hops := beAt p 1 1, dst := beAt p 2 2, src := beAt p 4 2, flags := beAt p 7 1, seq := beAt p 8 4, payload := slice p 12 n,
    mac := slice p (12 + n) 8 }

/-- ROOT_ETHERNET_FRAME: the oldest inter-segment frame that has left I3: accepted by a root when it is addressed to its own
MAC address and passes R385, then executed or sent down (R398). -/
def rootEthernetFrame (t : Nat) (s : State) : State :=
  let s := s.at_ t
  match s.hdg.inEth with
  | [] => s
  | b :: l =>
    let s : State := { s with hdg.inEth := l }
    let f := hdgOfEth b
    if !s.isRoot || dstMac b != Config.unitMac then s
    else if !(f.ty == 8 || f.ty == 9) || !hdgFormOk f then s.hdgBad
    else
      let a := s.hdgAuth f
      let s := a.2
      if !a.1 then s
      else if f.ty = 8 ∧ ms 2550 < beAt f.payload 0 8 then s.fwdTooLong
      else if s.isMine f then (if f.ty = 8 then s.executeFwd f else s.takeRsp f)
      else if s.isForOld f ∧ f.ty = 9 then s.lateRsp (beAt f.payload 7 1)
      else if f.dst / 64 = s.ownNode / 64 ∧ f.hops + 1 ≤ 63 then (if s.isForAll f ∧ f.ty = 8 then s.executeForAll f else s).sendDn { f with hops := f.hops + 1, inAt := s.now }
      else s

/-- The Ethernet frame that carries a Hedgerow frame to the root of a segment: class 6 (R398). -/
def State.ethOfHdg (s : State) (r : SegRoot) (f : HdgFrame) : List Byte :=
  let f : HdgFrame := { f with mac := s.hdgMac f }
  bytesBE 6 r.mac ++ bytesBE 6 Config.unitMac ++ bytesBE 2 0x8100 ++ bytesBE 2 (6 * 0x2000 + r.vid % 4096) ++ bytesBE 2 (s.rd ⟨R.HDG_ETYPE, 0, 16⟩) ++
  hdgBytes f ++ f.mac

/-- The frames that a root sends over Ethernet leave from I3 (R398). -/
def State.flushEth (s : State) : State :=
  if s.hdg.outEth.isEmpty then s
  else
    let l := s.hdg.outEth
    let s : State := { s with hdg.outEth := [] }
    foldS l (fun p s =>
      let r := s.hdg.roots.get {} p.1
      if r.valid then (s.swAt s.now).sendFrom 26 (s.ethOfHdg r p.2) 6 else s) s

end Sys2Proof.Machine
end

