-- ==== Sys2Proof/Machine/React.lean ====
section
/-!
DEFINITION. Machine/React.lean: what follows a command at once: the reactions that its faults call for (R493, R496–R500,
R537–R539), the confirmation of a start (R531), the check of the registers left to configuration (R509), the frames of the
chain that leave over Ethernet (R398), and the sleep phase (R362).
-/
namespace Sys2Proof.Machine

/-- Carry out one reaction. -/
def State.carry (s : State) : React → State
  | .partReset v => s.resetPart v 4 false
  | .escalate => s.enterFault false
  | .coppice r => s.enterCoppice r
  | .fatal => s.enterFault true
  | .wake => s.wakeUp
  | .reset ty => s.startReset ty

/-- Carry out the reactions that wait, in the order in which they arose, at most `n` of them (DESIGN CHOICE, assumption 106). -/
def State.drain : Nat → State → State
  | 0, s => { s with flt.react := [] }
  | n + 1, s =>
    match s.flt.react with
    | [] => s
    | x :: l => State.drain n (State.carry { s with flt.react := l } x)

/-- The end of a command: a restart of the Privet controller whose end has come is complete first. -/
def State.settle (s : State) : State :=
  (((((((s.privetBack.drain 64).confirm).lockCheck).flushEth).drain 64).sleepPhase).releaseActs).drain 64

/-- The outcome of a command that acts while the module is powered; in SLEEP and without supply only time passes
(R363, R366). -/
def powered (t : Nat) (f : State → State) (s : State) : Host.Outcome State Fault Refusal :=
  .next (if s.asleep then s.at_ t else (f s).settle)

/-- The outcome of an event that also reaches a sleeping module. -/
def always (f : State → State) (s : State) : Host.Outcome State Fault Refusal := .next (f s).settle

/-- The outcome of a mailbox request: it is taken and served (R51, R56, R66). -/
def mailbox (d : CmdDef) (r : Req) (s : State) : Host.Outcome State Fault Refusal := powered r.t (fun s => s.serve d r) s

/-- The outcome of a request of the update commands: in ROM recovery the boot ROM serves it (R561). -/
def romMailbox (d : CmdDef) (len : Nat) (body : Cmd → State → Res) (r : Req) (s : State) : Host.Outcome State Fault Refusal :=
  powered r.t (fun s => if s.boot.stage = .rom then s.romServe d.op len r.tag body r else s.serve d r) s

/-- A store to a register of an existing object, by the operation that its address and bits select. -/
def storeRow (ok : Bool) (t : Nat) (a : Acc) (addr : Nat) (f : State → State) (s : State) : Host.Outcome State Fault Refusal :=
  powered t (fun s => if ok then (s.at_ t).busReg a addr f else s.at_ t) s

/-- A load from a register of an existing object. -/
def loadRow (ok : Bool) (t : Nat) (a : Acc) (addr : Nat) (s : State) : Host.Outcome State Fault Refusal :=
  powered t (fun s => if ok then (s.at_ t).busLoad a addr 4 else s.at_ t) s

end Sys2Proof.Machine
end

