-- ==== Sys2Proof/Machine/ExecBus.lean ====
section
/-!
DEFINITION. Machine/ExecBus.lean: the meanings of the rows of the bus, the time base, interrupts, the mailboxes and the device commands: each names its row and its rule and
makes one outcome of the operations that the rule describes.
-/
namespace Sys2Proof.Machine

/-- REGISTER_WRITE (R12). -/
def execRegisterWrite (t : Nat) (a : Acc) (addr v : Nat) (s : State) : Host.Outcome State Fault Refusal :=
  powered t (registerWrite t a addr v) s

/-- LOW_WORD_READ (R11). -/
def execLowWordRead (t : Nat) (a : Acc) (addr : Nat) (s : State) : Host.Outcome State Fault Refusal :=
  powered t (lowWordRead t a addr) s

/-- MEMORY_ACCESS (R447). -/
def execMemoryAccess (t : Nat) (a : Acc) (k : AccKind) (addr : Nat) (len : Nat) (data : List Byte) (s : State) : Host.Outcome State Fault Refusal :=
  powered t (memoryAccess t a k addr len data) s

/-- BRIDGE_READ (R355). -/
def execBridgeRead (t : Nat) (a : Acc) (br : Nat) (away : Bool) (addr size : Nat) (s : State) : Host.Outcome State Fault Refusal :=
  powered t (bridgeRead t a br away addr size) s

/-- READAHEAD_FILL (R355). -/
def execReadaheadFill (t j : Nat) (s : State) : Host.Outcome State Fault Refusal :=
  powered t (readaheadFill t j) s

/-- READAHEAD_EXPIRY (R355). -/
def execReadaheadExpiry (t j : Nat) (s : State) : Host.Outcome State Fault Refusal :=
  powered t (readaheadExpiry t j) s

/-- POSTED_WRITE_FAILURE (R357). -/
def execPostedWriteFailure (t : Nat) (a : Acc) (ty addr : Nat) (s : State) : Host.Outcome State Fault Refusal :=
  powered t (postedWriteFailure t a ty addr) s

/-- ALIGNMENT_WORD (R40). -/
def execAlignmentWord (t : Nat) (bad : List Nat) (s : State) : Host.Outcome State Fault Refusal :=
  powered t (alignmentWord t bad) s

/-- LATE_ACTION_WINDOW_EXPIRY (R42). -/
def execLateActionWindowExpiry (t : Nat) (s : State) : Host.Outcome State Fault Refusal :=
  powered t (lateActionWindowExpiry t) s

/-- SOURCE_MEASUREMENT (R43). -/
def execSourceMeasurement (t : Nat) (off : Int) (s : State) : Host.Outcome State Fault Refusal :=
  powered t (sourceMeasurement t off) s

/-- SOURCE_LOSS (R46). -/
def execSourceLoss (t : Nat) (s : State) : Host.Outcome State Fault Refusal :=
  powered t (sourceLoss t) s

/-- COMPARATOR_FIRE (R47). -/
def execComparatorFire (t n : Nat) (s : State) : Host.Outcome State Fault Refusal :=
  powered t (comparatorFire t n) s

/-- TBS_CMP_ARM (R47). -/
def execTbsCmpArm (t : Nat) (a : Acc) (n : Nat) (s : State) : Host.Outcome State Fault Refusal :=
  powered t (tbsCmpArm t a n) s

/-- TBS_CMP_DISARM (R47). -/
def execTbsCmpDisarm (t : Nat) (a : Acc) (n : Nat) (s : State) : Host.Outcome State Fault Refusal :=
  powered t (tbsCmpDisarm t a n) s

/-- IRQ_SOURCE_TRIGGER (R38). -/
def execIrqSourceTrigger (t src : Nat) (on : Bool) (s : State) : Host.Outcome State Fault Refusal :=
  powered t (irqSourceTrigger t src on) s

/-- IRQ_CLAIM_POP (R37). -/
def execIrqClaimPop (t : Nat) (a : Acc) (s : State) : Host.Outcome State Fault Refusal :=
  powered t (irqClaimPop t a) s

/-- IRQ_EOI (R38). -/
def execIrqEoi (t : Nat) (a : Acc) (v : Nat) (s : State) : Host.Outcome State Fault Refusal :=
  powered t (irqEoi t a v) s

/-- IRQ_DOORBELL (R37). -/
def execIrqDoorbell (t : Nat) (a : Acc) (v : Nat) (s : State) : Host.Outcome State Fault Refusal :=
  powered t (irqDoorbell t a v) s

/-- MBX_ENABLE (R55). -/
def execMbxEnable (t : Nat) (a : Acc) (w v : Nat) (s : State) : Host.Outcome State Fault Refusal :=
  powered t (mbxEnable t a w v) s

/-- MBX_DISABLE (R55). -/
def execMbxDisable (t : Nat) (a : Acc) (w v : Nat) (s : State) : Host.Outcome State Fault Refusal :=
  powered t (mbxDisable t a w v) s

/-- MBX_REQ_PROD_WRITE (R51). -/
def execMbxReqProdWrite (t : Nat) (a : Acc) (w v : Nat) (s : State) : Host.Outcome State Fault Refusal :=
  powered t (mbxReqProdWrite t a w v) s

/-- MBX_RSP_CONS_WRITE (R51). -/
def execMbxRspConsWrite (t : Nat) (a : Acc) (w v : Nat) (s : State) : Host.Outcome State Fault Refusal :=
  powered t (mbxRspConsWrite t a w v) s

/-- MBX_ERR_CLEAR (R12). -/
def execMbxErrClear (t : Nat) (a : Acc) (w v : Nat) (s : State) : Host.Outcome State Fault Refusal :=
  powered t (mbxErrClear t a w v) s

/-- COMMAND_WAIT_RESUME (R62). -/
def execCommandWaitResume (t node w tag : Nat) (s : State) : Host.Outcome State Fault Refusal :=
  powered t (commandWaitResume t node w tag) s

/-- COMMAND_WAIT_TIMEOUT (R62). -/
def execCommandWaitTimeout (t node w tag : Nat) (s : State) : Host.Outcome State Fault Refusal :=
  powered t (commandWaitTimeout t node w tag) s

/-- FORWARD_DEADLINE_EXPIRY (R72). -/
def execForwardDeadlineExpiry (t w tag : Nat) (s : State) : Host.Outcome State Fault Refusal :=
  powered t (forwardDeadlineExpiry t w tag) s

/-- FORWARDED_RESPONSE_ARRIVAL (R72). -/
def execForwardedResponseArrival (t w tag status done : Nat) (payload : List Byte) (s : State) : Host.Outcome State Fault Refusal :=
  powered t (forwardedResponseArrival t w tag status done payload) s

/-- DEV_IDENTITY (R77). -/
def execDevIdentity (r : Req) (s : State) : Host.Outcome State Fault Refusal :=
  mailbox dDevIdentity r s

/-- DEV_VERSION (R78). -/
def execDevVersion (r : Req) (s : State) : Host.Outcome State Fault Refusal :=
  mailbox dDevVersion r s

/-- DEV_STATE (R79). -/
def execDevState (r : Req) (s : State) : Host.Outcome State Fault Refusal :=
  mailbox dDevState r s

/-- DEV_TIME (R80). -/
def execDevTime (r : Req) (s : State) : Host.Outcome State Fault Refusal :=
  mailbox dDevTime r s

/-- DEV_ECHO (R81). -/
def execDevEcho (r : Req) (s : State) : Host.Outcome State Fault Refusal :=
  mailbox dDevEcho r s

/-- DEV_MBX_STATS (R81). -/
def execDevMbxStats (r : Req) (s : State) : Host.Outcome State Fault Refusal :=
  mailbox dDevMbxStats r s

/-- REQUEST_UNDEFINED_OPCODE (R75). -/
def execRequestUndefinedOpcode (r : Req) (op : Nat) (s : State) : Host.Outcome State Fault Refusal :=
  powered r.t (requestUndefinedOpcode r op) s

end Sys2Proof.Machine
end

