-- ==== Sys2Proof/Machine/ExecBusNet.lean ====
section
/-!
DEFINITION. Machine/ExecBusNet.lean: the meanings of the rows of CAN, LIN and the gateway: each names its row and its rule and
makes one outcome of the operations that the rule describes.
-/
namespace Sys2Proof.Machine

/-- CAN_FRAME_VALID (R316). -/
def execCanFrameValid (t c : Nat) (fr : CanFrame) (s : State) : Host.Outcome State Fault Refusal :=
  always (canFrameValid t c fr) s

/-- CAN_TX_OPPORTUNITY (R319). -/
def execCanTxOpportunity (t c : Nat) (idle : Bool) (s : State) : Host.Outcome State Fault Refusal :=
  powered t (canTxOpportunity t c idle) s

/-- CAN_TX_FRAME_COMPLETE (R318). -/
def execCanTxFrameComplete (t c sof : Nat) (s : State) : Host.Outcome State Fault Refusal :=
  powered t (canTxFrameComplete t c sof) s

/-- CAN_TX_LOST_OR_ERROR (R318). -/
def execCanTxLostOrError (t c : Nat) (lost : Bool) (s : State) : Host.Outcome State Fault Refusal :=
  powered t (canTxLostOrError t c lost) s

/-- CAN_BUS_ERROR (R322). -/
def execCanBusError (t c dTec dRec lec : Nat) (dataPhase : Bool) (s : State) : Host.Outcome State Fault Refusal :=
  always (canBusError t c dTec dRec lec dataPhase) s

/-- CAN_RECOVER_DELAY_EXPIRY (R323). -/
def execCanRecoverDelayExpiry (t c : Nat) (s : State) : Host.Outcome State Fault Refusal :=
  powered t (canRecoverDelayExpiry t c) s

/-- CAN_RECOVERY_COMPLETE (R323). -/
def execCanRecoveryComplete (t c : Nat) (s : State) : Host.Outcome State Fault Refusal :=
  powered t (canRecoveryComplete t c) s

/-- DOM_TIMEOUT (R306). -/
def execDomTimeout (t c : Nat) (s : State) : Host.Outcome State Fault Refusal :=
  powered t (domTimeout t c) s

/-- CAN_OBJ_EN_WRITE (R312). -/
def execCanObjEnWrite (t : Nat) (a : Acc) (c k v : Nat) (s : State) : Host.Outcome State Fault Refusal :=
  storeRow (decide (c < 16 ∧ k < 512)) t a (R.CAN_OBJ_ID c k) (canObjEnWrite t a c k v) s

/-- CAN_EVQ_OFF (R313). -/
def execCanEvqOff (t : Nat) (a : Acc) (c k : Nat) (s : State) : Host.Outcome State Fault Refusal :=
  storeRow (decide (c < 16 ∧ k < 512)) t a (R.CAN_OBJ_CTL c k) (canEvqOff t a c k) s

/-- CAN_EVQ_ON (R313). -/
def execCanEvqOn (t : Nat) (a : Acc) (c k : Nat) (s : State) : Host.Outcome State Fault Refusal :=
  storeRow (decide (c < 16 ∧ k < 512)) t a (R.CAN_OBJ_CTL c k) (canEvqOn t a c k) s

/-- CAN_LOST_CLR (R316). -/
def execCanLostClr (t : Nat) (a : Acc) (c k : Nat) (s : State) : Host.Outcome State Fault Refusal :=
  storeRow (decide (c < 16 ∧ k < 512)) t a (R.CAN_OBJ_CTL c k) (canLostClr t a c k) s

/-- CAN_HOLD_REL (R316). -/
def execCanHoldRel (t : Nat) (a : Acc) (c k : Nat) (s : State) : Host.Outcome State Fault Refusal :=
  storeRow (decide (c < 16 ∧ k < 512)) t a (R.CAN_OBJ_CTL c k) (canHoldRel t a c k) s

/-- CAN_HOLD_SET (R316). -/
def execCanHoldSet (t : Nat) (a : Acc) (c k : Nat) (s : State) : Host.Outcome State Fault Refusal :=
  storeRow (decide (c < 16 ∧ k < 512)) t a (R.CAN_OBJ_CTL c k) (canHoldSet t a c k) s

/-- CAN_ABORT (R318). -/
def execCanAbort (t : Nat) (a : Acc) (c k : Nat) (s : State) : Host.Outcome State Fault Refusal :=
  storeRow (decide (c < 16 ∧ k < 512)) t a (R.CAN_OBJ_CTL c k) (canAbort t a c k) s

/-- CAN_TXREQ (R318). -/
def execCanTxreq (t : Nat) (a : Acc) (c k slot : Nat) (s : State) : Host.Outcome State Fault Refusal :=
  storeRow (decide (c < 16 ∧ k < 512)) t a (R.CAN_OBJ_CTL c k) (canTxreq t a c k slot) s

/-- CAN_RXEVT_POP (R321). -/
def execCanRxevtPop (t : Nat) (a : Acc) (c : Nat) (s : State) : Host.Outcome State Fault Refusal :=
  loadRow (decide (c < 16)) t a (R.CAN_RXEVT_POP c) s

/-- CAN_TXEVT_POP (R321). -/
def execCanTxevtPop (t : Nat) (a : Acc) (c : Nat) (s : State) : Host.Outcome State Fault Refusal :=
  loadRow (decide (c < 16)) t a (R.CAN_TXEVT_POP c) s

/-- LIN_SLOT_START (R326). -/
def execLinSlotStart (t c : Nat) (s : State) : Host.Outcome State Fault Refusal :=
  powered t (linSlotStart t c) s

/-- LIN_RESPONSE_END (R329). -/
def execLinResponseEnd (t c err : Nat) (data : List Byte) (s : State) : Host.Outcome State Fault Refusal :=
  powered t (linResponseEnd t c err data) s

/-- LIN_FRAME_MAX_EXPIRY (R329). -/
def execLinFrameMaxExpiry (t c : Nat) (got : Bool) (s : State) : Host.Outcome State Fault Refusal :=
  powered t (linFrameMaxExpiry t c got) s

/-- LIN_HOLD_SET (R327). -/
def execLinHoldSet (t : Nat) (a : Acc) (c j : Nat) (s : State) : Host.Outcome State Fault Refusal :=
  storeRow (decide (c < 8 ∧ j < 64)) t a (R.LIN_BUF_CFG c j) (linHoldSetWrite t a c j) s

/-- LIN_HOLD_REL (R327). -/
def execLinHoldRel (t : Nat) (a : Acc) (c j : Nat) (s : State) : Host.Outcome State Fault Refusal :=
  storeRow (decide (c < 8 ∧ j < 64)) t a (R.LIN_BUF_CFG c j) (linHoldRelWrite t a c j) s

/-- LIN_LOST_CLR (R327). -/
def execLinLostClr (t : Nat) (a : Acc) (c j : Nat) (s : State) : Host.Outcome State Fault Refusal :=
  storeRow (decide (c < 8 ∧ j < 64)) t a (R.LIN_BUF_CFG c j) (linLostClrWrite t a c j) s

/-- LIN_DATA1_WRITE (R327). -/
def execLinData1Write (t : Nat) (a : Acc) (c j v : Nat) (s : State) : Host.Outcome State Fault Refusal :=
  storeRow (decide (c < 8 ∧ j < 64)) t a (R.LIN_BUF_DATA1 c j) (linData1Write t a c j v) s

/-- CAN_CONFIG (R331). -/
def execCanConfig (r : Req) (s : State) : Host.Outcome State Fault Refusal :=
  mailbox dCanConfig r s

/-- CAN_STATUS (R332). -/
def execCanStatus (r : Req) (s : State) : Host.Outcome State Fault Refusal :=
  mailbox dCanStatus r s

/-- CAN_RECOVER (R333). -/
def execCanRecover (r : Req) (s : State) : Host.Outcome State Fault Refusal :=
  mailbox dCanRecover r s

/-- LIN_CONFIG (R334). -/
def execLinConfig (r : Req) (s : State) : Host.Outcome State Fault Refusal :=
  mailbox dLinConfig r s

/-- LIN_TABLE_LOAD (R334). -/
def execLinTableLoad (r : Req) (s : State) : Host.Outcome State Fault Refusal :=
  mailbox dLinTableLoad r s

/-- LIN_SCHEDULE (R335). -/
def execLinSchedule (r : Req) (s : State) : Host.Outcome State Fault Refusal :=
  mailbox dLinSchedule r s

/-- LIN_STATUS (R335). -/
def execLinStatus (r : Req) (s : State) : Host.Outcome State Fault Refusal :=
  mailbox dLinStatus r s

/-- GATEWAY_SEND_DUE (R342). -/
def execGatewaySendDue (t r : Nat) (s : State) : Host.Outcome State Fault Refusal :=
  powered t (gatewaySendDue t r) s

/-- GATEWAY_MAX_GAP_EXPIRY (R342). -/
def execGatewayMaxGapExpiry (t r : Nat) (s : State) : Host.Outcome State Fault Refusal :=
  powered t (gatewayMaxGapExpiry t r) s

/-- GATEWAY_TIMEOUT (R343). -/
def execGatewayTimeout (t r : Nat) (s : State) : Host.Outcome State Fault Refusal :=
  powered t (gatewayTimeout t r) s

/-- CONTAINER_SEND_TIMEOUT (R348). -/
def execContainerSendTimeout (t k : Nat) (s : State) : Host.Outcome State Fault Refusal :=
  powered t (containerSendTimeout t k) s

/-- CONTAINER_RECEIVE (R348). -/
def execContainerReceive (t : Nat) (s : State) : Host.Outcome State Fault Refusal :=
  powered t (containerReceive t) s

/-- GWY_STATUS (R353). -/
def execGwyStatus (r : Req) (s : State) : Host.Outcome State Fault Refusal :=
  mailbox dGwyStatus r s

/-- GWY_ROUTE_STATUS (R353). -/
def execGwyRouteStatus (r : Req) (s : State) : Host.Outcome State Fault Refusal :=
  mailbox dGwyRouteStatus r s

/-- GWY_ROUTE_ENABLE (R354). -/
def execGwyRouteEnable (r : Req) (s : State) : Host.Outcome State Fault Refusal :=
  mailbox dGwyRouteEnable r s

/-- GWY_PDU_READ (R354). -/
def execGwyPduRead (r : Req) (s : State) : Host.Outcome State Fault Refusal :=
  mailbox dGwyPduRead r s

/-- GWY_BRIDGE_LOG (R358). -/
def execGwyBridgeLog (r : Req) (s : State) : Host.Outcome State Fault Refusal :=
  mailbox dGwyBridgeLog r s

end Sys2Proof.Machine
end

