-- ==== Sys2Proof/Machine/ExecCycle.lean ====
section
/-!
DEFINITION. Machine/ExecCycle.lean: the meanings of the rows of the cyclic executive: each names its row and its rule and
makes one outcome of the operations that the rule describes.
-/
namespace Sys2Proof.Machine

/-- TASK_RELEASE (R189). -/
def execTaskRelease (t k : Nat) (s : State) : Host.Outcome State Fault Refusal :=
  powered t (taskRelease t k) s

/-- INPUT_IMAGE_CAPTURE (R190). -/
def execInputImageCapture (t k : Nat) (s : State) : Host.Outcome State Fault Refusal :=
  powered t (inputImageCapture t k) s

/-- TASK_COMPLETE (R190). -/
def execTaskComplete (t k : Nat) (writes : List (Nat × List Byte)) (s : State) : Host.Outcome State Fault Refusal :=
  powered t (taskComplete t k writes) s

/-- RETAINED_WRITE_COMPLETE (R213). -/
def execRetainedWriteComplete (t k : Nat) (s : State) : Host.Outcome State Fault Refusal :=
  powered t (retainedWriteComplete t k) s

/-- OUTPUT_CUTOFF (R195). -/
def execOutputCutoff (t k : Nat) (s : State) : Host.Outcome State Fault Refusal :=
  powered t (outputCutoff t k) s

/-- OUTPUT_INSTANT (R201). -/
def execOutputInstant (t k : Nat) (s : State) : Host.Outcome State Fault Refusal :=
  powered t (outputInstant t k) s

/-- LANE_EXCEPTION (R196). -/
def execLaneException (t k cause : Nat) (s : State) : Host.Outcome State Fault Refusal :=
  powered t (laneException t k cause) s

/-- RUN_ADMISSION (R204). -/
def execRunAdmission (t : Nat) (s : State) : Host.Outcome State Fault Refusal :=
  powered t (runAdmission t) s

/-- ONLINE_CHANGE_IDLE_POINT (R208). -/
def execOnlineChangeIdlePoint (t : Nat) (s : State) : Host.Outcome State Fault Refusal :=
  powered t (onlineChangeIdlePoint t) s

/-- ONLINE_CHANGE_NO_IDLE (R208). -/
def execOnlineChangeNoIdle (t : Nat) (s : State) : Host.Outcome State Fault Refusal :=
  powered t (onlineChangeNoIdle t) s

/-- SWAP_INSTANT (R218). -/
def execSwapInstant (t : Nat) (s : State) : Host.Outcome State Fault Refusal :=
  powered t (swapInstant t) s

/-- CYC_STATUS (R223). -/
def execCycStatus (r : Req) (s : State) : Host.Outcome State Fault Refusal :=
  mailbox dCycStatus r s

/-- CYC_TASK_STATUS (R223). -/
def execCycTaskStatus (r : Req) (s : State) : Host.Outcome State Fault Refusal :=
  mailbox dCycTaskStatus r s

/-- CYC_LOAD (R224). -/
def execCycLoad (r : Req) (s : State) : Host.Outcome State Fault Refusal :=
  mailbox dCycLoad r s

/-- CYC_SWAP (R224). -/
def execCycSwap (r : Req) (s : State) : Host.Outcome State Fault Refusal :=
  mailbox dCycSwap r s

/-- CYC_START (R225). -/
def execCycStart (r : Req) (s : State) : Host.Outcome State Fault Refusal :=
  mailbox dCycStart r s

/-- CYC_STOP (R225). -/
def execCycStop (r : Req) (s : State) : Host.Outcome State Fault Refusal :=
  mailbox dCycStop r s

/-- CYC_HOLD (R225). -/
def execCycHold (r : Req) (s : State) : Host.Outcome State Fault Refusal :=
  mailbox dCycHold r s

/-- CYC_TASK_RESTART (R225). -/
def execCycTaskRestart (r : Req) (s : State) : Host.Outcome State Fault Refusal :=
  mailbox dCycTaskRestart r s

/-- CYC_CHANGE (R226). -/
def execCycChange (r : Req) (s : State) : Host.Outcome State Fault Refusal :=
  mailbox dCycChange r s

/-- CYC_FORCE (R227). -/
def execCycForce (r : Req) (s : State) : Host.Outcome State Fault Refusal :=
  mailbox dCycForce r s

/-- CYC_VAR_READ (R228). -/
def execCycVarRead (r : Req) (s : State) : Host.Outcome State Fault Refusal :=
  mailbox dCycVarRead r s

/-- CYC_EVENT (R228). -/
def execCycEvent (r : Req) (s : State) : Host.Outcome State Fault Refusal :=
  mailbox dCycEvent r s

end Sys2Proof.Machine
end

