-- ==== Sys2Proof/Machine/ExecEth.lean ====
section
/-!
DEFINITION. Machine/ExecEth.lean: the meanings of the rows of the Ethernet switch and time-sensitive networking: each names its row and its rule and
makes one outcome of the operations that the rule describes.
-/
namespace Sys2Proof.Machine

/-- FRAME_RECEIVE (R236). -/
def execFrameReceive (t : Nat) (fr : RxFrame) (s : State) : Host.Outcome State Fault Refusal :=
  powered t (frameReceive t fr) s

/-- FRAME_TRUNCATION_TIMEOUT (R254). -/
def execFrameTruncationTimeout (t p : Nat) (s : State) : Host.Outcome State Fault Refusal :=
  powered t (frameTruncationTimeout t p) s

/-- MATCHING_ROUND (R246). -/
def execMatchingRound (t : Nat) (s : State) : Host.Outcome State Fault Refusal :=
  powered t (matchingRound t) s

/-- TRANSMIT_OPPORTUNITY (R277). -/
def execTransmitOpportunity (t p : Nat) (s : State) : Host.Outcome State Fault Refusal :=
  powered t (transmitOpportunity t p) s

/-- FRAME_TRANSMIT_COMPLETE (R259). -/
def execFrameTransmitComplete (t p : Nat) (s : State) : Host.Outcome State Fault Refusal :=
  powered t (frameTransmitComplete t p) s

/-- LINK_DOWN (R255). -/
def execLinkDown (t p : Nat) (s : State) : Host.Outcome State Fault Refusal :=
  powered t (linkDown t p) s

/-- LINK_UP (R255). -/
def execLinkUp (t p : Nat) (s : State) : Host.Outcome State Fault Refusal :=
  powered t (linkUpEvent t p) s

/-- FLAP_HOLD_EXPIRY (R255). -/
def execFlapHoldExpiry (t p : Nat) (s : State) : Host.Outcome State Fault Refusal :=
  powered t (flapHoldExpiry t p) s

/-- DYNAMIC_ENTRY_AGEING (R240). -/
def execDynamicEntryAgeing (t j : Nat) (s : State) : Host.Outcome State Fault Refusal :=
  powered t (dynamicEntryAgeing t j) s

/-- RED_IDLE_UPDATE (R250). -/
def execRedIdleUpdate (t q : Nat) (s : State) : Host.Outcome State Fault Refusal :=
  powered t (redIdleUpdate t q) s

/-- BUFFER_AUDIT_SNAPSHOT (R256). -/
def execBufferAuditSnapshot (t total : Nat) (s : State) : Host.Outcome State Fault Refusal :=
  powered t (bufferAuditSnapshot t total) s

/-- RECLAIM_SWEEP_COMPLETE (R257). -/
def execReclaimSweepComplete (t returned : Nat) (s : State) : Host.Outcome State Fault Refusal :=
  powered t (reclaimSweepComplete t returned) s

/-- SWC_RING_ENABLE (R258). -/
def execSwcRingEnable (t : Nat) (a : Acc) (r v : Nat) (s : State) : Host.Outcome State Fault Refusal :=
  powered t (fun s => if r < 64 then (s.at_ t).busStore a false (R.SWC_RING_CTL r) (bytesLE 4 v) else s.at_ t) s

/-- SWC_TX_PROD_WRITE (R259). -/
def execSwcTxProdWrite (t : Nat) (a : Acc) (r v : Nat) (s : State) : Host.Outcome State Fault Refusal :=
  powered t (fun s => if r < 64 then (s.at_ t).busStore a false (R.SWC_RING_TX_PROD r) (bytesLE 4 v) else s.at_ t) s

/-- SWC_RX_FILL_WRITE (R259). -/
def execSwcRxFillWrite (t : Nat) (a : Acc) (r v : Nat) (s : State) : Host.Outcome State Fault Refusal :=
  powered t (fun s => if r < 64 then (s.at_ t).busStore a false (R.SWC_RING_RX_FILL r) (bytesLE 4 v) else s.at_ t) s

/-- TX_DESCRIPTOR_TAKE (R244). -/
def execTxDescriptorTake (t r : Nat) (s : State) : Host.Outcome State Fault Refusal :=
  powered t (txDescriptorTake t r) s

/-- SWC_PORT_STATUS (R264). -/
def execSwcPortStatus (r : Req) (s : State) : Host.Outcome State Fault Refusal :=
  mailbox dSwcPortStatus r s

/-- SWC_PORT_CONFIG (R264). -/
def execSwcPortConfig (r : Req) (s : State) : Host.Outcome State Fault Refusal :=
  mailbox dSwcPortConfig r s

/-- SWC_QUEUE_CONFIG (R265). -/
def execSwcQueueConfig (r : Req) (s : State) : Host.Outcome State Fault Refusal :=
  mailbox dSwcQueueConfig r s

/-- SWC_QUEUE_STATUS (R266). -/
def execSwcQueueStatus (r : Req) (s : State) : Host.Outcome State Fault Refusal :=
  mailbox dSwcQueueStatus r s

/-- SWC_COUNTERS (R266). -/
def execSwcCounters (r : Req) (s : State) : Host.Outcome State Fault Refusal :=
  mailbox dSwcCounters r s

/-- SWC_FDB_SET (R267). -/
def execSwcFdbSet (r : Req) (s : State) : Host.Outcome State Fault Refusal :=
  mailbox dSwcFdbSet r s

/-- SWC_FDB_READ (R267). -/
def execSwcFdbRead (r : Req) (s : State) : Host.Outcome State Fault Refusal :=
  mailbox dSwcFdbRead r s

/-- SWC_VLAN_CONFIG (R268). -/
def execSwcVlanConfig (r : Req) (s : State) : Host.Outcome State Fault Refusal :=
  mailbox dSwcVlanConfig r s

/-- SWC_POLICER (R269). -/
def execSwcPolicer (r : Req) (s : State) : Host.Outcome State Fault Refusal :=
  mailbox dSwcPolicer r s

/-- SWC_MACSEC_SA (R270). -/
def execSwcMacsecSa (r : Req) (s : State) : Host.Outcome State Fault Refusal :=
  mailbox dSwcMacsecSa r s

/-- SWC_AUDIT (R271). -/
def execSwcAudit (r : Req) (s : State) : Host.Outcome State Fault Refusal :=
  mailbox dSwcAudit r s

/-- GPTP_MESSAGE_RECEIVE (R274). -/
def execGptpMessageReceive (t inst p len : Nat) (m : GptpMsg) (s : State) : Host.Outcome State Fault Refusal :=
  powered t (gptpMessageReceive t inst p len m) s

/-- GPTP_MESSAGE_INTERVAL (R274). -/
def execGptpMessageInterval (t inst p len : Nat) (s : State) : Host.Outcome State Fault Refusal :=
  powered t (gptpMessageInterval t inst p len) s

/-- GATE_INTERVAL_END (R278). -/
def execGateIntervalEnd (t k : Nat) (s : State) : Host.Outcome State Fault Refusal :=
  powered t (gateIntervalEnd t k) s

/-- GCL_CHANGE_INSTANT (R279). -/
def execGclChangeInstant (t k : Nat) (s : State) : Host.Outcome State Fault Refusal :=
  powered t (gclChangeInstant t k) s

/-- PREEMPT_VERIFY_TIMER (R283). -/
def execPreemptVerifyTimer (t p : Nat) (ok : Bool) (s : State) : Host.Outcome State Fault Refusal :=
  powered t (preemptVerifyTimer t p ok) s

/-- FRER_RESET_TIMER (R288). -/
def execFrerResetTimer (t f : Nat) (s : State) : Host.Outcome State Fault Refusal :=
  powered t (frerResetTimer t f) s

/-- FRER_LATENT_PERIOD (R288). -/
def execFrerLatentPeriod (t f : Nat) (s : State) : Host.Outcome State Fault Refusal :=
  powered t (frerLatentPeriod t f) s

/-- FA_FRAME_ARRIVAL (R292). -/
def execFaFrameArrival (t : Nat) (s : State) : Host.Outcome State Fault Refusal :=
  powered t (faFrameArrival t) s

/-- TSN_GCL_SET (R299). -/
def execTsnGclSet (r : Req) (s : State) : Host.Outcome State Fault Refusal :=
  mailbox dTsnGclSet r s

/-- TSN_GCL_STATUS (R299). -/
def execTsnGclStatus (r : Req) (s : State) : Host.Outcome State Fault Refusal :=
  mailbox dTsnGclStatus r s

/-- TSN_SHAPER_CONFIG (R300). -/
def execTsnShaperConfig (r : Req) (s : State) : Host.Outcome State Fault Refusal :=
  mailbox dTsnShaperConfig r s

/-- TSN_PREEMPT_CONFIG (R300). -/
def execTsnPreemptConfig (r : Req) (s : State) : Host.Outcome State Fault Refusal :=
  mailbox dTsnPreemptConfig r s

/-- TSN_STREAM_SET (R301). -/
def execTsnStreamSet (r : Req) (s : State) : Host.Outcome State Fault Refusal :=
  mailbox dTsnStreamSet r s

/-- TSN_STREAM_STATUS (R301). -/
def execTsnStreamStatus (r : Req) (s : State) : Host.Outcome State Fault Refusal :=
  mailbox dTsnStreamStatus r s

/-- TSN_FRER_SET (R302). -/
def execTsnFrerSet (r : Req) (s : State) : Host.Outcome State Fault Refusal :=
  mailbox dTsnFrerSet r s

/-- TSN_GPTP_STATUS (R303). -/
def execTsnGptpStatus (r : Req) (s : State) : Host.Outcome State Fault Refusal :=
  mailbox dTsnGptpStatus r s

/-- FA_SENDER_SET (R304). -/
def execFaSenderSet (r : Req) (s : State) : Host.Outcome State Fault Refusal :=
  mailbox dFaSenderSet r s

/-- FA_STATUS (R304). -/
def execFaStatus (r : Req) (s : State) : Host.Outcome State Fault Refusal :=
  mailbox dFaStatus r s

end Sys2Proof.Machine
end

