-- ==== Sys2Proof/Machine/ExecPart.lean ====
section
/-!
DEFINITION. Machine/ExecPart.lean: the meanings of the rows of partitions, pairs, worlds and keys: each names its row and its rule and
makes one outcome of the operations that the rule describes.
-/
namespace Sys2Proof.Machine

/-- MPC_CORE_PART_WRITE (R406). -/
def execMpcCorePartWrite (t : Nat) (a : Acc) (hyp : Bool) (c v : Nat) (s : State) : Host.Outcome State Fault Refusal :=
  storeRow (decide (c < 6)) t { a with hyp := hyp } (R.MPC_CORE_PART c) (mpcCorePartWrite t { a with hyp := hyp } hyp c v) s

/-- MPC_PEVT_CLEAR (R412). -/
def execMpcPevtClear (t : Nat) (a : Acc) (hyp : Bool) (v : Nat) (s : State) : Host.Outcome State Fault Refusal :=
  storeRow true t { a with hyp := hyp } R.MPC_PEVT (mpcPevtClear t { a with hyp := hyp } hyp v) s

/-- PART_RESET_DRAIN_COMPLETE (R415). -/
def execPartResetDrainComplete (t v : Nat) (s : State) : Host.Outcome State Fault Refusal :=
  powered t (partResetDrainComplete t v) s

/-- PART_SCRUB_COMPLETE (R418). -/
def execPartScrubComplete (t v : Nat) (s : State) : Host.Outcome State Fault Refusal :=
  powered t (partScrubComplete t v) s

/-- SAFETY_PARTITION_RELOAD (R415). -/
def execSafetyPartitionReload (t v : Nat) (s : State) : Host.Outcome State Fault Refusal :=
  powered t (safetyPartitionReload t v) s

/-- HOST_RESET_RELOAD (R419). -/
def execHostResetReload (t : Nat) (s : State) : Host.Outcome State Fault Refusal :=
  powered t (hostResetReload t) s

/-- REGULATION_PERIOD (R421). -/
def execRegulationPeriod (t : Nat) (s : State) : Host.Outcome State Fault Refusal :=
  powered t (regulationPeriod t) s

/-- PART_STATUS (R426). -/
def execPartStatus (r : Req) (s : State) : Host.Outcome State Fault Refusal :=
  mailbox dPartStatus r s

/-- PART_READY (R427). -/
def execPartReady (r : Req) (s : State) : Host.Outcome State Fault Refusal :=
  mailbox dPartReady r s

/-- PART_RESET (R427). -/
def execPartReset (r : Req) (s : State) : Host.Outcome State Fault Refusal :=
  mailbox dPartReset r s

/-- PART_RELEASE (R427). -/
def execPartRelease (r : Req) (s : State) : Host.Outcome State Fault Refusal :=
  mailbox dPartRelease r s

/-- PART_STORE_INFO (R428). -/
def execPartStoreInfo (r : Req) (s : State) : Host.Outcome State Fault Refusal :=
  mailbox dPartStoreInfo r s

/-- PART_STORE_READ (R428). -/
def execPartStoreRead (r : Req) (s : State) : Host.Outcome State Fault Refusal :=
  mailbox dPartStoreRead r s

/-- PART_STORE_WRITE (R428). -/
def execPartStoreWrite (r : Req) (s : State) : Host.Outcome State Fault Refusal :=
  mailbox dPartStoreWrite r s

/-- LOCKSTEP_MISMATCH (R435). -/
def execLockstepMismatch (t n kind addr : Nat) (s : State) : Host.Outcome State Fault Refusal :=
  powered t (lockstepMismatch t n kind addr) s

/-- LOCKSTEP_SIGNATURE_CHECK (R433). -/
def execLockstepSignatureCheck (t n : Nat) (equal : Bool) (s : State) : Host.Outcome State Fault Refusal :=
  powered t (lockstepSignatureCheck t n equal) s

/-- MISMATCH_SELFTEST_RESULT (R436). -/
def execMismatchSelftestResult (t n : Nat) (aOk bOk : Bool) (s : State) : Host.Outcome State Fault Refusal :=
  powered t (mismatchSelftestResult t n aOk bOk) s

/-- CHECKPOINT_RESTART_COMPLETE (R436). -/
def execCheckpointRestartComplete (t n : Nat) (s : State) : Host.Outcome State Fault Refusal :=
  powered t (checkpointRestartComplete t n) s

/-- FLT_LS_CKPT_WRITE (R434). -/
def execFltLsCkptWrite (t : Nat) (a : Acc) (n v : Nat) (s : State) : Host.Outcome State Fault Refusal :=
  storeRow (decide (n < 4)) t a (R.FLT_LS_CKPT n) (fltLsCkptWrite t a n v) s

/-- DEBUG_HALT_REQUEST (R441). -/
def execDebugHaltRequest (t n : Nat) (s : State) : Host.Outcome State Fault Refusal :=
  powered t (debugHaltRequest t n) s

/-- DEBUG_RESUME (R441). -/
def execDebugResume (t n : Nat) (s : State) : Host.Outcome State Fault Refusal :=
  powered t (debugResume t n) s

/-- PAIR_STATUS (R444). -/
def execPairStatus (r : Req) (s : State) : Host.Outcome State Fault Refusal :=
  mailbox dPairStatus r s

/-- GATE (R452). -/
def execGate (t : Nat) (a : Acc) (hyp : Bool) (target : Nat) (s : State) : Host.Outcome State Fault Refusal :=
  powered t (gate t a hyp target) s

/-- GRET (R453). -/
def execGret (t : Nat) (a : Acc) (s : State) : Host.Outcome State Fault Refusal :=
  powered t (gret t a) s

/-- GATE_TIMER_EXPIRY (R456). -/
def execGateTimerExpiry (t c : Nat) (s : State) : Host.Outcome State Fault Refusal :=
  powered t (gateTimerExpiry t c) s

/-- MPC_CPC_PSTATE_WRITE (R459). -/
def execMpcCpcPstateWrite (t : Nat) (a : Acc) (k v : Nat) (s : State) : Host.Outcome State Fault Refusal :=
  storeRow (decide (k < 54)) t a (R.MPC_CPC k) (mpcCpcPstateWrite t a k v) s

/-- WORLD_STATUS (R464). -/
def execWorldStatus (r : Req) (s : State) : Host.Outcome State Fault Refusal :=
  mailbox dWorldStatus r s

/-- LC_SET (R464). -/
def execLcSet (r : Req) (s : State) : Host.Outcome State Fault Refusal :=
  mailbox dLcSet r s

/-- KEY_STATUS (R485). -/
def execKeyStatus (r : Req) (s : State) : Host.Outcome State Fault Refusal :=
  mailbox dKeyStatus r s

/-- KEY_DERIVE (R485). -/
def execKeyDerive (r : Req) (s : State) : Host.Outcome State Fault Refusal :=
  mailbox dKeyDerive r s

/-- KEY_IMPORT (R485). -/
def execKeyImport (r : Req) (s : State) : Host.Outcome State Fault Refusal :=
  mailbox dKeyImport r s

/-- KEY_COMMIT (R471). -/
def execKeyCommit (r : Req) (s : State) : Host.Outcome State Fault Refusal :=
  mailbox dKeyCommit r s

/-- KEY_COMMIT_EFFECT (R471). -/
def execKeyCommitEffect (t k : Nat) (s : State) : Host.Outcome State Fault Refusal :=
  powered t (keyCommitEffect t k) s

/-- KEY_DISCARD (R485). -/
def execKeyDiscard (r : Req) (s : State) : Host.Outcome State Fault Refusal :=
  mailbox dKeyDiscard r s

/-- KEY_REVOKE (R473). -/
def execKeyRevoke (r : Req) (s : State) : Host.Outcome State Fault Refusal :=
  mailbox dKeyRevoke r s

/-- KEY_OP (R475). -/
def execKeyOp (r : Req) (s : State) : Host.Outcome State Fault Refusal :=
  mailbox dKeyOp r s

/-- KEY_OP_COMPLETE (R475). -/
def execKeyOpComplete (t node w tag : Nat) (s : State) : Host.Outcome State Fault Refusal :=
  powered t (keyOpComplete t node w tag) s

/-- KEY_ATTEST (R477). -/
def execKeyAttest (r : Req) (s : State) : Host.Outcome State Fault Refusal :=
  mailbox dKeyAttest r s

/-- KEY_RANDOM (R486). -/
def execKeyRandom (r : Req) (s : State) : Host.Outcome State Fault Refusal :=
  mailbox dKeyRandom r s

/-- TAMPER_STATUS (R487). -/
def execTamperStatus (r : Req) (s : State) : Host.Outcome State Fault Refusal :=
  mailbox dTamperStatus r s

/-- TAMPER_CLEAR (R487). -/
def execTamperClear (r : Req) (s : State) : Host.Outcome State Fault Refusal :=
  mailbox dTamperClear r s

/-- REMASK_DUE (R474). -/
def execRemaskDue (t : Nat) (s : State) : Host.Outcome State Fault Refusal :=
  powered t (remaskDue t) s

/-- TAMPER_SENSOR_EVENT (R481). -/
def execTamperSensorEvent (t j : Nat) (s : State) : Host.Outcome State Fault Refusal :=
  always (tamperSensorEvent t j) s

/-- TAMPER_CONDITION_END (R478). -/
def execTamperConditionEnd (t j : Nat) (s : State) : Host.Outcome State Fault Refusal :=
  always (tamperConditionEnd t j) s

/-- CORE_WAIT_FOR_INTERRUPT (R459). -/
def execCoreWaitForInterrupt (t c : Nat) (s : State) : Host.Outcome State Fault Refusal :=
  powered t (coreWaitForInterrupt t c) s

end Sys2Proof.Machine
end

