-- ==== Sys2Proof/Machine/ExecSleep.lean ====
section
/-!
DEFINITION. Machine/ExecSleep.lean: the meanings of the rows of sleep and wake-up, and the Hedgerow chain: each names its row and its rule and
makes one outcome of the operations that the rule describes.
-/
namespace Sys2Proof.Machine

/-- READY_DLY_EXPIRY (R362). -/
def execReadyDlyExpiry (t : Nat) (s : State) : Host.Outcome State Fault Refusal :=
  powered t (readyDlyExpiry t) s

/-- PREP_MS_EXPIRY (R363). -/
def execPrepMsExpiry (t : Nat) (s : State) : Host.Outcome State Fault Refusal :=
  powered t (prepMsExpiry t) s

/-- SLEEP_POWER_DOWN_COMPLETE (R363). -/
def execSleepPowerDownComplete (t : Nat) (s : State) : Host.Outcome State Fault Refusal :=
  always (sleepPowerDownComplete t) s

/-- WAKE_IN_EVENT (R368). -/
def execWakeInEvent (t : Nat) (level : Bool) (s : State) : Host.Outcome State Fault Refusal :=
  always (wakeInEvent t level) s

/-- IGN_SENSE_EVENT (R368). -/
def execIgnSenseEvent (t : Nat) (level : Bool) (s : State) : Host.Outcome State Fault Refusal :=
  always (ignSenseEvent t level) s

/-- RTC_ALARM (R374). -/
def execRtcAlarm (t v : Nat) (s : State) : Host.Outcome State Fault Refusal :=
  always (rtcAlarm t v) s

/-- CAN_WAKE_PATTERN (R367). -/
def execCanWakePattern (t c : Nat) (s : State) : Host.Outcome State Fault Refusal :=
  always (canWakePattern t c) s

/-- CAN_WAKE_FRAME (R370). -/
def execCanWakeFrame (t c : Nat) (fr : CanFrame) (s : State) : Host.Outcome State Fault Refusal :=
  always (canWakeFrame t c fr) s

/-- CAN_FEC_OVERFLOW (R370). -/
def execCanFecOverflow (t c : Nat) (s : State) : Host.Outcome State Fault Refusal :=
  always (canFecOverflow t c) s

/-- LIN_WAKE_DOMINANT (R372). -/
def execLinWakeDominant (t c fin : Nat) (s : State) : Host.Outcome State Fault Refusal :=
  always (linWakeDominant t c fin) s

/-- ETH_TC10_WAKE (R373). -/
def execEthTc10Wake (t p : Nat) (s : State) : Host.Outcome State Fault Refusal :=
  always (ethTc10Wake t p) s

/-- CHAIN_WAKE_PULSE (R394). -/
def execChainWakePulse (t : Nat) (up : Bool) (s : State) : Host.Outcome State Fault Refusal :=
  always (chainWakePulse t up) s

/-- TC10_HANDSHAKE_COMPLETE (R373). -/
def execTc10HandshakeComplete (t p : Nat) (ok : Bool) (s : State) : Host.Outcome State Fault Refusal :=
  powered t (tc10HandshakeComplete t p ok) s

/-- WAKE_OUT_PULSE_END (R369). -/
def execWakeOutPulseEnd (t : Nat) (s : State) : Host.Outcome State Fault Refusal :=
  always (wakeOutPulseEnd t) s

/-- COPPICE_SLEEP_COMMIT (R376). -/
def execCoppiceSleepCommit (t : Nat) (s : State) : Host.Outcome State Fault Refusal :=
  powered t (coppiceSleepCommit t) s

/-- SLP_VOTE (R379). -/
def execSlpVote (r : Req) (s : State) : Host.Outcome State Fault Refusal :=
  mailbox dSlpVote r s

/-- SLP_STATUS (R379). -/
def execSlpStatus (r : Req) (s : State) : Host.Outcome State Fault Refusal :=
  mailbox dSlpStatus r s

/-- SLP_WAKE_INFO (R379). -/
def execSlpWakeInfo (r : Req) (s : State) : Host.Outcome State Fault Refusal :=
  mailbox dSlpWakeInfo r s

/-- SLP_CHANNEL (R380). -/
def execSlpChannel (r : Req) (s : State) : Host.Outcome State Fault Refusal :=
  mailbox dSlpChannel r s

/-- SLP_ALARM (R381). -/
def execSlpAlarm (r : Req) (s : State) : Host.Outcome State Fault Refusal :=
  mailbox dSlpAlarm r s

/-- SLP_SWK_CONFIG (R381). -/
def execSlpSwkConfig (r : Req) (s : State) : Host.Outcome State Fault Refusal :=
  mailbox dSlpSwkConfig r s

/-- HOP_CYCLE (R383). -/
def execHopCycle (t : Nat) (up : Bool) (s : State) : Host.Outcome State Fault Refusal :=
  powered t (hopCycle t up) s

/-- HOP_DOWN_TIMEOUT (R383). -/
def execHopDownTimeout (t : Nat) (up : Bool) (s : State) : Host.Outcome State Fault Refusal :=
  powered t (hopDownTimeout t up) s

/-- HDG_FRAME_TRUNCATION (R386). -/
def execHdgFrameTruncation (t : Nat) (up : Bool) (s : State) : Host.Outcome State Fault Refusal :=
  powered t (hdgFrameTruncation t up) s

/-- HDG_IDLE_FRAME (R383). -/
def execHdgIdleFrame (t : Nat) (up : Bool) (f : HdgFrame) (s : State) : Host.Outcome State Fault Refusal :=
  powered t (hdgIdleFrame t up f) s

/-- HDG_ENUM_FRAME (R390). -/
def execHdgEnumFrame (t : Nat) (up : Bool) (f : HdgFrame) (s : State) : Host.Outcome State Fault Refusal :=
  powered t (hdgEnumFrame t up f) s

/-- HDG_ENUM_ACK_FRAME (R390). -/
def execHdgEnumAckFrame (t : Nat) (up : Bool) (f : HdgFrame) (s : State) : Host.Outcome State Fault Refusal :=
  powered t (hdgEnumAckFrame t up f) s

/-- HDG_TOPO_FRAME (R391). -/
def execHdgTopoFrame (t : Nat) (up : Bool) (f : HdgFrame) (s : State) : Host.Outcome State Fault Refusal :=
  powered t (hdgTopoFrame t up f) s

/-- HDG_SYNC_FRAME (R393). -/
def execHdgSyncFrame (t : Nat) (up : Bool) (f : HdgFrame) (s : State) : Host.Outcome State Fault Refusal :=
  powered t (hdgSyncFrame t up f) s

/-- HDG_DELAY_REQ_FRAME (R393). -/
def execHdgDelayReqFrame (t : Nat) (up : Bool) (f : HdgFrame) (s : State) : Host.Outcome State Fault Refusal :=
  powered t (hdgDelayReqFrame t up f) s

/-- HDG_DELAY_RSP_FRAME (R393). -/
def execHdgDelayRspFrame (t : Nat) (up : Bool) (f : HdgFrame) (s : State) : Host.Outcome State Fault Refusal :=
  powered t (hdgDelayRspFrame t up f) s

/-- HDG_COMMIT_FRAME (R396). -/
def execHdgCommitFrame (t : Nat) (up : Bool) (f : HdgFrame) (s : State) : Host.Outcome State Fault Refusal :=
  powered t (hdgCommitFrame t up f) s

/-- HDG_FWD_REQ_FRAME (R397). -/
def execHdgFwdReqFrame (t : Nat) (up : Bool) (f : HdgFrame) (s : State) : Host.Outcome State Fault Refusal :=
  powered t (hdgFwdReqFrame t up f) s

/-- HDG_FWD_RSP_FRAME (R397). -/
def execHdgFwdRspFrame (t : Nat) (up : Bool) (f : HdgFrame) (s : State) : Host.Outcome State Fault Refusal :=
  powered t (hdgFwdRspFrame t up f) s

/-- HDG_CHANGE_FRAME (R390). -/
def execHdgChangeFrame (t : Nat) (up : Bool) (f : HdgFrame) (s : State) : Host.Outcome State Fault Refusal :=
  powered t (hdgChangeFrame t up f) s

/-- ROOT_ETHERNET_FRAME (R398). -/
def execRootEthernetFrame (t : Nat) (s : State) : Host.Outcome State Fault Refusal :=
  powered t (rootEthernetFrame t) s

/-- ENUM_RESTART_TIMEOUT (R390). -/
def execEnumRestartTimeout (t : Nat) (s : State) : Host.Outcome State Fault Refusal :=
  powered t (enumRestartTimeout t) s

/-- DELAY_MEASUREMENT_PERIOD (R393). -/
def execDelayMeasurementPeriod (t : Nat) (s : State) : Host.Outcome State Fault Refusal :=
  powered t (delayMeasurementPeriod t) s

/-- SYNC_LOSS_TIMEOUT (R393). -/
def execSyncLossTimeout (t : Nat) (s : State) : Host.Outcome State Fault Refusal :=
  powered t (syncLossTimeout t) s

/-- BYPASS_OPEN (R387). -/
def execBypassOpen (t : Nat) (s : State) : Host.Outcome State Fault Refusal :=
  powered t (bypassOpen t) s

/-- HDG_STATUS (R402). -/
def execHdgStatus (r : Req) (s : State) : Host.Outcome State Fault Refusal :=
  mailbox dHdgStatus r s

/-- HDG_TOPOLOGY (R402). -/
def execHdgTopology (r : Req) (s : State) : Host.Outcome State Fault Refusal :=
  mailbox dHdgTopology r s

/-- HDG_ENUM (R403). -/
def execHdgEnum (r : Req) (s : State) : Host.Outcome State Fault Refusal :=
  mailbox dHdgEnum r s

/-- HDG_MAP_FORGET (R403). -/
def execHdgMapForget (r : Req) (s : State) : Host.Outcome State Fault Refusal :=
  mailbox dHdgMapForget r s

/-- LINE_INPUT_CHANGE (R361). -/
def execLineInputChange (t : Nat) (wakeIn ign : Bool) (s : State) : Host.Outcome State Fault Refusal :=
  always (lineInputChange t wakeIn ign) s

/-- HDG_INVALID_FRAME (R384). -/
def execHdgInvalidFrame (t : Nat) (up : Bool) (s : State) : Host.Outcome State Fault Refusal :=
  powered t (hdgInvalidFrame t up) s

end Sys2Proof.Machine
end

