-- ==== Sys2Proof/Machine/ExecSwitch.lean ====
section
/-!
DEFINITION. Machine/ExecSwitch.lean: the meanings of the rows of switching cells, gangs and bridges, feeds and the energy governor: each names its row and its rule and
makes one outcome of the operations that the rule describes.
-/
namespace Sys2Proof.Machine

/-- EDGE_INSTANT (R86). -/
def execEdgeInstant (t x : Nat) (s : State) : Host.Outcome State Fault Refusal :=
  powered t (fun s => (edgeInstant t x s).sleepEdge x) s

/-- TRANSITION_END (R86). -/
def execTransitionEnd (t x : Nat) (hot : List Nat) (s : State) : Host.Outcome State Fault Refusal :=
  powered t (transitionEnd t x hot) s

/-- DEAD_TIME_EXPIRY (R87). -/
def execDeadTimeExpiry (t x : Nat) (s : State) : Host.Outcome State Fault Refusal :=
  powered t (deadTimeExpiry t x) s

/-- FREEWHEEL_CURRENT_LOW (R89). -/
def execFreewheelCurrentLow (t x : Nat) (s : State) : Host.Outcome State Fault Refusal :=
  powered t (freewheelCurrentLow t x) s

/-- FREEWHEEL_MAX_EXPIRY (R89). -/
def execFreewheelMaxExpiry (t : Nat) (x : TurnOff) (s : State) : Host.Outcome State Fault Refusal :=
  powered t (freewheelMaxExpiry t x.place x.hot) s

/-- SHORT_CIRCUIT (R91). -/
def execShortCircuit (t : Nat) (n : TurnOff) (s : State) : Host.Outcome State Fault Refusal :=
  powered t (shortCircuit t n.place n.hot) s

/-- CURRENT_LIMIT_ENTRY (R92). -/
def execCurrentLimitEntry (t n : Nat) (s : State) : Host.Outcome State Fault Refusal :=
  powered t (currentLimitEntry t n) s

/-- OC_BLANK_EXPIRY (R92). -/
def execOcBlankExpiry (t : Nat) (x : TurnOff) (s : State) : Host.Outcome State Fault Refusal :=
  powered t (ocBlankExpiry t x.place x.hot) s

/-- RETRY_DELAY_EXPIRY (R93). -/
def execRetryDelayExpiry (t x : Nat) (s : State) : Host.Outcome State Fault Refusal :=
  powered t (retryDelayExpiry t x) s

/-- RETRY_COUNTER_RESET (R93). -/
def execRetryCounterReset (t x : Nat) (s : State) : Host.Outcome State Fault Refusal :=
  powered t (retryCounterReset t x) s

/-- THERMAL_SHUTDOWN (R94). -/
def execThermalShutdown (t : Nat) (n : TurnOff) (s : State) : Host.Outcome State Fault Refusal :=
  powered t (thermalShutdown t n.place n.hot) s

/-- FEED_UNDERVOLTAGE (R96). -/
def execFeedUndervoltage (t : Nat) (f : TurnOff) (s : State) : Host.Outcome State Fault Refusal :=
  powered t (feedUndervoltage t f.place f.hot) s

/-- FEED_UV_RECOVERY (R97). -/
def execFeedUvRecovery (t f : Nat) (s : State) : Host.Outcome State Fault Refusal :=
  powered t (feedUvRecovery t f) s

/-- UV_RESTART (R97). -/
def execUvRestart (t k : Nat) (s : State) : Host.Outcome State Fault Refusal :=
  powered t (uvRestart t k) s

/-- GRID_SAMPLE (R101). -/
def execGridSample (t : Nat) (cells : List CellSample) (feeds : List FeedSample) (elec : Nat) (s : State) : Host.Outcome State Fault Refusal :=
  powered t (fun s => gridCycle t (gridFabric t cells feeds elec s)) s

/-- STATUS_PAGE_SWITCH (R101). -/
def execStatusPageSwitch (t : Nat) (s : State) : Host.Outcome State Fault Refusal :=
  powered t (fun s => cycleStatusPage (statusPageSwitch t s)) s

/-- HOLD_WINDOW_EXPIRY (R111). -/
def execHoldWindowExpiry (t x : Nat) (s : State) : Host.Outcome State Fault Refusal :=
  powered t (holdWindowExpiry t x) s

/-- BANK_NO_ANSWER (R114). -/
def execBankNoAnswer (t k : Nat) (s : State) : Host.Outcome State Fault Refusal :=
  powered t (bankNoAnswer t k) s

/-- BANK_ANSWER_RETURN (R114). -/
def execBankAnswerReturn (t k : Nat) (s : State) : Host.Outcome State Fault Refusal :=
  powered t (bankAnswerReturn t k) s

/-- CELL_SET (R118). -/
def execCellSet (r : Req) (s : State) : Host.Outcome State Fault Refusal :=
  mailbox dCellSet r s

/-- CELL_CONFIG (R119). -/
def execCellConfig (r : Req) (s : State) : Host.Outcome State Fault Refusal :=
  mailbox dCellConfig r s

/-- CELL_STATUS (R120). -/
def execCellStatus (r : Req) (s : State) : Host.Outcome State Fault Refusal :=
  mailbox dCellStatus r s

/-- CELL_CLEAR (R121). -/
def execCellClear (r : Req) (s : State) : Host.Outcome State Fault Refusal :=
  mailbox dCellClear r s

/-- CELL_READ_CONFIG (R122). -/
def execCellReadConfig (r : Req) (s : State) : Host.Outcome State Fault Refusal :=
  mailbox dCellReadConfig r s

/-- REVERSAL_DWELL_EXPIRY (R136). -/
def execReversalDwellExpiry (t h : Nat) (s : State) : Host.Outcome State Fault Refusal :=
  powered t (reversalDwellExpiry t h) s

/-- GANG_SET (R148). -/
def execGangSet (r : Req) (s : State) : Host.Outcome State Fault Refusal :=
  mailbox dGangSet r s

/-- GANG_CONFIG (R149). -/
def execGangConfig (r : Req) (s : State) : Host.Outcome State Fault Refusal :=
  mailbox dGangConfig r s

/-- GANG_STATUS (R150). -/
def execGangStatus (r : Req) (s : State) : Host.Outcome State Fault Refusal :=
  mailbox dGangStatus r s

/-- GANG_CLEAR (R151). -/
def execGangClear (r : Req) (s : State) : Host.Outcome State Fault Refusal :=
  mailbox dGangClear r s

/-- BRIDGE_SET (R148). -/
def execBridgeSet (r : Req) (s : State) : Host.Outcome State Fault Refusal :=
  mailbox dBridgeSet r s

/-- BRIDGE_CONFIG (R149). -/
def execBridgeConfig (r : Req) (s : State) : Host.Outcome State Fault Refusal :=
  mailbox dBridgeConfig r s

/-- BRIDGE_STATUS (R150). -/
def execBridgeStatus (r : Req) (s : State) : Host.Outcome State Fault Refusal :=
  mailbox dBridgeStatus r s

/-- BRIDGE_CLEAR (R151). -/
def execBridgeClear (r : Req) (s : State) : Host.Outcome State Fault Refusal :=
  mailbox dBridgeClear r s

/-- PROBE_RUN (R152). -/
def execProbeRun (r : Req) (s : State) : Host.Outcome State Fault Refusal :=
  mailbox dProbeRun r s

/-- PROBE_RESULT (R153). -/
def execProbeResult (r : Req) (s : State) : Host.Outcome State Fault Refusal :=
  mailbox dProbeResult r s

/-- GANG_READ_CONFIG (R150). -/
def execGangReadConfig (r : Req) (s : State) : Host.Outcome State Fault Refusal :=
  mailbox dGangReadConfig r s

/-- PROBE_SETTLE_EXPIRY (R142). -/
def execProbeSettleExpiry (t x : Nat) (rd : ProbeReading) (s : State) : Host.Outcome State Fault Refusal :=
  powered t (probeSettleExpiry t x rd) s

/-- PROBE_RETRY_TIMER (R144). -/
def execProbeRetryTimer (t : Nat) (s : State) : Host.Outcome State Fault Refusal :=
  powered t (probeRetryTimer t) s

/-- GOVERNOR_CYCLE (R166). -/
def execGovernorCycle (t : Nat) (s : State) : Host.Outcome State Fault Refusal :=
  powered t (governorRound t) s

/-- RESTORE_DELAY_EXPIRY (R170). -/
def execRestoreDelayExpiry (t x : Nat) (s : State) : Host.Outcome State Fault Refusal :=
  powered t (restoreDelayExpiry t x) s

/-- DEFER_MAX_EXPIRY (R167). -/
def execDeferMaxExpiry (t node w tag : Nat) (s : State) : Host.Outcome State Fault Refusal :=
  powered t (deferMaxExpiry t node w tag) s

/-- FEED_OVERLOAD_DELAY_EXPIRY (R169). -/
def execFeedOverloadDelayExpiry (t f : Nat) (s : State) : Host.Outcome State Fault Refusal :=
  powered t (feedOverloadDelayExpiry t f) s

/-- FEED_PEAK (R169). -/
def execFeedPeak (t f : Nat) (s : State) : Host.Outcome State Fault Refusal :=
  powered t (feedPeak t f) s

/-- HEAT_SHED_START (R169). -/
def execHeatShedStart (t : Nat) (s : State) : Host.Outcome State Fault Refusal :=
  powered t (heatShedStart t) s

/-- MEASURED_SHED_INTERVAL (R169). -/
def execMeasuredShedInterval (t : Nat) (s : State) : Host.Outcome State Fault Refusal :=
  powered t (measuredShedInterval t) s

/-- CLASS_S_OVERLOAD_EXPIRY (R169). -/
def execClassSOverloadExpiry (t f : Nat) (s : State) : Host.Outcome State Fault Refusal :=
  powered t (classSOverloadExpiry t f) s

/-- FEED_OVERVOLT (R159). -/
def execFeedOvervolt (t f : Nat) (s : State) : Host.Outcome State Fault Refusal :=
  powered t (feedOvervolt t f) s

/-- BANK_FEED_LOSS (R158). -/
def execBankFeedLoss (t f : Nat) (s : State) : Host.Outcome State Fault Refusal :=
  powered t (bankFeedLoss t f) s

/-- BANK_FEED_RETURN (R158). -/
def execBankFeedReturn (t f : Nat) (s : State) : Host.Outcome State Fault Refusal :=
  powered t (bankFeedReturn t f) s

/-- ENERGY_LOG_RECORD (R173). -/
def execEnergyLogRecord (t : Nat) (s : State) : Host.Outcome State Fault Refusal :=
  powered t (energyLogRecord t) s

/-- BUDGET_STATUS (R176). -/
def execBudgetStatus (r : Req) (s : State) : Host.Outcome State Fault Refusal :=
  mailbox dBudgetStatus r s

/-- BUDGET_OBJECT (R177). -/
def execBudgetObject (r : Req) (s : State) : Host.Outcome State Fault Refusal :=
  mailbox dBudgetObject r s

/-- BUDGET_OBJ_STATUS (R178). -/
def execBudgetObjStatus (r : Req) (s : State) : Host.Outcome State Fault Refusal :=
  mailbox dBudgetObjStatus r s

/-- ENERGY_READ (R179). -/
def execEnergyRead (r : Req) (s : State) : Host.Outcome State Fault Refusal :=
  mailbox dEnergyRead r s

/-- ENERGY_LOG_READ (R180). -/
def execEnergyLogRead (r : Req) (s : State) : Host.Outcome State Fault Refusal :=
  mailbox dEnergyLogRead r s

end Sys2Proof.Machine
end

