-- ==== Sys2Proof/Machine/ExecSystem.lean ====
section
/-!
DEFINITION. Machine/ExecSystem.lean: the meanings of the rows of faults, configuration, start, update and supply: each names its row and its rule and
makes one outcome of the operations that the rule describes.
-/
namespace Sys2Proof.Machine

/-- FAULT_REPORT (R488). -/
def execFaultReport (t code cls obj detail : Nat) (a : Acc) (ty addr : Nat) (s : State) : Host.Outcome State Fault Refusal :=
  powered t (faultReport t code cls obj detail a ty addr) s

/-- UNRECORDED_TIMEOUT (R488). -/
def execUnrecordedTimeout (t island cls : Nat) (s : State) : Host.Outcome State Fault Refusal :=
  powered t (unrecordedTimeout t island cls) s

/-- RAIL_DISAGREEMENT (R489). -/
def execRailDisagreement (t island : Nat) (s : State) : Host.Outcome State Fault Refusal :=
  powered t (railDisagreement t island) s

/-- FLT_NOTE_ACK (R496). -/
def execFltNoteAck (t : Nat) (a : Acc) (v : Nat) (s : State) : Host.Outcome State Fault Refusal :=
  storeRow true t a R.FLT_NOTE_ACK (fltNoteAck t a v) s

/-- HANDLING_TIMER_EXPIRY (R496). -/
def execHandlingTimerExpiry (t h index : Nat) (s : State) : Host.Outcome State Fault Refusal :=
  powered t (handlingTimerExpiry t h index) s

/-- QUIET_TIMER_EXPIRY (R501). -/
def execQuietTimerExpiry (t : Nat) (s : State) : Host.Outcome State Fault Refusal :=
  powered t (quietTimerExpiry t) s

/-- FAULT_STATUS (R504). -/
def execFaultStatus (r : Req) (s : State) : Host.Outcome State Fault Refusal :=
  mailbox dFaultStatus r s

/-- FAULT_LOG_READ (R504). -/
def execFaultLogRead (r : Req) (s : State) : Host.Outcome State Fault Refusal :=
  mailbox dFaultLogRead r s

/-- FAULT_CAPTURE (R505). -/
def execFaultCapture (r : Req) (s : State) : Host.Outcome State Fault Refusal :=
  mailbox dFaultCapture r s

/-- FAULT_RECOVERY_CLEAR (R505). -/
def execFaultRecoveryClear (r : Req) (s : State) : Host.Outcome State Fault Refusal :=
  mailbox dFaultRecoveryClear r s

/-- FAULT_INJECT (R505). -/
def execFaultInject (r : Req) (s : State) : Host.Outcome State Fault Refusal :=
  mailbox dFaultInject r s

/-- OVERLAY_CUTOFF (R514). -/
def execOverlayCutoff (t : Nat) (s : State) : Host.Outcome State Fault Refusal :=
  powered t (overlayCutoff t) s

/-- OVERLAY_SWITCH_INSTANT (R514). -/
def execOverlaySwitchInstant (t : Nat) (s : State) : Host.Outcome State Fault Refusal :=
  powered t (overlaySwitchInstant t) s

/-- OVERLAY_ALIGN_TIMEOUT (R517). -/
def execOverlayAlignTimeout (t : Nat) (s : State) : Host.Outcome State Fault Refusal :=
  powered t (overlayAlignTimeout t) s

/-- CONFIG_COPY_COMPARE (R510). -/
def execConfigCopyCompare (t : Nat) (s : State) : Host.Outcome State Fault Refusal :=
  powered t (configCopyCompare t) s

/-- SERVICE_SESSION_EXPIRY (R513). -/
def execServiceSessionExpiry (t : Nat) (s : State) : Host.Outcome State Fault Refusal :=
  powered t (serviceSessionExpiry t) s

/-- MAINT_ACTIVITY_COMPLETE (R521). -/
def execMaintActivityComplete (t act : Nat) (failed : List Nat) (trims : List (Nat × Int)) (s : State) : Host.Outcome State Fault Refusal :=
  powered t (maintActivityComplete t act failed trims) s

/-- MAINT_WAIT_LIMIT (R521). -/
def execMaintWaitLimit (t : Nat) (s : State) : Host.Outcome State Fault Refusal :=
  powered t (maintWaitLimit t) s

/-- SCRUB_DUE (R519). -/
def execScrubDue (t : Nat) (s : State) : Host.Outcome State Fault Refusal :=
  powered t (scrubDue t) s

/-- LBIST_DUE (R519). -/
def execLbistDue (t : Nat) (s : State) : Host.Outcome State Fault Refusal :=
  powered t (lbistDue t) s

/-- CONFIG_STATUS (R524). -/
def execConfigStatus (r : Req) (s : State) : Host.Outcome State Fault Refusal :=
  mailbox dConfigStatus r s

/-- OVERLAY_SWITCH (R524). -/
def execOverlaySwitch (r : Req) (s : State) : Host.Outcome State Fault Refusal :=
  mailbox dOverlaySwitch r s

/-- CONFIG_COMMIT (R516). -/
def execConfigCommit (r : Req) (s : State) : Host.Outcome State Fault Refusal :=
  mailbox dConfigCommit r s

/-- SERVICE_OPEN (R524). -/
def execServiceOpen (r : Req) (s : State) : Host.Outcome State Fault Refusal :=
  mailbox dServiceOpen r s

/-- SERVICE_CLOSE (R524). -/
def execServiceClose (r : Req) (s : State) : Host.Outcome State Fault Refusal :=
  mailbox dServiceClose r s

/-- MAINT_REQUEST (R525). -/
def execMaintRequest (r : Req) (s : State) : Host.Outcome State Fault Refusal :=
  mailbox dMaintRequest r s

/-- MAINT_STATUS (R525). -/
def execMaintStatus (r : Req) (s : State) : Host.Outcome State Fault Refusal :=
  mailbox dMaintStatus r s

/-- MAINT_CANCEL (R525). -/
def execMaintCancel (r : Req) (s : State) : Host.Outcome State Fault Refusal :=
  mailbox dMaintCancel r s

/-- POWER_ON_RESET (R526). -/
def execPowerOnReset (t : Nat) (s : State) : Host.Outcome State Fault Refusal :=
  always (powerOnReset t) s

/-- DRAM_TRAINING_COMPLETE (R530). -/
def execDramTrainingComplete (t : Nat) (ok : Bool) (s : State) : Host.Outcome State Fault Refusal :=
  powered t (dramTrainingComplete t ok) s

/-- IMAGE_AUTHENTICATION_COMPLETE (R530). -/
def execImageAuthenticationComplete (t : Nat) (s : State) : Host.Outcome State Fault Refusal :=
  powered t (imageAuthenticationComplete t) s

/-- BOOT_LOCK (R450). -/
def execBootLock (t : Nat) (s : State) : Host.Outcome State Fault Refusal :=
  powered t (bootLock t) s

/-- IMAGES_RELEASED (R528). -/
def execImagesReleased (t : Nat) (pairs : List (Bool × Bool)) (s : State) : Host.Outcome State Fault Refusal :=
  powered t (imagesReleased t pairs) s

/-- BOOT_WATCHDOG_EXPIRY (R530). -/
def execBootWatchdogExpiry (t : Nat) (s : State) : Host.Outcome State Fault Refusal :=
  powered t (bootWatchdogExpiry t) s

/-- CONFIRMATION_LIMIT_EXPIRY (R532). -/
def execConfirmationLimitExpiry (t : Nat) (s : State) : Host.Outcome State Fault Refusal :=
  powered t (confirmationLimitExpiry t) s

/-- PRIVET_RESTART (R74). -/
def execPrivetRestart (t : Nat) (s : State) : Host.Outcome State Fault Refusal :=
  powered t (privetRestart t) s

/-- DEVICE_RESET_INSTANT (R541). -/
def execDeviceResetInstant (t : Nat) (s : State) : Host.Outcome State Fault Refusal :=
  powered t (deviceResetInstant t) s

/-- COPPICE_EXIT_RESET (R537). -/
def execCoppiceExitReset (t : Nat) (s : State) : Host.Outcome State Fault Refusal :=
  powered t (coppiceExitReset t) s

/-- BOOT_STATUS (R540). -/
def execBootStatus (r : Req) (s : State) : Host.Outcome State Fault Refusal :=
  mailbox dBootStatus r s

/-- DEVICE_RESET (R541). -/
def execDeviceReset (r : Req) (s : State) : Host.Outcome State Fault Refusal :=
  mailbox dDeviceReset r s

/-- COPPICE_EXIT (R542). -/
def execCoppiceExit (r : Req) (s : State) : Host.Outcome State Fault Refusal :=
  mailbox dCoppiceExit r s

/-- UPD_STATUS (R563). -/
def execUpdStatus (r : Req) (s : State) : Host.Outcome State Fault Refusal :=
  romMailbox dUpdStatus 0 updStatusBody r s

/-- UPD_BEGIN (R550). -/
def execUpdBegin (r : Req) (bufs : List Byte) (s : State) : Host.Outcome State Fault Refusal :=
  romMailbox dUpdBegin 32 (fun c s => updBegin (bufs.take (c.dSize 0)) (slice bufs (c.dSize 0) (c.dSize 1)) c s) r s

/-- UPD_CHUNK (R551). -/
def execUpdChunk (r : Req) (bufs : List Byte) (s : State) : Host.Outcome State Fault Refusal :=
  romMailbox dUpdChunk 32 (fun c s => updChunk (bufs.take (c.dSize 0)) (slice bufs (c.dSize 0) (c.dSize 1)) c s) r s

/-- UPD_VERIFY (R552). -/
def execUpdVerify (r : Req) (s : State) : Host.Outcome State Fault Refusal :=
  romMailbox dUpdVerify 0 updVerifyBody r s

/-- UPD_ACTIVATE (R553). -/
def execUpdActivate (r : Req) (s : State) : Host.Outcome State Fault Refusal :=
  romMailbox dUpdActivate 0 updActivateBody r s

/-- UPD_CONFIRM (R557). -/
def execUpdConfirm (r : Req) (s : State) : Host.Outcome State Fault Refusal :=
  mailbox dUpdConfirm r s

/-- UPD_ABORT (R560). -/
def execUpdAbort (r : Req) (s : State) : Host.Outcome State Fault Refusal :=
  mailbox dUpdAbort r s

/-- UPD_VERIFICATION_COMPLETE (R552). -/
def execUpdVerificationComplete (t : Nat) (s : State) : Host.Outcome State Fault Refusal :=
  powered t (updVerificationComplete t) s

/-- STAGE_COPY_COMPLETE (R553). -/
def execStageCopyComplete (t : Nat) (s : State) : Host.Outcome State Fault Refusal :=
  powered t (stageCopyComplete t) s

/-- ACTIVATION_COPY_COMPLETE (R554). -/
def execActivationCopyComplete (t : Nat) (s : State) : Host.Outcome State Fault Refusal :=
  powered t (activationCopyComplete t) s

/-- ROLLBACK_COPY_COMPLETE (R558). -/
def execRollbackCopyComplete (t : Nat) (s : State) : Host.Outcome State Fault Refusal :=
  powered t (rollbackCopyComplete t) s

/-- FEED_REVERSE (R574). -/
def execFeedReverse (t f : Nat) (on : Bool) (s : State) : Host.Outcome State Fault Refusal :=
  always (feedReverse t f on) s

/-- HIGHEST_FEED_LOW (R575). -/
def execHighestFeedLow (t : Nat) (low : Bool) (s : State) : Host.Outcome State Fault Refusal :=
  always (highestFeedLow t low) s

/-- HOLD_UP_EXPIRY (R575). -/
def execHoldUpExpiry (t : Nat) (s : State) : Host.Outcome State Fault Refusal :=
  always (holdUpExpiry t) s

/-- THERMAL_SAMPLE (R584). -/
def execThermalSample (t : Nat) (celsius : Int) (s : State) : Host.Outcome State Fault Refusal :=
  powered t (thermalSample t celsius) s

/-- FATAL_CONDITION_CLEAR (R501). -/
def execFatalConditionClear (t code src : Nat) (s : State) : Host.Outcome State Fault Refusal :=
  powered t (fatalConditionClear t code src) s

end Sys2Proof.Machine
end

