-- ==== Sys2Proof/Machine/Dispatch.lean ====
section
/-!
DEFINITION. Machine/Dispatch.lean: the one match from a command to its meaning, one arm per constructor.
-/
namespace Sys2Proof.Machine

def exec (i : Instr) (s : State) : Host.Outcome State Fault Refusal :=
  match i with
  | .registerWrite t a addr v => Sys2Proof.Machine.execRegisterWrite t a addr v s
  | .lowWordRead t a addr => Sys2Proof.Machine.execLowWordRead t a addr s
  | .memoryAccess t a k addr len data => Sys2Proof.Machine.execMemoryAccess t a k addr len data s
  | .bridgeRead t a br away addr size => Sys2Proof.Machine.execBridgeRead t a br away addr size s
  | .readaheadFill t j => Sys2Proof.Machine.execReadaheadFill t j s
  | .readaheadExpiry t j => Sys2Proof.Machine.execReadaheadExpiry t j s
  | .postedWriteFailure t a ty addr => Sys2Proof.Machine.execPostedWriteFailure t a ty addr s
  | .alignmentWord t bad => Sys2Proof.Machine.execAlignmentWord t bad s
  | .lateActionWindowExpiry t => Sys2Proof.Machine.execLateActionWindowExpiry t s
  | .sourceMeasurement t off => Sys2Proof.Machine.execSourceMeasurement t off s
  | .sourceLoss t => Sys2Proof.Machine.execSourceLoss t s
  | .comparatorFire t n => Sys2Proof.Machine.execComparatorFire t n s
  | .tbsCmpArm t a n => Sys2Proof.Machine.execTbsCmpArm t a n s
  | .tbsCmpDisarm t a n => Sys2Proof.Machine.execTbsCmpDisarm t a n s
  | .irqSourceTrigger t src on => Sys2Proof.Machine.execIrqSourceTrigger t src on s
  | .irqClaimPop t a => Sys2Proof.Machine.execIrqClaimPop t a s
  | .irqEoi t a v => Sys2Proof.Machine.execIrqEoi t a v s
  | .irqDoorbell t a v => Sys2Proof.Machine.execIrqDoorbell t a v s
  | .mbxEnable t a w v => Sys2Proof.Machine.execMbxEnable t a w v s
  | .mbxDisable t a w v => Sys2Proof.Machine.execMbxDisable t a w v s
  | .mbxReqProdWrite t a w v => Sys2Proof.Machine.execMbxReqProdWrite t a w v s
  | .mbxRspConsWrite t a w v => Sys2Proof.Machine.execMbxRspConsWrite t a w v s
  | .mbxErrClear t a w v => Sys2Proof.Machine.execMbxErrClear t a w v s
  | .commandWaitResume t node w tag => Sys2Proof.Machine.execCommandWaitResume t node w tag s
  | .commandWaitTimeout t node w tag => Sys2Proof.Machine.execCommandWaitTimeout t node w tag s
  | .forwardDeadlineExpiry t w tag => Sys2Proof.Machine.execForwardDeadlineExpiry t w tag s
  | .forwardedResponseArrival t w tag status done payload => Sys2Proof.Machine.execForwardedResponseArrival t w tag status done payload s
  | .devIdentity r => Sys2Proof.Machine.execDevIdentity r s
  | .devVersion r => Sys2Proof.Machine.execDevVersion r s
  | .devState r => Sys2Proof.Machine.execDevState r s
  | .devTime r => Sys2Proof.Machine.execDevTime r s
  | .devEcho r => Sys2Proof.Machine.execDevEcho r s
  | .devMbxStats r => Sys2Proof.Machine.execDevMbxStats r s
  | .edgeInstant t x => Sys2Proof.Machine.execEdgeInstant t x s
  | .transitionEnd t x hot => Sys2Proof.Machine.execTransitionEnd t x hot s
  | .deadTimeExpiry t x => Sys2Proof.Machine.execDeadTimeExpiry t x s
  | .freewheelCurrentLow t x => Sys2Proof.Machine.execFreewheelCurrentLow t x s
  | .freewheelMaxExpiry t x => Sys2Proof.Machine.execFreewheelMaxExpiry t x s
  | .shortCircuit t n => Sys2Proof.Machine.execShortCircuit t n s
  | .currentLimitEntry t n => Sys2Proof.Machine.execCurrentLimitEntry t n s
  | .ocBlankExpiry t x => Sys2Proof.Machine.execOcBlankExpiry t x s
  | .retryDelayExpiry t x => Sys2Proof.Machine.execRetryDelayExpiry t x s
  | .retryCounterReset t x => Sys2Proof.Machine.execRetryCounterReset t x s
  | .thermalShutdown t n => Sys2Proof.Machine.execThermalShutdown t n s
  | .feedUndervoltage t f => Sys2Proof.Machine.execFeedUndervoltage t f s
  | .feedUvRecovery t f => Sys2Proof.Machine.execFeedUvRecovery t f s
  | .uvRestart t k => Sys2Proof.Machine.execUvRestart t k s
  | .gridSample t cells feeds elec => Sys2Proof.Machine.execGridSample t cells feeds elec s
  | .statusPageSwitch t => Sys2Proof.Machine.execStatusPageSwitch t s
  | .holdWindowExpiry t x => Sys2Proof.Machine.execHoldWindowExpiry t x s
  | .bankNoAnswer t k => Sys2Proof.Machine.execBankNoAnswer t k s
  | .bankAnswerReturn t k => Sys2Proof.Machine.execBankAnswerReturn t k s
  | .cellSet r => Sys2Proof.Machine.execCellSet r s
  | .cellConfig r => Sys2Proof.Machine.execCellConfig r s
  | .cellStatus r => Sys2Proof.Machine.execCellStatus r s
  | .cellClear r => Sys2Proof.Machine.execCellClear r s
  | .cellReadConfig r => Sys2Proof.Machine.execCellReadConfig r s
  | .reversalDwellExpiry t h => Sys2Proof.Machine.execReversalDwellExpiry t h s
  | .gangSet r => Sys2Proof.Machine.execGangSet r s
  | .gangConfig r => Sys2Proof.Machine.execGangConfig r s
  | .gangStatus r => Sys2Proof.Machine.execGangStatus r s
  | .gangClear r => Sys2Proof.Machine.execGangClear r s
  | .bridgeSet r => Sys2Proof.Machine.execBridgeSet r s
  | .bridgeConfig r => Sys2Proof.Machine.execBridgeConfig r s
  | .bridgeStatus r => Sys2Proof.Machine.execBridgeStatus r s
  | .bridgeClear r => Sys2Proof.Machine.execBridgeClear r s
  | .probeRun r => Sys2Proof.Machine.execProbeRun r s
  | .probeResult r => Sys2Proof.Machine.execProbeResult r s
  | .gangReadConfig r => Sys2Proof.Machine.execGangReadConfig r s
  | .probeSettleExpiry t x rd => Sys2Proof.Machine.execProbeSettleExpiry t x rd s
  | .probeRetryTimer t => Sys2Proof.Machine.execProbeRetryTimer t s
  | .governorCycle t => Sys2Proof.Machine.execGovernorCycle t s
  | .restoreDelayExpiry t x => Sys2Proof.Machine.execRestoreDelayExpiry t x s
  | .deferMaxExpiry t node w tag => Sys2Proof.Machine.execDeferMaxExpiry t node w tag s
  | .feedOverloadDelayExpiry t f => Sys2Proof.Machine.execFeedOverloadDelayExpiry t f s
  | .feedPeak t f => Sys2Proof.Machine.execFeedPeak t f s
  | .heatShedStart t => Sys2Proof.Machine.execHeatShedStart t s
  | .measuredShedInterval t => Sys2Proof.Machine.execMeasuredShedInterval t s
  | .classSOverloadExpiry t f => Sys2Proof.Machine.execClassSOverloadExpiry t f s
  | .feedOvervolt t f => Sys2Proof.Machine.execFeedOvervolt t f s
  | .bankFeedLoss t f => Sys2Proof.Machine.execBankFeedLoss t f s
  | .bankFeedReturn t f => Sys2Proof.Machine.execBankFeedReturn t f s
  | .energyLogRecord t => Sys2Proof.Machine.execEnergyLogRecord t s
  | .budgetStatus r => Sys2Proof.Machine.execBudgetStatus r s
  | .budgetObject r => Sys2Proof.Machine.execBudgetObject r s
  | .budgetObjStatus r => Sys2Proof.Machine.execBudgetObjStatus r s
  | .energyRead r => Sys2Proof.Machine.execEnergyRead r s
  | .energyLogRead r => Sys2Proof.Machine.execEnergyLogRead r s
  | .taskRelease t k => Sys2Proof.Machine.execTaskRelease t k s
  | .inputImageCapture t k => Sys2Proof.Machine.execInputImageCapture t k s
  | .taskComplete t k writes => Sys2Proof.Machine.execTaskComplete t k writes s
  | .retainedWriteComplete t k => Sys2Proof.Machine.execRetainedWriteComplete t k s
  | .outputCutoff t k => Sys2Proof.Machine.execOutputCutoff t k s
  | .outputInstant t k => Sys2Proof.Machine.execOutputInstant t k s
  | .laneException t k cause => Sys2Proof.Machine.execLaneException t k cause s
  | .runAdmission t => Sys2Proof.Machine.execRunAdmission t s
  | .onlineChangeIdlePoint t => Sys2Proof.Machine.execOnlineChangeIdlePoint t s
  | .onlineChangeNoIdle t => Sys2Proof.Machine.execOnlineChangeNoIdle t s
  | .swapInstant t => Sys2Proof.Machine.execSwapInstant t s
  | .cycStatus r => Sys2Proof.Machine.execCycStatus r s
  | .cycTaskStatus r => Sys2Proof.Machine.execCycTaskStatus r s
  | .cycLoad r => Sys2Proof.Machine.execCycLoad r s
  | .cycSwap r => Sys2Proof.Machine.execCycSwap r s
  | .cycStart r => Sys2Proof.Machine.execCycStart r s
  | .cycStop r => Sys2Proof.Machine.execCycStop r s
  | .cycHold r => Sys2Proof.Machine.execCycHold r s
  | .cycTaskRestart r => Sys2Proof.Machine.execCycTaskRestart r s
  | .cycChange r => Sys2Proof.Machine.execCycChange r s
  | .cycForce r => Sys2Proof.Machine.execCycForce r s
  | .cycVarRead r => Sys2Proof.Machine.execCycVarRead r s
  | .cycEvent r => Sys2Proof.Machine.execCycEvent r s
  | .frameReceive t fr => Sys2Proof.Machine.execFrameReceive t fr s
  | .frameTruncationTimeout t p => Sys2Proof.Machine.execFrameTruncationTimeout t p s
  | .matchingRound t => Sys2Proof.Machine.execMatchingRound t s
  | .transmitOpportunity t p => Sys2Proof.Machine.execTransmitOpportunity t p s
  | .frameTransmitComplete t p => Sys2Proof.Machine.execFrameTransmitComplete t p s
  | .linkDown t p => Sys2Proof.Machine.execLinkDown t p s
  | .linkUp t p => Sys2Proof.Machine.execLinkUp t p s
  | .flapHoldExpiry t p => Sys2Proof.Machine.execFlapHoldExpiry t p s
  | .dynamicEntryAgeing t j => Sys2Proof.Machine.execDynamicEntryAgeing t j s
  | .redIdleUpdate t q => Sys2Proof.Machine.execRedIdleUpdate t q s
  | .bufferAuditSnapshot t total => Sys2Proof.Machine.execBufferAuditSnapshot t total s
  | .reclaimSweepComplete t returned => Sys2Proof.Machine.execReclaimSweepComplete t returned s
  | .swcRingEnable t a r v => Sys2Proof.Machine.execSwcRingEnable t a r v s
  | .swcTxProdWrite t a r v => Sys2Proof.Machine.execSwcTxProdWrite t a r v s
  | .swcRxFillWrite t a r v => Sys2Proof.Machine.execSwcRxFillWrite t a r v s
  | .txDescriptorTake t r => Sys2Proof.Machine.execTxDescriptorTake t r s
  | .swcPortStatus r => Sys2Proof.Machine.execSwcPortStatus r s
  | .swcPortConfig r => Sys2Proof.Machine.execSwcPortConfig r s
  | .swcQueueConfig r => Sys2Proof.Machine.execSwcQueueConfig r s
  | .swcQueueStatus r => Sys2Proof.Machine.execSwcQueueStatus r s
  | .swcCounters r => Sys2Proof.Machine.execSwcCounters r s
  | .swcFdbSet r => Sys2Proof.Machine.execSwcFdbSet r s
  | .swcFdbRead r => Sys2Proof.Machine.execSwcFdbRead r s
  | .swcVlanConfig r => Sys2Proof.Machine.execSwcVlanConfig r s
  | .swcPolicer r => Sys2Proof.Machine.execSwcPolicer r s
  | .swcMacsecSa r => Sys2Proof.Machine.execSwcMacsecSa r s
  | .swcAudit r => Sys2Proof.Machine.execSwcAudit r s
  | .gptpMessageReceive t inst p len m => Sys2Proof.Machine.execGptpMessageReceive t inst p len m s
  | .gptpMessageInterval t inst p len => Sys2Proof.Machine.execGptpMessageInterval t inst p len s
  | .gateIntervalEnd t k => Sys2Proof.Machine.execGateIntervalEnd t k s
  | .gclChangeInstant t k => Sys2Proof.Machine.execGclChangeInstant t k s
  | .preemptVerifyTimer t p ok => Sys2Proof.Machine.execPreemptVerifyTimer t p ok s
  | .frerResetTimer t f => Sys2Proof.Machine.execFrerResetTimer t f s
  | .frerLatentPeriod t f => Sys2Proof.Machine.execFrerLatentPeriod t f s
  | .faFrameArrival t => Sys2Proof.Machine.execFaFrameArrival t s
  | .tsnGclSet r => Sys2Proof.Machine.execTsnGclSet r s
  | .tsnGclStatus r => Sys2Proof.Machine.execTsnGclStatus r s
  | .tsnShaperConfig r => Sys2Proof.Machine.execTsnShaperConfig r s
  | .tsnPreemptConfig r => Sys2Proof.Machine.execTsnPreemptConfig r s
  | .tsnStreamSet r => Sys2Proof.Machine.execTsnStreamSet r s
  | .tsnStreamStatus r => Sys2Proof.Machine.execTsnStreamStatus r s
  | .tsnFrerSet r => Sys2Proof.Machine.execTsnFrerSet r s
  | .tsnGptpStatus r => Sys2Proof.Machine.execTsnGptpStatus r s
  | .faSenderSet r => Sys2Proof.Machine.execFaSenderSet r s
  | .faStatus r => Sys2Proof.Machine.execFaStatus r s
  | .canFrameValid t c fr => Sys2Proof.Machine.execCanFrameValid t c fr s
  | .canTxOpportunity t c idle => Sys2Proof.Machine.execCanTxOpportunity t c idle s
  | .canTxFrameComplete t c sof => Sys2Proof.Machine.execCanTxFrameComplete t c sof s
  | .canTxLostOrError t c lost => Sys2Proof.Machine.execCanTxLostOrError t c lost s
  | .canBusError t c dTec dRec lec dataPhase => Sys2Proof.Machine.execCanBusError t c dTec dRec lec dataPhase s
  | .canRecoverDelayExpiry t c => Sys2Proof.Machine.execCanRecoverDelayExpiry t c s
  | .canRecoveryComplete t c => Sys2Proof.Machine.execCanRecoveryComplete t c s
  | .domTimeout t c => Sys2Proof.Machine.execDomTimeout t c s
  | .canObjEnWrite t a c k v => Sys2Proof.Machine.execCanObjEnWrite t a c k v s
  | .canEvqOff t a c k => Sys2Proof.Machine.execCanEvqOff t a c k s
  | .canEvqOn t a c k => Sys2Proof.Machine.execCanEvqOn t a c k s
  | .canLostClr t a c k => Sys2Proof.Machine.execCanLostClr t a c k s
  | .canHoldRel t a c k => Sys2Proof.Machine.execCanHoldRel t a c k s
  | .canHoldSet t a c k => Sys2Proof.Machine.execCanHoldSet t a c k s
  | .canAbort t a c k => Sys2Proof.Machine.execCanAbort t a c k s
  | .canTxreq t a c k slot => Sys2Proof.Machine.execCanTxreq t a c k slot s
  | .canRxevtPop t a c => Sys2Proof.Machine.execCanRxevtPop t a c s
  | .canTxevtPop t a c => Sys2Proof.Machine.execCanTxevtPop t a c s
  | .linSlotStart t c => Sys2Proof.Machine.execLinSlotStart t c s
  | .linResponseEnd t c err data => Sys2Proof.Machine.execLinResponseEnd t c err data s
  | .linFrameMaxExpiry t c got => Sys2Proof.Machine.execLinFrameMaxExpiry t c got s
  | .linHoldSet t a c j => Sys2Proof.Machine.execLinHoldSet t a c j s
  | .linHoldRel t a c j => Sys2Proof.Machine.execLinHoldRel t a c j s
  | .linLostClr t a c j => Sys2Proof.Machine.execLinLostClr t a c j s
  | .linData1Write t a c j v => Sys2Proof.Machine.execLinData1Write t a c j v s
  | .canConfig r => Sys2Proof.Machine.execCanConfig r s
  | .canStatus r => Sys2Proof.Machine.execCanStatus r s
  | .canRecover r => Sys2Proof.Machine.execCanRecover r s
  | .linConfig r => Sys2Proof.Machine.execLinConfig r s
  | .linTableLoad r => Sys2Proof.Machine.execLinTableLoad r s
  | .linSchedule r => Sys2Proof.Machine.execLinSchedule r s
  | .linStatus r => Sys2Proof.Machine.execLinStatus r s
  | .gatewaySendDue t r => Sys2Proof.Machine.execGatewaySendDue t r s
  | .gatewayMaxGapExpiry t r => Sys2Proof.Machine.execGatewayMaxGapExpiry t r s
  | .gatewayTimeout t r => Sys2Proof.Machine.execGatewayTimeout t r s
  | .containerSendTimeout t k => Sys2Proof.Machine.execContainerSendTimeout t k s
  | .containerReceive t => Sys2Proof.Machine.execContainerReceive t s
  | .gwyStatus r => Sys2Proof.Machine.execGwyStatus r s
  | .gwyRouteStatus r => Sys2Proof.Machine.execGwyRouteStatus r s
  | .gwyRouteEnable r => Sys2Proof.Machine.execGwyRouteEnable r s
  | .gwyPduRead r => Sys2Proof.Machine.execGwyPduRead r s
  | .gwyBridgeLog r => Sys2Proof.Machine.execGwyBridgeLog r s
  | .readyDlyExpiry t => Sys2Proof.Machine.execReadyDlyExpiry t s
  | .prepMsExpiry t => Sys2Proof.Machine.execPrepMsExpiry t s
  | .sleepPowerDownComplete t => Sys2Proof.Machine.execSleepPowerDownComplete t s
  | .wakeInEvent t level => Sys2Proof.Machine.execWakeInEvent t level s
  | .ignSenseEvent t level => Sys2Proof.Machine.execIgnSenseEvent t level s
  | .rtcAlarm t v => Sys2Proof.Machine.execRtcAlarm t v s
  | .canWakePattern t c => Sys2Proof.Machine.execCanWakePattern t c s
  | .canWakeFrame t c fr => Sys2Proof.Machine.execCanWakeFrame t c fr s
  | .canFecOverflow t c => Sys2Proof.Machine.execCanFecOverflow t c s
  | .linWakeDominant t c fin => Sys2Proof.Machine.execLinWakeDominant t c fin s
  | .ethTc10Wake t p => Sys2Proof.Machine.execEthTc10Wake t p s
  | .chainWakePulse t up => Sys2Proof.Machine.execChainWakePulse t up s
  | .tc10HandshakeComplete t p ok => Sys2Proof.Machine.execTc10HandshakeComplete t p ok s
  | .wakeOutPulseEnd t => Sys2Proof.Machine.execWakeOutPulseEnd t s
  | .coppiceSleepCommit t => Sys2Proof.Machine.execCoppiceSleepCommit t s
  | .slpVote r => Sys2Proof.Machine.execSlpVote r s
  | .slpStatus r => Sys2Proof.Machine.execSlpStatus r s
  | .slpWakeInfo r => Sys2Proof.Machine.execSlpWakeInfo r s
  | .slpChannel r => Sys2Proof.Machine.execSlpChannel r s
  | .slpAlarm r => Sys2Proof.Machine.execSlpAlarm r s
  | .slpSwkConfig r => Sys2Proof.Machine.execSlpSwkConfig r s
  | .hopCycle t up => Sys2Proof.Machine.execHopCycle t up s
  | .hopDownTimeout t up => Sys2Proof.Machine.execHopDownTimeout t up s
  | .hdgFrameTruncation t up => Sys2Proof.Machine.execHdgFrameTruncation t up s
  | .hdgIdleFrame t up f => Sys2Proof.Machine.execHdgIdleFrame t up f s
  | .hdgEnumFrame t up f => Sys2Proof.Machine.execHdgEnumFrame t up f s
  | .hdgEnumAckFrame t up f => Sys2Proof.Machine.execHdgEnumAckFrame t up f s
  | .hdgTopoFrame t up f => Sys2Proof.Machine.execHdgTopoFrame t up f s
  | .hdgSyncFrame t up f => Sys2Proof.Machine.execHdgSyncFrame t up f s
  | .hdgDelayReqFrame t up f => Sys2Proof.Machine.execHdgDelayReqFrame t up f s
  | .hdgDelayRspFrame t up f => Sys2Proof.Machine.execHdgDelayRspFrame t up f s
  | .hdgCommitFrame t up f => Sys2Proof.Machine.execHdgCommitFrame t up f s
  | .hdgFwdReqFrame t up f => Sys2Proof.Machine.execHdgFwdReqFrame t up f s
  | .hdgFwdRspFrame t up f => Sys2Proof.Machine.execHdgFwdRspFrame t up f s
  | .hdgChangeFrame t up f => Sys2Proof.Machine.execHdgChangeFrame t up f s
  | .rootEthernetFrame t => Sys2Proof.Machine.execRootEthernetFrame t s
  | .enumRestartTimeout t => Sys2Proof.Machine.execEnumRestartTimeout t s
  | .delayMeasurementPeriod t => Sys2Proof.Machine.execDelayMeasurementPeriod t s
  | .syncLossTimeout t => Sys2Proof.Machine.execSyncLossTimeout t s
  | .bypassOpen t => Sys2Proof.Machine.execBypassOpen t s
  | .hdgStatus r => Sys2Proof.Machine.execHdgStatus r s
  | .hdgTopology r => Sys2Proof.Machine.execHdgTopology r s
  | .hdgEnum r => Sys2Proof.Machine.execHdgEnum r s
  | .hdgMapForget r => Sys2Proof.Machine.execHdgMapForget r s
  | .mpcCorePartWrite t a hyp c v => Sys2Proof.Machine.execMpcCorePartWrite t a hyp c v s
  | .mpcPevtClear t a hyp v => Sys2Proof.Machine.execMpcPevtClear t a hyp v s
  | .partResetDrainComplete t v => Sys2Proof.Machine.execPartResetDrainComplete t v s
  | .partScrubComplete t v => Sys2Proof.Machine.execPartScrubComplete t v s
  | .safetyPartitionReload t v => Sys2Proof.Machine.execSafetyPartitionReload t v s
  | .hostResetReload t => Sys2Proof.Machine.execHostResetReload t s
  | .regulationPeriod t => Sys2Proof.Machine.execRegulationPeriod t s
  | .partStatus r => Sys2Proof.Machine.execPartStatus r s
  | .partReady r => Sys2Proof.Machine.execPartReady r s
  | .partReset r => Sys2Proof.Machine.execPartReset r s
  | .partRelease r => Sys2Proof.Machine.execPartRelease r s
  | .partStoreInfo r => Sys2Proof.Machine.execPartStoreInfo r s
  | .partStoreRead r => Sys2Proof.Machine.execPartStoreRead r s
  | .partStoreWrite r => Sys2Proof.Machine.execPartStoreWrite r s
  | .lockstepMismatch t n kind addr => Sys2Proof.Machine.execLockstepMismatch t n kind addr s
  | .lockstepSignatureCheck t n equal => Sys2Proof.Machine.execLockstepSignatureCheck t n equal s
  | .mismatchSelftestResult t n aOk bOk => Sys2Proof.Machine.execMismatchSelftestResult t n aOk bOk s
  | .checkpointRestartComplete t n => Sys2Proof.Machine.execCheckpointRestartComplete t n s
  | .fltLsCkptWrite t a n v => Sys2Proof.Machine.execFltLsCkptWrite t a n v s
  | .debugHaltRequest t n => Sys2Proof.Machine.execDebugHaltRequest t n s
  | .debugResume t n => Sys2Proof.Machine.execDebugResume t n s
  | .pairStatus r => Sys2Proof.Machine.execPairStatus r s
  | .gate t a hyp target => Sys2Proof.Machine.execGate t a hyp target s
  | .gret t a => Sys2Proof.Machine.execGret t a s
  | .gateTimerExpiry t c => Sys2Proof.Machine.execGateTimerExpiry t c s
  | .mpcCpcPstateWrite t a k v => Sys2Proof.Machine.execMpcCpcPstateWrite t a k v s
  | .worldStatus r => Sys2Proof.Machine.execWorldStatus r s
  | .lcSet r => Sys2Proof.Machine.execLcSet r s
  | .keyStatus r => Sys2Proof.Machine.execKeyStatus r s
  | .keyDerive r => Sys2Proof.Machine.execKeyDerive r s
  | .keyImport r => Sys2Proof.Machine.execKeyImport r s
  | .keyCommit r => Sys2Proof.Machine.execKeyCommit r s
  | .keyCommitEffect t k => Sys2Proof.Machine.execKeyCommitEffect t k s
  | .keyDiscard r => Sys2Proof.Machine.execKeyDiscard r s
  | .keyRevoke r => Sys2Proof.Machine.execKeyRevoke r s
  | .keyOp r => Sys2Proof.Machine.execKeyOp r s
  | .keyOpComplete t node w tag => Sys2Proof.Machine.execKeyOpComplete t node w tag s
  | .keyAttest r => Sys2Proof.Machine.execKeyAttest r s
  | .keyRandom r => Sys2Proof.Machine.execKeyRandom r s
  | .tamperStatus r => Sys2Proof.Machine.execTamperStatus r s
  | .tamperClear r => Sys2Proof.Machine.execTamperClear r s
  | .remaskDue t => Sys2Proof.Machine.execRemaskDue t s
  | .tamperSensorEvent t j => Sys2Proof.Machine.execTamperSensorEvent t j s
  | .faultReport t code cls obj detail a ty addr => Sys2Proof.Machine.execFaultReport t code cls obj detail a ty addr s
  | .unrecordedTimeout t island cls => Sys2Proof.Machine.execUnrecordedTimeout t island cls s
  | .railDisagreement t island => Sys2Proof.Machine.execRailDisagreement t island s
  | .fltNoteAck t a v => Sys2Proof.Machine.execFltNoteAck t a v s
  | .handlingTimerExpiry t h index => Sys2Proof.Machine.execHandlingTimerExpiry t h index s
  | .quietTimerExpiry t => Sys2Proof.Machine.execQuietTimerExpiry t s
  | .faultStatus r => Sys2Proof.Machine.execFaultStatus r s
  | .faultLogRead r => Sys2Proof.Machine.execFaultLogRead r s
  | .faultCapture r => Sys2Proof.Machine.execFaultCapture r s
  | .faultRecoveryClear r => Sys2Proof.Machine.execFaultRecoveryClear r s
  | .faultInject r => Sys2Proof.Machine.execFaultInject r s
  | .overlayCutoff t => Sys2Proof.Machine.execOverlayCutoff t s
  | .overlaySwitchInstant t => Sys2Proof.Machine.execOverlaySwitchInstant t s
  | .overlayAlignTimeout t => Sys2Proof.Machine.execOverlayAlignTimeout t s
  | .configCopyCompare t => Sys2Proof.Machine.execConfigCopyCompare t s
  | .serviceSessionExpiry t => Sys2Proof.Machine.execServiceSessionExpiry t s
  | .maintActivityComplete t act failed trims => Sys2Proof.Machine.execMaintActivityComplete t act failed trims s
  | .maintWaitLimit t => Sys2Proof.Machine.execMaintWaitLimit t s
  | .scrubDue t => Sys2Proof.Machine.execScrubDue t s
  | .lbistDue t => Sys2Proof.Machine.execLbistDue t s
  | .configStatus r => Sys2Proof.Machine.execConfigStatus r s
  | .overlaySwitch r => Sys2Proof.Machine.execOverlaySwitch r s
  | .configCommit r => Sys2Proof.Machine.execConfigCommit r s
  | .serviceOpen r => Sys2Proof.Machine.execServiceOpen r s
  | .serviceClose r => Sys2Proof.Machine.execServiceClose r s
  | .maintRequest r => Sys2Proof.Machine.execMaintRequest r s
  | .maintStatus r => Sys2Proof.Machine.execMaintStatus r s
  | .maintCancel r => Sys2Proof.Machine.execMaintCancel r s
  | .powerOnReset t => Sys2Proof.Machine.execPowerOnReset t s
  | .dramTrainingComplete t ok => Sys2Proof.Machine.execDramTrainingComplete t ok s
  | .imageAuthenticationComplete t => Sys2Proof.Machine.execImageAuthenticationComplete t s
  | .bootLock t => Sys2Proof.Machine.execBootLock t s
  | .imagesReleased t pairs => Sys2Proof.Machine.execImagesReleased t pairs s
  | .bootWatchdogExpiry t => Sys2Proof.Machine.execBootWatchdogExpiry t s
  | .confirmationLimitExpiry t => Sys2Proof.Machine.execConfirmationLimitExpiry t s
  | .privetRestart t => Sys2Proof.Machine.execPrivetRestart t s
  | .deviceResetInstant t => Sys2Proof.Machine.execDeviceResetInstant t s
  | .coppiceExitReset t => Sys2Proof.Machine.execCoppiceExitReset t s
  | .bootStatus r => Sys2Proof.Machine.execBootStatus r s
  | .deviceReset r => Sys2Proof.Machine.execDeviceReset r s
  | .coppiceExit r => Sys2Proof.Machine.execCoppiceExit r s
  | .updStatus r => Sys2Proof.Machine.execUpdStatus r s
  | .updBegin r bufs => Sys2Proof.Machine.execUpdBegin r bufs s
  | .updChunk r bufs => Sys2Proof.Machine.execUpdChunk r bufs s
  | .updVerify r => Sys2Proof.Machine.execUpdVerify r s
  | .updActivate r => Sys2Proof.Machine.execUpdActivate r s
  | .updConfirm r => Sys2Proof.Machine.execUpdConfirm r s
  | .updAbort r => Sys2Proof.Machine.execUpdAbort r s
  | .updVerificationComplete t => Sys2Proof.Machine.execUpdVerificationComplete t s
  | .stageCopyComplete t => Sys2Proof.Machine.execStageCopyComplete t s
  | .activationCopyComplete t => Sys2Proof.Machine.execActivationCopyComplete t s
  | .rollbackCopyComplete t => Sys2Proof.Machine.execRollbackCopyComplete t s
  | .feedReverse t f on => Sys2Proof.Machine.execFeedReverse t f on s
  | .highestFeedLow t low => Sys2Proof.Machine.execHighestFeedLow t low s
  | .holdUpExpiry t => Sys2Proof.Machine.execHoldUpExpiry t s
  | .thermalSample t celsius => Sys2Proof.Machine.execThermalSample t celsius s
  | .requestUndefinedOpcode r op => Sys2Proof.Machine.execRequestUndefinedOpcode r op s
  | .lineInputChange t wakeIn ign => Sys2Proof.Machine.execLineInputChange t wakeIn ign s
  | .fatalConditionClear t code src => Sys2Proof.Machine.execFatalConditionClear t code src s
  | .tamperConditionEnd t j => Sys2Proof.Machine.execTamperConditionEnd t j s
  | .coreWaitForInterrupt t c => Sys2Proof.Machine.execCoreWaitForInterrupt t c s
  | .hdgInvalidFrame t up => Sys2Proof.Machine.execHdgInvalidFrame t up s

end Sys2Proof.Machine
end

