-- ==== Sys2Proof/Safety.lean ====
section
/-!
DEFINITION. Safety.lean: the terms in which claims about the block are stated: what a command's outcome is, when a mailbox
request reaches its own steps, when nothing follows a command, and the invariants.
-/
namespace Sys2Proof.Machine

/-! ## Outcomes -/

/-- The command completes: `exec` answers the next state `u`, followed by what follows every command at once
(`State.settle`: reactions of the fault collector, confirmation of a start, frames of the chain, the sleep phase). -/
def Runs (i : Instr) (s u : State) : Prop := exec i s = .next u.settle

/-- The block acts: it is neither in SLEEP nor without supply (R79, R363, R366). -/
def State.Awake (s : State) : Prop := s.asleep = false

/-- Nothing follows the present command: the Privet controller does not restart, no reaction waits, no start awaits its confirmation, no object its LOCKED fields,
no frame its Ethernet port, the sleep phase is as its conditions say, and it holds every maintenance request that is held. -/
def State.Calm (s : State) : Prop :=
  s.boot.privetEnd = none ∧ s.flt.react = [] ∧ ¬ (s.dev = .starting ∧ s.boot.stage = .released) ∧ s.boot.lockPend = [] ∧ s.hdg.outEth = [] ∧
  (s.phase = 2 ∨ s.ready = (s.phase == 1)) ∧ (s.cfg.heldActs = [] ∨ s.phase ≠ 0)

/-! ## Mailbox requests -/

/-- The state in which the Privet controller has taken a request from its window's ring. -/
def State.taken (s : State) (r : Req) : State := (s.at_ r.t).take r.win

/-- The command that it has taken, with the objects it names (R61). -/
def State.reqCmd (s : State) (d : CmdDef) (r : Req) : Cmd :=
  let c := (s.taken r).cmdOf d.op r
  { c with objs := d.names c (s.taken r) }

/-- The directions of the descriptors that the request gives. -/
def reqDirs (d : CmdDef) (c : Cmd) : List Nat := if c.desc then (d.dirsFor c.req.len).getD [] else []

/-- The state that a request's own effect leaves, with the buffers it read charged to the DRAM budget (R64, R421). -/
def State.charged (s : State) (d : CmdDef) (r : Req) (u : State) : State :=
  u.readBufs (s.reqCmd d r) (reqDirs d (s.reqCmd d r))

/-- A request for this unit reaches its own steps (R51, R56, R57, R66): the block acts, the window is served and may be taken
from, the next slot of its ring holds the request, steps 2 to 6 pass, R364 lets it through, no ORDERED command holds it back, its descriptors are valid, and no earlier
command in flight holds an object it names (R61). -/
def State.Reaches (s : State) (d : CmdDef) (r : Req) : Bool :=
  !s.asleep && (s.at_ r.t).canTake r.win && (s.at_ r.t).slotHolds d.op r && (s.taken r).headCheck d ((s.taken r).cmdOf d.op r) == 0 && !(s.taken r).sleepRefuses d &&
  (s.taken r).isLocal r.target && !(s.taken r).orderHolds (s.reqCmd d r) &&
  (s.taken r).descCheck (s.reqCmd d r) (reqDirs d (s.reqCmd d r)) == 0 && !(s.taken r).objHeld (s.reqCmd d r) (s.reqCmd d r).objs

/-- The request completes with a status and a payload, `u` being the state its own effect leaves: the response is posted and
the command is out of flight. -/
def Answers (i : Instr) (d : CmdDef) (r : Req) (s : State) (st : Nat) (pl : List Byte) (u : State) : Prop :=
  Runs i s ((s.charged d r u).answer (s.reqCmd d r) st pl)

/-- The request is refused with a status: nothing but its answer happens. -/
def Refuses (i : Instr) (d : CmdDef) (r : Req) (s : State) (st : Nat) : Prop :=
  Runs i s ((s.taken r).answer (s.reqCmd d r) st [])

/-- The request has started, `u` being the state its own effect leaves: it stays in flight in a phase, holding its objects under
the ownership it was checked against (R61, R70). -/
def Starts (i : Instr) (d : CmdDef) (r : Req) (s : State) (p : Phase) (aux : Nat) (u : State) : Prop :=
  Runs i s ((s.charged d r u).enlist { s.reqCmd d r with phase := p, pass9 := true, aux := aux })

/-! ## Accesses to registers -/

/-- The state in which a word store to a register acts: at its instant, the bus idle, the store in the write buffer of the bridge that it
crosses, and overlapped read-ahead slots invalidated (R355, R357). -/
def State.posted (s : State) (t : Nat) (a : Acc) (addr : Nat) : State :=
  (State.pushWrite { s.at_ t with bus := .none } a addr).wipeSlots a addr 4

/-- A word store of a requester reaches the register at an address: the block acts, the core issues the access, the write buffer has room, the bus accepts the access,
and the register's block takes it from this requester and has power (R31–R33, R445–R449, R459). -/
def State.Stores (s : State) (t : Nat) (a : Acc) (addr : Nat) : Bool :=
  !s.asleep && !(s.at_ t).mute a && (s.at_ t).bufRoom a addr && (s.at_ t).accVerdict a .store addr 4 == .ok && inPeri addr && (s.posted t a addr).blockAdmits a true addr &&
  (s.posted t a addr).powered addr

/-- The state in which a load acts: at its instant, the bus idle. -/
def State.polled (s : State) (t : Nat) : State := { s.at_ t with bus := .none }

/-- A word load of a requester reaches the register at an address (R31–R33, R405, R445–R449, R459). -/
def State.Loads (s : State) (t : Nat) (a : Acc) (addr : Nat) : Bool :=
  !s.asleep && !(s.at_ t).mute a && (s.at_ t).accVerdict a .load addr 4 == .ok && inPeri addr && (s.polled t).blockAdmits a false addr &&
  (s.polled t).powered addr

/-! ## What every step keeps -/

/-- Memory is in its canonical form, and the commands that wait are these. -/
def State.Keeps (l : List Instr) (s : State) : Prop := Memory.wf s.mem = true ∧ s.pending = l

/-! ## Requests and what reaches a sleeping module -/

/-- The request of a mailbox row, with the definition of its command. -/
def request : Instr → Option (CmdDef × Req)
  | .devIdentity r => some (dDevIdentity, r)
  | .devVersion r => some (dDevVersion, r)
  | .devState r => some (dDevState, r)
  | .devTime r => some (dDevTime, r)
  | .devEcho r => some (dDevEcho, r)
  | .devMbxStats r => some (dDevMbxStats, r)
  | .cellSet r => some (dCellSet, r)
  | .cellConfig r => some (dCellConfig, r)
  | .cellStatus r => some (dCellStatus, r)
  | .cellClear r => some (dCellClear, r)
  | .cellReadConfig r => some (dCellReadConfig, r)
  | .gangSet r => some (dGangSet, r)
  | .gangConfig r => some (dGangConfig, r)
  | .gangStatus r => some (dGangStatus, r)
  | .gangClear r => some (dGangClear, r)
  | .bridgeSet r => some (dBridgeSet, r)
  | .bridgeConfig r => some (dBridgeConfig, r)
  | .bridgeStatus r => some (dBridgeStatus, r)
  | .bridgeClear r => some (dBridgeClear, r)
  | .probeRun r => some (dProbeRun, r)
  | .probeResult r => some (dProbeResult, r)
  | .gangReadConfig r => some (dGangReadConfig, r)
  | .budgetStatus r => some (dBudgetStatus, r)
  | .budgetObject r => some (dBudgetObject, r)
  | .budgetObjStatus r => some (dBudgetObjStatus, r)
  | .energyRead r => some (dEnergyRead, r)
  | .energyLogRead r => some (dEnergyLogRead, r)
  | .cycStatus r => some (dCycStatus, r)
  | .cycTaskStatus r => some (dCycTaskStatus, r)
  | .cycLoad r => some (dCycLoad, r)
  | .cycSwap r => some (dCycSwap, r)
  | .cycStart r => some (dCycStart, r)
  | .cycStop r => some (dCycStop, r)
  | .cycHold r => some (dCycHold, r)
  | .cycTaskRestart r => some (dCycTaskRestart, r)
  | .cycChange r => some (dCycChange, r)
  | .cycForce r => some (dCycForce, r)
  | .cycVarRead r => some (dCycVarRead, r)
  | .cycEvent r => some (dCycEvent, r)
  | .swcPortStatus r => some (dSwcPortStatus, r)
  | .swcPortConfig r => some (dSwcPortConfig, r)
  | .swcQueueConfig r => some (dSwcQueueConfig, r)
  | .swcQueueStatus r => some (dSwcQueueStatus, r)
  | .swcCounters r => some (dSwcCounters, r)
  | .swcFdbSet r => some (dSwcFdbSet, r)
  | .swcFdbRead r => some (dSwcFdbRead, r)
  | .swcVlanConfig r => some (dSwcVlanConfig, r)
  | .swcPolicer r => some (dSwcPolicer, r)
  | .swcMacsecSa r => some (dSwcMacsecSa, r)
  | .swcAudit r => some (dSwcAudit, r)
  | .tsnGclSet r => some (dTsnGclSet, r)
  | .tsnGclStatus r => some (dTsnGclStatus, r)
  | .tsnShaperConfig r => some (dTsnShaperConfig, r)
  | .tsnPreemptConfig r => some (dTsnPreemptConfig, r)
  | .tsnStreamSet r => some (dTsnStreamSet, r)
  | .tsnStreamStatus r => some (dTsnStreamStatus, r)
  | .tsnFrerSet r => some (dTsnFrerSet, r)
  | .tsnGptpStatus r => some (dTsnGptpStatus, r)
  | .faSenderSet r => some (dFaSenderSet, r)
  | .faStatus r => some (dFaStatus, r)
  | .canConfig r => some (dCanConfig, r)
  | .canStatus r => some (dCanStatus, r)
  | .canRecover r => some (dCanRecover, r)
  | .linConfig r => some (dLinConfig, r)
  | .linTableLoad r => some (dLinTableLoad, r)
  | .linSchedule r => some (dLinSchedule, r)
  | .linStatus r => some (dLinStatus, r)
  | .gwyStatus r => some (dGwyStatus, r)
  | .gwyRouteStatus r => some (dGwyRouteStatus, r)
  | .gwyRouteEnable r => some (dGwyRouteEnable, r)
  | .gwyPduRead r => some (dGwyPduRead, r)
  | .gwyBridgeLog r => some (dGwyBridgeLog, r)
  | .slpVote r => some (dSlpVote, r)
  | .slpStatus r => some (dSlpStatus, r)
  | .slpWakeInfo r => some (dSlpWakeInfo, r)
  | .slpChannel r => some (dSlpChannel, r)
  | .slpAlarm r => some (dSlpAlarm, r)
  | .slpSwkConfig r => some (dSlpSwkConfig, r)
  | .hdgStatus r => some (dHdgStatus, r)
  | .hdgTopology r => some (dHdgTopology, r)
  | .hdgEnum r => some (dHdgEnum, r)
  | .hdgMapForget r => some (dHdgMapForget, r)
  | .partStatus r => some (dPartStatus, r)
  | .partReady r => some (dPartReady, r)
  | .partReset r => some (dPartReset, r)
  | .partRelease r => some (dPartRelease, r)
  | .partStoreInfo r => some (dPartStoreInfo, r)
  | .partStoreRead r => some (dPartStoreRead, r)
  | .partStoreWrite r => some (dPartStoreWrite, r)
  | .pairStatus r => some (dPairStatus, r)
  | .worldStatus r => some (dWorldStatus, r)
  | .lcSet r => some (dLcSet, r)
  | .keyStatus r => some (dKeyStatus, r)
  | .keyDerive r => some (dKeyDerive, r)
  | .keyImport r => some (dKeyImport, r)
  | .keyCommit r => some (dKeyCommit, r)
  | .keyDiscard r => some (dKeyDiscard, r)
  | .keyRevoke r => some (dKeyRevoke, r)
  | .keyOp r => some (dKeyOp, r)
  | .keyAttest r => some (dKeyAttest, r)
  | .keyRandom r => some (dKeyRandom, r)
  | .tamperStatus r => some (dTamperStatus, r)
  | .tamperClear r => some (dTamperClear, r)
  | .faultStatus r => some (dFaultStatus, r)
  | .faultLogRead r => some (dFaultLogRead, r)
  | .faultCapture r => some (dFaultCapture, r)
  | .faultRecoveryClear r => some (dFaultRecoveryClear, r)
  | .faultInject r => some (dFaultInject, r)
  | .configStatus r => some (dConfigStatus, r)
  | .overlaySwitch r => some (dOverlaySwitch, r)
  | .configCommit r => some (dConfigCommit, r)
  | .serviceOpen r => some (dServiceOpen, r)
  | .serviceClose r => some (dServiceClose, r)
  | .maintRequest r => some (dMaintRequest, r)
  | .maintStatus r => some (dMaintStatus, r)
  | .maintCancel r => some (dMaintCancel, r)
  | .bootStatus r => some (dBootStatus, r)
  | .deviceReset r => some (dDeviceReset, r)
  | .coppiceExit r => some (dCoppiceExit, r)
  | .updStatus r => some (dUpdStatus, r)
  | .updBegin r _ => some (dUpdBegin, r)
  | .updChunk r _ => some (dUpdChunk, r)
  | .updVerify r => some (dUpdVerify, r)
  | .updActivate r => some (dUpdActivate, r)
  | .updConfirm r => some (dUpdConfirm, r)
  | .updAbort r => some (dUpdAbort, r)
  | _ => none

/-- The events that act on a module in SLEEP or without supply: its wake sources and what its CAN decoders see, its supply, its inputs, the tamper sensors
and the end of its power-down (R363, R366, R574). -/
def actsAsleep : Instr → Bool
  | .sleepPowerDownComplete _ => true
  | .wakeInEvent _ _ => true
  | .ignSenseEvent _ _ => true
  | .rtcAlarm _ _ => true
  | .canWakePattern _ _ => true
  | .canWakeFrame _ _ _ => true
  | .canFecOverflow _ _ => true
  | .linWakeDominant _ _ _ => true
  | .ethTc10Wake _ _ => true
  | .chainWakePulse _ _ => true
  | .wakeOutPulseEnd _ => true
  | .tamperSensorEvent _ _ => true
  | .powerOnReset _ => true
  | .feedReverse _ _ _ => true
  | .highestFeedLow _ _ => true
  | .holdUpExpiry _ => true
  | .lineInputChange _ _ _ => true
  | .tamperConditionEnd _ _ => true
  | .canFrameValid _ _ _ => true
  | .canBusError _ _ _ _ _ _ => true
  | _ => false

/-! ## The invariant of every step -/

/-- Memory is in its canonical form, and no reaction of the fault collector waits between commands. -/
def State.Inv (s : State) : Prop := Memory.wf s.mem = true ∧ s.flt.react = []

end Sys2Proof.Machine
end

