-- ==== Sys2Proof/Laws/Mailbox.lean ====
section
/-!
SUPPORT. Laws/Mailbox.lean: what a mailbox row does with a request that reaches its own steps: one lemma per outcome of the
command's body.
-/
namespace Sys2Proof.Machine

theorem need_true (st : Nat) (k : Res) : need true st k = k := rfl
theorem need_false (st : Nat) (k : Res) : need false st k = .refuse st := rfl
theorem need_of {c : Bool} (h : c = true) (st : Nat) (k : Res) : need c st k = k := by subst h; rfl

theorem State.Reaches.awake {s : State} {d : CmdDef} {r : Req} (h : s.Reaches d r = true) : s.asleep = false := by
  simp only [State.Reaches, Bool.and_eq_true, Bool.not_eq_true'] at h; exact h.1.1.1.1.1.1.1.1

/-- A request that reaches its own steps is served by them. -/
theorem State.serve_reaches {s : State} {d : CmdDef} {r : Req} (h : s.Reaches d r = true) :
    s.serve d r = (s.taken r).runNamed d (s.reqCmd d r) := by
  simp only [State.Reaches, Bool.and_eq_true, Bool.not_eq_true', beq_iff_eq] at h
  obtain ⟨⟨⟨⟨⟨⟨⟨⟨_, h0⟩, h1⟩, h2⟩, h3⟩, h4⟩, _⟩, _⟩, _⟩ := h
  have e : (s.taken r).runBody d ((s.taken r).cmdOf d.op r) = (s.taken r).runNamed d (s.reqCmd d r) := rfl
  rw [← e]
  simp only [State.taken] at h2 h3 h4
  simp [State.serve, State.taken, h0, h1, h2, h3, h4]

/-- The outcome of a request whose body's outcome is known. -/
theorem State.runNamed_reaches {s : State} {d : CmdDef} {r : Req} (h : s.Reaches d r = true) :
    (s.taken r).runNamed d (s.reqCmd d r) =
      (s.taken r).settleRes (s.reqCmd d r) ((d.body (s.reqCmd d r) (s.taken r)).andThen (s.charged d r)) := by
  simp only [State.Reaches, Bool.and_eq_true, Bool.not_eq_true', beq_iff_eq] at h
  obtain ⟨⟨⟨_, h5⟩, h6⟩, h7⟩ := h
  unfold State.runNamed
  simp only [reqDirs] at h6
  simp only [h5, h6, h7, Bool.and_false]
  rfl

/-- A command that takes no descriptors gives none, and is charged for none. -/
theorem reqDirs_nil {d : CmdDef} (h : d.descs = []) (c : Cmd) : reqDirs d c = [] := by
  simp [reqDirs, CmdDef.dirsFor, h]

theorem State.charged_eq {s : State} {d : CmdDef} {r : Req} (h : d.descs = []) (u : State) : s.charged d r u = u := by
  simp [State.charged, reqDirs_nil h, State.readBufs, foldS]

/-- A request whose steps are done is answered. -/
theorem mailbox_done {d : CmdDef} {r : Req} {s u : State} {st : Nat} {pl : List Byte} (h : s.Reaches d r = true)
    (hb : d.body (s.reqCmd d r) (s.taken r) = .done st pl u) :
    mailbox d r s = .next ((s.charged d r u).answer (s.reqCmd d r) st pl).settle := by
  have ha := State.Reaches.awake h
  simp [mailbox, Sys2Proof.Machine.powered, ha, State.serve_reaches h, State.runNamed_reaches h, hb, State.settleRes, Res.andThen]

/-- A request that its own steps refuse is answered with the status. -/
theorem mailbox_refuse {d : CmdDef} {r : Req} {s : State} {st : Nat} (h : s.Reaches d r = true)
    (hb : d.body (s.reqCmd d r) (s.taken r) = .refuse st) : mailbox d r s = .next ((s.taken r).answer (s.reqCmd d r) st []).settle := by
  have ha := State.Reaches.awake h
  simp [mailbox, Sys2Proof.Machine.powered, ha, State.serve_reaches h, State.runNamed_reaches h, hb, State.settleRes, Res.andThen]

/-- A request whose effect has started stays in flight. -/
theorem mailbox_later {d : CmdDef} {r : Req} {s u : State} {p : Phase} {aux : Nat} (h : s.Reaches d r = true)
    (hb : d.body (s.reqCmd d r) (s.taken r) = .later p aux u) :
    mailbox d r s = .next ((s.charged d r u).enlist { s.reqCmd d r with phase := p, pass9 := true, aux := aux }).settle := by
  have ha := State.Reaches.awake h
  simp [mailbox, Sys2Proof.Machine.powered, ha, State.serve_reaches h, State.runNamed_reaches h, hb, State.settleRes, Res.andThen]

end Sys2Proof.Machine
end

