-- ==== Sys2Proof/Laws/Access.lean ====
section
/-!
SUPPORT. Laws/Access.lean: what a store or a load that reaches a register does.
-/
namespace Sys2Proof.Machine

/-- The four bytes of a word hold it. -/
theorem natLE_bytesLE (n : Nat) : ∀ v, natLE (bytesLE n v) = v % 256 ^ n := by
  induction n with
  | zero => intro v; simp [bytesLE, natLE, Nat.mod_one]
  | succ n ih =>
    intro v
    simp only [bytesLE, natLE, ih, BitVec.toNat_ofNat]
    rw [show (256 : Nat) ^ (n + 1) = 256 * 256 ^ n by rw [Nat.pow_succ, Nat.mul_comm], Nat.mod_mul]

theorem natLE_bytesLE_of_lt {n v : Nat} (h : v < 256 ^ n) : natLE (bytesLE n v) = v := by
  rw [natLE_bytesLE, Nat.mod_eq_of_lt h]

@[simp] theorem bytesLE_length (n : Nat) : ∀ v, (bytesLE n v).length = n := by
  induction n with
  | zero => intro v; rfl
  | succ n ih => intro v; simp [bytesLE, ih]

theorem State.Stores.awake {s : State} {t : Nat} {a : Acc} {addr : Nat} (h : s.Stores t a addr = true) : s.asleep = false := by
  simp only [State.Stores, Bool.and_eq_true, Bool.not_eq_true'] at h; exact h.1.1.1.1.1.1

theorem State.Loads.awake {s : State} {t : Nat} {a : Acc} {addr : Nat} (h : s.Loads t a addr = true) : s.asleep = false := by
  simp only [State.Loads, Bool.and_eq_true, Bool.not_eq_true'] at h; exact h.1.1.1.1.1

@[simp] theorem State.asleep_at (s : State) (t : Nat) : (s.at_ t).asleep = s.asleep := rfl

@[simp] theorem State.mute_bus (s : State) (a : Acc) (r : BusReply) : State.mute { s with bus := r } a = s.mute a := rfl

/-- An access to a register waits for no DRAM budget. -/
theorem State.stalls_peri {s : State} {a : Acc} {addr : Nat} (h : inPeri addr = true) (n : Nat) : s.stalls a addr n = false := by
  have hd : inDram addr = false := by
    simp only [inPeri, Bool.and_eq_true, decide_eq_true_eq] at h
    simp only [inDram, Bool.and_eq_false_iff, decide_eq_false_iff_not]; omega
  simp [State.stalls, hd]

/-- An access that its core issues and every check admits is carried out. -/
theorem State.viaBus_ok {s : State} {x : Waiting} {f : State → State} (h1 : s.silent x.acc = false)
    (h2 : s.accVerdict x.acc x.kind x.addr x.len = .ok) (h3 : s.stalls x.acc x.addr x.len = false) :
    s.viaBus x f = f { s with bus := .none } := by
  simp [State.viaBus, State.acceptOrWait, State.accept, h1, h2, h3]

/-- A word store that reaches a register. -/
theorem State.busStore_reg {s : State} {t : Nat} {a : Acc} {addr : Nat} (h : s.Stores t a addr = true) (hyp : Bool) (v : Nat) :
    (s.at_ t).busStore a hyp addr (bytesLE 4 v) = (s.posted t a addr).regStore a hyp addr (v % 2 ^ 32) := by
  simp only [State.Stores, Bool.and_eq_true, Bool.not_eq_true', beq_iff_eq] at h
  obtain ⟨⟨⟨⟨⟨⟨h1, hm⟩, hr⟩, h2⟩, h3⟩, h4⟩, h5⟩ := h
  have hs : (s.at_ t).silent a = false := by simp [State.silent, h1, hm]
  unfold State.busStore
  rw [if_neg (by simp [hr])]
  rw [State.viaBus_ok hs (by simpa using h2) (State.stalls_peri h3 _)]
  simp [State.doStore, State.posted, h3, natLE_bytesLE]

/-- A word store to a register with an operation of its own. -/
theorem State.busReg_reg {s : State} {t : Nat} {a : Acc} {addr : Nat} (h : s.Stores t a addr = true) (f : State → State) :
    (s.at_ t).busReg a addr f = f (s.posted t a addr) := by
  simp only [State.Stores, Bool.and_eq_true, Bool.not_eq_true', beq_iff_eq] at h
  obtain ⟨⟨⟨⟨⟨⟨h1, hm⟩, hr⟩, h2⟩, h3⟩, h4⟩, h5⟩ := h
  have hs : (s.at_ t).silent a = false := by simp [State.silent, h1, hm]
  simp only [State.posted] at h4 h5
  unfold State.busReg
  rw [if_neg (by simp [hr])]
  rw [State.viaBus_ok hs h2 (State.stalls_peri h3 _)]
  simp [h4, h5, State.posted]

/-- A word load that reaches a register. -/
theorem State.busLoad_reg {s : State} {t : Nat} {a : Acc} {addr : Nat} (h : s.Loads t a addr = true) :
    (s.at_ t).busLoad a addr 4 = (s.polled t).regLoad a addr := by
  simp only [State.Loads, Bool.and_eq_true, Bool.not_eq_true', beq_iff_eq] at h
  obtain ⟨⟨⟨⟨⟨h1, hm⟩, h2⟩, h3⟩, h4⟩, h5⟩ := h
  have hs : (s.at_ t).silent a = false := by simp [State.silent, h1, hm]
  unfold State.busLoad
  rw [State.viaBus_ok hs h2 (State.stalls_peri h3 _)]
  simp [State.doLoad, h3, State.polled]

/-- What a row of a store to an existing object's register does. -/
theorem storeRow_reg {s : State} {t : Nat} {a : Acc} {addr : Nat} {ok : Bool} (hk : ok = true) (h : s.Stores t a addr = true)
    (f : State → State) : storeRow ok t a addr f s = .next (f (s.posted t a addr)).settle := by
  simp [storeRow, Sys2Proof.Machine.powered, State.Stores.awake h, hk, State.busReg_reg h]

theorem loadRow_reg {s : State} {t : Nat} {a : Acc} {addr : Nat} {ok : Bool} (hk : ok = true) (h : s.Loads t a addr = true) :
    loadRow ok t a addr s = .next ((s.polled t).regLoad a addr).settle := by
  simp [loadRow, Sys2Proof.Machine.powered, State.Loads.awake h, hk, State.busLoad_reg h]

/-- An event that finds the block acting. -/
theorem powered_awake {s : State} (h : s.asleep = false) (t : Nat) (f : State → State) : powered t f s = .next (f s).settle := by
  simp [powered, h]

/-- The block of a register that a store reaches takes it and has power. -/
theorem State.Stores.admits {s : State} {t : Nat} {a : Acc} {addr : Nat} (h : s.Stores t a addr = true) :
    (s.posted t a addr).blockAdmits a true addr = true ∧ (s.posted t a addr).powered addr = true := by
  simp only [State.Stores, Bool.and_eq_true, Bool.not_eq_true', beq_iff_eq] at h; exact ⟨h.1.2, h.2⟩

theorem State.Loads.admits {s : State} {t : Nat} {a : Acc} {addr : Nat} (h : s.Loads t a addr = true) :
    (s.polled t).blockAdmits a false addr = true ∧ (s.polled t).powered addr = true := by
  simp only [State.Loads, Bool.and_eq_true, Bool.not_eq_true', beq_iff_eq] at h; exact ⟨h.1.2, h.2⟩

/-- The count never runs ahead of the instant. -/
theorem State.countAt_le (s : State) (t : Nat) : s.countAt t ≤ t := by
  unfold State.countAt
  split
  · rename_i h
    have : (t - s.devSince) * 32768 / 1000000000 * 1000000000 / 32768 ≤ t - s.devSince := by
      apply Nat.div_le_of_le_mul
      exact Nat.le_trans (Nat.div_mul_le_self _ _) (by omega)
    omega
  · exact Nat.le_refl _

/-- A posted store changes the instant, the bus, the bridges and what is drawn for its stay in a write buffer. -/
theorem State.posted_eq (s : State) (t : Nat) (a : Acc) (addr : Nat) :
    ∃ b n, s.posted t a addr = { s.at_ t with bus := .none, brg := b, free := n } := by
  unfold State.posted State.pushWrite
  split <;> exact ⟨_, _, rfl⟩

/-- Time does not pass twice, and the bus of a posted store is idle. -/
theorem State.posted_at (s : State) (t : Nat) (a : Acc) (addr : Nat) : (s.posted t a addr).at_ t = s.posted t a addr := by
  obtain ⟨b, n, h⟩ := s.posted_eq t a addr
  have hm : max (max s.now (s.countAt t)) (s.countAt t) = max s.now (s.countAt t) := Nat.max_eq_left (Nat.le_max_right _ _)
  rw [h]
  show ({ s.at_ t with now := max (max s.now (s.countAt t)) (s.countAt t), bus := .none, brg := b, free := n } : State) = _
  rw [hm]; rfl

theorem State.posted_bus (s : State) (t : Nat) (a : Acc) (addr : Nat) : (s.posted t a addr).bus = .none := by
  obtain ⟨b, n, h⟩ := s.posted_eq t a addr
  rw [h]

theorem State.posted_at_bus (s : State) (t : Nat) (a : Acc) (addr : Nat) :
    ({ (s.posted t a addr).at_ t with bus := .none } : State) = s.posted t a addr := by
  rw [State.posted_at, ← State.posted_bus s t a addr]

@[simp] theorem State.polled_at_now (s : State) (t : Nat) : (s.polled t).at_ (s.polled t).now = s.polled t := by
  have h := State.countAt_le (s.polled t) (s.polled t).now
  simp [State.at_, Nat.max_eq_left h]

/-! ## Where registers lie -/

theorem ring_of_ring {r a : Nat} (h : r < 64) (h1 : R.SWC_RING_CTL r ≤ a) (h2 : a < R.SWC_RING_CTL r + 0x1000) :
    windowOf a = none ∧ ringOf a = some r := by
  simp only [R.SWC_RING_CTL] at h1 h2
  refine ⟨?_, ?_⟩
  · simp only [windowOf]; rw [if_neg (by omega), if_neg (by omega)]
  · simp only [ringOf]; rw [if_pos (by omega)]; congr 1; omega

theorem window_of_window {w a : Nat} (h : w ≤ 16) (h1 : 0x10000000 + winOff w ≤ a) (h2 : a < 0x10000000 + winOff w + 0x1000) :
    windowOf a = some w := by
  unfold winOff at h1 h2
  unfold windowOf
  by_cases hw : w < 16
  · simp only [hw, if_true] at h1 h2; rw [if_pos (by omega)]; congr 1; omega
  · simp only [hw, if_false] at h1 h2; rw [if_neg (by omega), if_pos (by omega)]; congr 1; omega

theorem can_of_can {c a : Nat} (h : c < 16) (h1 : R.CAN_CTL c ≤ a) (h2 : a < R.CAN_CTL c + 0x4000) :
    windowOf a = none ∧ ringOf a = none ∧ canOf a = some c := by
  simp only [R.CAN_CTL] at h1 h2
  refine ⟨?_, ?_, ?_⟩
  · simp only [windowOf]; rw [if_neg (by omega), if_neg (by omega)]
  · simp only [ringOf]; rw [if_neg (by omega)]
  · simp only [canOf]; rw [if_pos (by omega)]; congr 1; omega

theorem lin_of_lin {c a : Nat} (h : c < 8) (h1 : R.LIN_CTL c ≤ a) (h2 : a < R.LIN_CTL c + 0x1000) :
    windowOf a = none ∧ ringOf a = none ∧ canOf a = none ∧ linOf a = some c := by
  simp only [R.LIN_CTL] at h1 h2
  refine ⟨?_, ?_, ?_, ?_⟩
  · simp only [windowOf]; rw [if_neg (by omega), if_neg (by omega)]
  · simp only [ringOf]; rw [if_neg (by omega)]
  · simp only [canOf]; rw [if_neg (by omega)]
  · simp only [linOf]; rw [if_pos (by omega)]; congr 1; omega

/-- The registers of the fault collector, the protection block, the interrupt distributor and the time base belong to no
window, ring or channel. -/
theorem plain_of_low {a : Nat} (h1 : 0x10010000 ≤ a) (h2 : a < 0x10050000) :
    windowOf a = none ∧ ringOf a = none ∧ canOf a = none ∧ linOf a = none := by
  refine ⟨?_, ?_, ?_, ?_⟩
  · simp only [windowOf]; rw [if_neg (by omega), if_neg (by omega)]
  · simp only [ringOf]; rw [if_neg (by omega)]
  · simp only [canOf]; rw [if_neg (by omega)]
  · simp only [linOf]; rw [if_neg (by omega)]

end Sys2Proof.Machine
end

