-- ==== Sys2Proof/Certificates/Slice0/Obligations.lean ====
section
/-!
DEFINITION. Certificates/Slice0/Obligations.lean: the statements about the block. `Runs i s u`: exec of `i` answers the next
state `u.settle`; `Answers` and `Starts` say it of mailbox requests, `Reaches`, `Stores` and `Loads` when a request or an
access reaches its own effect (Safety.lean).
-/
open Sys2Proof Sys2Proof.Machine

/-- A step executes the command at the front of the queue on the state with the queue's rest; on an empty queue it idles
(assumption 3, the model's choice). -/
def Obligations.StepRunsFrontCommand : Prop :=
  (∀ (s : State) (c : Instr) (l : List Instr), s.pending = c :: l → step s = exec c { s with pending := l }) ∧
  (∀ s : State, s.pending = [] → step s = .next s)

/-- Interrupt sources, claims, ends of interrupt and doorbells (R35–R38). -/
def Obligations.InterruptCommandsComplete : Prop :=
  ∀ (s : State) (t n : Nat) (a : Acc),
  (∀ on, s.Awake → reservedSource n = false → levelSource n = false → on = true →
    Runs (.irqSourceTrigger t n on) s { s.at_ t with irq.pend := s.irq.pend.set n true }) ∧
  (∀ on, s.Awake → reservedSource n = false → levelSource n = true →
    Runs (.irqSourceTrigger t n on) s { s.at_ t with irq.line := s.irq.line.set n on }) ∧
  (s.Loads t a R.IRQ_CLAIM_POP = true → a.dev = false → (s.polled t).irqHead ((s.polled t).accBank a) = some n →
    Runs (.irqClaimPop t a) s { s.polled t with
      bus := .data (2 ^ 31 + (s.polled t).rd (F.IRQ_ROUTE_PRIO n) * 2 ^ 16 + n),
      irq.pend := s.irq.pend.set n false, irq.active := s.irq.active.set n true }) ∧
  (s.Stores t a R.IRQ_EOI = true → n < 1024 → a.dev = false → (s.posted t a R.IRQ_EOI).irqMine ((s.posted t a R.IRQ_EOI).accBank a) n = true → s.irq.active.get false n = true →
    Runs (.irqEoi t a n) s { s.posted t a R.IRQ_EOI with irq.active := s.irq.active.set n false }) ∧
  (s.Stores t a R.IRQ_DOORBELL = true → n < 1024 → (s.posted t a R.IRQ_DOORBELL).mayRing a n = true →
    Runs (.irqDoorbell t a n) s { s.posted t a R.IRQ_DOORBELL with irq.pend := s.irq.pend.set n true })

/-- The head of the deliverable sources (R37) and the interrupt lines of the application cores (R409, R410, R454, R455). -/
def Obligations.ClaimTakesHighestPriority : Prop :=
  ∀ (s : State) (b : Nat),
  (∀ n, s.irqHead b = some n → n < 1024 ∧ s.irqDeliverable b n = true ∧
    ∀ m, m < 1024 → s.irqDeliverable b m = true →
      s.rd (F.IRQ_ROUTE_PRIO n) < s.rd (F.IRQ_ROUTE_PRIO m) ∨ (s.rd (F.IRQ_ROUTE_PRIO n) = s.rd (F.IRQ_ROUTE_PRIO m) ∧ n ≤ m)) ∧
  (s.irqHead b = none → ∀ m, m < 1024 → s.irqDeliverable b m = false) ∧
  (∀ c v, v = s.rd (F.MPC_CORE_PART_PART c) →
    (s.virtLine c = true ↔ s.rdb (F.MPC_CORE_PART_VALID c) = true ∧ s.inCall c = false ∧ (s.pst v = psSTARTING ∨ s.pst v = psREADY) ∧
      ∃ m, m < 1024 ∧ s.irqDeliverable v m = true)) ∧
  (∀ c, s.noteLine c = true ↔ (s.hnote c ≠ 0 ∨ s.rd F.MPC_PEVT_CHG ≠ 0) ∧ s.inCall c = false) ∧
  (∀ c, s.secLine c = true ↔ bitOf (s.rd F.MPC_GW_CFG_SEC_CORES) c = true ∧ s.secState = 1 ∧ ∃ m, m < 1024 ∧ s.irqDeliverable 0x10 m = true)

/-- The time base (R40–R47). -/
def Obligations.TimeBaseCommandsComplete : Prop :=
  ∀ (s : State) (t : Nat),
  (∀ bad, s.Awake → Runs (.alignmentWord t bad) s
    (foldS (List.range 16) (fun n s => s.cmpArmAt n) ((((s.at_ t).takeStep.alignAll bad).slewOn).releaseAll))) ∧
  (s.Awake → Runs (.lateActionWindowExpiry t) s
    (foldS ((s.at_ t).fab.objs.keys.filter (fun x => !((s.at_ t).obj x).heldEdges.isEmpty)) (fun x s => s.discardHeld x) (s.at_ t))) ∧
  (∀ off u, s.Awake → (s.rd F.TBS_CFG_SOURCE = 1 ∨ s.rd F.TBS_CFG_SOURCE = 2) → u = (s.at_ t).wr F.TBS_OFFSET_OFFSET (offsetCode off) →
    u.rdb F.TBS_STATUS_BACKSTEP = false →
    (off.natAbs ≤ us (u.rd F.TBS_CFG_STEP_THRESH) → Runs (.sourceMeasurement t off) s ((u.slew off).wr F.TBS_STATUS_SYNC 2)) ∧
    (us (u.rd F.TBS_CFG_STEP_THRESH) < off.natAbs → 0 < off →
      Runs (.sourceMeasurement t off) s { u with tb.step := some { back := false, by_ := off.natAbs } })) ∧
  (s.Awake → s.rd F.TBS_STATUS_SYNC = 2 → Runs (.sourceLoss t) s ((s.at_ t).wr F.TBS_STATUS_SYNC 3)) ∧
  (∀ n, s.Awake → n < 16 → (s.cmp_ n).armed = true → (s.cmp_ n).value ≤ t →
    Runs (.comparatorFire t n) s
      ((((((s.at_ t).wrb (F.TBS_CMP_CTL_FIRED n) true).wrb (F.TBS_CMP_CTL_LATE n) false).wrb (F.TBS_CMP_CTL_ARM n) false).setCmp n
        { value := (s.cmp_ n).value }).trig n)) ∧
  (∀ a n u, n < 16 → s.Stores t a (R.TBS_CMP_CTL n) = true → (s.posted t a (R.TBS_CMP_CTL n)).cmpMine a n = true →
    u = (((s.posted t a (R.TBS_CMP_CTL n)).wrb (F.TBS_CMP_CTL_ARM n) true).wrb (F.TBS_CMP_CTL_FIRED n) false).wrb (F.TBS_CMP_CTL_LATE n) false →
    Runs (.tbsCmpArm t a n) s (u.setCmp n { armPend := true, value := u.pair (R.TBS_CMP_LO n) (R.TBS_CMP_HI n) })) ∧
  (∀ a n, n < 16 → s.Stores t a (R.TBS_CMP_CTL n) = true → (s.posted t a (R.TBS_CMP_CTL n)).cmpMine a n = true →
    Runs (.tbsCmpDisarm t a n) s
      (((((s.posted t a (R.TBS_CMP_CTL n)).wrb (F.TBS_CMP_CTL_ARM n) false).wrb (F.TBS_CMP_CTL_FIRED n) false).wrb
        (F.TBS_CMP_CTL_LATE n) false).setCmp n {}))

/-- Losing and regaining alignment (R41). -/
def Obligations.ReplicaAlignment : Prop :=
  ∀ (r : Replica) (a b c d : Nat),
  (r.aligned = true → r.badRun = 0 →
    (r.word true a).aligned = true ∧ ((r.word true a).word true b).aligned = true ∧ (((r.word true a).word true b).word true c).aligned = false ∧
    (((r.word true a).word false b).word true c).aligned = true) ∧
  (r.aligned = false → r.badRun = 3 → r.goodRun = 0 →
    (r.word false a).aligned = false ∧ ((r.word false a).word false b).aligned = false ∧
    (((r.word false a).word false b).word false c).aligned = true ∧
    ((((r.word false a).word false b).word true c).word false d).aligned = false)

/-- Accesses (R11, R30–R33, R355–R357). -/
def Obligations.AccessCommandsComplete : Prop :=
  ∀ (s : State) (t : Nat) (a : Acc) (addr len : Nat),
  (∀ v, v < 2 ^ 32 → s.Stores t a addr = true → Runs (.registerWrite t a addr v) s ((s.posted t a addr).regStore a a.hyp addr v)) ∧
  (s.Loads t a addr = true → isLow addr = true → isPop addr = false → addr ≠ R.UPD_STAT →
    Runs (.lowWordRead t a addr) s { s.polled t with
      bus := .data ((s.polled t).regValue a addr)
      hold := s.hold.set (holdKey a addr) (BitVec.ofNat 32 ((s.polled t).regValue a (addr + 4))) }) ∧
  (∀ data, (s.at_ t).silent a = false → (s.at_ t).accVerdict a .load addr len = .ok → inPeri addr = false → (s.at_ t).stalls a addr len = false →
    Runs (.memoryAccess t a .load addr len data) s
      (((s.polled t).traffic a false addr len).replyData (natLE (s.load addr len)))) ∧
  (∀ data, (s.at_ t).silent a = false → data.length = len → (s.at_ t).bufRoom a addr = true → (s.at_ t).accVerdict a .store addr len = .ok →
    inPeri addr = false → (s.at_ t).stalls a addr len = false →
    Runs (.memoryAccess t a .store addr len data) s
      (((((s.polled t).pushWrite a addr).wipeSlots a addr len).store addr data).traffic a true addr len)) ∧
  (∀ data, (s.at_ t).silent a = false → (s.at_ t).accVerdict a .fetch addr len = .ok → (s.at_ t).stalls a addr len = false →
    Runs (.memoryAccess t a .fetch addr len data) s
      (((s.polled t).traffic a false addr len).replyData (natLE (s.load addr len)))) ∧
  (∀ k data, (s.at_ t).silent a = false → data.length = len → ((s.at_ t).bufRoom a addr = true ∨ k ≠ .store) → (s.at_ t).accVerdict a k addr len = .ok →
    (s.at_ t).stalls a addr len = true →
    Runs (.memoryAccess t a k addr len data) s { s.at_ t with
      bus := .waits, prt.waiting := s.prt.waiting ++ [⟨a, k, addr, len, if k = .store then data else []⟩] }) ∧
  (∀ data, (s.at_ t).silent a = false → (s.at_ t).bufRoom a addr = false →
    Runs (.memoryAccess t a .store addr len data) s { s.at_ t with bus := .retry }) ∧
  (∀ br away, (s.at_ t).silent a = false → (s.at_ t).idVerdict a = .ok → s.brg.slots.find? (fun x => x.matches a br away addr len) = none →
    s.slotRoom a br away addr = true →
    Runs (.bridgeRead t a br away addr len) s { s.at_ t with
      bus := .retry
      brg.slots := s.brg.slots ++ [{ br := br, away := away, acc := a, addr := addr, size := len, pop := isPop addr, at_ := (s.at_ t).now }] }) ∧
  (∀ br away x d, (s.at_ t).silent a = false → (s.at_ t).idVerdict a = .ok → s.brg.slots.find? (fun x => x.matches a br away addr len) = some x →
    x.data = some (some d) →
    Runs (.bridgeRead t a br away addr len) s { s.at_ t with brg.slots := s.brg.slots.erase x, bus := .data (natLE d) }) ∧
  (∀ i x n u, s.Awake → s.brg.slots[i]? = some x → x.data = none → (s.at_ t).writesAhead x = false → n = min 64 x.size →
    (s.at_ t).stalls x.acc x.addr n = false → u = (s.at_ t).carryOn ⟨x.acc, .load, x.addr, n, []⟩ →
    Runs (.readaheadFill t i) s { u with
      bus := s.bus
      brg.slots := u.brg.slots.set i { x with
        data := some (match u.bus with | .data w => some (bytesLE n w) | _ => none), at_ := u.now } }) ∧
  (∀ i x d, s.Awake → s.brg.slots[i]? = some x → x.data = some d → x.pop = false → x.at_ + us 10 ≤ t →
    Runs (.readaheadExpiry t i) s { s.at_ t with
      brg.slots := s.brg.slots.eraseIdx i, brg.expired := (s.brg.expired + 1) % 2 ^ 32 }) ∧
  (∀ ty, s.Awake → 1 ≤ ty → ty ≤ 3 → Runs (.postedWriteFailure t a ty addr) s
    ((s.at_ t).failAcc (if ty = 1 then 0x0103 else if ty = 2 then 0x0B01 else 0x0105) a 2 addr))

/-- The registers of a mailbox window (R50–R52, R55). -/
def Obligations.MailboxRegisterCommandsComplete : Prop :=
  ∀ (s : State) (t : Nat) (a : Acc) (w v : Nat), w ≤ 16 → v < 2 ^ 32 →
  (∀ u z, s.Stores t a (R.MBX_CTL w) = true → u = (s.posted t a (R.MBX_CTL w)).wr (F.MBX_CTL_IRQ_EN w) (bitsOf v 1 1) →
    u.rd (F.MBX_STATUS_INFLIGHT w) = 0 → (w = 16 ∨ u.hosting w ≠ 0) →
    z = (((u.wr (F.MBX_REQ_PROD_PROD w) 0).wr (F.MBX_REQ_CONS_CONS w) 0).wr (F.MBX_RSP_PROD_PROD w) 0).wr (F.MBX_RSP_CONS_CONS w) 0 →
    (z.ringsPass w = true → Runs (.mbxEnable t a w v) s (z.wrb (F.MBX_CTL_ENABLE w) true)) ∧
    (z.ringsPass w = false → Runs (.mbxEnable t a w v) s ((z.wrb (F.MBX_CTL_ENABLE w) false).wrb (F.MBX_ERR_RING_ACCESS w) true))) ∧
  (s.Stores t a (R.MBX_CTL w) = true →
    Runs (.mbxDisable t a w v) s (((s.posted t a (R.MBX_CTL w)).wr (F.MBX_CTL_IRQ_EN w) (bitsOf v 1 1)).wrb (F.MBX_CTL_ENABLE w) false)) ∧
  (∀ p c, s.Stores t a (R.MBX_REQ_PROD w) = true → p = s.rd (F.MBX_REQ_PROD_PROD w) → c = s.rd (F.MBX_REQ_CONS_CONS w) →
    ((p + 65536 - c) % 65536 ≤ (v % 65536 + 65536 - c) % 65536 → (v % 65536 + 65536 - c) % 65536 ≤ 64 →
      Runs (.mbxReqProdWrite t a w v) s ((s.posted t a (R.MBX_REQ_PROD w)).wr (F.MBX_REQ_PROD_PROD w) v)) ∧
    (¬((p + 65536 - c) % 65536 ≤ (v % 65536 + 65536 - c) % 65536 ∧ (v % 65536 + 65536 - c) % 65536 ≤ 64) →
      Runs (.mbxReqProdWrite t a w v) s ((s.posted t a (R.MBX_REQ_PROD w)).wrb (F.MBX_ERR_PROD_JUMP w) true))) ∧
  (∀ p c, s.Stores t a (R.MBX_RSP_CONS w) = true → p = s.rd (F.MBX_RSP_PROD_PROD w) → c = s.rd (F.MBX_RSP_CONS_CONS w) →
    ((v % 65536 + 65536 - c) % 65536 ≤ (p + 65536 - c) % 65536 →
      Runs (.mbxRspConsWrite t a w v) s ((s.posted t a (R.MBX_RSP_CONS w)).wr (F.MBX_RSP_CONS_CONS w) v)) ∧
    ((p + 65536 - c) % 65536 < (v % 65536 + 65536 - c) % 65536 →
      Runs (.mbxRspConsWrite t a w v) s ((s.posted t a (R.MBX_RSP_CONS w)).wrb (F.MBX_ERR_CONS_JUMP w) true))) ∧
  (s.Stores t a (R.MBX_ERR w) = true →
    Runs (.mbxErrClear t a w v) s ((s.posted t a (R.MBX_ERR w)).plainWrite a (R.MBX_ERR w) v))

/-- Waiting, forwarding and undefined opcodes (R57, R59, R62, R66, R71, R72, R75). -/
def Obligations.WaitingCommandsComplete : Prop :=
  ∀ (s : State) (t node w tag : Nat), s.Awake →
  (∀ c d, s.inFlight node w tag = some c → (s.at_ t).serving = true → (s.at_ t).expired c = false →
    (c.phase = .waitOrder ∨ c.phase = .waitObject ∨ c.phase = .waitQueue) → (node ≠ 0xFFFF ∨ s.isLocal c.req.target = true) →
    cmdOfOp c.op = some d → Runs (.commandWaitResume t node w tag) s ((s.at_ t).runBody d c)) ∧
  (∀ c, s.inFlight node w tag = some c → (s.at_ t).expired c = true → c.phase ≠ .running → c.phase ≠ .forwarded → c.phase ≠ .maint →
    Runs (.commandWaitTimeout t node w tag) s (if node = 0xFFFF then (s.at_ t).answer c stTIMEOUT [] else (s.at_ t).unlist c)) ∧
  (∀ c, s.inFlight 0xFFFF w tag = some c → c.phase = .forwarded → (s.at_ t).expired c = true →
    Runs (.forwardDeadlineExpiry t w tag) s ((s.at_ t).answer c stTIMEOUT [])) ∧
  (∀ c st done pl, s.inFlight 0xFFFF w tag = some c → c.phase = .forwarded → (s.at_ t).expired c = false →
    Runs (.forwardedResponseArrival t w tag st done pl) s ((s.at_ t).answerAt c st done (pl.take 48))) ∧
  (∀ st done pl, s.inFlight 0xFFFF w tag = none → w ≤ 16 →
    Runs (.forwardedResponseArrival t w tag st done pl) s (((s.at_ t).wrb (F.MBX_ERR_LATE_RSP w) true).sat (F.MBX_LATE_CNT_LATE w) 1)) ∧
  (∀ (r : Req) op, (s.at_ r.t).canTake r.win = true → (s.at_ r.t).slotHolds op r = true → cmdOfOp op = none →
    Runs (.requestUndefinedOpcode r op) s (((s.at_ r.t).take r.win).respond r.win op r.tag stBAD_OPCODE (s.at_ r.t).now []))

/-- The device commands (R76–R81). -/
def Obligations.DeviceCommandsComplete : Prop :=
  ∀ (s u : State) (r : Req) (c : Cmd), u = s.taken r →
  (s.Reaches dDevIdentity r = true →
    Answers (.devIdentity r) dDevIdentity r s stOK
      (partNumber ++ bytesLE 1 0x42 ++ bytesLE 1 0 ++ bytesLE 2 (if u.ownNode = 0x7FF then 0xFFFF else u.ownNode) ++ bytesLE 8 Config.serial ++
        bytesLE 1 u.lifecycle ++ bytesLE 3 0) u) ∧
  (s.Reaches dDevVersion r = true →
    Answers (.devVersion r) dDevVersion r s stOK
      (bytesLE 1 3 ++ bytesLE 1 2 ++ bytesLE 2 (Config.version 2) ++ bytesLE 4 (Config.version 4) ++ bytesLE 4 (Config.version 8) ++
        bytesLE 4 (Config.version 12) ++ bytesLE 2 (Config.version 16) ++ bytesLE 2 0 ++ wordBytes (u.word R.CFG_GEN_RUN)) u) ∧
  (s.Reaches dDevState r = true →
    Answers (.devState r) dDevState r s stOK
      (bytesLE 1 u.dev.code ++ bytesLE 1 u.lifecycle ++ bytesLE 1 (u.rd F.CFG_STAT_OVERLAY) ++
        bytesLE 1 (if u.dev = .coppice then u.rd F.BOOT_STAT_COPPICE_REASON else 0) ++ bytesLE 2 (u.rd F.FLT_STAT_RECOVERY) ++
        bytesLE 1 (u.rd F.BOOT_STAT_ATTEMPTS) ++ bytesLE 1 u.devFlags ++ bytesLE 8 u.tStart ++ bytesLE 8 u.devSince) u) ∧
  (s.Reaches dDevTime r = true →
    Answers (.devTime r) dDevTime r s stOK
      (bytesLE 8 u.now ++ wordBytes (u.word R.TBS_OFFSET) ++ wordBytes (u.word R.TBS_RATE) ++ bytesLE 1 (u.rd F.TBS_STATUS_SYNC) ++
        bytesLE 1 (u.rd F.TBS_STATUS_ALIGN_ALL + 2 * u.rd F.TBS_STATUS_BACKSTEP + 4 * u.rd F.TBS_STATUS_SLEWING) ++
        bytesLE 2 (u.rd F.TBS_STATUS_STEP_CNT)) u) ∧
  (s.Reaches dDevEcho r = true →
    Answers (.devEcho r) dDevEcho r s stOK (slice (r.payload.take r.len) 0 r.len) u) ∧
  (∀ w, s.Reaches dDevMbxStats r = true → c = s.reqCmd dDevMbxStats r → w = c.arg 0 1 → w ≤ 16 → c.zero 1 3 = true → (r.win = 16 ∨ r.win = w) →
    Answers (.devMbxStats r) dDevMbxStats r s stOK
      (bytesLE 4 (u.mbx.stat.get {} w).served ++ bytesLE 4 (u.mbx.stat.get {} w).refused ++ bytesLE 2 (u.mbx.stat.get {} w).timeouts ++
        bytesLE 2 (u.rd (F.MBX_LATE_CNT_LATE w)) ++ bytesLE 1 (u.mbx.stat.get {} w).peak ++ bytesLE 3 0) u)

/-- Cell commands: set, configure, read status and configuration, clear; each answered with its status and payload, or started (R66, R117, R118, R119, R120, R121, R122). -/
def Obligations.CellCommandsComplete : Prop :=
  ∀ (s : State) (r : Req),
  (∀ (c : Cmd) (σ : State), s.Reaches dCellSet r = true → c = s.reqCmd dCellSet r → σ = s.taken r →
    let n := c.arg 0 2
    let a := c.arg 2 1
    let at_ := c.arg 4 8
    (decide (n < 512) && decide (a ≤ 3) && c.zero 3 1 && atOk c at_) = true →
    (σ.owns c kTerm n) = true →
    let res : Res :=
      σ.setObject c n a at_ false (σ.gangOf n).isSome
    (∀ st pl u, res = .done st pl u → Answers (.cellSet r) dCellSet r s st pl u) ∧
    (∀ p aux u, res = .later p aux u → Starts (.cellSet r) dCellSet r s p aux u)) ∧
  (∀ (c : Cmd) (σ : State), s.Reaches dCellConfig r = true → c = s.reqCmd dCellConfig r → σ = s.taken r →
    let n := c.arg 0 2
    let ims := [c.image (R.PFB_CELL_CFG0 n) 4, c.image (R.PFB_CELL_CFG1 n) 12, c.image (R.PFB_CELL_CFG2 n) 20]
    let fs := cellFlds n
    (decide (n < 512) && c.zero 2 2 && imagesOk fs ims &&
      decide (σ.afterFld fs ims (F.PFB_CELL_CFG2_THR_LO n) < σ.afterFld fs ims (F.PFB_CELL_CFG2_THR_HI n))) = true →
    (σ.owns c kTerm n) = true →
    let res : Res :=
      σ.configure fs ims (σ.stopped n) (if (σ.gangOf n).isSome || σ.brokenFor c n then stMODE_FORBIDS else σ.lostStatus n)
    (∀ st pl u, res = .done st pl u → Answers (.cellConfig r) dCellConfig r s st pl u)) ∧
  (∀ (c : Cmd) (σ : State), s.Reaches dCellStatus r = true → c = s.reqCmd dCellStatus r → σ = s.taken r →
    let b := σ.rangeBytes c
    let first := leAt b 0 2
    let count := if c.desc then leAt b 2 2 else leAt b 2 1
    ((c.desc || leAt b 3 1 == 0) && (!c.desc || c.dSize 0 == 4) && between 1 (if c.desc then 512 else 5) count &&
      decide (first + count ≤ 512) && (!c.desc || c.room (8 + 8 * count))) = true →
    ((List.range count).all (fun i => σ.mayRead c kTerm (first + i))) = true →
    ((List.range count).all (fun i => !σ.bankLost ((first + i) / 16))) = true →
    let p := σ.rd F.PFB_TS_SEL_PAGE
    let res : Res :=
      σ.answerRange c (bytesLE 8 σ.pageStamp ++ (List.range count).flatMap (fun i =>
        let w := σ.pageWords p (first + i)
        wordBytes w.1 ++ wordBytes w.2)) []
    (∀ st pl u, res = .done st pl u → Answers (.cellStatus r) dCellStatus r s st pl u)) ∧
  (∀ (c : Cmd) (σ : State), s.Reaches dCellClear r = true → c = s.reqCmd dCellClear r → σ = s.taken r →
    let n := c.arg 0 2
    (decide (n < 512) && c.zero 2 2) = true →
    (σ.owns c kTerm n) = true →
    let res : Res :=
      σ.clearObject n ((σ.gangOf n).isSome || σ.brokenFor c n)
    (∀ st pl u, res = .done st pl u → Answers (.cellClear r) dCellClear r s st pl u)) ∧
  (∀ (c : Cmd) (σ : State), s.Reaches dCellReadConfig r = true → c = s.reqCmd dCellReadConfig r → σ = s.taken r →
    let n := c.arg 0 2
    let w := c.arg 2 1
    (decide (n < 512) && decide (w ≤ 1) && c.zero 3 1) = true →
    (σ.mayRead c kTerm n) = true →
    (!σ.bankLost (n / 16)) = true →
    Answers (.cellReadConfig r) dCellReadConfig r s stOK (σ.confWord w (R.PFB_CELL_CFG0 n) ++ σ.confWord w (R.PFB_CELL_CFG1 n) ++ σ.confWord w (R.PFB_CELL_CFG2 n)) σ)

/-- Gang, bridge and wiring-probe commands: set, configure, read, clear, run and report; each answered, or started (R122, R147, R148, R149, R150, R151, R152, R153). -/
def Obligations.GangBridgeProbeCommandsComplete : Prop :=
  ∀ (s : State) (r : Req),
  (∀ (c : Cmd) (σ : State), s.Reaches dGangSet r = true → c = s.reqCmd dGangSet r → σ = s.taken r →
    let g := c.arg 0 1
    let a := c.arg 1 1
    let at_ := c.arg 4 8
    (decide (g < 64) && σ.defined (xGang g) && decide (a ≤ 2) && decide (c.arg 2 1 ≤ 1) && c.zero 3 1 && c.zero 12 4 && atOk c at_) = true →
    (σ.owns c kGang g) = true →
    let res : Res :=
      σ.setObject c (xGang g) a at_ (bitOf (c.arg 2 1) 0) (σ.brgOf g).isSome
    (∀ st pl u, res = .done st pl u → Answers (.gangSet r) dGangSet r s st pl u) ∧
    (∀ p aux u, res = .later p aux u → Starts (.gangSet r) dGangSet r s p aux u)) ∧
  (∀ (c : Cmd) (σ : State), s.Reaches dGangConfig r = true → c = s.reqCmd dGangConfig r → σ = s.taken r →
    let g := c.arg 0 1
    let ims := [c.image (R.PFB_GANG_CFG0 g) 4, c.image (R.PFB_GANG_CFG1 g) 12]
    let fs := gangFlds g
    (decide (g < 64) && σ.defined (xGang g) && c.zero 1 3 && c.zero 20 8 && imagesOk fs ims &&
      (σ.afterFld fs ims (F.PFB_GANG_CFG1_FAST_EN g) == 0 || σ.afterFld fs ims (F.PFB_GANG_CFG1_DRIVER g) == 0)) = true →
    (σ.owns c kGang g) = true →
    let res : Res :=
      (σ.configure fs ims (σ.stopped (σ.topOf (xGang g))) (if σ.brokenFor c (xGang g) then stMODE_FORBIDS else σ.lostStatus (xGang g))).andThen
        (fun s' => if σ.fastEn (xGang g) && !s'.fastEn (xGang g) then s'.dropStanding (xGang g) else s')
    (∀ st pl u, res = .done st pl u → Answers (.gangConfig r) dGangConfig r s st pl u)) ∧
  (∀ (c : Cmd) (σ : State), s.Reaches dGangStatus r = true → c = s.reqCmd dGangStatus r → σ = s.taken r →
    let first := c.arg 0 1
    let count := c.arg 1 1
    let l := (List.range count).map (fun i => first + i)
    (between 1 5 count && decide (first + count ≤ 64) && c.zero 2 2) = true →
    (l.all (fun g => !σ.defined (xGang g) || σ.mayRead c kGang g)) = true →
    (l.all (fun g => !σ.defined (xGang g) || !σ.objLost (σ.topOf (xGang g)))) = true →
    Answers (.gangStatus r) dGangStatus r s stOK (bytesLE 8 σ.pageStamp ++ l.flatMap (fun g =>
      if σ.defined (xGang g) then bytesLE 4 (σ.gangStat g) ++ bytesLE 4 (σ.gangIsum g) else bytesLE 8 0)) σ) ∧
  (∀ (c : Cmd) (σ : State), s.Reaches dGangClear r = true → c = s.reqCmd dGangClear r → σ = s.taken r →
    let g := c.arg 0 1
    (decide (g < 64) && σ.defined (xGang g) && c.zero 1 3) = true →
    (σ.owns c kGang g) = true →
    let res : Res :=
      σ.clearObject (xGang g) ((σ.brgOf g).isSome || σ.brokenFor c (xGang g))
    (∀ st pl u, res = .done st pl u → Answers (.gangClear r) dGangClear r s st pl u)) ∧
  (∀ (c : Cmd) (σ : State), s.Reaches dBridgeSet r = true → c = s.reqCmd dBridgeSet r → σ = s.taken r →
    let h := c.arg 0 1
    let a := c.arg 1 1
    let at_ := c.arg 4 8
    (decide (h < 32) && σ.defined (xBrg h) && decide (a ≤ 4) && decide (c.arg 2 1 ≤ 1) && c.zero 3 1 && c.zero 12 4 && atOk c at_) = true →
    (σ.owns c kBrg h) = true →
    let res : Res :=
      σ.setObject c (xBrg h) a at_ (bitOf (c.arg 2 1) 0) false
    (∀ st pl u, res = .done st pl u → Answers (.bridgeSet r) dBridgeSet r s st pl u) ∧
    (∀ p aux u, res = .later p aux u → Starts (.bridgeSet r) dBridgeSet r s p aux u)) ∧
  (∀ (c : Cmd) (σ : State), s.Reaches dBridgeConfig r = true → c = s.reqCmd dBridgeConfig r → σ = s.taken r →
    let h := c.arg 0 1
    let ims := [c.image (R.PFB_BRG_CFG0 h) 4, c.image (R.PFB_BRG_CFG1 h) 12]
    let fs := bridgeFlds h
    (decide (h < 32) && σ.defined (xBrg h) && c.zero 1 3 && imagesOk fs ims) = true →
    (σ.owns c kBrg h) = true →
    let res : Res :=
      σ.configure fs ims (σ.stopped (xBrg h)) (if σ.brokenFor c (xBrg h) then stMODE_FORBIDS else σ.lostStatus (xBrg h))
    (∀ st pl u, res = .done st pl u → Answers (.bridgeConfig r) dBridgeConfig r s st pl u)) ∧
  (∀ (c : Cmd) (σ : State), s.Reaches dBridgeStatus r = true → c = s.reqCmd dBridgeStatus r → σ = s.taken r →
    let first := c.arg 0 1
    let count := c.arg 1 1
    let l := (List.range count).map (fun i => first + i)
    (between 1 3 count && decide (first + count ≤ 32) && c.zero 2 2) = true →
    (l.all (fun h => !σ.defined (xBrg h) || σ.mayRead c kBrg h)) = true →
    (l.all (fun h => !σ.defined (xBrg h) || !σ.objLost (xBrg h))) = true →
    Answers (.bridgeStatus r) dBridgeStatus r s stOK (bytesLE 8 σ.pageStamp ++ l.flatMap (fun h =>
      if σ.defined (xBrg h) then bytesLE 4 (σ.brgStat h) ++ bytesLE 4 (σ.gangIsum (σ.legA h)) ++ bytesLE 4 (σ.gangIsum (σ.legB h))
      else bytesLE 12 0)) σ) ∧
  (∀ (c : Cmd) (σ : State), s.Reaches dBridgeClear r = true → c = s.reqCmd dBridgeClear r → σ = s.taken r →
    let h := c.arg 0 1
    (decide (h < 32) && σ.defined (xBrg h) && c.zero 1 3) = true →
    (σ.owns c kBrg h) = true →
    let res : Res :=
      σ.clearObject (xBrg h) (σ.brokenFor c (xBrg h))
    (∀ st pl u, res = .done st pl u → Answers (.bridgeClear r) dBridgeClear r s st pl u)) ∧
  (∀ (c : Cmd) (σ : State), s.Reaches dProbeRun r = true → c = s.reqCmd dProbeRun r → σ = s.taken r →
    let first := c.arg 0 2
    let count := c.arg 2 2
    (between 1 512 count && decide (first + count ≤ 512) && σ.coversWhole first count && decide (c.arg 4 1 ≤ 1) && c.zero 5 3) = true →
    (c.isSecure || σ.ownsCover c first count) = true →
    let res : Res :=
      σ.commandAct c aPROBE first count (c.arg 4 1)
    (∀ st pl u, res = .done st pl u → Answers (.probeRun r) dProbeRun r s st pl u) ∧
    (∀ p aux u, res = .later p aux u → Starts (.probeRun r) dProbeRun r s p aux u)) ∧
  (∀ (c : Cmd) (σ : State), s.Reaches dProbeResult r = true → c = s.reqCmd dProbeResult r → σ = s.taken r →
    let b := σ.rangeBytes c
    let first := leAt b 0 2
    let count := leAt b 2 2
    ((!c.desc || c.dSize 0 == 4) && between 1 (if c.desc then 512 else 8) count && decide (first + count ≤ 512) &&
      (!c.desc || c.room (16 + 4 * count))) = true →
    ((List.range count).all (fun i => σ.mayRead c kTerm (first + i))) = true →
    let res : Res :=
      σ.answerRange c (bytesLE 8 (if σ.fab.probeState = 1 then 0 else σ.fab.probeDone) ++ bytesLE 4 σ.fab.probeSeq ++
        bytesLE 1 σ.fab.probeState ++ bytesLE 3 0 ++ (List.range count).flatMap (fun i => σ.probeBytes (first + i))) []
    (∀ st pl u, res = .done st pl u → Answers (.probeResult r) dProbeResult r s st pl u)) ∧
  (∀ (c : Cmd) (σ : State), s.Reaches dGangReadConfig r = true → c = s.reqCmd dGangReadConfig r → σ = s.taken r →
    let o := c.arg 0 1
    let ty := c.arg 1 1
    let w := c.arg 2 1
    (decide (ty ≤ 1) && decide (w ≤ 1) && c.zero 3 1 &&
      (if ty = 0 then decide (o < 64) && σ.defined (xGang o) else decide (o < 32) && σ.defined (xBrg o))) = true →
    (σ.mayRead c (if ty = 0 then kGang else kBrg) o) = true →
    (!σ.objLost (if ty = 0 then σ.topOf (xGang o) else xBrg o)) = true →
    let res : Res :=
      if ty = 0 then
        .done stOK (σ.confWord w (R.PFB_GANG_CFG0 o) ++
          wordBytes (σ.gangCfg1 o (if w = 1 then σ.shadowWord (R.PFB_GANG_CFG1 o) else σ.word (R.PFB_GANG_CFG1 o))) ++ wordBytes (σ.gangDef o)) σ
      else .done stOK (σ.confWord w (R.PFB_BRG_CFG0 o) ++ σ.confWord w (R.PFB_BRG_CFG1 o) ++ bytesLE 4 0) σ
    (∀ st pl u, res = .done st pl u → Answers (.gangReadConfig r) dGangReadConfig r s st pl u))

/-- Budget and energy commands answer a holder's figures, stage an object's class and declared current, and read meters and the energy log (R173, R175, R176, R177, R178, R179, R180). -/
def Obligations.BudgetEnergyCommandsComplete : Prop :=
  ∀ (s : State) (r : Req),
  (∀ (c : Cmd) (σ : State), s.Reaches dBudgetStatus r = true → c = s.reqCmd dBudgetStatus r → σ = s.taken r →
    let v := if c.arg 0 1 = 0xFF then c.who else c.arg 0 1
    (decide (v ≤ 17) && c.zero 1 3) = true →
    (σ.mayHolder c v) = true →
    Answers (.budgetStatus r) dBudgetStatus r s stOK (bytesLE 4 (σ.allot v) ++ bytesLE 4 (σ.usedH v) ++ bytesLE 2 (σ.deferredCountOf v) ++
      bytesLE 2 (σ.rd (F.PFB_ALLOT_USED_DENIED v)) ++ bytesLE 2 (σ.shedCountOf v) ++ bytesLE 1 (σ.rd (F.PFB_ALLOT_USED_OVER_ALLOT v)) ++ bytesLE 1 0 ++
      ([1, 2, 3, 4] : List Nat).flatMap (fun f => bytesLE 2 (σ.rd (F.PFB_FEED_STAT_I_FEED f)) ++ bytesLE 2 (min 0xFFFF (σ.usedF f / 10))) ++
      ([1, 2, 3, 4] : List Nat).flatMap (fun f => bytesLE 1 (σ.feedFlags f)) ++
      bytesLE 2 (σ.rd F.PFB_HEAT_STAT_P_ELEC + σ.rd F.PFB_HEAT_STAT_P_DIST) ++ bytesLE 2 (σ.heatLim)) σ) ∧
  (∀ (c : Cmd) (σ : State), s.Reaches dBudgetObject r = true → c = s.reqCmd dBudgetObject r → σ = s.taken r →
    let x := c.arg 0 2
    let d := c.arg 4 4
    (decide (x < 608) && σ.isTop x && decide (c.arg 2 1 ≤ 3) && c.zero 3 1 && between 10 (σ.declMax x) d) = true →
    (σ.owns c (objKind x) (objIdx x)) = true →
    (!σ.brokenFor c x) = true →
    Answers (.budgetObject r) dBudgetObject r s stSTAGED [] ((σ.stage (F.PFB_BUD_CLASS x) (c.arg 2 1)).stage (F.PFB_BUD_I_DECL x) d)) ∧
  (∀ (c : Cmd) (σ : State), s.Reaches dBudgetObjStatus r = true → c = s.reqCmd dBudgetObjStatus r → σ = s.taken r →
    let first := c.arg 0 2
    let count := c.arg 2 1
    let l := (List.range count).map (fun i => first + i)
    (between 1 10 count && decide (first + count ≤ 608) && c.zero 3 1) = true →
    (l.all (fun x => σ.mayRead c (objKind x) (objIdx x))) = true →
    Answers (.budgetObjStatus r) dBudgetObjStatus r s stOK (bytesLE 8 σ.pageStamp ++ l.flatMap (fun x => bytesLE 4 (σ.budWord x))) σ) ∧
  (∀ (c : Cmd) (σ : State), s.Reaches dEnergyRead r = true → c = s.reqCmd dEnergyRead r → σ = s.taken r →
    let b := σ.rangeBytes c
    let first := leAt b 0 2
    let count := leAt b 2 2
    let l := (List.range count).map (fun i => first + i)
    ((!c.desc || c.dSize 0 == 4) && between 1 (if c.desc then 632 else 2) count && decide (first + count ≤ 632) &&
      (!c.desc || c.room (8 + 16 * count))) = true →
    (l.all (fun m => σ.mayMeter c m)) = true →
    let res : Res :=
      σ.answerRange c (bytesLE 8 σ.fab.lastGrid ++ l.flatMap (fun m => bytesLE 8 (σ.eDel m) ++ bytesLE 8 (σ.eRet m)))
        (bytesLE 4 (8 + 16 * count) ++ bytesLE 4 0)
    (∀ st pl u, res = .done st pl u → Answers (.energyRead r) dEnergyRead r s st pl u)) ∧
  (∀ (c : Cmd) (σ : State), s.Reaches dEnergyLogRead r = true → c = s.reqCmd dEnergyLogRead r → σ = s.taken r →
    (c.dSize 0 == 4 && c.dSize 1 % 256 == 0) = true →
    let l := ((σ.elogFrom (natLE (σ.load (c.dAddr 0) 4))).take (c.dSize 1 / 256)).map (fun ρ => recFor c.who ρ)
    Answers (.energyLogRead r) dEnergyLogRead r s stOK (bytesLE 4 (256 * l.length) ++ bytesLE 4 σ.elogOldest) (σ.putBuf c 1 l.flatten))

/-- Cycle-engine commands: status, load, swap, start, stop, hold, task restart, online change, forces, variables, events (R204, R207, R210, R216, R222, R223, R224, R225, R226, R227, R228). -/
def Obligations.CycleCommandsComplete : Prop :=
  ∀ (s : State) (r : Req),
  (∀ (c : Cmd) (σ : State), s.Reaches dCycStatus r = true → c = s.reqCmd dCycStatus r → σ = s.taken r →
    (σ.readsProg c) = true →
    Answers (.cycStatus r) dCycStatus r s stOK (wordBytes σ.cycStateWord ++ wordBytes (σ.word R.CYC_CFG) ++ wordBytes (σ.word R.CYC_HYPER) ++
      bytesLE 8 ((σ.cyc.active.map (fun p => p.id)).getD 0) ++ bytesLE 8 ((σ.cyc.waiting.map (fun p => p.id)).getD 0) ++
      bytesLE 8 (σ.cyc.swapAt.getD 0) ++ bytesLE 8 (if σ.eng = 1 then σ.cyc.tRun else 0) ++ bytesLE 4 0) σ) ∧
  (∀ (c : Cmd) (σ : State), s.Reaches dCycTaskStatus r = true → c = s.reqCmd dCycTaskStatus r → σ = s.taken r →
    let k := c.arg 0 1
    (decide (k < 24) && c.zero 1 3) = true →
    (σ.readsTask c k) = true →
    Answers (.cycTaskStatus r) dCycTaskStatus r s stOK (wordBytes (σ.word (R.CYC_TASK_CFG k)) ++ wordBytes (σ.word (R.CYC_TASK_STAT k)) ++ wordBytes (σ.word (R.CYC_TASK_CNT k)) ++
      wordBytes (σ.word (R.CYC_TASK_OWN k)) ++ bytesLE 8 (σ.task k).lastRel ++ bytesLE 8 (σ.task k).lastOut) σ) ∧
  (∀ (c : Cmd) (σ : State), s.Reaches dCycLoad r = true → c = s.reqCmd dCycLoad r → σ = s.taken r →
    let b := σ.load (c.dAddr 0) (c.dSize 0)
    (σ.ownsProg c) = true →
    (σ.progOk b) = true →
    (σ.progTag b) = true →
    let res : Res :=
      if σ.cyc.swapAt.isSome then .wait .waitObject
      else .done stOK (bytesLE 8 (progOf b).id) (σ.loadInactive (progOf b))
    (∀ st pl u, res = .done st pl u → Answers (.cycLoad r) dCycLoad r s st pl u)) ∧
  (∀ (c : Cmd) (σ : State), s.Reaches dCycSwap r = true → c = s.reqCmd dCycSwap r → σ = s.taken r →
    (σ.ownsProg c) = true →
    (σ.eng != 2 && σ.cyc.waiting.isSome && !(σ.eng == 1 && σ.swapDue σ.now)) = true →
    let res : Res :=
      if σ.eng = 0 then .done stOK (bytesLE 8 σ.now) ((σ.activate false).trig 123)
      else match σ.scheduleSwap (c.arg 0 8) c.taken with
        | some (e, σ') => .done stACCEPTED (bytesLE 8 e) σ'
        | none => if c.nowait then .done stBUDGET_DENIED [] (σ.denyAwaited c) else .later .deferred σ.now σ
    (∀ st pl u, res = .done st pl u → Answers (.cycSwap r) dCycSwap r s st pl u) ∧
    (∀ p aux u, res = .later p aux u → Starts (.cycSwap r) dCycSwap r s p aux u)) ∧
  (∀ (c : Cmd) (σ : State), s.Reaches dCycStart r = true → c = s.reqCmd dCycStart r → σ = s.taken r →
    let m := c.arg 0 1
    (decide (m ≤ 2) && c.zero 1 3) = true →
    (σ.ownsProg c) = true →
    (σ.cyc.active.isSome) = true →
    ((m == 2 && σ.eng == 2) || (m != 2 && σ.eng == 0)) = true →
    let res : Res :=
      if (match σ.startLive with | some ρ => !ρ.auto | none => false) then .wait .waitObject
      else
        let σ := { σ with cyc.start := some { mode := m, auto := false, cmd := some (c.node, c.win, c.tag) } }
        match σ.admitGroup σ.progObjs with
        | some σ' =>
          let at_ := (σ.now / gridNs + 1) * gridNs
          .later .running at_ ({ σ' with cyc.start := some { mode := m, auto := false, cmd := some (c.node, c.win, c.tag), runAt := some at_ } })
        | none => if c.nowait then .done stBUDGET_DENIED [] (({ σ with cyc.start := none } : State).denyAwaited c) else .later .deferred σ.now σ
    (∀ st pl u, res = .done st pl u → Answers (.cycStart r) dCycStart r s st pl u) ∧
    (∀ p aux u, res = .later p aux u → Starts (.cycStart r) dCycStart r s p aux u)) ∧
  (∀ (c : Cmd) (σ : State), s.Reaches dCycStop r = true → c = s.reqCmd dCycStop r → σ = s.taken r →
    (σ.ownsProg c) = true →
    (σ.eng == 1 || σ.eng == 2) = true →
    Answers (.cycStop r) dCycStop r s stOK (bytesLE 8 σ.now) (σ.cycStop true)) ∧
  (∀ (c : Cmd) (σ : State), s.Reaches dCycHold r = true → c = s.reqCmd dCycHold r → σ = s.taken r →
    (σ.ownsProg c) = true →
    (σ.eng == 1 && σ.holdPermitted) = true →
    Answers (.cycHold r) dCycHold r s stOK (bytesLE 8 σ.now) σ.cycHoldNow) ∧
  (∀ (c : Cmd) (σ : State), s.Reaches dCycTaskRestart r = true → c = s.reqCmd dCycTaskRestart r → σ = s.taken r →
    let k := c.arg 0 1
    (decide (k < 24) && c.zero 1 3) = true →
    (σ.ownsTask c k) = true →
    (σ.eng == 1 && σ.tstate k == 5) = true →
    let σ := ((σ.setT k 1).wr (F.CYC_TASK_STAT_CAUSE k) 0).wr (F.CYC_TASK_STAT_OVR_RUN k) 0
    Answers (.cycTaskRestart r) dCycTaskRestart r s stOK (bytesLE 8 (if isCyclic k then σ.nextRelease k else 0)) (σ.modTask k (fun x => { x with prime := true }))) ∧
  (∀ (c : Cmd) (σ : State), s.Reaches dCycChange r = true → c = s.reqCmd dCycChange r → σ = s.taken r →
    let b := σ.changeBytes c
    let op := leAt b 0 1
    let n := leAt b 1 1
    let es := (List.range n).map (fun i => slice b (12 + 16 * i) 16)
    let at_ := leAt b 4 8
    (decide (op ≤ 2) && leAt b 2 2 == 0 && (op == 1 || at_ == 0) &&
      (if op = 0 then between 1 64 n && (if c.desc then decide (12 + 16 * n ≤ c.dSize 0) else c.req.len == 12 + 16 * n) && es.all (fun e => σ.changeOk e)
       else n == 0 && (c.desc || c.req.len == 12))) = true →
    (σ.ownsProg c) = true →
    (if op = 0 then decide (σ.cyc.staged.length + n ≤ 64) else op != 1 || !σ.cyc.staged.isEmpty) = true →
    (op != 1 || σ.eng != 2) = true →
    let res : Res :=
      if σ.cyc.commitAt.isSome then .wait .waitObject
      else if op = 0 then
        let σ := { σ with cyc.staged := σ.cyc.staged ++ es }
        .done stOK σ.stagedBytes (σ.wr F.CYC_STATE_OC_STAGED σ.cyc.staged.length)
      else if op = 1 then
        if σ.eng = 0 then
          let σ := σ.applyStaged.wr F.CYC_STATE_OC_RESULT 2
          .done stOK σ.stagedBytes σ
        else .done stACCEPTED σ.stagedBytes ({ σ.wr F.CYC_STATE_OC_RESULT 1 with cyc.commitAt := some (if at_ = 0 then σ.now else max at_ σ.now) })
      else
        let σ := { σ with cyc.staged := [] }
        .done stOK σ.stagedBytes ((σ.wr F.CYC_STATE_OC_STAGED 0).wr F.CYC_STATE_OC_RESULT 4)
    (∀ st pl u, res = .done st pl u → Answers (.cycChange r) dCycChange r s st pl u)) ∧
  (∀ (c : Cmd) (σ : State), s.Reaches dCycForce r = true → c = s.reqCmd dCycForce r → σ = s.taken r →
    let op := c.arg 0 1
    let n := c.arg 1 1
    let es := (List.range n).map (fun i => c.argBytes (4 + 16 * i) 16)
    let key (e : List Byte) := σ.forceSlot (leAt e 0 1) (leAt e 2 2)
    (c.zero 2 2 && (c.req.len == 4 + 16 * n) &&
      (if op = 0 then between 1 2 n && es.all forceOk else if op = 1 then n == 1 && es.all (fun e => forceForm e && (key e).isSome) else op == 2 && n == 0)) = true →
    (σ.ownsProg c) = true →
    (σ.holdPermitted && (op != 0 || es.all (fun e => leAt e 0 1 != 1 || σ.progObjs.contains (leAt e 2 2)))) = true →
    let res : Res :=
      if op = 0 then
        (match σ.putForces es with
         | some σ' => .done stOK σ'.forceBytes σ'.forceStat
         | none => .refuse stBAD_ARGUMENT)
      else if op = 1 then
        let σ' := foldS es (fun e (σ : State) => match σ.forceSlot (leAt e 0 1) (leAt e 2 2) with | some i => σ.store (cycForce i) (List.replicate 16 0) | none => σ) σ
        .done stOK σ'.forceBytes σ'.forceStat
      else .done stOK (σ.clearForces).forceBytes σ.clearForces
    (∀ st pl u, res = .done st pl u → Answers (.cycForce r) dCycForce r s st pl u)) ∧
  (∀ (c : Cmd) (σ : State), s.Reaches dCycVarRead r = true → c = s.reqCmd dCycVarRead r → σ = s.taken r →
    let o := c.arg 2 2
    let w := c.arg 4 1
    let y := match σ.cyc.active with | some p => p.syms[c.arg 0 2]? | none => none
    (between 1 40 w && c.zero 5 3 && (match y with | some y => decide (o + w ≤ y.size) | none => false)) = true →
    (σ.readsProg c) = true →
    Answers (.cycVarRead r) dCycVarRead r s stOK (bytesLE 8 σ.now ++ (match y with | some y => σ.load (cycData σ.bank + y.off + o) w | none => [])) σ) ∧
  (∀ (c : Cmd) (σ : State), s.Reaches dCycEvent r = true → c = s.reqCmd dCycEvent r → σ = s.taken r →
    let k := c.arg 0 1
    (between 8 23 k && c.zero 1 3 && bitsOf (σ.taskCfg k) 17 3 == 5) = true →
    (σ.ownsTask c k) = true →
    let res : Res :=
      if σ.eng ≠ 1 ∨ σ.tstate k = 5 then .done stOK (bytesLE 8 0) (σ.trigger k σ.now)
      else
        let t := ceilTo gridNs (max (c.taken + us 50) (σ.now + 1))
        if (σ.task k).rel.isSome || (σ.task k).relAt.isSome then .later .running k (σ.trigger k t)
        else .done stOK (bytesLE 8 t) (σ.trigger k t)
    (∀ st pl u, res = .done st pl u → Answers (.cycEvent r) dCycEvent r s st pl u) ∧
    (∀ p aux u, res = .later p aux u → Starts (.cycEvent r) dCycEvent r s p aux u))

/-- Switch commands: ports, queues, counters, forwarding entries, VLANs, policers, MACsec associations and the buffer audit (R263, R264, R265, R266, R267, R268, R269, R270, R271). -/
def Obligations.SwitchCommandsComplete : Prop :=
  ∀ (s : State) (r : Req),
  (∀ (c : Cmd) (σ : State), s.Reaches dSwcPortStatus r = true → c = s.reqCmd dSwcPortStatus r → σ = s.taken r →
    let p := c.arg 0 1
    (decide (p < 28) && c.zero 1 3) = true →
    (σ.mayRead c kPort p || σ.owns c kPort p) = true →
    Answers (.swcPortStatus r) dSwcPortStatus r s stOK (wordBytes (σ.word (R.SWC_PORT_CFG0 p)) ++ wordBytes (σ.word (R.SWC_PORT_CFG1 p)) ++ wordBytes (σ.word (R.SWC_PORT_CFG2 p)) ++
      wordBytes (σ.word (R.SWC_PORT_STAT p)) ++ bytesLE 8 (σ.swPort p).linkAt) σ) ∧
  (∀ (c : Cmd) (σ : State), s.Reaches dSwcPortConfig r = true → c = s.reqCmd dSwcPortConfig r → σ = s.taken r →
    let p := c.arg 0 1
    let ims := [c.image (R.SWC_PORT_CFG0 p) 4, c.image (R.SWC_PORT_CFG1 p) 12, c.image (R.SWC_PORT_CFG2 p) 20]
    (decide (p < 28) && c.zero 1 3 && imagesOk (portFlds p) ims) = true →
    (σ.owns c kPort p) = true →
    let res : Res :=
      σ.configure (portFlds p) ims (σ.portStopped p) 0
    (∀ st pl u, res = .done st pl u → Answers (.swcPortConfig r) dSwcPortConfig r s st pl u)) ∧
  (∀ (c : Cmd) (σ : State), s.Reaches dSwcQueueConfig r = true → c = s.reqCmd dSwcQueueConfig r → σ = s.taken r →
    let q := c.arg 0 2
    let fs := queueFlds q
    let ws := queueWords c q
    let ims : List Image := (ws.filter (fun w => w.2.2)).map (fun w => (w.1, w.2.1, fullMask fs w.1))
    let val (f : Fld) : Nat := σ.afterFld fs ims f
    let sum := (List.range 224).foldl (fun a k => a + (if k = q then val (F.SWC_Q_CFG0_Q_MIN q) else σ.shadow (F.SWC_Q_CFG0_Q_MIN k))) 0
    (decide (q < 224) && decide (c.arg 2 1 < 32) && c.zero 3 1 && ws.all (fun w => w.2.2 || w.2.1 == 0) &&
      ims.all (fun im => im.2.1 &&& im.2.2 == im.2.1) && imagesOk fs ims && decide (sum ≤ 32768) &&
      decide (val (F.SWC_Q_CFG0_Q_MIN q) ≤ val (F.SWC_Q_CFG0_Q_MAX q)) &&
      ([0, 1, 2] : List Nat).all (fun k => val (F.SWC_Q_RED_P_ENABLE q k) == 0 || decide (val (F.SWC_Q_RED_TH_MIN_TH q k) < val (F.SWC_Q_RED_TH_MAX_TH q k)))) = true →
    (σ.owns c kPort (q / 8)) = true →
    let res : Res :=
      σ.configure fs ims true 0
    (∀ st pl u, res = .done st pl u → Answers (.swcQueueConfig r) dSwcQueueConfig r s st pl u)) ∧
  (∀ (c : Cmd) (σ : State), s.Reaches dSwcQueueStatus r = true → c = s.reqCmd dSwcQueueStatus r → σ = s.taken r →
    let f := c.arg 0 2
    let n := c.arg 2 1
    let l := (List.range n).map (fun i => f + i)
    (between 1 5 n && c.zero 3 1 && decide (f + n ≤ 224)) = true →
    (l.all (fun q => σ.mayRead c kPort (q / 8) || σ.owns c kPort (q / 8))) = true →
    Answers (.swcQueueStatus r) dSwcQueueStatus r s stOK (bytesLE 8 σ.now ++ l.flatMap (fun q => wordBytes (σ.queueWord q) ++ bytesLE 4 (σ.swQueue q).drops)) σ) ∧
  (∀ (c : Cmd) (σ : State), s.Reaches dSwcCounters r = true → c = s.reqCmd dSwcCounters r → σ = s.taken r →
    let b := σ.rangeBytes c
    let p := leAt b 0 1
    let f := leAt b 1 1
    let n := leAt b 2 1
    (decide (p < 28) && leAt b 3 1 == 0 && between 1 (if c.desc then 32 else 5) n && decide (f + n ≤ 32) && (!c.desc || c.dSize 0 == 4) &&
      (!c.desc || c.room (8 + 8 * n))) = true →
    (σ.mayRead c kPort p || σ.owns c kPort p) = true →
    let res : Res :=
      σ.answerRange c (bytesLE 8 σ.now ++ (List.range n).flatMap (fun i => bytesLE 8 (σ.swCnt p (f + i)))) (bytesLE 4 (8 + 8 * n) ++ bytesLE 4 0)
    (∀ st pl u, res = .done st pl u → Answers (.swcCounters r) dSwcCounters r s st pl u)) ∧
  (∀ (c : Cmd) (σ : State), s.Reaches dSwcFdbSet r = true → c = s.reqCmd dSwcFdbSet r → σ = s.taken r →
    let mac := natBE (c.argBytes 0 6)
    let vid := c.arg 6 2
    let m := c.arg 8 4
    (between 1 4094 vid && (σ.swc.vlans.get {} vid).defined && decide (m < 2 ^ 28) && c.zero 12 4 && (m == 0 || (σ.staticSlot vid mac).isSome)) = true →
    (σ.ownsVlan c vid) = true →
    let res : Res :=
      if m = 0 then .done stOK [] (match σ.fdbFind vid mac with | some i => { σ with swc.fdb := σ.swc.fdb.erase i } | none => σ)
      else match σ.staticSlot vid mac with
        | some i => .done stOK [] (σ.setFdb i { mac := mac, vid := vid, mask := m, static := true, valid := true, seen := σ.now })
        | none => .refuse stBAD_ARGUMENT
    (∀ st pl u, res = .done st pl u → Answers (.swcFdbSet r) dSwcFdbSet r s st pl u)) ∧
  (∀ (c : Cmd) (σ : State), s.Reaches dSwcFdbRead r = true → c = s.reqCmd dSwcFdbRead r → σ = s.taken r →
    let start := natLE (σ.load (c.dAddr 0) 4)
    (c.dSize 0 == 4 && decide (start < 16384) && (c.dSize 1 % 16 == 0)) = true →
    (c.node == 0xFFFF) = true →
    let l := σ.swc.fdb.keys.filter (fun i => decide (start ≤ i) && (σ.fdbE i).valid && σ.readsVlan c (σ.fdbE i).vid)
    let got := l.take (c.dSize 1 / 16)
    let rest := l.drop (c.dSize 1 / 16)
    Answers (.swcFdbRead r) dSwcFdbRead r s stOK (bytesLE 4 (16 * got.length) ++ bytesLE 4 (match rest with | [] => 0xFFFFFFFF | i :: _ => i)) (σ.putBuf c 1 (got.flatMap (fun i => σ.fdbBytes (σ.fdbE i))))) ∧
  (∀ (c : Cmd) (σ : State), s.Reaches dSwcVlanConfig r = true → c = s.reqCmd dSwcVlanConfig r → σ = s.taken r →
    let v := c.arg 0 2
    let f := c.arg 12 1
    (between 1 4094 v && c.zero 2 2 && decide (c.arg 4 4 < 2 ^ 28) && decide (c.arg 8 4 < 2 ^ 28) && decide (f < 16) && c.zero 13 3) = true →
    (σ.ownsVlan c v) = true →
    let res : Res :=
      if bitOf f 3 then
        .done stOK [] { σ with swc.vlans := σ.swc.vlans.set v { defined := true, member := c.arg 4 4, untag := c.arg 8 4, learn := bitOf f 0, floodUc := bitOf f 1, floodMc := bitOf f 2 } }
      else .done stOK [] { σ with swc.vlans := σ.swc.vlans.erase v, swc.fdb := σ.swc.fdb.keep (fun i => (σ.fdbE i).vid != v) }
    (∀ st pl u, res = .done st pl u → Answers (.swcVlanConfig r) dSwcVlanConfig r s st pl u)) ∧
  (∀ (c : Cmd) (σ : State), s.Reaches dSwcPolicer r = true → c = s.reqCmd dSwcPolicer r → σ = s.taken r →
    let k := c.arg 0 2
    let m := c.arg 2 1
    let cir := c.arg 4 4
    let pir := c.arg 8 4
    let cbs := c.arg 12 4
    let pbs := c.arg 16 4
    (decide (k < 1024) && decide (m < 4) && c.zero 3 1 && c.zero 20 4 && decide (cir ≤ pir) && decide (pir ≤ 400000) &&
      between 64 1048575 cbs && between 64 1048575 pbs) = true →
    (σ.owns c kPolicer k) = true →
    let p := σ.swc.pols.get {} k
    Answers (.swcPolicer r) dSwcPolicer r s stOK (bytesLE 4 p.green ++ bytesLE 4 p.yellow ++ bytesLE 4 p.red ++ bytesLE 4 0) { σ with swc.pols := σ.swc.pols.set k { p with aware := bitOf m 0, redPass := bitOf m 1, cir := cir, pir := pir, cbs := cbs, pbs := pbs, tc := cbs * 125000, tp := pbs * 125000, at_ := σ.now } }) ∧
  (∀ (c : Cmd) (σ : State), s.Reaches dSwcMacsecSa r = true → c = s.reqCmd dSwcMacsecSa r → σ = s.taken r →
    let p := c.arg 0 1
    let rx := c.arg 1 1 == 1
    let an := c.arg 2 1
    let sc := c.arg 3 1
    let k := c.arg 4 2
    let f := c.arg 6 2
    let others := (σ.swPort p).secy.sas.filter (fun a => a.rx == rx && a.sc == sc && a.an != an)
    (decide (p < 24) && decide (c.arg 1 1 ≤ 1) && decide (an ≤ 3) && decide (sc ≤ 3) && (rx || sc == 0) && decide (k ≤ 255) && decide (f < 16) &&
      (bitOf f 0 || c.zero 12 4) && (rx || c.zero 16 8) && (σ.slotType k == 2) && decide (others.length < 2)) = true →
    (σ.owns c kPort p && σ.owns c kKey k) = true →
    (σ.slotUse k 7) = true →
    (σ.usable k) = true →
    Answers (.swcMacsecSa r) dSwcMacsecSa r s stOK [] (σ.putSa p { rx := rx, an := an, sc := sc, slot := k, xpn := bitOf f 0, enabled := bitOf f 1, conf := bitOf f 2, inclSci := bitOf f 3, next := c.arg 8 8, low := c.arg 8 8, sci := c.arg 16 8 })) ∧
  (∀ (c : Cmd) (σ : State), s.Reaches dSwcAudit r = true → c = s.reqCmd dSwcAudit r → σ = s.taken r →
    let op := c.arg 0 1
    (decide (op ≤ 1) && c.zero 1 3) = true →
    (op == 0 || c.isSecure) = true →
    let res : Res :=
      if op = 0 then .done stOK (wordBytes σ.auditWord ++ wordBytes σ.poolWord ++ bytesLE 4 σ.swc.snaps) σ
      else σ.commandAct c aBUF_AUDIT 0 0 0
    (∀ st pl u, res = .done st pl u → Answers (.swcAudit r) dSwcAudit r s st pl u) ∧
    (∀ p aux u, res = .later p aux u → Starts (.swcAudit r) dSwcAudit r s p aux u))

/-- TSN commands: gate lists, shapers, preemption, streams, recovery functions, gPTP and fast-actuation senders (R279, R298, R299, R300, R301, R302, R303, R304). -/
def Obligations.TsnCommandsComplete : Prop :=
  ∀ (s : State) (r : Req),
  (∀ (c : Cmd) (σ : State), s.Reaches dTsnGclSet r = true → c = s.reqCmd dTsnGclSet r → σ = s.taken r →
    let b := σ.load (c.dAddr 0) (min (c.dSize 0) 2072)
    let ty := leAt b 0 1
    let idx := leAt b 2 2
    let base := leAt b 4 8
    let cyc := leAt b 12 4
    let n := leAt b 20 2
    let k := gclKey ty idx
    let es := gclEntries b n
    (decide (24 + 8 * n ≤ c.dSize 0) && decide (ty ≤ 1) && leAt b 1 1 == 0 && decide (idx < (if ty = 0 then 28 else 256)) && between 1000 1000000000 cyc &&
      decide (leAt b 16 4 ≤ cyc) && leAt b 22 2 == 0 && between 1 (if ty = 0 then 256 else 64) n &&
      (List.range n).all (fun i => leAt b (26 + 8 * i) 2 == 0) && es.all (fun e => σ.gclEntryOk ty idx e) && (ty == 0 || decide (σ.sgEntries k + n ≤ 1024))) = true →
    (σ.owns c (gclOwnKind ty) idx) = true →
    let tc := changeAt c.taken base cyc
    let σ := σ.setGates k { σ.gates k with pendAt := σ.now, pend := some ({ base := base, cycle := cyc, ext := leAt b 16 4, ents := es }, tc) }
    Answers (.tsnGclSet r) dTsnGclSet r s stOK (bytesLE 8 tc) (if ty = 0 then σ.wrb (F.TSN_GATE_CTL_PENDING idx) true else σ)) ∧
  (∀ (c : Cmd) (σ : State), s.Reaches dTsnGclStatus r = true → c = s.reqCmd dTsnGclStatus r → σ = s.taken r →
    let ty := c.arg 0 1
    let idx := c.arg 2 2
    (decide (ty ≤ 1) && c.zero 1 1 && decide (idx < (if ty = 0 then 28 else 256))) = true →
    (σ.mayRead c (gclOwnKind ty) idx || σ.owns c (gclOwnKind ty) idx) = true →
    let g := σ.gates (gclKey ty idx)
    let l := g.oper.getD {}
    let st := if ty = 0 then σ.gateMask idx else b2n g.open_
    let en := if ty = 0 then σ.rd (F.TSN_GATE_STAT_ENTRY idx) else g.entry
    Answers (.tsnGclStatus r) dTsnGclStatus r s stOK (bytesLE 8 l.base ++ bytesLE 4 l.cycle ++ bytesLE 2 l.ents.length ++ bytesLE 2 0 ++ bytesLE 8 ((g.pend.map (fun p => p.2)).getD 0) ++
      bytesLE 1 st ++ bytesLE 2 en ++ bytesLE 5 0) σ) ∧
  (∀ (c : Cmd) (σ : State), s.Reaches dTsnShaperConfig r = true → c = s.reqCmd dTsnShaperConfig r → σ = s.taken r →
    let p := c.arg 0 1
    let k := c.arg 1 1
    let w := c.arg 4 4
    let sum := (List.range 8).foldl (fun a i => a + (if i = k then w % 2 ^ 20 else σ.slopeOf p i)) 0
    (decide (p < 28) && decide (k < 8) && c.zero 2 2 && bitsOf w 20 11 == 0 && decide (sum * 64 ≤ σ.portRate p * 1000)) = true →
    (σ.owns c kPort p) = true →
    Answers (.tsnShaperConfig r) dTsnShaperConfig r s stOK [] (σ.credits.setSlope p k w)) ∧
  (∀ (c : Cmd) (σ : State), s.Reaches dTsnPreemptConfig r = true → c = s.reqCmd dTsnPreemptConfig r → σ = s.taken r →
    let p := c.arg 0 1
    let ims := [c.image (R.TSN_PRE_CFG p) 4]
    (decide (p < 16) && c.zero 1 3 && imagesOk (preemptFlds p) ims) = true →
    (σ.owns c kPort p) = true →
    let res : Res :=
      σ.configure (preemptFlds p) ims (σ.portStopped p) 0
    (∀ st pl u, res = .done st pl u → Answers (.tsnPreemptConfig r) dTsnPreemptConfig r s st pl u)) ∧
  (∀ (c : Cmd) (σ : State), s.Reaches dTsnStreamSet r = true → c = s.reqCmd dTsnStreamSet r → σ = s.taken r →
    let n := c.arg 0 2
    let id := c.arg 2 1
    let f := c.arg 3 1
    let mac := natBE (c.argBytes 4 6)
    let vid := c.arg 10 2
    let opt (v m : Nat) : Bool := decide (v ≤ m) || v == 0xFFFF
    (decide (n < 1024) && decide (id ≤ 2) && decide (f < 32) && (id == 0 || between 1 4094 vid) && decide (vid < 4096) && decide (c.arg 12 1 ≤ 7) && c.zero 13 1 &&
      opt (c.arg 16 2) 1023 && opt (c.arg 18 2) 255 && opt (c.arg 20 2) 255 && c.zero 22 2 && decide (c.arg 24 4 < 2 ^ 28) && c.zero 28 4) = true →
    (σ.owns c kStream n) = true →
    let x := σ.stream n
    let σ := σ.setStream n { x with seqGen := bitOf f 1, ipvValid := bitOf f 2, blockOver := bitOf f 3, ipv := c.arg 12 1, maxSdu := c.arg 14 2, policer := c.arg 16 2, sgate := c.arg 18 2, recov := c.arg 20 2, encode := c.arg 24 4, blocked := x.blocked && !bitOf f 4 }
    let ρ := σ.stageAll [(F.TSN_STR_ID_IDTYPE n, id), (F.TSN_STR_ID_SAFETY n, f % 2), (F.TSN_STR_MACL_MAC n, mac % 2 ^ 32), (F.TSN_STR_MACH_MAC n, mac / 2 ^ 32), (F.TSN_STR_MACH_VID n, vid)]
    Answers (.tsnStreamSet r) dTsnStreamSet r s ρ.1 [] ρ.2) ∧
  (∀ (c : Cmd) (σ : State), s.Reaches dTsnStreamStatus r = true → c = s.reqCmd dTsnStreamStatus r → σ = s.taken r →
    let n := c.arg 0 2
    (decide (n < 1024) && c.zero 2 2) = true →
    (σ.mayRead c kStream n || σ.owns c kStream n) = true →
    let x := σ.stream n
    Answers (.tsnStreamStatus r) dTsnStreamStatus r s stOK (bytesLE 8 σ.now ++ [x.matched, x.dropOver, x.dropGate, x.dropMeter, x.passed, x.dup, x.rogue, x.resets].flatMap (fun v => bytesLE 4 v)) σ) ∧
  (∀ (c : Cmd) (σ : State), s.Reaches dTsnFrerSet r = true → c = s.reqCmd dTsnFrerSet r → σ = s.taken r →
    let f := c.arg 0 2
    (decide (f < 256) && decide (c.arg 2 1 ≤ 1) && between 2 32 (c.arg 3 1) && between 1 65535 (c.arg 4 2) && decide (c.arg 6 1 ≤ 1) &&
      between 1 65535 (c.arg 8 4) && c.zero 12 4) = true →
    (σ.owns c kRecov f) = true →
    let ρ := σ.stageAll [(F.TSN_FRER_A_ALG f, c.arg 2 1), (F.TSN_FRER_A_HISTORY f, c.arg 3 1), (F.TSN_FRER_B_RESET_MS f, c.arg 4 2),
      (F.TSN_FRER_A_LATENT f, c.arg 6 1), (F.TSN_FRER_A_LATENT_DIFF f, c.arg 7 1), (F.TSN_FRER_B_LATENT_PERIOD f, c.arg 8 4)]
    Answers (.tsnFrerSet r) dTsnFrerSet r s stSTAGED [] ρ.2) ∧
  (∀ (c : Cmd) (σ : State), s.Reaches dTsnGptpStatus r = true → c = s.reqCmd dTsnGptpStatus r → σ = s.taken r →
    let i := c.arg 0 1
    let p := c.arg 1 1
    (decide (i ≤ 1) && decide (p ≤ 15) && c.zero 2 2) = true →
    let g := σ.gptp i
    let x := σ.glink i p
    Answers (.tsnGptpStatus r) dTsnGptpStatus r s stOK (bytesBE 8 g.gm ++ bytesLE 1 (σ.rd (F.TSN_GPTP_DOMAIN i)) ++ bytesLE 1 (b2n g.isGm + 2 * b2n (σ.isTaurnSource i)) ++ bytesLE 1 (σ.portRole i p) ++
      bytesLE 1 (b2n x.asCap) ++ bytesLE 8 (unsgn 64 (σ.gptpOffset i)) ++ bytesLE 4 (σ.pathDelay i p) ++ bytesLE 8 (unsgn 64 x.ratio) ++ bytesLE 2 g.steps ++
      bytesLE 1 (σ.logSyncOf i p) ++ bytesLE 5 0) σ) ∧
  (∀ (c : Cmd) (σ : State), s.Reaches dFaSenderSet r = true → c = s.reqCmd dFaSenderSet r → σ = s.taken r →
    let n := c.arg 0 1
    let w := c.arg 4 4
    (decide (n < 64) && c.zero 1 3 && bitsOf w 22 9 == 0 && bitsOf w 8 8 == 0 && targetOk (bitsOf w 16 6)) = true →
    (c.isSecure) = true →
    let ρ := σ.stageAll [(F.TSN_FA_SND_CFG_VALID n, bitsOf w 31 1), (F.TSN_FA_SND_CFG_HOLDER n, bitsOf w 16 6), (F.TSN_FA_SND_CFG_KEY_SLOT n, w % 256)]
    Answers (.faSenderSet r) dFaSenderSet r s stSTAGED [] ρ.2) ∧
  (∀ (c : Cmd) (σ : State), s.Reaches dFaStatus r = true → c = s.reqCmd dFaStatus r → σ = s.taken r →
    let n := c.arg 0 1
    ((decide (n < 64) || n == 0xFF) && c.zero 1 3) = true →
    (c.isSecure || (c.node == 0xFFFF && n != 0xFF && σ.shareOf (σ.rd (F.TSN_FA_SND_CFG_HOLDER n)) == c.who)) = true →
    let cnt (ρ : Nat) : Nat := if n = 0xFF then (List.range 65).foldl (fun a k => a + σ.tsn.faCnt.get 0 (16 * k + ρ)) 0 else σ.tsn.faCnt.get 0 (16 * n + ρ)
    Answers (.faStatus r) dFaStatus r s stOK (bytesLE 8 (if n = 0xFF then 0 else σ.faSeq n) ++ (List.range 10).flatMap (fun ρ => bytesLE 4 (cnt ρ))) σ)

/-- CAN, LIN and gateway commands: configuration, status, recovery, schedule tables, routes, PDUs and the bridge error log (R330, R331, R332, R333, R334, R335, R352, R353, R354, R358). -/
def Obligations.FieldBusCommandsComplete : Prop :=
  ∀ (s : State) (r : Req),
  (∀ (c : Cmd) (σ : State), s.Reaches dCanConfig r = true → c = s.reqCmd dCanConfig r → σ = s.taken r →
    let n := c.arg 0 1
    (σ.dev != .coppice || n == 0) = true →
    let nbt := c.arg 12 4
    let dbt := c.arg 16 4
    let im : List Image := [(R.CAN_CTL n, c.arg 4 4, c.arg 8 4)] ++
      (if nbt = σ.wordN (R.CAN_NBT n) then [] else [(R.CAN_NBT n, nbt, 0xFFFFFFE0)]) ++
      (if dbt = σ.wordN (R.CAN_DBT n) then [] else [(R.CAN_DBT n, dbt, 0xFFFFFFC0)])
    let old := σ.rd (F.CAN_CTL_MODE n)
    let new := σ.afterFld (canFlds n) im (F.CAN_CTL_MODE n)
    (decide (n ≤ 15) && c.zero 1 3 && imagesOk (canFlds n) im && canTimingOk nbt dbt && (new == 0 || σ.canAreaOk n)) = true →
    (σ.owns c kCan n) = true →
    let res : Res :=
      (σ.configure (canFlds n) im (old == 0) (if new = 4 ∧ σ.rd F.MPC_LC_STAT_LIFECYCLE ≠ 1 then stMODE_FORBIDS else 0)).andThen
        (fun σ => σ.modeAfter n old (c.arg 8 4))
    (∀ st pl u, res = .done st pl u → Answers (.canConfig r) dCanConfig r s st pl u)) ∧
  (∀ (c : Cmd) (σ : State), s.Reaches dCanStatus r = true → c = s.reqCmd dCanStatus r → σ = s.taken r →
    let n := c.arg 0 1
    (decide (n ≤ 15) && c.zero 1 3) = true →
    (σ.owns c kCan n || σ.mayRead c kCan n) = true →
    let x := σ.can_ n
    Answers (.canStatus r) dCanStatus r s stOK (wordBytes (σ.word (R.CAN_CTL n)) ++ wordBytes (σ.word (R.CAN_NBT n)) ++ wordBytes (σ.word (R.CAN_DBT n)) ++
      wordBytes (σ.word (R.CAN_STAT n)) ++ wordBytes (σ.word (R.CAN_CNT n)) ++ bytesLE 4 x.accepted ++ bytesLE 4 x.sent ++ bytesLE 4 x.errs ++
      bytesLE 4 x.lost ++ bytesLE 4 x.ovf ++ bytesLE 8 x.stateAt) σ) ∧
  (∀ (c : Cmd) (σ : State), s.Reaches dCanRecover r = true → c = s.reqCmd dCanRecover r → σ = s.taken r →
    let n := c.arg 0 1
    (σ.dev != .coppice || n == 0) = true →
    (decide (n ≤ 15) && c.zero 1 3) = true →
    (σ.owns c kCan n) = true →
    (σ.rd (F.CAN_STAT_STATE n) == 3) = true →
    Answers (.canRecover r) dCanRecover r s stOK (bytesLE 8 σ.now) (σ.startRecovery n)) ∧
  (∀ (c : Cmd) (σ : State), s.Reaches dLinConfig r = true → c = s.reqCmd dLinConfig r → σ = s.taken r →
    let n := c.arg 0 1
    let im : List Image := [(R.LIN_CTL n, c.arg 4 4, c.arg 8 4)]
    (decide (n ≤ 7) && c.zero 1 3 && imagesOk (linFlds n) im) = true →
    (σ.owns c kLin n) = true →
    let res : Res :=
      σ.configure (linFlds n) im (σ.linStopped n) 0
    (∀ st pl u, res = .done st pl u → Answers (.linConfig r) dLinConfig r s st pl u)) ∧
  (∀ (c : Cmd) (σ : State), s.Reaches dLinTableLoad r = true → c = s.reqCmd dLinTableLoad r → σ = s.taken r →
    let b := σ.load (c.dAddr 0) (min (c.dSize 0) 516)
    let n := leAt b 0 1
    let tab := leAt b 1 1
    let cnt := leAt b 3 1
    let es := (List.range cnt).map (fun i => linEntry b (4 + 8 * i))
    (decide (n ≤ 7) && decide (tab ≤ 15) && decide (leAt b 2 1 ≤ 1) && between 1 64 cnt && decide (4 + 8 * cnt ≤ c.dSize 0) &&
      (List.range cnt).all (fun i => leAt b (8 + 8 * i) 4 == 0) && es.all (fun e => σ.linEntryOk n e) && decide (σ.linEntries n tab + cnt ≤ 256)) = true →
    (σ.owns c kLin n) = true →
    let res : Res :=
      if σ.linActive n tab then .wait .waitObject
      else .done stOK [] (σ.modLin n (fun x => { x with tables := x.tables.set tab { once := bitOf (leAt b 2 1) 0, ents := es } }))
    (∀ st pl u, res = .done st pl u → Answers (.linTableLoad r) dLinTableLoad r s st pl u)) ∧
  (∀ (c : Cmd) (σ : State), s.Reaches dLinSchedule r = true → c = s.reqCmd dLinSchedule r → σ = s.taken r →
    let n := c.arg 0 1
    let tab := c.arg 1 1
    let w := c.arg 2 1
    (decide (n ≤ 7) && decide (tab ≤ 15) && decide (w ≤ 1) && c.zero 3 1 && !(σ.linTable n tab).ents.isEmpty) = true →
    (σ.owns c kLin n) = true →
    let res : Res :=
      if (σ.lin_ n).run then .done stOK (bytesLE 8 (σ.linSwitchAt n w)) (σ.modLin n (fun x => { x with switch_ := some (tab, σ.linWhen n w) }))
      else
        let t := if tab = σ.rd (F.LIN_CTL_TABLE n) then σ else σ.linTrig n 2
        .done stOK (bytesLE 8 (max σ.now (σ.lin_ n).nextAt)) ((t.modLin n (fun x => { x with prev := σ.rd (F.LIN_CTL_TABLE n) })).wr (F.LIN_CTL_TABLE n) tab)
    (∀ st pl u, res = .done st pl u → Answers (.linSchedule r) dLinSchedule r s st pl u)) ∧
  (∀ (c : Cmd) (σ : State), s.Reaches dLinStatus r = true → c = s.reqCmd dLinStatus r → σ = s.taken r →
    let n := c.arg 0 1
    (decide (n ≤ 7) && c.zero 1 3) = true →
    (σ.owns c kLin n || σ.mayRead c kLin n) = true →
    Answers (.linStatus r) dLinStatus r s stOK (wordBytes (σ.word (R.LIN_CTL n)) ++ wordBytes (σ.word (R.LIN_STAT n)) ++ bytesLE 8 (σ.linNewWord n) ++ bytesLE 8 (σ.lin_ n).slotAt) σ) ∧
  (∀ (c : Cmd) (σ : State), s.Reaches dGwyStatus r = true → c = s.reqCmd dGwyStatus r → σ = s.taken r →
    let rs := σ.gwy.routes.keys.filter (fun ρ => (σ.route ρ).defined)
    Answers (.gwyStatus r) dGwyStatus r s stOK (bytesLE 2 rs.length ++ bytesLE 2 (rs.filter (fun ρ => σ.routeEn ρ && (σ.route ρ).run)).length ++ bytesLE 2 σ.gwy.sigs.length ++
      bytesLE 1 σ.gwy.nConts ++ bytesLE 1 (b2n (σ.gwy.running && σ.dev != .coppice)) ++ bytesLE 4 σ.gwy.updates ++ bytesLE 4 σ.gwy.sends ++
      bytesLE 2 (σ.rd ⟨R.GWY_ETYPE, 0, 16⟩) ++ bytesLE 2 0 ++ bytesLE 4 σ.gwy.unknown) σ) ∧
  (∀ (c : Cmd) (σ : State), s.Reaches dGwyRouteStatus r = true → c = s.reqCmd dGwyRouteStatus r → σ = s.taken r →
    let ρ := c.arg 0 2
    (σ.isRoute ρ && c.zero 2 2) = true →
    (σ.owns c kRoute ρ || σ.mayRead c kRoute ρ) = true →
    let x := σ.route ρ
    Answers (.gwyRouteStatus r) dGwyRouteStatus r s stOK (bytesLE 8 x.updAt ++ bytesLE 8 (x.sendAt.getD 0) ++ bytesLE 4 x.updates ++ bytesLE 4 x.sends ++ bytesLE 4 x.coalesced ++
      bytesLE 1 x.timeouts ++ bytesLE 1 x.ranges ++ bytesLE 1 x.shorts ++ bytesLE 1 x.fails ++
      bytesLE 1 (b2n (σ.routeEn ρ) + 2 * b2n x.pend + 4 * b2n x.timedOut + 8 * b2n x.run) ++ bytesLE 3 0) σ) ∧
  (∀ (c : Cmd) (σ : State), s.Reaches dGwyRouteEnable r = true → c = s.reqCmd dGwyRouteEnable r → σ = s.taken r →
    let ρ := c.arg 0 2
    (σ.isRoute ρ && decide (c.arg 2 1 ≤ 1) && c.zero 3 1) = true →
    (σ.owns c kRoute ρ) = true →
    Answers (.gwyRouteEnable r) dGwyRouteEnable r s stOK [] (σ.modRoute ρ (fun x => { x with runWant := bitOf (c.arg 2 1) 0 }))) ∧
  (∀ (c : Cmd) (σ : State), s.Reaches dGwyPduRead r = true → c = s.reqCmd dGwyPduRead r → σ = s.taken r →
    let ρ := c.arg 0 2
    let h := c.arg 2 1
    (σ.isRoute ρ && decide (h ≤ 1) && c.zero 3 1) = true →
    (σ.owns c kRoute ρ || σ.mayRead c kRoute ρ) = true →
    let x := σ.route ρ
    let d := if x.level = 1 then x.pdu else x.buf.getD x.tmpl
    Answers (.gwyPduRead r) dGwyPduRead r s stOK (bytesLE 8 x.bufAt ++ bytesLE 1 d.length ++ bytesLE 1 ((if x.level = 1 then x.pduFf else x.dff) % 4 + 4 * b2n x.timedOut) ++ bytesLE 2 0 ++
      slice d (32 * h) 32) σ) ∧
  (∀ (c : Cmd) (σ : State), s.Reaches dGwyBridgeLog r = true → c = s.reqCmd dGwyBridgeLog r → σ = s.taken r →
    let f := c.arg 0 1
    let n := c.arg 1 1
    (decide (f ≤ 7) && between 1 2 n && c.zero 2 2) = true →
    Answers (.gwyBridgeLog r) dGwyBridgeLog r s stOK (bytesLE 2 (σ.rd F.GWY_BLOG_CTL_TOTAL) ++ bytesLE 1 (σ.rd F.GWY_BLOG_CTL_NEXT) ++ bytesLE 1 0 ++ bytesLE 4 σ.brg.expired ++
      (List.range n).flatMap (fun i => σ.blogEntry c (f + i))) σ)

/-- Sleep and Hedgerow commands: votes, wake information, channels, alarms, selective wake-up; chain status, topology, enumeration and map (R361, R371, R372, R373, R378, R379, R380, R381, R400, R401). -/
def Obligations.SleepChainCommandsComplete : Prop :=
  ∀ (s : State) (r : Req),
  (∀ (c : Cmd) (σ : State), s.Reaches dSlpVote r = true → c = s.reqCmd dSlpVote r → σ = s.taken r →
    let v := c.arg 0 1
    (decide (v ≤ 1) && c.zero 1 3) = true →
    (σ.isVoter c) = true →
    let w := σ.rd F.WAK_STAT_VOTES
    Answers (.slpVote r) dSlpVote r s stOK (bytesLE 8 σ.now) (σ.wr F.WAK_STAT_VOTES (if v = 1 then setBit w c.who else clrBit w c.who))) ∧
  (∀ (c : Cmd) (σ : State), s.Reaches dSlpStatus r = true → c = s.reqCmd dSlpStatus r → σ = s.taken r →
    let at_ := if σ.phase = 1 then σ.slp.readyAt else if σ.phase = 2 then σ.slp.tCommit else 0
    Answers (.slpStatus r) dSlpStatus r s stOK (wordBytes σ.wakStat ++ wordBytes (σ.word R.WAK_ARM) ++ wordBytes (σ.word R.WAK_ARM_ETH) ++ bytesLE 8 at_ ++
      bytesLE 2 (σ.rd F.WAK_CFG0_READY_DLY) ++ bytesLE 1 (σ.rd F.WAK_CFG0_PREP_MS) ++ bytesLE 1 0) σ) ∧
  (∀ (c : Cmd) (σ : State), s.Reaches dSlpWakeInfo r = true → c = s.reqCmd dSlpWakeInfo r → σ = s.taken r →
    Answers (.slpWakeInfo r) dSlpWakeInfo r s stOK (wordBytes (σ.word R.WAK_CAUSE) ++ wordBytes (σ.word R.WAK_CAUSE_CAN) ++ wordBytes (σ.word R.WAK_CAUSE_NET) ++
      wordBytes (σ.word R.WAK_COUNT) ++ bytesLE 8 (σ.pair R.WAK_FIRST_LO R.WAK_FIRST_HI) ++ bytesLE 8 σ.slp.tSleep) σ) ∧
  (∀ (c : Cmd) (σ : State), s.Reaches dSlpChannel r = true → c = s.reqCmd dSlpChannel r → σ = s.taken r →
    let k := c.arg 0 1
    let n := c.arg 1 1
    let op := c.arg 2 1
    (decide (k ≤ 2) && decide (n < (if k = 1 then 8 else 16)) && decide (op ≤ 1) && c.zero 3 1) = true →
    (σ.owns c (if k = 0 then kCan else if k = 1 then kLin else kPort) n) = true →
    let res : Res :=
      if k = 0 then σ.slpCan n op else if k = 1 then σ.slpLin n op else σ.slpEth n op
    (∀ st pl u, res = .done st pl u → Answers (.slpChannel r) dSlpChannel r s st pl u)) ∧
  (∀ (c : Cmd) (σ : State), s.Reaches dSlpAlarm r = true → c = s.reqCmd dSlpAlarm r → σ = s.taken r →
    let v := c.arg 0 8
    (c.zero 8 4) = true →
    (σ.isVoter c) = true →
    Answers (.slpAlarm r) dSlpAlarm r s stOK (bytesLE 8 v) { σ with slp.alarms := if v = 0 then σ.slp.alarms.erase c.who else σ.slp.alarms.set c.who v }) ∧
  (∀ (c : Cmd) (σ : State), s.Reaches dSlpSwkConfig r = true → c = s.reqCmd dSlpSwkConfig r → σ = s.taken r →
    let n := c.arg 0 1
    let k := swkOfCmd c
    let top := if k.ide then 2 ^ 29 else 2 ^ 11
    let others := ((List.range 16).filter (fun m => m != n && (σ.slp.swk.get {} m).decode)).length
    (decide (n ≤ 15) && decide (c.arg 1 1 < 16) && c.zero 2 2 && decide (k.id < top) && decide (k.mask < top) && decide (k.dlc ≤ 8) && c.zero 13 3) = true →
    (!(k.decode && decide (4 ≤ others)) && σ.swkRate n) = true →
    (σ.owns c kCan n) = true →
    Answers (.slpSwkConfig r) dSlpSwkConfig r s stOK [] { σ with slp.swk := σ.slp.swk.set n k }) ∧
  (∀ (c : Cmd) (σ : State), s.Reaches dHdgStatus r = true → c = s.reqCmd dHdgStatus r → σ = s.taken r →
    Answers (.hdgStatus r) dHdgStatus r s stOK ([R.HDG_CFG, R.HDG_STAT, R.HDG_RETAIN, R.HDG_HOP 0, R.HDG_HOP 1, R.HDG_ERR].flatMap (fun a => wordBytes (σ.word a)) ++ bytesLE 8 σ.hdg.enumDone) σ) ∧
  (∀ (c : Cmd) (σ : State), s.Reaches dHdgTopology r = true → c = s.reqCmd dHdgTopology r → σ = s.taken r →
    let f := c.arg 0 1
    let n := c.arg 1 1
    (between 1 62 f && between 1 10 n && c.zero 2 2) = true →
    Answers (.hdgTopology r) dHdgTopology r s stOK (bytesLE 8 σ.hdg.topoAt ++ (List.range n).flatMap (fun i => σ.topoEntry (f + i))) σ) ∧
  (∀ (c : Cmd) (σ : State), s.Reaches dHdgEnum r = true → c = s.reqCmd dHdgEnum r → σ = s.taken r →
    (c.isSecure) = true →
    (σ.isRoot && σ.hdgOn) = true →
    Answers (.hdgEnum r) dHdgEnum r s stOK (bytesLE 8 σ.now) σ.startEnum) ∧
  (∀ (c : Cmd) (σ : State), s.Reaches dHdgMapForget r = true → c = s.reqCmd dHdgMapForget r → σ = s.taken r →
    let k := c.arg 0 8
    (!σ.isRoot || σ.hdg.map.any (fun e => e.serial == k && !e.fixed)) = true →
    (c.isSecure) = true →
    (σ.isRoot) = true →
    Answers (.hdgMapForget r) dHdgMapForget r s stOK [] { σ with hdg.map := σ.hdg.map.filter (fun e => e.serial != k) })

/-- Partition, pair, world and life-cycle commands (R410, R411, R412, R413, R415, R427, R428, R443, R459, R462). -/
def Obligations.PartitionCommandsComplete : Prop :=
  ∀ (s : State) (r : Req),
  (∀ (c : Cmd) (σ : State), s.Reaches dPartStatus r = true → c = s.reqCmd dPartStatus r → σ = s.taken r →
    let v := c.partArg
    (decide (v < 16) && c.zero 1 3 && (σ.hosting v != 0)) = true →
    (c.node == 0xFFFF && (c.who == v || σ.overPart c v || bitOf (σ.ownOf kPart v).readers c.who)) = true →
    let p := σ.part_ v
    Answers (.partStatus r) dPartStatus r s stOK (bytesLE 1 (σ.pst v) ++ bytesLE 1 (σ.rd (F.MPC_PART_STAT_CAUSE v)) ++ bytesLE 1 (σ.hosting v) ++
      bytesLE 1 (σ.rd (F.MPC_PART_CFG_REQUIRED v) + 2 * σ.rd (F.MPC_PART_CFG_HOST v) + 4 * σ.rd (F.MPC_PART_STAT_SCRUBBING v)) ++
      bytesLE 2 (σ.rd (F.MPC_PART_STAT_RESETS v)) ++ bytesLE 1 (σ.rd (F.MPC_PART_CFG_AFFINITY v)) ++
      bytesLE 1 ((σ.hostCore v).getD 0xFF) ++ bytesLE 8 p.stAt ++ bytesLE 8 p.moved ++ wordBytes (σ.word (R.MPC_PART_REG v)) ++
      wordBytes (σ.rstat v) ++ bytesLE 4 p.blocked ++ bytesLE 2 (σ.rd (F.MPC_PART_CFG_LLC_WAYS v)) ++ bytesLE 2 0) σ) ∧
  (∀ (c : Cmd) (σ : State), s.Reaches dPartReady r = true → c = s.reqCmd dPartReady r → σ = s.taken r →
    (c.node != 0xFFFF || decide (c.who < 16)) = true →
    (c.node == 0xFFFF) = true →
    let res : Res :=
      if σ.pst c.who = psREADY then .done stOK (bytesLE 8 σ.now) σ
      else if σ.pst c.who = psSTARTING then .done stOK (bytesLE 8 σ.now) (σ.setPart c.who psREADY)
      else .refuse stMODE_FORBIDS
    (∀ st pl u, res = .done st pl u → Answers (.partReady r) dPartReady r s st pl u)) ∧
  (∀ (c : Cmd) (σ : State), s.Reaches dPartReset r = true → c = s.reqCmd dPartReset r → σ = s.taken r →
    let v := c.partArg
    let f := c.arg 1 1
    (decide (v < 16) && decide (f ≤ 1) && c.zero 2 2) = true →
    (c.node == 0xFFFF && (c.who == v || σ.overPart c v)) = true →
    (σ.pst v != psOFF) = true →
    let σ' := σ.resetPart v (if c.who = v then 1 else if c.who = 16 then 3 else 2) (f == 1)
    let res : Res :=
      if σ'.prt.hostWait.isSome ∧ σ.isHost v = true then .later .running 0 σ'
      else .done stACCEPTED (bytesLE 8 (σ'.part_ v).tpr) σ'
    (∀ st pl u, res = .done st pl u → Answers (.partReset r) dPartReset r s st pl u) ∧
    (∀ p aux u, res = .later p aux u → Starts (.partReset r) dPartReset r s p aux u)) ∧
  (∀ (c : Cmd) (σ : State), s.Reaches dPartRelease r = true → c = s.reqCmd dPartRelease r → σ = s.taken r →
    let v := c.arg 0 1
    (decide (v < 16) && c.zero 1 3) = true →
    (c.node == 0xFFFF && (c.who == 16 || σ.isHost c.who)) = true →
    (σ.pst v == psHALTED && σ.hosting v == 1) = true →
    Answers (.partRelease r) dPartRelease r s stOK (bytesLE 8 σ.now) (σ.setPart v psSTARTING)) ∧
  (∀ (c : Cmd) (σ : State), s.Reaches dPartStoreInfo r = true → c = s.reqCmd dPartStoreInfo r → σ = s.taken r →
    (c.node == 0xFFFF) = true →
    let x := σ.storeOf c.who
    let d := σ.draw 100
    Answers (.partStoreInfo r) dPartStoreInfo r s stOK (bytesLE 4 x.size ++ bytesLE 8 x.written ++ bytesLE 1 d.1 ++ bytesLE 3 0 ++ bytesLE 8 x.last) d.2) ∧
  (∀ (c : Cmd) (σ : State), s.Reaches dPartStoreRead r = true → c = s.reqCmd dPartStoreRead r → σ = s.taken r →
    let (k, n, ok) := σ.storeArgs c
    (ok) = true →
    let d := σ.draw (2 ^ n - 1)
    let bad := (List.range n).filter (fun i => d.1.testBit i)
    Answers (.partStoreRead r) dPartStoreRead r s stOK (bytesLE 4 n ++ bytesLE 4 bad.length ++ bytesLE 4 (match bad with | i :: _ => k + i | [] => 0xFFFFFFFF) ++ bytesLE 4 0) (d.2.putBuf c 1 (σ.readBlocks c.who k n d.1))) ∧
  (∀ (c : Cmd) (σ : State), s.Reaches dPartStoreWrite r = true → c = s.reqCmd dPartStoreWrite r → σ = s.taken r →
    let (k, n, ok) := σ.storeArgs c
    (ok) = true →
    let blocks := foldS (List.range n) (fun i (t : Tab (List Byte)) => t.set (blockKey c.who (k + i)) (σ.load (c.dAddr 1 + 4096 * i) 4096)) σ.prt.blocks
    let x := σ.storeOf c.who
    Answers (.partStoreWrite r) dPartStoreWrite r s stOK (bytesLE 4 n ++ bytesLE 4 0) { σ with prt.blocks := blocks, prt.stores := σ.prt.stores.set c.who { x with written := (x.written + 4096 * n) % 2 ^ 64, last := σ.now } }) ∧
  (∀ (c : Cmd) (σ : State), s.Reaches dPairStatus r = true → c = s.reqCmd dPairStatus r → σ = s.taken r →
    let n := c.arg 0 1
    (decide (n ≤ 3) && c.zero 1 3) = true →
    Answers (.pairStatus r) dPairStatus r s stOK (wordBytes (σ.word (R.FLT_LS_CFG n)) ++ wordBytes (σ.lsStat n) ++ wordBytes (σ.word (R.FLT_LS_MIS n)) ++
      wordBytes (σ.word (R.FLT_LS_MIS_ADDR n)) ++ bytesLE 8 (σ.pair (R.FLT_LS_MIS_TS_LO n) (R.FLT_LS_MIS_TS_HI n)) ++
      bytesLE 8 (σ.pair (R.FLT_LS_CKPT_TS_LO n) (R.FLT_LS_CKPT_TS_HI n)) ++ bytesLE 8 (σ.pair_ n).stAt) σ) ∧
  (∀ (c : Cmd) (σ : State), s.Reaches dWorldStatus r = true → c = s.reqCmd dWorldStatus r → σ = s.taken r →
    Answers (.worldStatus r) dWorldStatus r s stOK (wordBytes (σ.word R.MPC_GW_STAT) ++ wordBytes (σ.word R.MPC_LC_STAT) ++ bytesLE 8 (σ.pair R.MPC_GW_HUNG_LO R.MPC_GW_HUNG_HI) ++
      bytesLE 4 (σ.violSum F.MPC_VIOL_WORLD) ++ bytesLE 4 (σ.violSum F.MPC_VIOL_ACCESS)) σ) ∧
  (∀ (c : Cmd) (σ : State), s.Reaches dLcSet r = true → c = s.reqCmd dLcSet r → σ = s.taken r →
    let b := c.arg 0 1
    (decide (b ≤ 3) && c.zero 1 3) = true →
    (c.isSecure) = true →
    let may := lcAllowed σ.lifecycle b && (!σ.rdb F.MPC_LC_STAT_NEXT_VALID || σ.rd F.MPC_LC_STAT_NEXT == b || lcAllowed (σ.rd F.MPC_LC_STAT_NEXT) b)
    let auth := σ.lcConfirm b == c.argBytes 4 16
    (auth = false → Refuses (.lcSet r) dLcSet r s stAUTH_FAILED) ∧
    (auth = true → may = false → Refuses (.lcSet r) dLcSet r s stMODE_FORBIDS) ∧
    (auth = true → may = true →
    Answers (.lcSet r) dLcSet r s stOK (bytesLE 8 σ.now) ((σ.wrb F.MPC_LC_STAT_NEXT_VALID true).wr F.MPC_LC_STAT_NEXT b)))

/-- Key and tamper commands: status, derivation, import, commit, discard, revocation, operations, attestation, random bytes, tamper status and clearing (R465, R467, R468, R469, R471, R475, R477, R479, R484, R485, R486, R487). -/
def Obligations.KeyCommandsComplete : Prop :=
  ∀ (s : State) (r : Req),
  (∀ (c : Cmd) (σ : State), s.Reaches dKeyStatus r = true → c = s.reqCmd dKeyStatus r → σ = s.taken r →
    let k := c.arg 0 2
    (decide (k ≤ 255) && c.zero 2 2) = true →
    (σ.owns c kKey k || σ.mayRead c kKey k) = true →
    let x := σ.slot k
    Answers (.keyStatus r) dKeyStatus r s stOK (wordBytes (σ.slotWord k) ++ bytesLE 4 x.gen ++ bytesLE 2 x.parent ++ bytesLE 1 (ownerCode (σ.ownerOf kKey k)) ++ bytesLE 1 0 ++
      (if x.raw = 1 then σ.kcv k x.value else bytesLE 8 0) ++ bytesLE 8 x.tkc) σ) ∧
  (∀ (c : Cmd) (σ : State), s.Reaches dKeyDerive r = true → c = s.reqCmd dKeyDerive r → σ = s.taken r →
    let k := c.arg 0 2
    let n := c.arg 2 1
    (decide (k ≤ 255) && decide (n ≤ 16) && c.zero 3 1 && (c.argBytes (4 + n) (16 - n)).all (fun b => b == 0)) = true →
    (σ.owns c kKey k) = true →
    (σ.rd F.HWN_STAT_LOCK_STATE != 1) = true →
    (!(σ.slot k).imported && σ.parentOk k 5 && σ.slotType k != 0) = true →
    let res : Res :=
      σ.putShadow k (σ.derived k (c.argBytes 4 n))
    (∀ st pl u, res = .done st pl u → Answers (.keyDerive r) dKeyDerive r s st pl u)) ∧
  (∀ (c : Cmd) (σ : State), s.Reaches dKeyImport r = true → c = s.reqCmd dKeyImport r → σ = s.taken r →
    let b := σ.load (c.dAddr 0) (min (c.dSize 0) 80)
    let k := leAt b 0 2
    let n := leAt b 4 2
    let par := (σ.slot k).parent
    (decide (k ≤ 255) && leAt b 2 2 == 0 && leAt b 6 2 == 0 && (n == keyLen (σ.slotType k) + 8) && decide (8 + n ≤ c.dSize 0)) = true →
    (σ.owns c kKey k && (0x8000 ≤ par || σ.owns c kKey par)) = true →
    (σ.rd F.HWN_STAT_LOCK_STATE != 1) = true →
    ((σ.slot k).imported && σ.parentOk k 6 && σ.slotType k != 0) = true →
    let w := slice b 8 n
    let res : Res :=
      if Config.verify 0x70 (σ.slot par).value w = true then
        σ.putShadow k (slice (Config.cipher 0x70 (σ.slot par).value w) 0 (keyLen (σ.slotType k)))
      else .refuse stAUTH_FAILED
    (∀ st pl u, res = .done st pl u → Answers (.keyImport r) dKeyImport r s st pl u) ∧
    (∀ st, res = .refuse st → Refuses (.keyImport r) dKeyImport r s st)) ∧
  (∀ (c : Cmd) (σ : State), s.Reaches dKeyCommit r = true → c = s.reqCmd dKeyCommit r → σ = s.taken r →
    let k := c.arg 0 2
    let x := σ.slot k
    (decide (k ≤ 255) && c.zero 2 2) = true →
    (σ.owns c kKey k) = true →
    (σ.rd F.HWN_STAT_LOCK_STATE != 1) = true →
    let res : Res :=
      if σ.rdb (F.HWN_SLOT_STAT_SHADOW k) then
        need (σ.kcv k x.shadow == c.argBytes 4 8) stAUTH_FAILED <|
        if x.commit.isSome then .wait .waitObject
        else if σ.opsOn k = [] then .done stOK (bytesLE 8 σ.now) (σ.commitKey k)
        else .later .running 0 (σ.setSlot k { x with commit := some (c.node, c.win, c.tag) })
      else .refuse stMODE_FORBIDS
    (∀ st pl u, res = .done st pl u → Answers (.keyCommit r) dKeyCommit r s st pl u) ∧
    (∀ p aux u, res = .later p aux u → Starts (.keyCommit r) dKeyCommit r s p aux u) ∧
    (∀ st, res = .refuse st → Refuses (.keyCommit r) dKeyCommit r s st)) ∧
  (∀ (c : Cmd) (σ : State), s.Reaches dKeyDiscard r = true → c = s.reqCmd dKeyDiscard r → σ = s.taken r →
    let k := c.arg 0 2
    (decide (k ≤ 255) && c.zero 2 2) = true →
    (σ.owns c kKey k) = true →
    (σ.rd F.HWN_STAT_LOCK_STATE != 1) = true →
    Answers (.keyDiscard r) dKeyDiscard r s stOK [] ((σ.setSlot k { σ.slot k with shadow := [] }).wrb (F.HWN_SLOT_STAT_SHADOW k) false)) ∧
  (∀ (c : Cmd) (σ : State), s.Reaches dKeyRevoke r = true → c = s.reqCmd dKeyRevoke r → σ = s.taken r →
    let k := c.arg 0 2
    (decide (k ≤ 255) && c.zero 2 2) = true →
    (σ.owns c kKey k) = true →
    (σ.rd F.HWN_STAT_LOCK_STATE != 1) = true →
    Answers (.keyRevoke r) dKeyRevoke r s stOK (bytesLE 8 σ.now) (σ.revokeKey k)) ∧
  (∀ (c : Cmd) (σ : State), s.Reaches dKeyOp r = true → c = s.reqCmd dKeyOp r → σ = s.taken r →
    let p := σ.keyParam c
    let b := σ.load (c.dAddr 0) 32
    let n := c.dSize 1
    (c.dSize 0 == 32 && between 1 13 p.op && leAt b 3 1 == 0 && leAt b 24 8 == 0 &&
      (if 12 ≤ p.op then p.slot == 0xFFFF else decide (p.slot ≤ 255)) && (p.op == 4 || p.op == 5 || p.aad == 0) && opIv p.op p.iv) = true →
    (opLen p.op p.aad n (if σ.slotType p.slot = 4 then 48 else 32)) = true →
    (12 ≤ p.op || (opTypes p.op).contains (σ.slotType p.slot)) = true →
    (p.op == 7 || p.op == 9 || p.op == 11 || decide (σ.keyOutLen p n ≤ c.dSize 2)) = true →
    (12 ≤ p.op || σ.owns c kKey p.slot || (opUse p.op == some 3 && σ.mayRead c kKey p.slot)) = true →
    (σ.rd F.HWN_STAT_LOCK_STATE != 1) = true →
    (match opUse p.op with | some u => σ.slotUse p.slot u | none => true) = true →
    let res : Res :=
      if p.op < 12 ∧ (σ.slot p.slot).commit.isSome then .wait .waitObject
      else need (12 ≤ p.op || σ.usable p.slot) stKEY_REVOKED <|
      .later .running 0 σ
    (∀ st pl u, res = .done st pl u → Answers (.keyOp r) dKeyOp r s st pl u) ∧
    (∀ p aux u, res = .later p aux u → Starts (.keyOp r) dKeyOp r s p aux u)) ∧
  (∀ (c : Cmd) (σ : State), s.Reaches dKeyAttest r = true → c = s.reqCmd dKeyAttest r → σ = s.taken r →
    (c.dSize 0 == 32 && decide (1448 ≤ c.dSize 1)) = true →
    let ρ := σ.report (σ.load (c.dAddr 0) 32)
    Answers (.keyAttest r) dKeyAttest r s stOK (bytesLE 4 ρ.length ++ bytesLE 4 0) (σ.putBuf c 1 ρ)) ∧
  (∀ (c : Cmd) (σ : State), s.Reaches dKeyRandom r = true → c = s.reqCmd dKeyRandom r → σ = s.taken r →
    let n := c.arg 0 1
    (between 1 48 n && c.zero 1 3) = true →
    (σ.rd F.HWN_STAT_LOCK_STATE != 1) = true →
    let ρ := σ.drbg n
    Answers (.keyRandom r) dKeyRandom r s stOK ρ.1 ρ.2) ∧
  (∀ (c : Cmd) (σ : State), s.Reaches dTamperStatus r = true → c = s.reqCmd dTamperStatus r → σ = s.taken r →
    let f := c.arg 0 1
    let n := c.arg 1 1
    (decide (f ≤ 31) && decide (n ≤ 2) && c.zero 2 2) = true →
    Answers (.tamperStatus r) dTamperStatus r s stOK (wordBytes σ.hwnStat ++ wordBytes (σ.word R.HWN_TAMPER_STAT) ++ wordBytes (σ.word R.HWN_TAMPER_POL) ++ bytesLE 4 σ.hwn.tseq ++
      (List.range n).flatMap (fun i => match σ.hwn.tlog[f + i]? with | some e => e.bytes | none => bytesLE 16 0)) σ) ∧
  (∀ (c : Cmd) (σ : State), s.Reaches dTamperClear r = true → c = s.reqCmd dTamperClear r → σ = s.taken r →
    let m := c.arg 0 1
    (decide (m < 64) && c.zero 1 3) = true →
    (σ.mayClear c) = true →
    ((c.argBytes 4 16 == σ.clearConfirm m) = false → Refuses (.tamperClear r) dTamperClear r s stAUTH_FAILED) ∧
    ((c.argBytes 4 16 == σ.clearConfirm m) = true →
    (m &&& σ.rd F.HWN_TAMPER_STAT_ACTIVE == 0) = true →
    let σ := σ.wr F.HWN_TAMPER_STAT_LATCHED (σ.rd F.HWN_TAMPER_STAT_LATCHED - (σ.rd F.HWN_TAMPER_STAT_LATCHED &&& m))
    let σ := if σ.rd F.HWN_STAT_LOCK_STATE = 1 then σ.lockState 0 else σ
    let d := σ.draw (2 ^ 64 - 1)
    Answers (.tamperClear r) dTamperClear r s stOK (bytesLE 8 d.1) d.2))

/-- Fault commands: status, log, capture, recovery count and injection (R490, R494, R495, R503, R504, R505). -/
def Obligations.FaultCommandsComplete : Prop :=
  ∀ (s : State) (r : Req),
  (∀ (c : Cmd) (σ : State), s.Reaches dFaultStatus r = true → c = s.reqCmd dFaultStatus r → σ = s.taken r →
    Answers (.faultStatus r) dFaultStatus r s stOK (wordBytes (σ.word R.FLT_CFG) ++ wordBytes (σ.word R.FLT_SYS) ++ wordBytes (σ.word R.FLT_STAT) ++
      bytesLE 4 (σ.flt.seq + 2 ^ 32 - 1) ++ bytesLE 8 (σ.pair R.FLT_ENTRY_LO R.FLT_ENTRY_HI) ++ bytesLE 8 (σ.flt.quietEnd.getD 0) ++
      bytesLE 4 (σ.flt.count.get 0 0) ++ bytesLE 2 (σ.flt.count.get 0 1) ++ bytesLE 2 (σ.flt.count.get 0 2)) σ) ∧
  (∀ (c : Cmd) (σ : State), s.Reaches dFaultLogRead r = true → c = s.reqCmd dFaultLogRead r → σ = s.taken r →
    let res : Res :=
      if c.desc then
        need (c.dSize 0 == 4 && c.dSize 1 % 32 == 0) stBAD_ARGUMENT <|
        need (c.node == 0xFFFF || c.who == 16) stNOT_OWNER <|
        let l := ((σ.logFrom (natLE (σ.load (c.dAddr 0) 4))).filter (fun ρ => ρ.forWho c)).take (c.dSize 1 / 32)
        .done stOK (bytesLE 4 (32 * l.length) ++ bytesLE 4 σ.logOldest) (σ.putBuf c 1 (l.flatMap (fun ρ => ρ.bytes)))
      else
        need (c.zero 4 4) stBAD_ARGUMENT <|
        need (c.node == 0xFFFF || c.who == 16) stNOT_OWNER <|
        match (σ.logFrom (c.arg 0 4)).find? (fun ρ => ρ.forWho c) with
        | some ρ => .done stOK (bytesLE 4 ρ.seq ++ bytesLE 4 σ.logOldest ++ ρ.bytes) σ
        | none => .done stOK (bytesLE 4 0xFFFFFFFF ++ bytesLE 4 σ.logOldest) σ
    (∀ st pl u, res = .done st pl u → Answers (.faultLogRead r) dFaultLogRead r s st pl u)) ∧
  (∀ (c : Cmd) (σ : State), s.Reaches dFaultCapture r = true → c = s.reqCmd dFaultCapture r → σ = s.taken r →
    let k := c.arg 0 1
    let op := c.arg 1 1
    (decide (k ≤ 2) && decide (op ≤ 1) && c.zero 2 2) = true →
    (op == 0 || c.isSecure) = true →
    (op == 0 || σ.dev != .fault) = true →
    let mine := c.who == 16 || (c.node == 0xFFFF && σ.flt.capH.get 0x3F k == c.who)
    Answers (.faultCapture r) dFaultCapture r s stOK ((if mine then σ.capWords k else bytesLE 20 0) ++ bytesLE 4 0) (if op = 1 then σ.rearm k else σ)) ∧
  (∀ (c : Cmd) (σ : State), s.Reaches dFaultRecoveryClear r = true → c = s.reqCmd dFaultRecoveryClear r → σ = s.taken r →
    (c.isSecure) = true →
    Answers (.faultRecoveryClear r) dFaultRecoveryClear r s stOK (bytesLE 8 σ.now) (σ.wr F.FLT_STAT_RECOVERY 0)) ∧
  (∀ (c : Cmd) (σ : State), s.Reaches dFaultInject r = true → c = s.reqCmd dFaultInject r → σ = s.taken r →
    let code := c.arg 0 2
    let obj := c.arg 2 2
    let res : Res :=
      match codeTable.find? (fun ρ => ρ.1 == code) with
      | some (_, cs, k) =>
        need (c.zero 4 4) stBAD_ARGUMENT <|
        need c.isSecure stNOT_OWNER <|
        need (σ.lifecycle == 1) stMODE_FORBIDS <|
        let σ := σ.raise { code := code, cls := cs.headD .corrected, kind := σ.codeKind code obj k, acc := some (⟨0x10, false, 0, true, false⟩, 0, 0), obj := obj }
        .done stOK (bytesLE 4 (σ.flt.seq + 2 ^ 32 - 1) ++ bytesLE 4 0) σ
      | none => .refuse stBAD_ARGUMENT
    (∀ st pl u, res = .done st pl u → Answers (.faultInject r) dFaultInject r s st pl u))

/-- Configuration, service and maintenance commands: status, overlay switch, commit, sessions, requests and cancelling (R512, R513, R514, R516, R518, R519, R520, R521, R523, R524, R525). -/
def Obligations.ConfigMaintCommandsComplete : Prop :=
  ∀ (s : State) (r : Req),
  (∀ (c : Cmd) (σ : State), s.Reaches dConfigStatus r = true → c = s.reqCmd dConfigStatus r → σ = s.taken r →
    Answers (.configStatus r) dConfigStatus r s stOK (wordBytes (σ.word R.CFG_STAT) ++ wordBytes (σ.word R.CFG_GEN_A) ++ wordBytes (σ.word R.CFG_GEN_B) ++ wordBytes (σ.word R.CFG_GEN_RUN) ++
      wordBytes (σ.word R.CFG_CMP) ++ bytesLE 4 σ.cfg.ovlCtrl ++ bytesLE 8 (match σ.cfg.switch_ with | some p => p.at_ | none => 0) ++
      bytesLE 8 σ.cfg.nonce) σ) ∧
  (∀ (c : Cmd) (σ : State), s.Reaches dOverlaySwitch r = true → c = s.reqCmd dOverlaySwitch r → σ = s.taken r →
    let n := c.arg 0 1
    (c.zero 1 3 && (σ.overlay n).present) = true →
    (σ.ovlRight c) = true →
    (n != 4 || σ.cfg.svcEnd.isSome) = true →
    let res : Res :=
      if σ.cfg.switch_.isSome then .wait .waitObject else σ.pendSwitch c.taken false n (c.arg 4 8)
    (∀ p aux u, res = .later p aux u → Starts (.overlaySwitch r) dOverlaySwitch r s p aux u)) ∧
  (∀ (c : Cmd) (σ : State), s.Reaches dConfigCommit r = true → c = s.reqCmd dConfigCommit r → σ = s.taken r →
    (!σ.cfg.pend.isEmpty) = true →
    (σ.ovlRight c) = true →
    let res : Res :=
      if σ.cfg.switch_.isSome then .wait .waitObject else σ.pendSwitch c.taken true (σ.rd F.CFG_STAT_OVERLAY) (c.arg 0 8)
    (∀ p aux u, res = .later p aux u → Starts (.configCommit r) dConfigCommit r s p aux u)) ∧
  (∀ (c : Cmd) (σ : State), s.Reaches dServiceOpen r = true → c = s.reqCmd dServiceOpen r → σ = s.taken r →
    let m := c.arg 0 1
    (between 1 240 m && c.zero 1 3) = true →
    (c.isSecure) = true →
    let res : Res :=
      if σ.svcConfirm m = c.argBytes 4 16 then
        let u := σ.now + sec (60 * m)
        .done stOK (bytesLE 8 u) ({ σ.wrb F.CFG_STAT_SVC true with cfg.svcEnd := some u, cfg.authFail := 0 }).freshNonce
      else .done stAUTH_FAILED [] σ.svcFailed.freshNonce
    (∀ st pl u, res = .done st pl u → Answers (.serviceOpen r) dServiceOpen r s st pl u)) ∧
  (∀ (c : Cmd) (σ : State), s.Reaches dServiceClose r = true → c = s.reqCmd dServiceClose r → σ = s.taken r →
    (c.isSecure) = true →
    (σ.cfg.svcEnd.isSome) = true →
    Answers (.serviceClose r) dServiceClose r s stOK (bytesLE 8 σ.now) σ.endSession) ∧
  (∀ (c : Cmd) (σ : State), s.Reaches dMaintRequest r = true → c = s.reqCmd dMaintRequest r → σ = s.taken r →
    let a := c.arg 0 1
    let first := c.arg 2 2
    let count := c.arg 4 2
    ([2, 3, 4, 7].contains a && c.zero 1 1 && c.zero 6 2) = true →
    let res : Res :=
      if a = aSCRUB ∨ a = aLBIST then
        need (c.who == 16) stNOT_OWNER <|
        σ.commandAct c a first count 0
      else
        need (decide (1 ≤ count) && decide (first + count ≤ 512) && σ.coversWhole first count) stBAD_ARGUMENT <|
        need ((σ.coverTops first count).all (fun x => σ.owns c (objKind x) (objIdx x))) stNOT_OWNER <|
        σ.commandAct c a first count 0
    (∀ st pl u, res = .done st pl u → Answers (.maintRequest r) dMaintRequest r s st pl u) ∧
    (∀ p aux u, res = .later p aux u → Starts (.maintRequest r) dMaintRequest r s p aux u)) ∧
  (∀ (c : Cmd) (σ : State), s.Reaches dMaintStatus r = true → c = s.reqCmd dMaintStatus r → σ = s.taken r →
    Answers (.maintStatus r) dMaintStatus r s stOK (wordBytes (σ.word R.CFG_MAINT_STAT) ++ wordBytes (σ.word R.CFG_MAINT_CFG) ++ bytesLE 8 σ.oldestRun ++ bytesLE 4 σ.cfg.mBusy ++
      bytesLE 4 σ.cfg.mLateRemask) σ) ∧
  (∀ (c : Cmd) (σ : State), s.Reaches dMaintCancel r = true → c = s.reqCmd dMaintCancel r → σ = s.taken r →
    let a := c.arg 0 1
    (between 1 8 a && c.zero 1 3) = true →
    let res : Res :=
      match σ.cfg.mq.find? (fun ρ => ρ.act == a && ρ.mine c) with
      | some ρ =>
        .done stOK [] (({ σ with cfg.mq := σ.cfg.mq.erase ρ }).answerReq ρ stTIMEOUT []).maintStat
      | none =>
        need (!σ.cfg.mq.any (fun ρ => ρ.act == a)) stNOT_OWNER <|
        .refuse stMODE_FORBIDS
    (∀ st pl u, res = .done st pl u → Answers (.maintCancel r) dMaintCancel r s st pl u))

/-- Boot and update commands: status, device reset, COPPICE exit, update session, chunks, verification, activation, confirmation and abort (R540, R541, R542, R549, R550, R551, R554, R558, R562, R563, R564, R565). -/
def Obligations.BootUpdateCommandsComplete : Prop :=
  ∀ (s : State) (r : Req),
  (∀ (c : Cmd) (σ : State), s.Reaches dBootStatus r = true → c = s.reqCmd dBootStatus r → σ = s.taken r →
    Answers (.bootStatus r) dBootStatus r s stOK (wordBytes (σ.word R.BOOT_CFG) ++ wordBytes (σ.word R.BOOT_STAT) ++ wordBytes (σ.word R.BOOT_CNT) ++ bytesLE 4 0 ++ bytesLE 8 σ.tStart ++
      bytesLE 8 (σ.pair R.BOOT_CONFIRM_LO R.BOOT_CONFIRM_HI) ++ bytesLE 8 σ.boot.lockAt) σ) ∧
  (∀ (c : Cmd) (σ : State), s.Reaches dDeviceReset r = true → c = s.reqCmd dDeviceReset r → σ = s.taken r →
    let k := c.arg 0 1
    (decide (k ≤ 1) && c.zero 1 3) = true →
    (c.isSecure) = true →
    let u := σ.now + ms 1
    Answers (.deviceReset r) dDeviceReset r s stACCEPTED (bytesLE 8 u) (σ.resetAt u (if k = 0 then 5 else 3))) ∧
  (∀ (c : Cmd) (σ : State), s.Reaches dCoppiceExit r = true → c = s.reqCmd dCoppiceExit r → σ = s.taken r →
    (c.zero 0 4) = true →
    (c.node == 0xFFFF) = true →
    (σ.corePart 0 == some c.who) = true →
    (σ.rd F.HWN_STAT_LOCK_STATE != 1) = true →
    let auth := σ.exitConfirm == c.argBytes 4 16
    (auth = false → Refuses (.coppiceExit r) dCoppiceExit r s stAUTH_FAILED) ∧
    (auth = true → σ.dev ≠ .coppice → Refuses (.coppiceExit r) dCoppiceExit r s stMODE_FORBIDS) ∧
    (auth = true → σ.dev = .coppice →
    let u := σ.now + ms 1
    Answers (.coppiceExit r) dCoppiceExit r s stACCEPTED (bytesLE 8 u) (σ.resetAt u 8))) ∧
  (∀ (c : Cmd) (σ : State), s.boot.stage ≠ .rom → s.Reaches dUpdStatus r = true → c = s.reqCmd dUpdStatus r → σ = s.taken r →
    let u := σ.updStat
    Answers (.updStatus r) dUpdStatus r s stOK (wordBytes u.1 ++ wordBytes (σ.word R.UPD_CHUNKS) ++ wordBytes (σ.word R.UPD_FIRST) ++ wordBytes (σ.word R.UPD_FLOOR) ++
      wordBytes (σ.word R.UPD_KEYS) ++ wordBytes (σ.word R.UPD_CTRL) ++ bytesLE 8 (σ.pair R.UPD_PKG_LO R.UPD_PKG_HI) ++
      bytesLE 4 (mSv σ.upd.active.manifest) ++ bytesLE 4 (mSv σ.upd.manifest) ++ bytesLE 8 σ.upd.stAt) u.2) ∧
  (∀ (bufs : List Byte) (c : Cmd) (σ : State), s.boot.stage ≠ .rom → s.Reaches dUpdBegin r = true → c = s.reqCmd dUpdBegin r → σ = s.taken r →
    let res : Res :=
      updBegin (σ.load (c.dAddr 0) (min (c.dSize 0) 65537)) (σ.load (c.dAddr 1) (c.dSize 1)) c σ
    (∀ st pl u, res = .done st pl u → Answers (.updBegin r bufs) dUpdBegin r s st pl u)) ∧
  (∀ (bufs : List Byte) (c : Cmd) (σ : State), s.boot.stage ≠ .rom → s.Reaches dUpdChunk r = true → c = s.reqCmd dUpdChunk r → σ = s.taken r →
    let res : Res :=
      updChunk (σ.load (c.dAddr 0) (c.dSize 0)) (σ.load (c.dAddr 1) (c.dSize 1)) c σ
    (∀ st pl u, res = .done st pl u → Answers (.updChunk r bufs) dUpdChunk r s st pl u)) ∧
  (∀ (c : Cmd) (σ : State), s.boot.stage ≠ .rom → s.Reaches dUpdVerify r = true → c = s.reqCmd dUpdVerify r → σ = s.taken r →
    (σ.updCtl c) = true →
    (σ.rd F.HWN_STAT_LOCK_STATE != 1) = true →
    (σ.rd F.UPD_STAT_STATE == 2) = true →
    Answers (.updVerify r) dUpdVerify r s stACCEPTED (bytesLE 8 σ.now) { σ.setUpd 3 with upd.reverify := false }) ∧
  (∀ (c : Cmd) (σ : State), s.boot.stage ≠ .rom → s.Reaches dUpdActivate r = true → c = s.reqCmd dUpdActivate r → σ = s.taken r →
    (σ.updCtl c) = true →
    (between 4 6 (σ.rd F.UPD_STAT_STATE) && σ.mayArm && !σ.upd.dropped) = true →
    let σ := σ.wrb F.UPD_STAT_ARMED true
    Answers (.updActivate r) dUpdActivate r s stOK (bytesLE 8 σ.now) (if σ.boot.stage = .rom then { σ with boot.rstAt := some (σ.now + ms 1, 3) } else σ)) ∧
  (∀ (c : Cmd) (σ : State), s.boot.stage ≠ .rom → s.Reaches dUpdConfirm r = true → c = s.reqCmd dUpdConfirm r → σ = s.taken r →
    (σ.updCtl c) = true →
    (σ.rd F.UPD_STAT_STATE == 8 && σ.rdb F.UPD_STAT_EXPLICIT && σ.rdb F.BOOT_STAT_CONFIRMED) = true →
    Answers (.updConfirm r) dUpdConfirm r s stOK (bytesLE 8 σ.now) σ.confirmSet) ∧
  (∀ (c : Cmd) (σ : State), s.boot.stage ≠ .rom → s.Reaches dUpdAbort r = true → c = s.reqCmd dUpdAbort r → σ = s.taken r →
    (σ.updCtl c) = true →
    let st := σ.rd F.UPD_STAT_STATE
    (st != 0) = true →
    let res : Res :=
      if st = 8 then .done stOK [] { σ with upd.rollback := true }
      else if st = 9 then .done stOK [] (σ.endUpd (σ.rd F.UPD_STAT_RESULT))
      else if σ.rd F.UPD_STAT_JOP ≠ 0 then .done stOK [] { σ.wrb F.UPD_STAT_ARMED false with upd.dropped := true }
      else .done stOK [] ({ σ.endUpd 0xE with cfg.mq := σ.cfg.mq.filter (fun ρ => ρ.act != aSTAGE_COPY) }).maintStat
    (∀ st pl u, res = .done st pl u → Answers (.updAbort r) dUpdAbort r s st pl u))

/-- Instants, transitions, dead times, freewheeling, reversal dwells and hold windows of an object each do what is due (R86, R87, R89, R136, R111). -/
def Obligations.ObjectTransitionsComplete : Prop :=
  ∀ (s : State),
  (∀ (t x : Nat) (e : Edge), s.Awake →
    let σ := s.at_ t
    σ.isTop x = true → (σ.obj x).nextEdge = some e → e.at_ ≤ σ.now →
    let σ := σ.modObj x (fun o => o.dropEdge e)
    Runs (.edgeInstant t x) s ((if σ.objAligned x then σ.doEdge x e false
      else σ.modObj x (fun o => { o with heldEdges := o.heldEdges ++ [e] })).sleepEdge x)) ∧
  (∀ (t : Nat) (x : Nat) (hot : List Nat), s.Awake →
    let σ := s.at_ t
    ∀ tr, (σ.obj x).trans = some tr →
    ¬ (tr.dead) →
    let st := (σ.obj x).st
    let σ := σ.clampEdge x st tr.target hot
    let σ := (σ.modObj x (fun o =>
      { o with trans := none, regEnds := if onState x tr.target then o.regEnds else [], condFrom := (if onState x tr.target then some σ.now else none) })).toSt x tr.target
    Runs (.transitionEnd t x hot) s (match (σ.obj x).dwell with
      | some d =>
        if d.final then (σ.modObj x (fun o => { o with dwell := none })).startLate x
        else (σ.modObj x (fun o => { o with dwell := some { d with until_ := some (d.until_.getD (σ.now + d.dur)) } })).startLate x
      | none => σ.startLate x)) ∧
  (∀ (t : Nat) (x : Nat), s.Awake →
    let σ := s.at_ t
    let wheel (o : Obj) : Obj := match o.wheel with | .dead fw => { o with wheel := .run (σ.now + fw) } | _ => o
    ((∃ tr, (σ.obj x).trans = some tr ∧ tr.dead = true) ∨ (∃ fw, (σ.obj x).wheel = .dead fw)) →
    Runs (.deadTimeExpiry t x) s (match (σ.obj x).trans with
      | some tr =>
        if tr.dead then
          σ.modObj x (fun o => { o with trans := some { tr with dead := false }, regEnds := σ.keepReg x o.st tr.target o.regEnds, dwell := o.dwell.map (fun d => if !d.final && tr.target == 3 then { d with until_ := some (σ.now + d.dur) } else d) })
        else σ.modObj x wheel
      | none => σ.modObj x wheel)) ∧
  (∀ (t : Nat) (x : Nat), s.Awake →
    let σ := s.at_ t
    ∀ v1, (σ.obj x).wheel = .run v1 →
    Runs (.freewheelCurrentLow t x) s (σ.wheelEnd x [])) ∧
  (∀ (t : Nat) (x : Nat) (hot : List Nat), s.Awake →
    let σ := s.at_ t
    ∀ e, (σ.obj x).wheel = .run e →
    (e ≤ σ.now) →
    Runs (.freewheelMaxExpiry t ⟨x, hot⟩) s (σ.wheelEnd x hot)) ∧
  (∀ (t : Nat) (h : Nat), s.Awake →
    let σ := s.at_ t
    let x := xBrg h
    ∀ d, (σ.obj x).dwell = some d →
    ∀ u, d.until_ = some u →
    (u ≤ σ.now ∧ d.final = false ∧ (σ.obj x).trans.isNone) →
    Runs (.reversalDwellExpiry t h) s (σ.ownEdge x .dwell)) ∧
  (∀ (t : Nat) (x : Nat), s.Awake →
    let σ := s.at_ t
    ∀ e, (σ.obj x).holdEnd = some e →
    (e ≤ σ.now) →
    Runs (.holdWindowExpiry t x) s ((σ.modObj x (fun o => { o with holdEnd := none })).ownEdge x .window))

/-- Short circuits, current limits, retries, thermal shutdowns and feed undervoltage act on their objects (R91, R92, R93, R94, R96, R97). -/
def Obligations.ProtectionEventsComplete : Prop :=
  ∀ (s : State),
  (∀ (t : Nat) (n : Nat) (hot : List Nat), s.Awake →
    let σ := s.at_ t
    let x := σ.topOf n
    (n < 512) →
    Runs (.shortCircuit t ⟨n, hot⟩) s (if σ.live x then (σ.trip x 1 n).clampSet hot else σ.sameTrip x n)) ∧
  (∀ (t : Nat) (n : Nat), s.Awake →
    let σ := s.at_ t
    let x := σ.topOf n
    (n < 512 ∧ σ.live x = true) →
    Runs (.currentLimitEntry t n) s (σ.modObj x (fun o => { o with regEnds := o.regEnds.filter (fun p => p.1 != n) ++ [(n, σ.now + σ.ocBlank x)] }))) ∧
  (∀ (t : Nat) (x : Nat) (hot : List Nat), s.Awake →
    let σ := s.at_ t
    ∀ p, firstDue σ.now (σ.obj x).regEnds = some p →
    Runs (.ocBlankExpiry t ⟨x, hot⟩) s ((σ.trip x 2 p.1).clampSet hot)) ∧
  (∀ (t : Nat) (x : Nat), s.Awake →
    let σ := s.at_ t
    ∀ e, (σ.obj x).retryEnd = some e →
    (e ≤ σ.now) →
    Runs (.retryDelayExpiry t x) s ((σ.modObj x (fun o => { o with retryEnd := none })).ownEdge x .retry)) ∧
  (∀ (t : Nat) (x : Nat), s.Awake →
    let σ := s.at_ t
    ∀ e, (σ.obj x).condFrom = some e →
    (e + sec 1 ≤ σ.now ∧ onState x (σ.obj x).st = true) →
    Runs (.retryCounterReset t x) s (σ.modObj x (fun o => { o with retry := 0 }))) ∧
  (∀ (t : Nat) (n : Nat) (hot : List Nat), s.Awake →
    let σ := s.at_ t
    (n < 512) →
    let x := σ.topOf n
    let σ := σ.abortProbe x 2
    let σ := { σ with fab.meas := σ.fab.meas.set n { σ.meas n with cool := false } }
    Runs (.thermalShutdown t ⟨n, hot⟩) s (if (σ.obj x).st = 6 then σ.sameTrip x n else (σ.latch x 3 n).clampSet hot)) ∧
  (∀ (t : Nat) (f : Nat) (hot : List Nat), s.Awake →
    let σ := s.at_ t
    (1 ≤ f ∧ f ≤ 4) →
    let σ := σ.wrb (F.PFB_FEED_STAT_UV f) true
    Runs (.feedUndervoltage t ⟨f, hot⟩) s ((foldS (σ.topsOf f) (fun x σ => (if σ.fab.probeList.contains x then (σ.abortProbe x 0).unprobe x else σ).uvOff x) σ).clampSet hot)) ∧
  (∀ (t : Nat) (f : Nat), s.Awake →
    let σ := s.at_ t
    (1 ≤ f ∧ f ≤ 4) →
    let σ := σ.wrb (F.PFB_FEED_STAT_UV f) false
    Runs (.feedUvRecovery t f) s { σ with fab.feeds := σ.fab.feeds.set f { σ.fab.feeds.get {} f with tUvon := σ.now } }) ∧
  (∀ (t : Nat) (k : Nat), s.Awake →
    let σ := s.at_ t
    let f := k / 8 + 1
    (k < 32 ∧ σ.rdb (F.PFB_FEED_STAT_UV f) = false ∧ σ.restartAt k ≤ σ.now) →
    Runs (.uvRestart t k) s (foldS ((σ.topsOf f).filter (fun x => lowest (σ.members x) / 16 == k && (σ.obj x).st == 5)) (fun x σ => σ.ownEdge x .restart) σ))

/-- Loss and return of a bank's answers and of its feed, the end of a probe and due retests act on the bank's objects (R114, R158, R142, R144). -/
def Obligations.BankAndProbeEventsComplete : Prop :=
  ∀ (s : State),
  (∀ (t : Nat) (k : Nat), s.Awake →
    let σ := s.at_ t
    (k < 32 ∧ σ.bankLost k = false) →
    let σ := { σ with fab.banks := σ.fab.banks.set k { σ.fab.banks.get {} k with lost := true } }
    let σ := σ.sysFault 0x0201 .contained (16 * k) k
    Runs (.bankNoAnswer t k) s (foldS (σ.topsOfBank k) (fun x σ => (σ.abortProbe x 1).lostSafe x) σ)) ∧
  (∀ (t : Nat) (k : Nat), s.Awake →
    let σ := s.at_ t
    (k < 32 ∧ σ.bankLost k = true ∧ (σ.fab.banks.get {} k).silent = false) →
    let σ := { σ with fab.banks := σ.fab.banks.set k {} }
    Runs (.bankAnswerReturn t k) s (foldS (σ.topsOfBank k) (fun x σ => σ.resumeBank x) σ)) ∧
  (∀ (t : Nat) (f : Nat), s.Awake →
    let σ := s.at_ t
    (1 ≤ f ∧ f ≤ 4) →
    Runs (.bankFeedLoss t f) s (foldS (List.range 8) (fun j σ => { σ with fab.banks := σ.fab.banks.set (8 * (f - 1) + j) { σ.fab.banks.get {} (8 * (f - 1) + j) with silent := true } }) σ)) ∧
  (∀ (t : Nat) (f : Nat), s.Awake →
    let σ := s.at_ t
    (1 ≤ f ∧ f ≤ 4 ∧ (List.range 8).any (fun j => (σ.fab.banks.get {} (8 * (f - 1) + j)).silent) = true) →
    let was := (σ.topsOf f).filter (fun x => σ.objLost x)
    let σ := foldS (List.range 8) (fun j σ => { σ with fab.banks := σ.fab.banks.set (8 * (f - 1) + j) {} }) σ
    Runs (.bankFeedReturn t f) s (foldS (σ.topsOf f) (fun x σ =>
        let σ := if was.contains x && !isCell x && !σ.barred x then σ.takeCmd true x (σ.safeOf x) else σ
        if (σ.obj x).st = 5 ∨ (σ.obj x).st = 6 then σ
        else if onCmd x (σ.goal x) then (σ.modObj x (fun o => { o.cut with st := 5, cause := 4 })).bumpEvt x
        else (σ.modObj x (fun o => { o.cut with cause := o.cause })).toSt x (σ.goal x)) σ)) ∧
  (∀ (t : Nat) (x : Nat) (rd : ProbeReading), s.Awake →
    let σ := s.at_ t
    (σ.fab.probeList.contains x && (σ.obj x).probing) →
    let e := σ.entryTerm x
    let m := σ.probeRead x rd
    let codes := (σ.members x).map (fun n => (n, σ.probeCode x n rd.idle m))
    let first := ((codes.find? (fun p => p.2 != 1)).map (fun p => p.2)).getD 1
    let σ := foldS codes (fun p σ =>
      let q := { σ.fab.probes.get {} p.1 with result := p.2, skipped := false, rmeas := σ.rmeasOf e m, range := σ.rdb (F.PFB_PEXP_RANGE e) }
      { σ with fab.probes := σ.fab.probes.set p.1 q }) σ
    let σ := { σ with fab.probeList := σ.fab.probeList.erase x }
    let σ := σ.verdict x first
    let others := if σ.fab.probeCross then (m.cross.map (fun n => σ.topOf n)).foldl (fun l y => if l.contains y || y == x then l else l ++ [y]) [] else []
    Runs (.probeSettleExpiry t x rd) s (foldS others (fun y σ => σ.crossOther y) σ)) ∧
  (∀ (t : Nat), s.Awake →
    let σ := s.at_ t
    let due := σ.fab.retests.filter (fun r => match r.due with | some d => decide (d ≤ σ.now) | none => false)
    Runs (.probeRetryTimer t) s (foldS due (fun r σ =>
        if σ.maintRoom aPROBE then
          ({ σ with fab.retests := σ.fab.retests.erase r }).requestAct { act := aPROBE, objs := [r.obj] }
        else σ) σ))

/-- Governor cycle, restoring, deferral limits, overloads, peaks and heat shedding act as their conditions say (R166, R170, R167, R169, R159). -/
def Obligations.GovernorEventsComplete : Prop :=
  ∀ (s : State),
  (∀ (t : Nat), s.Awake →
    let σ := s.at_ t
    σ.fab.lastGov + ms 1 ≤ σ.now →
    let σ := { σ with fab.lastGov := σ.now }.fitLimits
    let σ := foldS σ.tops (fun x σ => σ.takeStanding x) σ
    let σ := foldS σ.tops (fun x σ => σ.retrySafe x) σ
    let σ := foldS [0, 1, 2, 3] (fun c σ => σ.cycleClass c) σ
    Runs (.governorCycle t) s { cycleGovern { σ with fab.shedFeeds := [] } with fab.restFeeds := [] }) ∧
  (∀ (t x t0 : Nat), s.Awake →
    let σ := s.at_ t
    σ.isTop x = true → (σ.obj x).restFrom = some t0 → (σ.obj x).shed = true → (σ.obj x).hasInt .restore = false → σ.mayRestore x = true →
    t0 + σ.restoreDly x ≤ σ.now → σ.fab.shedFeeds.contains (σ.feedOf x) = false →
    Runs (.restoreDelayExpiry t x) s
      { σ.modObj x (fun o => { o with admAt := σ.now, ints := o.ints ++ [{ at_ := σ.now, action := 0, kind := .restore }] }) with fab.restFeeds := [] }) ∧
  (∀ (t : Nat) (node : Nat) (w : Nat) (tag : Nat), s.Awake →
    let σ := s.at_ t
    ∀ c, σ.mbx.cmds.find? (fun c => c.node == node && c.win == w && c.tag == tag && c.phase == .deferred) = some c →
    (c.aux + ms (10 * σ.rd F.PFB_GOV_CFG_DEFER_MAX) ≤ σ.now) →
    Runs (.deferMaxExpiry t node w tag) s ((σ.denyAwaited c).answer c stBUDGET_DENIED [])) ∧
  (∀ (t : Nat) (f : Nat), s.Awake →
    let σ := s.at_ t
    ∀ e, (σ.feed f).overFrom = some e →
    (1 ≤ f ∧ f ≤ 4 ∧ e + ms (σ.rd (F.PFB_FEED_CFG1_OVL_DLY f)) ≤ σ.now ∧ σ.rdb (F.PFB_FEED_STAT_OVL f) = false) →
    let σ := (σ.wrb (F.PFB_FEED_STAT_OVL f) true).sysFault 0x0303 .corrected f 0
    Runs (.feedOverloadDelayExpiry t f) s (if σ.rdb (F.PFB_FEED_STAT_PEAK f) then σ.shedOne (some f)
      else (σ.shedOne (some f)).setFeed f { σ.feed f with nextShed := σ.now + ms 10 })) ∧
  (∀ (t : Nat) (f : Nat), s.Awake →
    let σ := s.at_ t
    ∀ e, (σ.feed f).peakFrom = some e →
    (1 ≤ f ∧ f ≤ 4 ∧ e + ms 1 ≤ σ.now ∧ σ.rdb (F.PFB_FEED_STAT_PEAK f) = false) →
    let σ := σ.wrb (F.PFB_FEED_STAT_PEAK f) true
    Runs (.feedPeak t f) s ((σ.shedOne (some f)).setFeed f { σ.feed f with nextShed := σ.now + ms 1 })) ∧
  (∀ (t : Nat), s.Awake →
    let σ := s.at_ t
    (σ.fab.hist.length = 40000 ∧ 100 * σ.heatLim < meanOf 40000 (σ.fab.hist.map (fun p => p.1 + p.2)) ∧ σ.rdb F.PFB_HEAT_STAT_HOT = false) →
    let σ := (σ.wrb F.PFB_HEAT_STAT_HOT true).sysFault 0x0304 .corrected 0xFFFF 0
    Runs (.heatShedStart t) s { σ.shedOne none with fab.hotNext := σ.now + ms 100 }) ∧
  (∀ (t : Nat), s.Awake →
    let σ := s.at_ t
    let σ := foldS [1, 2, 3, 4] (fun f σ => σ.shedFeedNext f) σ
    Runs (.measuredShedInterval t) s (if σ.rdb F.PFB_HEAT_STAT_HOT && decide (σ.fab.hotNext ≤ σ.now) then { σ.shedOne none with fab.hotNext := σ.now + ms 100 } else σ)) ∧
  (∀ (t : Nat) (f : Nat), s.Awake →
    let σ := s.at_ t
    ∀ e, (σ.feed f).classSFrom = some e →
    (1 ≤ f ∧ f ≤ 4 ∧ e + sec 10 ≤ σ.now ∧ σ.nextVictim (some f) = none) →
    Runs (.classSOverloadExpiry t f) s ((σ.setFeed f { σ.feed f with classSFrom := none }).sysFault 0x0303 .contained f 0)) ∧
  (∀ (t : Nat) (f : Nat), s.Awake →
    let σ := s.at_ t
    (1 ≤ f ∧ f ≤ 4 ∧ σ.rdb (F.PFB_FEED_STAT_OV f) = false) →
    Runs (.feedOvervolt t f) s ((σ.wrb (F.PFB_FEED_STAT_OV f) true).sysFault 0x0302 .corrected f 0))

/-- Grid samples, the status-page switch, energy records, reverse supply, hold-up and housing temperature are carried out (R101, R173, R574, R575, R584). -/
def Obligations.GridAndSupplyEventsComplete : Prop :=
  ∀ (s : State),
  (∀ (t : Nat) (cells : List CellSample) (feeds : List FeedSample) (elec : Nat), s.Awake →
    t % us 250 = 0 → (s.at_ t).now = t →
    let σ := s.at_ t
    let before := (List.range 512).map (fun n => σ.causeOf n)
    let σ := { σ with fab.lastGrid := t }
    let σ := foldS (cells.filter (fun c => decide (c.n < 512))) (fun c σ => σ.holdCell c) σ
    let σ := foldS (feeds.filter (fun p => decide (1 ≤ p.f) && decide (p.f ≤ 4))) (fun p σ => σ.holdFeed p) σ
    let σ := foldS (List.range 608) (fun x σ => σ.gridCause x) σ
    let σ := foldS (List.range 512) (fun n σ => σ.gridCell n) σ
    let σ := foldS (List.range 512) (fun n σ => σ.gridEvt n (before.getD n 0)) σ
    let σ := foldS ((List.range 64).filter (fun g => σ.rdb (F.PFB_GANG_DEF_VALID g))) (fun g σ => σ.gridShare g) σ
    let σ := (σ.gridEnergy elec).gridRetests
    Runs (.gridSample t cells feeds elec) s
      (gridCycle t { σ with fab.snap := (List.range 512).map (fun n => (σ.wordA n, σ.wordB n)), fab.snapAt := t })) ∧
  (∀ (t : Nat), s.Awake →
    let σ := s.at_ t
    σ.fab.snap.isEmpty = false → σ.fab.snapAt + us 25 ≤ σ.now →
    (σ.rd F.PFB_TS_SEL_PAGE = 0 →
      Runs (.statusPageSwitch t) s (cycleStatusPage (({ σ with fab.page1 := σ.fab.snap, fab.stamp1 := σ.fab.snapAt, fab.snap := [] }.wr
        F.PFB_TS_SEL_PAGE 1).inc F.PFB_TS_SEL_SEQ))) ∧
    (σ.rd F.PFB_TS_SEL_PAGE = 1 →
      Runs (.statusPageSwitch t) s (cycleStatusPage (({ σ with fab.page0 := σ.fab.snap, fab.stamp0 := σ.fab.snapAt, fab.snap := [] }.wr
        F.PFB_TS_SEL_PAGE 0).inc F.PFB_TS_SEL_SEQ)))) ∧
  (∀ (t : Nat), s.Awake →
    let σ := s.at_ t
    (σ.aligned 9 = true ∧ t = σ.now ∧ 0 < σ.rd F.PFB_GOV_CFG_ELOG_INT ∧ t % sec (σ.rd F.PFB_GOV_CFG_ELOG_INT) = 0 ∧ σ.fab.elogAt < t) →
    Runs (.energyLogRecord t) s σ.logEnergy) ∧
  (∀ (t : Nat) (f : Nat) (on : Bool),
    let σ := s.at_ t
    (1 ≤ f ∧ f ≤ 4) →
    Runs (.feedReverse t f on) s (if on then feedUndervoltage t f [] (σ.feedReversed f true) else σ.feedReversed f false)) ∧
  (∀ (t : Nat) (low : Bool),
    let σ := s.at_ t
    Runs (.highestFeedLow t low) s (if low then
        (if σ.logicOn && σ.sup.holdEnd.isNone then { σ with sup.holdEnd := some (σ.now + ms 10) } else σ)
      else { σ with sup.holdEnd := none })) ∧
  (∀ (t : Nat),
    let σ := s.at_ t
    ∀ u, σ.sup.holdEnd = some u →
    (u ≤ σ.now ∧ σ.logicOn = true) →
    let σ : State := { σ with sup.holdEnd := none }
    Runs (.holdUpExpiry t) s (σ.sleepAbort.startReset 2)) ∧
  (∀ (t : Nat) (celsius : Int), s.Awake →
    let σ := s.at_ t
    let l := (celsius :: σ.sup.temps).take 10
    let th := meanTemp l
    let σ : State := { σ with sup.temps := l }
    let σ := (σ.wr F.PFB_THERM_T_HOUSING (tempCode th)).wr F.PFB_THERM_DERATED (derated (σ.rdb F.PFB_HEAT_CFG_COLD_PLATE) th)
    Runs (.thermalSample t celsius) s (σ.wr F.PFB_THERM_T_PEAK (max (σ.rd F.PFB_THERM_T_PEAK) (tempCode th))))

/-- Release, input image, completion, retained write, output cut-off and output instant of a task act as the executive's rules say (R189, R190, R213, R195, R201). -/
def Obligations.TaskEventsComplete : Prop :=
  ∀ (s : State),
  (∀ (t : Nat) (k : Nat), s.Awake →
    let σ := s.at_ t
    let due := if isCyclic k then decide (σ.taskPhase k ≤ t + σ.taskSpan k) && (t + σ.taskSpan k - σ.taskPhase k) % σ.taskSpan k == 0
      else (σ.task k).relAt == some t
    (t % gridNs = 0 ∧ σ.taskUsed k = true ∧ due = true ∧ σ.cyc.tRun ≤ t ∧ σ.now = t ∧ σ.tstate k ≠ 5) →
    ((σ.eng = 1 ∨ σ.eng = 2) ∧ σ.tstate k ≠ 5) →
    Runs (.taskRelease t k) s (if σ.eng = 2 then σ.lostRelease k
      else if σ.eng ≠ 1 ∨ σ.swapDue t = true then σ
      else if σ.afterSwap k t then σ.swapSkip k
      else if !σ.cycAligned then σ.lostRelease k
      else if (σ.task k).rel.isSome then σ.lostRelease k
      else σ.release k t)) ∧
  (∀ (t : Nat) (k : Nat), s.Awake →
    let σ := s.at_ t
    ∀ r, (σ.task k).rel = some r →
    (r + us 25 ≤ σ.now ∧ (σ.task k).imaged = false ∧ σ.eng = 1 ∧ k < 24) →
    let σ := σ.store (cycIn k) (σ.inputImage k)
    let σ := foldS (List.range 512) (fun n σ => (σ.stampForce 2 n r).stampForce 3 n r) σ
    Runs (.inputImageCapture t k) s (((σ.modTask k (fun x => { x with imaged := true, readyAt := σ.now })).setT k 2).schedule)) ∧
  (∀ (t : Nat) (k : Nat) (writes : List (Nat × List Byte)), s.Awake →
    let σ := s.at_ t
    ∀ r p, (σ.task k).rel = some r → σ.cyc.active = some p →
    (σ.tstate k = 3 ∧ σ.eng = 1) →
    let w := State.laneWrites k writes σ
    Runs (.taskComplete t k writes) s (if w.1 then w.2.completed p k r else w.2.taskFault k 2)) ∧
  (∀ (t : Nat) (k : Nat), s.Awake →
    let σ := s.at_ t
    ((σ.task k).retBusy) →
    Runs (.retainedWriteComplete t k) s (((σ.writeRet k).modTask k (fun x => { x with retBusy := false })).schedule)) ∧
  (∀ (t : Nat) (k : Nat), s.Awake →
    let σ := (s.at_ t).cutOuts k
    let x := σ.task k
    (x.rel = none → Runs (.outputCutoff t k) s σ) ∧
    (∀ r, x.rel = some r →
      let late := σ.eng = 1 ∧ σ.outAt k r ≤ σ.now + us 20 ∧ x.overrun = false ∧ x.stepped = false
      (¬ late → Runs (.outputCutoff t k) s σ) ∧
      (late →
        let σ := σ.modTask k (fun x => { x with overrun := true })
        let σ := (σ.sat (F.CYC_TASK_CNT_OVERRUNS k) 1).sat (F.CYC_TASK_STAT_OVR_RUN k) 1
        let σ := σ.ownFault 0x0401 .corrected (σ.taskOwner k) k 0
        let lim := cfgLimit k (σ.taskCfg k)
        Runs (.outputCutoff t k) s (if lim ≠ 0 ∧ lim ≤ σ.rd (F.CYC_TASK_STAT_OVR_RUN k) then σ.taskFault k 1 else σ)))) ∧
  (∀ (t : Nat) (k : Nat), s.Awake →
    Runs (.outputInstant t k) s (((s.at_ t).applyOuts k).swapOver))

/-- Lane exceptions, admission of RUN, online changes and the swap instant act as the engine's rules say (R196, R204, R208, R218). -/
def Obligations.CycleEngineEventsComplete : Prop :=
  ∀ (s : State),
  (∀ (t : Nat) (k : Nat) (cause : Nat), s.Awake →
    let σ := s.at_ t
    ¬ (σ.eng = 0) →
    (cause = 4 ∨ ((cause = 2 ∨ cause = 3) ∧ σ.taskUsed k = true ∧ σ.tstate k ≠ 5)) →
    Runs (.laneException t k cause) s (if cause = 4 then foldS ((List.range 24).filter (fun j => σ.taskUsed j && σ.tstate j != 5)) (fun j σ => σ.taskFault j 4) σ
      else if (cause = 2 ∨ cause = 3) ∧ σ.taskUsed k = true ∧ σ.tstate k ≠ 5 then σ.taskFault k cause
      else σ)) ∧
  (∀ (t : Nat) (r : CStart), s.Awake →
    let σ := s.at_ t
    σ.startLive = some r →
    (r.runAt = none → Runs (.runAdmission t) s σ.tryStart) ∧
    (∀ a, r.runAt = some a → a ≤ σ.now →
      let σ := { σ.enterRun r.mode with cyc.start := none, cyc.tRun := σ.now }
      (r.cmd = none → Runs (.runAdmission t) s σ) ∧
      (∀ k c, r.cmd = some k → σ.mbx.cmds.find? (fun c => c.node == k.1 && c.win == k.2.1 && c.tag == k.2.2) = some c →
        Runs (.runAdmission t) s (σ.answer c stOK (bytesLE 8 σ.now))))) ∧
  (∀ (t : Nat), s.Awake →
    let σ := s.at_ t
    ∀ a, σ.cyc.commitAt = some a →
    (a ≤ t ∧ t % gridNs = 0 ∧ t ≤ a + ms 100 ∧ σ.idle = true) →
    Runs (.onlineChangeIdlePoint t) s ((σ.applyStaged.wr F.CYC_STATE_OC_RESULT 2).trig 122)) ∧
  (∀ (t : Nat), s.Awake →
    let σ := s.at_ t
    ∀ a, σ.cyc.commitAt = some a →
    (a + ms 100 ≤ σ.now) →
    Runs (.onlineChangeNoIdle t) s (({ σ.wr F.CYC_STATE_OC_RESULT 3 with cyc.commitAt := none }).trig 122)) ∧
  (∀ (t : Nat), s.Awake →
    let σ := s.at_ t
    ∀ e, σ.cyc.swapAt = some e →
    (e ≤ σ.now ∧ σ.eng = 1) →
    let σ := σ.exchange
    Runs (.swapInstant t) s (if σ.fab.lastGrid = σ.now ∧ σ.now = e then σ.judgeTriggers else σ))

/-- Reception, truncation, matching, transmission and completion of Ethernet frames act as the switch's rules say (R236, R254, R246, R277, R259). -/
def Obligations.SwitchFrameEventsComplete : Prop :=
  ∀ (s : State),
  (∀ (t : Nat) (fr : RxFrame), s.Awake →
    let σ := s.swAt t
    (isExt fr.port && σ.linkUp fr.port) →
    let σ := if σ.portOn fr.port then σ.phyCounts fr else σ
    Runs (.frameReceive t fr) s (match (σ.swPort fr.port).rx with
      | some r => if r.sfd = fr.sfd then σ.rxOn fr r else (σ.rxEnds fr.port r).rxNew fr
      | none => σ.rxNew fr)) ∧
  (∀ (t : Nat) (p : Nat), s.Awake →
    let σ := s.swAt t
    ∀ r, (σ.swPort p).rx = some r →
    (!r.dead && decide (r.sfd + σ.tTrunc p r.max ≤ σ.now)) →
    let σ := (σ.count p cRX_TRUNC 1).setRx p (some { r with dead := true })
    Runs (.frameTruncationTimeout t p) s (match r.fid with | some f => σ.spoil f none | none => σ)) ∧
  (∀ (t : Nat), s.Awake →
    let σ := s.at_ t
    let m := State.matchIter 3 σ.requests [] σ
    Runs (.matchingRound t) s (foldS m.1 (fun r σ => σ.cross r) m.2)) ∧
  (∀ (t : Nat) (p : Nat), s.Awake →
    let σ := s.swAt t
    (σ.portOn p && σ.linkUp p && decide (p < 28)) →
    let σ := σ.setSwPort p { σ.swPort p with burst := if σ.rdb (F.SWC_PORT_CFG1_PLCA_EN p) then σ.rd (F.SWC_PORT_CFG1_BURST_CNT p) else 0 }
    Runs (.transmitOpportunity t p) s (match (σ.swPort p).tx with
      | none => σ.choose p
      | some x =>
        let sent := σ.sentBytes p x
        if x.pre && (σ.swPort p).heldTx.isNone && decide (σ.minFrag p ≤ sent - x.sent) && decide (sent + 60 ≤ σ.txLen x) then
          (match topClass (fun c => !σ.preemptable p c && σ.eligible p c) with
           | some _ => (σ.splitTx p sent x).choose p
           | none => σ)
        else σ)) ∧
  (∀ (t : Nat) (p : Nat), s.Awake →
    let σ := s.swAt t
    ∀ x, (σ.swPort p).tx = some x →
    let whole := match σ.frame x.fid with | some f => f.fin | none => true
    (whole && decide (x.start + σ.wireNs p (8 + σ.txLen x - x.sent) ≤ σ.now)) →
    let σ := if 0 < x.sent then σ.inc (F.TSN_PRE_STAT_FRAGS p) else σ
    let σ := σ.leave p x
    let σ := ((σ.setSwPort p { σ.swPort p with tx := none }).takeSlopes p).endPn p
    let b := (σ.swPort p).burst
    Runs (.frameTransmitComplete t p) s (if σ.rdb (F.SWC_PORT_CFG1_PLCA_EN p) && decide (0 < b) then (σ.setSwPort p { σ.swPort p with burst := b - 1 }).choose p else σ))

/-- Link changes, flap holds, ageing, RED idling and the buffer audit act as the switch's rules say (R255, R240, R250, R256, R257). -/
def Obligations.SwitchLinkEventsComplete : Prop :=
  ∀ (s : State),
  (∀ (t : Nat) (p : Nat), s.Awake →
    let σ := s.swAt t
    (isExt p && σ.rdb (F.SWC_PORT_STAT_LINK p)) →
    let x := σ.swPort p
    let σ := σ.setSwPort p { x with tx := none, heldTx := none, linkAt := σ.now, holdEnd := some (σ.now + ms (σ.rd (F.SWC_PORT_CFG0_FLAP_HOLD p))) }
    let σ := ((((σ.abortTx p x.tx).abortTx p x.heldTx).abortRx p).takeSlopes p).endPn p
    let σ := (σ.wrb (F.SWC_PORT_STAT_LINK p) false).sat (F.SWC_PORT_STAT_DOWNS p) 1
    let σ := σ.wr (F.SWC_PORT_STAT_SPEED p) 0
    let σ := if p < 16 then (σ.wr (F.TSN_PRE_STAT_VERIFY_STATUS p) 0).wrb (F.TSN_PRE_STAT_ACTIVE p) false else σ
    let σ := foldS [p, 32 + p, 64 + p] (fun k (σ : State) => { σ with tsn.gports := σ.tsn.gports.set k { σ.tsn.gports.get {} k with asCap := false } }) σ
    let σ := (σ.wrb (F.SWC_PORT_STAT_HOLDING p) true).trig (256 + p)
    Runs (.linkDown t p) s (if σ.rd (F.SWC_PORT_CFG0_FLAP_HOLD p) = 0 then σ.flushPort p else σ)) ∧
  (∀ (t : Nat) (p : Nat), s.Awake →
    let σ := s.swAt t
    (isExt p && σ.portOn p && !σ.rdb (F.SWC_PORT_STAT_LINK p)) →
    let σ := match (σ.swPort p).holdEnd with
      | some e => if σ.now ≤ e then σ.dropLate p else σ.flushPort p
      | none => σ
    let σ := σ.setSwPort p { σ.swPort p with linkAt := σ.now, holdEnd := none }
    let σ := (σ.wrb (F.SWC_PORT_STAT_HOLDING p) false).wrb (F.SWC_PORT_STAT_FLUSHED p) false
    let σ := (σ.wrb (F.SWC_PORT_STAT_LINK p) true).wr (F.SWC_PORT_STAT_SPEED p) (σ.rd (F.SWC_PORT_CFG0_MODE p))
    Runs (.linkUp t p) s ((σ.startVerify p).trig (256 + p))) ∧
  (∀ (t : Nat) (p : Nat), s.Awake →
    let σ := s.swAt t
    ∀ e, (σ.swPort p).holdEnd = some e →
    (e ≤ σ.now) →
    Runs (.flapHoldExpiry t p) s (σ.flushPort p)) ∧
  (∀ (t : Nat) (j : Nat), s.Awake →
    let σ := s.at_ t
    let e := σ.fdbE j
    (e.valid ∧ e.static = false ∧ e.seen + sec (σ.rd F.SWC_FDB_CFG_AGE_TIME) ≤ σ.now) →
    Runs (.dynamicEntryAgeing t j) s { σ with swc.fdb := σ.swc.fdb.erase j }) ∧
  (∀ (t : Nat) (q : Nat), s.Awake →
    let σ := s.at_ t
    let x := σ.swQueue q
    (q < 224 ∧ x.occ = 0) →
    Runs (.redIdleUpdate t q) s (σ.setSwQueue q { x with avg := redAvg x.avg 0 (σ.rd (F.SWC_Q_CFG1_W q)) })) ∧
  (∀ (t : Nat) (total : Nat), s.Awake →
    let u := s.at_ t
    let σ := u.auditSnapshot total
    (u.aligned 6 = false → Runs (.bufferAuditSnapshot t total) s u) ∧
    (u.aligned 6 = true → σ.swc.missRun ≠ 2 → Runs (.bufferAuditSnapshot t total) s σ) ∧
    (u.aligned 6 = true → σ.swc.missRun = 2 → Runs (.bufferAuditSnapshot t total) s
      (((σ.sysFault 0x0501 .contained 0xFFFF (if total < 65536 then 65536 - total else total - 65536))).requestAct { act := aBUF_AUDIT }))) ∧
  (∀ (t : Nat) (returned : Nat), s.Awake →
    let σ := s.at_ t
    (σ.running aBUF_AUDIT) →
    Runs (.reclaimSweepComplete t returned) s (((σ.sat F.SWC_AUDIT_STAT_RECLAIMED returned).trig 285).endRun aBUF_AUDIT))

/-- Stores to a ring's control and index registers act on the ring, and a taken descriptor becomes a frame or a completion (R258, R259, R244). -/
def Obligations.RingRowsComplete : Prop :=
  ∀ (s : State),
  (∀ (t : Nat) (a : Acc) (r v : Nat), r < 64 → v < 2 ^ 32 → s.Stores t a (R.SWC_RING_CTL r) = true →
    Runs (.swcRingEnable t a r v) s ((s.posted t a (R.SWC_RING_CTL r)).ringCtl r v)) ∧
  (∀ (t : Nat) (a : Acc) (r v : Nat), r < 64 → v < 2 ^ 32 → s.Stores t a (R.SWC_RING_TX_PROD r) = true →
    Runs (.swcTxProdWrite t a r v) s
      ((s.posted t a (R.SWC_RING_TX_PROD r)).ringAdvance r (F.SWC_RING_TX_PROD_PROD r) (F.SWC_RING_TX_DONE_CNT r) v)) ∧
  (∀ (t : Nat) (a : Acc) (r v : Nat), r < 64 → v < 2 ^ 32 → s.Stores t a (R.SWC_RING_RX_FILL r) = true →
    Runs (.swcRxFillWrite t a r v) s
      ((s.posted t a (R.SWC_RING_RX_FILL r)).ringAdvance r (F.SWC_RING_RX_FILL_CNT r) (F.SWC_RING_RX_DONE_CNT r) v)) ∧
  (∀ (t : Nat) (r : Nat), s.Awake →
    let σ := s.swAt t
    let i := σ.swc.taken.get 0 r
    (r < 64 ∧ σ.rdb (F.SWC_RING_CTL_ENABLE r) = true ∧ i ≠ σ.rd (F.SWC_RING_TX_PROD_PROD r)) →
    let a := σ.txDesc r i
    let addr := natLE (σ.load a 5)
    let len := natLE (σ.load (a + 6) 2)
    let txf := natLE (σ.load (a + 8) 1)
    let h := σ.ringHolder r
    let p := σ.ringPort r
    let take (σ : State) : State := { σ.dramCharge h a 16 with swc.taken := σ.swc.taken.set r ((i + 1) % 65536) }
    Runs (.txDescriptorTake t r) s (if σ.ringRange h addr len = false ∨ σ.admitsAll h .load addr len = false then (take σ).completeTx r i 0x03 0
      else if σ.rd (F.SWC_SHARE_SHARE h) < σ.rd (F.SWC_SHARE_USED h) + cellsOf len then σ
      else if σ.portOn p = false ∨ txf / 32 ≠ 0 then (take σ).completeTx r i 0x02 0
      else if len < 60 then ((take σ).count p cRX_RUNT 1).completeTx r i 0x02 0
      else if σ.maxFrame p < len + 4 then ((take σ).count p cRX_OVERSIZE 1).completeTx r i 0x02 0
      else
        let σ := (((take σ).dramCharge h addr len).count p cRX_FRAMES 1).count p cRX_BYTES (len + 4)
        let f : Frame := { fid := 0, src := p, ring := some (r, i), charge := some h, bytes := σ.load addr len, len := len + 4, sfd := σ.now, tstamp := bitOf txf 4 }
        let e := σ.ingress f (if bitOf txf 3 then some (txf % 8) else none) (cellsOf (len + 4)) false
        match e.1 with
        | some _ => e.2
        | none => e.2.completeTx r i 0x02 0))

/-- gPTP messages, gates, preemption verification, recovery functions and fast-actuation frames act as the TSN rules say (R274, R278, R279, R283, R288, R292). -/
def Obligations.TsnEventsComplete : Prop :=
  ∀ (s : State),
  (∀ (t : Nat) (inst : Nat) (p : Nat) (len : Nat) (m : GptpMsg), s.Awake →
    let σ := s.at_ t
    (σ.gptpAt inst p) →
    let σ := (σ.count p cRX_FRAMES 1).count p cRX_BYTES len
    Runs (.gptpMessageReceive t inst p len m) s ((σ.setGport inst p { σ.gport inst p with rxAt := σ.now }).gptpMsg inst p m)) ∧
  (∀ (t : Nat) (inst : Nat) (p : Nat) (len : Nat), s.Awake →
    let σ := s.at_ t
    (σ.gptpAt inst p) →
    let σ := (σ.count p cTX_FRAMES 1).count p cTX_BYTES len
    let x := σ.gport inst p
    let two := σ.rdb (F.TSN_GPTP_PORT_TWO_STEP inst p)
    Runs (.gptpMessageInterval t inst p len) s (if σ.portRole inst p = 1 then
        σ.setGport inst p { x with txAt := σ.now, sent := if two then σ.syncStep1 inst p else σ.syncOut inst p, follow := if two then σ.syncOut inst p else none }
      else σ.setGport inst p { x with txAt := σ.now })) ∧
  (∀ (t : Nat) (k : Nat), s.Awake →
    let σ := s.at_ t
    (k < 28 ∨ (32 ≤ k ∧ k < 288)) →
    Runs (.gateIntervalEnd t k) s (σ.refreshGates k)) ∧
  (∀ (t : Nat) (k : Nat), s.Awake →
    let σ := s.at_ t
    ∀ l tc, (σ.gates k).pend = some (l, tc) →
    (tc ≤ σ.now) →
    let g := σ.gates k
    let σ := σ.setGates k { g with oper := some l, pend := none, resume := if tc < σ.now then g.resume.map (fun _ => l.nextStart σ.now) else none }
    let σ := if k < 28 then σ.wrb (F.TSN_GATE_CTL_PENDING k) false else σ
    let σ := if σ.aligned 6 then σ else σ.suspendGate k
    Runs (.gclChangeInstant t k) s ((σ.refreshGates k).trig 288)) ∧
  (∀ (t : Nat) (p : Nat) (ok : Bool), s.Awake →
    let σ := s.at_ t
    (p < 16 ∧ σ.rd (F.TSN_PRE_STAT_VERIFY_STATUS p) = 1) →
    Runs (.preemptVerifyTimer t p ok) s (if ok then (σ.wr (F.TSN_PRE_STAT_VERIFY_STATUS p) 2).wrb (F.TSN_PRE_STAT_ACTIVE p) true
      else if σ.now < σ.tsn.verifyAt.get 0 p + ms (σ.rd (F.TSN_PRE_CFG_VERIFY_TIME p)) then σ
      else
        let n := σ.tsn.verify.get 0 p + 1
        let σ := { σ with tsn.verify := σ.tsn.verify.set p n, tsn.verifyAt := σ.tsn.verifyAt.set p σ.now }
        if 3 ≤ n then (σ.wr (F.TSN_PRE_STAT_VERIFY_STATUS p) 3).trig 293 else σ)) ∧
  (∀ (t : Nat) (f : Nat), s.Awake →
    let σ := s.at_ t
    let x := σ.tsn.frer.get {} f
    (f < 256 ∧ x.any = false ∧ x.lastAt + ms (σ.rd (F.TSN_FRER_B_RESET_MS f)) ≤ σ.now) →
    let σ := { σ with tsn.frer := σ.tsn.frer.set f { x with any := true, hist := 0, lastAt := σ.now } }
    Runs (.frerResetTimer t f) s ((foldS (σ.frerStreams f) (fun n σ => σ.setStream n { σ.stream n with resets := wrap32 ((σ.stream n).resets + 1) }) σ).trig 292)) ∧
  (∀ (t : Nat) (f : Nat), s.Awake →
    let σ := s.at_ t
    let x := σ.tsn.frer.get {} f
    (f < 256 ∧ σ.rdb (F.TSN_FRER_A_LATENT f) = true ∧ x.latAt + ms (σ.rd (F.TSN_FRER_B_LATENT_PERIOD f)) ≤ σ.now) →
    let want : Int := (x.passed : Int) * (((σ.frerStreams f).length : Int) - 1)
    let σ := { σ with tsn.frer := σ.tsn.frer.set f { x with passed := 0, disc := 0, latAt := σ.now } }
    Runs (.frerLatentPeriod t f) s (if σ.rd (F.TSN_FRER_A_LATENT_DIFF f) < ((x.disc : Int) - want).natAbs then
        (σ.trig 291).ownFault 0x0502 .corrected (σ.ownerOf kRecov f) f 0
      else σ)) ∧
  (∀ (t : Nat) (f : FaFrame) (l : List FaFrame), s.Awake →
    let σ := s.swAt t
    σ.tsn.waiting = f :: l →
    let σ := { σ with tsn.waiting := l }
    let b := f.bytes
    let h := faHdr b
    let e := σ.faAuth b
    σ.faDark = false →
    (e ≠ 0 → Runs (.faFrameArrival t) s (σ.faCount h.sender e)) ∧
    (e = 0 →
      let σ := σ.setPair (R.TSN_FA_SND_SEQ_LO h.sender) (R.TSN_FA_SND_SEQ_HI h.sender) h.seq
      let e := σ.faTarget b
      let r := if e = 0 then σ.faRun f.tIn b else ([], σ)
      let σ := r.2.faCount h.sender e
      Runs (.faFrameArrival t) s (if h.ack then σ.sendFrom 27 (σ.faResult b e r.1) (σ.rd F.TSN_FA_CFG_FA_CLASS) else σ)))

/-- Valid frames, transmissions, errors, recovery and dominant timeouts of CAN channels act as the rules say (R316, R319, R318, R322, R323, R306). -/
def Obligations.CanBusEventsComplete : Prop :=
  ∀ (s : State),
  (∀ (t : Nat) (c : Nat) (fr : CanFrame), c < 16 →
    let σ := s.at_ t
    let σ := if c = 0 then { σ with slp.can0At := σ.now } else σ
    let live := σ.canLive c && !σ.slp.prepped
    let σ := if σ.decodes c then σ.swkFrame c fr else σ
    Runs (.canFrameValid t c fr) s (if live = false ∨ σ.rd (F.CAN_CTL_MODE c) = 4 then σ
      else if fr.fdf && (fr.res || !σ.rdb (F.CAN_CTL_FD_EN c)) then (if σ.rdb (F.CAN_CTL_PXHD c) then σ.canError c 0 1 2 false else σ)
      else (σ.canReceive c fr).recDown c)) ∧
  (∀ (t : Nat) (c : Nat) (idle : Bool), s.Awake → c < 16 →
    let u := s.at_ t
    let σ := match (u.can_ c).modeWant with
      | some m => if idle && (u.can_ c).active.isNone then u.canMode c m else u
      | none => u
    let m := σ.rd (F.CAN_CTL_MODE c)
    (∀ k, σ.canLive c = true → (σ.can_ c).active = none → (m = 1 ∨ m = 4) → σ.txChoice c = some k →
      Runs (.canTxOpportunity t c idle) s (σ.loadFrame c k)) ∧
    (∀ w, (u.can_ c).modeWant = some w → idle = true → (u.can_ c).active = none →
      ¬ (σ.canLive c = true ∧ (σ.can_ c).active = none ∧ (m = 1 ∨ m = 4) ∧ (σ.txChoice c).isSome = true) →
      Runs (.canTxOpportunity t c idle) s (u.canMode c w))) ∧
  (∀ (t : Nat) (c : Nat) (sof : Nat), s.Awake →
    let σ := s.at_ t
    ∀ k b, (σ.can_ c).active = some (k, b) →
    let σ := if c = 0 then { σ with slp.can0At := σ.now } else σ
    let σ := σ.canStore c (σ.canSlot c k (σ.rd (F.CAN_OBJ_STAT_CUR c k))) (bytesLE 8 sof)
    let σ := (σ.inc (F.CAN_OBJ_STAT_FRAMES c k)).modCan c (fun x => { x with sent := wrap32 (x.sent + 1) })
    let σ := (σ.txEnd c k txSENT 1).offBus c
    let σ := if σ.canLive c then (σ.wr (F.CAN_STAT_TEC c) (σ.rd (F.CAN_STAT_TEC c) - 1)).canCounters c else σ
    let σ := if σ.rd (F.CAN_CTL_MODE c) = 4 ∧ σ.rd (F.CAN_STAT_STATE c) ≠ 5 then σ.canReceive c (σ.frameOfSlot c k sof b) else σ
    Runs (.canTxFrameComplete t c sof) s (σ.gwyOutcome c k 1)) ∧
  (∀ (t : Nat) (c : Nat) (lost : Bool), s.Awake →
    let σ := s.at_ t
    ∀ k v1, (σ.can_ c).active = some (k, v1) →
    Runs (.canTxLostOrError t c lost) s ((if lost then σ.modCan c (fun x => { x with lost := wrap32 (x.lost + 1) }) else σ).txBack c k)) ∧
  (∀ (t : Nat) (c : Nat) (dTec : Nat) (dRec : Nat) (lec : Nat) (dataPhase : Bool), c < 16 →
    let σ := s.at_ t
    let live := σ.canLive c && !σ.slp.prepped
    let σ := if σ.decodes c = true ∧ (lec = 1 ∨ lec = 2 ∨ lec = 6) then σ.swkError c else σ
    Runs (.canBusError t c dTec dRec lec dataPhase) s (if live then σ.canError c dTec dRec lec dataPhase else σ)) ∧
  (∀ (t : Nat) (c : Nat), s.Awake →
    let σ := s.at_ t
    ∀ u, (σ.can_ c).recoverAt = some u →
    (σ.rd (F.CAN_STAT_STATE c) = 3 ∧ u ≤ σ.now) →
    Runs (.canRecoverDelayExpiry t c) s (σ.startRecovery c)) ∧
  (∀ (t : Nat) (c : Nat), s.Awake →
    let σ := s.at_ t
    (σ.rd (F.CAN_STAT_STATE c) = 4) →
    Runs (.canRecoveryComplete t c) s ((σ.canBegin c).canTrig c 3)) ∧
  (∀ (t : Nat) (c : Nat), s.Awake →
    let σ := s.at_ t
    (c < 16 ∧ σ.rd (F.CAN_STAT_STATE c) ≠ 0) →
    Runs (.domTimeout t c) s ((σ.sat (F.CAN_CNT_DOM_TIMEOUT c) 1).canTrig c 6))

/-- Stores to CAN object registers and event-queue pops act on the object and the queues (R312, R313, R316, R318, R321). -/
def Obligations.CanRegisterRowsComplete : Prop :=
  ∀ (s : State),
  (∀ (t : Nat) (a : Acc) (c k v : Nat), c < 16 → k < 512 → s.Stores t a (R.CAN_OBJ_ID c k) = true → s.blockWrites a kCan c = true →
    Runs (.canObjEnWrite t a c k v) s ((s.posted t a (R.CAN_OBJ_ID c k)).writeObjId c k v)) ∧
  (∀ (t : Nat) (a : Acc) (c k : Nat), c < 16 → k < 512 → s.Stores t a (R.CAN_OBJ_CTL c k) = true → s.blockWrites a kCan c = true →
    Runs (.canEvqOff t a c k) s ((s.posted t a (R.CAN_OBJ_CTL c k)).actEvqOff c k)) ∧
  (∀ (t : Nat) (a : Acc) (c k : Nat), c < 16 → k < 512 → s.Stores t a (R.CAN_OBJ_CTL c k) = true → s.blockWrites a kCan c = true →
    Runs (.canEvqOn t a c k) s ((s.posted t a (R.CAN_OBJ_CTL c k)).actEvqOn c k)) ∧
  (∀ (t : Nat) (a : Acc) (c k : Nat), c < 16 → k < 512 → s.Stores t a (R.CAN_OBJ_CTL c k) = true → s.blockWrites a kCan c = true →
    Runs (.canLostClr t a c k) s ((s.posted t a (R.CAN_OBJ_CTL c k)).actLostClr c k)) ∧
  (∀ (t : Nat) (a : Acc) (c k : Nat), c < 16 → k < 512 → s.Stores t a (R.CAN_OBJ_CTL c k) = true → s.blockWrites a kCan c = true →
    Runs (.canHoldRel t a c k) s ((s.posted t a (R.CAN_OBJ_CTL c k)).actHoldRel c k)) ∧
  (∀ (t : Nat) (a : Acc) (c k : Nat), c < 16 → k < 512 → s.Stores t a (R.CAN_OBJ_CTL c k) = true → s.blockWrites a kCan c = true →
    Runs (.canHoldSet t a c k) s ((s.posted t a (R.CAN_OBJ_CTL c k)).actHoldSet c k)) ∧
  (∀ (t : Nat) (a : Acc) (c k : Nat), c < 16 → k < 512 → s.Stores t a (R.CAN_OBJ_CTL c k) = true → s.blockWrites a kCan c = true →
    Runs (.canAbort t a c k) s ((s.posted t a (R.CAN_OBJ_CTL c k)).actAbort c k)) ∧
  (∀ (t : Nat) (a : Acc) (c k slot : Nat), c < 16 → k < 512 → s.Stores t a (R.CAN_OBJ_CTL c k) = true → s.blockWrites a kCan c = true →
    Runs (.canTxreq t a c k slot) s ((s.posted t a (R.CAN_OBJ_CTL c k)).actTxreq c k (slot % 2))) ∧
  (∀ (t : Nat) (a : Acc) (c : Nat), c < 16 → s.Loads t a (R.CAN_RXEVT_POP c) = true → s.blockReads a kCan c = true →
    Runs (.canRxevtPop t a c) s
      ((((s.polled t).replyData ((s.polled t).rxHeadWord c)).modCan c (fun x => { x with rxq := x.rxq.drop 1 })).canLines c)) ∧
  (∀ (t : Nat) (a : Acc) (c : Nat), c < 16 → s.Loads t a (R.CAN_TXEVT_POP c) = true → s.blockReads a kCan c = true →
    Runs (.canTxevtPop t a c) s
      ((((s.polled t).replyData ((s.polled t).txHeadWord c)).modCan c (fun x => { x with txq := x.txq.drop 1 })).canLines c))

/-- LIN slots, responses and timeouts, and stores to LIN frame buffers act as the rules say (R326, R329, R327). -/
def Obligations.LinCommandsComplete : Prop :=
  ∀ (s : State),
  (∀ (t : Nat) (c : Nat), s.Awake →
    let σ := s.at_ t
    ¬ (8 ≤ c ∨ σ.aligned 7 = false ∨ (σ.lin_ c).asleep = true) →
    let σ := if (σ.lin_ c).nextAt + ms 1 < σ.now then σ.linForward c else σ
    let x := σ.lin_ c
    x.nextAt ≤ σ.now →
    Runs (.linSlotStart t c) s (if !σ.rdb (F.LIN_CTL_ENABLE c) then
        (if x.run then σ.linTrig c 2 else σ).modLin c (fun x => { x with run := false, frame := none, coll := false, back := none })
      else if σ.slp.linSleep.contains c then σ.linGoToSleep c
      else if x.run then σ.linNext c
      else σ.linServe c (σ.rd (F.LIN_CTL_TABLE c)) 0)) ∧
  (∀ (t : Nat) (c : Nat) (err : Nat) (data : List Byte), s.Awake →
    let σ := s.at_ t
    ∀ f, (σ.lin_ c).frame = some f →
    ¬ (f.limit < σ.now) →
    Runs (.linResponseEnd t c err data) s (if f.evt && (err == 3 || err == 4) then
        ((σ.sat (F.LIN_STAT_COLLISIONS c) 1).modLin c (fun x => { x with coll := true })).linFrameEnd c
      else if err = 0 then
        (if f.pub then σ.wr (F.LIN_BUF_ST_ERR c f.fid) 0 else σ.linResponse c f.fid (slice data 0 (σ.rd (F.LIN_BUF_CFG_LEN c f.fid)))).linFrameEnd c
      else (σ.linError c f.fid err).linFrameEnd c)) ∧
  (∀ (t : Nat) (c : Nat) (got : Bool), s.Awake →
    let σ := s.at_ t
    ∀ f, (σ.lin_ c).frame = some f →
    ¬ (σ.now < f.limit ∨ f.pub = true) →
    Runs (.linFrameMaxExpiry t c got) s ((σ.linError c f.fid (if got then 2 else 1)).linFrameEnd c)) ∧
  (∀ (t : Nat) (a : Acc) (c j : Nat), c < 8 → j < 64 → s.Stores t a (R.LIN_BUF_CFG c j) = true → s.blockWrites a kLin c = true →
    Runs (.linHoldSet t a c j) s ((s.posted t a (R.LIN_BUF_CFG c j)).linHoldSet c j)) ∧
  (∀ (t : Nat) (a : Acc) (c j : Nat), c < 8 → j < 64 → s.Stores t a (R.LIN_BUF_CFG c j) = true → s.blockWrites a kLin c = true →
    Runs (.linHoldRel t a c j) s ((s.posted t a (R.LIN_BUF_CFG c j)).linHoldRel c j)) ∧
  (∀ (t : Nat) (a : Acc) (c j : Nat), c < 8 → j < 64 → s.Stores t a (R.LIN_BUF_CFG c j) = true → s.blockWrites a kLin c = true →
    Runs (.linLostClr t a c j) s ((s.posted t a (R.LIN_BUF_CFG c j)).linLostClr c j)) ∧
  (∀ (t : Nat) (a : Acc) (c j v : Nat), c < 8 → j < 64 → s.Stores t a (R.LIN_BUF_DATA1 c j) = true → s.blockWrites a kLin c = true →
    Runs (.linData1Write t a c j v) s ((s.posted t a (R.LIN_BUF_DATA1 c j)).writeLinData1 c j v))

/-- Due sends, maximum gaps, timeouts and containers of the gateway act on their routes (R342, R343, R348). -/
def Obligations.GatewayEventsComplete : Prop :=
  ∀ (s : State),
  (∀ (t : Nat) (r : Nat), s.Awake →
    let σ := s.at_ t
    (σ.routeActs r && (σ.route r).pend && decide ((σ.route r).due ≤ σ.ioClock)) →
    Runs (.gatewaySendDue t r) s (σ.gwySend r)) ∧
  (∀ (t : Nat) (r : Nat), s.Awake →
    let σ := s.at_ t
    let x := σ.route r
    (σ.routeActs r && !x.pend && !x.stopped && x.maxGap != 0 && decide ((if x.sendAt.isSome then x.sendClk else σ.gwy.loadAt) + ms x.maxGap ≤ σ.ioClock)) →
    Runs (.gatewayMaxGapExpiry t r) s (σ.gwySend r)) ∧
  (∀ (t : Nat) (r : Nat), s.Awake →
    let σ := s.at_ t
    let x := σ.route r
    (σ.routeActs r && x.timeout != 0 && !x.timedOut && decide (max x.updClk σ.gwy.loadAt + ms x.timeout ≤ σ.ioClock)) →
    let x := { x with timedOut := true, timeouts := satAdd x.timeouts 1 255 }
    let σ := σ.trig 544
    Runs (.gatewayTimeout t r) s (if x.tmoAct = 1 then σ.setRoute r { x with pend := false, stopped := true }
      else if x.tmoAct = 2 then
        let b := if x.level = 2 then x.tmpl else List.replicate x.dlen (BitVec.ofNat 8 x.pad)
        (σ.setRoute r { x with buf := some b, bufAt := if x.buf = some b then x.bufAt else σ.now }).onUpdate r
      else σ.setRoute r x)) ∧
  (∀ (t : Nat) (k : Nat), s.Awake →
    let σ := s.at_ t
    let x := σ.gwy.conts.get {} k
    (σ.gwy.running && σ.dev != .coppice && decide (x.firstAt + x.tmo ≤ σ.ioClock)) →
    Runs (.containerSendTimeout t k) s (σ.sendCont k)) ∧
  (∀ (t : Nat) (b : List Byte) (l : List (List Byte)) (es : List (Nat × List Byte)), s.Awake →
    let σ := s.at_ t
    σ.gwy.waiting = b :: l → σ.gwy.running = true → σ.dev ≠ .coppice → beAt b 0 1 = 0x10 → beAt b 1 1 ≠ 0 → contEntries b (beAt b 1 1) 8 = some es →
    Runs (.containerReceive t) s (foldS es (fun e σ =>
      if (σ.routesFrom (epPdu e.1)).isEmpty then ({ σ with gwy.unknown := wrap32 (σ.gwy.unknown + 1) }).trig 546
      else σ.gwyUpdate (epPdu e.1) 0 e.2) { σ with gwy.waiting := l }))

/-- Core assignment, partition events, drain, scrub, reloads and the regulation period act on the partitions (R406, R412, R415, R418, R419, R421). -/
def Obligations.PartitionRowsComplete : Prop :=
  ∀ (s : State),
  (∀ (t : Nat) (a : Acc) (c v : Nat), s.Stores t a (R.MPC_CORE_PART c) = true →
    let σ := s.posted t a (R.MPC_CORE_PART c)
    let p := v % 32
    c < 6 → a.hyp = true → a.sec = false → a.dev = false → a.master = c →
    (bitOf v 31 = false ∨ (p < 16 ∧ σ.hosting p = 1 ∧ bitOf (σ.rd (F.MPC_PART_CFG_AFFINITY p)) c = true)) →
    Runs (.mpcCorePartWrite t a true c v) s ((σ.wr (F.MPC_CORE_PART_PART c) p).wr (F.MPC_CORE_PART_VALID c) (bitsOf v 31 1))) ∧
  (∀ (t : Nat) (a : Acc) (v : Nat), s.Stores t a R.MPC_PEVT = true →
    let σ := s.posted t a R.MPC_PEVT
    a.hyp = true → a.sec = false → a.dev = false →
    Runs (.mpcPevtClear t a true v) s (σ.wr F.MPC_PEVT_CHG (σ.rd F.MPC_PEVT_CHG &&& (0xFFFF - v % 2 ^ 16)))) ∧
  (∀ (t : Nat) (v : Nat), s.Awake →
    let σ := s.at_ t
    (v < 16 ∧ σ.pst v = psRESETTING ∧ σ.rdb (F.MPC_PART_STAT_SCRUBBING v) = false) →
    let σ := (σ.drainIssued v).dropSlots (fun x => accOf v x.acc)
    let σ := σ.partEffects v
    Runs (.partResetDrainComplete t v) s (if (σ.part_ v).scrub then σ.wrb (F.MPC_PART_STAT_SCRUBBING v) true else σ.setPart v psHALTED)) ∧
  (∀ (t : Nat) (v : Nat), s.Awake →
    let σ := s.at_ t
    (v < 16 ∧ σ.pst v = psRESETTING ∧ σ.rdb (F.MPC_PART_STAT_SCRUBBING v) = true) →
    let σ := ((σ.scrubRegions v).wrb (F.MPC_PART_STAT_SCRUBBING v) false).modPart v (fun p => { p with scrub := false })
    Runs (.partScrubComplete t v) s (σ.setPart v psHALTED)) ∧
  (∀ (t : Nat) (v : Nat), s.Awake →
    let σ := s.at_ t
    ∀ k, (if v < 16 then σ.hostCore v else none) = some k →
    (σ.pst v = psHALTED ∧ σ.dev ≠ .fault) →
    let σ := if σ.rd (F.FLT_LS_MIS_ACTION (k / 2)) = 3 ∧ σ.rd (F.MPC_PART_STAT_CAUSE v) = 4 then
        (σ.modPair (k / 2) (fun p => { p with recents := [] })).wr (F.FLT_LS_STAT_RECENT (k / 2)) 0 else σ
    Runs (.safetyPartitionReload t v) s ((((σ.loadPart v).releasePair (k / 2)).setPart v psSTARTING).heldHalt (k / 2))) ∧
  (∀ (t : Nat), s.Awake →
    let σ := s.at_ t
    ∀ v, σ.hostPart = some v →
    (σ.pst v = psHALTED ∧ σ.hosting v = 1 ∧ σ.dev ≠ .fault) →
    Runs (.hostResetReload t) s (σ.startNormal.setPart v psSTARTING)) ∧
  (∀ (t : Nat), s.Awake →
    let σ := s.at_ t
    let p := us (σ.rd F.MPC_REG_CFG_PERIOD)
    let at_ := if p = 0 then 0 else σ.now / p * p
    (σ.prt.period < at_) →
    Runs (.regulationPeriod t) s (foldS (List.range 16) (fun v (σ : State) => σ.modPart v (fun x => { x with used := σ.debt v, thr := false })) { σ with prt.period := at_ }).resumeAll)

/-- Lockstep mismatches, signatures, self-tests, checkpoint restarts, debug halts and checkpoint stores act on the pair (R435, R433, R436, R441, R434). -/
def Obligations.PairRowsComplete : Prop :=
  ∀ (s : State),
  (∀ (t : Nat) (n : Nat) (kind : Nat) (addr : Nat), s.Awake →
    let σ := s.at_ t
    (n < 4 ∧ σ.lst n = lsLOCKSTEP ∧ σ.pairUp n = true ∧ 1 ≤ kind ∧ kind ≤ 4) →
    Runs (.lockstepMismatch t n kind addr) s (σ.mismatch n kind addr)) ∧
  (∀ (t : Nat) (n : Nat) (equal : Bool), s.Awake →
    let σ := s.at_ t
    (n < 4 ∧ σ.lst n = lsLOCKSTEP ∧ σ.pairUp n = true ∧ equal = false) →
    Runs (.lockstepSignatureCheck t n equal) s (σ.mismatch n 5 0)) ∧
  (∀ (t : Nat) (n : Nat) (aOk : Bool) (bOk : Bool), s.Awake →
    let σ := s.at_ t
    (n < 4 ∧ σ.lst n = lsSELFTEST ∧ σ.pairUp n = true) →
    Runs (.mismatchSelftestResult t n aOk bOk) s (if aOk = bOk then ((σ.wr (F.FLT_LS_MIS_RESULT n) 3).wr (F.FLT_LS_MIS_ACTION n) 2).startRestart n
      else
        let k := if aOk then 2 else 1
        let σ := ((σ.wr (F.FLT_LS_MIS_RESULT n) k).wr (F.FLT_LS_MIS_ACTION n) 1).wr (F.FLT_LS_STAT_FENCED n) k
        let σ := σ.setPair_ n lsDEGRADED
        (σ.ownFault 0x0A02 .contained ((σ.pairPart n).getD 0) n 0).heldHalt n)) ∧
  (∀ (t : Nat) (n : Nat), s.Awake →
    let σ := s.at_ t
    (n < 4 ∧ σ.lst n = lsRESTARTING ∧ σ.pairUp n = true) →
    let r := σ.recents n
    Runs (.checkpointRestartComplete t n) s (if (σ.pair_ n).ckpt = false ∨ σ.rd (F.FLT_LS_CFG_RST_LIMIT n) < r.length + 1 then
        (σ.wr (F.FLT_LS_MIS_ACTION n) 3).resetPart ((σ.pairPart n).getD 0) 4 false
      else
        let σ := (σ.sat (F.FLT_LS_STAT_RESTARTS n) 1).wr (F.FLT_LS_STAT_RECENT n) (r.length + 1)
        ((σ.modPair n (fun p => { p with recents := σ.now :: r })).setPair_ n lsLOCKSTEP).heldHalt n)) ∧
  (∀ (t : Nat) (n : Nat), s.Awake →
    let σ := s.at_ t
    ¬ (4 ≤ n ∨ σ.lifecycle = 2) →
    Runs (.debugHaltRequest t n) s (if σ.lst n = lsLOCKSTEP ∨ σ.lst n = lsDEGRADED ∨ σ.lst n = lsSPLIT then σ.haltPair n
      else if σ.lst n = lsSELFTEST ∨ σ.lst n = lsRESTARTING then σ.modPair n (fun p => { p with halt := true })
      else σ)) ∧
  (∀ (t : Nat) (n : Nat), s.Awake →
    let σ := s.at_ t
    (n < 4 ∧ σ.lst n = lsHALTED) →
    Runs (.debugResume t n) s (σ.setPair_ n (if σ.rdb (F.FLT_LS_CFG_SPLIT n) && σ.dev != .coppice then lsSPLIT else if σ.rd (F.FLT_LS_STAT_FENCED n) ≠ 0 then lsDEGRADED else lsLOCKSTEP))) ∧
  (∀ (t : Nat) (a : Acc) (n v : Nat), s.Stores t a (R.FLT_LS_CKPT n) = true →
    let σ := s.posted t a (R.FLT_LS_CKPT n)
    n < 4 → a.dev = false → a.master / 2 = 4 + n → σ.lst n = lsLOCKSTEP → bitOf v 0 = true →
    Runs (.fltLsCkptWrite t a n v) s
      ((σ.modPair n (fun p => { p with ckpt := true })).setPair (R.FLT_LS_CKPT_TS_LO n) (R.FLT_LS_CKPT_TS_HI n) σ.now))

/-- GATE, GRET, the gate timer, peripheral power-state stores and wait-for-interrupt act as the worlds' rules say (R452, R453, R456, R459). -/
def Obligations.WorldRowsComplete : Prop :=
  ∀ (s : State),
  (∀ (t : Nat) (a : Acc) (hyp : Bool) (target : Nat), s.Awake → a.dev = false →
    let σ := { s.at_ t with bus := .none }
    let c := a.master
    c < 6 → σ.muteCore a = false →
    (a.sec = true → Runs (.gate t a hyp target) s { σ.accFault 0x0B02 a 4 target with bus := .busError }) ∧
    (a.sec = false → σ.secState = 2 → Runs (.gate t a hyp target) s { σ with prt.gateRes := σ.prt.gateRes.set c 0x305, bus := .data 0x304 }) ∧
    (a.sec = false → σ.secState ≠ 2 → σ.inCall c = false → σ.gateOk target = false →
      Runs (.gate t a hyp target) s { σ.accFault 0x0B02 a 4 target with bus := .busError }) ∧
    (a.sec = false → σ.secState ≠ 2 → σ.inCall c = false → σ.gateOk target = true →
      let σ := σ.setWord (R.MPC_GW_CALLER c) 0
      let σ := ((σ.wrb (F.MPC_GW_CALLER_VALID c) true).wrb (F.MPC_GW_CALLER_HYP c) hyp).wr (F.MPC_GW_CALLER_PART c) a.part
      let σ := σ.wr F.MPC_GW_STAT_IN_GATE (setBit (σ.rd F.MPC_GW_STAT_IN_GATE) c)
      Runs (.gate t a hyp target) s { σ with
        prt.calls := σ.prt.calls.set c (some { part := a.part, hyp := hyp, until_ := σ.now + us (10 * σ.rd F.MPC_GW_CFG_TMO) }), prt.gateRes := σ.prt.gateRes.erase c })) ∧
  (∀ (t : Nat) (a : Acc), s.Awake → a.sec = true → a.master < 6 →
    let σ := { s.at_ t with bus := .none }
    σ.muteCore a = false →
    (σ.inCall a.master = true → Runs (.gret t a) s (σ.endCall a.master).hostWaitCheck) ∧
    (σ.inCall a.master = false → Runs (.gret t a) s { σ.accFault 0x0B02 a 4 0 with bus := .busError })) ∧
  (∀ (t : Nat) (c : Nat), s.Awake →
    let σ := s.at_ t
    ∀ k, σ.prt.calls.get none c = some k →
    ¬ (σ.now < k.until_ ∨ 6 ≤ c) →
    let σ := foldS (List.range 6) (fun i σ => if σ.inCall i then { σ.endCall i with prt.gateRes := (σ.endCall i).prt.gateRes.set i 0x305 } else σ) σ
    let σ := (σ.wr F.MPC_GW_STAT_SEC_STATE 2).wr F.MPC_GW_STAT_HUNG_CORE c
    let σ := σ.setPair R.MPC_GW_HUNG_LO R.MPC_GW_HUNG_HI σ.now
    let σ := σ.raise { code := 0x0B03, cls := .contained, kind := .host }
    Runs (.gateTimerExpiry t c) s ((foldS (σ.mailObjs 16) (fun x σ => σ.dispose x) σ).hostWaitCheck)) ∧
  (∀ (t : Nat) (a : Acc) (k v : Nat), s.Stores t a (R.MPC_CPC k) = true →
    let σ := s.posted t a (R.MPC_CPC k)
    k < 54 → σ.dev ≠ .coppice → a.dev = false →
    (a.sec = true ∨ (σ.cpcSecure k = false ∧ σ.cpcOwner k = a.part)) →
    Runs (.mpcCpcPstateWrite t a k v) s (σ.setPstate k (v % 4))) ∧
  (∀ (t : Nat) (c : Nat), s.Awake →
    let σ := s.at_ t
    let w := σ.prt.want.get 0 c
    (c < 6 ∧ w ≠ 0) →
    Runs (.coreWaitForInterrupt t c) s { σ.wr (F.MPC_CPC_PSTATE c) (w - 1) with prt.want := σ.prt.want.erase c })

/-- Key commits, ends of key operations, remasking and tamper sensors act as the key store's rules say (R471, R475, R474, R481, R478). -/
def Obligations.KeyTamperEventsComplete : Prop :=
  ∀ (s : State),
  (∀ (t : Nat) (k : Nat), s.Awake →
    let σ := s.at_ t
    ∀ n w g, (σ.slot k).commit = some (n, w, g) →
    (σ.opsOn k = []) →
    let σ := σ.commitKey k
    Runs (.keyCommitEffect t k) s (match σ.mbx.cmds.find? (fun c => c.node == n && c.win == w && c.tag == g) with
      | some c => σ.answer c stOK (bytesLE 8 σ.now)
      | none => σ)) ∧
  (∀ (t : Nat) (node : Nat) (w : Nat) (tag : Nat), s.Awake →
    let σ := s.at_ t
    ∀ c, ((σ.keyOps.filter (fun c => c.phase == .running)).take 4).find? (fun c => c.node == node && c.win == w && c.tag == tag) = some c →
    let p := σ.keyParam c
    Runs (.keyOpComplete t node w tag) s (if p.op < 12 ∧ σ.usable p.slot = false then σ.abortKeyOp c stKEY_REVOKED
      else match σ.keyOut p (σ.load (c.dAddr 1) (c.dSize 1)) with
        | some o => ((σ.store (c.dAddr 2) o).dramCharge c.who (c.dAddr 2) o.length).answer c stOK (bytesLE 4 o.length ++ bytesLE 4 0)
        | none => σ.abortKeyOp c stAUTH_FAILED)) ∧
  (∀ (t : Nat), s.Awake →
    let σ := s.at_ t
    σ.now % sec (60 * σ.rd F.HWN_CFG_REMASK_MIN) = 0 →
    σ.cfg.mq.any (fun r => r.act == aREMASK) = false →
    (σ.rd F.WAK_STAT_PHASE = 0 → Runs (.remaskDue t) s (σ.requestAct { act := aREMASK, due := σ.now })) ∧
    (σ.rd F.WAK_STAT_PHASE ≠ 0 → σ.cfg.heldActs.any (fun p => p.1 == aREMASK) = false →
      Runs (.remaskDue t) s { σ with cfg.heldActs := σ.cfg.heldActs ++ [(aREMASK, σ.now)] })) ∧
  (∀ (t : Nat) (j : Nat),
    let σ := s.at_ t
    ¬ (6 ≤ j ∨ (σ.dev = .sleep ∧ j ≠ 0 ∧ j ≠ 4) ∨ σ.dev = .off) →
    let pol := σ.tamperPolicy j
    let bit (f : Fld) (σ : State) : State := σ.wr f (setBit (σ.rd f) j)
    let σ := (bit F.HWN_TAMPER_STAT_ACTIVE (bit F.HWN_TAMPER_STAT_LATCHED σ)).sat F.HWN_TAMPER_STAT_EVENTS 1
    Runs (.tamperSensorEvent t j) s (if σ.dev = .sleep then
        let σ := σ.tamperLog j pol (if pol = 0 then 3 else if pol = 1 then 1 else 0)
        let kept (σ : State) : State := { σ with hwn.bootAlarms := σ.hwn.bootAlarms ++ [(j, pol)] }
        if pol = 0 then kept σ.eraseSlots else kept σ
      else
        let σ := σ.abortKeyOps stTAMPER_LOCKOUT
        let σ := σ.tamperLog j pol (if pol = 0 then 2 else if pol = 1 then 1 else 0)
        if pol = 0 then
          let σ := if σ.running aREMASK then σ.endRun aREMASK else σ
          let σ := (σ.dropShadows.eraseSlots).blowFuse.lockState 2
          let σ := (σ.sysFault 0x0B05 .contained j pol).trig 737
          { σ with flt.react := σ.flt.react ++ [React.coppice 0x06] }
        else if pol = 1 then
          let σ := if σ.running aREMASK then σ.endRun aREMASK else σ
          let σ := σ.dropShadows
          let σ := if σ.rd F.HWN_STAT_LOCK_STATE = 2 then σ else σ.lockState 1
          let σ := (σ.sysFault 0x0B05 .contained j pol).trig 737
          if σ.hwn.released ∨ σ.dev = .coppice then σ else { σ with flt.react := σ.flt.react ++ [React.coppice 0x06] }
        else (σ.sysFault 0x0B04 .corrected j pol).trig 736)) ∧
  (∀ (t : Nat) (j : Nat),
    let σ := s.at_ t
    (j < 6) →
    Runs (.tamperConditionEnd t j) s (σ.wr F.HWN_TAMPER_STAT_ACTIVE (clrBit (σ.rd F.HWN_TAMPER_STAT_ACTIVE) j)))

/-- Ready delay, preparation, power-down, COPPICE's commit, TC10, the wake-out pulse and wake lines act as the sleep rules say (R362, R363, R376, R373, R369, R361). -/
def Obligations.SleepEventsComplete : Prop :=
  ∀ (s : State),
  (∀ (t : Nat), s.Awake →
    let σ := s.at_ t
    (∀ u, σ.hdg.commitAt = some u → (σ.phase = 1 ∨ (σ.chainNames = true ∧ σ.phase = 0)) → u ≤ σ.now → σ.dev = .running →
      Runs (.readyDlyExpiry t) s (σ.commitNow u)) ∧
    (σ.hdg.commitAt = none → σ.phase = 1 → σ.readyEnd ≤ σ.now → σ.chainNames = false →
      (σ.chainSleeps && σ.rd F.HDG_CFG_ROLE == 1 && σ.rdb F.HDG_STAT_DN_LINK) = true →
      σ.hdg.outDn.any (fun f => f.ty == 7) = false →
      let f := σ.hdgSeal { ty := 7, dst := σ.rd F.HDG_STAT_NODE / 64 * 64 + 63, payload := bytesBE 8 0 }
      Runs (.readyDlyExpiry t) s (f.2.sendDn f.1)) ∧
    (σ.hdg.commitAt = none → σ.phase = 1 → σ.readyEnd ≤ σ.now → σ.chainNames = false →
      (σ.chainSleeps && σ.rd F.HDG_CFG_ROLE == 1 && σ.rdb F.HDG_STAT_DN_LINK) = false → gridAt σ.readyEnd ≤ σ.now →
      Runs (.readyDlyExpiry t) s (σ.commitNow (gridAt σ.readyEnd)))) ∧
  (∀ (t : Nat), s.Awake →
    let σ := s.at_ t
    (σ.phase = 2 ∧ σ.slp.prepped = false ∧ (σ.slp.tCommit + ms (σ.rd F.WAK_CFG0_PREP_MS) ≤ σ.now)) →
    let σ := foldS ((List.range 24).filter (fun k => (σ.task k).retBusy)) (fun k σ => retainedWriteComplete σ.now k σ) σ
    let σ := σ.logEnergy
    let σ := foldS ((List.range 28).filter (fun p => (σ.swPort p).tx.isSome || (σ.swPort p).heldTx.isSome)) (fun p σ =>
      let x := σ.swPort p
      ((σ.abortTx p x.tx).abortTx p x.heldTx).setSwPort p { σ.swPort p with tx := none, heldTx := none }) σ
    let σ := foldS σ.slp.tc10 (fun p σ => σ.ethSleep p) σ
    Runs (.prepMsExpiry t) s { σ with slp.prepped := true, mbx.cmds := [], boot.privetCmds := [] }) ∧
  (∀ (t : Nat),
    let σ := s.at_ t
    (σ.phase = 2 ∧ σ.slp.prepped = true ∧ σ.dev ≠ .sleep) →
    let out := σ.slp.wakeOut && σ.rd F.WAK_CFG1_WOUT_MODE != 2
    let σ : State := { σ.powerDown.setDev .sleep with slp.tSleep := σ.now, slp.wakeOut := out }
    Runs (.sleepPowerDownComplete t) s (if σ.rd F.WAK_CAUSE_KINDS = 0 then σ else { σ with flt.react := σ.flt.react ++ [React.wake] })) ∧
  (∀ (t : Nat), s.Awake →
    let σ := s.at_ t
    (σ.dev = .coppice ∧ σ.phase ≠ 2 ∧ σ.wakeActive = false ∧ σ.slp.ign = false ∧ σ.slp.lineAt + sec 600 ≤ σ.now ∧ σ.slp.can0At + sec 60 ≤ σ.now) →
    Runs (.coppiceSleepCommit t) s (σ.sleepCommit σ.now (2 ^ 31 + 2 ^ 30 + 2 ^ 28 + 1) 0 [])) ∧
  (∀ (t : Nat) (p : Nat) (ok : Bool), s.Awake →
    let σ := s.at_ t
    (σ.slp.tc10.contains p) →
    Runs (.tc10HandshakeComplete t p ok) s (if ok then σ.ethSleep p else if σ.phase = 2 then σ else { σ with slp.tc10 := σ.slp.tc10.filter (fun q => q != p) })) ∧
  (∀ (t : Nat),
    let σ := s.at_ t
    ∀ u, σ.slp.woutEnd = some u →
    (u ≤ σ.now) →
    Runs (.wakeOutPulseEnd t) s { σ with slp.wakeOut := false, slp.woutEnd := none }) ∧
  (∀ (t : Nat) (wakeIn : Bool) (ign : Bool),
    let σ := s.at_ t
    let u : State := { σ with slp.wakeIn := wakeIn, slp.ign := ign,
                              slp.wakeSince := if wakeIn = σ.slp.wakeIn then σ.slp.wakeSince else σ.now,
                              slp.ignSince := if ign = σ.slp.ign then σ.slp.ignSince else σ.now }
    Runs (.lineInputChange t wakeIn ign) s (if (σ.wakeActive || σ.slp.ign) && !(u.wakeActive || ign) then { u with slp.lineAt := u.now } else u))

/-- Wake events of lines, alarms, CAN, LIN, Ethernet and the chain latch their kind while the module sleeps or falls asleep (R368, R374, R367, R370, R372, R373, R394). -/
def Obligations.WakeEventsComplete : Prop :=
  ∀ (s : State),
  (∀ (t : Nat) (level : Bool),
    let σ := s.at_ t
    let seen := σ.slp.wakeIn == level
    let held := !seen || decide (σ.slp.wakeSince + σ.wakeFilt ≤ σ.now)
    let σ := if seen then σ else { σ.setLines level σ.slp.ign with slp.wakeSince := σ.now - σ.wakeFilt }
    Runs (.wakeInEvent t level) s (if σ.latching && bitOf σ.slp.arm 31 && held &&
        (if σ.rdb F.WAK_CFG0_WAKE_EDGE then decide (σ.slp.tCommit ≤ σ.slp.wakeSince + σ.wakeFilt) else σ.wakeActive) then σ.wakeLatch 0 else σ)) ∧
  (∀ (t : Nat) (level : Bool),
    let σ := s.at_ t
    let seen := σ.slp.ign == level
    let held := !seen || decide (σ.slp.ignSince + σ.wakeFilt ≤ σ.now)
    let σ := if seen then σ else { σ.setLines σ.slp.wakeIn level with slp.ignSince := σ.now - σ.wakeFilt }
    Runs (.ignSenseEvent t level) s (if σ.latching && bitOf σ.slp.arm 30 && held && level then σ.wakeLatch 1 else σ)) ∧
  (∀ (t : Nat) (v : Nat),
    let σ := s.at_ t
    let a := σ.slp.alarms.get 0 v
    ¬ (a = 0 ∨ σ.now < a) →
    Runs (.rtcAlarm t v) s (if σ.latching then
        (if bitOf σ.slp.arm 29 then ({ σ with slp.alarms := σ.slp.alarms.erase v }).wakeLatch 2 else σ)
      else ({ σ with slp.alarms := σ.slp.alarms.erase v }).trig 706)) ∧
  (∀ (t : Nat) (c : Nat),
    let σ := s.at_ t
    (c < 16 ∧ σ.decodes c = false) →
    Runs (.canWakePattern t c) s (σ.canWakeEvent c false)) ∧
  (∀ (t : Nat) (c : Nat) (fr : CanFrame),
    let σ := s.at_ t
    (c < 16 ∧ σ.decodes c = true) →
    Runs (.canWakeFrame t c fr) s (σ.swkFrame c fr)) ∧
  (∀ (t : Nat) (c : Nat),
    let σ := s.at_ t
    (c < 16 ∧ σ.decodes c = true ∧ σ.slp.fec.get 0 c = 31) →
    Runs (.canFecOverflow t c) s (σ.swkError c)) ∧
  (∀ (t : Nat) (c : Nat) (fin : Nat),
    let σ := s.at_ t
    ¬ (8 ≤ c) →
    Runs (.linWakeDominant t c fin) s (if σ.latching then
        (if bitOf σ.slp.arm (16 + c) then (σ.wr F.WAK_CAUSE_NET_LIN (setBit (σ.rd F.WAK_CAUSE_NET_LIN) c)).wakeLatch 5 else σ)
      else if (σ.lin_ c).asleep then σ.linWake c (max σ.now fin) else σ)) ∧
  (∀ (t : Nat) (p : Nat),
    let σ := s.at_ t
    ¬ (16 ≤ p) →
    Runs (.ethTc10Wake t p) s (if σ.latching then
        (if bitOf σ.slp.armEth p then (σ.wr F.WAK_CAUSE_NET_ETH (setBit (σ.rd F.WAK_CAUSE_NET_ETH) p)).wakeLatch 6 else σ)
      else { σ with slp.ethAsleep := σ.slp.ethAsleep.filter (fun q => q != p) })) ∧
  (∀ (t : Nat) (up : Bool),
    let σ := s.at_ t
    ((σ.latching && bitOf σ.slp.arm 28) || (σ.dev == .starting && σ.rdb F.WAK_ARM_ARM_CHAIN)) →
    Runs (.chainWakePulse t up) s (σ.wakeLatch 7))

/-- Chain cycles, timeouts, damaged frames, the root's Ethernet frames and the bypass act as the chain's rules say (R383, R386, R384, R398, R390, R393, R387). -/
def Obligations.ChainEventsComplete : Prop :=
  ∀ (s : State),
  (∀ (t : Nat) (up : Bool), s.Awake →
    let σ := s.at_ t
    ¬ (!σ.hdgOn || (up && σ.isRoot)) →
    Runs (.hopCycle t up) s (if up then
        let σ := match σ.hdg.ackDue with
          | some u => if u ≤ σ.now then ({ σ with hdg.ackDue := none, hdg.isEnd := true }).enumAck true false else σ
          | none => σ
        let w := σ.windowUp
        { w.2 with hdg.sentUp := some (w.2.onWire true w.1) }
      else
        let w := σ.windowDn
        { w.2 with hdg.sentDn := some (w.2.onWire false w.1) })) ∧
  (∀ (t : Nat) (up : Bool), s.Awake →
    let σ := s.at_ t
    (σ.hopUp up && decide ((if up then σ.hdg.lastUp else σ.hdg.lastDn) + us 240 ≤ σ.now)) →
    let σ := σ.setHop up false
    Runs (.hopDownTimeout t up) s (if up then σ.setHdg 5
      else if σ.isMember then σ.sendUp (σ.plainFrame 0xA σ.rootNode 0 []) else σ)) ∧
  (∀ (t : Nat) (up : Bool), s.Awake →
    let σ := s.at_ t
    (σ.hdgOn) →
    Runs (.hdgFrameTruncation t up) s (σ.sat F.HDG_ERR_RX_TRUNC 1)) ∧
  (∀ (t : Nat) (up : Bool), s.Awake →
    let σ := s.at_ t
    (σ.hdgOn) →
    Runs (.hdgInvalidFrame t up) s σ.hdgBad) ∧
  (∀ (t : Nat) (b : List Byte) (l : List (List Byte)), s.Awake →
    let σ := s.at_ t
    σ.hdg.inEth = b :: l →
    let σ : State := { σ with hdg.inEth := l }
    let f := hdgOfEth b
    let a := σ.hdgAuth f
    let z := a.2
    σ.isRoot = true → dstMac b = Config.unitMac →
    (((f.ty ≠ 8 ∧ f.ty ≠ 9) ∨ hdgFormOk f = false) → Runs (.rootEthernetFrame t) s (σ.sat F.HDG_ERR_CRC_ERR 1)) ∧
    ((f.ty = 8 ∨ f.ty = 9) → hdgFormOk f = true →
    (a.1 = false → Runs (.rootEthernetFrame t) s z) ∧
    (a.1 = true → f.ty = 8 → ms 2550 < beAt f.payload 0 8 → Runs (.rootEthernetFrame t) s z.fwdTooLong) ∧
    (a.1 = true → ¬ (f.ty = 8 ∧ ms 2550 < beAt f.payload 0 8) → z.isMine f = true →
      Runs (.rootEthernetFrame t) s (if f.ty = 8 then z.executeFwd f else z.takeRsp f)) ∧
    (a.1 = true → ¬ (f.ty = 8 ∧ ms 2550 < beAt f.payload 0 8) → z.isMine f = false → z.isForOld f = true → f.ty = 9 →
      Runs (.rootEthernetFrame t) s (z.lateRsp (beAt f.payload 7 1))) ∧
    (a.1 = true → ¬ (f.ty = 8 ∧ ms 2550 < beAt f.payload 0 8) → z.isMine f = false → ¬ (z.isForOld f = true ∧ f.ty = 9) →
      f.dst / 64 = z.ownNode / 64 → f.hops + 1 ≤ 63 →
      Runs (.rootEthernetFrame t) s ((if z.isForAll f = true ∧ f.ty = 8 then z.executeForAll f else z).sendDn { f with hops := f.hops + 1, inAt := z.now })))) ∧
  (∀ (t : Nat), s.Awake →
    let σ := s.at_ t
    ∀ u, σ.hdg.enumAt = some u →
    (σ.isRoot && decide (u + ms 100 ≤ σ.now)) →
    Runs (.enumRestartTimeout t) s σ.startEnum) ∧
  (∀ (t : Nat), s.Awake →
    let σ := s.at_ t
    (σ.hdgOn && σ.isMember && σ.hopUp true && decide (σ.hdg.delayAt + ms 64 ≤ σ.now)) →
    Runs (.delayMeasurementPeriod t) s (({ σ with hdg.delayAt := σ.now }).sendUp (σ.plainFrame 5 σ.rootNode 0 []))) ∧
  (∀ (t : Nat), s.Awake →
    let σ := s.at_ t
    ∀ u, σ.hdg.lastSync = some u →
    (u + sec 3 ≤ σ.now) →
    let σ : State := { σ.wrb F.HDG_STAT_SYNCED false with hdg.lastSync := none }
    Runs (.syncLossTimeout t) s (if σ.rd F.TBS_CFG_SOURCE = 2 ∧ σ.rd F.TBS_STATUS_SYNC ≠ 0 then σ.wr F.TBS_STATUS_SYNC syHOLDOVER else σ)) ∧
  (∀ (t : Nat), s.Awake →
    let σ := s.at_ t
    ¬ (σ.hdg.bypassOpen ∨ σ.dev = .off ∨ σ.dev = .sleep ∨ (σ.isRoot = false ∧ σ.isMember = false)) →
    let σ := { σ with hdg.bypassOpen := true }
    Runs (.bypassOpen t) s (if σ.isRoot then σ.startEnum
      else
        let σ := (σ.setHdg 1).wr F.HDG_STAT_NODE (σ.rd F.HDG_RETAIN_RETAINED)
        { σ with hdg.seg := σ.rd F.HDG_RETAIN_RETAINED / 64 }))

/-- Each frame type of the chain is received (authenticated where it must be) and then does what its type says (R383, R390, R391, R393, R396, R397). -/
def Obligations.ChainFramesComplete : Prop :=
  ∀ (s : State),
  (∀ (t : Nat) (up : Bool) (f : HdgFrame), s.Awake →
    Runs (.hdgIdleFrame t up f) s ((s.at_ t).hdgReceive 0 up f (fun _ s => s))) ∧
  (∀ (t : Nat) (up : Bool) (f : HdgFrame), s.Awake →
    Runs (.hdgEnumFrame t up f) s ((s.at_ t).hdgReceive 1 up f (fun f s =>
        if up && s.isMember then
          let d := beAt f.payload 1 1
          let s := if s.rd F.HDG_STAT_STATE = 1 then s else s.setHdg 2
          let s := { s.wr F.HDG_STAT_DEPTH d with hdg.seg := beAt f.payload 0 1 % 32, hdg.isEnd := false, hdg.ackDue := none }
          if 63 ≤ d + 1 then ({ s with hdg.isEnd := true }).enumAck true false
          else if s.hopUp false then s.passEnum
          else { s with hdg.ackDue := some (s.now + us 240) }
        else s))) ∧
  (∀ (t : Nat) (up : Bool) (f : HdgFrame), s.Awake →
    Runs (.hdgEnumAckFrame t up f) s ((s.at_ t).hdgReceive 2 up f (fun f s =>
        if up then s
        else if s.isMember then s.relay false f
        else if s.hdg.enumAt.isNone then s
        else if bitOf f.flags 3 then
          ({ s.setHdg 3 with hdg.enumAt := none, hdg.enumDone := s.now }).trig 720
        else
          let s := { s with hdg.acks := s.hdg.acks ++ [ackOf f] }
          if bitOf f.flags 2 then s.sendTopo else s))) ∧
  (∀ (t : Nat) (up : Bool) (f : HdgFrame), s.Awake →
    Runs (.hdgTopoFrame t up f) s ((s.at_ t).hdgReceive 3 up f (fun f s =>
        if up && s.isMember then
          let n := min 62 (beAt f.payload 0 1)
          let ps := (List.range n).map (fun i => beAt f.payload (1 + i) 1 % 64)
          let s := { s with hdg.topoHeld := true, hdg.topo := ps, hdg.topoAt := s.now }
          let s := s.takePos (ps.getD (s.rd F.HDG_STAT_DEPTH - 1) 0x3F)
          let s := s.relay true f
          if s.hdg.isEnd then ({ s with hdg.isEnd := false }).enumAck false true else s
        else s))) ∧
  (∀ (t : Nat) (up : Bool) (f : HdgFrame), s.Awake →
    Runs (.hdgSyncFrame t up f) s ((s.at_ t).hdgReceive 4 up f (fun f s =>
        if up && s.isMember then
          let src := beAt f.payload 0 8 + beAt f.payload 8 8 + s.rd (F.HDG_HOP_DELAY 0)
          let s : State := { s.wrb F.HDG_STAT_SYNCED true with hdg.lastSync := some s.now }
          let s := if s.rd F.TBS_CFG_SOURCE = 2 then s.measureSource ((src : Int) - s.now) else s
          s.relay true f
        else s))) ∧
  (∀ (t : Nat) (up : Bool) (f : HdgFrame), s.Awake →
    Runs (.hdgDelayReqFrame t up f) s ((s.at_ t).hdgReceive 5 up f (fun _ s => if up then s else { s with hdg.rspDue := some s.now }))) ∧
  (∀ (t : Nat) (up : Bool) (f : HdgFrame), s.Awake →
    Runs (.hdgDelayRspFrame t up f) s ((s.at_ t).hdgReceive 6 up f (fun f s =>
        match s.hdg.delayReq with
        | some t1 =>
          if up then
            { s.wr (F.HDG_HOP_DELAY 0) (((s.now - t1) - (beAt f.payload 8 8 - beAt f.payload 0 8)) / 2) with hdg.delayReq := none }
          else s
        | none => s))) ∧
  (∀ (t : Nat) (up : Bool) (f : HdgFrame), s.Awake →
    Runs (.hdgCommitFrame t up f) s ((s.at_ t).hdgReceive 7 up f (fun f s =>
        if up && s.isMember then
          let u := beAt f.payload 0 8
          let s := (s.relay true f).trig 724
          if s.chainNames && s.dev == .running && s.phase != 2 then
            (if u ≤ s.now then s.commitNow s.now else { s with hdg.commitAt := some u })
          else s
        else s))) ∧
  (∀ (t : Nat) (up : Bool) (f : HdgFrame), s.Awake →
    Runs (.hdgFwdReqFrame t up f) s ((s.at_ t).hdgReceive 8 up f (fun f s =>
        if ms 2550 < beAt f.payload 0 8 then s.fwdTooLong
        else if s.isMine f then s.executeFwd f
        else if s.isForAll f then (s.executeForAll f).passOn up f
        else s.passOn up f))) ∧
  (∀ (t : Nat) (up : Bool) (f : HdgFrame), s.Awake →
    Runs (.hdgFwdRspFrame t up f) s ((s.at_ t).hdgReceive 9 up f (fun f s =>
        if s.isMine f then s.takeRsp f
        else if s.isForOld f then s.lateRsp (beAt f.payload 7 1)
        else if s.isForAll f then (s.takeRsp f).passOn up f
        else s.passOn up f))) ∧
  (∀ (t : Nat) (up : Bool) (f : HdgFrame), s.Awake →
    Runs (.hdgChangeFrame t up f) s ((s.at_ t).hdgReceive 10 up f (fun f s =>
        if up then s else if s.isRoot then (s.trig 723).startEnum else s.relay false f)))

/-- Fault reports, island timeouts, rail disagreements, acknowledgements and fault timers act as the collector's rules say (R488, R489, R496, R501). -/
def Obligations.FaultEventsComplete : Prop :=
  ∀ (s : State),
  (∀ (t : Nat) (code : Nat) (cls : Nat) (obj : Nat) (detail : Nat) (a : Acc) (ty : Nat) (addr : Nat), s.Awake →
    let σ := s.at_ t
    ∀ cs k v1, codeTable.find? (fun r => r.1 == code) = some (v1, cs, k) →
    let c := classOfCode cls
    ¬ (!cs.contains c) →
    let σ := if c = .fatal ∧ persists code = true then σ.addCond code obj else σ
    let σ := σ.raise { code := code, cls := c, kind := σ.codeKind code obj k, acc := if a.master = 0xFF then none else some (a, ty, addr), obj := obj, detail := detail }
    Runs (.faultReport t code cls obj detail a ty addr) s (if code = 0x0105 ∧ a.master ≠ 0xFF ∧ ty ≠ 2 then σ.eccReader a addr else σ)) ∧
  (∀ (t : Nat) (island : Nat) (cls : Nat), s.Awake →
    let σ := s.at_ t
    ¬ (41 < island ∨ 2 < cls ∨ σ.railMasked island = true) →
    Runs (.unrecordedTimeout t island cls) s (if cls = 2 then σ.fatalUnrecorded island
      else σ.raise { code := 0x0C03, cls := classOfCode cls, kind := .system, detail := island })) ∧
  (∀ (t : Nat) (island : Nat), s.Awake →
    let σ := s.at_ t
    ¬ (41 < island ∨ σ.railMasked island = true) →
    let a := if island < 32 then R.FLT_RAIL_LO else R.FLT_RAIL_HI
    let σ := σ.setWord a ((σ.word a) ||| BitVec.ofNat 32 (2 ^ (island % 32)))
    Runs (.railDisagreement t island) s (if island = 8 ∨ island = 4 ∨ 9 ≤ island then
        (σ.addCond 0x0C01 island).raise { code := 0x0C01, cls := .fatal, kind := .system, detail := island }
      else σ.raise { code := 0x0C01, cls := .contained, kind := .system, detail := island })) ∧
  (∀ (t : Nat) (a : Acc) (v h : Nat), s.Stores t a R.FLT_NOTE_ACK = true →
    let σ := s.posted t a R.FLT_NOTE_ACK
    σ.handlerOfAcc a = some h → (σ.flt.queue.get [] h).any (fun n => n.index == v % 4096) = true →
    Runs (.fltNoteAck t a v) s ((σ.dropNote h (v % 4096)).logFlag (v % 4096) 1)) ∧
  (∀ (t : Nat) (h : Nat) (index : Nat), s.Awake →
    let σ := s.at_ t
    ∀ n, (σ.flt.queue.get [] h).find? (fun n => n.index == index) = some n →
    ∀ e, n.timer = some e →
    ¬ (σ.now < e) →
    let σ := σ.modNote h index (fun n => { n with timer := none })
    Runs (.handlingTimerExpiry t h index) s (if h = 0x10 ∨ n.stage1 = true then { σ.logFlag index 4 with flt.react := σ.flt.react ++ [React.escalate] }
      else
        let σ := (σ.modNote h index (fun n => { n with stage1 := true })).logFlag index 2
        σ.resetPart h 4 false)) ∧
  (∀ (t : Nat), s.Awake →
    let σ := s.at_ t
    ∀ e, σ.flt.quietEnd = some e →
    (σ.dev = .fault ∧ e ≤ σ.now ∧ σ.flt.conds = []) →
    Runs (.quietTimerExpiry t) s { σ.sat F.FLT_STAT_RECOVERY 1 with flt.queue := Tab.empty, flt.quietEnd := none, flt.react := σ.flt.react ++ [React.reset 6] }) ∧
  (∀ (t : Nat) (code : Nat) (src : Nat), s.Awake →
    let σ := s.at_ t
    let l := σ.flt.conds.filter (fun c => !(c.code == code && c.src == src))
    ¬ (l = σ.flt.conds) →
    let σ : State := { σ with flt.conds := l }
    Runs (.fatalConditionClear t code src) s (if σ.dev = .fault ∧ l = [] then { σ.wrb F.FLT_STAT_QUIET_HELD false with flt.quietEnd := some (σ.now + σ.quiet) } else σ))

/-- Overlay switches, configuration copies, service sessions and maintenance activities act as their rules say (R514, R517, R510, R513, R521, R519). -/
def Obligations.ConfigMaintEventsComplete : Prop :=
  ∀ (s : State),
  (∀ (t : Nat), s.Awake →
    let σ := s.at_ t
    ∀ p, σ.cfg.switch_ = some p →
    (p.at_ ≤ σ.now + ms 1) →
    Runs (.overlayCutoff t) s { σ with cfg.switch_ := some (σ.closeSet p) }) ∧
  (∀ (t : Nat), s.Awake →
    let σ := s.at_ t
    ∀ p, σ.cfg.switch_ = some p →
    ¬ (σ.now < p.at_) →
    Runs (.overlaySwitchInstant t) s (if p.held then (if σ.rdb F.TBS_STATUS_ALIGN_ALL && decide (σ.now ≤ p.at_ + ms 1) then σ.doSwitch p true else σ)
      else if σ.rdb F.TBS_STATUS_ALIGN_ALL then σ.doSwitch p false
      else { σ with cfg.switch_ := some { σ.closeSet p with held := true } })) ∧
  (∀ (t : Nat), s.Awake →
    let σ := s.at_ t
    ∀ p, σ.cfg.switch_ = some p →
    (p.held ∧ p.at_ + ms 1 ≤ σ.now) →
    let cmds := σ.switchCmds
    Runs (.overlayAlignTimeout t) s (foldS cmds (fun c σ => σ.answer c stTIMEOUT []) σ.clearSwitch)) ∧
  (∀ (t : Nat), s.Awake →
    let σ := s.at_ t
    ((σ.dev = .running ∨ σ.dev = .fault ∨ σ.dev = .coppice ∨ (σ.dev = .starting ∧ σ.boot.stage ≠ .images ∧ σ.boot.stage ≠ .rom)) ∧ σ.cfg.cmpAt + sec 10 ≤ σ.now) →
    Runs (.configCopyCompare t) s σ.compareCopies) ∧
  (∀ (t : Nat), s.Awake →
    let σ := s.at_ t
    ∀ e, σ.cfg.svcEnd = some e →
    (e ≤ σ.now) →
    Runs (.serviceSessionExpiry t) s σ.endSession) ∧
  (∀ (t : Nat) (act : Nat) (failed : List Nat) (trims : List (Nat × Int)), s.Awake →
    let σ := s.at_ t
    ¬ (act = aBUF_AUDIT ∨ act = aSTAGE_COPY ∨ (act = aPROBE ∧ σ.fab.probeList ≠ [])) →
    ∀ m, σ.cfg.mrun.find? (fun m => m.req.act == act) = some m →
    Runs (.maintActivityComplete t act failed trims) s ((((σ.activityEnd m failed trims).endRun act).chainNext m).checkHold)) ∧
  (∀ (t : Nat), s.Awake →
    let σ := s.at_ t
    Runs (.maintWaitLimit t) s (({ σ with cfg.mq := σ.cfg.mq.map (fun (r : MaintReq) => if r.since + sec 1 ≤ σ.now then { r with old := true } else r) }).arbitrate)) ∧
  (∀ (t : Nat), s.Awake →
    let σ := s.at_ t
    (σ.cfg.scrubAt + sec (60 * σ.rd F.CFG_MAINT_CFG_SCRUB_MIN) ≤ σ.now) →
    Runs (.scrubDue t) s (({ σ with cfg.scrubAt := σ.now }).periodicAct aSCRUB)) ∧
  (∀ (t : Nat), s.Awake →
    let σ := s.at_ t
    (σ.cfg.lbistAt + sec (σ.rd F.CFG_MAINT_CFG_LBIST_S) ≤ σ.now) →
    Runs (.lbistDue t) s (({ σ with cfg.lbistAt := σ.now }).periodicAct aLBIST))

/-- Power-on, training, image authentication, boot lock, release, watchdogs and resets act as the start's rules say (R526, R530, R450, R528, R532, R74, R541, R537). -/
def Obligations.BootEventsComplete : Prop :=
  ∀ (s : State),
  (∀ (t : Nat),
    Runs (.powerOnReset t) s (s.startReset 0)) ∧
  (∀ (t : Nat) (ok : Bool), s.Awake →
    let σ := s.at_ t
    (σ.dev = .starting ∧ σ.boot.stage = .loaded) →
    Runs (.dramTrainingComplete t ok) s (if ok then { σ with boot.dram := true } else σ.enterCoppice 4)) ∧
  (∀ (t : Nat), s.Awake →
    let σ := s.at_ t
    ((σ.dev = .starting ∨ σ.dev = .coppice) ∧ σ.boot.stage = .images ∧ σ.boot.copying.isNone = true) →
    let a := σ.areaOk σ.upd.active
    let f := σ.areaOk σ.upd.fallback
    let sm := σ.smisanOk σ.upd.active || σ.smisanOk σ.upd.fallback
    Runs (.imageAuthenticationComplete t) s (if reachesControl (σ.rd F.BOOT_STAT_START_TYPE) = true ∧ sm = false ∧ σ.hwn.spent = false then
        foldS σ.tops (fun x σ => σ.setCmd x 0 false) { σ with boot.stage := .rom }
      else
        let σ := if a then σ else σ.wrb F.BOOT_STAT_FALLBACK (f || !σ.smisanOk σ.upd.active)
        (if a || f || σ.hwn.spent then σ else σ.enterCoppice 1).configStep)) ∧
  (∀ (t : Nat), s.Awake →
    let σ := s.at_ t
    (σ.boot.stage = .loaded ∧ ((σ.dev = .starting ∧ σ.boot.dram = true) ∨ σ.dev = .coppice)) →
    let σ := { (σ.wrb F.BOOT_CTL_BOOT_LOCK true).fabricAtLock with boot.lockAt := σ.now, boot.stage := .locked }.oldAlarms
    Runs (.bootLock t) s (if σ.dev = .coppice then σ.coppiceServing
      else foldS (List.range 17) (fun w σ => σ.wrb (F.MBX_STATUS_SERVING w) (w == 16 || σ.hosting w != 0)) σ)) ∧
  (∀ (t : Nat) (pairs : List (Bool × Bool)), s.Awake →
    let σ := s.at_ t
    (σ.boot.stage = .locked ∧ (σ.dev = .starting ∨ σ.dev = .coppice)) →
    let σ := σ.measure
    let has6 := (mEnts σ.usedArea.manifest).any (fun e => eId e == 6)
    let σ := if σ.dev = .starting ∧ has6 = true then (σ.loadDram 6).wr F.MPC_GW_STAT_SEC_STATE 1 else σ
    let σ := if σ.dev = .starting ∧ σ.hostPart.isSome = true then σ.startNormal else σ
    let σ := if σ.dev = .starting then
        foldS ((List.range 16).filter (fun v => σ.hosting v == 1)) (fun v σ => σ.setPart v (if σ.isHost v then psSTARTING else psHALTED)) σ else σ
    let σ := if σ.rdb F.BOOT_STAT_DARK then σ else foldS (List.range 4) (fun n σ => σ.startSafety n (pairs.getD n (true, true))) σ
    let σ := if σ.dev = .starting then σ.loadProgram else σ
    let σ := if σ.dev = .coppice ∧ σ.upd.reverify = true ∧ σ.rd F.UPD_STAT_STATE = 2 then { σ.setUpd 3 with upd.reverify := false } else σ
    Runs (.imagesReleased t pairs) s { σ with boot.stage := .released, hwn.released := true }) ∧
  (∀ (t : Nat), s.Awake →
    let σ := s.at_ t
    ((σ.dev = .starting ∨ σ.dev = .coppice) ∧ σ.beforeLock = true ∧ σ.tStart + sec 5 ≤ σ.now) →
    Runs (.bootWatchdogExpiry t) s (((if σ.dev = .starting then σ.wr F.BOOT_STAT_FAIL 2 else σ)).startReset 4)) ∧
  (∀ (t : Nat), s.Awake →
    let σ := s.at_ t
    (σ.dev = .starting ∧ σ.boot.stage ≠ .rom ∧ σ.boot.copying.isNone = true ∧ σ.tStart + sec 30 ≤ σ.now ∧
   (σ.boot.stage ≠ .released ∨ σ.allRequired = false)) →
    Runs (.confirmationLimitExpiry t) s ((σ.wr F.BOOT_STAT_FAIL 3).startReset 7)) ∧
  (∀ (t : Nat), s.Awake →
    let σ := s.at_ t
    ¬ (σ.dev = .off ∨ σ.dev = .sleep ∨ σ.boot.copying.isSome = true ∨ σ.boot.stage = .rom) →
    Runs (.privetRestart t) s (if σ.beforeLock then (if σ.dev = .starting ∨ σ.dev = .coppice then ((if σ.dev = .starting then σ.wr F.BOOT_STAT_FAIL 2 else σ)).startReset 4 else σ)
      else σ.privetAgain)) ∧
  (∀ (t : Nat), s.Awake →
    let σ := s.at_ t
    ∀ u ty, σ.boot.rstAt = some (u, ty) →
    (u ≤ σ.now ∧ ty ≠ 8 ∧ σ.dev ≠ .off ∧ σ.dev ≠ .sleep) →
    Runs (.deviceResetInstant t) s (σ.startReset ty)) ∧
  (∀ (t : Nat), s.Awake →
    let σ := s.at_ t
    ∀ u ty, σ.boot.rstAt = some (u, ty) →
    (u ≤ σ.now ∧ ty = 8 ∧ σ.dev = .coppice) →
    Runs (.coppiceExitReset t) s (((σ.wr F.BOOT_STAT_ATTEMPTS 0).wr F.BOOT_STAT_COPPICE_REASON 0).startReset 8))

/-- Verification and copies of an update end as the update's rules say, and the boot ROM serves the update commands in recovery (R552, R553, R554, R558). -/
def Obligations.UpdateEventsComplete : Prop :=
  ∀ (s : State),
  (∀ (t : Nat), s.Awake →
    let σ := s.at_ t
    ¬ (σ.rd F.UPD_STAT_STATE ≠ 3) →
    let ck := Config.cipher 0x70 σ.kekU ((mWrapped σ.upd.manifest).getD [])
    let bad := (((mEnts σ.upd.manifest).filter ePkg).map (fun e => σ.verifyImage ck e)).find? (fun r => r != 0)
    (∀ r, bad = some r → Runs (.updVerificationComplete t) s (σ.endUpd r)) ∧
    (bad = none →
      let σ : State := { σ.setUpd 4 with upd.key := Config.cipher 0x72 σ.kekF ck }
      Runs (.updVerificationComplete t) s (if σ.boot.stage = .rom then σ else σ.requestAct { act := aSTAGE_COPY }))) ∧
  (∀ (t : Nat), s.Awake →
    let σ := s.at_ t
    (σ.running aSTAGE_COPY) →
    let σ := if σ.rd F.UPD_STAT_STATE = 5 then (if σ.upd.dropped then σ.prepared.endUpd 0xE else σ.prepared.setUpd 6) else σ
    Runs (.stageCopyComplete t) s ((σ.endRun aSTAGE_COPY).checkHold)) ∧
  (∀ (t : Nat), s.Awake →
    let σ := s.at_ t
    (σ.boot.copying = some .activate) →
    Runs (.activationCopyComplete t) s (({ σ.activateSet σ.upd.reprep with upd.reprep := false }).startNow)) ∧
  (∀ (t : Nat), s.Awake →
    let σ := s.at_ t
    (σ.boot.copying = some .rollback) →
    Runs (.rollbackCopyComplete t) s ((σ.rolledBack.wr F.BOOT_STAT_ATTEMPTS 0).startNow)) ∧
  (∀ (r : Req) (st : Nat) (pl : List Byte) (u : State), s.Awake → s.boot.stage = .rom → r.len = 0 →
    let c := (s.at_ r.t).cmdOf dUpdStatus.op r
    updStatusBody c (s.at_ r.t) = .done st pl u →
    Runs (.updStatus r) s { u with boot.romRsp := rspBytes dUpdStatus.op r.tag st u.now pl }) ∧
  (∀ (r : Req) (bufs : List Byte) (st : Nat) (pl : List Byte) (u : State), s.Awake → s.boot.stage = .rom → r.len = 32 →
    let c := (s.at_ r.t).cmdOf dUpdBegin.op r
    updBegin (bufs.take (c.dSize 0)) (slice bufs (c.dSize 0) (c.dSize 1)) c (s.at_ r.t) = .done st pl u →
    Runs (.updBegin r bufs) s { u with boot.romRsp := rspBytes dUpdBegin.op r.tag st u.now pl }) ∧
  (∀ (r : Req) (bufs : List Byte) (st : Nat) (pl : List Byte) (u : State), s.Awake → s.boot.stage = .rom → r.len = 32 →
    let c := (s.at_ r.t).cmdOf dUpdChunk.op r
    updChunk (bufs.take (c.dSize 0)) (slice bufs (c.dSize 0) (c.dSize 1)) c (s.at_ r.t) = .done st pl u →
    Runs (.updChunk r bufs) s { u with boot.romRsp := rspBytes dUpdChunk.op r.tag st u.now pl }) ∧
  (∀ (r : Req) (st : Nat) (pl : List Byte) (u : State), s.Awake → s.boot.stage = .rom → r.len = 0 →
    let c := (s.at_ r.t).cmdOf dUpdVerify.op r
    updVerifyBody c (s.at_ r.t) = .done st pl u →
    Runs (.updVerify r) s { u with boot.romRsp := rspBytes dUpdVerify.op r.tag st u.now pl }) ∧
  (∀ (r : Req) (st : Nat) (pl : List Byte) (u : State), s.Awake → s.boot.stage = .rom → r.len = 0 →
    let c := (s.at_ r.t).cmdOf dUpdActivate.op r
    updActivateBody c (s.at_ r.t) = .done st pl u →
    Runs (.updActivate r) s { u with boot.romRsp := rspBytes dUpdActivate.op r.tag st u.now pl })

/-- The invariant holds after every step from a state that has it, and every step takes exactly the front command (the
canonical form and the reactions' order are the model's choices: assumptions 2 and 106). -/
def Obligations.EveryStepKeepsInvariant : Prop :=
  ∀ s : State, s.Inv → ∃ u : State, step s = .next u ∧ u.Inv ∧ u.pending = s.pending.tail

/-- The invariant holds at reset. -/
def Obligations.InvariantAtReset : Prop := State.reset.Inv

/-- What reset leaves (that memory reads 0 is the model's choice, assumption 2). -/
def Obligations.ResetValues : Prop :=
  (∀ a, State.reset.word a = resetWord a) ∧
  (∀ w, w < 16 → State.reset.rd (F.MBX_ID_WINDOW w) = w ∧ State.reset.rd (F.MBX_ID_SECURE w) = 0 ∧ State.reset.rd (F.MBX_ID_MAXFLIGHT w) = 64) ∧
  (State.reset.rd (F.MBX_ID_WINDOW 16) = 16 ∧ State.reset.rd (F.MBX_ID_SECURE 16) = 1 ∧ State.reset.rd (F.MBX_ID_MAXFLIGHT 16) = 64) ∧
  (∀ b, State.reset.irqMaskOf b = 0x10) ∧
  (∀ n, n < 512 → State.reset.rd (F.PFB_CELL_CFG0_ILIM n) = 8 ∧ State.reset.rd (F.PFB_CELL_CFG0_OC_BLANK n) = 4 ∧
    State.reset.rd (F.PFB_CELL_CFG0_RETRIES n) = 3) ∧
  (State.reset.rd F.FLT_CFG_HTIMER = 100 ∧ State.reset.rd F.FLT_CFG_QUIET = 50) ∧
  (∀ c, c < 16 → (State.reset.rd (F.CAN_NBT_NBRP c) + 1) *
    (1 + (State.reset.rd (F.CAN_NBT_NTSEG1 c) + 1) + (State.reset.rd (F.CAN_NBT_NTSEG2 c) + 1)) = 160) ∧
  (∀ w, w ≤ 16 → State.reset.rdb (F.MBX_CTL_ENABLE w) = false) ∧
  State.reset.dev = .starting ∧ State.reset.mbx.cmds = [] ∧ State.reset.pending = [] ∧ ∀ a, State.reset.byte a = 0

/-- Pending, active and delivered sources (R38). -/
def Obligations.InterruptPendingRules : Prop :=
  ∀ (s : State) (t n : Nat) (a : Acc), (s.at_ t).Calm →
  (s.Awake → reservedSource n = false → levelSource n = false →
    ∃ u, exec (.irqSourceTrigger t n true) s = .next u ∧ u.irqPending n = true ∧ (∀ m, m ≠ n → u.irqPending m = s.irqPending m) ∧
      u.irq.active = s.irq.active) ∧
  (levelSource n = false → s.Loads t a R.IRQ_CLAIM_POP = true → a.dev = false → (s.polled t).irqHead (s.accBank a) = some n →
    ∃ u, exec (.irqClaimPop t a) s = .next u ∧ u.irqPending n = false ∧ u.irq.active.get false n = true) ∧
  (levelSource n = true → (s.irqPending n = true ↔ s.irqLevel n = true ∧ s.irq.active.get false n = false)) ∧
  (s.irq.active.get false n = true → ∀ b, s.irqDeliverable b n = false) ∧
  (s.Stores t a R.IRQ_EOI = true → n < 1024 → a.dev = false → s.irq.active.get false n = true →
    ((s.irqMine (s.accBank a) n = true → ∃ u, exec (.irqEoi t a n) s = .next u ∧ u.irq.active.get false n = false) ∧
     (s.irqMine (s.accBank a) n = false → ∃ u, exec (.irqEoi t a n) s = .next u ∧ u.irq.active = s.irq.active)))

/-- The index rules of a window (R51). -/
def Obligations.MailboxIndexRules : Prop :=
  ∀ (s : State) (t : Nat) (a : Acc) (w v : Nat), w ≤ 16 → v < 2 ^ 32 → (s.at_ t).Calm →
  (s.rd (F.MBX_REQ_PROD_PROD w) < 2 ^ 16 ∧ s.rd (F.MBX_REQ_CONS_CONS w) < 2 ^ 16 ∧ s.rd (F.MBX_RSP_PROD_PROD w) < 2 ^ 16 ∧
    s.rd (F.MBX_RSP_CONS_CONS w) < 2 ^ 16) ∧
  (s.Stores t a (R.MBX_REQ_PROD w) = true →
    ∃ u, exec (.mbxReqProdWrite t a w v) s = .next u ∧
      (∀ b, b ≠ R.MBX_REQ_PROD w → b ≠ R.MBX_ERR w → u.word b = s.word b) ∧
      (((s.rd (F.MBX_REQ_PROD_PROD w) + 2 ^ 16 - s.rd (F.MBX_REQ_CONS_CONS w)) % 2 ^ 16 ≤
          (v % 2 ^ 16 + 2 ^ 16 - s.rd (F.MBX_REQ_CONS_CONS w)) % 2 ^ 16 ∧
        (v % 2 ^ 16 + 2 ^ 16 - s.rd (F.MBX_REQ_CONS_CONS w)) % 2 ^ 16 ≤ 64 →
          u.rd (F.MBX_REQ_PROD_PROD w) = v % 2 ^ 16 ∧ u.word (R.MBX_ERR w) = s.word (R.MBX_ERR w)) ∧
      (((v % 2 ^ 16 + 2 ^ 16 - s.rd (F.MBX_REQ_CONS_CONS w)) % 2 ^ 16 <
          (s.rd (F.MBX_REQ_PROD_PROD w) + 2 ^ 16 - s.rd (F.MBX_REQ_CONS_CONS w)) % 2 ^ 16 ∨
        64 < (v % 2 ^ 16 + 2 ^ 16 - s.rd (F.MBX_REQ_CONS_CONS w)) % 2 ^ 16) →
          u.rd (F.MBX_REQ_PROD_PROD w) = s.rd (F.MBX_REQ_PROD_PROD w) ∧ u.rdb (F.MBX_ERR_PROD_JUMP w) = true))) ∧
  (s.Stores t a (R.MBX_RSP_CONS w) = true →
    ∃ u, exec (.mbxRspConsWrite t a w v) s = .next u ∧
      (∀ b, b ≠ R.MBX_RSP_CONS w → b ≠ R.MBX_ERR w → u.word b = s.word b) ∧
      ((v % 2 ^ 16 + 2 ^ 16 - s.rd (F.MBX_RSP_CONS_CONS w)) % 2 ^ 16 ≤
          (s.rd (F.MBX_RSP_PROD_PROD w) + 2 ^ 16 - s.rd (F.MBX_RSP_CONS_CONS w)) % 2 ^ 16 →
          u.rd (F.MBX_RSP_CONS_CONS w) = v % 2 ^ 16 ∧ u.word (R.MBX_ERR w) = s.word (R.MBX_ERR w)) ∧
      ((s.rd (F.MBX_RSP_PROD_PROD w) + 2 ^ 16 - s.rd (F.MBX_RSP_CONS_CONS w)) % 2 ^ 16 <
          (v % 2 ^ 16 + 2 ^ 16 - s.rd (F.MBX_RSP_CONS_CONS w)) % 2 ^ 16 →
          u.rd (F.MBX_RSP_CONS_CONS w) = s.rd (F.MBX_RSP_CONS_CONS w) ∧ u.rdb (F.MBX_ERR_CONS_JUMP w) = true)) ∧
  (∀ i d r, request i = some (d, r) → r.win = w → r.t = t → s.boot.stage ≠ .rom →
    64 ≤ (s.rd (F.MBX_REQ_CONS_CONS w) + 2 ^ 16 - s.rd (F.MBX_RSP_CONS_CONS w)) % 2 ^ 16 → exec i s = .next (s.at_ t)) ∧
  (s.canTake w = true → s.rd (F.MBX_REQ_CONS_CONS w) = (s.rd (F.MBX_RSP_PROD_PROD w) + s.rd (F.MBX_STATUS_INFLIGHT w)) % 2 ^ 16 →
    ((s.rd (F.MBX_RSP_PROD_PROD w) + s.rd (F.MBX_STATUS_INFLIGHT w)) % 2 ^ 16 + 2 ^ 16 - s.rd (F.MBX_RSP_CONS_CONS w)) % 2 ^ 16 + 1 ≤ 64)

/-- The deadline of a forwarded command, and responses that arrive after it (R72). -/
def Obligations.LateResponses : Prop :=
  ∀ (s : State) (t t' w tag : Nat) (c : Cmd), s.Awake → (s.at_ t).Calm → Memory.wf s.mem = true → w ≤ 16 →
    s.inFlight 0xFFFF w tag = some c → c.phase = .forwarded → (s.at_ t).expired c = true →
    ∃ u, exec (.forwardDeadlineExpiry t w tag) s = .next u ∧ u.inFlight 0xFFFF w tag = none ∧
      u.load (s.rspSlot w) 64 = rspBytes c.op tag 0x0206 u.now [] ∧
      u.rd (F.MBX_RSP_PROD_PROD w) = (s.rd (F.MBX_RSP_PROD_PROD w) + 1) % 2 ^ 16 ∧
      ∀ st done pl, ∃ v, exec (.forwardedResponseArrival t' w tag st done pl) u = .next v ∧
        v = { u.at_ t' with regs := v.regs } ∧ v.rdb (F.MBX_ERR_LATE_RSP w) = true ∧
        v.rd (F.MBX_LATE_CNT_LATE w) = min (u.rd (F.MBX_LATE_CNT_LATE w) + 1) 0xFFFF ∧
        ∀ b, b ≠ R.MBX_ERR w → b ≠ R.MBX_LATE_CNT w → v.word b = u.word b

/-- The frame of a memory store. -/
def Obligations.StoreWritesExactlyItsBytes : Prop :=
  ∀ (s : State) (t : Nat) (a : Acc) (addr len : Nat) (data : List Byte), (s.at_ t).silent a = false → (s.at_ t).Calm → Memory.wf s.mem = true →
    data.length = len → (s.at_ t).bufRoom a addr = true → (s.at_ t).accVerdict a .store addr len = .ok → inPeri addr = false →
    (s.at_ t).stalls a addr len = false →
    ∃ u, exec (.memoryAccess t a .store addr len data) s = .next u ∧
      u = { s.at_ t with mem := u.mem, bus := .none, regs := u.regs, prt := u.prt, brg := u.brg, free := u.free } ∧
      (∀ i, i < len → u.byte (addr + i) = data.getD i 0) ∧
      (∀ x, x < addr ∨ addr + len ≤ x → u.byte x = s.byte x) ∧
      (∀ b, (∀ v, v < 16 → b ≠ R.MPC_PART_RSTAT v) → u.word b = s.word b) ∧
      (s.cached a addr = false → (16 ≤ accWho a ∨ inDram addr = false) → u.regs = s.regs ∧ u.prt = s.prt) ∧
      (s.cached a addr = false → ∀ b, b ≠ R.MPC_PART_RSTAT (accWho a) → u.word b = s.word b)

/-- What does not reach a sleeping module. -/
def Obligations.SleepingBlockIgnoresCommands : Prop :=
  ∀ (i : Instr) (s : State), s.asleep = true → actsAsleep i = false → ∃ t, exec i s = .next (s.at_ t)

/-- Refusals in steps 2 to 6 (R66). -/
def Obligations.RefusedRequestHasNoEffect : Prop :=
  ∀ (s : State) (i : Instr) (d : CmdDef) (r : Req) (c : Cmd) (e : Nat), request i = some (d, r) → s.Awake → s.boot.stage ≠ .rom → (s.at_ r.t).Calm →
    Memory.wf s.mem = true → (s.at_ r.t).canTake r.win = true → (s.at_ r.t).slotHolds d.op r = true → c = (s.taken r).cmdOf d.op r → (s.taken r).headCheck d c = e → e ≠ 0 →
    (∃ u, exec i s = .next u ∧
      u = { s.at_ r.t with mem := u.mem, regs := u.regs, prt := u.prt, mbx.stat := u.mbx.stat, mbx.owed := u.mbx.owed } ∧
      u.mbx.owed = ((s.at_ r.t).turn r.win).mbx.owed ∧
      u.load (s.rspSlot r.win) 64 = rspBytes d.op r.tag e u.now [] ∧
      (∀ x, x < s.rspSlot r.win ∨ s.rspSlot r.win + 64 ≤ x → u.byte x = s.byte x) ∧
      u.rd (F.MBX_REQ_CONS_CONS r.win) = (s.rd (F.MBX_REQ_CONS_CONS r.win) + 1) % 2 ^ 16 ∧
      u.rd (F.MBX_RSP_PROD_PROD r.win) = (s.rd (F.MBX_RSP_PROD_PROD r.win) + 1) % 2 ^ 16 ∧
      (∀ b, b ≠ R.MBX_REQ_CONS r.win → b ≠ R.MBX_RSP_PROD r.win → b ≠ R.MBX_STATUS r.win → b ≠ R.MPC_PART_RSTAT r.win → u.word b = s.word b) ∧
      ((inDram (s.reqSlot r.win) = false ∧ inDram (s.rspSlot r.win) = false) → u.prt = s.prt)) ∧
    ((r.rsvd ≠ 0 ∨ bitsOf r.flags 3 5 ≠ 0 ∨ bitsOf r.flags 16 16 ≠ 0 ∨ s.mbx.cmds.any (fun x => c.same x) = true) → e = 0x0103) ∧
    (r.rsvd = 0 → bitsOf r.flags 3 5 = 0 → bitsOf r.flags 16 16 = 0 → s.mbx.cmds.any (fun x => c.same x) = false →
      (48 < r.len → e = 0x0102) ∧
      (r.len ≤ 48 → c.desc = false → d.lens r.len = true →
        (s.dev = .coppice → (d.coppice = false ∨ s.isLocal r.target = false) → e = 0x0402) ∧
        (s.dev ≠ .coppice → s.isLocal r.target = false → 2 ^ 11 ≤ r.target → e = 0x0103)))

/-- Reads have no effect (R13), but on the reading requester's own holding copy (R11). -/
def Obligations.ReadsChangeNothing : Prop :=
  ∀ (s : State) (t : Nat) (a : Acc) (addr : Nat) (data : List Byte), (s.at_ t).Calm → s.Loads t a addr = true → isPop addr = false → addr ≠ R.UPD_STAT →
    ∃ u, exec (.memoryAccess t a .load addr 4 data) s = .next u ∧
      u = { s.at_ t with bus := u.bus, hold := u.hold } ∧
      (∀ k, k ≠ holdKey a addr → u.hold.get 0 k = s.hold.get 0 k) ∧
      (isLow addr = false → u.hold = s.hold) ∧
      (isLow addr = true → u.bus = .data ((s.polled t).regValue a addr) ∧
        u.hold.get 0 (holdKey a addr) = BitVec.ofNat 32 ((s.polled t).regValue a (addr + 4))) ∧
      (isLow addr = false → isLow (addr - 4) = false → u.bus = .data ((s.polled t).regValue a addr))

/-- A write by the access types (R12). -/
def Obligations.PlainRegisterWrite : Prop :=
  ∀ (s : State) (t : Nat) (a : Acc) (addr v : Nat) (r : RegRow), v < 2 ^ 32 → s.Stores t a addr = true → regRow addr = some r →
    ((inControl addr = true ∧ addr ≠ R.BOOT_CTL) ∨ ∃ w, w ≤ 16 ∧ addr = R.MBX_ERR w) → r.rwl = 0 → r.staged = 0 →
    ∃ u, Runs (.registerWrite t a addr v) s u ∧ u = { s.posted t a addr with regs := u.regs } ∧
      (∀ b, b ≠ addr → u.word b = s.word b) ∧
      ∀ i, i < 32 → (u.word addr).getLsbD i =
        if r.w1c.testBit i && v.testBit i then false
        else if r.rw.testBit i && ((s.posted t a addr).regStopped addr || !r.locked.testBit i) then v.testBit i && !(hardZero addr).getLsbD i
        else (s.word addr).getLsbD i
end

