-- ==== Sys2Proof/Laws/State.lean ====
section
/-!
SUPPORT. Laws/State.lean: what the named updates of the state leave as it is, one lemma per field and update, and what
reading a register, a field or a table gives after a write.
-/
namespace Sys2Proof

/-! ## Tables -/

theorem lookupD_insertK_self {α : Type} (d : α) (k : Nat) (v : α) : ∀ l : List (Nat × α), lookupD d k (insertK k v l) = v
  | [] => by simp [insertK, lookupD]
  | (a, b) :: l => by
    unfold insertK
    by_cases h1 : k < a
    · simp [h1, lookupD]
    · by_cases h2 : k = a
      · simp [h2, lookupD]
      · have h3 : ¬ a = k := fun h => h2 h.symm
        simp [h1, h2, h3, lookupD, lookupD_insertK_self d k v l]

theorem lookupD_insertK_ne {α : Type} (d : α) {k j : Nat} (v : α) (h : j ≠ k) : ∀ l : List (Nat × α), lookupD d j (insertK k v l) = lookupD d j l
  | [] => by simp [insertK, lookupD, Ne.symm h]
  | (a, b) :: l => by
    unfold insertK
    by_cases h1 : k < a
    · simp [h1, lookupD, Ne.symm h]
    · by_cases h2 : k = a
      · subst h2; simp [lookupD, Ne.symm h]
      · simp only [h1, h2, if_false, lookupD, lookupD_insertK_ne d v h l]

@[simp] theorem Tab.get_set_self {α : Type} (t : Tab α) (d : α) (k : Nat) (v : α) : (t.set k v).get d k = v :=
  lookupD_insertK_self d k v t.cells

theorem Tab.get_set_ne {α : Type} (t : Tab α) (d : α) {k j : Nat} (v : α) (h : j ≠ k) : (t.set k v).get d j = t.get d j :=
  lookupD_insertK_ne d v h t.cells

/-! ## Fields of words -/

theorem Word.getLsbD_withField (w : Word) (lo len v i : Nat) :
    (w.withField lo len v).getLsbD i = if lo ≤ i ∧ i < lo + len ∧ i < 32 then v.testBit (i - lo) else w.getLsbD i := by
  unfold Word.withField
  simp only [BitVec.getLsbD_or, BitVec.getLsbD_and, BitVec.getLsbD_not, BitVec.getLsbD_ofNat, Nat.testBit_shiftLeft,
    Nat.testBit_two_pow_sub_one, Nat.testBit_mod_two_pow]
  by_cases h : i < 32
  · by_cases h1 : lo ≤ i
    · by_cases h2 : i < lo + len
      · have h3 : i - lo < len := by omega
        simp [h, h1, h2, h3]
      · have h3 : ¬ i - lo < len := by omega
        simp [h, h1, h2, h3]
    · simp [h, h1]
  · simp [h, BitVec.getLsbD_of_ge w i (by omega)]

theorem Word.testBit_field (w : Word) (lo len i : Nat) : (w.field lo len).testBit i = (decide (i < len) && w.getLsbD (lo + i)) := by
  simp [Word.field, Nat.testBit_mod_two_pow, BitVec.testBit_toNat]

/-- The field that a write set. -/
theorem Word.field_withField_self (w : Word) {lo len : Nat} (v : Nat) (h : lo + len ≤ 32) :
    (w.withField lo len v).field lo len = v % 2 ^ len := by
  apply Nat.eq_of_testBit_eq
  intro i
  rw [Word.testBit_field, Word.getLsbD_withField, Nat.testBit_mod_two_pow]
  by_cases hi : i < len
  · rw [if_pos ⟨by omega, by omega, by omega⟩]; simp [hi]
  · simp [hi]

/-- A field beside the one that a write set. -/
theorem Word.field_withField_disjoint (w : Word) {lo len lo' len' : Nat} (v : Nat) (h : lo + len ≤ lo' ∨ lo' + len' ≤ lo) :
    (w.withField lo len v).field lo' len' = w.field lo' len' := by
  apply Nat.eq_of_testBit_eq
  intro i
  rw [Word.testBit_field, Word.testBit_field, Word.getLsbD_withField]
  by_cases hi : i < len'
  · rw [if_neg (by omega)]
  · simp [hi]

theorem Word.field_lt (w : Word) (lo len : Nat) : w.field lo len < 2 ^ len := Nat.mod_lt _ (Nat.two_pow_pos len)

end Sys2Proof

namespace Sys2Proof.Machine

/-! ## Registers -/

@[simp] theorem State.word_setWord_self (s : State) (a : Nat) (w : Word) : (s.setWord a w).word a = w := Tab.get_set_self ..

theorem State.word_setWord_ne (s : State) {a b : Nat} (w : Word) (h : b ≠ a) : (s.setWord a w).word b = s.word b := Tab.get_set_ne _ _ _ h

theorem State.word_wr_ne (s : State) (f : Fld) (v : Nat) {b : Nat} (h : b ≠ f.reg) : (s.wr f v).word b = s.word b := State.word_setWord_ne s _ h

/-- The field that a write set. -/
theorem State.rd_wr_self (s : State) (f : Fld) (v : Nat) (h : f.lo + f.len ≤ 32) : (s.wr f v).rd f = v % 2 ^ f.len := by
  simp [State.wr, State.rd, Word.field_withField_self _ _ h]

/-- A field of another register. -/
theorem State.rd_wr_reg (s : State) {f g : Fld} (v : Nat) (h : g.reg ≠ f.reg) : (s.wr f v).rd g = s.rd g := by
  simp [State.rd, State.word_wr_ne s f v h]

/-- Another field of the same register. -/
theorem State.rd_wr_disjoint (s : State) {f g : Fld} (v : Nat) (h : f.lo + f.len ≤ g.lo ∨ g.lo + g.len ≤ f.lo) :
    (s.wr f v).rd g = s.rd g := by
  by_cases hr : g.reg = f.reg
  · simp [State.rd, State.wr, hr, Word.field_withField_disjoint _ _ h]
  · exact State.rd_wr_reg s v hr

theorem State.rd_lt (s : State) (f : Fld) : s.rd f < 2 ^ f.len := Word.field_lt ..

/-! ## What the named updates leave -/

@[simp] theorem State.at__regs (s : State) (t : Nat) : (s.at_ t).regs = s.regs := rfl
@[simp] theorem State.at__hold (s : State) (t : Nat) : (s.at_ t).hold = s.hold := rfl
@[simp] theorem State.at__mem (s : State) (t : Nat) : (s.at_ t).mem = s.mem := rfl
@[simp] theorem State.at__bus (s : State) (t : Nat) : (s.at_ t).bus = s.bus := rfl
@[simp] theorem State.at__free (s : State) (t : Nat) : (s.at_ t).free = s.free := rfl
@[simp] theorem State.at__tb (s : State) (t : Nat) : (s.at_ t).tb = s.tb := rfl
@[simp] theorem State.at__irq (s : State) (t : Nat) : (s.at_ t).irq = s.irq := rfl
@[simp] theorem State.at__dev (s : State) (t : Nat) : (s.at_ t).dev = s.dev := rfl
@[simp] theorem State.at__devSince (s : State) (t : Nat) : (s.at_ t).devSince = s.devSince := rfl
@[simp] theorem State.at__own (s : State) (t : Nat) : (s.at_ t).own = s.own := rfl
@[simp] theorem State.at__mbx (s : State) (t : Nat) : (s.at_ t).mbx = s.mbx := rfl
@[simp] theorem State.at__fab (s : State) (t : Nat) : (s.at_ t).fab = s.fab := rfl
@[simp] theorem State.at__cyc (s : State) (t : Nat) : (s.at_ t).cyc = s.cyc := rfl
@[simp] theorem State.at__swc (s : State) (t : Nat) : (s.at_ t).swc = s.swc := rfl
@[simp] theorem State.at__tsn (s : State) (t : Nat) : (s.at_ t).tsn = s.tsn := rfl
@[simp] theorem State.at__can (s : State) (t : Nat) : (s.at_ t).can = s.can := rfl
@[simp] theorem State.at__lin (s : State) (t : Nat) : (s.at_ t).lin = s.lin := rfl
@[simp] theorem State.at__gwy (s : State) (t : Nat) : (s.at_ t).gwy = s.gwy := rfl
@[simp] theorem State.at__brg (s : State) (t : Nat) : (s.at_ t).brg = s.brg := rfl
@[simp] theorem State.at__slp (s : State) (t : Nat) : (s.at_ t).slp = s.slp := rfl
@[simp] theorem State.at__hdg (s : State) (t : Nat) : (s.at_ t).hdg = s.hdg := rfl
@[simp] theorem State.at__prt (s : State) (t : Nat) : (s.at_ t).prt = s.prt := rfl
@[simp] theorem State.at__pairs (s : State) (t : Nat) : (s.at_ t).pairs = s.pairs := rfl
@[simp] theorem State.at__hwn (s : State) (t : Nat) : (s.at_ t).hwn = s.hwn := rfl
@[simp] theorem State.at__flt (s : State) (t : Nat) : (s.at_ t).flt = s.flt := rfl
@[simp] theorem State.at__cfg (s : State) (t : Nat) : (s.at_ t).cfg = s.cfg := rfl
@[simp] theorem State.at__boot (s : State) (t : Nat) : (s.at_ t).boot = s.boot := rfl
@[simp] theorem State.at__upd (s : State) (t : Nat) : (s.at_ t).upd = s.upd := rfl
@[simp] theorem State.at__sup (s : State) (t : Nat) : (s.at_ t).sup = s.sup := rfl
@[simp] theorem State.at__pending (s : State) (t : Nat) : (s.at_ t).pending = s.pending := rfl

@[simp] theorem State.setWord_now (s : State) (a : Nat) (w : Word) : (s.setWord a w).now = s.now := rfl
@[simp] theorem State.setWord_hold (s : State) (a : Nat) (w : Word) : (s.setWord a w).hold = s.hold := rfl
@[simp] theorem State.setWord_mem (s : State) (a : Nat) (w : Word) : (s.setWord a w).mem = s.mem := rfl
@[simp] theorem State.setWord_bus (s : State) (a : Nat) (w : Word) : (s.setWord a w).bus = s.bus := rfl
@[simp] theorem State.setWord_free (s : State) (a : Nat) (w : Word) : (s.setWord a w).free = s.free := rfl
@[simp] theorem State.setWord_tb (s : State) (a : Nat) (w : Word) : (s.setWord a w).tb = s.tb := rfl
@[simp] theorem State.setWord_irq (s : State) (a : Nat) (w : Word) : (s.setWord a w).irq = s.irq := rfl
@[simp] theorem State.setWord_dev (s : State) (a : Nat) (w : Word) : (s.setWord a w).dev = s.dev := rfl
@[simp] theorem State.setWord_devSince (s : State) (a : Nat) (w : Word) : (s.setWord a w).devSince = s.devSince := rfl
@[simp] theorem State.setWord_own (s : State) (a : Nat) (w : Word) : (s.setWord a w).own = s.own := rfl
@[simp] theorem State.setWord_mbx (s : State) (a : Nat) (w : Word) : (s.setWord a w).mbx = s.mbx := rfl
@[simp] theorem State.setWord_fab (s : State) (a : Nat) (w : Word) : (s.setWord a w).fab = s.fab := rfl
@[simp] theorem State.setWord_cyc (s : State) (a : Nat) (w : Word) : (s.setWord a w).cyc = s.cyc := rfl
@[simp] theorem State.setWord_swc (s : State) (a : Nat) (w : Word) : (s.setWord a w).swc = s.swc := rfl
@[simp] theorem State.setWord_tsn (s : State) (a : Nat) (w : Word) : (s.setWord a w).tsn = s.tsn := rfl
@[simp] theorem State.setWord_can (s : State) (a : Nat) (w : Word) : (s.setWord a w).can = s.can := rfl
@[simp] theorem State.setWord_lin (s : State) (a : Nat) (w : Word) : (s.setWord a w).lin = s.lin := rfl
@[simp] theorem State.setWord_gwy (s : State) (a : Nat) (w : Word) : (s.setWord a w).gwy = s.gwy := rfl
@[simp] theorem State.setWord_brg (s : State) (a : Nat) (w : Word) : (s.setWord a w).brg = s.brg := rfl
@[simp] theorem State.setWord_slp (s : State) (a : Nat) (w : Word) : (s.setWord a w).slp = s.slp := rfl
@[simp] theorem State.setWord_hdg (s : State) (a : Nat) (w : Word) : (s.setWord a w).hdg = s.hdg := rfl
@[simp] theorem State.setWord_prt (s : State) (a : Nat) (w : Word) : (s.setWord a w).prt = s.prt := rfl
@[simp] theorem State.setWord_pairs (s : State) (a : Nat) (w : Word) : (s.setWord a w).pairs = s.pairs := rfl
@[simp] theorem State.setWord_hwn (s : State) (a : Nat) (w : Word) : (s.setWord a w).hwn = s.hwn := rfl
@[simp] theorem State.setWord_flt (s : State) (a : Nat) (w : Word) : (s.setWord a w).flt = s.flt := rfl
@[simp] theorem State.setWord_cfg (s : State) (a : Nat) (w : Word) : (s.setWord a w).cfg = s.cfg := rfl
@[simp] theorem State.setWord_boot (s : State) (a : Nat) (w : Word) : (s.setWord a w).boot = s.boot := rfl
@[simp] theorem State.setWord_upd (s : State) (a : Nat) (w : Word) : (s.setWord a w).upd = s.upd := rfl
@[simp] theorem State.setWord_sup (s : State) (a : Nat) (w : Word) : (s.setWord a w).sup = s.sup := rfl
@[simp] theorem State.setWord_pending (s : State) (a : Nat) (w : Word) : (s.setWord a w).pending = s.pending := rfl

@[simp] theorem State.wr_now (s : State) (f : Fld) (v : Nat) : (s.wr f v).now = s.now := rfl
@[simp] theorem State.wr_hold (s : State) (f : Fld) (v : Nat) : (s.wr f v).hold = s.hold := rfl
@[simp] theorem State.wr_mem (s : State) (f : Fld) (v : Nat) : (s.wr f v).mem = s.mem := rfl
@[simp] theorem State.wr_bus (s : State) (f : Fld) (v : Nat) : (s.wr f v).bus = s.bus := rfl
@[simp] theorem State.wr_free (s : State) (f : Fld) (v : Nat) : (s.wr f v).free = s.free := rfl
@[simp] theorem State.wr_tb (s : State) (f : Fld) (v : Nat) : (s.wr f v).tb = s.tb := rfl
@[simp] theorem State.wr_irq (s : State) (f : Fld) (v : Nat) : (s.wr f v).irq = s.irq := rfl
@[simp] theorem State.wr_dev (s : State) (f : Fld) (v : Nat) : (s.wr f v).dev = s.dev := rfl
@[simp] theorem State.wr_devSince (s : State) (f : Fld) (v : Nat) : (s.wr f v).devSince = s.devSince := rfl
@[simp] theorem State.wr_own (s : State) (f : Fld) (v : Nat) : (s.wr f v).own = s.own := rfl
@[simp] theorem State.wr_mbx (s : State) (f : Fld) (v : Nat) : (s.wr f v).mbx = s.mbx := rfl
@[simp] theorem State.wr_fab (s : State) (f : Fld) (v : Nat) : (s.wr f v).fab = s.fab := rfl
@[simp] theorem State.wr_cyc (s : State) (f : Fld) (v : Nat) : (s.wr f v).cyc = s.cyc := rfl
@[simp] theorem State.wr_swc (s : State) (f : Fld) (v : Nat) : (s.wr f v).swc = s.swc := rfl
@[simp] theorem State.wr_tsn (s : State) (f : Fld) (v : Nat) : (s.wr f v).tsn = s.tsn := rfl
@[simp] theorem State.wr_can (s : State) (f : Fld) (v : Nat) : (s.wr f v).can = s.can := rfl
@[simp] theorem State.wr_lin (s : State) (f : Fld) (v : Nat) : (s.wr f v).lin = s.lin := rfl
@[simp] theorem State.wr_gwy (s : State) (f : Fld) (v : Nat) : (s.wr f v).gwy = s.gwy := rfl
@[simp] theorem State.wr_brg (s : State) (f : Fld) (v : Nat) : (s.wr f v).brg = s.brg := rfl
@[simp] theorem State.wr_slp (s : State) (f : Fld) (v : Nat) : (s.wr f v).slp = s.slp := rfl
@[simp] theorem State.wr_hdg (s : State) (f : Fld) (v : Nat) : (s.wr f v).hdg = s.hdg := rfl
@[simp] theorem State.wr_prt (s : State) (f : Fld) (v : Nat) : (s.wr f v).prt = s.prt := rfl
@[simp] theorem State.wr_pairs (s : State) (f : Fld) (v : Nat) : (s.wr f v).pairs = s.pairs := rfl
@[simp] theorem State.wr_hwn (s : State) (f : Fld) (v : Nat) : (s.wr f v).hwn = s.hwn := rfl
@[simp] theorem State.wr_flt (s : State) (f : Fld) (v : Nat) : (s.wr f v).flt = s.flt := rfl
@[simp] theorem State.wr_cfg (s : State) (f : Fld) (v : Nat) : (s.wr f v).cfg = s.cfg := rfl
@[simp] theorem State.wr_boot (s : State) (f : Fld) (v : Nat) : (s.wr f v).boot = s.boot := rfl
@[simp] theorem State.wr_upd (s : State) (f : Fld) (v : Nat) : (s.wr f v).upd = s.upd := rfl
@[simp] theorem State.wr_sup (s : State) (f : Fld) (v : Nat) : (s.wr f v).sup = s.sup := rfl
@[simp] theorem State.wr_pending (s : State) (f : Fld) (v : Nat) : (s.wr f v).pending = s.pending := rfl

@[simp] theorem State.wrb_now (s : State) (f : Fld) (b : Bool) : (s.wrb f b).now = s.now := rfl
@[simp] theorem State.wrb_hold (s : State) (f : Fld) (b : Bool) : (s.wrb f b).hold = s.hold := rfl
@[simp] theorem State.wrb_mem (s : State) (f : Fld) (b : Bool) : (s.wrb f b).mem = s.mem := rfl
@[simp] theorem State.wrb_bus (s : State) (f : Fld) (b : Bool) : (s.wrb f b).bus = s.bus := rfl
@[simp] theorem State.wrb_free (s : State) (f : Fld) (b : Bool) : (s.wrb f b).free = s.free := rfl
@[simp] theorem State.wrb_tb (s : State) (f : Fld) (b : Bool) : (s.wrb f b).tb = s.tb := rfl
@[simp] theorem State.wrb_irq (s : State) (f : Fld) (b : Bool) : (s.wrb f b).irq = s.irq := rfl
@[simp] theorem State.wrb_dev (s : State) (f : Fld) (b : Bool) : (s.wrb f b).dev = s.dev := rfl
@[simp] theorem State.wrb_devSince (s : State) (f : Fld) (b : Bool) : (s.wrb f b).devSince = s.devSince := rfl
@[simp] theorem State.wrb_own (s : State) (f : Fld) (b : Bool) : (s.wrb f b).own = s.own := rfl
@[simp] theorem State.wrb_mbx (s : State) (f : Fld) (b : Bool) : (s.wrb f b).mbx = s.mbx := rfl
@[simp] theorem State.wrb_fab (s : State) (f : Fld) (b : Bool) : (s.wrb f b).fab = s.fab := rfl
@[simp] theorem State.wrb_cyc (s : State) (f : Fld) (b : Bool) : (s.wrb f b).cyc = s.cyc := rfl
@[simp] theorem State.wrb_swc (s : State) (f : Fld) (b : Bool) : (s.wrb f b).swc = s.swc := rfl
@[simp] theorem State.wrb_tsn (s : State) (f : Fld) (b : Bool) : (s.wrb f b).tsn = s.tsn := rfl
@[simp] theorem State.wrb_can (s : State) (f : Fld) (b : Bool) : (s.wrb f b).can = s.can := rfl
@[simp] theorem State.wrb_lin (s : State) (f : Fld) (b : Bool) : (s.wrb f b).lin = s.lin := rfl
@[simp] theorem State.wrb_gwy (s : State) (f : Fld) (b : Bool) : (s.wrb f b).gwy = s.gwy := rfl
@[simp] theorem State.wrb_brg (s : State) (f : Fld) (b : Bool) : (s.wrb f b).brg = s.brg := rfl
@[simp] theorem State.wrb_slp (s : State) (f : Fld) (b : Bool) : (s.wrb f b).slp = s.slp := rfl
@[simp] theorem State.wrb_hdg (s : State) (f : Fld) (b : Bool) : (s.wrb f b).hdg = s.hdg := rfl
@[simp] theorem State.wrb_prt (s : State) (f : Fld) (b : Bool) : (s.wrb f b).prt = s.prt := rfl
@[simp] theorem State.wrb_pairs (s : State) (f : Fld) (b : Bool) : (s.wrb f b).pairs = s.pairs := rfl
@[simp] theorem State.wrb_hwn (s : State) (f : Fld) (b : Bool) : (s.wrb f b).hwn = s.hwn := rfl
@[simp] theorem State.wrb_flt (s : State) (f : Fld) (b : Bool) : (s.wrb f b).flt = s.flt := rfl
@[simp] theorem State.wrb_cfg (s : State) (f : Fld) (b : Bool) : (s.wrb f b).cfg = s.cfg := rfl
@[simp] theorem State.wrb_boot (s : State) (f : Fld) (b : Bool) : (s.wrb f b).boot = s.boot := rfl
@[simp] theorem State.wrb_upd (s : State) (f : Fld) (b : Bool) : (s.wrb f b).upd = s.upd := rfl
@[simp] theorem State.wrb_sup (s : State) (f : Fld) (b : Bool) : (s.wrb f b).sup = s.sup := rfl
@[simp] theorem State.wrb_pending (s : State) (f : Fld) (b : Bool) : (s.wrb f b).pending = s.pending := rfl

@[simp] theorem State.inc_now (s : State) (f : Fld) : (s.inc f).now = s.now := rfl
@[simp] theorem State.inc_hold (s : State) (f : Fld) : (s.inc f).hold = s.hold := rfl
@[simp] theorem State.inc_mem (s : State) (f : Fld) : (s.inc f).mem = s.mem := rfl
@[simp] theorem State.inc_bus (s : State) (f : Fld) : (s.inc f).bus = s.bus := rfl
@[simp] theorem State.inc_free (s : State) (f : Fld) : (s.inc f).free = s.free := rfl
@[simp] theorem State.inc_tb (s : State) (f : Fld) : (s.inc f).tb = s.tb := rfl
@[simp] theorem State.inc_irq (s : State) (f : Fld) : (s.inc f).irq = s.irq := rfl
@[simp] theorem State.inc_dev (s : State) (f : Fld) : (s.inc f).dev = s.dev := rfl
@[simp] theorem State.inc_devSince (s : State) (f : Fld) : (s.inc f).devSince = s.devSince := rfl
@[simp] theorem State.inc_own (s : State) (f : Fld) : (s.inc f).own = s.own := rfl
@[simp] theorem State.inc_mbx (s : State) (f : Fld) : (s.inc f).mbx = s.mbx := rfl
@[simp] theorem State.inc_fab (s : State) (f : Fld) : (s.inc f).fab = s.fab := rfl
@[simp] theorem State.inc_cyc (s : State) (f : Fld) : (s.inc f).cyc = s.cyc := rfl
@[simp] theorem State.inc_swc (s : State) (f : Fld) : (s.inc f).swc = s.swc := rfl
@[simp] theorem State.inc_tsn (s : State) (f : Fld) : (s.inc f).tsn = s.tsn := rfl
@[simp] theorem State.inc_can (s : State) (f : Fld) : (s.inc f).can = s.can := rfl
@[simp] theorem State.inc_lin (s : State) (f : Fld) : (s.inc f).lin = s.lin := rfl
@[simp] theorem State.inc_gwy (s : State) (f : Fld) : (s.inc f).gwy = s.gwy := rfl
@[simp] theorem State.inc_brg (s : State) (f : Fld) : (s.inc f).brg = s.brg := rfl
@[simp] theorem State.inc_slp (s : State) (f : Fld) : (s.inc f).slp = s.slp := rfl
@[simp] theorem State.inc_hdg (s : State) (f : Fld) : (s.inc f).hdg = s.hdg := rfl
@[simp] theorem State.inc_prt (s : State) (f : Fld) : (s.inc f).prt = s.prt := rfl
@[simp] theorem State.inc_pairs (s : State) (f : Fld) : (s.inc f).pairs = s.pairs := rfl
@[simp] theorem State.inc_hwn (s : State) (f : Fld) : (s.inc f).hwn = s.hwn := rfl
@[simp] theorem State.inc_flt (s : State) (f : Fld) : (s.inc f).flt = s.flt := rfl
@[simp] theorem State.inc_cfg (s : State) (f : Fld) : (s.inc f).cfg = s.cfg := rfl
@[simp] theorem State.inc_boot (s : State) (f : Fld) : (s.inc f).boot = s.boot := rfl
@[simp] theorem State.inc_upd (s : State) (f : Fld) : (s.inc f).upd = s.upd := rfl
@[simp] theorem State.inc_sup (s : State) (f : Fld) : (s.inc f).sup = s.sup := rfl
@[simp] theorem State.inc_pending (s : State) (f : Fld) : (s.inc f).pending = s.pending := rfl

@[simp] theorem State.sat_now (s : State) (f : Fld) (n : Nat) : (s.sat f n).now = s.now := rfl
@[simp] theorem State.sat_hold (s : State) (f : Fld) (n : Nat) : (s.sat f n).hold = s.hold := rfl
@[simp] theorem State.sat_mem (s : State) (f : Fld) (n : Nat) : (s.sat f n).mem = s.mem := rfl
@[simp] theorem State.sat_bus (s : State) (f : Fld) (n : Nat) : (s.sat f n).bus = s.bus := rfl
@[simp] theorem State.sat_free (s : State) (f : Fld) (n : Nat) : (s.sat f n).free = s.free := rfl
@[simp] theorem State.sat_tb (s : State) (f : Fld) (n : Nat) : (s.sat f n).tb = s.tb := rfl
@[simp] theorem State.sat_irq (s : State) (f : Fld) (n : Nat) : (s.sat f n).irq = s.irq := rfl
@[simp] theorem State.sat_dev (s : State) (f : Fld) (n : Nat) : (s.sat f n).dev = s.dev := rfl
@[simp] theorem State.sat_devSince (s : State) (f : Fld) (n : Nat) : (s.sat f n).devSince = s.devSince := rfl
@[simp] theorem State.sat_own (s : State) (f : Fld) (n : Nat) : (s.sat f n).own = s.own := rfl
@[simp] theorem State.sat_mbx (s : State) (f : Fld) (n : Nat) : (s.sat f n).mbx = s.mbx := rfl
@[simp] theorem State.sat_fab (s : State) (f : Fld) (n : Nat) : (s.sat f n).fab = s.fab := rfl
@[simp] theorem State.sat_cyc (s : State) (f : Fld) (n : Nat) : (s.sat f n).cyc = s.cyc := rfl
@[simp] theorem State.sat_swc (s : State) (f : Fld) (n : Nat) : (s.sat f n).swc = s.swc := rfl
@[simp] theorem State.sat_tsn (s : State) (f : Fld) (n : Nat) : (s.sat f n).tsn = s.tsn := rfl
@[simp] theorem State.sat_can (s : State) (f : Fld) (n : Nat) : (s.sat f n).can = s.can := rfl
@[simp] theorem State.sat_lin (s : State) (f : Fld) (n : Nat) : (s.sat f n).lin = s.lin := rfl
@[simp] theorem State.sat_gwy (s : State) (f : Fld) (n : Nat) : (s.sat f n).gwy = s.gwy := rfl
@[simp] theorem State.sat_brg (s : State) (f : Fld) (n : Nat) : (s.sat f n).brg = s.brg := rfl
@[simp] theorem State.sat_slp (s : State) (f : Fld) (n : Nat) : (s.sat f n).slp = s.slp := rfl
@[simp] theorem State.sat_hdg (s : State) (f : Fld) (n : Nat) : (s.sat f n).hdg = s.hdg := rfl
@[simp] theorem State.sat_prt (s : State) (f : Fld) (n : Nat) : (s.sat f n).prt = s.prt := rfl
@[simp] theorem State.sat_pairs (s : State) (f : Fld) (n : Nat) : (s.sat f n).pairs = s.pairs := rfl
@[simp] theorem State.sat_hwn (s : State) (f : Fld) (n : Nat) : (s.sat f n).hwn = s.hwn := rfl
@[simp] theorem State.sat_flt (s : State) (f : Fld) (n : Nat) : (s.sat f n).flt = s.flt := rfl
@[simp] theorem State.sat_cfg (s : State) (f : Fld) (n : Nat) : (s.sat f n).cfg = s.cfg := rfl
@[simp] theorem State.sat_boot (s : State) (f : Fld) (n : Nat) : (s.sat f n).boot = s.boot := rfl
@[simp] theorem State.sat_upd (s : State) (f : Fld) (n : Nat) : (s.sat f n).upd = s.upd := rfl
@[simp] theorem State.sat_sup (s : State) (f : Fld) (n : Nat) : (s.sat f n).sup = s.sup := rfl
@[simp] theorem State.sat_pending (s : State) (f : Fld) (n : Nat) : (s.sat f n).pending = s.pending := rfl

@[simp] theorem State.setPair_now (s : State) (lo hi v : Nat) : (s.setPair lo hi v).now = s.now := rfl
@[simp] theorem State.setPair_hold (s : State) (lo hi v : Nat) : (s.setPair lo hi v).hold = s.hold := rfl
@[simp] theorem State.setPair_mem (s : State) (lo hi v : Nat) : (s.setPair lo hi v).mem = s.mem := rfl
@[simp] theorem State.setPair_bus (s : State) (lo hi v : Nat) : (s.setPair lo hi v).bus = s.bus := rfl
@[simp] theorem State.setPair_free (s : State) (lo hi v : Nat) : (s.setPair lo hi v).free = s.free := rfl
@[simp] theorem State.setPair_tb (s : State) (lo hi v : Nat) : (s.setPair lo hi v).tb = s.tb := rfl
@[simp] theorem State.setPair_irq (s : State) (lo hi v : Nat) : (s.setPair lo hi v).irq = s.irq := rfl
@[simp] theorem State.setPair_dev (s : State) (lo hi v : Nat) : (s.setPair lo hi v).dev = s.dev := rfl
@[simp] theorem State.setPair_devSince (s : State) (lo hi v : Nat) : (s.setPair lo hi v).devSince = s.devSince := rfl
@[simp] theorem State.setPair_own (s : State) (lo hi v : Nat) : (s.setPair lo hi v).own = s.own := rfl
@[simp] theorem State.setPair_mbx (s : State) (lo hi v : Nat) : (s.setPair lo hi v).mbx = s.mbx := rfl
@[simp] theorem State.setPair_fab (s : State) (lo hi v : Nat) : (s.setPair lo hi v).fab = s.fab := rfl
@[simp] theorem State.setPair_cyc (s : State) (lo hi v : Nat) : (s.setPair lo hi v).cyc = s.cyc := rfl
@[simp] theorem State.setPair_swc (s : State) (lo hi v : Nat) : (s.setPair lo hi v).swc = s.swc := rfl
@[simp] theorem State.setPair_tsn (s : State) (lo hi v : Nat) : (s.setPair lo hi v).tsn = s.tsn := rfl
@[simp] theorem State.setPair_can (s : State) (lo hi v : Nat) : (s.setPair lo hi v).can = s.can := rfl
@[simp] theorem State.setPair_lin (s : State) (lo hi v : Nat) : (s.setPair lo hi v).lin = s.lin := rfl
@[simp] theorem State.setPair_gwy (s : State) (lo hi v : Nat) : (s.setPair lo hi v).gwy = s.gwy := rfl
@[simp] theorem State.setPair_brg (s : State) (lo hi v : Nat) : (s.setPair lo hi v).brg = s.brg := rfl
@[simp] theorem State.setPair_slp (s : State) (lo hi v : Nat) : (s.setPair lo hi v).slp = s.slp := rfl
@[simp] theorem State.setPair_hdg (s : State) (lo hi v : Nat) : (s.setPair lo hi v).hdg = s.hdg := rfl
@[simp] theorem State.setPair_prt (s : State) (lo hi v : Nat) : (s.setPair lo hi v).prt = s.prt := rfl
@[simp] theorem State.setPair_pairs (s : State) (lo hi v : Nat) : (s.setPair lo hi v).pairs = s.pairs := rfl
@[simp] theorem State.setPair_hwn (s : State) (lo hi v : Nat) : (s.setPair lo hi v).hwn = s.hwn := rfl
@[simp] theorem State.setPair_flt (s : State) (lo hi v : Nat) : (s.setPair lo hi v).flt = s.flt := rfl
@[simp] theorem State.setPair_cfg (s : State) (lo hi v : Nat) : (s.setPair lo hi v).cfg = s.cfg := rfl
@[simp] theorem State.setPair_boot (s : State) (lo hi v : Nat) : (s.setPair lo hi v).boot = s.boot := rfl
@[simp] theorem State.setPair_upd (s : State) (lo hi v : Nat) : (s.setPair lo hi v).upd = s.upd := rfl
@[simp] theorem State.setPair_sup (s : State) (lo hi v : Nat) : (s.setPair lo hi v).sup = s.sup := rfl
@[simp] theorem State.setPair_pending (s : State) (lo hi v : Nat) : (s.setPair lo hi v).pending = s.pending := rfl

@[simp] theorem State.resetRegs_now (s : State) (lo hi : Nat) : (s.resetRegs lo hi).now = s.now := rfl
@[simp] theorem State.resetRegs_hold (s : State) (lo hi : Nat) : (s.resetRegs lo hi).hold = s.hold := rfl
@[simp] theorem State.resetRegs_mem (s : State) (lo hi : Nat) : (s.resetRegs lo hi).mem = s.mem := rfl
@[simp] theorem State.resetRegs_bus (s : State) (lo hi : Nat) : (s.resetRegs lo hi).bus = s.bus := rfl
@[simp] theorem State.resetRegs_free (s : State) (lo hi : Nat) : (s.resetRegs lo hi).free = s.free := rfl
@[simp] theorem State.resetRegs_tb (s : State) (lo hi : Nat) : (s.resetRegs lo hi).tb = s.tb := rfl
@[simp] theorem State.resetRegs_irq (s : State) (lo hi : Nat) : (s.resetRegs lo hi).irq = s.irq := rfl
@[simp] theorem State.resetRegs_dev (s : State) (lo hi : Nat) : (s.resetRegs lo hi).dev = s.dev := rfl
@[simp] theorem State.resetRegs_devSince (s : State) (lo hi : Nat) : (s.resetRegs lo hi).devSince = s.devSince := rfl
@[simp] theorem State.resetRegs_own (s : State) (lo hi : Nat) : (s.resetRegs lo hi).own = s.own := rfl
@[simp] theorem State.resetRegs_mbx (s : State) (lo hi : Nat) : (s.resetRegs lo hi).mbx = s.mbx := rfl
@[simp] theorem State.resetRegs_fab (s : State) (lo hi : Nat) : (s.resetRegs lo hi).fab = s.fab := rfl
@[simp] theorem State.resetRegs_cyc (s : State) (lo hi : Nat) : (s.resetRegs lo hi).cyc = s.cyc := rfl
@[simp] theorem State.resetRegs_swc (s : State) (lo hi : Nat) : (s.resetRegs lo hi).swc = s.swc := rfl
@[simp] theorem State.resetRegs_tsn (s : State) (lo hi : Nat) : (s.resetRegs lo hi).tsn = s.tsn := rfl
@[simp] theorem State.resetRegs_can (s : State) (lo hi : Nat) : (s.resetRegs lo hi).can = s.can := rfl
@[simp] theorem State.resetRegs_lin (s : State) (lo hi : Nat) : (s.resetRegs lo hi).lin = s.lin := rfl
@[simp] theorem State.resetRegs_gwy (s : State) (lo hi : Nat) : (s.resetRegs lo hi).gwy = s.gwy := rfl
@[simp] theorem State.resetRegs_brg (s : State) (lo hi : Nat) : (s.resetRegs lo hi).brg = s.brg := rfl
@[simp] theorem State.resetRegs_slp (s : State) (lo hi : Nat) : (s.resetRegs lo hi).slp = s.slp := rfl
@[simp] theorem State.resetRegs_hdg (s : State) (lo hi : Nat) : (s.resetRegs lo hi).hdg = s.hdg := rfl
@[simp] theorem State.resetRegs_prt (s : State) (lo hi : Nat) : (s.resetRegs lo hi).prt = s.prt := rfl
@[simp] theorem State.resetRegs_pairs (s : State) (lo hi : Nat) : (s.resetRegs lo hi).pairs = s.pairs := rfl
@[simp] theorem State.resetRegs_hwn (s : State) (lo hi : Nat) : (s.resetRegs lo hi).hwn = s.hwn := rfl
@[simp] theorem State.resetRegs_flt (s : State) (lo hi : Nat) : (s.resetRegs lo hi).flt = s.flt := rfl
@[simp] theorem State.resetRegs_cfg (s : State) (lo hi : Nat) : (s.resetRegs lo hi).cfg = s.cfg := rfl
@[simp] theorem State.resetRegs_boot (s : State) (lo hi : Nat) : (s.resetRegs lo hi).boot = s.boot := rfl
@[simp] theorem State.resetRegs_upd (s : State) (lo hi : Nat) : (s.resetRegs lo hi).upd = s.upd := rfl
@[simp] theorem State.resetRegs_sup (s : State) (lo hi : Nat) : (s.resetRegs lo hi).sup = s.sup := rfl
@[simp] theorem State.resetRegs_pending (s : State) (lo hi : Nat) : (s.resetRegs lo hi).pending = s.pending := rfl

@[simp] theorem State.store_now (s : State) (a : Nat) (l : List Byte) : (s.store a l).now = s.now := rfl
@[simp] theorem State.store_regs (s : State) (a : Nat) (l : List Byte) : (s.store a l).regs = s.regs := rfl
@[simp] theorem State.store_hold (s : State) (a : Nat) (l : List Byte) : (s.store a l).hold = s.hold := rfl
@[simp] theorem State.store_bus (s : State) (a : Nat) (l : List Byte) : (s.store a l).bus = s.bus := rfl
@[simp] theorem State.store_free (s : State) (a : Nat) (l : List Byte) : (s.store a l).free = s.free := rfl
@[simp] theorem State.store_tb (s : State) (a : Nat) (l : List Byte) : (s.store a l).tb = s.tb := rfl
@[simp] theorem State.store_irq (s : State) (a : Nat) (l : List Byte) : (s.store a l).irq = s.irq := rfl
@[simp] theorem State.store_dev (s : State) (a : Nat) (l : List Byte) : (s.store a l).dev = s.dev := rfl
@[simp] theorem State.store_devSince (s : State) (a : Nat) (l : List Byte) : (s.store a l).devSince = s.devSince := rfl
@[simp] theorem State.store_own (s : State) (a : Nat) (l : List Byte) : (s.store a l).own = s.own := rfl
@[simp] theorem State.store_mbx (s : State) (a : Nat) (l : List Byte) : (s.store a l).mbx = s.mbx := rfl
@[simp] theorem State.store_fab (s : State) (a : Nat) (l : List Byte) : (s.store a l).fab = s.fab := rfl
@[simp] theorem State.store_cyc (s : State) (a : Nat) (l : List Byte) : (s.store a l).cyc = s.cyc := rfl
@[simp] theorem State.store_swc (s : State) (a : Nat) (l : List Byte) : (s.store a l).swc = s.swc := rfl
@[simp] theorem State.store_tsn (s : State) (a : Nat) (l : List Byte) : (s.store a l).tsn = s.tsn := rfl
@[simp] theorem State.store_can (s : State) (a : Nat) (l : List Byte) : (s.store a l).can = s.can := rfl
@[simp] theorem State.store_lin (s : State) (a : Nat) (l : List Byte) : (s.store a l).lin = s.lin := rfl
@[simp] theorem State.store_gwy (s : State) (a : Nat) (l : List Byte) : (s.store a l).gwy = s.gwy := rfl
@[simp] theorem State.store_brg (s : State) (a : Nat) (l : List Byte) : (s.store a l).brg = s.brg := rfl
@[simp] theorem State.store_slp (s : State) (a : Nat) (l : List Byte) : (s.store a l).slp = s.slp := rfl
@[simp] theorem State.store_hdg (s : State) (a : Nat) (l : List Byte) : (s.store a l).hdg = s.hdg := rfl
@[simp] theorem State.store_prt (s : State) (a : Nat) (l : List Byte) : (s.store a l).prt = s.prt := rfl
@[simp] theorem State.store_pairs (s : State) (a : Nat) (l : List Byte) : (s.store a l).pairs = s.pairs := rfl
@[simp] theorem State.store_hwn (s : State) (a : Nat) (l : List Byte) : (s.store a l).hwn = s.hwn := rfl
@[simp] theorem State.store_flt (s : State) (a : Nat) (l : List Byte) : (s.store a l).flt = s.flt := rfl
@[simp] theorem State.store_cfg (s : State) (a : Nat) (l : List Byte) : (s.store a l).cfg = s.cfg := rfl
@[simp] theorem State.store_boot (s : State) (a : Nat) (l : List Byte) : (s.store a l).boot = s.boot := rfl
@[simp] theorem State.store_upd (s : State) (a : Nat) (l : List Byte) : (s.store a l).upd = s.upd := rfl
@[simp] theorem State.store_sup (s : State) (a : Nat) (l : List Byte) : (s.store a l).sup = s.sup := rfl
@[simp] theorem State.store_pending (s : State) (a : Nat) (l : List Byte) : (s.store a l).pending = s.pending := rfl

@[simp] theorem State.trig_now (s : State) (n : Nat) : (s.trig n).now = s.now := rfl
@[simp] theorem State.trig_regs (s : State) (n : Nat) : (s.trig n).regs = s.regs := rfl
@[simp] theorem State.trig_hold (s : State) (n : Nat) : (s.trig n).hold = s.hold := rfl
@[simp] theorem State.trig_mem (s : State) (n : Nat) : (s.trig n).mem = s.mem := rfl
@[simp] theorem State.trig_bus (s : State) (n : Nat) : (s.trig n).bus = s.bus := rfl
@[simp] theorem State.trig_free (s : State) (n : Nat) : (s.trig n).free = s.free := rfl
@[simp] theorem State.trig_tb (s : State) (n : Nat) : (s.trig n).tb = s.tb := rfl
@[simp] theorem State.trig_dev (s : State) (n : Nat) : (s.trig n).dev = s.dev := rfl
@[simp] theorem State.trig_devSince (s : State) (n : Nat) : (s.trig n).devSince = s.devSince := rfl
@[simp] theorem State.trig_own (s : State) (n : Nat) : (s.trig n).own = s.own := rfl
@[simp] theorem State.trig_mbx (s : State) (n : Nat) : (s.trig n).mbx = s.mbx := rfl
@[simp] theorem State.trig_fab (s : State) (n : Nat) : (s.trig n).fab = s.fab := rfl
@[simp] theorem State.trig_cyc (s : State) (n : Nat) : (s.trig n).cyc = s.cyc := rfl
@[simp] theorem State.trig_swc (s : State) (n : Nat) : (s.trig n).swc = s.swc := rfl
@[simp] theorem State.trig_tsn (s : State) (n : Nat) : (s.trig n).tsn = s.tsn := rfl
@[simp] theorem State.trig_can (s : State) (n : Nat) : (s.trig n).can = s.can := rfl
@[simp] theorem State.trig_lin (s : State) (n : Nat) : (s.trig n).lin = s.lin := rfl
@[simp] theorem State.trig_gwy (s : State) (n : Nat) : (s.trig n).gwy = s.gwy := rfl
@[simp] theorem State.trig_brg (s : State) (n : Nat) : (s.trig n).brg = s.brg := rfl
@[simp] theorem State.trig_slp (s : State) (n : Nat) : (s.trig n).slp = s.slp := rfl
@[simp] theorem State.trig_hdg (s : State) (n : Nat) : (s.trig n).hdg = s.hdg := rfl
@[simp] theorem State.trig_prt (s : State) (n : Nat) : (s.trig n).prt = s.prt := rfl
@[simp] theorem State.trig_pairs (s : State) (n : Nat) : (s.trig n).pairs = s.pairs := rfl
@[simp] theorem State.trig_hwn (s : State) (n : Nat) : (s.trig n).hwn = s.hwn := rfl
@[simp] theorem State.trig_flt (s : State) (n : Nat) : (s.trig n).flt = s.flt := rfl
@[simp] theorem State.trig_cfg (s : State) (n : Nat) : (s.trig n).cfg = s.cfg := rfl
@[simp] theorem State.trig_boot (s : State) (n : Nat) : (s.trig n).boot = s.boot := rfl
@[simp] theorem State.trig_upd (s : State) (n : Nat) : (s.trig n).upd = s.upd := rfl
@[simp] theorem State.trig_sup (s : State) (n : Nat) : (s.trig n).sup = s.sup := rfl
@[simp] theorem State.trig_pending (s : State) (n : Nat) : (s.trig n).pending = s.pending := rfl

@[simp] theorem State.polled_regs (s : State) (t : Nat) : (s.polled t).regs = s.regs := rfl
@[simp] theorem State.polled_hold (s : State) (t : Nat) : (s.polled t).hold = s.hold := rfl
@[simp] theorem State.polled_mem (s : State) (t : Nat) : (s.polled t).mem = s.mem := rfl
@[simp] theorem State.polled_free (s : State) (t : Nat) : (s.polled t).free = s.free := rfl
@[simp] theorem State.polled_tb (s : State) (t : Nat) : (s.polled t).tb = s.tb := rfl
@[simp] theorem State.polled_irq (s : State) (t : Nat) : (s.polled t).irq = s.irq := rfl
@[simp] theorem State.polled_dev (s : State) (t : Nat) : (s.polled t).dev = s.dev := rfl
@[simp] theorem State.polled_devSince (s : State) (t : Nat) : (s.polled t).devSince = s.devSince := rfl
@[simp] theorem State.polled_own (s : State) (t : Nat) : (s.polled t).own = s.own := rfl
@[simp] theorem State.polled_mbx (s : State) (t : Nat) : (s.polled t).mbx = s.mbx := rfl
@[simp] theorem State.polled_fab (s : State) (t : Nat) : (s.polled t).fab = s.fab := rfl
@[simp] theorem State.polled_cyc (s : State) (t : Nat) : (s.polled t).cyc = s.cyc := rfl
@[simp] theorem State.polled_swc (s : State) (t : Nat) : (s.polled t).swc = s.swc := rfl
@[simp] theorem State.polled_tsn (s : State) (t : Nat) : (s.polled t).tsn = s.tsn := rfl
@[simp] theorem State.polled_can (s : State) (t : Nat) : (s.polled t).can = s.can := rfl
@[simp] theorem State.polled_lin (s : State) (t : Nat) : (s.polled t).lin = s.lin := rfl
@[simp] theorem State.polled_gwy (s : State) (t : Nat) : (s.polled t).gwy = s.gwy := rfl
@[simp] theorem State.polled_brg (s : State) (t : Nat) : (s.polled t).brg = s.brg := rfl
@[simp] theorem State.polled_slp (s : State) (t : Nat) : (s.polled t).slp = s.slp := rfl
@[simp] theorem State.polled_hdg (s : State) (t : Nat) : (s.polled t).hdg = s.hdg := rfl
@[simp] theorem State.polled_prt (s : State) (t : Nat) : (s.polled t).prt = s.prt := rfl
@[simp] theorem State.polled_pairs (s : State) (t : Nat) : (s.polled t).pairs = s.pairs := rfl
@[simp] theorem State.polled_hwn (s : State) (t : Nat) : (s.polled t).hwn = s.hwn := rfl
@[simp] theorem State.polled_flt (s : State) (t : Nat) : (s.polled t).flt = s.flt := rfl
@[simp] theorem State.polled_cfg (s : State) (t : Nat) : (s.polled t).cfg = s.cfg := rfl
@[simp] theorem State.polled_boot (s : State) (t : Nat) : (s.polled t).boot = s.boot := rfl
@[simp] theorem State.polled_upd (s : State) (t : Nat) : (s.polled t).upd = s.upd := rfl
@[simp] theorem State.polled_sup (s : State) (t : Nat) : (s.polled t).sup = s.sup := rfl
@[simp] theorem State.polled_pending (s : State) (t : Nat) : (s.polled t).pending = s.pending := rfl

@[simp] theorem State.posted_regs (s : State) (t : Nat) (a : Acc) (addr : Nat) : (s.posted t a addr).regs = s.regs := by
  unfold State.posted State.pushWrite; split <;> rfl
@[simp] theorem State.posted_hold (s : State) (t : Nat) (a : Acc) (addr : Nat) : (s.posted t a addr).hold = s.hold := by
  unfold State.posted State.pushWrite; split <;> rfl
@[simp] theorem State.posted_mem (s : State) (t : Nat) (a : Acc) (addr : Nat) : (s.posted t a addr).mem = s.mem := by
  unfold State.posted State.pushWrite; split <;> rfl
@[simp] theorem State.posted_tb (s : State) (t : Nat) (a : Acc) (addr : Nat) : (s.posted t a addr).tb = s.tb := by
  unfold State.posted State.pushWrite; split <;> rfl
@[simp] theorem State.posted_irq (s : State) (t : Nat) (a : Acc) (addr : Nat) : (s.posted t a addr).irq = s.irq := by
  unfold State.posted State.pushWrite; split <;> rfl
@[simp] theorem State.posted_dev (s : State) (t : Nat) (a : Acc) (addr : Nat) : (s.posted t a addr).dev = s.dev := by
  unfold State.posted State.pushWrite; split <;> rfl
@[simp] theorem State.posted_devSince (s : State) (t : Nat) (a : Acc) (addr : Nat) : (s.posted t a addr).devSince = s.devSince := by
  unfold State.posted State.pushWrite; split <;> rfl
@[simp] theorem State.posted_own (s : State) (t : Nat) (a : Acc) (addr : Nat) : (s.posted t a addr).own = s.own := by
  unfold State.posted State.pushWrite; split <;> rfl
@[simp] theorem State.posted_mbx (s : State) (t : Nat) (a : Acc) (addr : Nat) : (s.posted t a addr).mbx = s.mbx := by
  unfold State.posted State.pushWrite; split <;> rfl
@[simp] theorem State.posted_fab (s : State) (t : Nat) (a : Acc) (addr : Nat) : (s.posted t a addr).fab = s.fab := by
  unfold State.posted State.pushWrite; split <;> rfl
@[simp] theorem State.posted_cyc (s : State) (t : Nat) (a : Acc) (addr : Nat) : (s.posted t a addr).cyc = s.cyc := by
  unfold State.posted State.pushWrite; split <;> rfl
@[simp] theorem State.posted_swc (s : State) (t : Nat) (a : Acc) (addr : Nat) : (s.posted t a addr).swc = s.swc := by
  unfold State.posted State.pushWrite; split <;> rfl
@[simp] theorem State.posted_tsn (s : State) (t : Nat) (a : Acc) (addr : Nat) : (s.posted t a addr).tsn = s.tsn := by
  unfold State.posted State.pushWrite; split <;> rfl
@[simp] theorem State.posted_can (s : State) (t : Nat) (a : Acc) (addr : Nat) : (s.posted t a addr).can = s.can := by
  unfold State.posted State.pushWrite; split <;> rfl
@[simp] theorem State.posted_lin (s : State) (t : Nat) (a : Acc) (addr : Nat) : (s.posted t a addr).lin = s.lin := by
  unfold State.posted State.pushWrite; split <;> rfl
@[simp] theorem State.posted_gwy (s : State) (t : Nat) (a : Acc) (addr : Nat) : (s.posted t a addr).gwy = s.gwy := by
  unfold State.posted State.pushWrite; split <;> rfl
@[simp] theorem State.posted_slp (s : State) (t : Nat) (a : Acc) (addr : Nat) : (s.posted t a addr).slp = s.slp := by
  unfold State.posted State.pushWrite; split <;> rfl
@[simp] theorem State.posted_hdg (s : State) (t : Nat) (a : Acc) (addr : Nat) : (s.posted t a addr).hdg = s.hdg := by
  unfold State.posted State.pushWrite; split <;> rfl
@[simp] theorem State.posted_prt (s : State) (t : Nat) (a : Acc) (addr : Nat) : (s.posted t a addr).prt = s.prt := by
  unfold State.posted State.pushWrite; split <;> rfl
@[simp] theorem State.posted_pairs (s : State) (t : Nat) (a : Acc) (addr : Nat) : (s.posted t a addr).pairs = s.pairs := by
  unfold State.posted State.pushWrite; split <;> rfl
@[simp] theorem State.posted_hwn (s : State) (t : Nat) (a : Acc) (addr : Nat) : (s.posted t a addr).hwn = s.hwn := by
  unfold State.posted State.pushWrite; split <;> rfl
@[simp] theorem State.posted_flt (s : State) (t : Nat) (a : Acc) (addr : Nat) : (s.posted t a addr).flt = s.flt := by
  unfold State.posted State.pushWrite; split <;> rfl
@[simp] theorem State.posted_cfg (s : State) (t : Nat) (a : Acc) (addr : Nat) : (s.posted t a addr).cfg = s.cfg := by
  unfold State.posted State.pushWrite; split <;> rfl
@[simp] theorem State.posted_boot (s : State) (t : Nat) (a : Acc) (addr : Nat) : (s.posted t a addr).boot = s.boot := by
  unfold State.posted State.pushWrite; split <;> rfl
@[simp] theorem State.posted_upd (s : State) (t : Nat) (a : Acc) (addr : Nat) : (s.posted t a addr).upd = s.upd := by
  unfold State.posted State.pushWrite; split <;> rfl
@[simp] theorem State.posted_sup (s : State) (t : Nat) (a : Acc) (addr : Nat) : (s.posted t a addr).sup = s.sup := by
  unfold State.posted State.pushWrite; split <;> rfl
@[simp] theorem State.posted_pending (s : State) (t : Nat) (a : Acc) (addr : Nat) : (s.posted t a addr).pending = s.pending := by
  unfold State.posted State.pushWrite; split <;> rfl

/-- What a posted store reads of the registers is what they held. -/
@[simp] theorem State.posted_word (s : State) (t : Nat) (a : Acc) (addr b : Nat) : (s.posted t a addr).word b = s.word b := by
  simp [State.word]
@[simp] theorem State.posted_rd (s : State) (t : Nat) (a : Acc) (addr : Nat) (f : Fld) : (s.posted t a addr).rd f = s.rd f := by
  simp [State.rd]
@[simp] theorem State.posted_rdb (s : State) (t : Nat) (a : Acc) (addr : Nat) (f : Fld) : (s.posted t a addr).rdb f = s.rdb f := by
  simp [State.rdb]

@[simp] theorem State.unlist_now (s : State) (c : Cmd) : (s.unlist c).now = s.now := rfl
@[simp] theorem State.unlist_regs (s : State) (c : Cmd) : (s.unlist c).regs = s.regs := rfl
@[simp] theorem State.unlist_hold (s : State) (c : Cmd) : (s.unlist c).hold = s.hold := rfl
@[simp] theorem State.unlist_mem (s : State) (c : Cmd) : (s.unlist c).mem = s.mem := rfl
@[simp] theorem State.unlist_bus (s : State) (c : Cmd) : (s.unlist c).bus = s.bus := rfl
@[simp] theorem State.unlist_free (s : State) (c : Cmd) : (s.unlist c).free = s.free := rfl
@[simp] theorem State.unlist_tb (s : State) (c : Cmd) : (s.unlist c).tb = s.tb := rfl
@[simp] theorem State.unlist_irq (s : State) (c : Cmd) : (s.unlist c).irq = s.irq := rfl
@[simp] theorem State.unlist_dev (s : State) (c : Cmd) : (s.unlist c).dev = s.dev := rfl
@[simp] theorem State.unlist_devSince (s : State) (c : Cmd) : (s.unlist c).devSince = s.devSince := rfl
@[simp] theorem State.unlist_own (s : State) (c : Cmd) : (s.unlist c).own = s.own := rfl
@[simp] theorem State.unlist_fab (s : State) (c : Cmd) : (s.unlist c).fab = s.fab := rfl
@[simp] theorem State.unlist_cyc (s : State) (c : Cmd) : (s.unlist c).cyc = s.cyc := rfl
@[simp] theorem State.unlist_swc (s : State) (c : Cmd) : (s.unlist c).swc = s.swc := rfl
@[simp] theorem State.unlist_tsn (s : State) (c : Cmd) : (s.unlist c).tsn = s.tsn := rfl
@[simp] theorem State.unlist_can (s : State) (c : Cmd) : (s.unlist c).can = s.can := rfl
@[simp] theorem State.unlist_lin (s : State) (c : Cmd) : (s.unlist c).lin = s.lin := rfl
@[simp] theorem State.unlist_gwy (s : State) (c : Cmd) : (s.unlist c).gwy = s.gwy := rfl
@[simp] theorem State.unlist_brg (s : State) (c : Cmd) : (s.unlist c).brg = s.brg := rfl
@[simp] theorem State.unlist_slp (s : State) (c : Cmd) : (s.unlist c).slp = s.slp := rfl
@[simp] theorem State.unlist_hdg (s : State) (c : Cmd) : (s.unlist c).hdg = s.hdg := rfl
@[simp] theorem State.unlist_prt (s : State) (c : Cmd) : (s.unlist c).prt = s.prt := rfl
@[simp] theorem State.unlist_pairs (s : State) (c : Cmd) : (s.unlist c).pairs = s.pairs := rfl
@[simp] theorem State.unlist_hwn (s : State) (c : Cmd) : (s.unlist c).hwn = s.hwn := rfl
@[simp] theorem State.unlist_flt (s : State) (c : Cmd) : (s.unlist c).flt = s.flt := rfl
@[simp] theorem State.unlist_cfg (s : State) (c : Cmd) : (s.unlist c).cfg = s.cfg := rfl
@[simp] theorem State.unlist_boot (s : State) (c : Cmd) : (s.unlist c).boot = s.boot := rfl
@[simp] theorem State.unlist_upd (s : State) (c : Cmd) : (s.unlist c).upd = s.upd := rfl
@[simp] theorem State.unlist_sup (s : State) (c : Cmd) : (s.unlist c).sup = s.sup := rfl
@[simp] theorem State.unlist_pending (s : State) (c : Cmd) : (s.unlist c).pending = s.pending := rfl

@[simp] theorem State.enlist_now (s : State) (c : Cmd) : (s.enlist c).now = s.now := rfl
@[simp] theorem State.enlist_regs (s : State) (c : Cmd) : (s.enlist c).regs = s.regs := rfl
@[simp] theorem State.enlist_hold (s : State) (c : Cmd) : (s.enlist c).hold = s.hold := rfl
@[simp] theorem State.enlist_mem (s : State) (c : Cmd) : (s.enlist c).mem = s.mem := rfl
@[simp] theorem State.enlist_bus (s : State) (c : Cmd) : (s.enlist c).bus = s.bus := rfl
@[simp] theorem State.enlist_free (s : State) (c : Cmd) : (s.enlist c).free = s.free := rfl
@[simp] theorem State.enlist_tb (s : State) (c : Cmd) : (s.enlist c).tb = s.tb := rfl
@[simp] theorem State.enlist_irq (s : State) (c : Cmd) : (s.enlist c).irq = s.irq := rfl
@[simp] theorem State.enlist_dev (s : State) (c : Cmd) : (s.enlist c).dev = s.dev := rfl
@[simp] theorem State.enlist_devSince (s : State) (c : Cmd) : (s.enlist c).devSince = s.devSince := rfl
@[simp] theorem State.enlist_own (s : State) (c : Cmd) : (s.enlist c).own = s.own := rfl
@[simp] theorem State.enlist_fab (s : State) (c : Cmd) : (s.enlist c).fab = s.fab := rfl
@[simp] theorem State.enlist_cyc (s : State) (c : Cmd) : (s.enlist c).cyc = s.cyc := rfl
@[simp] theorem State.enlist_swc (s : State) (c : Cmd) : (s.enlist c).swc = s.swc := rfl
@[simp] theorem State.enlist_tsn (s : State) (c : Cmd) : (s.enlist c).tsn = s.tsn := rfl
@[simp] theorem State.enlist_can (s : State) (c : Cmd) : (s.enlist c).can = s.can := rfl
@[simp] theorem State.enlist_lin (s : State) (c : Cmd) : (s.enlist c).lin = s.lin := rfl
@[simp] theorem State.enlist_gwy (s : State) (c : Cmd) : (s.enlist c).gwy = s.gwy := rfl
@[simp] theorem State.enlist_brg (s : State) (c : Cmd) : (s.enlist c).brg = s.brg := rfl
@[simp] theorem State.enlist_slp (s : State) (c : Cmd) : (s.enlist c).slp = s.slp := rfl
@[simp] theorem State.enlist_hdg (s : State) (c : Cmd) : (s.enlist c).hdg = s.hdg := rfl
@[simp] theorem State.enlist_prt (s : State) (c : Cmd) : (s.enlist c).prt = s.prt := rfl
@[simp] theorem State.enlist_pairs (s : State) (c : Cmd) : (s.enlist c).pairs = s.pairs := rfl
@[simp] theorem State.enlist_hwn (s : State) (c : Cmd) : (s.enlist c).hwn = s.hwn := rfl
@[simp] theorem State.enlist_flt (s : State) (c : Cmd) : (s.enlist c).flt = s.flt := rfl
@[simp] theorem State.enlist_cfg (s : State) (c : Cmd) : (s.enlist c).cfg = s.cfg := rfl
@[simp] theorem State.enlist_boot (s : State) (c : Cmd) : (s.enlist c).boot = s.boot := rfl
@[simp] theorem State.enlist_upd (s : State) (c : Cmd) : (s.enlist c).upd = s.upd := rfl
@[simp] theorem State.enlist_sup (s : State) (c : Cmd) : (s.enlist c).sup = s.sup := rfl
@[simp] theorem State.enlist_pending (s : State) (c : Cmd) : (s.enlist c).pending = s.pending := rfl

@[simp] theorem State.modPart_now (s : State) (v : Nat) (f : Part → Part) : (s.modPart v f).now = s.now := rfl
@[simp] theorem State.modPart_regs (s : State) (v : Nat) (f : Part → Part) : (s.modPart v f).regs = s.regs := rfl
@[simp] theorem State.modPart_hold (s : State) (v : Nat) (f : Part → Part) : (s.modPart v f).hold = s.hold := rfl
@[simp] theorem State.modPart_mem (s : State) (v : Nat) (f : Part → Part) : (s.modPart v f).mem = s.mem := rfl
@[simp] theorem State.modPart_bus (s : State) (v : Nat) (f : Part → Part) : (s.modPart v f).bus = s.bus := rfl
@[simp] theorem State.modPart_free (s : State) (v : Nat) (f : Part → Part) : (s.modPart v f).free = s.free := rfl
@[simp] theorem State.modPart_tb (s : State) (v : Nat) (f : Part → Part) : (s.modPart v f).tb = s.tb := rfl
@[simp] theorem State.modPart_irq (s : State) (v : Nat) (f : Part → Part) : (s.modPart v f).irq = s.irq := rfl
@[simp] theorem State.modPart_dev (s : State) (v : Nat) (f : Part → Part) : (s.modPart v f).dev = s.dev := rfl
@[simp] theorem State.modPart_devSince (s : State) (v : Nat) (f : Part → Part) : (s.modPart v f).devSince = s.devSince := rfl
@[simp] theorem State.modPart_own (s : State) (v : Nat) (f : Part → Part) : (s.modPart v f).own = s.own := rfl
@[simp] theorem State.modPart_mbx (s : State) (v : Nat) (f : Part → Part) : (s.modPart v f).mbx = s.mbx := rfl
@[simp] theorem State.modPart_fab (s : State) (v : Nat) (f : Part → Part) : (s.modPart v f).fab = s.fab := rfl
@[simp] theorem State.modPart_cyc (s : State) (v : Nat) (f : Part → Part) : (s.modPart v f).cyc = s.cyc := rfl
@[simp] theorem State.modPart_swc (s : State) (v : Nat) (f : Part → Part) : (s.modPart v f).swc = s.swc := rfl
@[simp] theorem State.modPart_tsn (s : State) (v : Nat) (f : Part → Part) : (s.modPart v f).tsn = s.tsn := rfl
@[simp] theorem State.modPart_can (s : State) (v : Nat) (f : Part → Part) : (s.modPart v f).can = s.can := rfl
@[simp] theorem State.modPart_lin (s : State) (v : Nat) (f : Part → Part) : (s.modPart v f).lin = s.lin := rfl
@[simp] theorem State.modPart_gwy (s : State) (v : Nat) (f : Part → Part) : (s.modPart v f).gwy = s.gwy := rfl
@[simp] theorem State.modPart_brg (s : State) (v : Nat) (f : Part → Part) : (s.modPart v f).brg = s.brg := rfl
@[simp] theorem State.modPart_slp (s : State) (v : Nat) (f : Part → Part) : (s.modPart v f).slp = s.slp := rfl
@[simp] theorem State.modPart_hdg (s : State) (v : Nat) (f : Part → Part) : (s.modPart v f).hdg = s.hdg := rfl
@[simp] theorem State.modPart_pairs (s : State) (v : Nat) (f : Part → Part) : (s.modPart v f).pairs = s.pairs := rfl
@[simp] theorem State.modPart_hwn (s : State) (v : Nat) (f : Part → Part) : (s.modPart v f).hwn = s.hwn := rfl
@[simp] theorem State.modPart_flt (s : State) (v : Nat) (f : Part → Part) : (s.modPart v f).flt = s.flt := rfl
@[simp] theorem State.modPart_cfg (s : State) (v : Nat) (f : Part → Part) : (s.modPart v f).cfg = s.cfg := rfl
@[simp] theorem State.modPart_boot (s : State) (v : Nat) (f : Part → Part) : (s.modPart v f).boot = s.boot := rfl
@[simp] theorem State.modPart_upd (s : State) (v : Nat) (f : Part → Part) : (s.modPart v f).upd = s.upd := rfl
@[simp] theorem State.modPart_sup (s : State) (v : Nat) (f : Part → Part) : (s.modPart v f).sup = s.sup := rfl
@[simp] theorem State.modPart_pending (s : State) (v : Nat) (f : Part → Part) : (s.modPart v f).pending = s.pending := rfl

end Sys2Proof.Machine
end

