-- ==== Sys2Proof/Laws/Calm.lean ====
section
/-!
SUPPORT. Laws/Calm.lean: where nothing follows a command (State.Calm), its end leaves the state as it is.
-/
namespace Sys2Proof.Machine

/-- Nothing follows where nothing would have followed, if the units and registers that decide it are the same. -/
theorem State.Calm.of_same {s u : State} (h : s.Calm) (hr : ∀ a, 0x10C00000 ≤ a → u.word a = s.word a) (h1 : u.flt = s.flt) (h2 : u.dev = s.dev)
   (h3 : u.boot = s.boot) (h4 : u.hdg = s.hdg) (h5 : u.slp = s.slp) (h6 : u.cfg = s.cfg) : u.Calm := by
  have rd : ∀ f : Fld, 0x10C00000 ≤ f.reg → u.rd f = s.rd f := fun f hf => by simp [State.rd, hr _ hf]
  have e1 : u.phase = s.phase := rd _ (by decide)
  have e2 : u.ready = s.ready := by
    unfold State.ready State.ownReady State.chainOk State.chainSleeps State.linesOk State.wakeActive State.maintOk State.votes State.ovlOk State.overlay State.rdb
    simp (disch := decide) only [rd, h2, h5, h6]
  unfold State.Calm at *
  rw [h1, h2, h3, h4, h6, e1, e2]; exact h

/-- A posted store adds nothing that would follow. -/
theorem State.Calm.posted {s : State} {t : Nat} (h : (s.at_ t).Calm) (a : Acc) (addr : Nat) : (s.posted t a addr).Calm :=
  State.Calm.of_same h (fun b _ => by rw [State.posted_word]; rfl) (State.posted_flt ..) (State.posted_dev ..) (State.posted_boot ..)
    (State.posted_hdg ..) (State.posted_slp ..) (State.posted_cfg ..)

/-- Where nothing follows, the end of a command leaves the state. -/
theorem State.settle_of_calm {s : State} (h : s.Calm) : s.settle = s := by
  obtain ⟨h0, h1, h2, h3, h4, h5, h6⟩ := h
  have d : ∀ {u : State}, u.flt.react = [] → u.drain 64 = u := by
    intro u hu; simp [State.drain, hu]
  have c0 : s.privetBack = s := by unfold State.privetBack; rw [h0]
  unfold State.settle
  rw [c0, d h1]
  have c1 : s.confirm = s := by unfold State.confirm; rw [if_neg]; intro h; exact h2 ⟨h.1, h.2.1⟩
  rw [c1]
  have c2 : s.lockCheck = s := by unfold State.lockCheck foldS; rw [h3]; rfl
  rw [c2]
  have c3 : s.flushEth = s := by unfold State.flushEth; rw [h4]; rfl
  rw [c3, d h1]
  have c4 : s.sleepPhase = s := by
    unfold State.sleepPhase; simp only []; rw [if_pos h5]
  have c5 : s.releaseActs = s := by
    unfold State.releaseActs; rw [if_neg]; rintro ⟨a, b⟩; exact h6.elim a (fun h => h b)
  rw [c4, c5, d h1]

end Sys2Proof.Machine
end

