-- ==== Sys2Proof/Laws/Keeps.lean ====
section
/-!
SUPPORT. Laws/Keeps.lean: memory operations keep the canonical form, and what the lemmas of Laws/Keeps1 to Keeps9 rest on:
`State.Keeps l s` (memory is canonical, the commands `l` wait) is kept by every operation on the state.
-/
namespace Sys2Proof.Machine

open Host

/-! ## Memory -/

theorem Memory.wfFrom_mono {m : List Cell} {lo lo' : Nat} (h : Memory.wfFrom lo m = true) (hl : lo' ≤ lo) : Memory.wfFrom lo' m = true := by
  cases m with
  | nil => rfl
  | cons c m =>
    obtain ⟨k, x⟩ := c
    simp only [Memory.wfFrom, Bool.and_eq_true, decide_eq_true_eq] at h ⊢
    exact ⟨⟨Nat.le_trans hl h.1.1, h.1.2⟩, h.2⟩

theorem Memory.put_wfFrom (b : Byte) : ∀ {m : List Cell} {a lo : Nat}, lo ≤ a → Memory.wfFrom lo m = true → Memory.wfFrom lo (Memory.put a b m) = true
  | [], a, lo, ha, _ => by
    unfold Memory.put
    split
    · rfl
    · simp_all [Memory.wfFrom]
  | (k, x) :: l, a, lo, ha, h => by
    have hw := h
    simp only [Memory.wfFrom, Bool.and_eq_true, decide_eq_true_eq] at h
    unfold Memory.put
    split
    · split
      · exact hw
      · simp only [Memory.wfFrom, Bool.and_eq_true, decide_eq_true_eq]
        exact ⟨⟨ha, by assumption⟩, ⟨by omega, h.1.2⟩, h.2⟩
    · split
      · split
        · exact Memory.wfFrom_mono h.2 (by omega)
        · simp only [Memory.wfFrom, Bool.and_eq_true, decide_eq_true_eq]
          exact ⟨⟨ha, by assumption⟩, Memory.wfFrom_mono h.2 (by omega)⟩
      · simp only [Memory.wfFrom, Bool.and_eq_true, decide_eq_true_eq]
        exact ⟨h.1, Memory.put_wfFrom b (by omega) h.2⟩

/-- A write of one byte keeps the canonical form. -/
theorem Memory.put_wf {m : List Cell} (a : Nat) (b : Byte) (h : Memory.wf m = true) : Memory.wf (Memory.put a b m) = true :=
  Memory.put_wfFrom b (Nat.zero_le a) h

/-- A write of a byte string keeps it. -/
theorem Memory.write_wf (bs : List Byte) : ∀ {m : List Cell} {a : Nat}, Memory.wf m = true → Memory.wf (Memory.write m a bs) = true := by
  induction bs with
  | nil => intro m a h; exact h
  | cons b bs ih => intro m a h; exact ih (Memory.put_wf a b h)

theorem Memory.filter_wfFrom (p : Cell → Bool) : ∀ {m : List Cell} {lo : Nat}, Memory.wfFrom lo m = true → Memory.wfFrom lo (m.filter p) = true
  | [], _, _ => rfl
  | (k, x) :: l, lo, h => by
    simp only [Memory.wfFrom, Bool.and_eq_true, decide_eq_true_eq] at h
    have hr := Memory.filter_wfFrom p h.2
    simp only [List.filter]
    split
    · simp only [Memory.wfFrom, Bool.and_eq_true, decide_eq_true_eq]; exact ⟨h.1, hr⟩
    · exact Memory.wfFrom_mono hr (by omega)

/-- Zeroing a range keeps it. -/
theorem Memory.zero_wf {m : List Cell} (a n : Nat) (h : Memory.wf m = true) : Memory.wf (Memory.zero m a n) = true :=
  Memory.filter_wfFrom _ h

/-- What is read at an address after a byte is put there, and elsewhere. -/
theorem Memory.byte_below : ∀ {m : List Cell} {a lo : Nat}, Memory.wfFrom lo m = true → a < lo → Memory.byte m a = Memory.unlisted
  | [], _, _, _, _ => rfl
  | (k, x) :: l, a, lo, h, ha => by
    simp only [Memory.wfFrom, Bool.and_eq_true, decide_eq_true_eq] at h
    simp only [Memory.byte]
    rw [if_neg (by omega)]
    exact Memory.byte_below h.2 (by omega)

theorem Memory.byte_put (b : Byte) : ∀ {m : List Cell} {a c lo : Nat}, Memory.wfFrom lo m = true →
    Memory.byte (Memory.put a b m) c = if c = a then b else Memory.byte m c
  | [], a, c, _, _ => by
    unfold Memory.put
    split
    · next hb => subst hb; split <;> rfl
    · simp only [Memory.byte, eq_comm]
  | (k, x) :: l, a, c, lo, h => by
    simp only [Memory.wfFrom, Bool.and_eq_true, decide_eq_true_eq] at h
    unfold Memory.put
    split
    · next hk =>
      split
      · next hb =>
        subst hb
        split
        · next hc => subst hc; simp only [Memory.byte]; rw [if_neg (by omega)]; exact Memory.byte_below h.2 (by omega)
        · rfl
      · simp only [Memory.byte, eq_comm]
    · next hk =>
      split
      · next he =>
        subst he
        split
        · next hb =>
          subst hb
          split
          · next hc => subst hc; exact Memory.byte_below h.2 (by omega)
          · next hc => simp only [Memory.byte]; rw [if_neg (fun e => hc e.symm)]
        · simp only [Memory.byte]
          split
          · next hc => rw [if_pos hc.symm]
          · next hc => rw [if_neg (fun e => hc e.symm)]
      · next he =>
        have hr := Memory.byte_put b (a := a) (c := c) h.2
        simp only [Memory.byte]
        split
        · next hc => rw [if_neg (by omega)]
        · rw [hr]

/-! ## What operations on the state keep -/

/-- The state that a body's outcome leaves, where it leaves one. -/
def Res.Keeps (l : List Instr) : Res → Prop
  | .done _ _ s => s.Keeps l
  | .later _ _ s => s.Keeps l
  | _ => True

/-- The steps of a command keep it. -/
structure CmdDef.Keeps (l : List Instr) (d : CmdDef) : Prop where
  keeps : ∀ c s, State.Keeps l s → Res.Keeps l (d.body c s)

section
variable {l : List Instr}

theorem body_keeps {d : CmdDef} {b : Cmd → State → Res} (e : d.body = b) (h : ∀ c s, State.Keeps l s → Res.Keeps l (b c s)) :
    CmdDef.Keeps l d := by
  subst e; exact ⟨h⟩
theorem State.mk_keeps {now regs hold mem bus free tb irq dev devSince own mbx fab cyc swc tsn can lin gwy brg slp hdg prt pairs hwn flt cfg boot upd sup pending}
    (h : Memory.wf mem = true ∧ pending = l) :
    State.Keeps l (State.mk now regs hold mem bus free tb irq dev devSince own mbx fab cyc swc tsn can lin gwy brg slp hdg prt pairs hwn flt cfg boot upd sup pending) := h
/-- An update of other fields. -/
theorem State.upd_keeps {now regs hold bus free tb irq dev devSince own mbx fab cyc swc tsn can lin gwy brg slp hdg prt pairs hwn flt cfg boot upd sup}
    {s : State} (h : State.Keeps l s) :
    State.Keeps l (State.mk now regs hold s.mem bus free tb irq dev devSince own mbx fab cyc swc tsn can lin gwy brg slp hdg prt pairs hwn flt cfg boot upd sup s.pending) := h
theorem ite_keeps {c : Prop} [Decidable c] {a b : State} (ha : State.Keeps l a) (hb : State.Keeps l b) : State.Keeps l (if c then a else b) := by
  split <;> assumption
theorem ite_snd_keeps {α : Type} {c : Prop} [Decidable c] {a b : α × State} (ha : State.Keeps l a.2) (hb : State.Keeps l b.2) :
    State.Keeps l (if c then a else b).2 := by
  split <;> assumption
theorem ite_snd2_keeps {α β : Type} {c : Prop} [Decidable c] {a b : α × β × State} (ha : State.Keeps l a.2.2) (hb : State.Keeps l b.2.2) :
    State.Keeps l (if c then a else b).2.2 := by
  split <;> assumption
theorem opt_none_keeps {u : State} : none = some u → State.Keeps l u := fun h => by cases h
theorem opt_some_keeps {s u : State} (h : State.Keeps l s) : some s = some u → State.Keeps l u := fun e => by cases e; exact h
theorem opt_ite_keeps {c : Prop} [Decidable c] {a b : Option State} {u : State} (ha : a = some u → State.Keeps l u) (hb : b = some u → State.Keeps l u) :
    (if c then a else b) = some u → State.Keeps l u := by
  split <;> assumption
theorem opt_some_keeps' {s u : State} (h : State.Keeps l s) : some s = some u → State.Keeps l u := opt_some_keeps h
theorem opt_ite_keeps' {c : Prop} [Decidable c] {a b : Option State} {u : State} {P : Prop} (ha : a = some u → State.Keeps l u)
    (hb : b = some u → State.Keeps l u) (hk : State.Keeps l u → P) : (if c then a else b) = some u → P := fun e =>
  hk (opt_ite_keeps ha hb e)
theorem res_ite_keeps {c : Prop} [Decidable c] {a b : Res} (ha : Res.Keeps l a) (hb : Res.Keeps l b) : Res.Keeps l (if c then a else b) := by
  split <;> assumption
theorem Res.refuse_keeps {st : Nat} : Res.Keeps l (.refuse st) := trivial
theorem Res.wait_keeps {p : Phase} : Res.Keeps l (.wait p) := trivial
theorem Res.done_keeps {st : Nat} {pl : List Byte} {s : State} (h : State.Keeps l s) : Res.Keeps l (.done st pl s) := h
theorem Res.later_keeps {p : Phase} {x : Nat} {s : State} (h : State.Keeps l s) : Res.Keeps l (.later p x s) := h
theorem foldS_keeps {α : Type} {xs : List α} {f : α → State → State} : ∀ {s : State}, State.Keeps l s →
    (∀ x u, State.Keeps l u → State.Keeps l (f x u)) → State.Keeps l (foldS xs f s) := by
  unfold foldS
  induction xs with
  | nil => intro s h _; exact h
  | cons x xs ih => intro s h hf; exact ih (hf x s h) hf
theorem onlyIf_keeps {c : Bool} {f : State → State} {s : State} (h : State.Keeps l s) (hf : ∀ u, State.Keeps l u → State.Keeps l (f u)) :
    State.Keeps l (onlyIf c f s) := by
  unfold onlyIf; split
  · exact hf s h
  · exact h

end

end Sys2Proof.Machine
end

