-- ==== Sys2Proof/Laws/Memory.lean ====
section
/-!
SUPPORT. Laws/Memory.lean: reading memory after a write.
-/
namespace Sys2Proof.Machine

open Host

/-- A byte outside the bytes written. -/
theorem Memory.byte_write_out {c : Nat} : ∀ (l : List Byte) {m : List Cell} {a : Nat}, Memory.wf m = true → c < a ∨ a + l.length ≤ c →
    Memory.byte (Memory.write m a l) c = Memory.byte m c
  | [], _, _, _, _ => rfl
  | b :: l, m, a, hm, h => by
    have hl : (b :: l).length = l.length + 1 := rfl
    rw [Memory.write, Memory.byte_write_out l (Memory.put_wf a b hm) (by omega), Memory.byte_put b (lo := 0) hm]
    rw [if_neg (by omega)]

/-- A byte that a write wrote. -/
theorem Memory.byte_write_in : ∀ (l : List Byte) {m : List Cell} {a i : Nat}, Memory.wf m = true → i < l.length →
    Memory.byte (Memory.write m a l) (a + i) = l.getD i 0
  | [], _, _, _, _, h => absurd h (by simp)
  | b :: l, m, a, i, hm, h => by
    have hl : (b :: l).length = l.length + 1 := rfl
    cases i with
    | zero =>
      rw [Memory.write, Memory.byte_write_out l (Memory.put_wf a b hm) (by omega), Memory.byte_put b (lo := 0) hm]
      simp
    | succ i =>
      have e : a + (i + 1) = a + 1 + i := by omega
      rw [Memory.write, e, Memory.byte_write_in l (Memory.put_wf a b hm) (by omega)]
      simp

/-- Reading byte by byte. -/
theorem Memory.read_eq (m : List Cell) : ∀ (n a : Nat) (l : List Byte), l.length = n → (∀ i, i < n → Memory.byte m (a + i) = l.getD i 0) →
    Memory.read m a n = l
  | 0, _, l, h, _ => by rw [List.length_eq_zero_iff.mp h]; rfl
  | n + 1, a, [], h, _ => absurd h (by simp)
  | n + 1, a, b :: l, h, hb => by
    rw [Memory.read, show Memory.byte m a = _ from hb 0 (by omega), Memory.read_eq m n (a + 1) l (by simpa using h) (fun i hi => by
      have := hb (i + 1) (by omega)
      rw [show a + 1 + i = a + (i + 1) by omega, this]; simp)]
    simp

/-- What a write wrote reads back. -/
theorem Memory.read_write {m : List Cell} (a : Nat) (l : List Byte) (h : Memory.wf m = true) : Memory.read (Memory.write m a l) a l.length = l :=
  Memory.read_eq _ _ _ _ rfl (fun _ hi => Memory.byte_write_in l h hi)

end Sys2Proof.Machine
end

