-- ==== Sys2Proof/Laws/Account.lean ====
section
/-!
SUPPORT. Laws/Account.lean: what charging a partition's DRAM account, memory traffic, taking a request and posting a response leave as it is.
-/
namespace Sys2Proof.Machine

/-- A charge changes nothing, or the account of a partition, or that account and its throttle count. -/
theorem State.dramCharge_cases (s : State) (w a n : Nat) :
    (s.dramCharge w a n = s ∧ ¬(w < 16 ∧ inDram a = true)) ∨
    ∃ p, w < 16 ∧ inDram a = true ∧
      (s.dramCharge w a n = { s with prt := p } ∨ s.dramCharge w a n = ({ s with prt := p } : State).inc (F.MPC_PART_RSTAT_THROTTLES w)) := by
  unfold State.dramCharge
  by_cases h : w < 16 ∧ inDram a = true
  · right
    simp only [h, and_self, if_true]
    split
    · exact ⟨_, trivial, trivial, Or.inr rfl⟩
    · exact ⟨_, trivial, trivial, Or.inl rfl⟩
  · left; simp only [h, if_false]; simp

/-- A charge of DEVICE or the secure world, or outside DRAM, changes nothing. -/
theorem State.dramCharge_none (s : State) {w a : Nat} (n : Nat) (h : 16 ≤ w ∨ inDram a = false) : s.dramCharge w a n = s := by
  unfold State.dramCharge; rw [if_neg]; rintro ⟨h1, h2⟩; rcases h with h | h
  · omega
  · rw [h] at h2; cases h2

theorem State.dramCharge_word (s : State) {w b : Nat} (a n : Nat) (h : b ≠ R.MPC_PART_RSTAT w) : (s.dramCharge w a n).word b = s.word b := by
  obtain ⟨h1, _⟩ | ⟨p, _, _, h1 | h1⟩ := s.dramCharge_cases w a n
  · rw [h1]
  · rw [h1]; rfl
  · rw [h1]; exact State.word_wr_ne _ _ _ h

theorem State.dramCharge_eq (s : State) (w a n : Nat) :
    s.dramCharge w a n = { s with regs := (s.dramCharge w a n).regs, prt := (s.dramCharge w a n).prt } := by
  obtain ⟨h1, _⟩ | ⟨p, _, _, h1 | h1⟩ := s.dramCharge_cases w a n
  · rw [h1]
  · rw [h1]
  · rw [h1]; rfl

@[simp] theorem State.dramCharge_now (s : State) (w a n : Nat) : (s.dramCharge w a n).now = s.now := by rw [s.dramCharge_eq]
@[simp] theorem State.dramCharge_hold (s : State) (w a n : Nat) : (s.dramCharge w a n).hold = s.hold := by rw [s.dramCharge_eq]
@[simp] theorem State.dramCharge_mem (s : State) (w a n : Nat) : (s.dramCharge w a n).mem = s.mem := by rw [s.dramCharge_eq]
@[simp] theorem State.dramCharge_bus (s : State) (w a n : Nat) : (s.dramCharge w a n).bus = s.bus := by rw [s.dramCharge_eq]
@[simp] theorem State.dramCharge_free (s : State) (w a n : Nat) : (s.dramCharge w a n).free = s.free := by rw [s.dramCharge_eq]
@[simp] theorem State.dramCharge_tb (s : State) (w a n : Nat) : (s.dramCharge w a n).tb = s.tb := by rw [s.dramCharge_eq]
@[simp] theorem State.dramCharge_irq (s : State) (w a n : Nat) : (s.dramCharge w a n).irq = s.irq := by rw [s.dramCharge_eq]
@[simp] theorem State.dramCharge_dev (s : State) (w a n : Nat) : (s.dramCharge w a n).dev = s.dev := by rw [s.dramCharge_eq]
@[simp] theorem State.dramCharge_devSince (s : State) (w a n : Nat) : (s.dramCharge w a n).devSince = s.devSince := by rw [s.dramCharge_eq]
@[simp] theorem State.dramCharge_own (s : State) (w a n : Nat) : (s.dramCharge w a n).own = s.own := by rw [s.dramCharge_eq]
@[simp] theorem State.dramCharge_mbx (s : State) (w a n : Nat) : (s.dramCharge w a n).mbx = s.mbx := by rw [s.dramCharge_eq]
@[simp] theorem State.dramCharge_fab (s : State) (w a n : Nat) : (s.dramCharge w a n).fab = s.fab := by rw [s.dramCharge_eq]
@[simp] theorem State.dramCharge_cyc (s : State) (w a n : Nat) : (s.dramCharge w a n).cyc = s.cyc := by rw [s.dramCharge_eq]
@[simp] theorem State.dramCharge_swc (s : State) (w a n : Nat) : (s.dramCharge w a n).swc = s.swc := by rw [s.dramCharge_eq]
@[simp] theorem State.dramCharge_tsn (s : State) (w a n : Nat) : (s.dramCharge w a n).tsn = s.tsn := by rw [s.dramCharge_eq]
@[simp] theorem State.dramCharge_can (s : State) (w a n : Nat) : (s.dramCharge w a n).can = s.can := by rw [s.dramCharge_eq]
@[simp] theorem State.dramCharge_lin (s : State) (w a n : Nat) : (s.dramCharge w a n).lin = s.lin := by rw [s.dramCharge_eq]
@[simp] theorem State.dramCharge_gwy (s : State) (w a n : Nat) : (s.dramCharge w a n).gwy = s.gwy := by rw [s.dramCharge_eq]
@[simp] theorem State.dramCharge_brg (s : State) (w a n : Nat) : (s.dramCharge w a n).brg = s.brg := by rw [s.dramCharge_eq]
@[simp] theorem State.dramCharge_slp (s : State) (w a n : Nat) : (s.dramCharge w a n).slp = s.slp := by rw [s.dramCharge_eq]
@[simp] theorem State.dramCharge_hdg (s : State) (w a n : Nat) : (s.dramCharge w a n).hdg = s.hdg := by rw [s.dramCharge_eq]
@[simp] theorem State.dramCharge_pairs (s : State) (w a n : Nat) : (s.dramCharge w a n).pairs = s.pairs := by rw [s.dramCharge_eq]
@[simp] theorem State.dramCharge_hwn (s : State) (w a n : Nat) : (s.dramCharge w a n).hwn = s.hwn := by rw [s.dramCharge_eq]
@[simp] theorem State.dramCharge_flt (s : State) (w a n : Nat) : (s.dramCharge w a n).flt = s.flt := by rw [s.dramCharge_eq]
@[simp] theorem State.dramCharge_cfg (s : State) (w a n : Nat) : (s.dramCharge w a n).cfg = s.cfg := by rw [s.dramCharge_eq]
@[simp] theorem State.dramCharge_boot (s : State) (w a n : Nat) : (s.dramCharge w a n).boot = s.boot := by rw [s.dramCharge_eq]
@[simp] theorem State.dramCharge_upd (s : State) (w a n : Nat) : (s.dramCharge w a n).upd = s.upd := by rw [s.dramCharge_eq]
@[simp] theorem State.dramCharge_sup (s : State) (w a n : Nat) : (s.dramCharge w a n).sup = s.sup := by rw [s.dramCharge_eq]
@[simp] theorem State.dramCharge_pending (s : State) (w a n : Nat) : (s.dramCharge w a n).pending = s.pending := by rw [s.dramCharge_eq]

/-! ## Memory traffic -/

/-- One state differs from another in DRAM accounts, the cache, throttle counts and what has been drawn, at most. -/
def State.AccountsOnly (s u : State) : Prop :=
  (∃ r p n, u = { s with regs := r, prt := p, free := n }) ∧ ∀ b, (∀ v, v < 16 → b ≠ R.MPC_PART_RSTAT v) → u.word b = s.word b

theorem State.AccountsOnly.trans {s u v : State} (h1 : s.AccountsOnly u) (h2 : u.AccountsOnly v) : s.AccountsOnly v := by
  obtain ⟨⟨r, p, n, e1⟩, w1⟩ := h1
  obtain ⟨⟨r', p', n', e2⟩, w2⟩ := h2
  exact ⟨⟨r', p', n', by rw [e2, e1]⟩, fun b hb => (w2 b hb).trans (w1 b hb)⟩

theorem State.AccountsOnly.prt (s : State) (p : Parts) : s.AccountsOnly { s with prt := p } := ⟨⟨_, p, _, rfl⟩, fun _ _ => rfl⟩

theorem State.AccountsOnly.fold {α : Type} (f : α → State → State) (hf : ∀ x s, State.AccountsOnly s (f x s)) :
    ∀ (l : List α) (s : State), s.AccountsOnly (foldS l f s)
  | [], s => State.AccountsOnly.prt s s.prt
  | x :: l, s => (hf x s).trans (State.AccountsOnly.fold f hf l (f x s))

theorem State.dramCharge_accounts (s : State) (w a n : Nat) : s.AccountsOnly (s.dramCharge w a n) := by
  refine ⟨⟨_, _, _, s.dramCharge_eq w a n⟩, fun b hb => ?_⟩
  by_cases hw : w < 16
  · exact s.dramCharge_word a n (hb w hw)
  · rw [s.dramCharge_none n (Or.inl (by omega))]

theorem State.placeLine_accounts (s : State) (who l : Nat) (store : Bool) (ways : List Nat) :
    s.AccountsOnly (s.placeLine who l store ways) := by
  have h : s.AccountsOnly (s.draw (ways.length - 1)).2 := ⟨⟨_, _, _, rfl⟩, fun _ _ => rfl⟩
  exact (h.trans (State.AccountsOnly.fold _ (fun e s => s.dramCharge_accounts ..) _ _)).trans (State.AccountsOnly.prt ..)

theorem State.touchLine_accounts (s : State) (who l n : Nat) (store : Bool) : s.AccountsOnly (s.touchLine who l n store) := by
  unfold State.touchLine
  split
  · split <;> exact State.AccountsOnly.prt ..
  · split
    · exact s.dramCharge_accounts ..
    · exact (s.dramCharge_accounts ..).trans (State.placeLine_accounts ..)

/-- What an access moves changes the accounts and the cache only. -/
theorem State.traffic_accounts (s : State) (a : Acc) (store : Bool) (addr len : Nat) : s.AccountsOnly (s.traffic a store addr len) := by
  unfold State.traffic
  split
  · exact State.AccountsOnly.fold _ (fun l s => s.touchLine_accounts ..) _ _
  · exact s.dramCharge_accounts ..

@[simp] theorem State.traffic_now (s : State) (a : Acc) (store : Bool) (addr len : Nat) : (s.traffic a store addr len).now = s.now := by
  obtain ⟨⟨_, _, _, e⟩, _⟩ := s.traffic_accounts a store addr len; rw [e]
@[simp] theorem State.traffic_mem (s : State) (a : Acc) (store : Bool) (addr len : Nat) : (s.traffic a store addr len).mem = s.mem := by
  obtain ⟨⟨_, _, _, e⟩, _⟩ := s.traffic_accounts a store addr len; rw [e]
@[simp] theorem State.traffic_bus (s : State) (a : Acc) (store : Bool) (addr len : Nat) : (s.traffic a store addr len).bus = s.bus := by
  obtain ⟨⟨_, _, _, e⟩, _⟩ := s.traffic_accounts a store addr len; rw [e]
@[simp] theorem State.traffic_irq (s : State) (a : Acc) (store : Bool) (addr len : Nat) : (s.traffic a store addr len).irq = s.irq := by
  obtain ⟨⟨_, _, _, e⟩, _⟩ := s.traffic_accounts a store addr len; rw [e]
@[simp] theorem State.traffic_mbx (s : State) (a : Acc) (store : Bool) (addr len : Nat) : (s.traffic a store addr len).mbx = s.mbx := by
  obtain ⟨⟨_, _, _, e⟩, _⟩ := s.traffic_accounts a store addr len; rw [e]
@[simp] theorem State.traffic_own (s : State) (a : Acc) (store : Bool) (addr len : Nat) : (s.traffic a store addr len).own = s.own := by
  obtain ⟨⟨_, _, _, e⟩, _⟩ := s.traffic_accounts a store addr len; rw [e]
@[simp] theorem State.traffic_brg (s : State) (a : Acc) (store : Bool) (addr len : Nat) : (s.traffic a store addr len).brg = s.brg := by
  obtain ⟨⟨_, _, _, e⟩, _⟩ := s.traffic_accounts a store addr len; rw [e]
@[simp] theorem State.traffic_flt (s : State) (a : Acc) (store : Bool) (addr len : Nat) : (s.traffic a store addr len).flt = s.flt := by
  obtain ⟨⟨_, _, _, e⟩, _⟩ := s.traffic_accounts a store addr len; rw [e]
@[simp] theorem State.traffic_pending (s : State) (a : Acc) (store : Bool) (addr len : Nat) : (s.traffic a store addr len).pending = s.pending := by
  obtain ⟨⟨_, _, _, e⟩, _⟩ := s.traffic_accounts a store addr len; rw [e]

/-- An access that bypasses the cache charges its holder. -/
theorem State.traffic_uncached (s : State) {a : Acc} (store : Bool) {addr : Nat} (len : Nat) (h : s.cached a addr = false) :
    s.traffic a store addr len = s.dramCharge (accWho a) addr len := by
  unfold State.traffic; rw [h]; rfl

/-! ## Taking a request -/

theorem State.store_mem (s : State) (a : Nat) (l : List Byte) : (s.store a l).mem = Memory.write s.mem a l := rfl

theorem State.take_eq (s : State) (w : Nat) :
    s.take w = { s with
      regs := (s.take w).regs, prt := (s.take w).prt, mbx := { s.mbx with stat := (s.take w).mbx.stat, owed := (s.turn w).mbx.owed } } := by
  have h : ∃ x p m, s.take w = { s with regs := x, prt := p, mbx := { s.mbx with stat := m, owed := (s.turn w).mbx.owed } } := by
    unfold State.take
    have e : s.turn w = { s with mbx := { s.mbx with owed := (s.turn w).mbx.owed } } := rfl
    generalize (s.turn w).mbx.owed = z at e ⊢
    rw [e]
    generalize hq : ({ s with mbx := { s.mbx with owed := z } } : State) = q
    dsimp only
    rw [q.dramCharge_eq]
    subst hq
    exact ⟨_, _, _, rfl⟩
  obtain ⟨x, p, m, h⟩ := h
  rw [h]

theorem State.word_mbx (s : State) (m : Mbx) (b : Nat) : ({ s with mbx := m } : State).word b = s.word b := rfl

theorem State.rd_mbx (s : State) (m : Mbx) (f : Fld) : ({ s with mbx := m } : State).rd f = s.rd f := rfl

theorem State.take_word (s : State) {w b : Nat} (h1 : b ≠ R.MBX_REQ_CONS w) (h2 : b ≠ R.MBX_STATUS w) (h3 : b ≠ R.MPC_PART_RSTAT w) :
    (s.take w).word b = s.word b := by
  unfold State.take State.inc
  dsimp only
  rw [State.word_mbx, State.word_wr_ne _ _ _ h2, State.word_wr_ne _ _ _ h1, State.dramCharge_word _ _ _ h3]
  rfl

@[simp] theorem State.take_mem (s : State) (w : Nat) : (s.take w).mem = s.mem := by rw [State.take_eq]
@[simp] theorem State.take_now (s : State) (w : Nat) : (s.take w).now = s.now := by rw [State.take_eq]
@[simp] theorem State.take_hold (s : State) (w : Nat) : (s.take w).hold = s.hold := by rw [State.take_eq]
@[simp] theorem State.take_bus (s : State) (w : Nat) : (s.take w).bus = s.bus := by rw [State.take_eq]
@[simp] theorem State.take_free (s : State) (w : Nat) : (s.take w).free = s.free := by rw [State.take_eq]
@[simp] theorem State.take_tb (s : State) (w : Nat) : (s.take w).tb = s.tb := by rw [State.take_eq]
@[simp] theorem State.take_irq (s : State) (w : Nat) : (s.take w).irq = s.irq := by rw [State.take_eq]
@[simp] theorem State.take_dev (s : State) (w : Nat) : (s.take w).dev = s.dev := by rw [State.take_eq]
@[simp] theorem State.take_devSince (s : State) (w : Nat) : (s.take w).devSince = s.devSince := by rw [State.take_eq]
@[simp] theorem State.take_own (s : State) (w : Nat) : (s.take w).own = s.own := by rw [State.take_eq]
@[simp] theorem State.take_fab (s : State) (w : Nat) : (s.take w).fab = s.fab := by rw [State.take_eq]
@[simp] theorem State.take_cyc (s : State) (w : Nat) : (s.take w).cyc = s.cyc := by rw [State.take_eq]
@[simp] theorem State.take_swc (s : State) (w : Nat) : (s.take w).swc = s.swc := by rw [State.take_eq]
@[simp] theorem State.take_tsn (s : State) (w : Nat) : (s.take w).tsn = s.tsn := by rw [State.take_eq]
@[simp] theorem State.take_can (s : State) (w : Nat) : (s.take w).can = s.can := by rw [State.take_eq]
@[simp] theorem State.take_lin (s : State) (w : Nat) : (s.take w).lin = s.lin := by rw [State.take_eq]
@[simp] theorem State.take_gwy (s : State) (w : Nat) : (s.take w).gwy = s.gwy := by rw [State.take_eq]
@[simp] theorem State.take_brg (s : State) (w : Nat) : (s.take w).brg = s.brg := by rw [State.take_eq]
@[simp] theorem State.take_slp (s : State) (w : Nat) : (s.take w).slp = s.slp := by rw [State.take_eq]
@[simp] theorem State.take_hdg (s : State) (w : Nat) : (s.take w).hdg = s.hdg := by rw [State.take_eq]
@[simp] theorem State.take_pairs (s : State) (w : Nat) : (s.take w).pairs = s.pairs := by rw [State.take_eq]
@[simp] theorem State.take_hwn (s : State) (w : Nat) : (s.take w).hwn = s.hwn := by rw [State.take_eq]
@[simp] theorem State.take_flt (s : State) (w : Nat) : (s.take w).flt = s.flt := by rw [State.take_eq]
@[simp] theorem State.take_cfg (s : State) (w : Nat) : (s.take w).cfg = s.cfg := by rw [State.take_eq]
@[simp] theorem State.take_boot (s : State) (w : Nat) : (s.take w).boot = s.boot := by rw [State.take_eq]
@[simp] theorem State.take_upd (s : State) (w : Nat) : (s.take w).upd = s.upd := by rw [State.take_eq]
@[simp] theorem State.take_sup (s : State) (w : Nat) : (s.take w).sup = s.sup := by rw [State.take_eq]
@[simp] theorem State.take_pending (s : State) (w : Nat) : (s.take w).pending = s.pending := by rw [State.take_eq]
@[simp] theorem State.take_cmds (s : State) (w : Nat) : (s.take w).mbx.cmds = s.mbx.cmds := by rw [State.take_eq]

/-- The offset of a window's registers. -/
theorem winOff_cases {w : Nat} (h : w ≤ 16) : (w < 16 ∧ winOff w = 0x1000 * w) ∨ (w = 16 ∧ winOff w = 0x50000) := by
  unfold winOff
  by_cases h1 : w < 16
  · left; rw [if_pos h1]; exact ⟨h1, by omega⟩
  · right; rw [if_neg h1]; exact ⟨by omega, rfl⟩

theorem State.take_cons (s : State) {w : Nat} (hw : w ≤ 16) :
    (s.take w).rd (F.MBX_REQ_CONS_CONS w) = (s.rd (F.MBX_REQ_CONS_CONS w) + 1) % 2 ^ 16 := by
  have hw := winOff_cases hw
  have h1 : R.MBX_REQ_CONS w ≠ R.MBX_STATUS w := by unfold R.MBX_REQ_CONS R.MBX_STATUS; omega
  have h2 : R.MBX_REQ_CONS w ≠ R.MPC_PART_RSTAT w := by unfold R.MBX_REQ_CONS R.MPC_PART_RSTAT; omega
  unfold State.take
  dsimp only
  rw [State.rd_mbx, State.rd_wr_reg _ _ h1]
  unfold State.inc
  rw [State.rd_wr_self _ _ _ (Nat.le_of_ble_eq_true rfl)]
  unfold State.rd
  rw [show (F.MBX_REQ_CONS_CONS w).reg = R.MBX_REQ_CONS w from rfl, State.dramCharge_word _ _ _ h2]
  rfl

/-! ## Posting a response -/

theorem State.respond_eq (s : State) (w op tag st done : Nat) (pl : List Byte) : ∃ x p m,
    s.respond w op tag st done pl =
      { s.store (s.rspSlot w) (rspBytes op tag st done pl) with regs := x, prt := p, mbx.stat := m } := by
  unfold State.respond
  generalize hu : s.store (s.rspSlot w) (rspBytes op tag st done pl) = u
  generalize s.rspSlot w = a
  obtain ⟨x, p, h⟩ : ∃ x p, u.dramCharge w a 64 = { u with regs := x, prt := p } := ⟨_, _, State.dramCharge_eq ..⟩
  rw [h]; exact ⟨_, _, _, rfl⟩

@[simp] theorem State.respond_mem (s : State) (w op tag st done : Nat) (pl : List Byte) :
    (s.respond w op tag st done pl).mem = Memory.write s.mem (s.rspSlot w) (rspBytes op tag st done pl) := by
  obtain ⟨_, _, _, h⟩ := s.respond_eq w op tag st done pl; rw [h]; dsimp only; rw [State.store_mem]
@[simp] theorem State.respond_now (s : State) (w op tag st done : Nat) (pl : List Byte) : (s.respond w op tag st done pl).now = s.now := by
  obtain ⟨_, _, _, h⟩ := s.respond_eq w op tag st done pl; rw [h]; rfl
@[simp] theorem State.respond_hold (s : State) (w op tag st done : Nat) (pl : List Byte) : (s.respond w op tag st done pl).hold = s.hold := by
  obtain ⟨_, _, _, h⟩ := s.respond_eq w op tag st done pl; rw [h]; rfl
@[simp] theorem State.respond_bus (s : State) (w op tag st done : Nat) (pl : List Byte) : (s.respond w op tag st done pl).bus = s.bus := by
  obtain ⟨_, _, _, h⟩ := s.respond_eq w op tag st done pl; rw [h]; rfl
@[simp] theorem State.respond_free (s : State) (w op tag st done : Nat) (pl : List Byte) : (s.respond w op tag st done pl).free = s.free := by
  obtain ⟨_, _, _, h⟩ := s.respond_eq w op tag st done pl; rw [h]; rfl
@[simp] theorem State.respond_tb (s : State) (w op tag st done : Nat) (pl : List Byte) : (s.respond w op tag st done pl).tb = s.tb := by
  obtain ⟨_, _, _, h⟩ := s.respond_eq w op tag st done pl; rw [h]; rfl
@[simp] theorem State.respond_irq (s : State) (w op tag st done : Nat) (pl : List Byte) : (s.respond w op tag st done pl).irq = s.irq := by
  obtain ⟨_, _, _, h⟩ := s.respond_eq w op tag st done pl; rw [h]; rfl
@[simp] theorem State.respond_dev (s : State) (w op tag st done : Nat) (pl : List Byte) : (s.respond w op tag st done pl).dev = s.dev := by
  obtain ⟨_, _, _, h⟩ := s.respond_eq w op tag st done pl; rw [h]; rfl
@[simp] theorem State.respond_devSince (s : State) (w op tag st done : Nat) (pl : List Byte) : (s.respond w op tag st done pl).devSince = s.devSince := by
  obtain ⟨_, _, _, h⟩ := s.respond_eq w op tag st done pl; rw [h]; rfl
@[simp] theorem State.respond_own (s : State) (w op tag st done : Nat) (pl : List Byte) : (s.respond w op tag st done pl).own = s.own := by
  obtain ⟨_, _, _, h⟩ := s.respond_eq w op tag st done pl; rw [h]; rfl
@[simp] theorem State.respond_fab (s : State) (w op tag st done : Nat) (pl : List Byte) : (s.respond w op tag st done pl).fab = s.fab := by
  obtain ⟨_, _, _, h⟩ := s.respond_eq w op tag st done pl; rw [h]; rfl
@[simp] theorem State.respond_cyc (s : State) (w op tag st done : Nat) (pl : List Byte) : (s.respond w op tag st done pl).cyc = s.cyc := by
  obtain ⟨_, _, _, h⟩ := s.respond_eq w op tag st done pl; rw [h]; rfl
@[simp] theorem State.respond_swc (s : State) (w op tag st done : Nat) (pl : List Byte) : (s.respond w op tag st done pl).swc = s.swc := by
  obtain ⟨_, _, _, h⟩ := s.respond_eq w op tag st done pl; rw [h]; rfl
@[simp] theorem State.respond_tsn (s : State) (w op tag st done : Nat) (pl : List Byte) : (s.respond w op tag st done pl).tsn = s.tsn := by
  obtain ⟨_, _, _, h⟩ := s.respond_eq w op tag st done pl; rw [h]; rfl
@[simp] theorem State.respond_can (s : State) (w op tag st done : Nat) (pl : List Byte) : (s.respond w op tag st done pl).can = s.can := by
  obtain ⟨_, _, _, h⟩ := s.respond_eq w op tag st done pl; rw [h]; rfl
@[simp] theorem State.respond_lin (s : State) (w op tag st done : Nat) (pl : List Byte) : (s.respond w op tag st done pl).lin = s.lin := by
  obtain ⟨_, _, _, h⟩ := s.respond_eq w op tag st done pl; rw [h]; rfl
@[simp] theorem State.respond_gwy (s : State) (w op tag st done : Nat) (pl : List Byte) : (s.respond w op tag st done pl).gwy = s.gwy := by
  obtain ⟨_, _, _, h⟩ := s.respond_eq w op tag st done pl; rw [h]; rfl
@[simp] theorem State.respond_brg (s : State) (w op tag st done : Nat) (pl : List Byte) : (s.respond w op tag st done pl).brg = s.brg := by
  obtain ⟨_, _, _, h⟩ := s.respond_eq w op tag st done pl; rw [h]; rfl
@[simp] theorem State.respond_slp (s : State) (w op tag st done : Nat) (pl : List Byte) : (s.respond w op tag st done pl).slp = s.slp := by
  obtain ⟨_, _, _, h⟩ := s.respond_eq w op tag st done pl; rw [h]; rfl
@[simp] theorem State.respond_hdg (s : State) (w op tag st done : Nat) (pl : List Byte) : (s.respond w op tag st done pl).hdg = s.hdg := by
  obtain ⟨_, _, _, h⟩ := s.respond_eq w op tag st done pl; rw [h]; rfl
@[simp] theorem State.respond_pairs (s : State) (w op tag st done : Nat) (pl : List Byte) : (s.respond w op tag st done pl).pairs = s.pairs := by
  obtain ⟨_, _, _, h⟩ := s.respond_eq w op tag st done pl; rw [h]; rfl
@[simp] theorem State.respond_hwn (s : State) (w op tag st done : Nat) (pl : List Byte) : (s.respond w op tag st done pl).hwn = s.hwn := by
  obtain ⟨_, _, _, h⟩ := s.respond_eq w op tag st done pl; rw [h]; rfl
@[simp] theorem State.respond_flt (s : State) (w op tag st done : Nat) (pl : List Byte) : (s.respond w op tag st done pl).flt = s.flt := by
  obtain ⟨_, _, _, h⟩ := s.respond_eq w op tag st done pl; rw [h]; rfl
@[simp] theorem State.respond_cfg (s : State) (w op tag st done : Nat) (pl : List Byte) : (s.respond w op tag st done pl).cfg = s.cfg := by
  obtain ⟨_, _, _, h⟩ := s.respond_eq w op tag st done pl; rw [h]; rfl
@[simp] theorem State.respond_boot (s : State) (w op tag st done : Nat) (pl : List Byte) : (s.respond w op tag st done pl).boot = s.boot := by
  obtain ⟨_, _, _, h⟩ := s.respond_eq w op tag st done pl; rw [h]; rfl
@[simp] theorem State.respond_upd (s : State) (w op tag st done : Nat) (pl : List Byte) : (s.respond w op tag st done pl).upd = s.upd := by
  obtain ⟨_, _, _, h⟩ := s.respond_eq w op tag st done pl; rw [h]; rfl
@[simp] theorem State.respond_sup (s : State) (w op tag st done : Nat) (pl : List Byte) : (s.respond w op tag st done pl).sup = s.sup := by
  obtain ⟨_, _, _, h⟩ := s.respond_eq w op tag st done pl; rw [h]; rfl
@[simp] theorem State.respond_pending (s : State) (w op tag st done : Nat) (pl : List Byte) : (s.respond w op tag st done pl).pending = s.pending := by
  obtain ⟨_, _, _, h⟩ := s.respond_eq w op tag st done pl; rw [h]; rfl
@[simp] theorem State.respond_cmds (s : State) (w op tag st done : Nat) (pl : List Byte) : (s.respond w op tag st done pl).mbx.cmds = s.mbx.cmds := by
  obtain ⟨_, _, _, h⟩ := s.respond_eq w op tag st done pl; rw [h]; rfl

theorem State.respond_word (s : State) {w b : Nat} (op tag st done : Nat) (pl : List Byte) (h1 : b ≠ R.MBX_RSP_PROD w)
    (h2 : b ≠ R.MBX_STATUS w) (h3 : b ≠ R.MPC_PART_RSTAT w) : (s.respond w op tag st done pl).word b = s.word b := by
  unfold State.respond State.inc
  dsimp only
  rw [State.word_mbx, State.word_wr_ne _ _ _ h2, State.word_wr_ne _ _ _ h1, State.dramCharge_word _ _ _ h3]; rfl

theorem State.respond_prod (s : State) {w : Nat} (hw : w ≤ 16) (op tag st done : Nat) (pl : List Byte) :
    (s.respond w op tag st done pl).rd (F.MBX_RSP_PROD_PROD w) = (s.rd (F.MBX_RSP_PROD_PROD w) + 1) % 2 ^ 16 := by
  have hw := winOff_cases hw
  have h1 : R.MBX_RSP_PROD w ≠ R.MBX_STATUS w := by unfold R.MBX_RSP_PROD R.MBX_STATUS; omega
  have h2 : R.MBX_RSP_PROD w ≠ R.MPC_PART_RSTAT w := by unfold R.MBX_RSP_PROD R.MPC_PART_RSTAT; omega
  unfold State.respond
  dsimp only
  rw [State.rd_mbx, State.rd_wr_reg _ _ h1]
  unfold State.inc
  rw [State.rd_wr_self _ _ _ (Nat.le_of_ble_eq_true rfl)]
  unfold State.rd
  rw [show (F.MBX_RSP_PROD_PROD w).reg = R.MBX_RSP_PROD w from rfl, State.dramCharge_word _ _ _ h2]
  rfl

/-- A response fills its slot. -/
theorem rspBytes_length (op tag st done : Nat) (pl : List Byte) : (rspBytes op tag st done pl).length = 64 := by
  have h : ∀ n (l : List Byte) o, (slice l o n).length = n := by
    intro n l o; simp only [slice, List.length_append, List.length_replicate, List.length_take]; omega
  have hb : ∀ n v, (bytesLE n v).length = n := by
    intro n; induction n with
    | zero => intro v; rfl
    | succ n ih => intro v; simp [bytesLE, ih]
  simp [rspBytes, h, hb]

end Sys2Proof.Machine
end

