-- ==== Sys2Proof/Laws/Keeps1.lean ====
section
/-!
SUPPORT. Laws/Keeps1.lean: one lemma per operation: it keeps the canonical form of memory and the queue. Here: memory, registers, the mailboxes, the power fabric, the switch core and the cyclic executive.
-/
namespace Sys2Proof.Machine

variable {pq : List Instr}

/-! ## Machine/Ops.lean -/

theorem State.store_keeps {s : State} {a : Nat} {l : List Byte} (hs : State.Keeps pq s) :
    State.Keeps pq (State.store s a l) := by
  exact ⟨Memory.write_wf _ hs.1, hs.2⟩

theorem State.setWord_keeps {s : State} {a : Nat} {w : Word} (hs : State.Keeps pq s) :
    State.Keeps pq (State.setWord s a w) := by
  unfold State.setWord
  repeat' first | with_reducible assumption | (with_reducible apply State.upd_keeps)

theorem State.wr_keeps {s : State} {f : Fld} {v : Nat} (hs : State.Keeps pq s) :
    State.Keeps pq (State.wr s f v) := by
  unfold State.wr
  repeat' first | with_reducible assumption | (with_reducible apply State.setWord_keeps)

theorem State.wrb_keeps {s : State} {f : Fld} {b : Bool} (hs : State.Keeps pq s) :
    State.Keeps pq (State.wrb s f b) := by
  unfold State.wrb
  repeat' first | with_reducible assumption | (with_reducible apply State.wr_keeps)

theorem State.inc_keeps {s : State} {f : Fld} (hs : State.Keeps pq s) :
    State.Keeps pq (State.inc s f) := by
  unfold State.inc
  repeat' first | with_reducible assumption | (with_reducible apply State.wr_keeps)

theorem State.sat_keeps {s : State} {f : Fld} {n : Nat} (hs : State.Keeps pq s) :
    State.Keeps pq (State.sat s f n) := by
  unfold State.sat
  repeat' first | with_reducible assumption | (with_reducible apply State.wr_keeps)

theorem State.setPair_keeps {s : State} {lo : Nat} {hi : Nat} {v : Nat} (hs : State.Keeps pq s) :
    State.Keeps pq (State.setPair s lo hi v) := by
  unfold State.setPair
  repeat' first | with_reducible assumption | (with_reducible apply State.setWord_keeps)

theorem State.resetRegs_keeps {s : State} {lo : Nat} {hi : Nat} (hs : State.Keeps pq s) :
    State.Keeps pq (State.resetRegs s lo hi) := by
  unfold State.resetRegs
  repeat' first | with_reducible assumption | (intro _) | (with_reducible apply State.upd_keeps)

theorem State.at__keeps {s : State} {t : Nat} (hs : State.Keeps pq s) :
    State.Keeps pq (State.at_ s t) := by
  unfold State.at_
  repeat' first | with_reducible assumption | (with_reducible apply State.upd_keeps)

theorem State.draw_keeps {s : State} {bound : Nat} (hs : State.Keeps pq s) :
    State.Keeps pq (State.draw s bound).2 := by
  unfold State.draw
  repeat' first | with_reducible assumption | (with_reducible first | apply ite_snd_keeps | apply ite_snd2_keeps | apply State.upd_keeps)

/-! ## Machine/Flags.lean -/

theorem State.trig_keeps {s : State} {n : Nat} (hs : State.Keeps pq s) :
    State.Keeps pq (State.trig s n) := by
  unfold State.trig
  repeat' first | with_reducible assumption | (with_reducible apply State.upd_keeps)

theorem State.capture_keeps {s : State} {r : Report} (hs : State.Keeps pq s) :
    State.Keeps pq (State.capture s r) := by
  unfold State.capture
  repeat' first | with_reducible assumption | (with_reducible first | apply State.sat_keeps | apply State.setWord_keeps | apply State.wrb_keeps | apply State.wr_keeps | apply State.setPair_keeps | apply ite_keeps) | split | (dsimp only; split) | (with_reducible apply State.upd_keeps)

theorem State.countFault_keeps {s : State} {c : FltClass} (hs : State.Keeps pq s) :
    State.Keeps pq (State.countFault s c) := by
  unfold State.countFault
  repeat' first | with_reducible assumption | (with_reducible apply State.count_keeps) | split | (dsimp only; split) | (with_reducible apply State.upd_keeps)

theorem State.logRec_keeps {s : State} {l : LogRec} (hs : State.Keeps pq s) :
    State.Keeps pq (State.logRec s l) := by
  unfold State.logRec
  repeat' first | with_reducible assumption | (with_reducible apply State.upd_keeps)

theorem State.logFlag_keeps {s : State} {idx : Nat} {f : Nat} (hs : State.Keeps pq s) :
    State.Keeps pq (State.logFlag s idx f) := by
  unfold State.logFlag
  repeat' first | with_reducible assumption | split | (dsimp only; split) | (with_reducible apply State.upd_keeps)

theorem State.noteTimer_keeps {s : State} {h : Nat} (hs : State.Keeps pq s) :
    State.Keeps pq (State.noteTimer s h).2 := by
  unfold State.noteTimer
  repeat' first | with_reducible assumption | (with_reducible first | apply ite_snd_keeps | apply ite_snd2_keeps | apply State.draw_keeps | apply ite_keeps)

theorem State.queueNote_keeps {s : State} {r : Report} {h : Nat} {idx : Nat} (hs : State.Keeps pq s) :
    State.Keeps pq (State.queueNote s r h idx) := by
  unfold State.queueNote
  repeat' first | with_reducible assumption | (with_reducible first | apply State.sat_keeps | apply State.noteTimer_keeps | apply State.logFlag_keeps | apply ite_keeps) | split | (dsimp only; split) | (with_reducible apply State.upd_keeps)

theorem State.restartQuiet_keeps {s : State} {r : Report} (hs : State.Keeps pq s) :
    State.Keeps pq (State.restartQuiet s r) := by
  unfold State.restartQuiet
  repeat' first | with_reducible assumption | (with_reducible first | apply ite_keeps | apply State.upd_keeps)

theorem State.raise_keeps {s : State} {r : Report} (hs : State.Keeps pq s) :
    State.Keeps pq (State.raise s r) := by
  unfold State.raise
  repeat' first | with_reducible assumption | (intro _) | (with_reducible first | apply State.countFault_keeps | apply State.capture_keeps | apply State.restartQuiet_keeps | apply State.logRec_keeps | apply State.queueNote_keeps | apply ite_keeps) | split | (dsimp only; split) | (with_reducible apply State.upd_keeps)

theorem State.countViol_keeps {s : State} {code : Nat} {addr : Nat} (hs : State.Keeps pq s) :
    State.Keeps pq (State.countViol s code addr) := by
  unfold State.countViol
  repeat' first | with_reducible assumption | (with_reducible first | apply State.sat_keeps | apply ite_keeps) | split | (dsimp only; split)

theorem State.accFault_keeps {s : State} {code : Nat} {a : Acc} {ty : Nat} {addr : Nat} (hs : State.Keeps pq s) :
    State.Keeps pq (State.accFault s code a ty addr) := by
  unfold State.accFault
  repeat' first | with_reducible assumption | (with_reducible first | apply State.countViol_keeps | apply State.raise_keeps)

theorem State.ownFault_keeps {s : State} {code : Nat} {c : FltClass} {who : Nat} {obj : Nat} {detail : Nat} (hs : State.Keeps pq s) :
    State.Keeps pq (State.ownFault s code c who obj detail) := by
  unfold State.ownFault
  repeat' first | with_reducible assumption | (with_reducible apply State.raise_keeps)

theorem State.sysFault_keeps {s : State} {code : Nat} {c : FltClass} {obj : Nat} {detail : Nat} (hs : State.Keeps pq s) :
    State.Keeps pq (State.sysFault s code c obj detail) := by
  unfold State.sysFault
  repeat' first | with_reducible assumption | (with_reducible apply State.raise_keeps)

/-! ## Machine/Protect.lean -/

theorem State.modPart_keeps {s : State} {v : Nat} {f : Part → Part} (hs : State.Keeps pq s) :
    State.Keeps pq (State.modPart s v f) := by
  unfold State.modPart
  repeat' first | with_reducible assumption | (intro _) | (with_reducible apply State.upd_keeps)

theorem State.dramCharge_keeps {s : State} {who : Nat} {a : Nat} {n : Nat} (hs : State.Keeps pq s) :
    State.Keeps pq (State.dramCharge s who a n) := by
  unfold State.dramCharge
  repeat' first | with_reducible assumption | (intro _) | (with_reducible first | apply State.modPart_keeps | apply State.inc_keeps | apply ite_keeps | apply State.upd_keeps)

theorem State.placeLine_keeps {s : State} {who : Nat} {l : Nat} {store : Bool} {ways : List Nat} (hs : State.Keeps pq s) :
    State.Keeps pq (State.placeLine s who l store ways) := by
  unfold State.placeLine
  repeat' first | with_reducible assumption | (intro _) | (with_reducible first | apply State.draw_keeps | apply State.dramCharge_keeps | apply State.store_keeps | apply foldS_keeps | apply State.upd_keeps)

theorem State.touchLine_keeps {s : State} {who : Nat} {l : Nat} {n : Nat} {store : Bool} (hs : State.Keeps pq s) :
    State.Keeps pq (State.touchLine s who l n store) := by
  unfold State.touchLine
  repeat' first | with_reducible assumption | (intro _) | (with_reducible first | apply State.store_keeps | apply State.dramCharge_keeps | apply State.placeLine_keeps | apply ite_keeps) | split | (dsimp only; split) | (with_reducible apply State.upd_keeps)

theorem State.traffic_keeps {s : State} {a : Acc} {store : Bool} {addr : Nat} {len : Nat} (hs : State.Keeps pq s) :
    State.Keeps pq (State.traffic s a store addr len) := by
  unfold State.traffic
  repeat' first | with_reducible assumption | (intro _) | (with_reducible first | apply State.touchLine_keeps | apply State.store_keeps | apply State.dramCharge_keeps | apply foldS_keeps | apply ite_keeps)

/-! ## Machine/KeyStore.lean -/

theorem State.setSlot_keeps {s : State} {n : Nat} {k : KeySlot} (hs : State.Keeps pq s) :
    State.Keeps pq (State.setSlot s n k) := by
  unfold State.setSlot
  repeat' first | with_reducible assumption | (with_reducible apply State.upd_keeps)

/-! ## Machine/Operands.lean -/

theorem need_keeps {c : Bool} {st : Nat} {k : Res} (hk : Res.Keeps pq k) :
    Res.Keeps pq (need c st k) := by
  unfold need
  repeat' first | with_reducible assumption | (with_reducible first | apply Res.refuse_keeps | apply Res.done_keeps | apply Res.later_keeps | apply Res.wait_keeps | apply res_ite_keeps | apply ite_keeps)

theorem State.putBuf_keeps {s : State} {c : Cmd} {i : Nat} {l : List Byte} (hs : State.Keeps pq s) :
    State.Keeps pq (State.putBuf s c i l) := by
  unfold State.putBuf
  repeat' first | with_reducible assumption | (with_reducible first | apply State.store_keeps | apply State.dramCharge_keeps)

theorem State.readBufs_keeps {s : State} {c : Cmd} {dirs : List Nat} (hs : State.Keeps pq s) :
    State.Keeps pq (State.readBufs s c dirs) := by
  unfold State.readBufs
  repeat' first | with_reducible assumption | (intro _) | (with_reducible first | apply State.dramCharge_keeps | apply foldS_keeps)

theorem State.respond_keeps {s : State} {w : Nat} {op : Nat} {tag : Nat} {st : Nat} {done : Nat} {pl : List Byte} (hs : State.Keeps pq s) :
    State.Keeps pq (State.respond s w op tag st done pl) := by
  unfold State.respond
  repeat' first | with_reducible assumption | (with_reducible first | apply State.store_keeps | apply State.dramCharge_keeps | apply State.inc_keeps | apply State.wr_keeps | apply State.upd_keeps)

theorem State.hdgSeal_keeps {s : State} {f : HdgFrame} (hs : State.Keeps pq s) :
    State.Keeps pq (State.hdgSeal s f).2 := by
  unfold State.hdgSeal
  repeat' first | with_reducible assumption | (with_reducible first | apply ite_snd_keeps | apply ite_snd2_keeps | apply State.upd_keeps)

theorem State.sendUp_keeps {s : State} {f : HdgFrame} (hs : State.Keeps pq s) :
    State.Keeps pq (State.sendUp s f) := by
  unfold State.sendUp
  repeat' first | with_reducible assumption | (with_reducible first | apply State.sat_keeps | apply ite_keeps | apply State.upd_keeps)

theorem State.sendDn_keeps {s : State} {f : HdgFrame} (hs : State.Keeps pq s) :
    State.Keeps pq (State.sendDn s f) := by
  unfold State.sendDn
  repeat' first | with_reducible assumption | (with_reducible first | apply State.sat_keeps | apply ite_keeps | apply State.upd_keeps)

theorem State.sendHdg_keeps {s : State} {f : HdgFrame} (hs : State.Keeps pq s) :
    State.Keeps pq (State.sendHdg s f) := by
  unfold State.sendHdg
  repeat' first | with_reducible assumption | (with_reducible first | apply State.sendUp_keeps | apply State.sendDn_keeps) | split | (dsimp only; split) | (with_reducible apply State.upd_keeps)

theorem State.respondRemote_keeps {s : State} {node : Nat} {win : Nat} {op : Nat} {tag : Nat} {st : Nat} {done : Nat} {pl : List Byte} (hs : State.Keeps pq s) :
    State.Keeps pq (State.respondRemote s node win op tag st done pl) := by
  unfold State.respondRemote
  repeat' first | with_reducible assumption | (with_reducible first | apply State.hdgSeal_keeps | apply State.sendHdg_keeps)

theorem State.unlist_keeps {s : State} {c : Cmd} (hs : State.Keeps pq s) :
    State.Keeps pq (State.unlist s c) := by
  unfold State.unlist
  repeat' first | with_reducible assumption | (intro _) | (with_reducible apply State.upd_keeps)

theorem State.enlist_keeps {s : State} {c : Cmd} (hs : State.Keeps pq s) :
    State.Keeps pq (State.enlist s c) := by
  unfold State.enlist
  repeat' first | with_reducible assumption | (intro _) | (with_reducible first | apply ite_keeps | apply State.upd_keeps)

theorem State.answerAt_keeps {s : State} {c : Cmd} {st : Nat} {done : Nat} {pl : List Byte} (hs : State.Keeps pq s) :
    State.Keeps pq (State.answerAt s c st done pl) := by
  unfold State.answerAt
  repeat' first | with_reducible assumption | (with_reducible first | apply State.unlist_keeps | apply State.respond_keeps | apply State.respondRemote_keeps | apply ite_keeps)

theorem State.answer_keeps {s : State} {c : Cmd} {st : Nat} {pl : List Byte} (hs : State.Keeps pq s) :
    State.Keeps pq (State.answer s c st pl) := by
  unfold State.answer
  repeat' first | with_reducible assumption | (with_reducible apply State.answerAt_keeps)

theorem State.expire_keeps {s : State} {c : Cmd} (hs : State.Keeps pq s) :
    State.Keeps pq (State.expire s c) := by
  unfold State.expire
  repeat' first | with_reducible assumption | (with_reducible first | apply State.answer_keeps | apply State.unlist_keeps | apply ite_keeps)

theorem settleRes_keeps {s : State} {c : Cmd} {r : Res} (hs : State.Keeps pq s) (hr : Res.Keeps pq r) :
    State.Keeps pq (State.settleRes s c r) := by
  unfold State.settleRes
  cases r with
  | refuse st => exact State.answer_keeps hs
  | done st pl u => exact State.answer_keeps hr
  | wait p =>
    dsimp only
    split
    · exact State.answer_keeps hs
    · exact State.enlist_keeps hs
  | later p x u => exact State.enlist_keeps hr

theorem Res.andThen_keeps {r : Res} {f : State → State} (h : Res.Keeps pq r)
    (hf : ∀ u, State.Keeps pq u → State.Keeps pq (f u)) : Res.Keeps pq (r.andThen f) := by
  cases r with
  | refuse st => exact h
  | wait p => exact h
  | done st pl u => exact hf u h
  | later p x u => exact hf u h

theorem State.runNamed_keeps {s : State} {d : CmdDef} {c : Cmd} (hs : State.Keeps pq s) (hd : CmdDef.Keeps pq d) :
    State.Keeps pq (State.runNamed s d c) := by
  unfold State.runNamed
  refine ite_keeps (State.enlist_keeps hs) ?_
  dsimp only
  refine ite_keeps (State.answer_keeps hs) (ite_keeps (settleRes_keeps hs Res.wait_keeps) (settleRes_keeps hs ?_))
  exact Res.andThen_keeps (hd.keeps _ _ hs) (fun u hu => State.readBufs_keeps hu)

theorem State.runBody_keeps {s : State} {d : CmdDef} {c : Cmd} (hs : State.Keeps pq s) (hd : CmdDef.Keeps pq d) :
    State.Keeps pq (State.runBody s d c) := by
  unfold State.runBody
  repeat' first | with_reducible assumption | (with_reducible first | apply State.runNamed_keeps | apply State.upd_keeps)

theorem State.forward_keeps {s : State} {c : Cmd} (hs : State.Keeps pq s) :
    State.Keeps pq (State.forward s c) := by
  unfold State.forward
  repeat' first | with_reducible assumption | (with_reducible first | apply State.answer_keeps | apply State.enlist_keeps | apply State.hdgSeal_keeps | apply State.sendHdg_keeps | apply ite_keeps) | split | (dsimp only; split) | (with_reducible apply State.upd_keeps)

theorem State.turn_keeps {s : State} {w : Nat} (hs : State.Keeps pq s) :
    State.Keeps pq (State.turn s w) := by
  unfold State.turn
  repeat' first | with_reducible assumption | (intro _) | (with_reducible apply State.upd_keeps)

theorem State.take_keeps {s : State} {w : Nat} (hs : State.Keeps pq s) :
    State.Keeps pq (State.take s w) := by
  unfold State.take
  repeat' first | with_reducible assumption | (with_reducible first | apply State.turn_keeps | apply State.dramCharge_keeps | apply State.inc_keeps | apply State.wr_keeps | apply State.upd_keeps)

theorem State.serve_keeps {s : State} {d : CmdDef} {r : Req} (hs : State.Keeps pq s) (hd : CmdDef.Keeps pq d) :
    State.Keeps pq (State.serve s d r) := by
  unfold State.serve
  repeat' first | with_reducible assumption | (intro _) | (with_reducible first | apply State.at__keeps | apply State.take_keeps | apply State.respond_keeps | apply State.answer_keeps | apply State.runBody_keeps | apply State.enlist_keeps | apply State.forward_keeps | apply ite_keeps | apply State.upd_keeps)

theorem State.serveRemote_keeps {s : State} {d : CmdDef} {c : Cmd} (hs : State.Keeps pq s) (hd : CmdDef.Keeps pq d) :
    State.Keeps pq (State.serveRemote s d c) := by
  unfold State.serveRemote
  repeat' first | with_reducible assumption | (with_reducible first | apply State.answer_keeps | apply State.runBody_keeps | apply ite_keeps)

/-! ## Machine/Fabric.lean -/

theorem State.setObj_keeps {s : State} {x : Nat} {o : Obj} (hs : State.Keeps pq s) :
    State.Keeps pq (State.setObj s x o) := by
  unfold State.setObj
  repeat' first | with_reducible assumption | (with_reducible apply State.upd_keeps)

theorem State.modObj_keeps {s : State} {x : Nat} {f : Obj → Obj} (hs : State.Keeps pq s) :
    State.Keeps pq (State.modObj s x f) := by
  unfold State.modObj
  repeat' first | with_reducible assumption | (intro _) | (with_reducible apply State.setObj_keeps)

theorem State.evtIrq_keeps {s : State} {x : Nat} (hs : State.Keeps pq s) :
    State.Keeps pq (State.evtIrq s x) := by
  unfold State.evtIrq
  repeat' first | with_reducible assumption | (intro _) | (with_reducible first | apply State.trig_keeps | apply foldS_keeps | apply ite_keeps)

theorem State.bumpEvt_keeps {s : State} {x : Nat} (hs : State.Keeps pq s) :
    State.Keeps pq (State.bumpEvt s x) := by
  unfold State.bumpEvt
  repeat' first | with_reducible assumption | (intro _) | (with_reducible first | apply State.modObj_keeps | apply State.evtIrq_keeps | apply State.upd_keeps)

theorem State.legWheel_keeps {s : State} {g : Nat} {fromSt : Nat} {toSt : Nat} (hs : State.Keeps pq s) :
    State.Keeps pq (State.legWheel s g fromSt toSt) := by
  unfold State.legWheel
  repeat' first | with_reducible assumption | (intro _) | (with_reducible first | apply State.toSt_keeps | apply State.modObj_keeps | apply ite_keeps | apply State.upd_keeps)

theorem State.legEdge_keeps {s : State} {g : Nat} {fromSt : Nat} {toSt : Nat} (hs : State.Keeps pq s) :
    State.Keeps pq (State.legEdge s g fromSt toSt) := by
  unfold State.legEdge
  repeat' first | with_reducible assumption | (intro _) | (with_reducible first | apply State.toSt_keeps | apply State.modObj_keeps | apply ite_keeps | apply State.upd_keeps)

theorem State.moveBrg_keeps {s : State} {x : Nat} {to_ : Nat} (hs : State.Keeps pq s) :
    State.Keeps pq (State.moveBrg s x to_) := by
  unfold State.moveBrg
  repeat' first | with_reducible assumption | (intro _) | (with_reducible first | apply State.legWheel_keeps | apply State.legEdge_keeps | apply State.modObj_keeps) | split | (dsimp only; split) | (with_reducible apply State.upd_keeps)

theorem State.toSt_keeps {s : State} {x : Nat} {st : Nat} (hs : State.Keeps pq s) :
    State.Keeps pq (State.toSt s x st) := by
  unfold State.toSt
  repeat' first | with_reducible assumption | (intro _) | (with_reducible first | apply State.settle_keeps | apply State.modObj_keeps | apply ite_keeps | apply State.upd_keeps)

theorem State.quietEdge_keeps {s : State} {x : Nat} {st : Nat} (hs : State.Keeps pq s) :
    State.Keeps pq (State.quietEdge s x st) := by
  unfold State.quietEdge
  repeat' first | with_reducible assumption | (intro _) | (with_reducible first | apply State.modObj_keeps | apply State.toSt_keeps | apply foldS_keeps | apply State.upd_keeps)

theorem State.moveCell_keeps {s : State} {x : Nat} {to_ : Nat} (hs : State.Keeps pq s) :
    State.Keeps pq (State.moveCell s x to_) := by
  unfold State.moveCell
  repeat' first | with_reducible assumption | (with_reducible first | apply State.setObj_keeps | apply State.quietEdge_keeps | apply ite_keeps) | split | (dsimp only; split) | (with_reducible apply State.upd_keeps)

theorem State.cutLegs_keeps {s : State} {x : Nat} (hs : State.Keeps pq s) :
    State.Keeps pq (State.cutLegs s x) := by
  unfold State.cutLegs
  repeat' first | with_reducible assumption | (intro _) | (with_reducible first | apply State.modObj_keeps | apply ite_keeps | apply State.upd_keeps)

theorem State.enterUv_keeps {s : State} {x : Nat} (hs : State.Keeps pq s) :
    State.Keeps pq (State.enterUv s x) := by
  unfold State.enterUv
  repeat' first | with_reducible assumption | (intro _) | (with_reducible first | apply State.cutLegs_keeps | apply State.modObj_keeps | apply State.bumpEvt_keeps | apply State.upd_keeps)

theorem State.moveDirect_keeps {s : State} {x : Nat} {to_ : Nat} (hs : State.Keeps pq s) :
    State.Keeps pq (State.moveDirect s x to_) := by
  unfold State.moveDirect
  repeat' first | with_reducible assumption | (with_reducible first | apply State.enterUv_keeps | apply State.moveBrg_keeps | apply State.moveCell_keeps | apply ite_keeps)

theorem State.move_keeps {s : State} {x : Nat} {to_ : Nat} (hs : State.Keeps pq s) :
    State.Keeps pq (State.move s x to_) := by
  unfold State.move
  repeat' first | with_reducible assumption | (intro _) | (with_reducible first | apply State.modObj_keeps | apply State.moveBrg_keeps | apply State.moveDirect_keeps | apply ite_keeps | apply State.upd_keeps)

theorem State.toGoal_keeps {s : State} {x : Nat} (hs : State.Keeps pq s) :
    State.Keeps pq (State.toGoal s x) := by
  unfold State.toGoal
  repeat' first | with_reducible assumption | (with_reducible apply State.moveDirect_keeps)

theorem State.takeCmd_keeps {s : State} {disp : Bool} {x : Nat} {a : Nat} (hs : State.Keeps pq s) :
    State.Keeps pq (State.takeCmd s disp x a) := by
  unfold State.takeCmd
  repeat' first | with_reducible assumption | (intro _) | (with_reducible first | apply State.modObj_keeps | apply ite_keeps) | split | (dsimp only; split) | (with_reducible apply State.upd_keeps)

theorem State.dropSafe_keeps {s : State} {x : Nat} (hs : State.Keeps pq s) :
    State.Keeps pq (State.dropSafe s x) := by
  unfold State.dropSafe
  repeat' first | with_reducible assumption | (intro _) | (with_reducible first | apply State.modObj_keeps | apply State.upd_keeps)

theorem State.lateFor_keeps {s : State} {x : Nat} {a : Nat} (hs : State.Keeps pq s) :
    State.Keeps pq (State.lateFor s x a) := by
  unfold State.lateFor
  repeat' first | with_reducible assumption | (intro _) | (with_reducible first | apply State.modObj_keeps | apply State.at__keeps | apply State.upd_keeps)

theorem State.startEdge_keeps {s : State} {x : Nat} {a : Nat} {late : Bool} (hs : State.Keeps pq s) :
    State.Keeps pq (State.startEdge s x a late) := by
  unfold State.startEdge
  repeat' first | with_reducible assumption | (intro _) | (with_reducible first | apply State.modObj_keeps | apply State.move_keeps | apply State.upd_keeps)

theorem State.follow_keeps {s : State} {disp : Bool} {x : Nat} {a : Nat} {late : Bool} (hs : State.Keeps pq s) :
    State.Keeps pq (State.follow s disp x a late) := by
  unfold State.follow
  repeat' first | with_reducible assumption | (intro _) | (with_reducible first | apply State.modObj_keeps | apply State.quietEdge_keeps | apply State.lateFor_keeps | apply State.startEdge_keeps | apply ite_keeps) | split | (dsimp only; split) | (with_reducible apply State.upd_keeps)

theorem State.setBy_keeps {s : State} {disp : Bool} {x : Nat} {a : Nat} {late : Bool} (hs : State.Keeps pq s) :
    State.Keeps pq (State.setBy s disp x a late) := by
  unfold State.setBy
  repeat' first | with_reducible assumption | (with_reducible first | apply State.dropSafe_keeps | apply State.toGoal_keeps | apply State.takeCmd_keeps | apply State.follow_keeps | apply ite_keeps)

theorem State.setCmd_keeps {s : State} {x : Nat} {a : Nat} {late : Bool} (hs : State.Keeps pq s) :
    State.Keeps pq (State.setCmd s x a late) := by
  unfold State.setCmd
  repeat' first | with_reducible assumption | (with_reducible apply State.setBy_keeps)

theorem State.dispCmd_keeps {s : State} {x : Nat} {a : Nat} (hs : State.Keeps pq s) :
    State.Keeps pq (State.dispCmd s x a) := by
  unfold State.dispCmd
  repeat' first | with_reducible assumption | (intro _) | (with_reducible first | apply State.dropSafe_keeps | apply State.takeCmd_keeps | apply State.modObj_keeps | apply State.at__keeps | apply State.setBy_keeps | apply ite_keeps | apply State.upd_keeps)

theorem State.noteTrip_keeps {s : State} {x : Nat} {term : Nat} (hs : State.Keeps pq s) :
    State.Keeps pq (State.noteTrip s x term) := by
  unfold State.noteTrip
  repeat' first | with_reducible assumption | (intro _) | (with_reducible apply State.modObj_keeps) | split | (dsimp only; split) | (with_reducible apply State.upd_keeps)

theorem State.sameTrip_keeps {s : State} {x : Nat} {term : Nat} (hs : State.Keeps pq s) :
    State.Keeps pq (State.sameTrip s x term) := by
  unfold State.sameTrip
  repeat' first | with_reducible assumption | (intro _) | (with_reducible first | apply State.modObj_keeps | apply ite_keeps) | split | (dsimp only; split) | (with_reducible apply State.upd_keeps)

theorem State.latch_keeps {s : State} {x : Nat} {cause : Nat} {term : Nat} (hs : State.Keeps pq s) :
    State.Keeps pq (State.latch s x cause term) := by
  unfold State.latch
  repeat' first | with_reducible assumption | (intro _) | (with_reducible first | apply State.noteTrip_keeps | apply State.cutLegs_keeps | apply State.modObj_keeps | apply State.bumpEvt_keeps | apply State.upd_keeps)

theorem State.trip_keeps {s : State} {x : Nat} {cause : Nat} {term : Nat} (hs : State.Keeps pq s) :
    State.Keeps pq (State.trip s x cause term) := by
  unfold State.trip
  repeat' first | with_reducible assumption | (intro _) | (with_reducible first | apply State.noteTrip_keeps | apply State.cutLegs_keeps | apply State.modObj_keeps | apply State.bumpEvt_keeps | apply State.latch_keeps | apply ite_keeps | apply State.upd_keeps)

theorem State.uvOff_keeps {s : State} {x : Nat} (hs : State.Keeps pq s) :
    State.Keeps pq (State.uvOff s x) := by
  unfold State.uvOff
  repeat' first | with_reducible assumption | (intro _) | (with_reducible first | apply State.enterUv_keeps | apply State.modObj_keeps | apply State.toSt_keeps | apply State.bumpEvt_keeps | apply ite_keeps) | split | (dsimp only; split) | (with_reducible apply State.upd_keeps)

theorem State.lostSafe_keeps {s : State} {x : Nat} (hs : State.Keeps pq s) :
    State.Keeps pq (State.lostSafe s x) := by
  unfold State.lostSafe
  repeat' first | with_reducible assumption | (intro _) | (with_reducible first | apply State.modObj_keeps | apply State.bumpEvt_keeps | apply State.at__keeps | apply State.toGoal_keeps | apply ite_keeps | apply State.upd_keeps)

/-! ## Machine/Governor.lean -/

theorem State.shedEdge_keeps {s : State} {at_ : Nat} {x : Nat} (hs : State.Keeps pq s) :
    State.Keeps pq (State.shedEdge s at_ x) := by
  unfold State.shedEdge
  repeat' first | with_reducible assumption | (intro _) | (with_reducible first | apply State.modObj_keeps | apply State.at__keeps | apply State.upd_keeps)

theorem State.shedAll_keeps {s : State} {at_ : Nat} {v : List Nat} (hs : State.Keeps pq s) :
    State.Keeps pq (State.shedAll s at_ v) := by
  unfold State.shedAll
  repeat' first | with_reducible assumption | (intro _) | (with_reducible first | apply State.shedEdge_keeps | apply State.at__keeps | apply foldS_keeps)

theorem State.doShed_keeps {s : State} {x : Nat} (hs : State.Keeps pq s) :
    State.Keeps pq (State.doShed s x) := by
  unfold State.doShed
  repeat' first | with_reducible assumption | (intro _) | (with_reducible first | apply State.modObj_keeps | apply State.at__keeps | apply State.move_keeps | apply State.ownFault_keeps | apply ite_keeps | apply State.upd_keeps)

theorem State.doRestore_keeps {s : State} {x : Nat} (hs : State.Keeps pq s) :
    State.Keeps pq (State.doRestore s x) := by
  unfold State.doRestore
  repeat' first | with_reducible assumption | (intro _) | (with_reducible first | apply State.modObj_keeps | apply State.toGoal_keeps | apply ite_keeps | apply State.upd_keeps)

theorem State.shedOne_keeps {s : State} {f : Option Nat} (hs : State.Keeps pq s) :
    State.Keeps pq (State.shedOne s f) := by
  unfold State.shedOne
  repeat' first | with_reducible assumption | (with_reducible apply State.shedEdge_keeps) | split | (dsimp only; split)

theorem State.applySafe_keeps {s : State} {x : Nat} (hs : State.Keeps pq s) :
    State.Keeps pq (State.applySafe s x) := by
  unfold State.applySafe
  repeat' first | with_reducible assumption | (intro _) | (with_reducible first | apply State.dispCmd_keeps | apply State.modObj_keeps | apply State.shedAll_keeps | apply State.at__keeps | apply ite_keeps) | split | (dsimp only; split) | (with_reducible apply State.upd_keeps)

theorem State.forceSafe_keeps {s : State} {x : Nat} (hs : State.Keeps pq s) :
    State.Keeps pq (State.forceSafe s x) := by
  unfold State.forceSafe
  repeat' first | with_reducible assumption | (intro _) | (with_reducible first | apply State.modObj_keeps | apply State.applySafe_keeps | apply ite_keeps | apply State.upd_keeps)

theorem State.answerEdge_keeps {s : State} {x : Nat} {e : Edge} {st : Nat} (hs : State.Keeps pq s) :
    State.Keeps pq (State.answerEdge s x e st) := by
  unfold State.answerEdge
  repeat' first | with_reducible assumption | (intro _) | (with_reducible first | apply State.at__keeps | apply State.answerAt_keeps | apply ite_keeps) | split | (dsimp only; split)

theorem State.discardEdges_keeps {s : State} {x : Nat} (hs : State.Keeps pq s) :
    State.Keeps pq (State.discardEdges s x) := by
  unfold State.discardEdges
  repeat' first | with_reducible assumption | (intro _) | (with_reducible first | apply State.modObj_keeps | apply State.trig_keeps | apply State.answerEdge_keeps | apply foldS_keeps | apply ite_keeps | apply State.upd_keeps)

theorem State.dispose_keeps {s : State} {x : Nat} (hs : State.Keeps pq s) :
    State.Keeps pq (State.dispose s x) := by
  unfold State.dispose
  repeat' first | with_reducible assumption | (intro _) | (with_reducible first | apply State.discardEdges_keeps | apply State.modObj_keeps | apply State.dispCmd_keeps | apply State.applySafe_keeps | apply ite_keeps | apply State.upd_keeps)

theorem State.dropStanding_keeps {s : State} {x : Nat} (hs : State.Keeps pq s) :
    State.Keeps pq (State.dropStanding s x) := by
  unfold State.dropStanding
  repeat' first | with_reducible assumption | (intro _) | (with_reducible first | apply State.modObj_keeps | apply State.upd_keeps)

theorem State.placeEdge_keeps {s : State} {x : Nat} {e : Edge} {flush : Bool} (hs : State.Keeps pq s) :
    State.Keeps pq (State.placeEdge s x e flush) := by
  unfold State.placeEdge
  repeat' first | with_reducible assumption | (intro _) | (with_reducible first | apply State.modObj_keeps | apply ite_keeps) | split | (dsimp only; split) | (with_reducible apply State.upd_keeps)

theorem State.drive_keeps {s : State} {x : Nat} {a : Nat} {at_ : Nat} {flush : Bool} {v : List Nat} {rise : Nat} (hs : State.Keeps pq s) :
    Res.Keeps pq (State.drive s x a at_ flush v rise) := by
  unfold State.drive
  repeat' first | with_reducible assumption | (intro _) | (with_reducible first | apply State.shedAll_keeps | apply State.at__keeps | apply State.modObj_keeps | apply State.draw_keeps | apply State.placeEdge_keeps | apply Res.refuse_keeps | apply Res.done_keeps | apply Res.later_keeps | apply Res.wait_keeps | apply res_ite_keeps | apply ite_keeps | apply State.upd_keeps)

theorem State.denied_keeps {s : State} {v : Nat} (hs : State.Keeps pq s) :
    State.Keeps pq (State.denied s v) := by
  unfold State.denied
  repeat' first | with_reducible assumption | (with_reducible apply State.inc_keeps)

theorem State.admitDrive_keeps {s : State} {c : Cmd} {x : Nat} {a : Nat} {at_ : Nat} {flush : Bool} (hs : State.Keeps pq s) :
    Res.Keeps pq (State.admitDrive s c x a at_ flush) := by
  unfold State.admitDrive
  repeat' first | with_reducible assumption | (with_reducible first | apply State.drive_keeps | apply State.at__keeps | apply State.denied_keeps | apply Res.refuse_keeps | apply Res.done_keeps | apply Res.later_keeps | apply Res.wait_keeps | apply res_ite_keeps | apply ite_keeps) | split | (dsimp only; split)

theorem State.retryDrive_keeps {s : State} {c : Cmd} {x : Nat} {a : Nat} {at_ : Nat} {flush : Bool} (hs : State.Keeps pq s) :
    State.Keeps pq (State.retryDrive s c x a at_ flush) := by
  have hk : Res.Keeps pq (s.admitDrive { c with req := { c.req with flags := clrBit c.req.flags 1 } } x a at_ flush) := State.admitDrive_keeps hs
  unfold State.retryDrive
  revert hk
  generalize s.admitDrive { c with req := { c.req with flags := clrBit c.req.flags 1 } } x a at_ flush = r
  intro hk
  split
  · exact hs
  · exact settleRes_keeps hs hk

theorem State.denyAwaited_keeps {s : State} {c : Cmd} (hs : State.Keeps pq s) :
    State.Keeps pq (State.denyAwaited s c) := by
  unfold State.denyAwaited
  repeat' first | with_reducible assumption | (intro _) | (with_reducible first | apply State.denied_keeps | apply foldS_keeps)

/-! ## Machine/Switching.lean -/

theorem State.holdEdge_keeps {s : State} {x : Nat} {e : Edge} (hs : State.Keeps pq s) :
    State.Keeps pq (State.holdEdge s x e) := by
  unfold State.holdEdge
  repeat' first | with_reducible assumption | (intro _) | (with_reducible first | apply State.modObj_keeps | apply ite_keeps | apply State.upd_keeps)

theorem State.runLates_keeps {x : Nat} {l : List Edge} : ∀ {s : State}, State.Keeps pq s → State.Keeps pq (State.runLates x l s) := by
  induction l with
  | nil => intro s hs; exact hs
  | cons e l ih =>
    intro s hs
    unfold State.runLates
    dsimp only
    refine ite_keeps (State.modObj_keeps hs) (ite_keeps (ih (State.modObj_keeps hs)) ?_)
    have hd := ite_keeps (c := (s.obj x).dwelling = true) (State.modObj_keeps (x := x) (f := fun o => { o with dwell := none }) hs) hs
    exact ite_keeps hd (ih (State.move_keeps (State.modObj_keeps hd)))

theorem State.startLate_keeps {s : State} {x : Nat} (hs : State.Keeps pq s) :
    State.Keeps pq (State.startLate s x) := by
  unfold State.startLate
  repeat' first | with_reducible assumption | (with_reducible apply State.runLates_keeps)

theorem State.retryNow_keeps {s : State} {x : Nat} (hs : State.Keeps pq s) :
    State.Keeps pq (State.retryNow s x) := by
  unfold State.retryNow
  repeat' first | with_reducible assumption | (with_reducible first | apply State.toGoal_keeps | apply ite_keeps)

theorem State.uvRestartObj_keeps {s : State} {x : Nat} (hs : State.Keeps pq s) :
    State.Keeps pq (State.uvRestartObj s x) := by
  unfold State.uvRestartObj
  repeat' first | with_reducible assumption | (intro _) | (with_reducible first | apply State.modObj_keeps | apply State.moveBrg_keeps | apply State.toGoal_keeps | apply ite_keeps | apply State.upd_keeps)

theorem State.dwellDone_keeps {s : State} {x : Nat} (hs : State.Keeps pq s) :
    State.Keeps pq (State.dwellDone s x) := by
  unfold State.dwellDone
  repeat' first | with_reducible assumption | (intro _) | (with_reducible first | apply State.modObj_keeps | apply State.startLate_keeps | apply State.moveDirect_keeps | apply ite_keeps) | split | (dsimp only; split) | (with_reducible apply State.upd_keeps)

theorem State.doEdge_keeps {s : State} {x : Nat} {e : Edge} {late : Bool} (hs : State.Keeps pq s) :
    State.Keeps pq (State.doEdge s x e late) := by
  unfold State.doEdge
  repeat' first | with_reducible assumption | (intro _) | (with_reducible first | apply State.doShed_keeps | apply State.doRestore_keeps | apply State.retryNow_keeps | apply State.uvRestartObj_keeps | apply State.applySafe_keeps | apply State.dwellDone_keeps | apply State.dispCmd_keeps | apply State.setCmd_keeps | apply State.modObj_keeps | apply State.answerEdge_keeps | apply ite_keeps) | split | (dsimp only; split) | (with_reducible apply State.upd_keeps)

theorem State.edgeDue_keeps {s : State} {x : Nat} {late : Bool} (hs : State.Keeps pq s) :
    State.Keeps pq (State.edgeDue s x late) := by
  unfold State.edgeDue
  repeat' first | with_reducible assumption | (intro _) | (with_reducible first | apply State.at__keeps | apply State.modObj_keeps | apply State.doEdge_keeps | apply ite_keeps) | split | (dsimp only; split) | (with_reducible apply State.upd_keeps)

theorem edgeInstant_keeps {t : Nat} {x : Nat} {s : State} (hs : State.Keeps pq s) :
    State.Keeps pq (edgeInstant t x s) := by
  unfold edgeInstant
  repeat' first | with_reducible assumption | (with_reducible first | apply State.at__keeps | apply State.edgeDue_keeps | apply ite_keeps)

theorem State.releaseHeld_keeps {s : State} {x : Nat} (hs : State.Keeps pq s) :
    State.Keeps pq (State.releaseHeld s x) := by
  unfold State.releaseHeld
  repeat' first | with_reducible assumption | (intro _) | (with_reducible first | apply State.modObj_keeps | apply State.at__keeps | apply State.doEdge_keeps | apply foldS_keeps | apply ite_keeps | apply State.upd_keeps)

theorem State.discardHeld_keeps {s : State} {x : Nat} (hs : State.Keeps pq s) :
    State.Keeps pq (State.discardHeld s x) := by
  unfold State.discardHeld
  repeat' first | with_reducible assumption | (intro _) | (with_reducible first | apply State.at__keeps | apply State.modObj_keeps | apply State.answerEdge_keeps | apply foldS_keeps | apply State.upd_keeps)

theorem State.ownEdge_keeps {s : State} {x : Nat} {k : EdgeKind} (hs : State.Keeps pq s) :
    State.Keeps pq (State.ownEdge s x k) := by
  unfold State.ownEdge
  repeat' first | with_reducible assumption | (with_reducible first | apply State.at__keeps | apply State.holdEdge_keeps | apply State.doEdge_keeps | apply ite_keeps)

theorem State.clampSet_keeps {s : State} {hot : List Nat} (hs : State.Keeps pq s) :
    State.Keeps pq (State.clampSet s hot) := by
  unfold State.clampSet
  repeat' first | with_reducible assumption | (intro _) | (with_reducible first | apply State.modObj_keeps | apply foldS_keeps | apply State.upd_keeps)

theorem State.clampEdge_keeps {s : State} {x : Nat} {a : Nat} {b : Nat} {hot : List Nat} (hs : State.Keeps pq s) :
    State.Keeps pq (State.clampEdge s x a b hot) := by
  unfold State.clampEdge
  repeat' first | with_reducible assumption | (intro _) | (with_reducible first | apply State.modObj_keeps | apply foldS_keeps | apply State.upd_keeps)

theorem transitionEnd_keeps {t : Nat} {x : Nat} {hot : List Nat} {s : State} (hs : State.Keeps pq s) :
    State.Keeps pq (transitionEnd t x hot s) := by
  unfold transitionEnd
  repeat' first | with_reducible assumption | (intro _) | (with_reducible first | apply State.at__keeps | apply State.clampEdge_keeps | apply State.modObj_keeps | apply State.toSt_keeps | apply State.startLate_keeps | apply ite_keeps) | split | (dsimp only; split) | (with_reducible apply State.upd_keeps)

theorem deadTimeExpiry_keeps {t : Nat} {x : Nat} {s : State} (hs : State.Keeps pq s) :
    State.Keeps pq (deadTimeExpiry t x s) := by
  unfold deadTimeExpiry
  repeat' first | with_reducible assumption | (intro _) | (with_reducible first | apply State.at__keeps | apply State.modObj_keeps | apply ite_keeps) | split | (dsimp only; split) | (with_reducible apply State.upd_keeps)

theorem State.wheelEnd_keeps {s : State} {x : Nat} {hot : List Nat} (hs : State.Keeps pq s) :
    State.Keeps pq (State.wheelEnd s x hot) := by
  unfold State.wheelEnd
  repeat' first | with_reducible assumption | (intro _) | (with_reducible first | apply State.modObj_keeps | apply State.clampSet_keeps | apply State.startLate_keeps | apply ite_keeps) | split | (dsimp only; split) | (with_reducible apply State.upd_keeps)

theorem freewheelCurrentLow_keeps {t : Nat} {x : Nat} {s : State} (hs : State.Keeps pq s) :
    State.Keeps pq (freewheelCurrentLow t x s) := by
  unfold freewheelCurrentLow
  repeat' first | with_reducible assumption | (with_reducible first | apply State.at__keeps | apply State.wheelEnd_keeps) | split | (dsimp only; split)

theorem freewheelMaxExpiry_keeps {t : Nat} {x : Nat} {hot : List Nat} {s : State} (hs : State.Keeps pq s) :
    State.Keeps pq (freewheelMaxExpiry t x hot s) := by
  unfold freewheelMaxExpiry
  repeat' first | with_reducible assumption | (with_reducible first | apply State.at__keeps | apply State.wheelEnd_keeps | apply ite_keeps) | split | (dsimp only; split)

theorem reversalDwellExpiry_keeps {t : Nat} {h : Nat} {s : State} (hs : State.Keeps pq s) :
    State.Keeps pq (reversalDwellExpiry t h s) := by
  unfold reversalDwellExpiry
  repeat' first | with_reducible assumption | (with_reducible first | apply State.at__keeps | apply State.ownEdge_keeps | apply ite_keeps) | split | (dsimp only; split)

theorem shortCircuit_keeps {t : Nat} {n : Nat} {hot : List Nat} {s : State} (hs : State.Keeps pq s) :
    State.Keeps pq (shortCircuit t n hot s) := by
  unfold shortCircuit
  repeat' first | with_reducible assumption | (with_reducible first | apply State.at__keeps | apply State.trip_keeps | apply State.clampSet_keeps | apply State.sameTrip_keeps | apply ite_keeps)

theorem currentLimitEntry_keeps {t : Nat} {n : Nat} {s : State} (hs : State.Keeps pq s) :
    State.Keeps pq (currentLimitEntry t n s) := by
  unfold currentLimitEntry
  repeat' first | with_reducible assumption | (intro _) | (with_reducible first | apply State.at__keeps | apply State.modObj_keeps | apply ite_keeps | apply State.upd_keeps)

theorem ocBlankExpiry_keeps {t : Nat} {x : Nat} {hot : List Nat} {s : State} (hs : State.Keeps pq s) :
    State.Keeps pq (ocBlankExpiry t x hot s) := by
  unfold ocBlankExpiry
  repeat' first | with_reducible assumption | (with_reducible first | apply State.at__keeps | apply State.trip_keeps | apply State.clampSet_keeps) | split | (dsimp only; split)

theorem retryDelayExpiry_keeps {t : Nat} {x : Nat} {s : State} (hs : State.Keeps pq s) :
    State.Keeps pq (retryDelayExpiry t x s) := by
  unfold retryDelayExpiry
  repeat' first | with_reducible assumption | (intro _) | (with_reducible first | apply State.at__keeps | apply State.modObj_keeps | apply State.ownEdge_keeps | apply ite_keeps) | split | (dsimp only; split) | (with_reducible apply State.upd_keeps)

theorem retryCounterReset_keeps {t : Nat} {x : Nat} {s : State} (hs : State.Keeps pq s) :
    State.Keeps pq (retryCounterReset t x s) := by
  unfold retryCounterReset
  repeat' first | with_reducible assumption | (intro _) | (with_reducible first | apply State.at__keeps | apply State.modObj_keeps | apply ite_keeps) | split | (dsimp only; split) | (with_reducible apply State.upd_keeps)

theorem State.probeMark_keeps {s : State} {x : Nat} {code : Nat} (hs : State.Keeps pq s) :
    State.Keeps pq (State.probeMark s x code) := by
  unfold State.probeMark
  repeat' first | with_reducible assumption | (intro _) | (with_reducible first | apply foldS_keeps | apply State.upd_keeps)

theorem State.verdict_keeps {s : State} {x : Nat} {code : Nat} (hs : State.Keeps pq s) :
    State.Keeps pq (State.verdict s x code) := by
  unfold State.verdict
  repeat' first | with_reducible assumption | (intro _) | (with_reducible first | apply State.modObj_keeps | apply State.ownFault_keeps | apply foldS_keeps | apply ite_keeps | apply State.upd_keeps)

theorem State.abortProbe_keeps {s : State} {x : Nat} {cause : Nat} (hs : State.Keeps pq s) :
    State.Keeps pq (State.abortProbe s x cause) := by
  unfold State.abortProbe
  repeat' first | with_reducible assumption | (with_reducible first | apply State.probeMark_keeps | apply State.verdict_keeps | apply ite_keeps | apply State.upd_keeps)

theorem thermalShutdown_keeps {t : Nat} {n : Nat} {hot : List Nat} {s : State} (hs : State.Keeps pq s) :
    State.Keeps pq (thermalShutdown t n hot s) := by
  unfold thermalShutdown
  repeat' first | with_reducible assumption | (with_reducible first | apply State.at__keeps | apply State.abortProbe_keeps | apply State.sameTrip_keeps | apply State.latch_keeps | apply State.clampSet_keeps | apply ite_keeps | apply State.upd_keeps)

theorem State.unprobe_keeps {s : State} {x : Nat} (hs : State.Keeps pq s) :
    State.Keeps pq (State.unprobe s x) := by
  unfold State.unprobe
  repeat' first | with_reducible assumption | (with_reducible first | apply State.setObj_keeps | apply State.toGoal_keeps | apply ite_keeps | apply State.upd_keeps)

theorem feedUndervoltage_keeps {t : Nat} {f : Nat} {hot : List Nat} {s : State} (hs : State.Keeps pq s) :
    State.Keeps pq (feedUndervoltage t f hot s) := by
  unfold feedUndervoltage
  repeat' first | with_reducible assumption | (intro _) | (with_reducible first | apply State.at__keeps | apply State.wrb_keeps | apply State.abortProbe_keeps | apply State.unprobe_keeps | apply State.uvOff_keeps | apply State.clampSet_keeps | apply foldS_keeps | apply ite_keeps)

theorem feedUvRecovery_keeps {t : Nat} {f : Nat} {s : State} (hs : State.Keeps pq s) :
    State.Keeps pq (feedUvRecovery t f s) := by
  unfold feedUvRecovery
  repeat' first | with_reducible assumption | (with_reducible first | apply State.at__keeps | apply State.wrb_keeps | apply ite_keeps | apply State.upd_keeps)

theorem uvRestart_keeps {t : Nat} {k : Nat} {s : State} (hs : State.Keeps pq s) :
    State.Keeps pq (uvRestart t k s) := by
  unfold uvRestart
  repeat' first | with_reducible assumption | (intro _) | (with_reducible first | apply State.at__keeps | apply State.ownEdge_keeps | apply foldS_keeps | apply ite_keeps)

theorem holdWindowExpiry_keeps {t : Nat} {x : Nat} {s : State} (hs : State.Keeps pq s) :
    State.Keeps pq (holdWindowExpiry t x s) := by
  unfold holdWindowExpiry
  repeat' first | with_reducible assumption | (intro _) | (with_reducible first | apply State.at__keeps | apply State.modObj_keeps | apply State.ownEdge_keeps | apply ite_keeps) | split | (dsimp only; split) | (with_reducible apply State.upd_keeps)

theorem bankNoAnswer_keeps {t : Nat} {k : Nat} {s : State} (hs : State.Keeps pq s) :
    State.Keeps pq (bankNoAnswer t k s) := by
  unfold bankNoAnswer
  repeat' first | with_reducible assumption | (intro _) | (with_reducible first | apply State.at__keeps | apply State.sysFault_keeps | apply State.abortProbe_keeps | apply State.lostSafe_keeps | apply foldS_keeps | apply ite_keeps | apply State.upd_keeps)

theorem State.backToGoal_keeps {s : State} {x : Nat} (hs : State.Keeps pq s) :
    State.Keeps pq (State.backToGoal s x) := by
  unfold State.backToGoal
  repeat' first | with_reducible assumption | (intro _) | (with_reducible first | apply State.toGoal_keeps | apply State.modObj_keeps | apply State.at__keeps | apply ite_keeps | apply State.upd_keeps)

theorem State.resumeBank_keeps {s : State} {x : Nat} (hs : State.Keeps pq s) :
    State.Keeps pq (State.resumeBank s x) := by
  unfold State.resumeBank
  repeat' first | with_reducible assumption | (with_reducible first | apply State.backToGoal_keeps | apply State.setCmd_keeps | apply ite_keeps) | split | (dsimp only; split)

theorem bankAnswerReturn_keeps {t : Nat} {k : Nat} {s : State} (hs : State.Keeps pq s) :
    State.Keeps pq (bankAnswerReturn t k s) := by
  unfold bankAnswerReturn
  repeat' first | with_reducible assumption | (intro _) | (with_reducible first | apply State.at__keeps | apply State.resumeBank_keeps | apply foldS_keeps | apply ite_keeps | apply State.upd_keeps)

theorem bankFeedLoss_keeps {t : Nat} {f : Nat} {s : State} (hs : State.Keeps pq s) :
    State.Keeps pq (bankFeedLoss t f s) := by
  unfold bankFeedLoss
  repeat' first | with_reducible assumption | (intro _) | (with_reducible first | apply State.at__keeps | apply foldS_keeps | apply ite_keeps | apply State.upd_keeps)

theorem bankFeedReturn_keeps {t : Nat} {f : Nat} {s : State} (hs : State.Keeps pq s) :
    State.Keeps pq (bankFeedReturn t f s) := by
  unfold bankFeedReturn
  repeat' first | with_reducible assumption | (intro _) | (with_reducible first | apply State.at__keeps | apply State.takeCmd_keeps | apply State.modObj_keeps | apply State.bumpEvt_keeps | apply State.toSt_keeps | apply foldS_keeps | apply ite_keeps | apply State.upd_keeps)

/-! ## Machine/SwitchBase.lean -/

theorem State.setSwPort_keeps {s : State} {p : Nat} {x : SwPort} (hs : State.Keeps pq s) :
    State.Keeps pq (State.setSwPort s p x) := by
  unfold State.setSwPort
  repeat' first | with_reducible assumption | (with_reducible apply State.upd_keeps)

theorem State.setSwQueue_keeps {s : State} {q : Nat} {x : SwQueue} (hs : State.Keeps pq s) :
    State.Keeps pq (State.setSwQueue s q x) := by
  unfold State.setSwQueue
  repeat' first | with_reducible assumption | (with_reducible apply State.upd_keeps)

theorem State.count_keeps {s : State} {p : Nat} {i : Nat} {n : Nat} (hs : State.Keeps pq s) :
    State.Keeps pq (State.count s p i n) := by
  unfold State.count
  repeat' first | with_reducible assumption | (with_reducible apply State.upd_keeps)

theorem State.queueDrop_keeps {s : State} {p : Nat} {c : Nat} (hs : State.Keeps pq s) :
    State.Keeps pq (State.queueDrop s p c) := by
  unfold State.queueDrop
  repeat' first | with_reducible assumption | (with_reducible first | apply State.setSwQueue_keeps | apply State.upd_keeps)

theorem State.countDrop_keeps {s : State} {p : Nat} {c : Nat} {i : Nat} (hs : State.Keeps pq s) :
    State.Keeps pq (State.countDrop s p c i) := by
  unfold State.countDrop
  repeat' first | with_reducible assumption | (with_reducible first | apply State.count_keeps | apply State.queueDrop_keeps)

theorem State.splitTx_keeps {s : State} {p : Nat} {n : Nat} {x : Tx} (hs : State.Keeps pq s) :
    State.Keeps pq (State.splitTx s p n x) := by
  unfold State.splitTx
  repeat' first | with_reducible assumption | (with_reducible first | apply State.setSwPort_keeps | apply State.inc_keeps | apply State.upd_keeps)

theorem State.cutAtGate_keeps {s : State} {p : Nat} (hs : State.Keeps pq s) :
    State.Keeps pq (State.cutAtGate s p) := by
  unfold State.cutAtGate
  repeat' first | with_reducible assumption | (with_reducible first | apply State.splitTx_keeps | apply ite_keeps) | split | (dsimp only; split)

theorem State.credits_keeps {s : State} (hs : State.Keeps pq s) :
    State.Keeps pq (State.credits s) := by
  unfold State.credits
  repeat' first | with_reducible assumption | (intro _) | (with_reducible apply foldS_keeps) | split | (dsimp only; split) | (with_reducible apply State.upd_keeps)

theorem State.swAt_keeps {s : State} {t : Nat} (hs : State.Keeps pq s) :
    State.Keeps pq (State.swAt s t) := by
  unfold State.swAt
  repeat' first | with_reducible assumption | (with_reducible first | apply State.at__keeps | apply State.credits_keeps)

/-! ## Machine/Gates.lean -/

theorem State.setGates_keeps {s : State} {k : Nat} {g : Gates} (hs : State.Keeps pq s) :
    State.Keeps pq (State.setGates s k g) := by
  unfold State.setGates
  repeat' first | with_reducible assumption | (with_reducible apply State.upd_keeps)

theorem State.setEntry_keeps {s : State} {p : Nat} {e : Nat × Nat × Nat} (hs : State.Keeps pq s) :
    State.Keeps pq (State.setEntry s p e) := by
  unfold State.setEntry
  repeat' first | with_reducible assumption | (with_reducible first | apply State.credits_keeps | apply State.wr_keeps | apply State.cutAtGate_keeps | apply ite_keeps)

theorem State.setSgEntry_keeps {s : State} {k : Nat} {e : Nat × Nat × Nat} (hs : State.Keeps pq s) :
    State.Keeps pq (State.setSgEntry s k e) := by
  unfold State.setSgEntry
  repeat' first | with_reducible assumption | (with_reducible first | apply State.setGates_keeps | apply State.upd_keeps)

theorem State.refreshGates_keeps {s : State} {k : Nat} (hs : State.Keeps pq s) :
    State.Keeps pq (State.refreshGates s k) := by
  unfold State.refreshGates
  repeat' first | with_reducible assumption | (with_reducible first | apply State.setGates_keeps | apply State.setEntry_keeps | apply State.setSgEntry_keeps | apply ite_keeps) | split | (dsimp only; split) | (with_reducible apply State.upd_keeps)

theorem gateIntervalEnd_keeps {t : Nat} {k : Nat} {s : State} (hs : State.Keeps pq s) :
    State.Keeps pq (gateIntervalEnd t k s) := by
  unfold gateIntervalEnd
  repeat' first | with_reducible assumption | (with_reducible first | apply State.at__keeps | apply State.refreshGates_keeps | apply ite_keeps)

theorem State.suspendGate_keeps {s : State} {k : Nat} (hs : State.Keeps pq s) :
    State.Keeps pq (State.suspendGate s k) := by
  unfold State.suspendGate
  repeat' first | with_reducible assumption | (with_reducible first | apply State.setGates_keeps | apply State.credits_keeps | apply State.wrb_keeps | apply State.wr_keeps | apply State.cutAtGate_keeps | apply ite_keeps | apply State.upd_keeps)

theorem gclChangeInstant_keeps {t : Nat} {k : Nat} {s : State} (hs : State.Keeps pq s) :
    State.Keeps pq (gclChangeInstant t k s) := by
  unfold gclChangeInstant
  repeat' first | with_reducible assumption | (intro _) | (with_reducible first | apply State.at__keeps | apply State.setGates_keeps | apply State.wrb_keeps | apply State.suspendGate_keeps | apply State.refreshGates_keeps | apply State.trig_keeps | apply ite_keeps) | split | (dsimp only; split) | (with_reducible apply State.upd_keeps)

theorem State.suspendGates_keeps {s : State} (hs : State.Keeps pq s) :
    State.Keeps pq (State.suspendGates s) := by
  unfold State.suspendGates
  repeat' first | with_reducible assumption | (intro _) | (with_reducible first | apply State.suspendGate_keeps | apply foldS_keeps)

theorem State.resumeGates_keeps {s : State} (hs : State.Keeps pq s) :
    State.Keeps pq (State.resumeGates s) := by
  unfold State.resumeGates
  repeat' first | with_reducible assumption | (intro _) | (with_reducible first | apply State.setGates_keeps | apply State.credits_keeps | apply State.wrb_keeps | apply State.refreshGates_keeps | apply foldS_keeps | apply ite_keeps | apply State.upd_keeps)

theorem State.stepGates_keeps {s : State} (hs : State.Keeps pq s) :
    State.Keeps pq (State.stepGates s) := by
  unfold State.stepGates
  repeat' first | with_reducible assumption | (intro _) | (with_reducible first | apply State.setGates_keeps | apply State.refreshGates_keeps | apply foldS_keeps | apply ite_keeps) | split | (dsimp only; split) | (with_reducible apply State.upd_keeps)

/-! ## Machine/SwitchCore.lean -/

theorem State.modFrame_keeps {s : State} {f : Nat} {g : Frame → Frame} (hs : State.Keeps pq s) :
    State.Keeps pq (State.modFrame s f g) := by
  unfold State.modFrame
  repeat' first | with_reducible assumption | (intro _) | (with_reducible first | apply ite_keeps | apply State.upd_keeps)

theorem State.chargeCells_keeps {s : State} {h : Option Nat} {n : Nat} (hs : State.Keeps pq s) :
    State.Keeps pq (State.chargeCells s h n) := by
  unfold State.chargeCells
  repeat' first | with_reducible assumption | (with_reducible apply State.wr_keeps) | split | (dsimp only; split)

theorem State.dischargeCells_keeps {s : State} {h : Option Nat} {n : Nat} (hs : State.Keeps pq s) :
    State.Keeps pq (State.dischargeCells s h n) := by
  unfold State.dischargeCells
  repeat' first | with_reducible assumption | (with_reducible apply State.wr_keeps) | split | (dsimp only; split)

theorem State.takeCells_keeps {s : State} {f : Nat} {n : Nat} {dests : List Nat} (hs : State.Keeps pq s) :
    ∀ u, (State.takeCells s f n dests) = some u → State.Keeps pq u := by
  intro u
  unfold State.takeCells
  repeat' first | with_reducible assumption | (with_reducible refine opt_ite_keeps ?_ ?_) | (with_reducible exact opt_none_keeps) | (with_reducible refine opt_some_keeps ?_) | (intro _) | (with_reducible first | apply State.setSwQueue_keeps | apply State.modFrame_keeps | apply State.chargeCells_keeps | apply foldS_keeps | apply ite_keeps | apply State.upd_keeps)

theorem State.completeTx_keeps {s : State} {r : Nat} {i : Nat} {status : Nat} {stamp : Nat} (hs : State.Keeps pq s) :
    State.Keeps pq (State.completeTx s r i status stamp) := by
  unfold State.completeTx
  repeat' first | with_reducible assumption | (with_reducible first | apply State.store_keeps | apply State.dramCharge_keeps | apply State.inc_keeps | apply State.trig_keeps | apply ite_keeps)

theorem State.freeFrame_keeps {s : State} {f : Frame} (hs : State.Keeps pq s) :
    State.Keeps pq (State.freeFrame s f) := by
  unfold State.freeFrame
  repeat' first | with_reducible assumption | (intro _) | (with_reducible first | apply State.setSwQueue_keeps | apply State.dischargeCells_keeps | apply State.completeTx_keeps | apply ite_keeps) | split | (dsimp only; split) | (with_reducible apply State.upd_keeps)

theorem State.releaseFrame_keeps {s : State} {f : Nat} (hs : State.Keeps pq s) :
    State.Keeps pq (State.releaseFrame s f) := by
  unfold State.releaseFrame
  repeat' first | with_reducible assumption | (with_reducible first | apply State.freeFrame_keeps | apply ite_keeps) | split | (dsimp only; split)

theorem State.dropCopy_keeps {s : State} {c : Copy} (hs : State.Keeps pq s) :
    State.Keeps pq (State.dropCopy s c) := by
  unfold State.dropCopy
  repeat' first | with_reducible assumption | (intro _) | (with_reducible first | apply State.setSwQueue_keeps | apply State.releaseFrame_keeps) | split | (dsimp only; split) | (with_reducible apply State.upd_keeps)

theorem State.spoil_keeps {s : State} {f : Nat} {dropIdx : Option Nat} (hs : State.Keeps pq s) :
    State.Keeps pq (State.spoil s f dropIdx) := by
  unfold State.spoil
  repeat' first | with_reducible assumption | (intro _) | (with_reducible first | apply State.modFrame_keeps | apply State.setSwPort_keeps | apply State.count_keeps | apply State.countDrop_keeps | apply State.queueDrop_keeps | apply State.dropCopy_keeps | apply State.releaseFrame_keeps | apply foldS_keeps | apply ite_keeps) | split | (dsimp only; split) | (with_reducible apply State.upd_keeps)

theorem State.redDecide_keeps {s : State} {q : Nat} {colour : Nat} (hs : State.Keeps pq s) :
    State.Keeps pq (State.redDecide s q colour).2 := by
  unfold State.redDecide
  repeat' first | with_reducible assumption | (with_reducible first | apply ite_snd_keeps | apply ite_snd2_keeps | apply State.setSwQueue_keeps | apply State.draw_keeps | apply State.upd_keeps)

theorem redIdleUpdate_keeps {t : Nat} {q : Nat} {s : State} (hs : State.Keeps pq s) :
    State.Keeps pq (redIdleUpdate t q s) := by
  unfold redIdleUpdate
  repeat' first | with_reducible assumption | (with_reducible first | apply State.at__keeps | apply State.setSwQueue_keeps | apply ite_keeps | apply State.upd_keeps)

theorem State.police_keeps {s : State} {pol : Option Nat} {n : Nat} {colour : Nat} (hs : State.Keeps pq s) :
    State.Keeps pq (State.police s pol n colour).2 := by
  unfold State.police
  repeat' first | with_reducible assumption | (with_reducible first | apply ite_snd_keeps | apply ite_snd2_keeps | apply State.meter_keeps | apply ite_keeps) | split | (dsimp only; split) | (with_reducible apply State.upd_keeps)

theorem State.setFdb_keeps {s : State} {i : Nat} {e : FdbE} (hs : State.Keeps pq s) :
    State.Keeps pq (State.setFdb s i e) := by
  unfold State.setFdb
  repeat' first | with_reducible assumption | (with_reducible apply State.upd_keeps)

theorem State.learn_keeps {s : State} {p : Nat} {vid : Nat} {mac : Nat} (hs : State.Keeps pq s) :
    State.Keeps pq (State.learn s p vid mac) := by
  unfold State.learn
  repeat' first | with_reducible assumption | (intro _) | (with_reducible first | apply State.setFdb_keeps | apply State.count_keeps | apply ite_keeps) | split | (dsimp only; split) | (with_reducible apply State.upd_keeps)

theorem State.forgetPort_keeps {s : State} {p : Nat} (hs : State.Keeps pq s) :
    State.Keeps pq (State.forgetPort s p) := by
  unfold State.forgetPort
  repeat' first | with_reducible assumption | (intro _) | (with_reducible apply State.upd_keeps)

theorem dynamicEntryAgeing_keeps {t : Nat} {i : Nat} {s : State} (hs : State.Keeps pq s) :
    State.Keeps pq (dynamicEntryAgeing t i s) := by
  unfold dynamicEntryAgeing
  repeat' first | with_reducible assumption | (with_reducible first | apply State.at__keeps | apply ite_keeps | apply State.upd_keeps)

theorem State.modSas_keeps {s : State} {p : Nat} {f : Sa → Sa} (hs : State.Keeps pq s) :
    State.Keeps pq (State.modSas s p f) := by
  unfold State.modSas
  repeat' first | with_reducible assumption | (intro _) | (with_reducible first | apply State.setSwPort_keeps | apply State.upd_keeps)

theorem State.secValidate_keeps {s : State} {p : Nat} {b : List Byte} (hs : State.Keeps pq s) :
    State.Keeps pq (State.secValidate s p b).2 := by
  unfold State.secValidate
  repeat' first | with_reducible assumption | (with_reducible first | apply ite_snd_keeps | apply ite_snd2_keeps) | (intro _) | (with_reducible first | apply State.count_keeps | apply State.modSas_keeps | apply ite_keeps) | split | (dsimp only; split) | (with_reducible apply State.upd_keeps)

theorem State.rewire_keeps {s : State} {fid : Nat} (hs : State.Keeps pq s) :
    State.Keeps pq (State.rewire s fid) := by
  unfold State.rewire
  repeat' first | with_reducible assumption | (intro _) | (with_reducible first | apply State.setSwPort_keeps | apply foldS_keeps | apply ite_keeps) | split | (dsimp only; split) | (with_reducible apply State.upd_keeps)

theorem State.stompFor_keeps {s : State} {p : Nat} {uses : Tx → Bool} (hs : State.Keeps pq s) :
    State.Keeps pq (State.stompFor s p uses) := by
  unfold State.stompFor
  repeat' first | with_reducible assumption | (intro _) | (with_reducible first | apply State.setSwPort_keeps | apply State.count_keeps | apply ite_keeps | apply State.upd_keeps)

theorem State.disableSas_keeps {s : State} {slot : Nat} (hs : State.Keeps pq s) :
    State.Keeps pq (State.disableSas s slot) := by
  unfold State.disableSas
  repeat' first | with_reducible assumption | (intro _) | (with_reducible first | apply State.stompFor_keeps | apply State.setSwPort_keeps | apply State.count_keeps | apply State.modSas_keeps | apply State.trig_keeps | apply foldS_keeps | apply ite_keeps) | split | (dsimp only; split) | (with_reducible apply State.upd_keeps)

/-! ## Machine/Staging.lean -/

theorem State.stage_keeps {s : State} {f : Fld} {v : Nat} (hs : State.Keeps pq s) :
    State.Keeps pq (State.stage s f v) := by
  unfold State.stage
  repeat' first | with_reducible assumption | (with_reducible first | apply State.wr_keeps | apply State.upd_keeps)

theorem State.writeCfg_keeps {s : State} {p : CfgFld × Nat} (hs : State.Keeps pq s) :
    State.Keeps pq (State.writeCfg s p) := by
  unfold State.writeCfg
  repeat' first | with_reducible assumption | (with_reducible first | apply State.stage_keeps | apply State.wr_keeps) | split | (dsimp only; split)

theorem State.configure_keeps {s : State} {fs : List CfgFld} {ims : List Image} {stopped : Bool} {mode : Nat} (hs : State.Keeps pq s) :
    Res.Keeps pq (State.configure s fs ims stopped mode) := by
  unfold State.configure
  repeat' first | with_reducible assumption | (intro _) | (with_reducible first | apply need_keeps | apply State.writeCfg_keeps | apply foldS_keeps | apply Res.refuse_keeps | apply Res.done_keeps | apply Res.later_keeps | apply Res.wait_keeps | apply res_ite_keeps | apply ite_keeps) | split | (dsimp only; split)

theorem State.applyBaseOn_keeps {s : State} {o : Overlay} {p : Nat → Bool} (hs : State.Keeps pq s) :
    State.Keeps pq (State.applyBaseOn s o p) := by
  unfold State.applyBaseOn
  repeat' first | with_reducible assumption | (intro _) | (with_reducible first | apply State.setWord_keeps | apply foldS_keeps)

theorem State.applyBase_keeps {s : State} {o : Overlay} (hs : State.Keeps pq s) :
    State.Keeps pq (State.applyBase s o) := by
  unfold State.applyBase
  repeat' first | with_reducible assumption | (intro _) | (with_reducible apply State.applyBaseOn_keeps)

theorem State.applyOver_keeps {s : State} (hs : State.Keeps pq s) :
    State.Keeps pq (State.applyOver s) := by
  unfold State.applyOver
  repeat' first | with_reducible assumption | (intro _) | (with_reducible first | apply State.wr_keeps | apply foldS_keeps)

theorem State.applyOwn_keeps {s : State} {o : Overlay} (hs : State.Keeps pq s) :
    State.Keeps pq (State.applyOwn s o) := by
  unfold State.applyOwn
  repeat' first | with_reducible assumption | (intro _) | (with_reducible first | apply ite_keeps | apply State.upd_keeps)

theorem State.enforcePolicy_keeps {s : State} {x : Nat} (hs : State.Keeps pq s) :
    State.Keeps pq (State.enforcePolicy s x) := by
  unfold State.enforcePolicy
  repeat' first | with_reducible assumption | (intro _) | (with_reducible first | apply State.modObj_keeps | apply State.setCmd_keeps | apply foldS_keeps | apply ite_keeps | apply State.upd_keeps)

theorem State.enforceAll_keeps {s : State} (hs : State.Keeps pq s) :
    State.Keeps pq (State.enforceAll s) := by
  unfold State.enforceAll
  repeat' first | with_reducible assumption | (intro _) | (with_reducible first | apply State.enforcePolicy_keeps | apply foldS_keeps)

theorem State.applySwitch_keeps {s : State} {commit : Bool} {ovl : Nat} {cut : List (Fld × Nat)} (hs : State.Keeps pq s) :
    State.Keeps pq (State.applySwitch s commit ovl cut) := by
  unfold State.applySwitch
  repeat' first | with_reducible assumption | (intro _) | (with_reducible first | apply State.credits_keeps | apply State.applyOver_keeps | apply State.enforceAll_keeps | apply State.applyBase_keeps | apply State.applyOwn_keeps | apply State.wr_keeps | apply foldS_keeps | apply ite_keeps | apply State.upd_keeps)

theorem State.dropSwitch_keeps {s : State} (hs : State.Keeps pq s) :
    State.Keeps pq (State.dropSwitch s) := by
  unfold State.dropSwitch
  repeat' first | with_reducible assumption | (intro _) | (with_reducible first | apply State.answer_keeps | apply State.wrb_keeps | apply State.wr_keeps | apply foldS_keeps) | split | (dsimp only; split) | (with_reducible apply State.upd_keeps)

theorem State.stopVerify_keeps {s : State} (hs : State.Keeps pq s) :
    State.Keeps pq (State.stopVerify s) := by
  unfold State.stopVerify
  repeat' first | with_reducible assumption | (with_reducible first | apply State.wr_keeps | apply ite_keeps | apply State.upd_keeps)

theorem State.maintStat_keeps {s : State} (hs : State.Keeps pq s) :
    State.Keeps pq (State.maintStat s) := by
  unfold State.maintStat
  repeat' first | with_reducible assumption | (intro _) | (with_reducible first | apply State.wr_keeps | apply State.act_keeps) | split | (dsimp only; split)

theorem State.holdProbe_keeps {s : State} {x : Nat} (hs : State.Keeps pq s) :
    State.Keeps pq (State.holdProbe s x) := by
  unfold State.holdProbe
  repeat' first | with_reducible assumption | (intro _) | (with_reducible first | apply State.modObj_keeps | apply ite_keeps | apply State.upd_keeps)

theorem State.skipProbe_keeps {s : State} {x : Nat} (hs : State.Keeps pq s) :
    State.Keeps pq (State.skipProbe s x) := by
  unfold State.skipProbe
  repeat' first | with_reducible assumption | (intro _) | (with_reducible first | apply foldS_keeps | apply State.upd_keeps)

theorem State.passSkip_keeps {s : State} {x : Nat} (hs : State.Keeps pq s) :
    State.Keeps pq (State.passSkip s x) := by
  unfold State.passSkip
  repeat' first | with_reducible assumption | (intro _) | (with_reducible first | apply State.probeMark_keeps | apply State.modObj_keeps | apply State.forceSafe_keeps | apply ite_keeps | apply State.upd_keeps)

theorem State.startProbe_keeps {s : State} {r : MaintReq} (hs : State.Keeps pq s) :
    State.Keeps pq (State.startProbe s r).2 := by
  unfold State.startProbe
  repeat' first | with_reducible assumption | (with_reducible first | apply ite_snd_keeps | apply ite_snd2_keeps) | (intro _) | (with_reducible first | apply State.count_keeps | apply State.passSkip_keeps | apply State.skipProbe_keeps | apply State.holdProbe_keeps | apply foldS_keeps | apply ite_keeps | apply State.upd_keeps)

theorem State.remaskStart_keeps {s : State} {r : MaintReq} (hs : State.Keeps pq s) :
    State.Keeps pq (State.remaskStart s r) := by
  unfold State.remaskStart
  repeat' first | with_reducible assumption | (with_reducible first | apply State.sat_keeps | apply State.trig_keeps | apply ite_keeps | apply State.upd_keeps)

theorem State.stageStart_keeps {s : State} (hs : State.Keeps pq s) :
    State.Keeps pq (State.stageStart s) := by
  unfold State.stageStart
  repeat' first | with_reducible assumption | (with_reducible first | apply State.wr_keeps | apply State.wrb_keeps | apply ite_keeps | apply State.upd_keeps)

theorem State.startEffect_keeps {s : State} {r : MaintReq} (hs : State.Keeps pq s) :
    State.Keeps pq (State.startEffect s r).2 := by
  unfold State.startEffect
  repeat' first | with_reducible assumption | (with_reducible first | apply ite_snd_keeps | apply ite_snd2_keeps) | (intro _) | (with_reducible first | apply State.act_keeps | apply State.startProbe_keeps | apply State.count_keeps | apply State.holdProbe_keeps | apply State.remaskStart_keeps | apply State.stageStart_keeps | apply foldS_keeps | apply ite_keeps)

theorem State.startAct_keeps {s : State} {r : MaintReq} (hs : State.Keeps pq s) :
    State.Keeps pq (State.startAct s r) := by
  unfold State.startAct
  repeat' first | with_reducible assumption | (with_reducible first | apply State.startEffect_keeps | apply State.upd_keeps)

theorem State.expireReq_keeps {s : State} {r : MaintReq} (hs : State.Keeps pq s) :
    State.Keeps pq (State.expireReq s r) := by
  unfold State.expireReq
  repeat' first | with_reducible assumption | (with_reducible apply State.expire_keeps) | split | (dsimp only; split)

theorem State.answerReq_keeps {s : State} {r : MaintReq} {st : Nat} {pl : List Byte} (hs : State.Keeps pq s) :
    State.Keeps pq (State.answerReq s r st pl) := by
  unfold State.answerReq
  repeat' first | with_reducible assumption | (with_reducible apply State.answer_keeps) | split | (dsimp only; split)

theorem State.arbitrate_keeps {s : State} (hs : State.Keeps pq s) :
    State.Keeps pq (State.arbitrate s) := by
  unfold State.arbitrate
  repeat' first | with_reducible assumption | (intro _) | (with_reducible first | apply State.expireReq_keeps | apply State.startAct_keeps | apply State.answerReq_keeps | apply State.maintStat_keeps | apply foldS_keeps | apply ite_keeps | apply State.upd_keeps)

theorem State.endRun_keeps {s : State} {a : Nat} (hs : State.Keeps pq s) :
    State.Keeps pq (State.endRun s a) := by
  unfold State.endRun
  repeat' first | with_reducible assumption | (intro _) | (with_reducible first | apply State.act_keeps | apply State.arbitrate_keeps | apply State.upd_keeps)

theorem State.requestAct_keeps {s : State} {r : MaintReq} (hs : State.Keeps pq s) :
    State.Keeps pq (State.requestAct s r) := by
  unfold State.requestAct
  repeat' first | with_reducible assumption | (with_reducible first | apply State.act_keeps | apply State.arbitrate_keeps | apply ite_keeps | apply State.upd_keeps)

theorem State.periodicAct_keeps {s : State} {a : Nat} (hs : State.Keeps pq s) :
    State.Keeps pq (State.periodicAct s a) := by
  unfold State.periodicAct
  repeat' first | with_reducible assumption | (intro _) | (with_reducible first | apply State.requestAct_keeps | apply State.act_keeps | apply ite_keeps | apply State.upd_keeps)

theorem State.releaseActs_keeps {s : State} (hs : State.Keeps pq s) :
    State.Keeps pq (State.releaseActs s) := by
  unfold State.releaseActs
  repeat' first | with_reducible assumption | (intro _) | (with_reducible first | apply State.requestAct_keeps | apply State.act_keeps | apply foldS_keeps | apply ite_keeps | apply State.upd_keeps)

theorem State.commandAct_keeps {s : State} {c : Cmd} {act : Nat} {first : Nat} {count : Nat} {flags : Nat} (hs : State.Keeps pq s) :
    Res.Keeps pq (State.commandAct s c act first count flags) := by
  unfold State.commandAct
  repeat' first | with_reducible assumption | (with_reducible first | apply State.act_keeps | apply State.count_keeps | apply State.startAct_keeps | apply State.maintStat_keeps | apply Res.refuse_keeps | apply Res.done_keeps | apply Res.later_keeps | apply Res.wait_keeps | apply res_ite_keeps | apply ite_keeps | apply State.upd_keeps)

theorem State.dropReq_keeps {s : State} {c : Cmd} (hs : State.Keeps pq s) :
    State.Keeps pq (State.dropReq s c) := by
  unfold State.dropReq
  repeat' first | with_reducible assumption | (intro _) | (with_reducible first | apply State.maintStat_keeps | apply State.upd_keeps)

theorem State.releaseProbe_keeps {s : State} {x : Nat} (hs : State.Keeps pq s) :
    State.Keeps pq (State.releaseProbe s x) := by
  unfold State.releaseProbe
  repeat' first | with_reducible assumption | (intro _) | (with_reducible first | apply State.unprobe_keeps | apply State.modObj_keeps | apply State.forceSafe_keeps | apply ite_keeps | apply State.upd_keeps)

/-! ## Machine/Grid.lean -/

theorem State.setMeas_keeps {s : State} {n : Nat} {m : Meas} (hs : State.Keeps pq s) :
    State.Keeps pq (State.setMeas s n m) := by
  unfold State.setMeas
  repeat' first | with_reducible assumption | (with_reducible apply State.upd_keeps)

theorem State.setFeed_keeps {s : State} {f : Nat} {x : Feed} (hs : State.Keeps pq s) :
    State.Keeps pq (State.setFeed s f x) := by
  unfold State.setFeed
  repeat' first | with_reducible assumption | (with_reducible apply State.upd_keeps)

theorem State.holdCell_keeps {s : State} {c : CellSample} (hs : State.Keeps pq s) :
    State.Keeps pq (State.holdCell s c) := by
  unfold State.holdCell
  repeat' first | with_reducible assumption | (with_reducible first | apply State.setMeas_keeps | apply State.upd_keeps)

theorem State.holdFeed_keeps {s : State} {p : FeedSample} (hs : State.Keeps pq s) :
    State.Keeps pq (State.holdFeed s p) := by
  unfold State.holdFeed
  repeat' first | with_reducible assumption | (with_reducible first | apply State.setFeed_keeps | apply State.wr_keeps | apply State.wrb_keeps | apply ite_keeps | apply State.upd_keeps)

theorem State.gridCell_keeps {s : State} {n : Nat} (hs : State.Keeps pq s) :
    State.Keeps pq (State.gridCell s n) := by
  unfold State.gridCell
  repeat' first | with_reducible assumption | (with_reducible first | apply State.settle_keeps | apply State.setMeas_keeps | apply ite_keeps | apply State.upd_keeps)

theorem State.gridCause_keeps {s : State} {x : Nat} (hs : State.Keeps pq s) :
    State.Keeps pq (State.gridCause s x) := by
  unfold State.gridCause
  repeat' first | with_reducible assumption | (with_reducible first | apply State.setObj_keeps | apply State.bumpEvt_keeps | apply ite_keeps | apply State.upd_keeps)

theorem State.gridEvt_keeps {s : State} {n : Nat} {before : Nat} (hs : State.Keeps pq s) :
    State.Keeps pq (State.gridEvt s n before) := by
  unfold State.gridEvt
  repeat' first | with_reducible assumption | (intro _) | (with_reducible first | apply State.modObj_keeps | apply State.trig_keeps | apply ite_keeps | apply State.upd_keeps)

theorem State.gridShare_keeps {s : State} {g : Nat} (hs : State.Keeps pq s) :
    State.Keeps pq (State.gridShare s g) := by
  unfold State.gridShare
  repeat' first | with_reducible assumption | (intro _) | (with_reducible first | apply State.setMeas_keeps | apply State.modObj_keeps | apply State.ownFault_keeps | apply foldS_keeps | apply ite_keeps) | split | (dsimp only; split) | (with_reducible apply State.upd_keeps)

theorem State.meter_keeps {s : State} {m : Nat} {e : Int} (hs : State.Keeps pq s) :
    State.Keeps pq (State.meter s m e) := by
  unfold State.meter
  repeat' first | with_reducible assumption | (with_reducible first | apply ite_keeps | apply State.upd_keeps)

theorem State.meterCell_keeps {s : State} {n : Nat} (hs : State.Keeps pq s) :
    State.Keeps pq (State.meterCell s n) := by
  unfold State.meterCell
  repeat' first | with_reducible assumption | (with_reducible first | apply State.meter_keeps | apply ite_keeps)

theorem State.meterFeed_keeps {s : State} {f : Nat} (hs : State.Keeps pq s) :
    State.Keeps pq (State.meterFeed s f) := by
  unfold State.meterFeed
  repeat' first | with_reducible assumption | (with_reducible apply State.meter_keeps)

theorem State.heatStat_keeps {s : State} (hs : State.Keeps pq s) :
    State.Keeps pq (State.heatStat s) := by
  unfold State.heatStat
  repeat' first | with_reducible assumption | (intro _) | (with_reducible first | apply State.wr_keeps | apply State.wrb_keeps | apply ite_keeps)

theorem State.gridEnergy_keeps {s : State} {elec : Nat} (hs : State.Keeps pq s) :
    State.Keeps pq (State.gridEnergy s elec) := by
  unfold State.gridEnergy
  repeat' first | with_reducible assumption | (intro _) | (with_reducible first | apply State.meterCell_keeps | apply State.meterFeed_keeps | apply State.meter_keeps | apply State.take_keeps | apply State.heatStat_keeps | apply foldS_keeps | apply State.upd_keeps)

theorem State.gridRetests_keeps {s : State} (hs : State.Keeps pq s) :
    State.Keeps pq (State.gridRetests s) := by
  unfold State.gridRetests
  repeat' first | with_reducible assumption | (intro _) | (with_reducible first | apply ite_keeps | apply State.upd_keeps)

theorem gridFabric_keeps {t : Nat} {cells : List CellSample} {feeds : List FeedSample} {elec : Nat} {s : State} (hs : State.Keeps pq s) :
    State.Keeps pq (gridFabric t cells feeds elec s) := by
  unfold gridFabric
  repeat' first | with_reducible assumption | (intro _) | (with_reducible first | apply State.at__keeps | apply State.holdCell_keeps | apply State.holdFeed_keeps | apply State.gridCause_keeps | apply State.gridCell_keeps | apply State.gridEvt_keeps | apply State.gridShare_keeps | apply State.gridEnergy_keeps | apply State.gridRetests_keeps | apply foldS_keeps | apply ite_keeps | apply State.upd_keeps)

theorem statusPageSwitch_keeps {t : Nat} {s : State} (hs : State.Keeps pq s) :
    State.Keeps pq (statusPageSwitch t s) := by
  unfold statusPageSwitch
  repeat' first | with_reducible assumption | (with_reducible first | apply State.at__keeps | apply State.wr_keeps | apply State.inc_keeps | apply ite_keeps) | split | (dsimp only; split) | (with_reducible apply State.upd_keeps)

theorem State.crossOther_keeps {s : State} {y : Nat} (hs : State.Keeps pq s) :
    State.Keeps pq (State.crossOther s y) := by
  unfold State.crossOther
  repeat' first | with_reducible assumption | (with_reducible first | apply State.probeMark_keeps | apply State.verdict_keeps | apply State.ownFault_keeps | apply ite_keeps | apply State.upd_keeps)

theorem probeSettleExpiry_keeps {t : Nat} {x : Nat} {r : ProbeReading} {s : State} (hs : State.Keeps pq s) :
    State.Keeps pq (probeSettleExpiry t x r s) := by
  unfold probeSettleExpiry
  repeat' first | with_reducible assumption | (intro _) | (with_reducible first | apply State.at__keeps | apply State.verdict_keeps | apply State.cross_keeps | apply State.crossOther_keeps | apply foldS_keeps | apply ite_keeps) | split | (dsimp only; split) | (with_reducible apply State.upd_keeps)

theorem probeRetryTimer_keeps {t : Nat} {s : State} (hs : State.Keeps pq s) :
    State.Keeps pq (probeRetryTimer t s) := by
  unfold probeRetryTimer
  repeat' first | with_reducible assumption | (intro _) | (with_reducible first | apply State.at__keeps | apply State.requestAct_keeps | apply State.act_keeps | apply foldS_keeps | apply ite_keeps) | split | (dsimp only; split) | (with_reducible apply State.upd_keeps)

theorem State.logEnergy_keeps {s : State} (hs : State.Keeps pq s) :
    State.Keeps pq (State.logEnergy s) := by
  unfold State.logEnergy
  repeat' first | with_reducible assumption | (with_reducible apply State.upd_keeps)

theorem energyLogRecord_keeps {t : Nat} {s : State} (hs : State.Keeps pq s) :
    State.Keeps pq (energyLogRecord t s) := by
  unfold energyLogRecord
  repeat' first | with_reducible assumption | (with_reducible first | apply State.at__keeps | apply State.logEnergy_keeps | apply ite_keeps)

/-! ## Machine/GovCycle.lean -/

theorem State.fitAllot_keeps {s : State} {v : Nat} (hs : State.Keeps pq s) :
    State.Keeps pq (State.fitAllot s v) := by
  unfold State.fitAllot
  repeat' first | with_reducible assumption | (intro _) | (with_reducible first | apply need_keeps | apply State.shedAll_keeps | apply State.wrb_keeps)

theorem State.fitFeed_keeps {s : State} {f : Nat} (hs : State.Keeps pq s) :
    State.Keeps pq (State.fitFeed s f) := by
  unfold State.fitFeed
  repeat' first | with_reducible assumption | (intro _) | (with_reducible apply State.shedAll_keeps)

theorem State.fitLimits_keeps {s : State} (hs : State.Keeps pq s) :
    State.Keeps pq (State.fitLimits s) := by
  unfold State.fitLimits
  repeat' first | with_reducible assumption | (intro _) | (with_reducible first | apply State.fitFeed_keeps | apply State.fitAllot_keeps | apply foldS_keeps | apply ite_keeps | apply State.upd_keeps)

theorem State.takeStanding_keeps {s : State} {x : Nat} (hs : State.Keeps pq s) :
    State.Keeps pq (State.takeStanding s x) := by
  unfold State.takeStanding
  repeat' first | with_reducible assumption | (intro _) | (with_reducible first | apply State.shedAll_keeps | apply State.modObj_keeps | apply ite_keeps) | split | (dsimp only; split) | (with_reducible apply State.upd_keeps)

theorem State.retrySafe_keeps {s : State} {x : Nat} (hs : State.Keeps pq s) :
    State.Keeps pq (State.retrySafe s x) := by
  unfold State.retrySafe
  repeat' first | with_reducible assumption | (with_reducible first | apply State.applySafe_keeps | apply ite_keeps)

theorem State.trackRestore_keeps {s : State} {x : Nat} (hs : State.Keeps pq s) :
    State.Keeps pq (State.trackRestore s x) := by
  unfold State.trackRestore
  repeat' first | with_reducible assumption | (intro _) | (with_reducible first | apply State.modObj_keeps | apply ite_keeps | apply State.upd_keeps)

theorem State.restoreIfDue_keeps {s : State} {x : Nat} (hs : State.Keeps pq s) :
    State.Keeps pq (State.restoreIfDue s x) := by
  unfold State.restoreIfDue
  repeat' first | with_reducible assumption | (intro _) | (with_reducible first | apply State.modObj_keeps | apply State.at__keeps | apply ite_keeps) | split | (dsimp only; split) | (with_reducible apply State.upd_keeps)

theorem State.readmit_keeps {s : State} {c : Cmd} (hs : State.Keeps pq s) :
    State.Keeps pq (State.readmit s c) := by
  unfold State.readmit
  repeat' first | with_reducible assumption | (with_reducible first | apply State.expire_keeps | apply State.at__keeps | apply State.retryDrive_keeps | apply ite_keeps) | split | (dsimp only; split)

theorem State.cycleClass_keeps {s : State} {cls : Nat} (hs : State.Keeps pq s) :
    State.Keeps pq (State.cycleClass s cls) := by
  unfold State.cycleClass
  repeat' first | with_reducible assumption | (intro _) | (with_reducible first | apply State.trackRestore_keeps | apply State.restoreIfDue_keeps | apply State.readmit_keeps | apply foldS_keeps)

theorem governorCycle_keeps {t : Nat} {s : State} (hs : State.Keeps pq s) :
    State.Keeps pq (governorCycle t s) := by
  unfold governorCycle
  repeat' first | with_reducible assumption | (intro _) | (with_reducible first | apply State.at__keeps | apply State.fitLimits_keeps | apply State.takeStanding_keeps | apply State.retrySafe_keeps | apply State.cycleClass_keeps | apply foldS_keeps | apply ite_keeps | apply State.upd_keeps)

theorem restoreDelayExpiry_keeps {t : Nat} {x : Nat} {s : State} (hs : State.Keeps pq s) :
    State.Keeps pq (restoreDelayExpiry t x s) := by
  unfold restoreDelayExpiry
  repeat' first | with_reducible assumption | (with_reducible first | apply State.at__keeps | apply State.restoreIfDue_keeps | apply ite_keeps | apply State.upd_keeps)

theorem deferMaxExpiry_keeps {t : Nat} {node : Nat} {w : Nat} {tag : Nat} {s : State} (hs : State.Keeps pq s) :
    State.Keeps pq (deferMaxExpiry t node w tag s) := by
  unfold deferMaxExpiry
  repeat' first | with_reducible assumption | (intro _) | (with_reducible first | apply State.at__keeps | apply State.denyAwaited_keeps | apply State.answer_keeps | apply ite_keeps) | split | (dsimp only; split)

theorem feedOverloadDelayExpiry_keeps {t : Nat} {f : Nat} {s : State} (hs : State.Keeps pq s) :
    State.Keeps pq (feedOverloadDelayExpiry t f s) := by
  unfold feedOverloadDelayExpiry
  repeat' first | with_reducible assumption | (with_reducible first | apply State.at__keeps | apply State.wrb_keeps | apply State.sysFault_keeps | apply State.shedOne_keeps | apply State.setFeed_keeps | apply ite_keeps) | split | (dsimp only; split) | (with_reducible apply State.upd_keeps)

theorem feedPeak_keeps {t : Nat} {f : Nat} {s : State} (hs : State.Keeps pq s) :
    State.Keeps pq (feedPeak t f s) := by
  unfold feedPeak
  repeat' first | with_reducible assumption | (with_reducible first | apply State.at__keeps | apply State.wrb_keeps | apply State.shedOne_keeps | apply State.setFeed_keeps | apply ite_keeps) | split | (dsimp only; split) | (with_reducible apply State.upd_keeps)

theorem heatShedStart_keeps {t : Nat} {s : State} (hs : State.Keeps pq s) :
    State.Keeps pq (heatShedStart t s) := by
  unfold heatShedStart
  repeat' first | with_reducible assumption | (intro _) | (with_reducible first | apply State.at__keeps | apply State.wrb_keeps | apply State.sysFault_keeps | apply State.shedOne_keeps | apply ite_keeps | apply State.upd_keeps)

theorem State.shedFeedNext_keeps {s : State} {f : Nat} (hs : State.Keeps pq s) :
    State.Keeps pq (State.shedFeedNext s f) := by
  unfold State.shedFeedNext
  repeat' first | with_reducible assumption | (with_reducible first | apply State.shedOne_keeps | apply State.setFeed_keeps | apply ite_keeps) | split | (dsimp only; split) | (with_reducible apply State.upd_keeps)

theorem measuredShedInterval_keeps {t : Nat} {s : State} (hs : State.Keeps pq s) :
    State.Keeps pq (measuredShedInterval t s) := by
  unfold measuredShedInterval
  repeat' first | with_reducible assumption | (intro _) | (with_reducible first | apply State.at__keeps | apply State.shedFeedNext_keeps | apply State.shedOne_keeps | apply foldS_keeps | apply ite_keeps | apply State.upd_keeps)

theorem classSOverloadExpiry_keeps {t : Nat} {f : Nat} {s : State} (hs : State.Keeps pq s) :
    State.Keeps pq (classSOverloadExpiry t f s) := by
  unfold classSOverloadExpiry
  repeat' first | with_reducible assumption | (with_reducible first | apply State.at__keeps | apply State.setFeed_keeps | apply State.sysFault_keeps | apply ite_keeps) | split | (dsimp only; split) | (with_reducible apply State.upd_keeps)

theorem feedOvervolt_keeps {t : Nat} {f : Nat} {s : State} (hs : State.Keeps pq s) :
    State.Keeps pq (feedOvervolt t f s) := by
  unfold feedOvervolt
  repeat' first | with_reducible assumption | (with_reducible first | apply State.at__keeps | apply State.wrb_keeps | apply State.sysFault_keeps | apply ite_keeps)

/-! ## Machine/CellCmds.lean -/

theorem State.busyMaint_keeps {s : State} {c : Cmd} (hs : State.Keeps pq s) :
    Res.Keeps pq (State.busyMaint s c) := by
  unfold State.busyMaint
  repeat' first | with_reducible assumption | (with_reducible first | apply Res.refuse_keeps | apply Res.done_keeps | apply Res.later_keeps | apply Res.wait_keeps | apply res_ite_keeps | apply ite_keeps | apply State.upd_keeps)

theorem State.setObject_keeps {s : State} {c : Cmd} {x : Nat} {a : Nat} {at_ : Nat} {flush : Bool} {other : Bool} (hs : State.Keeps pq s) :
    Res.Keeps pq (State.setObject s c x a at_ flush other) := by
  unfold State.setObject
  repeat' first | with_reducible assumption | (intro _) | (with_reducible first | apply need_keeps | apply State.busyMaint_keeps | apply State.at__keeps | apply State.admitDrive_keeps | apply Res.refuse_keeps | apply Res.done_keeps | apply Res.later_keeps | apply Res.wait_keeps | apply res_ite_keeps | apply ite_keeps) | split | (dsimp only; split)

theorem cellSetBody_keeps {c : Cmd} {s : State} (hs : State.Keeps pq s) :
    Res.Keeps pq (cellSetBody c s) := by
  unfold cellSetBody
  repeat' first | with_reducible assumption | (with_reducible first | apply State.at__keeps | apply need_keeps | apply State.setObject_keeps | apply Res.refuse_keeps | apply Res.done_keeps | apply Res.later_keeps | apply Res.wait_keeps)

theorem gangSetBody_keeps {c : Cmd} {s : State} (hs : State.Keeps pq s) :
    Res.Keeps pq (gangSetBody c s) := by
  unfold gangSetBody
  repeat' first | with_reducible assumption | (with_reducible first | apply State.at__keeps | apply need_keeps | apply State.setObject_keeps | apply Res.refuse_keeps | apply Res.done_keeps | apply Res.later_keeps | apply Res.wait_keeps)

theorem bridgeSetBody_keeps {c : Cmd} {s : State} (hs : State.Keeps pq s) :
    Res.Keeps pq (bridgeSetBody c s) := by
  unfold bridgeSetBody
  repeat' first | with_reducible assumption | (with_reducible first | apply State.at__keeps | apply need_keeps | apply State.setObject_keeps | apply Res.refuse_keeps | apply Res.done_keeps | apply Res.later_keeps | apply Res.wait_keeps)

theorem cellConfigBody_keeps {c : Cmd} {s : State} (hs : State.Keeps pq s) :
    Res.Keeps pq (cellConfigBody c s) := by
  unfold cellConfigBody
  repeat' first | with_reducible assumption | (with_reducible first | apply need_keeps | apply State.configure_keeps | apply Res.refuse_keeps | apply Res.done_keeps | apply Res.later_keeps | apply Res.wait_keeps | apply res_ite_keeps | apply ite_keeps) | split | (dsimp only; split)

theorem gangConfigBody_keeps {c : Cmd} {s : State} (hs : State.Keeps pq s) :
    Res.Keeps pq (gangConfigBody c s) := by
  unfold gangConfigBody
  repeat' first | with_reducible assumption | (intro _) | (with_reducible first | apply need_keeps | apply State.configure_keeps | apply State.dropStanding_keeps | apply Res.andThen_keeps | apply Res.refuse_keeps | apply Res.done_keeps | apply Res.later_keeps | apply Res.wait_keeps | apply res_ite_keeps | apply ite_keeps) | split | (dsimp only; split)

theorem bridgeConfigBody_keeps {c : Cmd} {s : State} (hs : State.Keeps pq s) :
    Res.Keeps pq (bridgeConfigBody c s) := by
  unfold bridgeConfigBody
  repeat' first | with_reducible assumption | (with_reducible first | apply need_keeps | apply State.configure_keeps | apply Res.refuse_keeps | apply Res.done_keeps | apply Res.later_keeps | apply Res.wait_keeps | apply res_ite_keeps | apply ite_keeps)

theorem State.answerRange_keeps {s : State} {c : Cmd} {data : List Byte} {pl : List Byte} (hs : State.Keeps pq s) :
    Res.Keeps pq (State.answerRange s c data pl) := by
  unfold State.answerRange
  repeat' first | with_reducible assumption | (with_reducible first | apply State.putBuf_keeps | apply Res.refuse_keeps | apply Res.done_keeps | apply Res.later_keeps | apply Res.wait_keeps | apply res_ite_keeps | apply ite_keeps)

theorem cellStatusBody_keeps {c : Cmd} {s : State} (hs : State.Keeps pq s) :
    Res.Keeps pq (cellStatusBody c s) := by
  unfold cellStatusBody
  repeat' first | with_reducible assumption | (intro _) | (with_reducible first | apply State.count_keeps | apply need_keeps | apply State.answerRange_keeps | apply Res.refuse_keeps | apply Res.done_keeps | apply Res.later_keeps | apply Res.wait_keeps | apply res_ite_keeps | apply ite_keeps) | split | (dsimp only; split)

theorem gangStatusBody_keeps {c : Cmd} {s : State} (hs : State.Keeps pq s) :
    Res.Keeps pq (gangStatusBody c s) := by
  unfold gangStatusBody
  repeat' first | with_reducible assumption | (intro _) | (with_reducible first | apply State.count_keeps | apply need_keeps | apply Res.refuse_keeps | apply Res.done_keeps | apply Res.later_keeps | apply Res.wait_keeps | apply res_ite_keeps | apply ite_keeps) | split | (dsimp only; split)

theorem bridgeStatusBody_keeps {c : Cmd} {s : State} (hs : State.Keeps pq s) :
    Res.Keeps pq (bridgeStatusBody c s) := by
  unfold bridgeStatusBody
  repeat' first | with_reducible assumption | (intro _) | (with_reducible first | apply State.count_keeps | apply need_keeps | apply Res.refuse_keeps | apply Res.done_keeps | apply Res.later_keeps | apply Res.wait_keeps | apply res_ite_keeps | apply ite_keeps) | split | (dsimp only; split)

theorem cellReadConfigBody_keeps {c : Cmd} {s : State} (hs : State.Keeps pq s) :
    Res.Keeps pq (cellReadConfigBody c s) := by
  unfold cellReadConfigBody
  repeat' first | with_reducible assumption | (with_reducible first | apply need_keeps | apply Res.refuse_keeps | apply Res.done_keeps | apply Res.later_keeps | apply Res.wait_keeps)

theorem gangReadConfigBody_keeps {c : Cmd} {s : State} (hs : State.Keeps pq s) :
    Res.Keeps pq (gangReadConfigBody c s) := by
  unfold gangReadConfigBody
  repeat' first | with_reducible assumption | (with_reducible first | apply need_keeps | apply Res.refuse_keeps | apply Res.done_keeps | apply Res.later_keeps | apply Res.wait_keeps | apply res_ite_keeps | apply ite_keeps)

theorem State.clearObject_keeps {s : State} {x : Nat} {other : Bool} (hs : State.Keeps pq s) :
    Res.Keeps pq (State.clearObject s x other) := by
  unfold State.clearObject
  repeat' first | with_reducible assumption | (intro _) | (with_reducible first | apply need_keeps | apply State.setObj_keeps | apply State.modObj_keeps | apply Res.refuse_keeps | apply Res.done_keeps | apply Res.later_keeps | apply Res.wait_keeps | apply res_ite_keeps | apply ite_keeps) | split | (dsimp only; split) | (with_reducible apply State.upd_keeps)

theorem cellClearBody_keeps {c : Cmd} {s : State} (hs : State.Keeps pq s) :
    Res.Keeps pq (cellClearBody c s) := by
  unfold cellClearBody
  repeat' first | with_reducible assumption | (with_reducible first | apply need_keeps | apply State.clearObject_keeps | apply Res.refuse_keeps | apply Res.done_keeps | apply Res.later_keeps | apply Res.wait_keeps) | split | (dsimp only; split)

theorem gangClearBody_keeps {c : Cmd} {s : State} (hs : State.Keeps pq s) :
    Res.Keeps pq (gangClearBody c s) := by
  unfold gangClearBody
  repeat' first | with_reducible assumption | (with_reducible first | apply need_keeps | apply State.clearObject_keeps | apply Res.refuse_keeps | apply Res.done_keeps | apply Res.later_keeps | apply Res.wait_keeps) | split | (dsimp only; split)

theorem bridgeClearBody_keeps {c : Cmd} {s : State} (hs : State.Keeps pq s) :
    Res.Keeps pq (bridgeClearBody c s) := by
  unfold bridgeClearBody
  repeat' first | with_reducible assumption | (with_reducible first | apply need_keeps | apply State.clearObject_keeps | apply Res.refuse_keeps | apply Res.done_keeps | apply Res.later_keeps | apply Res.wait_keeps) | split | (dsimp only; split)

theorem probeRunBody_keeps {c : Cmd} {s : State} (hs : State.Keeps pq s) :
    Res.Keeps pq (probeRunBody c s) := by
  unfold probeRunBody
  repeat' first | with_reducible assumption | (with_reducible first | apply State.count_keeps | apply need_keeps | apply State.commandAct_keeps | apply Res.refuse_keeps | apply Res.done_keeps | apply Res.later_keeps | apply Res.wait_keeps) | split | (dsimp only; split)

theorem probeResultBody_keeps {c : Cmd} {s : State} (hs : State.Keeps pq s) :
    Res.Keeps pq (probeResultBody c s) := by
  unfold probeResultBody
  repeat' first | with_reducible assumption | (intro _) | (with_reducible first | apply State.count_keeps | apply need_keeps | apply State.answerRange_keeps | apply Res.refuse_keeps | apply Res.done_keeps | apply Res.later_keeps | apply Res.wait_keeps | apply res_ite_keeps | apply ite_keeps) | split | (dsimp only; split)

/-! ## Machine/EnergyCmds.lean -/

theorem budgetStatusBody_keeps {c : Cmd} {s : State} (hs : State.Keeps pq s) :
    Res.Keeps pq (budgetStatusBody c s) := by
  unfold budgetStatusBody
  repeat' first | with_reducible assumption | (intro _) | (with_reducible first | apply need_keeps | apply Res.refuse_keeps | apply Res.done_keeps | apply Res.later_keeps | apply Res.wait_keeps | apply res_ite_keeps | apply ite_keeps)

theorem budgetObjectBody_keeps {c : Cmd} {s : State} (hs : State.Keeps pq s) :
    Res.Keeps pq (budgetObjectBody c s) := by
  unfold budgetObjectBody
  repeat' first | with_reducible assumption | (with_reducible first | apply need_keeps | apply State.stage_keeps | apply Res.refuse_keeps | apply Res.done_keeps | apply Res.later_keeps | apply Res.wait_keeps)

theorem budgetObjStatusBody_keeps {c : Cmd} {s : State} (hs : State.Keeps pq s) :
    Res.Keeps pq (budgetObjStatusBody c s) := by
  unfold budgetObjStatusBody
  repeat' first | with_reducible assumption | (intro _) | (with_reducible first | apply State.count_keeps | apply need_keeps | apply Res.refuse_keeps | apply Res.done_keeps | apply Res.later_keeps | apply Res.wait_keeps)

theorem energyReadBody_keeps {c : Cmd} {s : State} (hs : State.Keeps pq s) :
    Res.Keeps pq (energyReadBody c s) := by
  unfold energyReadBody
  repeat' first | with_reducible assumption | (intro _) | (with_reducible first | apply State.count_keeps | apply need_keeps | apply State.answerRange_keeps | apply Res.refuse_keeps | apply Res.done_keeps | apply Res.later_keeps | apply Res.wait_keeps | apply res_ite_keeps | apply ite_keeps) | split | (dsimp only; split)

theorem energyLogReadBody_keeps {c : Cmd} {s : State} (hs : State.Keeps pq s) :
    Res.Keeps pq (energyLogReadBody c s) := by
  unfold energyLogReadBody
  repeat' first | with_reducible assumption | (intro _) | (with_reducible first | apply need_keeps | apply State.take_keeps | apply State.putBuf_keeps | apply Res.refuse_keeps | apply Res.done_keeps | apply Res.later_keeps | apply Res.wait_keeps)

/-! ## Machine/Cycle.lean -/

theorem State.setTask_keeps {s : State} {k : Nat} {x : CTask} (hs : State.Keeps pq s) :
    State.Keeps pq (State.setTask s k x) := by
  unfold State.setTask
  repeat' first | with_reducible assumption | (with_reducible apply State.upd_keeps)

theorem State.modTask_keeps {s : State} {k : Nat} {f : CTask → CTask} (hs : State.Keeps pq s) :
    State.Keeps pq (State.modTask s k f) := by
  unfold State.modTask
  repeat' first | with_reducible assumption | (intro _) | (with_reducible apply State.setTask_keeps)

theorem State.setT_keeps {s : State} {k : Nat} {v : Nat} (hs : State.Keeps pq s) :
    State.Keeps pq (State.setT s k v) := by
  unfold State.setT
  repeat' first | with_reducible assumption | (with_reducible apply State.wr_keeps)

theorem State.stampForce_keeps {s : State} {kind : Nat} {idx : Nat} {at_ : Nat} (hs : State.Keeps pq s) :
    State.Keeps pq (State.stampForce s kind idx at_) := by
  unfold State.stampForce
  repeat' first | with_reducible assumption | (with_reducible first | apply State.store_keeps | apply State.at__keeps | apply ite_keeps) | split | (dsimp only; split)

theorem State.forceStat_keeps {s : State} (hs : State.Keeps pq s) :
    State.Keeps pq (State.forceStat s) := by
  unfold State.forceStat
  repeat' first | with_reducible assumption | (with_reducible apply State.wr_keeps)

theorem State.clearForces_keeps {s : State} (hs : State.Keeps pq s) :
    State.Keeps pq (State.clearForces s) := by
  exact State.forceStat_keeps (s := { s with mem := Memory.zero s.mem (cycForce 0) 4096 }) ⟨Memory.zero_wf _ _ hs.1, hs.2⟩

theorem State.writeRet_keeps {s : State} {k : Nat} (hs : State.Keeps pq s) :
    State.Keeps pq (State.writeRet s k) := by
  unfold State.writeRet
  repeat' first | with_reducible assumption | (with_reducible apply ite_keeps) | split | (dsimp only; split) | (with_reducible apply State.upd_keeps)

theorem State.restoreRet_keeps {s : State} {p : Prog} (hs : State.Keeps pq s) :
    State.Keeps pq (State.restoreRet s p) := by
  unfold State.restoreRet
  repeat' first | with_reducible assumption | (intro _) | (with_reducible first | apply State.store_keeps | apply State.wrb_keeps | apply State.ownFault_keeps | apply State.trig_keeps | apply foldS_keeps) | split | (dsimp only; split)

theorem State.discard_keeps {s : State} {k : Nat} (hs : State.Keeps pq s) :
    State.Keeps pq (State.discard s k) := by
  unfold State.discard
  repeat' first | with_reducible assumption | (with_reducible apply State.sat_keeps)

theorem State.outObj_keeps {s : State} {k : Nat} {x : Nat} {v : Nat} {at_ : Nat} (hs : State.Keeps pq s) :
    State.Keeps pq (State.outObj s k x v at_) := by
  unfold State.outObj
  repeat' first | with_reducible assumption | (intro _) | (with_reducible first | apply State.discard_keeps | apply State.ownFault_keeps | apply State.modObj_keeps | apply State.at__keeps | apply State.doEdge_keeps | apply ite_keeps) | split | (dsimp only; split) | (with_reducible apply State.upd_keeps)

theorem State.scheduleLane_keeps {s : State} {lane : Nat} (hs : State.Keeps pq s) :
    State.Keeps pq (State.scheduleLane s lane) := by
  unfold State.scheduleLane
  repeat' first | with_reducible assumption | (intro _) | (with_reducible first | apply State.setT_keeps | apply ite_keeps) | split | (dsimp only; split)

theorem State.schedule_keeps {s : State} (hs : State.Keeps pq s) :
    State.Keeps pq (State.schedule s) := by
  unfold State.schedule
  repeat' first | with_reducible assumption | (with_reducible apply State.scheduleLane_keeps)

theorem State.miss_keeps {s : State} {k : Nat} {n : Nat} (hs : State.Keeps pq s) :
    State.Keeps pq (State.miss s k n) := by
  unfold State.miss
  repeat' first | with_reducible assumption | (with_reducible apply State.sat_keeps)

theorem State.answerEvent_keeps {s : State} {k : Nat} {at_ : Nat} (hs : State.Keeps pq s) :
    State.Keeps pq (State.answerEvent s k at_) := by
  unfold State.answerEvent
  repeat' first | with_reducible assumption | (intro _) | (with_reducible first | apply State.answer_keeps | apply State.at__keeps | apply foldS_keeps)

theorem State.release_keeps {s : State} {k : Nat} {t : Nat} (hs : State.Keeps pq s) :
    State.Keeps pq (State.release s k t) := by
  unfold State.release
  repeat' first | with_reducible assumption | (intro _) | (with_reducible first | apply State.modTask_keeps | apply State.wrb_keeps | apply State.answerEvent_keeps | apply State.setT_keeps | apply ite_keeps | apply State.upd_keeps)

theorem State.dropRelease_keeps {s : State} {k : Nat} {from_ : Nat} (hs : State.Keeps pq s) :
    State.Keeps pq (State.dropRelease s k from_) := by
  unfold State.dropRelease
  repeat' first | with_reducible assumption | (intro _) | (with_reducible first | apply State.miss_keeps | apply State.modTask_keeps | apply State.wrb_keeps | apply State.answerEvent_keeps | apply ite_keeps | apply State.upd_keeps)

theorem State.swapSkip_keeps {s : State} {k : Nat} (hs : State.Keeps pq s) :
    State.Keeps pq (State.swapSkip s k) := by
  unfold State.swapSkip
  repeat' first | with_reducible assumption | (intro _) | (with_reducible first | apply State.wrb_keeps | apply State.modTask_keeps | apply State.answerEvent_keeps | apply State.upd_keeps)

theorem State.lostRelease_keeps {s : State} {k : Nat} (hs : State.Keeps pq s) :
    State.Keeps pq (State.lostRelease s k) := by
  unfold State.lostRelease
  repeat' first | with_reducible assumption | (with_reducible first | apply State.miss_keeps | apply State.dropRelease_keeps | apply ite_keeps)

theorem taskRelease_keeps {t : Nat} {k : Nat} {s : State} (hs : State.Keeps pq s) :
    State.Keeps pq (taskRelease t k s) := by
  unfold taskRelease
  repeat' first | with_reducible assumption | (with_reducible first | apply State.at__keeps | apply State.lostRelease_keeps | apply State.swapSkip_keeps | apply State.release_keeps | apply ite_keeps)

theorem State.trigger_keeps {s : State} {k : Nat} {t : Nat} (hs : State.Keeps pq s) :
    State.Keeps pq (State.trigger s k t) := by
  unfold State.trigger
  repeat' first | with_reducible assumption | (intro _) | (with_reducible first | apply State.miss_keeps | apply State.wrb_keeps | apply State.modTask_keeps | apply ite_keeps) | split | (dsimp only; split) | (with_reducible apply State.upd_keeps)

theorem State.judgeTrigger_keeps {s : State} {k : Nat} (hs : State.Keeps pq s) :
    State.Keeps pq (State.judgeTrigger s k) := by
  unfold State.judgeTrigger
  repeat' first | with_reducible assumption | (with_reducible first | apply State.trigger_keeps | apply ite_keeps) | split | (dsimp only; split)

theorem State.judgeTriggers_keeps {s : State} (hs : State.Keeps pq s) :
    State.Keeps pq (State.judgeTriggers s) := by
  unfold State.judgeTriggers
  repeat' first | with_reducible assumption | (intro _) | (with_reducible first | apply State.judgeTrigger_keeps | apply foldS_keeps | apply State.upd_keeps)

theorem inputImageCapture_keeps {t : Nat} {k : Nat} {s : State} (hs : State.Keeps pq s) :
    State.Keeps pq (inputImageCapture t k s) := by
  unfold inputImageCapture
  repeat' first | with_reducible assumption | (intro _) | (with_reducible first | apply State.at__keeps | apply State.store_keeps | apply State.stampForce_keeps | apply State.modTask_keeps | apply State.setT_keeps | apply State.schedule_keeps | apply foldS_keeps | apply ite_keeps) | split | (dsimp only; split) | (with_reducible apply State.upd_keeps)

theorem State.taskFault_keeps {s : State} {k : Nat} {cause : Nat} (hs : State.Keeps pq s) :
    State.Keeps pq (State.taskFault s k cause) := by
  unfold State.taskFault
  repeat' first | with_reducible assumption | (intro _) | (with_reducible first | apply State.setT_keeps | apply State.wr_keeps | apply State.wrb_keeps | apply State.modTask_keeps | apply State.answerEvent_keeps | apply State.dispose_keeps | apply State.ownFault_keeps | apply State.trig_keeps | apply State.schedule_keeps | apply foldS_keeps | apply ite_keeps | apply State.upd_keeps)

theorem laneException_keeps {t : Nat} {k : Nat} {cause : Nat} {s : State} (hs : State.Keeps pq s) :
    State.Keeps pq (laneException t k cause s) := by
  unfold laneException
  repeat' first | with_reducible assumption | (intro _) | (with_reducible first | apply State.at__keeps | apply State.taskFault_keeps | apply foldS_keeps | apply ite_keeps)

theorem State.laneWrites_keeps {k : Nat} {l : List (Nat × List Byte)} : ∀ {s : State}, State.Keeps pq s →
    State.Keeps pq (State.laneWrites k l s).2 := by
  induction l with
  | nil => intro s hs; exact hs
  | cons w l ih =>
    intro s hs
    unfold State.laneWrites
    exact ite_snd_keeps (ih (State.store_keeps hs)) hs

theorem State.completed_keeps {s : State} {p : Prog} {k : Nat} {r : Nat} (hs : State.Keeps pq s) :
    State.Keeps pq (State.completed s p k r) := by
  unfold State.completed
  repeat' first | with_reducible assumption | (intro _) | (with_reducible first | apply State.wr_keeps | apply State.modTask_keeps | apply State.at__keeps | apply State.setT_keeps | apply State.trig_keeps | apply State.schedule_keeps | apply ite_keeps) | split | (dsimp only; split) | (with_reducible apply State.upd_keeps)

theorem taskComplete_keeps {t : Nat} {k : Nat} {writes : List (Nat × List Byte)} {s : State} (hs : State.Keeps pq s) :
    State.Keeps pq (taskComplete t k writes s) := by
  unfold taskComplete
  repeat' first | with_reducible assumption | (with_reducible first | apply State.at__keeps | apply State.laneWrites_keeps | apply State.completed_keeps | apply State.taskFault_keeps | apply ite_keeps) | split | (dsimp only; split)

theorem retainedWriteComplete_keeps {t : Nat} {k : Nat} {s : State} (hs : State.Keeps pq s) :
    State.Keeps pq (retainedWriteComplete t k s) := by
  unfold retainedWriteComplete
  repeat' first | with_reducible assumption | (intro _) | (with_reducible first | apply State.at__keeps | apply State.writeRet_keeps | apply State.modTask_keeps | apply State.schedule_keeps | apply ite_keeps | apply State.upd_keeps)

theorem State.cutOuts_keeps {s : State} {k : Nat} (hs : State.Keeps pq s) :
    State.Keeps pq (State.cutOuts s k) := by
  unfold State.cutOuts
  repeat' first | with_reducible assumption | (intro _) | (with_reducible first | apply State.at__keeps | apply State.stampForce_keeps | apply State.modTask_keeps | apply foldS_keeps | apply ite_keeps | apply State.upd_keeps)

theorem outputCutoff_keeps {t : Nat} {k : Nat} {s : State} (hs : State.Keeps pq s) :
    State.Keeps pq (outputCutoff t k s) := by
  unfold outputCutoff
  repeat' first | with_reducible assumption | (intro _) | (with_reducible first | apply State.at__keeps | apply State.cutOuts_keeps | apply State.modTask_keeps | apply State.sat_keeps | apply State.ownFault_keeps | apply State.taskFault_keeps | apply ite_keeps) | split | (dsimp only; split) | (with_reducible apply State.upd_keeps)

theorem State.lastOutputs_keeps {s : State} {l : List Nat} (hs : State.Keeps pq s) :
    State.Keeps pq (State.lastOutputs s l) := by
  unfold State.lastOutputs
  repeat' first | with_reducible assumption | (intro _) | (with_reducible first | apply State.dropStanding_keeps | apply State.dispose_keeps | apply foldS_keeps | apply ite_keeps) | split | (dsimp only; split) | (with_reducible apply State.upd_keeps)

theorem State.applyOuts_keeps {s : State} {k : Nat} (hs : State.Keeps pq s) :
    State.Keeps pq (State.applyOuts s k) := by
  unfold State.applyOuts
  repeat' first | with_reducible assumption | (intro _) | (with_reducible first | apply State.cutOuts_keeps | apply State.at__keeps | apply State.modTask_keeps | apply State.outObj_keeps | apply foldS_keeps | apply ite_keeps | apply State.upd_keeps)

theorem State.swapOver_keeps {s : State} (hs : State.Keeps pq s) :
    State.Keeps pq (State.swapOver s) := by
  unfold State.swapOver
  repeat' first | with_reducible assumption | (intro _) | (with_reducible first | apply State.applyOuts_keeps | apply State.lastOutputs_keeps | apply foldS_keeps | apply ite_keeps) | split | (dsimp only; split)

theorem outputInstant_keeps {t : Nat} {k : Nat} {s : State} (hs : State.Keeps pq s) :
    State.Keeps pq (outputInstant t k s) := by
  unfold outputInstant
  repeat' first | with_reducible assumption | (with_reducible first | apply State.at__keeps | apply State.applyOuts_keeps | apply State.swapOver_keeps)

theorem gridCycle_keeps {t : Nat} {s : State} (hs : State.Keeps pq s) :
    State.Keeps pq (gridCycle t s) := by
  unfold gridCycle
  repeat' first | with_reducible assumption | (intro _) | (with_reducible first | apply State.judgeTriggers_keeps | apply State.swapOver_keeps | apply ite_keeps | apply State.upd_keeps)

theorem State.admitGroup_keeps {s : State} {l : List Nat} (hs : State.Keeps pq s) :
    ∀ u, (State.admitGroup s l) = some u → State.Keeps pq u := by
  intro u
  unfold State.admitGroup
  repeat' first | with_reducible assumption | (with_reducible refine opt_ite_keeps ?_ ?_) | (with_reducible exact opt_none_keeps) | (with_reducible refine opt_some_keeps ?_) | (intro _) | (with_reducible first | apply State.modObj_keeps | apply State.shedAll_keeps | apply foldS_keeps | apply ite_keeps | apply State.upd_keeps)

theorem State.fillOutputs_keeps {s : State} (hs : State.Keeps pq s) :
    State.Keeps pq (State.fillOutputs s) := by
  unfold State.fillOutputs
  repeat' first | with_reducible assumption | (intro _) | (with_reducible first | apply State.store_keeps | apply foldS_keeps)

theorem State.freshTasks_keeps {s : State} {swap : Bool} (hs : State.Keeps pq s) :
    State.Keeps pq (State.freshTasks s swap) := by
  unfold State.freshTasks
  repeat' first | with_reducible assumption | (intro _) | (with_reducible first | apply State.answerEvent_keeps | apply State.setWord_keeps | apply State.setT_keeps | apply State.setTask_keeps | apply foldS_keeps | apply ite_keeps)

theorem State.initData_keeps {s : State} {p : Prog} (hs : State.Keeps pq s) :
    State.Keeps pq (State.initData s p) := by
  exact State.store_keeps (s := { s with mem := Memory.zero s.mem (cycData s.bank) 0xE0000 }) ⟨Memory.zero_wf _ _ hs.1, hs.2⟩

theorem State.enterRun_keeps {s : State} {mode : Nat} (hs : State.Keeps pq s) :
    State.Keeps pq (State.enterRun s mode) := by
  unfold State.enterRun
  repeat' first | with_reducible assumption | (intro _) | (with_reducible first | apply State.setT_keeps | apply State.modTask_keeps | apply State.at__keeps | apply State.dispose_keeps | apply State.wrb_keeps | apply State.initData_keeps | apply State.freshTasks_keeps | apply State.restoreRet_keeps | apply State.wr_keeps | apply State.trig_keeps | apply foldS_keeps | apply ite_keeps) | split | (dsimp only; split) | (with_reducible apply State.upd_keeps)

theorem State.cancelSwap_keeps {s : State} (hs : State.Keeps pq s) :
    State.Keeps pq (State.cancelSwap s) := by
  unfold State.cancelSwap
  repeat' first | with_reducible assumption | (intro _) | (with_reducible first | apply State.dropStanding_keeps | apply State.wrb_keeps | apply foldS_keeps) | split | (dsimp only; split) | (with_reducible apply State.upd_keeps)

theorem State.endStanding_keeps {s : State} (hs : State.Keeps pq s) :
    State.Keeps pq (State.endStanding s) := by
  unfold State.endStanding
  repeat' first | with_reducible assumption | (intro _) | (with_reducible first | apply State.dropStanding_keeps | apply foldS_keeps)

theorem State.dropStart_keeps {s : State} (hs : State.Keeps pq s) :
    State.Keeps pq (State.dropStart s) := by
  unfold State.dropStart
  repeat' first | with_reducible assumption | (intro _) | (with_reducible first | apply State.endStanding_keeps | apply State.wrb_keeps | apply State.answer_keeps | apply foldS_keeps | apply ite_keeps) | split | (dsimp only; split) | (with_reducible apply State.upd_keeps)

theorem State.cycStop_keeps {s : State} {disp : Bool} (hs : State.Keeps pq s) :
    State.Keeps pq (State.cycStop s disp) := by
  unfold State.cycStop
  repeat' first | with_reducible assumption | (intro _) | (with_reducible first | apply State.dropStart_keeps | apply State.cancelSwap_keeps | apply State.endStanding_keeps | apply State.answerEvent_keeps | apply State.modTask_keeps | apply State.setT_keeps | apply State.wrb_keeps | apply State.wr_keeps | apply State.trig_keeps | apply State.dispose_keeps | apply foldS_keeps | apply ite_keeps | apply State.upd_keeps)

theorem State.cycHoldNow_keeps {s : State} (hs : State.Keeps pq s) :
    State.Keeps pq (State.cycHoldNow s) := by
  unfold State.cycHoldNow
  repeat' first | with_reducible assumption | (intro _) | (with_reducible first | apply State.cancelSwap_keeps | apply State.endStanding_keeps | apply State.answerEvent_keeps | apply State.miss_keeps | apply State.modTask_keeps | apply State.wrb_keeps | apply State.setT_keeps | apply State.wr_keeps | apply State.trig_keeps | apply foldS_keeps | apply ite_keeps | apply State.upd_keeps)

theorem State.checkHold_keeps {s : State} (hs : State.Keeps pq s) :
    State.Keeps pq (State.checkHold s) := by
  unfold State.checkHold
  repeat' first | with_reducible assumption | (with_reducible first | apply State.clearForces_keeps | apply State.cycStop_keeps | apply ite_keeps)

theorem State.expireStart_keeps {s : State} {r : CStart} (hs : State.Keeps pq s) :
    State.Keeps pq (State.expireStart s r) := by
  unfold State.expireStart
  repeat' first | with_reducible assumption | (intro _) | (with_reducible first | apply State.expire_keeps | apply State.wrb_keeps | apply foldS_keeps | apply State.upd_keeps)

theorem State.tryStart_keeps {s : State} (hs : State.Keeps pq s) :
    State.Keeps pq (State.tryStart s) := by
  unfold State.tryStart
  repeat' first | with_reducible assumption | (intro _) | (with_reducible first | apply State.expireStart_keeps | apply State.at__keeps | apply State.wrb_keeps | apply ite_keeps) | split | (dsimp only; split) | (refine State.admitGroup_keeps ?_ _ (by with_reducible assumption)) | (with_reducible apply State.upd_keeps)

theorem runAdmission_keeps {t : Nat} {s : State} (hs : State.Keeps pq s) :
    State.Keeps pq (runAdmission t s) := by
  unfold runAdmission
  repeat' first | with_reducible assumption | (intro _) | (with_reducible first | apply State.at__keeps | apply State.enterRun_keeps | apply State.answer_keeps | apply State.tryStart_keeps | apply ite_keeps) | split | (dsimp only; split) | (with_reducible apply State.upd_keeps)

theorem State.activate_keeps {s : State} {carry : Bool} (hs : State.Keeps pq s) :
    State.Keeps pq (State.activate s carry) := by
  unfold State.activate
  repeat' first | with_reducible assumption | (intro _) | (with_reducible first | apply State.carry_keeps | apply State.wr_keeps | apply State.initData_keeps | apply State.store_keeps | apply State.setWord_keeps | apply State.freshTasks_keeps | apply State.fillOutputs_keeps | apply State.forceStat_keeps | apply State.trig_keeps | apply State.wrb_keeps | apply foldS_keeps | apply ite_keeps) | split | (dsimp only; split) | (with_reducible apply State.upd_keeps)

theorem State.exchange_keeps {s : State} (hs : State.Keeps pq s) :
    State.Keeps pq (State.exchange s) := by
  unfold State.exchange
  repeat' first | with_reducible assumption | (intro _) | (with_reducible first | apply State.applyOuts_keeps | apply State.lastOutputs_keeps | apply State.activate_keeps | apply State.trig_keeps | apply State.wrb_keeps | apply foldS_keeps | apply State.upd_keeps)

theorem swapInstant_keeps {t : Nat} {s : State} (hs : State.Keeps pq s) :
    State.Keeps pq (swapInstant t s) := by
  unfold swapInstant
  repeat' first | with_reducible assumption | (with_reducible first | apply State.at__keeps | apply State.exchange_keeps | apply State.judgeTriggers_keeps | apply ite_keeps) | split | (dsimp only; split)

theorem State.applyChange_keeps {s : State} {p : Prog} {e : List Byte} (hs : State.Keeps pq s) :
    State.Keeps pq (State.applyChange s p e) := by
  unfold State.applyChange
  repeat' first | with_reducible assumption | (with_reducible apply State.store_keeps) | split | (dsimp only; split)

theorem State.applyStaged_keeps {s : State} (hs : State.Keeps pq s) :
    State.Keeps pq (State.applyStaged s) := by
  unfold State.applyStaged
  repeat' first | with_reducible assumption | (intro _) | (with_reducible first | apply State.applyChange_keeps | apply State.wr_keeps | apply foldS_keeps) | split | (dsimp only; split) | (with_reducible apply State.upd_keeps)

theorem onlineChangeIdlePoint_keeps {t : Nat} {s : State} (hs : State.Keeps pq s) :
    State.Keeps pq (onlineChangeIdlePoint t s) := by
  unfold onlineChangeIdlePoint
  repeat' first | with_reducible assumption | (with_reducible first | apply State.at__keeps | apply State.applyStaged_keeps | apply State.wr_keeps | apply State.trig_keeps | apply ite_keeps) | split | (dsimp only; split)

theorem onlineChangeNoIdle_keeps {t : Nat} {s : State} (hs : State.Keeps pq s) :
    State.Keeps pq (onlineChangeNoIdle t s) := by
  unfold onlineChangeNoIdle
  repeat' first | with_reducible assumption | (with_reducible first | apply State.at__keeps | apply State.wr_keeps | apply State.trig_keeps | apply ite_keeps) | split | (dsimp only; split) | (with_reducible apply State.upd_keeps)

end Sys2Proof.Machine
end

