-- ==== Sys2Proof/Laws/Keeps2.lean ====
section
/-!
SUPPORT. Laws/Keeps2.lean: one lemma per operation: it keeps the canonical form of memory and the queue. Here: the buses, the gateway, the key store and the engine commands.
-/
namespace Sys2Proof.Machine

variable {pq : List Instr}

/-! ## Machine/Blocks.lean -/

theorem State.replyData_keeps {s : State} {w : Nat} (hs : State.Keeps pq s) :
    State.Keeps pq (State.replyData s w) := by
  unfold State.replyData
  repeat' first | with_reducible assumption | (with_reducible apply State.upd_keeps)

theorem State.blogWrite_keeps {s : State} {ty : Nat} {a : Acc} {addr : Nat} (hs : State.Keeps pq s) :
    State.Keeps pq (State.blogWrite s ty a addr) := by
  unfold State.blogWrite
  repeat' first | with_reducible assumption | (with_reducible first | apply State.setWord_keeps | apply State.wr_keeps | apply State.wrb_keeps | apply State.setPair_keeps | apply State.sat_keeps)

theorem State.failAcc_keeps {s : State} {code : Nat} {a : Acc} {ty : Nat} {addr : Nat} (hs : State.Keeps pq s) :
    State.Keeps pq (State.failAcc s code a ty addr) := by
  unfold State.failAcc
  repeat' first | with_reducible assumption | (with_reducible first | apply State.blogWrite_keeps | apply State.trig_keeps | apply State.accFault_keeps | apply ite_keeps | apply State.upd_keeps)

theorem State.refuseAcc_keeps {s : State} {a : Acc} {ty : Nat} {addr : Nat} (hs : State.Keeps pq s) :
    State.Keeps pq (State.refuseAcc s a ty addr) := by
  unfold State.refuseAcc
  repeat' first | with_reducible assumption | (with_reducible apply State.failAcc_keeps)

theorem State.blockWrite_keeps {s : State} {a : Acc} {kind : Nat} {idx : Nat} {addr : Nat} {f : State → State} (hs : State.Keeps pq s) (hf : ∀ u, State.Keeps pq u → State.Keeps pq (f u)) :
    State.Keeps pq (State.blockWrite s a kind idx addr f) := by
  unfold State.blockWrite
  repeat' first | with_reducible assumption | (intro _) | (with_reducible first | apply State.refuseAcc_keeps | apply hf | apply ite_keeps | apply State.upd_keeps)

theorem State.blockRead_keeps {s : State} {a : Acc} {kind : Nat} {idx : Nat} {addr : Nat} {f : State → State} (hs : State.Keeps pq s) (hf : ∀ u, State.Keeps pq u → State.Keeps pq (f u)) :
    State.Keeps pq (State.blockRead s a kind idx addr f) := by
  unfold State.blockRead
  repeat' first | with_reducible assumption | (intro _) | (with_reducible first | apply State.refuseAcc_keeps | apply hf | apply ite_keeps)

theorem State.storeAs_keeps {s : State} {who : Nat} {master : Nat} {addr : Nat} {l : List Byte} (hs : State.Keeps pq s) :
    State.Keeps pq (State.storeAs s who master addr l) := by
  unfold State.storeAs
  repeat' first | with_reducible assumption | (with_reducible first | apply State.store_keeps | apply State.refuseAcc_keeps | apply ite_keeps)

theorem State.setRoute_keeps {s : State} {r : Nat} {x : GRoute} (hs : State.Keeps pq s) :
    State.Keeps pq (State.setRoute s r x) := by
  unfold State.setRoute
  repeat' first | with_reducible assumption | (with_reducible apply State.upd_keeps)

theorem State.modRoute_keeps {s : State} {r : Nat} {f : GRoute → GRoute} (hs : State.Keeps pq s) :
    State.Keeps pq (State.modRoute s r f) := by
  unfold State.modRoute
  repeat' first | with_reducible assumption | (intro _) | (with_reducible apply State.setRoute_keeps)

/-! ## Machine/CanCore.lean -/

theorem State.modCan_keeps {s : State} {c : Nat} {f : CanChan → CanChan} (hs : State.Keeps pq s) :
    State.Keeps pq (State.modCan s c f) := by
  unfold State.modCan
  repeat' first | with_reducible assumption | (intro _) | (with_reducible apply State.upd_keeps)

theorem State.canTrig_keeps {s : State} {c : Nat} {i : Nat} (hs : State.Keeps pq s) :
    State.Keeps pq (State.canTrig s c i) := by
  unfold State.canTrig
  repeat' first | with_reducible assumption | (with_reducible apply State.trig_keeps)

theorem State.canLines_keeps {s : State} {c : Nat} (hs : State.Keeps pq s) :
    State.Keeps pq (State.canLines s c) := by
  unfold State.canLines
  repeat' first | with_reducible assumption | (with_reducible apply State.upd_keeps)

theorem State.canStore_keeps {s : State} {c : Nat} {addr : Nat} {l : List Byte} (hs : State.Keeps pq s) :
    State.Keeps pq (State.canStore s c addr l) := by
  unfold State.canStore
  repeat' first | with_reducible assumption | (with_reducible apply State.storeAs_keeps)

theorem State.canLoad_keeps {s : State} {c : Nat} {addr : Nat} (hs : State.Keeps pq s) :
    State.Keeps pq (State.canLoad s c addr).2 := by
  unfold State.canLoad
  repeat' first | with_reducible assumption | (with_reducible first | apply ite_snd_keeps | apply ite_snd2_keeps | apply State.refuseAcc_keeps | apply ite_keeps)

theorem State.setTxst_keeps {s : State} {c : Nat} {k : Nat} {v : Nat} (hs : State.Keeps pq s) :
    State.Keeps pq (State.setTxst s c k v) := by
  unfold State.setTxst
  repeat' first | with_reducible assumption | (with_reducible apply State.wr_keeps)

theorem State.setEn_keeps {s : State} {c : Nat} {k : Nat} {en : Bool} (hs : State.Keeps pq s) :
    State.Keeps pq (State.setEn s c k en) := by
  unfold State.setEn
  repeat' first | with_reducible assumption | (intro _) | (with_reducible first | apply State.modCan_keeps | apply State.wrb_keeps | apply State.upd_keeps)

theorem State.rxEvent_keeps {s : State} {c : Nat} {k : Nat} (hs : State.Keeps pq s) :
    State.Keeps pq (State.rxEvent s c k) := by
  unfold State.rxEvent
  repeat' first | with_reducible assumption | (intro _) | (with_reducible first | apply State.modCan_keeps | apply State.canLines_keeps | apply ite_keeps | apply State.upd_keeps)

theorem State.txEvent_keeps {s : State} {c : Nat} {k : Nat} {outcome : Nat} (hs : State.Keeps pq s) :
    State.Keeps pq (State.txEvent s c k outcome) := by
  unfold State.txEvent
  repeat' first | with_reducible assumption | (intro _) | (with_reducible first | apply State.modCan_keeps | apply State.canLines_keeps | apply State.canTrig_keeps | apply ite_keeps | apply State.upd_keeps)

theorem State.objLostNow_keeps {s : State} {c : Nat} {k : Nat} (hs : State.Keeps pq s) :
    State.Keeps pq (State.objLostNow s c k) := by
  unfold State.objLostNow
  repeat' first | with_reducible assumption | (with_reducible first | apply State.wrb_keeps | apply State.canTrig_keeps)

theorem State.otherSlot_keeps {s : State} {c : Nat} {k : Nat} {b : List Byte} (hs : State.Keeps pq s) :
    State.Keeps pq (State.otherSlot s c k b) := by
  unfold State.otherSlot
  repeat' first | with_reducible assumption | (with_reducible apply State.canStore_keeps)

theorem State.flipCur_keeps {s : State} {c : Nat} {k : Nat} (hs : State.Keeps pq s) :
    State.Keeps pq (State.flipCur s c k) := by
  unfold State.flipCur
  repeat' first | with_reducible assumption | (with_reducible apply State.wr_keeps)

theorem State.objAccept_keeps {s : State} {c : Nat} {k : Nat} {b : List Byte} (hs : State.Keeps pq s) :
    State.Keeps pq (State.objAccept s c k b) := by
  unfold State.objAccept
  repeat' first | with_reducible assumption | (with_reducible first | apply State.otherSlot_keeps | apply State.inc_keeps | apply State.objLostNow_keeps | apply State.wrb_keeps | apply State.flipCur_keeps | apply State.rxEvent_keeps | apply ite_keeps)

theorem State.objHold_keeps {s : State} {c : Nat} {k : Nat} (hs : State.Keeps pq s) :
    State.Keeps pq (State.objHold s c k) := by
  unfold State.objHold
  repeat' first | with_reducible assumption | (with_reducible apply State.wrb_keeps)

theorem State.objRelease_keeps {s : State} {c : Nat} {k : Nat} (hs : State.Keeps pq s) :
    State.Keeps pq (State.objRelease s c k) := by
  unfold State.objRelease
  repeat' first | with_reducible assumption | (with_reducible first | apply State.flipCur_keeps | apply State.wrb_keeps | apply State.rxEvent_keeps | apply ite_keeps)

theorem State.objTxreq_keeps {s : State} {c : Nat} {k : Nat} {slot : Nat} (hs : State.Keeps pq s) :
    State.Keeps pq (State.objTxreq s c k slot) := by
  unfold State.objTxreq
  repeat' first | with_reducible assumption | (with_reducible first | apply State.wr_keeps | apply State.wrb_keeps | apply State.setTxst_keeps | apply ite_keeps)

theorem State.txEnd_keeps {s : State} {c : Nat} {k : Nat} {st : Nat} {outcome : Nat} (hs : State.Keeps pq s) :
    State.Keeps pq (State.txEnd s c k st outcome) := by
  unfold State.txEnd
  repeat' first | with_reducible assumption | (with_reducible first | apply State.setTxst_keeps | apply State.txEvent_keeps | apply State.wr_keeps | apply State.wrb_keeps | apply ite_keeps)

theorem State.objAbort_keeps {s : State} {c : Nat} {k : Nat} (hs : State.Keeps pq s) :
    State.Keeps pq (State.objAbort s c k) := by
  unfold State.objAbort
  repeat' first | with_reducible assumption | (with_reducible first | apply State.txEnd_keeps | apply State.setTxst_keeps | apply ite_keeps)

theorem State.offBus_keeps {s : State} {c : Nat} (hs : State.Keeps pq s) :
    State.Keeps pq (State.offBus s c) := by
  unfold State.offBus
  repeat' first | with_reducible assumption | (intro _) | (with_reducible first | apply State.modCan_keeps | apply State.setEn_keeps | apply ite_keeps) | split | (dsimp only; split) | (with_reducible apply State.upd_keeps)

theorem State.actEvqOff_keeps {s : State} {c : Nat} {k : Nat} (hs : State.Keeps pq s) :
    State.Keeps pq (State.actEvqOff s c k) := by
  unfold State.actEvqOff
  repeat' first | with_reducible assumption | (with_reducible first | apply State.wrb_keeps | apply ite_keeps)

theorem State.actEvqOn_keeps {s : State} {c : Nat} {k : Nat} (hs : State.Keeps pq s) :
    State.Keeps pq (State.actEvqOn s c k) := by
  unfold State.actEvqOn
  repeat' first | with_reducible assumption | (with_reducible first | apply State.wrb_keeps | apply ite_keeps)

theorem State.actLostClr_keeps {s : State} {c : Nat} {k : Nat} (hs : State.Keeps pq s) :
    State.Keeps pq (State.actLostClr s c k) := by
  unfold State.actLostClr
  repeat' first | with_reducible assumption | (with_reducible first | apply State.wrb_keeps | apply ite_keeps)

theorem State.actHoldRel_keeps {s : State} {c : Nat} {k : Nat} (hs : State.Keeps pq s) :
    State.Keeps pq (State.actHoldRel s c k) := by
  unfold State.actHoldRel
  repeat' first | with_reducible assumption | (with_reducible first | apply State.objRelease_keeps | apply ite_keeps)

theorem State.actHoldSet_keeps {s : State} {c : Nat} {k : Nat} (hs : State.Keeps pq s) :
    State.Keeps pq (State.actHoldSet s c k) := by
  unfold State.actHoldSet
  repeat' first | with_reducible assumption | (with_reducible first | apply State.objHold_keeps | apply ite_keeps)

theorem State.actAbort_keeps {s : State} {c : Nat} {k : Nat} (hs : State.Keeps pq s) :
    State.Keeps pq (State.actAbort s c k) := by
  unfold State.actAbort
  repeat' first | with_reducible assumption | (with_reducible first | apply State.objAbort_keeps | apply ite_keeps)

theorem State.actTxreq_keeps {s : State} {c : Nat} {k : Nat} {slot : Nat} (hs : State.Keeps pq s) :
    State.Keeps pq (State.actTxreq s c k slot) := by
  unfold State.actTxreq
  repeat' first | with_reducible assumption | (with_reducible first | apply State.objTxreq_keeps | apply ite_keeps)

theorem State.writeObjCtl_keeps {s : State} {c : Nat} {k : Nat} {v : Nat} (hs : State.Keeps pq s) :
    State.Keeps pq (State.writeObjCtl s c k v) := by
  unfold State.writeObjCtl
  repeat' first | with_reducible assumption | (with_reducible first | apply State.actEvqOff_keeps | apply State.actEvqOn_keeps | apply State.actLostClr_keeps | apply State.actHoldRel_keeps | apply State.actHoldSet_keeps | apply State.actAbort_keeps | apply State.actTxreq_keeps | apply ite_keeps) | split | (dsimp only; split)

theorem State.disableObj_keeps {s : State} {c : Nat} {k : Nat} (hs : State.Keeps pq s) :
    State.Keeps pq (State.disableObj s c k) := by
  unfold State.disableObj
  repeat' first | with_reducible assumption | (intro _) | (with_reducible first | apply State.wrb_keeps | apply State.objAbort_keeps | apply State.modCan_keeps | apply State.setEn_keeps | apply State.canLines_keeps | apply ite_keeps | apply State.upd_keeps)

theorem State.writeObjId_keeps {s : State} {c : Nat} {k : Nat} {v : Nat} (hs : State.Keeps pq s) :
    State.Keeps pq (State.writeObjId s c k v) := by
  unfold State.writeObjId
  repeat' first | with_reducible assumption | (with_reducible first | apply State.wrb_keeps | apply State.disableObj_keeps | apply State.setWord_keeps | apply State.setTxst_keeps | apply State.setEn_keeps | apply ite_keeps)

theorem State.canState_keeps {s : State} {c : Nat} {v : Nat} (hs : State.Keeps pq s) :
    State.Keeps pq (State.canState s c v) := by
  unfold State.canState
  repeat' first | with_reducible assumption | (intro _) | (with_reducible first | apply State.wr_keeps | apply State.modCan_keeps | apply State.canTrig_keeps | apply ite_keeps | apply State.upd_keeps)

theorem State.canCounters_keeps {s : State} {c : Nat} (hs : State.Keeps pq s) :
    State.Keeps pq (State.canCounters s c) := by
  unfold State.canCounters
  repeat' first | with_reducible assumption | (with_reducible first | apply State.wrb_keeps | apply State.canState_keeps | apply ite_keeps) | split | (dsimp only; split)

theorem State.canBegin_keeps {s : State} {c : Nat} (hs : State.Keeps pq s) :
    State.Keeps pq (State.canBegin s c) := by
  unfold State.canBegin
  repeat' first | with_reducible assumption | (with_reducible first | apply State.wr_keeps | apply State.wrb_keeps | apply State.canState_keeps)

theorem State.canMode_keeps {s : State} {c : Nat} {m : Nat} (hs : State.Keeps pq s) :
    State.Keeps pq (State.canMode s c m) := by
  unfold State.canMode
  repeat' first | with_reducible assumption | (intro _) | (with_reducible first | apply State.modCan_keeps | apply State.wr_keeps | apply State.canState_keeps | apply State.canBegin_keeps | apply ite_keeps | apply State.upd_keeps)

/-! ## Machine/LinCore.lean -/

theorem State.modLin_keeps {s : State} {c : Nat} {f : LinChan → LinChan} (hs : State.Keeps pq s) :
    State.Keeps pq (State.modLin s c f) := by
  unfold State.modLin
  repeat' first | with_reducible assumption | (intro _) | (with_reducible apply State.upd_keeps)

theorem State.linTrig_keeps {s : State} {c : Nat} {i : Nat} (hs : State.Keeps pq s) :
    State.Keeps pq (State.linTrig s c i) := by
  unfold State.linTrig
  repeat' first | with_reducible assumption | (with_reducible apply State.trig_keeps)

theorem State.setLinData_keeps {s : State} {c : Nat} {i : Nat} {b : List Byte} (hs : State.Keeps pq s) :
    State.Keeps pq (State.setLinData s c i b) := by
  unfold State.setLinData
  repeat' first | with_reducible assumption | (with_reducible apply State.setWord_keeps)

theorem State.linNew_keeps {s : State} {c : Nat} {i : Nat} (hs : State.Keeps pq s) :
    State.Keeps pq (State.linNew s c i) := by
  unfold State.linNew
  repeat' first | with_reducible assumption | (with_reducible first | apply State.linTrig_keeps | apply State.wrb_keeps | apply ite_keeps)

theorem State.linAccept_keeps {s : State} {c : Nat} {i : Nat} {b : List Byte} (hs : State.Keeps pq s) :
    State.Keeps pq (State.linAccept s c i b) := by
  unfold State.linAccept
  repeat' first | with_reducible assumption | (intro _) | (with_reducible first | apply State.modLin_keeps | apply State.wrb_keeps | apply State.setLinData_keeps | apply State.linNew_keeps | apply ite_keeps | apply State.upd_keeps)

theorem State.linRelease_keeps {s : State} {c : Nat} {i : Nat} (hs : State.Keeps pq s) :
    State.Keeps pq (State.linRelease s c i) := by
  unfold State.linRelease
  repeat' first | with_reducible assumption | (intro _) | (with_reducible first | apply State.setLinData_keeps | apply State.modLin_keeps | apply State.wrb_keeps | apply State.linNew_keeps | apply ite_keeps | apply State.upd_keeps)

theorem State.linHoldSet_keeps {s : State} {c : Nat} {i : Nat} (hs : State.Keeps pq s) :
    State.Keeps pq (State.linHoldSet s c i) := by
  unfold State.linHoldSet
  repeat' first | with_reducible assumption | (with_reducible first | apply State.wrb_keeps | apply ite_keeps) | split | (dsimp only; split)

theorem State.linHoldRel_keeps {s : State} {c : Nat} {i : Nat} (hs : State.Keeps pq s) :
    State.Keeps pq (State.linHoldRel s c i) := by
  unfold State.linHoldRel
  repeat' first | with_reducible assumption | (with_reducible first | apply State.linRelease_keeps | apply ite_keeps)

theorem State.linLostClr_keeps {s : State} {c : Nat} {i : Nat} (hs : State.Keeps pq s) :
    State.Keeps pq (State.linLostClr s c i) := by
  unfold State.linLostClr
  repeat' first | with_reducible assumption | (with_reducible first | apply State.wrb_keeps | apply ite_keeps)

theorem State.linCtl_keeps {s : State} {c : Nat} {i : Nat} {v : Nat} (hs : State.Keeps pq s) :
    State.Keeps pq (State.linCtl s c i v) := by
  unfold State.linCtl
  repeat' first | with_reducible assumption | (with_reducible first | apply State.linLostClr_keeps | apply State.linHoldRel_keeps | apply State.linHoldSet_keeps | apply ite_keeps)

theorem State.writeLinCfg_keeps {s : State} {c : Nat} {i : Nat} {v : Nat} (hs : State.Keeps pq s) :
    State.Keeps pq (State.writeLinCfg s c i v) := by
  unfold State.writeLinCfg
  repeat' first | with_reducible assumption | (with_reducible first | apply State.wr_keeps | apply State.linCtl_keeps | apply ite_keeps) | split | (dsimp only; split)

theorem State.writeLinData1_keeps {s : State} {c : Nat} {i : Nat} {v : Nat} (hs : State.Keeps pq s) :
    State.Keeps pq (State.writeLinData1 s c i v) := by
  unfold State.writeLinData1
  repeat' first | with_reducible assumption | (with_reducible first | apply State.setWord_keeps | apply State.wrb_keeps | apply ite_keeps)

theorem State.writeLinData0_keeps {s : State} {c : Nat} {i : Nat} {v : Nat} (hs : State.Keeps pq s) :
    State.Keeps pq (State.writeLinData0 s c i v) := by
  unfold State.writeLinData0
  repeat' first | with_reducible assumption | (with_reducible first | apply State.setWord_keeps | apply ite_keeps)

theorem State.linError_keeps {s : State} {c : Nat} {i : Nat} {err : Nat} (hs : State.Keeps pq s) :
    State.Keeps pq (State.linError s c i err) := by
  unfold State.linError
  repeat' first | with_reducible assumption | (with_reducible first | apply State.wr_keeps | apply State.sat_keeps | apply State.linTrig_keeps)

/-! ## Machine/Streams.lean -/

theorem State.setStream_keeps {s : State} {n : Nat} {x : Stream} (hs : State.Keeps pq s) :
    State.Keeps pq (State.setStream s n x) := by
  unfold State.setStream
  repeat' first | with_reducible assumption | (with_reducible apply State.upd_keeps)

theorem State.streamFilter_keeps {s : State} {n : Nat} {len : Nat} (hs : State.Keeps pq s) :
    State.Keeps pq (State.streamFilter s n len).2 := by
  unfold State.streamFilter
  repeat' first | with_reducible assumption | (with_reducible first | apply ite_snd_keeps | apply ite_snd2_keeps | apply State.setStream_keeps | apply State.trig_keeps | apply ite_keeps | apply State.upd_keeps)

theorem State.recover_keeps {s : State} {n : Nat} {b : List Byte} (hs : State.Keeps pq s) :
    State.Keeps pq (State.recover s n b).2.2 := by
  unfold State.recover
  repeat' first | with_reducible assumption | (with_reducible first | apply ite_snd_keeps | apply ite_snd2_keeps | apply State.setStream_keeps | apply ite_keeps) | split | (dsimp only; split) | (with_reducible apply State.upd_keeps)

theorem frerResetTimer_keeps {t : Nat} {f : Nat} {s : State} (hs : State.Keeps pq s) :
    State.Keeps pq (frerResetTimer t f s) := by
  unfold frerResetTimer
  repeat' first | with_reducible assumption | (intro _) | (with_reducible first | apply State.at__keeps | apply State.setStream_keeps | apply State.trig_keeps | apply foldS_keeps | apply ite_keeps | apply State.upd_keeps)

theorem frerLatentPeriod_keeps {t : Nat} {f : Nat} {s : State} (hs : State.Keeps pq s) :
    State.Keeps pq (frerLatentPeriod t f s) := by
  unfold frerLatentPeriod
  repeat' first | with_reducible assumption | (with_reducible first | apply State.at__keeps | apply State.trig_keeps | apply State.ownFault_keeps | apply ite_keeps | apply State.upd_keeps)

/-! ## Machine/SwitchRx.lean -/

theorem State.queueCheck_keeps {s : State} {n : Nat} {b : List Byte} {colour : Nat} {d : Dest} (hs : State.Keeps pq s) :
    State.Keeps pq (State.queueCheck s n b colour d).2 := by
  unfold State.queueCheck
  repeat' first | with_reducible assumption | (with_reducible first | apply ite_snd_keeps | apply ite_snd2_keeps | apply State.countDrop_keeps | apply State.queueDrop_keeps | apply State.redDecide_keeps | apply State.accept_keeps | apply State.count_keeps | apply ite_keeps) | split | (dsimp only; split) | (with_reducible apply State.upd_keeps)

theorem State.queueChecks_keeps {n : Nat} {b : List Byte} {colour : Nat} {xs : List Dest} : ∀ {s : State}, State.Keeps pq s →
    State.Keeps pq (State.queueChecks s n b colour xs).2 := by
  induction xs with
  | nil => intro s hs; exact hs
  | cons d l ih => intro s hs; exact ih (State.queueCheck_keeps hs)

theorem State.admitFrame_keeps {s : State} {f : Frame} {arrived : Nat} {secTag : Bool} {str : Option Nat} {dests : List Dest} (hs : State.Keeps pq s) :
    State.Keeps pq (State.admitFrame s f arrived secTag str dests).2 := by
  unfold State.admitFrame
  repeat' first | with_reducible assumption | (with_reducible first | apply ite_snd_keeps | apply ite_snd2_keeps) | (intro _) | (with_reducible first | apply State.countDrop_keeps | apply foldS_keeps) | split | (dsimp only; split) | (refine State.takeCells_keeps ?_ _ (by with_reducible assumption)) | (with_reducible apply State.upd_keeps)

theorem State.toQueues_keeps {s : State} {f : Frame} {arrived : Nat} {secTag : Bool} {str : Option Nat} (hs : State.Keeps pq s) :
    State.Keeps pq (State.toQueues s f arrived secTag str).2 := by
  unfold State.toQueues
  repeat' first | with_reducible assumption | (with_reducible first | apply ite_snd_keeps | apply ite_snd2_keeps) | (intro _) | (with_reducible first | apply State.queueChecks_keeps | apply State.admitFrame_keeps | apply State.count_keeps | apply ite_keeps) | split | (dsimp only; split) | (with_reducible apply State.upd_keeps)

theorem State.sequence_keeps {s : State} {f : Frame} {arrived : Nat} {secTag : Bool} {str : Option Nat} (hs : State.Keeps pq s) :
    State.Keeps pq (State.sequence s f arrived secTag str).2 := by
  unfold State.sequence
  repeat' first | with_reducible assumption | (with_reducible first | apply ite_snd_keeps | apply ite_snd2_keeps | apply State.toQueues_keeps | apply State.setStream_keeps | apply State.recover_keeps | apply ite_keeps) | split | (dsimp only; split) | (with_reducible apply State.upd_keeps)

theorem State.policed_keeps {s : State} {f : Frame} {arrived : Nat} {secTag : Bool} {str : Option Nat} (hs : State.Keeps pq s) :
    State.Keeps pq (State.policed s f arrived secTag str).2 := by
  unfold State.policed
  repeat' first | with_reducible assumption | (with_reducible first | apply ite_snd_keeps | apply ite_snd2_keeps | apply State.police_keeps | apply State.count_keeps | apply State.setStream_keeps | apply State.sequence_keeps | apply ite_keeps) | split | (dsimp only; split) | (with_reducible apply State.upd_keeps)

theorem State.ingress_keeps {s : State} {f : Frame} {clsOver : Option Nat} {arrived : Nat} {secTag : Bool} (hs : State.Keeps pq s) :
    State.Keeps pq (State.ingress s f clsOver arrived secTag).2 := by
  unfold State.ingress
  repeat' first | with_reducible assumption | (with_reducible first | apply ite_snd_keeps | apply ite_snd2_keeps) | (intro _) | (with_reducible first | apply State.count_keeps | apply State.learn_keeps | apply State.streamFilter_keeps | apply State.policed_keeps | apply ite_keeps) | split | (dsimp only; split) | (with_reducible apply State.upd_keeps)

theorem State.setRx_keeps {s : State} {p : Nat} {r : Option Rx} (hs : State.Keeps pq s) :
    State.Keeps pq (State.setRx s p r) := by
  unfold State.setRx
  repeat' first | with_reducible assumption | (with_reducible first | apply State.setSwPort_keeps | apply State.upd_keeps)

theorem State.rxWhole_keeps {s : State} {fr : RxFrame} {mx : Nat} (hs : State.Keeps pq s) :
    State.Keeps pq (State.rxWhole s fr mx) := by
  unfold State.rxWhole
  repeat' first | with_reducible assumption | (with_reducible first | apply State.count_keeps | apply State.secValidate_keeps | apply State.ingress_keeps) | split | (dsimp only; split)

theorem State.rxHead_keeps {s : State} {fr : RxFrame} {mx : Nat} (hs : State.Keeps pq s) :
    State.Keeps pq (State.rxHead s fr mx) := by
  unfold State.rxHead
  repeat' first | with_reducible assumption | (intro _) | (with_reducible first | apply State.count_keeps | apply State.setRx_keeps | apply State.ingress_keeps | apply ite_keeps) | split | (dsimp only; split) | (with_reducible apply State.upd_keeps)

theorem State.rxMore_keeps {s : State} {fr : RxFrame} {r : Rx} {f : Nat} (hs : State.Keeps pq s) :
    State.Keeps pq (State.rxMore s fr r f) := by
  unfold State.rxMore
  dsimp only
  have hd : ∀ u o, State.Keeps pq u → State.Keeps pq (State.setRx u fr.port o) := fun _ _ h => State.setRx_keeps h
  have hg : ∀ u, State.Keeps pq u → State.Keeps pq (if fr.fin then ((u.count fr.port cRX_FRAMES 1).count fr.port cRX_BYTES fr.len).setRx fr.port none
      else u.setRx fr.port (some { r with got := fr.bytes.length })) :=
    fun u h => ite_keeps (hd _ _ (State.count_keeps (State.count_keeps h))) (hd _ _ h)
  split
  · split
    · exact hd _ _ (State.count_keeps hs)
    · exact hg _ hs
  · next x _ =>
    have hm : State.Keeps pq ((s.modFrame f (fun y => { y with bytes := s.clearBytes fr.port x.dec fr.fin fr.bytes })).rewire f) :=
      State.rewire_keeps (State.modFrame_keeps hs)
    revert hm
    generalize (s.modFrame f (fun y => { y with bytes := s.clearBytes fr.port x.dec fr.fin fr.bytes })).rewire f = v
    intro hm
    split
    · exact hd _ _ (State.spoil_keeps (State.count_keeps hm))
    · split
      · exact hd _ _ (State.spoil_keeps hm)
      · next heq => exact State.modFrame_keeps (hg _ (State.takeCells_keeps hm _ heq))

theorem State.phyCounts_keeps {s : State} {fr : RxFrame} (hs : State.Keeps pq s) :
    State.Keeps pq (State.phyCounts s fr) := by
  unfold State.phyCounts
  repeat' first | with_reducible assumption | (with_reducible first | apply State.count_keeps | apply ite_keeps)

theorem State.rxNew_keeps {s : State} {fr : RxFrame} (hs : State.Keeps pq s) :
    State.Keeps pq (State.rxNew s fr) := by
  unfold State.rxNew
  repeat' first | with_reducible assumption | (with_reducible first | apply State.rxWhole_keeps | apply State.rxHead_keeps | apply ite_keeps)

theorem State.rxOn_keeps {s : State} {fr : RxFrame} {r : Rx} (hs : State.Keeps pq s) :
    State.Keeps pq (State.rxOn s fr r) := by
  unfold State.rxOn
  repeat' first | with_reducible assumption | (with_reducible first | apply State.setRx_keeps | apply State.rxMore_keeps | apply State.rxWhole_keeps | apply State.rxHead_keeps | apply ite_keeps) | split | (dsimp only; split)

theorem State.rxEnds_keeps {s : State} {p : Nat} {r : Rx} (hs : State.Keeps pq s) :
    State.Keeps pq (State.rxEnds s p r) := by
  unfold State.rxEnds
  repeat' first | with_reducible assumption | (with_reducible first | apply State.setRx_keeps | apply State.count_keeps | apply State.spoil_keeps | apply ite_keeps) | split | (dsimp only; split)

theorem frameReceive_keeps {t : Nat} {fr : RxFrame} {s : State} (hs : State.Keeps pq s) :
    State.Keeps pq (frameReceive t fr s) := by
  unfold frameReceive
  repeat' first | with_reducible assumption | (with_reducible first | apply State.swAt_keeps | apply State.phyCounts_keeps | apply State.rxOn_keeps | apply State.rxEnds_keeps | apply State.rxNew_keeps | apply ite_keeps) | split | (dsimp only; split)

theorem frameTruncationTimeout_keeps {t : Nat} {p : Nat} {s : State} (hs : State.Keeps pq s) :
    State.Keeps pq (frameTruncationTimeout t p s) := by
  unfold frameTruncationTimeout
  repeat' first | with_reducible assumption | (with_reducible first | apply State.swAt_keeps | apply State.count_keeps | apply State.setRx_keeps | apply State.spoil_keeps | apply ite_keeps) | split | (dsimp only; split) | (with_reducible apply State.upd_keeps)

theorem State.sendFrom_keeps {s : State} {p : Nat} {b : List Byte} {cls : Nat} (hs : State.Keeps pq s) :
    State.Keeps pq (State.sendFrom s p b cls) := by
  unfold State.sendFrom
  repeat' first | with_reducible assumption | (with_reducible first | apply State.credits_keeps | apply State.count_keeps | apply State.ingress_keeps | apply ite_keeps)

/-! ## Machine/Gateway.lean -/

theorem State.sendCont_keeps {s : State} {k : Nat} (hs : State.Keeps pq s) :
    State.Keeps pq (State.sendCont s k) := by
  unfold State.sendCont
  repeat' first | with_reducible assumption | (with_reducible first | apply State.sendFrom_keeps | apply ite_keeps | apply State.upd_keeps)

theorem State.placePdu_keeps {s : State} {k : Nat} {id : Nat} {d : List Byte} (hs : State.Keeps pq s) :
    State.Keeps pq (State.placePdu s k id d) := by
  unfold State.placePdu
  repeat' first | with_reducible assumption | (intro _) | (with_reducible first | apply State.sendCont_keeps | apply ite_keeps | apply State.upd_keeps)

theorem State.dstFail_keeps {s : State} {r : Nat} (hs : State.Keeps pq s) :
    State.Keeps pq (State.dstFail s r) := by
  unfold State.dstFail
  repeat' first | with_reducible assumption | (intro _) | (with_reducible first | apply State.modRoute_keeps | apply State.trig_keeps | apply State.upd_keeps)

theorem State.sendDone_keeps {s : State} {r : Nat} {b : List Byte} (hs : State.Keeps pq s) :
    State.Keeps pq (State.sendDone s r b) := by
  unfold State.sendDone
  repeat' first | with_reducible assumption | (intro _) | (with_reducible first | apply State.modRoute_keeps | apply State.upd_keeps)

theorem State.sendFail_keeps {s : State} {r : Nat} (hs : State.Keeps pq s) :
    State.Keeps pq (State.sendFail s r) := by
  unfold State.sendFail
  repeat' first | with_reducible assumption | (intro _) | (with_reducible first | apply State.modRoute_keeps | apply State.dstFail_keeps | apply State.upd_keeps)

theorem State.gwySend_keeps {s : State} {r : Nat} (hs : State.Keeps pq s) :
    State.Keeps pq (State.gwySend s r) := by
  unfold State.gwySend
  repeat' first | with_reducible assumption | (intro _) | (with_reducible first | apply State.modRoute_keeps | apply State.sendFail_keeps | apply State.canStore_keeps | apply State.objTxreq_keeps | apply State.sendDone_keeps | apply State.setLinData_keeps | apply State.wrb_keeps | apply State.placePdu_keeps | apply ite_keeps) | split | (dsimp only; split) | (with_reducible apply State.upd_keeps)

theorem State.onUpdate_keeps {s : State} {r : Nat} (hs : State.Keeps pq s) :
    State.Keeps pq (State.onUpdate s r) := by
  unfold State.onUpdate
  repeat' first | with_reducible assumption | (with_reducible first | apply State.setRoute_keeps | apply ite_keeps | apply State.upd_keeps)

theorem State.routeUpdate_keeps {s : State} {r : Nat} {ep : Nat} {ff : Nat} {d : List Byte} (hs : State.Keeps pq s) :
    State.Keeps pq (State.routeUpdate s r ep ff d) := by
  unfold State.routeUpdate
  repeat' first | with_reducible assumption | (intro _) | (with_reducible first | apply State.setRoute_keeps | apply State.onUpdate_keeps | apply State.trig_keeps | apply ite_keeps | apply State.upd_keeps)

theorem State.gwyUpdate_keeps {s : State} {ep : Nat} {ff : Nat} {d : List Byte} (hs : State.Keeps pq s) :
    State.Keeps pq (State.gwyUpdate s ep ff d) := by
  unfold State.gwyUpdate
  repeat' first | with_reducible assumption | (intro _) | (with_reducible first | apply State.routeUpdate_keeps | apply foldS_keeps)

theorem State.gwyOutcome_keeps {s : State} {c : Nat} {k : Nat} {outcome : Nat} (hs : State.Keeps pq s) :
    State.Keeps pq (State.gwyOutcome s c k outcome) := by
  unfold State.gwyOutcome
  repeat' first | with_reducible assumption | (intro _) | (with_reducible first | apply State.dstFail_keeps | apply State.gwySend_keeps | apply foldS_keeps | apply ite_keeps)

theorem State.gwyDiscard_keeps {s : State} (hs : State.Keeps pq s) :
    State.Keeps pq (State.gwyDiscard s) := by
  unfold State.gwyDiscard
  repeat' first | with_reducible assumption | (intro _) | (with_reducible first | apply ite_keeps | apply State.upd_keeps)

theorem gatewaySendDue_keeps {t : Nat} {r : Nat} {s : State} (hs : State.Keeps pq s) :
    State.Keeps pq (gatewaySendDue t r s) := by
  unfold gatewaySendDue
  repeat' first | with_reducible assumption | (with_reducible first | apply State.at__keeps | apply State.gwySend_keeps | apply ite_keeps)

theorem gatewayMaxGapExpiry_keeps {t : Nat} {r : Nat} {s : State} (hs : State.Keeps pq s) :
    State.Keeps pq (gatewayMaxGapExpiry t r s) := by
  unfold gatewayMaxGapExpiry
  repeat' first | with_reducible assumption | (with_reducible first | apply State.at__keeps | apply State.gwySend_keeps | apply ite_keeps)

theorem gatewayTimeout_keeps {t : Nat} {r : Nat} {s : State} (hs : State.Keeps pq s) :
    State.Keeps pq (gatewayTimeout t r s) := by
  unfold gatewayTimeout
  repeat' first | with_reducible assumption | (with_reducible first | apply State.at__keeps | apply State.trig_keeps | apply State.setRoute_keeps | apply State.onUpdate_keeps | apply ite_keeps | apply State.upd_keeps)

theorem containerSendTimeout_keeps {t : Nat} {k : Nat} {s : State} (hs : State.Keeps pq s) :
    State.Keeps pq (containerSendTimeout t k s) := by
  unfold containerSendTimeout
  repeat' first | with_reducible assumption | (with_reducible first | apply State.at__keeps | apply State.sendCont_keeps | apply ite_keeps)

theorem containerReceive_keeps {t : Nat} {s : State} (hs : State.Keeps pq s) :
    State.Keeps pq (containerReceive t s) := by
  unfold containerReceive
  repeat' first | with_reducible assumption | (intro _) | (with_reducible first | apply State.at__keeps | apply State.trig_keeps | apply State.gwyUpdate_keeps | apply foldS_keeps | apply ite_keeps) | split | (dsimp only; split) | (with_reducible apply State.upd_keeps)

/-! ## Machine/WakeCore.lean -/

theorem State.wakeLatch_keeps {s : State} {k : Nat} (hs : State.Keeps pq s) :
    State.Keeps pq (State.wakeLatch s k) := by
  unfold State.wakeLatch
  repeat' first | with_reducible assumption | (with_reducible first | apply State.wr_keeps | apply State.setPair_keeps | apply State.wrb_keeps | apply ite_keeps | apply State.upd_keeps)

theorem State.latchCan_keeps {s : State} {c : Nat} {fec : Bool} (hs : State.Keeps pq s) :
    State.Keeps pq (State.latchCan s c fec) := by
  unfold State.latchCan
  repeat' first | with_reducible assumption | (with_reducible first | apply State.wr_keeps | apply State.wakeLatch_keeps | apply ite_keeps)

theorem State.startDecoding_keeps {s : State} {c : Nat} (hs : State.Keeps pq s) :
    State.Keeps pq (State.startDecoding s c) := by
  unfold State.startDecoding
  repeat' first | with_reducible assumption | (with_reducible first | apply ite_keeps | apply State.upd_keeps)

theorem State.canThaw_keeps {s : State} {c : Nat} (hs : State.Keeps pq s) :
    State.Keeps pq (State.canThaw s c) := by
  unfold State.canThaw
  repeat' first | with_reducible assumption | (intro _) | (with_reducible first | apply State.canState_keeps | apply State.canCounters_keeps | apply State.canTrig_keeps | apply ite_keeps | apply State.upd_keeps)

theorem State.canWakeEvent_keeps {s : State} {c : Nat} {fec : Bool} (hs : State.Keeps pq s) :
    State.Keeps pq (State.canWakeEvent s c fec) := by
  unfold State.canWakeEvent
  repeat' first | with_reducible assumption | (with_reducible first | apply State.latchCan_keeps | apply State.canThaw_keeps | apply ite_keeps)

theorem State.swkFrame_keeps {s : State} {c : Nat} {f : CanFrame} (hs : State.Keeps pq s) :
    State.Keeps pq (State.swkFrame s c f) := by
  unfold State.swkFrame
  repeat' first | with_reducible assumption | (with_reducible first | apply State.canWakeEvent_keeps | apply ite_keeps | apply State.upd_keeps)

theorem State.swkError_keeps {s : State} {c : Nat} (hs : State.Keeps pq s) :
    State.Keeps pq (State.swkError s c) := by
  unfold State.swkError
  repeat' first | with_reducible assumption | (with_reducible first | apply State.canWakeEvent_keeps | apply ite_keeps | apply State.upd_keeps)

/-! ## Machine/Can.lean -/

theorem State.canTakes_keeps {s : State} {c : Nat} {k : Nat} {f : CanFrame} (hs : State.Keeps pq s) :
    State.Keeps pq (State.canTakes s c k f) := by
  unfold State.canTakes
  repeat' first | with_reducible assumption | (intro _) | (with_reducible first | apply State.objAccept_keeps | apply State.modCan_keeps | apply State.wrb_keeps | apply State.gwyUpdate_keeps | apply ite_keeps | apply State.upd_keeps)

theorem State.canReceive_keeps {s : State} {c : Nat} {f : CanFrame} (hs : State.Keeps pq s) :
    State.Keeps pq (State.canReceive s c f) := by
  unfold State.canReceive
  repeat' first | with_reducible assumption | (intro _) | (with_reducible first | apply State.canTakes_keeps | apply State.sat_keeps | apply State.modCan_keeps) | split | (dsimp only; split) | (with_reducible apply State.upd_keeps)

theorem State.recDown_keeps {s : State} {c : Nat} (hs : State.Keeps pq s) :
    State.Keeps pq (State.recDown s c) := by
  unfold State.recDown
  repeat' first | with_reducible assumption | (with_reducible first | apply State.draw_keeps | apply State.wr_keeps | apply State.canCounters_keeps | apply ite_keeps)

theorem State.txBack_keeps {s : State} {c : Nat} {k : Nat} (hs : State.Keeps pq s) :
    State.Keeps pq (State.txBack s c k) := by
  unfold State.txBack
  repeat' first | with_reducible assumption | (with_reducible first | apply State.txEnd_keeps | apply State.offBus_keeps | apply State.gwyOutcome_keeps | apply State.wr_keeps | apply State.wrb_keeps | apply State.setTxst_keeps | apply ite_keeps)

theorem State.boffAbort_keeps {s : State} {c : Nat} {k : Nat} (hs : State.Keeps pq s) :
    State.Keeps pq (State.boffAbort s c k) := by
  unfold State.boffAbort
  repeat' first | with_reducible assumption | (with_reducible first | apply State.wrb_keeps | apply State.txEnd_keeps | apply State.gwyOutcome_keeps | apply ite_keeps)

theorem State.busOff_keeps {s : State} {c : Nat} (hs : State.Keeps pq s) :
    State.Keeps pq (State.busOff s c) := by
  unfold State.busOff
  repeat' first | with_reducible assumption | (intro _) | (with_reducible first | apply State.wr_keeps | apply State.wrb_keeps | apply State.canState_keeps | apply State.sat_keeps | apply State.canTrig_keeps | apply State.ownFault_keeps | apply State.boffAbort_keeps | apply State.offBus_keeps | apply State.txBack_keeps | apply State.modCan_keeps | apply foldS_keeps | apply ite_keeps) | split | (dsimp only; split) | (with_reducible apply State.upd_keeps)

theorem State.canError_keeps {s : State} {c : Nat} {dTec : Nat} {dRec : Nat} {lec : Nat} {dataPhase : Bool} (hs : State.Keeps pq s) :
    State.Keeps pq (State.canError s c dTec dRec lec dataPhase) := by
  unfold State.canError
  repeat' first | with_reducible assumption | (intro _) | (with_reducible first | apply State.modCan_keeps | apply State.wr_keeps | apply State.sat_keeps | apply State.busOff_keeps | apply State.canCounters_keeps | apply ite_keeps | apply State.upd_keeps)

theorem canFrameValid_keeps {t : Nat} {c : Nat} {f : CanFrame} {s : State} (hs : State.Keeps pq s) :
    State.Keeps pq (canFrameValid t c f s) := by
  unfold canFrameValid
  repeat' first | with_reducible assumption | (with_reducible first | apply State.at__keeps | apply State.swkFrame_keeps | apply State.canError_keeps | apply State.canReceive_keeps | apply State.recDown_keeps | apply ite_keeps) | split | (dsimp only; split) | (with_reducible apply State.upd_keeps)

theorem State.loadFrame_keeps {s : State} {c : Nat} {k : Nat} (hs : State.Keeps pq s) :
    State.Keeps pq (State.loadFrame s c k) := by
  unfold State.loadFrame
  repeat' first | with_reducible assumption | (intro _) | (with_reducible first | apply State.canLoad_keeps | apply State.setTxst_keeps | apply State.modCan_keeps | apply State.txEnd_keeps | apply State.gwyOutcome_keeps | apply ite_keeps) | split | (dsimp only; split) | (with_reducible apply State.upd_keeps)

theorem canTxOpportunity_keeps {t : Nat} {c : Nat} {idle : Bool} {s : State} (hs : State.Keeps pq s) :
    State.Keeps pq (canTxOpportunity t c idle s) := by
  unfold canTxOpportunity
  repeat' first | with_reducible assumption | (with_reducible first | apply State.at__keeps | apply State.canMode_keeps | apply State.loadFrame_keeps | apply ite_keeps) | split | (dsimp only; split)

theorem canTxFrameComplete_keeps {t : Nat} {c : Nat} {sof : Nat} {s : State} (hs : State.Keeps pq s) :
    State.Keeps pq (canTxFrameComplete t c sof s) := by
  unfold canTxFrameComplete
  repeat' first | with_reducible assumption | (intro _) | (with_reducible first | apply State.at__keeps | apply State.canStore_keeps | apply State.inc_keeps | apply State.modCan_keeps | apply State.txEnd_keeps | apply State.offBus_keeps | apply State.wr_keeps | apply State.canCounters_keeps | apply State.canReceive_keeps | apply State.gwyOutcome_keeps | apply ite_keeps) | split | (dsimp only; split) | (with_reducible apply State.upd_keeps)

theorem canTxLostOrError_keeps {t : Nat} {c : Nat} {lost : Bool} {s : State} (hs : State.Keeps pq s) :
    State.Keeps pq (canTxLostOrError t c lost s) := by
  unfold canTxLostOrError
  repeat' first | with_reducible assumption | (intro _) | (with_reducible first | apply State.at__keeps | apply State.modCan_keeps | apply State.txBack_keeps | apply ite_keeps) | split | (dsimp only; split) | (with_reducible apply State.upd_keeps)

theorem canBusError_keeps {t : Nat} {c : Nat} {dTec : Nat} {dRec : Nat} {lec : Nat} {dataPhase : Bool} {s : State} (hs : State.Keeps pq s) :
    State.Keeps pq (canBusError t c dTec dRec lec dataPhase s) := by
  unfold canBusError
  repeat' first | with_reducible assumption | (with_reducible first | apply State.at__keeps | apply State.swkError_keeps | apply State.canError_keeps | apply ite_keeps) | split | (dsimp only; split)

theorem State.startRecovery_keeps {s : State} {c : Nat} (hs : State.Keeps pq s) :
    State.Keeps pq (State.startRecovery s c) := by
  unfold State.startRecovery
  repeat' first | with_reducible assumption | (intro _) | (with_reducible first | apply State.modCan_keeps | apply State.canState_keeps | apply State.upd_keeps)

theorem canRecoverDelayExpiry_keeps {t : Nat} {c : Nat} {s : State} (hs : State.Keeps pq s) :
    State.Keeps pq (canRecoverDelayExpiry t c s) := by
  unfold canRecoverDelayExpiry
  repeat' first | with_reducible assumption | (with_reducible first | apply State.at__keeps | apply State.startRecovery_keeps | apply ite_keeps) | split | (dsimp only; split)

theorem canRecoveryComplete_keeps {t : Nat} {c : Nat} {s : State} (hs : State.Keeps pq s) :
    State.Keeps pq (canRecoveryComplete t c s) := by
  unfold canRecoveryComplete
  repeat' first | with_reducible assumption | (with_reducible first | apply State.at__keeps | apply State.canBegin_keeps | apply State.canTrig_keeps | apply ite_keeps)

theorem domTimeout_keeps {t : Nat} {c : Nat} {s : State} (hs : State.Keeps pq s) :
    State.Keeps pq (domTimeout t c s) := by
  unfold domTimeout
  repeat' first | with_reducible assumption | (with_reducible first | apply State.at__keeps | apply State.sat_keeps | apply State.canTrig_keeps | apply ite_keeps)

theorem canObjEnWrite_keeps {t : Nat} {a : Acc} {c : Nat} {k : Nat} {v : Nat} {s : State} (hs : State.Keeps pq s) :
    State.Keeps pq (canObjEnWrite t a c k v s) := by
  unfold canObjEnWrite
  repeat' first | with_reducible assumption | (intro _) | (with_reducible first | apply State.at__keeps | apply State.blockWrite_keeps | apply State.writeObjId_keeps | apply ite_keeps)

theorem State.canCtl_keeps {s : State} {t : Nat} {a : Acc} {c : Nat} {k : Nat} {f : State → State} (hs : State.Keeps pq s) (hf : ∀ u, State.Keeps pq u → State.Keeps pq (f u)) :
    State.Keeps pq (State.canCtl s t a c k f) := by
  unfold State.canCtl
  repeat' first | with_reducible assumption | (intro _) | (with_reducible first | apply State.at__keeps | apply State.blockWrite_keeps | apply hf | apply ite_keeps)

theorem canEvqOff_keeps {t : Nat} {a : Acc} {c : Nat} {k : Nat} {s : State} (hs : State.Keeps pq s) :
    State.Keeps pq (canEvqOff t a c k s) := by
  unfold canEvqOff
  repeat' first | with_reducible assumption | (intro _) | (with_reducible first | apply State.canCtl_keeps | apply State.actEvqOff_keeps)

theorem canEvqOn_keeps {t : Nat} {a : Acc} {c : Nat} {k : Nat} {s : State} (hs : State.Keeps pq s) :
    State.Keeps pq (canEvqOn t a c k s) := by
  unfold canEvqOn
  repeat' first | with_reducible assumption | (intro _) | (with_reducible first | apply State.canCtl_keeps | apply State.actEvqOn_keeps)

theorem canLostClr_keeps {t : Nat} {a : Acc} {c : Nat} {k : Nat} {s : State} (hs : State.Keeps pq s) :
    State.Keeps pq (canLostClr t a c k s) := by
  unfold canLostClr
  repeat' first | with_reducible assumption | (intro _) | (with_reducible first | apply State.canCtl_keeps | apply State.actLostClr_keeps)

theorem canHoldRel_keeps {t : Nat} {a : Acc} {c : Nat} {k : Nat} {s : State} (hs : State.Keeps pq s) :
    State.Keeps pq (canHoldRel t a c k s) := by
  unfold canHoldRel
  repeat' first | with_reducible assumption | (intro _) | (with_reducible first | apply State.canCtl_keeps | apply State.actHoldRel_keeps)

theorem canHoldSet_keeps {t : Nat} {a : Acc} {c : Nat} {k : Nat} {s : State} (hs : State.Keeps pq s) :
    State.Keeps pq (canHoldSet t a c k s) := by
  unfold canHoldSet
  repeat' first | with_reducible assumption | (intro _) | (with_reducible first | apply State.canCtl_keeps | apply State.actHoldSet_keeps)

theorem canAbort_keeps {t : Nat} {a : Acc} {c : Nat} {k : Nat} {s : State} (hs : State.Keeps pq s) :
    State.Keeps pq (canAbort t a c k s) := by
  unfold canAbort
  repeat' first | with_reducible assumption | (intro _) | (with_reducible first | apply State.canCtl_keeps | apply State.actAbort_keeps)

theorem canTxreq_keeps {t : Nat} {a : Acc} {c : Nat} {k : Nat} {slot : Nat} {s : State} (hs : State.Keeps pq s) :
    State.Keeps pq (canTxreq t a c k slot s) := by
  unfold canTxreq
  repeat' first | with_reducible assumption | (intro _) | (with_reducible first | apply State.canCtl_keeps | apply State.actTxreq_keeps)

theorem canRxevtPop_keeps {t : Nat} {a : Acc} {c : Nat} {s : State} (hs : State.Keeps pq s) :
    State.Keeps pq (canRxevtPop t a c s) := by
  unfold canRxevtPop
  repeat' first | with_reducible assumption | (intro _) | (with_reducible first | apply State.at__keeps | apply State.blockRead_keeps | apply State.replyData_keeps | apply State.modCan_keeps | apply State.canLines_keeps | apply ite_keeps | apply State.upd_keeps)

theorem canTxevtPop_keeps {t : Nat} {a : Acc} {c : Nat} {s : State} (hs : State.Keeps pq s) :
    State.Keeps pq (canTxevtPop t a c s) := by
  unfold canTxevtPop
  repeat' first | with_reducible assumption | (intro _) | (with_reducible first | apply State.at__keeps | apply State.blockRead_keeps | apply State.replyData_keeps | apply State.modCan_keeps | apply State.canLines_keeps | apply ite_keeps | apply State.upd_keeps)

theorem State.canOwnerReset_keeps {s : State} {c : Nat} (hs : State.Keeps pq s) :
    State.Keeps pq (State.canOwnerReset s c) := by
  unfold State.canOwnerReset
  repeat' first | with_reducible assumption | (intro _) | (with_reducible first | apply State.objRelease_keeps | apply State.wrb_keeps | apply State.txEnd_keeps | apply State.gwyOutcome_keeps | apply State.setTxst_keeps | apply State.modCan_keeps | apply State.canLines_keeps | apply foldS_keeps | apply ite_keeps | apply State.upd_keeps)

theorem State.canSleepCommit_keeps {s : State} {c : Nat} (hs : State.Keeps pq s) :
    State.Keeps pq (State.canSleepCommit s c) := by
  unfold State.canSleepCommit
  repeat' first | with_reducible assumption | (intro _) | (with_reducible first | apply State.wrb_keeps | apply State.txEnd_keeps | apply foldS_keeps | apply ite_keeps)

/-! ## Machine/Lin.lean -/

theorem State.linStop_keeps {s : State} {c : Nat} (hs : State.Keeps pq s) :
    State.Keeps pq (State.linStop s c) := by
  unfold State.linStop
  repeat' first | with_reducible assumption | (intro _) | (with_reducible first | apply State.linTrig_keeps | apply State.modLin_keeps | apply ite_keeps | apply State.upd_keeps)

theorem State.linGoToSleep_keeps {s : State} {c : Nat} (hs : State.Keeps pq s) :
    State.Keeps pq (State.linGoToSleep s c) := by
  unfold State.linGoToSleep
  repeat' first | with_reducible assumption | (intro _) | (with_reducible first | apply State.linStop_keeps | apply State.at__keeps | apply State.modLin_keeps | apply State.linTrig_keeps | apply State.upd_keeps)

theorem State.linServe_keeps {s : State} {c : Nat} {n : Nat} {i : Nat} (hs : State.Keeps pq s) :
    State.Keeps pq (State.linServe s c n i) := by
  unfold State.linServe
  repeat' first | with_reducible assumption | (intro _) | (with_reducible first | apply State.linStop_keeps | apply State.modLin_keeps | apply State.wr_keeps | apply State.wrb_keeps | apply State.linGoToSleep_keeps | apply State.draw_keeps | apply ite_keeps) | split | (dsimp only; split) | (with_reducible apply State.upd_keeps)

theorem State.linBegin_keeps {s : State} {c : Nat} {n : Nat} (hs : State.Keeps pq s) :
    State.Keeps pq (State.linBegin s c n) := by
  unfold State.linBegin
  repeat' first | with_reducible assumption | (intro _) | (with_reducible first | apply State.modLin_keeps | apply State.wr_keeps | apply State.linTrig_keeps | apply State.linServe_keeps | apply State.upd_keeps)

theorem State.linPassEnd_keeps {s : State} {c : Nat} {n : Nat} (hs : State.Keeps pq s) :
    State.Keeps pq (State.linPassEnd s c n) := by
  unfold State.linPassEnd
  repeat' first | with_reducible assumption | (with_reducible first | apply State.linBegin_keeps | apply State.linServe_keeps | apply ite_keeps) | split | (dsimp only; split)

theorem State.linNext_keeps {s : State} {c : Nat} (hs : State.Keeps pq s) :
    State.Keeps pq (State.linNext s c) := by
  unfold State.linNext
  repeat' first | with_reducible assumption | (intro _) | (with_reducible first | apply State.linServe_keeps | apply State.modLin_keeps | apply State.linBegin_keeps | apply State.linPassEnd_keeps | apply ite_keeps) | split | (dsimp only; split) | (with_reducible apply State.upd_keeps)

theorem State.linFrameEnd_keeps {s : State} {c : Nat} (hs : State.Keeps pq s) :
    State.Keeps pq (State.linFrameEnd s c) := by
  unfold State.linFrameEnd
  repeat' first | with_reducible assumption | (intro _) | (with_reducible first | apply State.modLin_keeps | apply State.upd_keeps)

theorem State.linResponse_keeps {s : State} {c : Nat} {i : Nat} {b : List Byte} (hs : State.Keeps pq s) :
    State.Keeps pq (State.linResponse s c i b) := by
  unfold State.linResponse
  repeat' first | with_reducible assumption | (with_reducible first | apply State.wr_keeps | apply State.linAccept_keeps | apply State.wrb_keeps | apply State.gwyUpdate_keeps | apply ite_keeps)

theorem linResponseEnd_keeps {t : Nat} {c : Nat} {err : Nat} {data : List Byte} {s : State} (hs : State.Keeps pq s) :
    State.Keeps pq (linResponseEnd t c err data s) := by
  unfold linResponseEnd
  repeat' first | with_reducible assumption | (intro _) | (with_reducible first | apply State.at__keeps | apply State.sat_keeps | apply State.modLin_keeps | apply State.linFrameEnd_keeps | apply State.wr_keeps | apply State.linResponse_keeps | apply State.linError_keeps | apply ite_keeps) | split | (dsimp only; split) | (with_reducible apply State.upd_keeps)

theorem linFrameMaxExpiry_keeps {t : Nat} {c : Nat} {got : Bool} {s : State} (hs : State.Keeps pq s) :
    State.Keeps pq (linFrameMaxExpiry t c got s) := by
  unfold linFrameMaxExpiry
  repeat' first | with_reducible assumption | (with_reducible first | apply State.at__keeps | apply State.linError_keeps | apply State.linFrameEnd_keeps | apply ite_keeps) | split | (dsimp only; split)

theorem State.linForward_keeps {s : State} {c : Nat} (hs : State.Keeps pq s) :
    State.Keeps pq (State.linForward s c) := by
  unfold State.linForward
  repeat' first | with_reducible assumption | (intro _) | (with_reducible first | apply State.modLin_keeps | apply State.wr_keeps | apply ite_keeps | apply State.upd_keeps)

theorem State.linBack_keeps {s : State} {c : Nat} (hs : State.Keeps pq s) :
    State.Keeps pq (State.linBack s c) := by
  unfold State.linBack
  repeat' first | with_reducible assumption | (intro _) | (with_reducible first | apply State.modLin_keeps | apply State.wr_keeps | apply ite_keeps | apply State.upd_keeps)

theorem linSlotStart_keeps {t : Nat} {c : Nat} {s : State} (hs : State.Keeps pq s) :
    State.Keeps pq (linSlotStart t c s) := by
  unfold linSlotStart
  repeat' first | with_reducible assumption | (with_reducible first | apply State.at__keeps | apply State.linForward_keeps | apply State.linStop_keeps | apply State.linGoToSleep_keeps | apply State.linNext_keeps | apply State.linServe_keeps | apply ite_keeps)

theorem State.linWrite_keeps {s : State} {t : Nat} {a : Acc} {c : Nat} {i : Nat} {addr : Nat} {f : State → State} (hs : State.Keeps pq s) (hf : ∀ u, State.Keeps pq u → State.Keeps pq (f u)) :
    State.Keeps pq (State.linWrite s t a c i addr f) := by
  unfold State.linWrite
  repeat' first | with_reducible assumption | (intro _) | (with_reducible first | apply State.at__keeps | apply State.blockWrite_keeps | apply hf | apply ite_keeps)

theorem linHoldSetWrite_keeps {t : Nat} {a : Acc} {c : Nat} {i : Nat} {s : State} (hs : State.Keeps pq s) :
    State.Keeps pq (linHoldSetWrite t a c i s) := by
  unfold linHoldSetWrite
  repeat' first | with_reducible assumption | (intro _) | (with_reducible first | apply State.linWrite_keeps | apply State.linHoldSet_keeps)

theorem linHoldRelWrite_keeps {t : Nat} {a : Acc} {c : Nat} {i : Nat} {s : State} (hs : State.Keeps pq s) :
    State.Keeps pq (linHoldRelWrite t a c i s) := by
  unfold linHoldRelWrite
  repeat' first | with_reducible assumption | (intro _) | (with_reducible first | apply State.linWrite_keeps | apply State.linHoldRel_keeps)

theorem linLostClrWrite_keeps {t : Nat} {a : Acc} {c : Nat} {i : Nat} {s : State} (hs : State.Keeps pq s) :
    State.Keeps pq (linLostClrWrite t a c i s) := by
  unfold linLostClrWrite
  repeat' first | with_reducible assumption | (intro _) | (with_reducible first | apply State.linWrite_keeps | apply State.linLostClr_keeps)

theorem linData1Write_keeps {t : Nat} {a : Acc} {c : Nat} {i : Nat} {v : Nat} {s : State} (hs : State.Keeps pq s) :
    State.Keeps pq (linData1Write t a c i v s) := by
  unfold linData1Write
  repeat' first | with_reducible assumption | (intro _) | (with_reducible first | apply State.linWrite_keeps | apply State.writeLinData1_keeps)

theorem State.linOwnerReset_keeps {s : State} {c : Nat} (hs : State.Keeps pq s) :
    State.Keeps pq (State.linOwnerReset s c) := by
  unfold State.linOwnerReset
  repeat' first | with_reducible assumption | (intro _) | (with_reducible first | apply State.linHoldRel_keeps | apply foldS_keeps)

theorem State.linWake_keeps {s : State} {c : Nat} {fin : Nat} (hs : State.Keeps pq s) :
    State.Keeps pq (State.linWake s c fin) := by
  unfold State.linWake
  repeat' first | with_reducible assumption | (intro _) | (with_reducible first | apply State.modLin_keeps | apply State.linTrig_keeps | apply State.upd_keeps)

/-! ## Machine/CanLinCmds.lean -/

theorem State.coppiceCan0_keeps {s : State} {ch : Nat} {k : Res} (hs : State.Keeps pq s) (hk : Res.Keeps pq k) :
    Res.Keeps pq (State.coppiceCan0 s ch k) := by
  unfold State.coppiceCan0
  repeat' first | with_reducible assumption | (with_reducible first | apply need_keeps | apply Res.refuse_keeps | apply Res.done_keeps | apply Res.later_keeps | apply Res.wait_keeps) | split | (dsimp only; split)

theorem State.modeAfter_keeps {s : State} {c : Nat} {old : Nat} {mask : Nat} (hs : State.Keeps pq s) :
    State.Keeps pq (State.modeAfter s c old mask) := by
  unfold State.modeAfter
  repeat' first | with_reducible assumption | (intro _) | (with_reducible first | apply State.modCan_keeps | apply State.wr_keeps | apply State.canMode_keeps | apply ite_keeps | apply State.upd_keeps)

theorem canConfigBody_keeps {c : Cmd} {s : State} (hs : State.Keeps pq s) :
    Res.Keeps pq (canConfigBody c s) := by
  unfold canConfigBody
  repeat' first | with_reducible assumption | (intro _) | (with_reducible first | apply State.coppiceCan0_keeps | apply need_keeps | apply State.configure_keeps | apply State.modeAfter_keeps | apply Res.andThen_keeps | apply Res.refuse_keeps | apply Res.done_keeps | apply Res.later_keeps | apply Res.wait_keeps | apply res_ite_keeps | apply ite_keeps) | split | (dsimp only; split)

theorem canStatusBody_keeps {c : Cmd} {s : State} (hs : State.Keeps pq s) :
    Res.Keeps pq (canStatusBody c s) := by
  unfold canStatusBody
  repeat' first | with_reducible assumption | (with_reducible first | apply need_keeps | apply Res.refuse_keeps | apply Res.done_keeps | apply Res.later_keeps | apply Res.wait_keeps) | split | (dsimp only; split)

theorem canRecoverBody_keeps {c : Cmd} {s : State} (hs : State.Keeps pq s) :
    Res.Keeps pq (canRecoverBody c s) := by
  unfold canRecoverBody
  repeat' first | with_reducible assumption | (with_reducible first | apply State.coppiceCan0_keeps | apply need_keeps | apply State.startRecovery_keeps | apply Res.refuse_keeps | apply Res.done_keeps | apply Res.later_keeps | apply Res.wait_keeps)

theorem linConfigBody_keeps {c : Cmd} {s : State} (hs : State.Keeps pq s) :
    Res.Keeps pq (linConfigBody c s) := by
  unfold linConfigBody
  repeat' first | with_reducible assumption | (with_reducible first | apply need_keeps | apply State.configure_keeps | apply Res.refuse_keeps | apply Res.done_keeps | apply Res.later_keeps | apply Res.wait_keeps)

theorem linTableLoadBody_keeps {c : Cmd} {s : State} (hs : State.Keeps pq s) :
    Res.Keeps pq (linTableLoadBody c s) := by
  unfold linTableLoadBody
  repeat' first | with_reducible assumption | (intro _) | (with_reducible first | apply need_keeps | apply State.modLin_keeps | apply Res.refuse_keeps | apply Res.done_keeps | apply Res.later_keeps | apply Res.wait_keeps | apply res_ite_keeps | apply ite_keeps | apply State.upd_keeps)

theorem linScheduleBody_keeps {c : Cmd} {s : State} (hs : State.Keeps pq s) :
    Res.Keeps pq (linScheduleBody c s) := by
  unfold linScheduleBody
  repeat' first | with_reducible assumption | (intro _) | (with_reducible first | apply need_keeps | apply State.modLin_keeps | apply State.linTrig_keeps | apply State.wr_keeps | apply Res.refuse_keeps | apply Res.done_keeps | apply Res.later_keeps | apply Res.wait_keeps | apply res_ite_keeps | apply ite_keeps | apply State.upd_keeps)

theorem linStatusBody_keeps {c : Cmd} {s : State} (hs : State.Keeps pq s) :
    Res.Keeps pq (linStatusBody c s) := by
  unfold linStatusBody
  repeat' first | with_reducible assumption | (with_reducible first | apply need_keeps | apply Res.refuse_keeps | apply Res.done_keeps | apply Res.later_keeps | apply Res.wait_keeps) | split | (dsimp only; split)

/-! ## Machine/GatewayCmds.lean -/

theorem gwyStatusBody_keeps {x0 : Cmd} {s : State} (hs : State.Keeps pq s) :
    Res.Keeps pq (gwyStatusBody x0 s) := by
  unfold gwyStatusBody
  repeat' first | with_reducible assumption | (intro _) | (with_reducible first | apply Res.refuse_keeps | apply Res.done_keeps | apply Res.later_keeps | apply Res.wait_keeps)

theorem gwyRouteStatusBody_keeps {c : Cmd} {s : State} (hs : State.Keeps pq s) :
    Res.Keeps pq (gwyRouteStatusBody c s) := by
  unfold gwyRouteStatusBody
  repeat' first | with_reducible assumption | (with_reducible first | apply need_keeps | apply Res.refuse_keeps | apply Res.done_keeps | apply Res.later_keeps | apply Res.wait_keeps) | split | (dsimp only; split)

theorem gwyRouteEnableBody_keeps {c : Cmd} {s : State} (hs : State.Keeps pq s) :
    Res.Keeps pq (gwyRouteEnableBody c s) := by
  unfold gwyRouteEnableBody
  repeat' first | with_reducible assumption | (intro _) | (with_reducible first | apply need_keeps | apply State.modRoute_keeps | apply Res.refuse_keeps | apply Res.done_keeps | apply Res.later_keeps | apply Res.wait_keeps | apply State.upd_keeps)

theorem gwyPduReadBody_keeps {c : Cmd} {s : State} (hs : State.Keeps pq s) :
    Res.Keeps pq (gwyPduReadBody c s) := by
  unfold gwyPduReadBody
  repeat' first | with_reducible assumption | (with_reducible first | apply need_keeps | apply Res.refuse_keeps | apply Res.done_keeps | apply Res.later_keeps | apply Res.wait_keeps | apply res_ite_keeps | apply ite_keeps) | split | (dsimp only; split)

theorem gwyBridgeLogBody_keeps {c : Cmd} {s : State} (hs : State.Keeps pq s) :
    Res.Keeps pq (gwyBridgeLogBody c s) := by
  unfold gwyBridgeLogBody
  repeat' first | with_reducible assumption | (intro _) | (with_reducible first | apply need_keeps | apply Res.refuse_keeps | apply Res.done_keeps | apply Res.later_keeps | apply Res.wait_keeps)

theorem postedWriteFailure_keeps {t : Nat} {a : Acc} {ty : Nat} {addr : Nat} {s : State} (hs : State.Keeps pq s) :
    State.Keeps pq (postedWriteFailure t a ty addr s) := by
  unfold postedWriteFailure
  repeat' first | with_reducible assumption | (with_reducible first | apply State.at__keeps | apply State.failAcc_keeps | apply ite_keeps)

/-! ## Machine/FaCheck.lean -/

theorem State.faCount_keeps {s : State} {snd : Nat} {r : Nat} (hs : State.Keeps pq s) :
    State.Keeps pq (State.faCount s snd r) := by
  unfold State.faCount
  repeat' first | with_reducible assumption | (with_reducible first | apply State.trig_keeps | apply ite_keeps | apply State.upd_keeps)

theorem State.faAbort_keeps {s : State} {f : FaFrame} {code : Nat} (hs : State.Keeps pq s) :
    State.Keeps pq (State.faAbort s f code) := by
  unfold State.faAbort
  repeat' first | with_reducible assumption | (with_reducible first | apply State.setPair_keeps | apply State.faCount_keeps | apply State.upd_keeps)

/-! ## Machine/Keys.lean -/

theorem State.zeroOut_keeps {s : State} {c : Cmd} {n : Nat} (hs : State.Keeps pq s) :
    State.Keeps pq (State.zeroOut s c n) := by
  have hd : State.Keeps pq (s.draw n).2 := State.draw_keeps hs
  exact ⟨Memory.zero_wf _ _ hd.1, hd.2⟩

theorem State.abortKeyOp_keeps {s : State} {c : Cmd} {st : Nat} (hs : State.Keeps pq s) :
    State.Keeps pq (State.abortKeyOp s c st) := by
  unfold State.abortKeyOp
  repeat' first | with_reducible assumption | (with_reducible first | apply State.zeroOut_keeps | apply State.answer_keeps)

theorem State.keyLost_keeps {s : State} {lost : List Nat} (hs : State.Keeps pq s) :
    State.Keeps pq (State.keyLost s lost) := by
  unfold State.keyLost
  repeat' first | with_reducible assumption | (intro _) | (with_reducible first | apply State.disableSas_keeps | apply State.abortKeyOp_keeps | apply foldS_keeps)

theorem State.keyChange_keeps {s : State} {f : State → State} (hs : State.Keeps pq s) (hf : ∀ u, State.Keeps pq u → State.Keeps pq (f u)) :
    State.Keeps pq (State.keyChange s f) := by
  unfold State.keyChange
  repeat' first | with_reducible assumption | (intro _) | (with_reducible first | apply State.faAbort_keeps | apply State.keyLost_keeps | apply hf | apply ite_keeps) | split | (dsimp only; split)

theorem State.resetFaSeq_keeps {s : State} {k : Nat} (hs : State.Keeps pq s) :
    State.Keeps pq (State.resetFaSeq s k) := by
  unfold State.resetFaSeq
  repeat' first | with_reducible assumption | (intro _) | (with_reducible first | apply State.setPair_keeps | apply foldS_keeps | apply ite_keeps)

theorem State.resetHdgWin_keeps {s : State} {k : Nat} (hs : State.Keeps pq s) :
    State.Keeps pq (State.resetHdgWin s k) := by
  unfold State.resetHdgWin
  repeat' first | with_reducible assumption | (with_reducible first | apply ite_keeps | apply State.upd_keeps)

theorem State.unErase_keeps {s : State} (hs : State.Keeps pq s) :
    State.Keeps pq (State.unErase s) := by
  unfold State.unErase
  repeat' first | with_reducible assumption | (intro _) | (with_reducible first | apply State.wr_keeps | apply State.trig_keeps | apply ite_keeps)

theorem State.commitKey_keeps {s : State} {k : Nat} (hs : State.Keeps pq s) :
    State.Keeps pq (State.commitKey s k) := by
  unfold State.commitKey
  repeat' first | with_reducible assumption | (intro _) | (with_reducible first | apply State.keyChange_keeps | apply State.setSlot_keeps | apply State.wrb_keeps | apply State.resetFaSeq_keeps | apply State.resetHdgWin_keeps | apply State.unErase_keeps | apply State.trig_keeps | apply State.upd_keeps)

theorem State.revokeKey_keeps {s : State} {k : Nat} (hs : State.Keeps pq s) :
    State.Keeps pq (State.revokeKey s k) := by
  unfold State.revokeKey
  repeat' first | with_reducible assumption | (intro _) | (with_reducible first | apply State.trig_keeps | apply State.keyChange_keeps | apply State.setSlot_keeps | apply State.wrb_keeps | apply State.upd_keeps)

theorem keyCommitEffect_keeps {t : Nat} {k : Nat} {s : State} (hs : State.Keeps pq s) :
    State.Keeps pq (keyCommitEffect t k s) := by
  unfold keyCommitEffect
  repeat' first | with_reducible assumption | (intro _) | (with_reducible first | apply State.at__keeps | apply State.commitKey_keeps | apply State.answer_keeps | apply ite_keeps) | split | (dsimp only; split)

theorem keyOpComplete_keeps {t : Nat} {node : Nat} {w : Nat} {tag : Nat} {s : State} (hs : State.Keeps pq s) :
    State.Keeps pq (keyOpComplete t node w tag s) := by
  unfold keyOpComplete
  repeat' first | with_reducible assumption | (intro _) | (with_reducible first | apply State.at__keeps | apply State.take_keeps | apply State.abortKeyOp_keeps | apply State.putBuf_keeps | apply State.answer_keeps | apply ite_keeps) | split | (dsimp only; split)

theorem remaskDue_keeps {t : Nat} {s : State} (hs : State.Keeps pq s) :
    State.Keeps pq (remaskDue t s) := by
  unfold remaskDue
  repeat' first | with_reducible assumption | (with_reducible first | apply State.at__keeps | apply State.periodicAct_keeps | apply ite_keeps)

theorem State.endRemask_keeps {s : State} (hs : State.Keeps pq s) :
    State.Keeps pq (State.endRemask s) := by
  unfold State.endRemask
  repeat' first | with_reducible assumption | (with_reducible first | apply State.endRun_keeps | apply ite_keeps)

theorem State.tamperLog_keeps {s : State} {i : Nat} {pol : Nat} {action : Nat} (hs : State.Keeps pq s) :
    State.Keeps pq (State.tamperLog s i pol action) := by
  unfold State.tamperLog
  repeat' first | with_reducible assumption | (with_reducible first | apply State.at__keeps | apply State.take_keeps | apply State.upd_keeps)

theorem State.abortKeyOps_keeps {s : State} {st : Nat} (hs : State.Keeps pq s) :
    State.Keeps pq (State.abortKeyOps s st) := by
  unfold State.abortKeyOps
  repeat' first | with_reducible assumption | (intro _) | (with_reducible first | apply State.abortKeyOp_keeps | apply foldS_keeps)

theorem State.lockState_keeps {s : State} {v : Nat} (hs : State.Keeps pq s) :
    State.Keeps pq (State.lockState s v) := by
  unfold State.lockState
  repeat' first | with_reducible assumption | (with_reducible first | apply State.wr_keeps | apply State.trig_keeps | apply ite_keeps)

theorem State.eraseSlots_keeps {s : State} (hs : State.Keeps pq s) :
    State.Keeps pq (State.eraseSlots s) := by
  unfold State.eraseSlots
  repeat' first | with_reducible assumption | (intro _) | (with_reducible first | apply State.keyChange_keeps | apply State.setSlot_keeps | apply State.wrb_keeps | apply foldS_keeps | apply State.upd_keeps)

theorem State.blowFuse_keeps {s : State} (hs : State.Keeps pq s) :
    State.Keeps pq (State.blowFuse s) := by
  unfold State.blowFuse
  repeat' first | with_reducible assumption | (with_reducible first | apply State.wr_keeps | apply ite_keeps | apply State.upd_keeps)

theorem State.dropShadows_keeps {s : State} (hs : State.Keeps pq s) :
    State.Keeps pq (State.dropShadows s) := by
  unfold State.dropShadows
  repeat' first | with_reducible assumption | (intro _) | (with_reducible first | apply State.setSlot_keeps | apply State.wrb_keeps | apply State.answer_keeps | apply foldS_keeps) | split | (dsimp only; split) | (with_reducible apply State.upd_keeps)

theorem tamperSensorEvent_keeps {t : Nat} {i : Nat} {s : State} (hs : State.Keeps pq s) :
    State.Keeps pq (tamperSensorEvent t i s) := by
  unfold tamperSensorEvent
  repeat' first | with_reducible assumption | (with_reducible first | apply State.at__keeps | apply State.wr_keeps | apply State.sat_keeps | apply State.tamperLog_keeps | apply State.eraseSlots_keeps | apply State.abortKeyOps_keeps | apply State.endRemask_keeps | apply State.dropShadows_keeps | apply State.blowFuse_keeps | apply State.lockState_keeps | apply State.sysFault_keeps | apply State.trig_keeps | apply ite_keeps | apply State.upd_keeps)

theorem tamperConditionEnd_keeps {t : Nat} {i : Nat} {s : State} (hs : State.Keeps pq s) :
    State.Keeps pq (tamperConditionEnd t i s) := by
  unfold tamperConditionEnd
  repeat' first | with_reducible assumption | (with_reducible first | apply State.at__keeps | apply State.wr_keeps | apply ite_keeps)

/-! ## Machine/CycleCmds.lean -/

theorem cycStatusBody_keeps {c : Cmd} {s : State} (hs : State.Keeps pq s) :
    Res.Keeps pq (cycStatusBody c s) := by
  unfold cycStatusBody
  repeat' first | with_reducible assumption | (intro _) | (with_reducible first | apply need_keeps | apply Res.refuse_keeps | apply Res.done_keeps | apply Res.later_keeps | apply Res.wait_keeps | apply res_ite_keeps | apply ite_keeps)

theorem cycTaskStatusBody_keeps {c : Cmd} {s : State} (hs : State.Keeps pq s) :
    Res.Keeps pq (cycTaskStatusBody c s) := by
  unfold cycTaskStatusBody
  repeat' first | with_reducible assumption | (with_reducible first | apply need_keeps | apply Res.refuse_keeps | apply Res.done_keeps | apply Res.later_keeps | apply Res.wait_keeps)

theorem State.loadInactive_keeps {s : State} {p : Prog} (hs : State.Keeps pq s) :
    State.Keeps pq (State.loadInactive s p) := by
  exact State.wrb_keeps (State.upd_keeps (State.store_keeps (State.store_keeps
    (s := { s with mem := Memory.zero (Memory.zero s.mem (cycProg (1 - s.bank)) 0x100000) (cycData (1 - s.bank)) 0xE0000 })
    ⟨Memory.zero_wf _ _ (Memory.zero_wf _ _ hs.1), hs.2⟩)))

theorem cycLoadBody_keeps {c : Cmd} {s : State} (hs : State.Keeps pq s) :
    Res.Keeps pq (cycLoadBody c s) := by
  unfold cycLoadBody
  repeat' first | with_reducible assumption | (with_reducible first | apply need_keeps | apply State.loadInactive_keeps | apply Res.refuse_keeps | apply Res.done_keeps | apply Res.later_keeps | apply Res.wait_keeps | apply res_ite_keeps | apply ite_keeps)

theorem State.scheduleSwap_keeps {s : State} {at_ : Nat} {from_ : Nat} (hs : State.Keeps pq s) :
    ∀ u, (State.scheduleSwap s at_ from_) = some u → State.Keeps pq u.2 := by
  intro u
  unfold State.scheduleSwap
  dsimp only
  split
  · next heq => intro e; cases e; exact State.upd_keeps (State.wrb_keeps (State.admitGroup_keeps hs _ heq))
  · intro e; cases e

theorem cycSwapBody_keeps {c : Cmd} {s : State} (hs : State.Keeps pq s) :
    Res.Keeps pq (cycSwapBody c s) := by
  unfold cycSwapBody
  repeat' first | with_reducible assumption | (with_reducible first | apply need_keeps | apply State.activate_keeps | apply State.trig_keeps | apply State.denyAwaited_keeps | apply Res.refuse_keeps | apply Res.done_keeps | apply Res.later_keeps | apply Res.wait_keeps | apply res_ite_keeps | apply ite_keeps) | split | (dsimp only; split) | (refine State.scheduleSwap_keeps ?_ _ (by with_reducible assumption))

theorem cycStartBody_keeps {c : Cmd} {s : State} (hs : State.Keeps pq s) :
    Res.Keeps pq (cycStartBody c s) := by
  unfold cycStartBody
  repeat' first | with_reducible assumption | (with_reducible first | apply need_keeps | apply State.at__keeps | apply State.denyAwaited_keeps | apply Res.refuse_keeps | apply Res.done_keeps | apply Res.later_keeps | apply Res.wait_keeps | apply res_ite_keeps | apply ite_keeps) | split | (dsimp only; split) | (refine State.admitGroup_keeps ?_ _ (by with_reducible assumption)) | (with_reducible apply State.upd_keeps)

theorem cycStopBody_keeps {c : Cmd} {s : State} (hs : State.Keeps pq s) :
    Res.Keeps pq (cycStopBody c s) := by
  unfold cycStopBody
  repeat' first | with_reducible assumption | (with_reducible first | apply need_keeps | apply State.cycStop_keeps | apply Res.refuse_keeps | apply Res.done_keeps | apply Res.later_keeps | apply Res.wait_keeps) | split | (dsimp only; split)

theorem cycHoldBody_keeps {c : Cmd} {s : State} (hs : State.Keeps pq s) :
    Res.Keeps pq (cycHoldBody c s) := by
  unfold cycHoldBody
  repeat' first | with_reducible assumption | (with_reducible first | apply need_keeps | apply State.cycHoldNow_keeps | apply Res.refuse_keeps | apply Res.done_keeps | apply Res.later_keeps | apply Res.wait_keeps)

theorem cycTaskRestartBody_keeps {c : Cmd} {s : State} (hs : State.Keeps pq s) :
    Res.Keeps pq (cycTaskRestartBody c s) := by
  unfold cycTaskRestartBody
  repeat' first | with_reducible assumption | (intro _) | (with_reducible first | apply need_keeps | apply State.setT_keeps | apply State.wr_keeps | apply State.modTask_keeps | apply Res.refuse_keeps | apply Res.done_keeps | apply Res.later_keeps | apply Res.wait_keeps | apply res_ite_keeps | apply ite_keeps | apply State.upd_keeps)

theorem cycChangeBody_keeps {c : Cmd} {s : State} (hs : State.Keeps pq s) :
    Res.Keeps pq (cycChangeBody c s) := by
  unfold cycChangeBody
  repeat' first | with_reducible assumption | (intro _) | (with_reducible first | apply State.at__keeps | apply need_keeps | apply State.wr_keeps | apply State.applyStaged_keeps | apply Res.refuse_keeps | apply Res.done_keeps | apply Res.later_keeps | apply Res.wait_keeps | apply res_ite_keeps | apply ite_keeps) | split | (dsimp only; split) | (with_reducible apply State.upd_keeps)

theorem State.putForce_keeps {s : State} {e : List Byte} (hs : State.Keeps pq s) :
    ∀ u, (State.putForce s e) = some u → State.Keeps pq u := by
  intro u
  unfold State.putForce
  split
  · exact opt_some_keeps (State.store_keeps hs)
  · intro e
    simp only [Option.map_eq_some_iff] at e
    obtain ⟨i, _, rfl⟩ := e
    exact State.store_keeps hs

theorem putForces_keeps {xs : List (List Byte)} : ∀ {s : State}, State.Keeps pq s → ∀ u, State.putForces s xs = some u →
    State.Keeps pq u := by
  induction xs with
  | nil => intro s hs u e; cases e; exact hs
  | cons e l ih =>
    intro s hs u
    unfold State.putForces
    split
    · next heq => exact ih (State.putForce_keeps hs _ heq) u
    · intro e; cases e

theorem cycForceBody_keeps {c : Cmd} {s : State} (hs : State.Keeps pq s) :
    Res.Keeps pq (cycForceBody c s) := by
  unfold cycForceBody
  dsimp only
  apply need_keeps
  apply need_keeps
  apply need_keeps
  refine res_ite_keeps ?_ (res_ite_keeps (Res.done_keeps (State.forceStat_keeps (foldS_keeps hs ?_))) (Res.done_keeps (State.clearForces_keeps hs)))
  · split
    · next heq => exact Res.done_keeps (State.forceStat_keeps (putForces_keeps hs _ heq))
    · exact Res.refuse_keeps
  · intro e u hu
    split
    · exact State.store_keeps hu
    · exact hu

theorem cycVarReadBody_keeps {c : Cmd} {s : State} (hs : State.Keeps pq s) :
    Res.Keeps pq (cycVarReadBody c s) := by
  unfold cycVarReadBody
  repeat' first | with_reducible assumption | (with_reducible first | apply need_keeps | apply Res.refuse_keeps | apply Res.done_keeps | apply Res.later_keeps | apply Res.wait_keeps) | split | (dsimp only; split)

theorem cycEventBody_keeps {c : Cmd} {s : State} (hs : State.Keeps pq s) :
    Res.Keeps pq (cycEventBody c s) := by
  unfold cycEventBody
  repeat' first | with_reducible assumption | (with_reducible first | apply need_keeps | apply State.trigger_keeps | apply Res.refuse_keeps | apply Res.done_keeps | apply Res.later_keeps | apply Res.wait_keeps | apply res_ite_keeps | apply ite_keeps) | split | (dsimp only; split)

theorem State.retrySwaps_keeps {s : State} (hs : State.Keeps pq s) :
    State.Keeps pq (State.retrySwaps s) := by
  unfold State.retrySwaps
  repeat' first | with_reducible assumption | (intro _) | (with_reducible first | apply State.expire_keeps | apply State.answer_keeps | apply foldS_keeps | apply ite_keeps) | split | (dsimp only; split) | (refine State.scheduleSwap_keeps ?_ _ (by with_reducible assumption))

theorem cycleGovern_keeps {s : State} (hs : State.Keeps pq s) :
    State.Keeps pq (cycleGovern s) := by
  unfold cycleGovern
  repeat' first | with_reducible assumption | (with_reducible first | apply State.tryStart_keeps | apply State.retrySwaps_keeps) | split | (dsimp only; split)

theorem governorRound_keeps {t : Nat} {s : State} (hs : State.Keeps pq s) :
    State.Keeps pq (governorRound t s) := by
  unfold governorRound
  repeat' first | with_reducible assumption | (with_reducible first | apply State.at__keeps | apply cycleGovern_keeps | apply governorCycle_keeps | apply ite_keeps | apply State.upd_keeps)

theorem cycleStatusPage_keeps {s : State} (hs : State.Keeps pq s) :
    State.Keeps pq (cycleStatusPage s) := by
  unfold cycleStatusPage
  repeat' first | with_reducible assumption | (intro _) | (with_reducible apply State.store_keeps)

end Sys2Proof.Machine
end

