-- ==== Sys2Proof/Laws/Keeps3.lean ====
section
/-!
SUPPORT. Laws/Keeps3.lean: one lemma per operation: it keeps the canonical form of memory and the queue. Here: transmission, sleep, partitions, pairs and worlds.
-/
namespace Sys2Proof.Machine

variable {pq : List Instr}

/-! ## Machine/SwitchTx.lean -/

theorem State.movePtrs_keeps {s : State} {l : List MReq} (hs : State.Keeps pq s) :
    State.Keeps pq (State.movePtrs s l) := by
  unfold State.movePtrs
  repeat' first | with_reducible assumption | (intro _) | (with_reducible first | apply State.accept_keeps | apply foldS_keeps | apply State.upd_keeps)

theorem State.matchIter_keeps {n : Nat} {xs : List MReq} : ∀ {d : List MReq} {s : State}, State.Keeps pq s →
    State.Keeps pq (State.matchIter n xs d s).2 := by
  induction n with
  | zero => intro d s hs; exact hs
  | succ n ih => intro d s hs; exact ih (ite_keeps (State.movePtrs_keeps hs) hs)

theorem State.cross_keeps {s : State} {r : MReq} (hs : State.Keeps pq s) :
    State.Keeps pq (State.cross s r) := by
  unfold State.cross
  repeat' first | with_reducible assumption | (intro _) | (with_reducible first | apply ite_keeps | apply State.upd_keeps)

theorem matchingRound_keeps {t : Nat} {s : State} (hs : State.Keeps pq s) :
    State.Keeps pq (matchingRound t s) := by
  unfold matchingRound
  repeat' first | with_reducible assumption | (intro _) | (with_reducible first | apply State.at__keeps | apply State.matchIter_keeps | apply State.cross_keeps | apply foldS_keeps)

theorem State.usePn_keeps {s : State} {p : Nat} {a : Sa} (hs : State.Keeps pq s) :
    State.Keeps pq (State.usePn s p a) := by
  unfold State.usePn
  repeat' first | with_reducible assumption | (intro _) | (with_reducible first | apply State.modSas_keeps | apply ite_keeps | apply State.upd_keeps)

theorem State.endPn_keeps {s : State} {p : Nat} (hs : State.Keeps pq s) :
    State.Keeps pq (State.endPn s p) := by
  unfold State.endPn
  repeat' first | with_reducible assumption | (intro _) | (with_reducible first | apply State.modSas_keeps | apply State.trig_keeps | apply ite_keeps | apply State.upd_keeps)

theorem State.startTx_keeps {s : State} {x : Copy} (hs : State.Keeps pq s) :
    State.Keeps pq (State.startTx s x) := by
  unfold State.startTx
  repeat' first | with_reducible assumption | (with_reducible first | apply State.setSwPort_keeps | apply State.usePn_keeps | apply State.count_keeps | apply ite_keeps) | split | (dsimp only; split) | (with_reducible apply State.upd_keeps)

theorem State.dropFor_keeps {s : State} {i : Nat} {x : Copy} (hs : State.Keeps pq s) :
    State.Keeps pq (State.dropFor s i x) := by
  unfold State.dropFor
  repeat' first | with_reducible assumption | (with_reducible first | apply State.countDrop_keeps | apply State.dropCopy_keeps)

theorem State.weed_keeps {s : State} {p : Nat} (hs : State.Keeps pq s) :
    State.Keeps pq (State.weed s p) := by
  unfold State.weed
  repeat' first | with_reducible assumption | (intro _) | (with_reducible first | apply State.dropFor_keeps | apply foldS_keeps | apply ite_keeps)

theorem State.choose_keeps {s : State} {p : Nat} (hs : State.Keeps pq s) :
    State.Keeps pq (State.choose s p) := by
  unfold State.choose
  repeat' first | with_reducible assumption | (intro _) | (with_reducible first | apply State.weed_keeps | apply State.startTx_keeps | apply State.setSwPort_keeps | apply ite_keeps) | split | (dsimp only; split) | (with_reducible apply State.upd_keeps)

theorem transmitOpportunity_keeps {t : Nat} {p : Nat} {s : State} (hs : State.Keeps pq s) :
    State.Keeps pq (transmitOpportunity t p s) := by
  unfold transmitOpportunity
  repeat' first | with_reducible assumption | (intro _) | (with_reducible first | apply State.swAt_keeps | apply State.setSwPort_keeps | apply State.choose_keeps | apply State.splitTx_keeps | apply ite_keeps) | split | (dsimp only; split) | (with_reducible apply State.upd_keeps)

theorem State.placeRx_keeps {s : State} {p : Nat} {f : Frame} {b : List Byte} {r : Nat} (hs : State.Keeps pq s) :
    State.Keeps pq (State.placeRx s p f b r) := by
  unfold State.placeRx
  repeat' first | with_reducible assumption | (with_reducible first | apply State.store_keeps | apply State.countDrop_keeps | apply State.dramCharge_keeps | apply State.inc_keeps | apply State.trig_keeps | apply ite_keeps)

theorem State.toRings_keeps {s : State} {p : Nat} {f : Frame} {b : List Byte} {enq : Nat} (hs : State.Keeps pq s) :
    State.Keeps pq (State.toRings s p f b enq) := by
  unfold State.toRings
  repeat' first | with_reducible assumption | (intro _) | (with_reducible first | apply State.countDrop_keeps | apply State.placeRx_keeps | apply foldS_keeps) | split | (dsimp only; split)

theorem State.toFast_keeps {s : State} {f : Frame} {b : List Byte} (hs : State.Keeps pq s) :
    State.Keeps pq (State.toFast s f b) := by
  unfold State.toFast
  repeat' first | with_reducible assumption | (with_reducible first | apply State.trig_keeps | apply ite_keeps | apply State.upd_keeps)

theorem State.toI3_keeps {s : State} {b : List Byte} (hs : State.Keeps pq s) :
    State.Keeps pq (State.toI3 s b) := by
  unfold State.toI3
  repeat' first | with_reducible assumption | (with_reducible apply ite_keeps) | split | (dsimp only; split) | (with_reducible apply State.upd_keeps)

theorem State.leave_keeps {s : State} {p : Nat} {x : Tx} (hs : State.Keeps pq s) :
    State.Keeps pq (State.leave s p x) := by
  unfold State.leave
  repeat' first | with_reducible assumption | (intro _) | (with_reducible first | apply State.count_keeps | apply State.modFrame_keeps | apply State.toRings_keeps | apply State.toI3_keeps | apply State.toFast_keeps | apply State.dropCopy_keeps | apply ite_keeps) | split | (dsimp only; split) | (with_reducible apply State.upd_keeps)

theorem State.takeSlopes_keeps {s : State} {p : Nat} (hs : State.Keeps pq s) :
    State.Keeps pq (State.takeSlopes s p) := by
  unfold State.takeSlopes
  repeat' first | with_reducible assumption | (intro _) | (with_reducible first | apply State.setWord_keeps | apply foldS_keeps) | split | (dsimp only; split) | (with_reducible apply State.upd_keeps)

theorem frameTransmitComplete_keeps {t : Nat} {p : Nat} {s : State} (hs : State.Keeps pq s) :
    State.Keeps pq (frameTransmitComplete t p s) := by
  unfold frameTransmitComplete
  repeat' first | with_reducible assumption | (with_reducible first | apply State.swAt_keeps | apply State.inc_keeps | apply State.leave_keeps | apply State.setSwPort_keeps | apply State.takeSlopes_keeps | apply State.endPn_keeps | apply State.choose_keeps | apply ite_keeps) | split | (dsimp only; split) | (with_reducible apply State.upd_keeps)

theorem State.flushPort_keeps {s : State} {p : Nat} (hs : State.Keeps pq s) :
    State.Keeps pq (State.flushPort s p) := by
  unfold State.flushPort
  repeat' first | with_reducible assumption | (intro _) | (with_reducible first | apply State.modFrame_keeps | apply State.dropFor_keeps | apply State.setSwPort_keeps | apply State.wrb_keeps | apply State.forgetPort_keeps | apply foldS_keeps | apply State.upd_keeps)

theorem State.abortTx_keeps {s : State} {p : Nat} {x : Option Tx} (hs : State.Keeps pq s) :
    State.Keeps pq (State.abortTx s p x) := by
  unfold State.abortTx
  repeat' first | with_reducible assumption | (intro _) | (with_reducible apply State.dropFor_keeps) | split | (dsimp only; split)

theorem State.abortRx_keeps {s : State} {p : Nat} (hs : State.Keeps pq s) :
    State.Keeps pq (State.abortRx s p) := by
  unfold State.abortRx
  repeat' first | with_reducible assumption | (intro _) | (with_reducible first | apply State.setRx_keeps | apply State.spoil_keeps | apply ite_keeps) | split | (dsimp only; split)

theorem linkDown_keeps {t : Nat} {p : Nat} {s : State} (hs : State.Keeps pq s) :
    State.Keeps pq (linkDown t p s) := by
  unfold linkDown
  repeat' first | with_reducible assumption | (intro _) | (with_reducible first | apply State.swAt_keeps | apply State.setSwPort_keeps | apply State.abortTx_keeps | apply State.abortRx_keeps | apply State.takeSlopes_keeps | apply State.endPn_keeps | apply State.wrb_keeps | apply State.sat_keeps | apply State.wr_keeps | apply State.trig_keeps | apply State.flushPort_keeps | apply foldS_keeps | apply ite_keeps | apply State.upd_keeps)

theorem State.dropLate_keeps {s : State} {p : Nat} (hs : State.Keeps pq s) :
    State.Keeps pq (State.dropLate s p) := by
  unfold State.dropLate
  repeat' first | with_reducible assumption | (intro _) | (with_reducible first | apply State.dropFor_keeps | apply foldS_keeps | apply ite_keeps) | split | (dsimp only; split)

theorem State.startVerify_keeps {s : State} {p : Nat} (hs : State.Keeps pq s) :
    State.Keeps pq (State.startVerify s p) := by
  unfold State.startVerify
  repeat' first | with_reducible assumption | (with_reducible first | apply State.wr_keeps | apply State.wrb_keeps | apply ite_keeps | apply State.upd_keeps)

theorem linkUpEvent_keeps {t : Nat} {p : Nat} {s : State} (hs : State.Keeps pq s) :
    State.Keeps pq (linkUpEvent t p s) := by
  unfold linkUpEvent
  repeat' first | with_reducible assumption | (with_reducible first | apply State.swAt_keeps | apply State.dropLate_keeps | apply State.flushPort_keeps | apply State.setSwPort_keeps | apply State.wrb_keeps | apply State.wr_keeps | apply State.startVerify_keeps | apply State.trig_keeps | apply ite_keeps) | split | (dsimp only; split) | (with_reducible apply State.upd_keeps)

theorem flapHoldExpiry_keeps {t : Nat} {p : Nat} {s : State} (hs : State.Keeps pq s) :
    State.Keeps pq (flapHoldExpiry t p s) := by
  unfold flapHoldExpiry
  repeat' first | with_reducible assumption | (with_reducible first | apply State.swAt_keeps | apply State.flushPort_keeps | apply ite_keeps) | split | (dsimp only; split)

theorem preemptVerifyTimer_keeps {t : Nat} {p : Nat} {ok : Bool} {s : State} (hs : State.Keeps pq s) :
    State.Keeps pq (preemptVerifyTimer t p ok s) := by
  unfold preemptVerifyTimer
  repeat' first | with_reducible assumption | (with_reducible first | apply State.at__keeps | apply State.wr_keeps | apply State.wrb_keeps | apply State.trig_keeps | apply ite_keeps | apply State.upd_keeps)

theorem State.ringCtl_keeps {s : State} {r : Nat} {v : Nat} (hs : State.Keeps pq s) :
    State.Keeps pq (State.ringCtl s r v) := by
  unfold State.ringCtl
  repeat' first | with_reducible assumption | (intro _) | (with_reducible first | apply State.wr_keeps | apply State.wrb_keeps | apply foldS_keeps | apply ite_keeps | apply State.upd_keeps)

theorem State.ringAdvance_keeps {s : State} {r : Nat} {f : Fld} {done : Fld} {v : Nat} (hs : State.Keeps pq s) :
    State.Keeps pq (State.ringAdvance s r f done v) := by
  unfold State.ringAdvance
  repeat' first | with_reducible assumption | (with_reducible first | apply State.wr_keeps | apply ite_keeps)

theorem txDescriptorTake_keeps {t : Nat} {r : Nat} {s : State} (hs : State.Keeps pq s) :
    State.Keeps pq (txDescriptorTake t r s) := by
  unfold txDescriptorTake
  repeat' first | with_reducible assumption | (with_reducible first | apply State.swAt_keeps | apply State.take_keeps | apply State.dramCharge_keeps | apply State.completeTx_keeps | apply State.count_keeps | apply State.ingress_keeps | apply ite_keeps) | split | (dsimp only; split) | (with_reducible apply State.upd_keeps)

theorem State.auditSnapshot_keeps {s : State} {total : Nat} (hs : State.Keeps pq s) :
    State.Keeps pq (State.auditSnapshot s total) := by
  unfold State.auditSnapshot
  repeat' first | with_reducible assumption | (with_reducible first | apply State.wrb_keeps | apply State.sat_keeps | apply State.trig_keeps | apply ite_keeps | apply State.upd_keeps)

/-! ## Machine/Sleep.lean -/

theorem State.setLines_keeps {s : State} {wakeIn : Bool} {ign : Bool} (hs : State.Keeps pq s) :
    State.Keeps pq (State.setLines s wakeIn ign) := by
  unfold State.setLines
  repeat' first | with_reducible assumption | (with_reducible apply ite_keeps) | split | (dsimp only; split) | (with_reducible apply State.upd_keeps)

theorem State.sleepPhase_keeps {s : State} (hs : State.Keeps pq s) :
    State.Keeps pq (State.sleepPhase s) := by
  unfold State.sleepPhase
  repeat' first | with_reducible assumption | (intro _) | (with_reducible first | apply State.wr_keeps | apply State.trig_keeps | apply ite_keeps | apply State.upd_keeps)

theorem State.sleepObject_keeps {s : State} {x : Nat} (hs : State.Keeps pq s) :
    State.Keeps pq (State.sleepObject s x) := by
  unfold State.sleepObject
  repeat' first | with_reducible assumption | (intro _) | (with_reducible first | apply State.modObj_keeps | apply State.answerEdge_keeps | apply State.dropStanding_keeps | apply foldS_keeps | apply ite_keeps) | split | (dsimp only; split) | (with_reducible apply State.upd_keeps)

theorem State.armWake_keeps {s : State} {arm : Nat} {armEth : Nat} (hs : State.Keeps pq s) :
    State.Keeps pq (State.armWake s arm armEth) := by
  unfold State.armWake
  repeat' first | with_reducible assumption | (with_reducible first | apply State.setWord_keeps | apply State.setPair_keeps | apply State.upd_keeps)

theorem State.commitAlarms_keeps {s : State} (hs : State.Keeps pq s) :
    State.Keeps pq (State.commitAlarms s) := by
  unfold State.commitAlarms
  repeat' first | with_reducible assumption | (intro _) | (with_reducible first | apply State.wakeLatch_keeps | apply foldS_keeps | apply ite_keeps | apply State.upd_keeps)

theorem State.sleepCommit_keeps {s : State} {at_ : Nat} {arm : Nat} {armEth : Nat} {dec : List Nat} (hs : State.Keeps pq s) :
    State.Keeps pq (State.sleepCommit s at_ arm armEth dec) := by
  unfold State.sleepCommit
  repeat' first | with_reducible assumption | (intro _) | (with_reducible first | apply State.wr_keeps | apply State.trig_keeps | apply State.at__keeps | apply State.armWake_keeps | apply State.dropSwitch_keeps | apply State.stopVerify_keeps | apply State.cycStop_keeps | apply State.sleepObject_keeps | apply State.canSleepCommit_keeps | apply State.startDecoding_keeps | apply State.commitAlarms_keeps | apply foldS_keeps | apply State.upd_keeps)

theorem State.commitNow_keeps {s : State} {at_ : Nat} (hs : State.Keeps pq s) :
    State.Keeps pq (State.commitNow s at_) := by
  unfold State.commitNow
  repeat' first | with_reducible assumption | (with_reducible first | apply State.sleepCommit_keeps | apply State.at__keeps)

theorem readyDlyExpiry_keeps {t : Nat} {s : State} (hs : State.Keeps pq s) :
    State.Keeps pq (readyDlyExpiry t s) := by
  unfold readyDlyExpiry
  repeat' first | with_reducible assumption | (intro _) | (with_reducible first | apply State.at__keeps | apply State.commitNow_keeps | apply State.hdgSeal_keeps | apply State.sendDn_keeps | apply ite_keeps) | split | (dsimp only; split) | (with_reducible apply State.upd_keeps)

theorem State.sleepEdge_keeps {s : State} {x : Nat} (hs : State.Keeps pq s) :
    State.Keeps pq (State.sleepEdge s x) := by
  unfold State.sleepEdge
  repeat' first | with_reducible assumption | (intro _) | (with_reducible first | apply State.modObj_keeps | apply State.setCmd_keeps | apply ite_keeps | apply State.upd_keeps)

theorem State.ethSleep_keeps {s : State} {p : Nat} (hs : State.Keeps pq s) :
    State.Keeps pq (State.ethSleep s p) := by
  unfold State.ethSleep
  repeat' first | with_reducible assumption | (intro _) | (with_reducible first | apply linkDown_keeps | apply State.flushPort_keeps | apply ite_keeps | apply State.upd_keeps)

theorem prepMsExpiry_keeps {t : Nat} {s : State} (hs : State.Keeps pq s) :
    State.Keeps pq (prepMsExpiry t s) := by
  unfold prepMsExpiry
  repeat' first | with_reducible assumption | (intro _) | (with_reducible first | apply State.at__keeps | apply retainedWriteComplete_keeps | apply State.logEnergy_keeps | apply State.abortTx_keeps | apply State.setSwPort_keeps | apply State.ethSleep_keeps | apply foldS_keeps | apply ite_keeps) | split | (dsimp only; split) | (with_reducible apply State.upd_keeps)

theorem wakeInEvent_keeps {t : Nat} {level : Bool} {s : State} (hs : State.Keeps pq s) :
    State.Keeps pq (wakeInEvent t level s) := by
  unfold wakeInEvent
  repeat' first | with_reducible assumption | (with_reducible first | apply State.at__keeps | apply State.setLines_keeps | apply State.wakeLatch_keeps | apply ite_keeps | apply State.upd_keeps)

theorem ignSenseEvent_keeps {t : Nat} {level : Bool} {s : State} (hs : State.Keeps pq s) :
    State.Keeps pq (ignSenseEvent t level s) := by
  unfold ignSenseEvent
  repeat' first | with_reducible assumption | (with_reducible first | apply State.at__keeps | apply State.setLines_keeps | apply State.wakeLatch_keeps | apply ite_keeps | apply State.upd_keeps)

theorem rtcAlarm_keeps {t : Nat} {v : Nat} {s : State} (hs : State.Keeps pq s) :
    State.Keeps pq (rtcAlarm t v s) := by
  unfold rtcAlarm
  repeat' first | with_reducible assumption | (with_reducible first | apply State.at__keeps | apply State.wakeLatch_keeps | apply State.trig_keeps | apply ite_keeps | apply State.upd_keeps)

theorem canWakePattern_keeps {t : Nat} {c : Nat} {s : State} (hs : State.Keeps pq s) :
    State.Keeps pq (canWakePattern t c s) := by
  unfold canWakePattern
  repeat' first | with_reducible assumption | (with_reducible first | apply State.at__keeps | apply State.canWakeEvent_keeps | apply ite_keeps)

theorem canWakeFrame_keeps {t : Nat} {c : Nat} {f : CanFrame} {s : State} (hs : State.Keeps pq s) :
    State.Keeps pq (canWakeFrame t c f s) := by
  unfold canWakeFrame
  repeat' first | with_reducible assumption | (with_reducible first | apply State.at__keeps | apply State.swkFrame_keeps | apply ite_keeps)

theorem canFecOverflow_keeps {t : Nat} {c : Nat} {s : State} (hs : State.Keeps pq s) :
    State.Keeps pq (canFecOverflow t c s) := by
  unfold canFecOverflow
  repeat' first | with_reducible assumption | (with_reducible first | apply State.at__keeps | apply State.swkError_keeps | apply ite_keeps)

theorem linWakeDominant_keeps {t : Nat} {c : Nat} {fin : Nat} {s : State} (hs : State.Keeps pq s) :
    State.Keeps pq (linWakeDominant t c fin s) := by
  unfold linWakeDominant
  repeat' first | with_reducible assumption | (with_reducible first | apply State.at__keeps | apply State.wr_keeps | apply State.wakeLatch_keeps | apply State.linWake_keeps | apply ite_keeps)

theorem ethTc10Wake_keeps {t : Nat} {p : Nat} {s : State} (hs : State.Keeps pq s) :
    State.Keeps pq (ethTc10Wake t p s) := by
  unfold ethTc10Wake
  repeat' first | with_reducible assumption | (intro _) | (with_reducible first | apply State.at__keeps | apply State.wr_keeps | apply State.wakeLatch_keeps | apply ite_keeps | apply State.upd_keeps)

theorem chainWakePulse_keeps {t : Nat} {_up : Bool} {s : State} (hs : State.Keeps pq s) :
    State.Keeps pq (chainWakePulse t _up s) := by
  unfold chainWakePulse
  repeat' first | with_reducible assumption | (with_reducible first | apply State.at__keeps | apply State.wakeLatch_keeps | apply ite_keeps) | split | (dsimp only; split)

theorem tc10HandshakeComplete_keeps {t : Nat} {p : Nat} {ok : Bool} {s : State} (hs : State.Keeps pq s) :
    State.Keeps pq (tc10HandshakeComplete t p ok s) := by
  unfold tc10HandshakeComplete
  repeat' first | with_reducible assumption | (intro _) | (with_reducible first | apply State.at__keeps | apply State.ethSleep_keeps | apply ite_keeps | apply State.upd_keeps)

theorem wakeOutPulseEnd_keeps {t : Nat} {s : State} (hs : State.Keeps pq s) :
    State.Keeps pq (wakeOutPulseEnd t s) := by
  unfold wakeOutPulseEnd
  repeat' first | with_reducible assumption | (with_reducible first | apply State.at__keeps | apply ite_keeps) | split | (dsimp only; split) | (with_reducible apply State.upd_keeps)

theorem coppiceSleepCommit_keeps {t : Nat} {s : State} (hs : State.Keeps pq s) :
    State.Keeps pq (coppiceSleepCommit t s) := by
  unfold coppiceSleepCommit
  repeat' first | with_reducible assumption | (with_reducible first | apply State.at__keeps | apply State.sleepCommit_keeps | apply ite_keeps)

theorem State.sleepAbort_keeps {s : State} (hs : State.Keeps pq s) :
    State.Keeps pq (State.sleepAbort s) := by
  unfold State.sleepAbort
  repeat' first | with_reducible assumption | (intro _) | (with_reducible first | apply State.lateFor_keeps | apply State.wr_keeps | apply State.wrb_keeps | apply foldS_keeps | apply ite_keeps | apply State.upd_keeps)

/-! ## Machine/SleepCmds.lean -/

theorem slpVoteBody_keeps {c : Cmd} {s : State} (hs : State.Keeps pq s) :
    Res.Keeps pq (slpVoteBody c s) := by
  unfold slpVoteBody
  repeat' first | with_reducible assumption | (with_reducible first | apply need_keeps | apply State.wr_keeps | apply Res.refuse_keeps | apply Res.done_keeps | apply Res.later_keeps | apply Res.wait_keeps | apply res_ite_keeps | apply ite_keeps)

theorem slpStatusBody_keeps {x0 : Cmd} {s : State} (hs : State.Keeps pq s) :
    Res.Keeps pq (slpStatusBody x0 s) := by
  unfold slpStatusBody
  repeat' first | with_reducible assumption | (with_reducible first | apply State.at__keeps | apply Res.refuse_keeps | apply Res.done_keeps | apply Res.later_keeps | apply Res.wait_keeps | apply res_ite_keeps | apply ite_keeps)

theorem slpWakeInfoBody_keeps {x0 : Cmd} {s : State} (hs : State.Keeps pq s) :
    Res.Keeps pq (slpWakeInfoBody x0 s) := by
  unfold slpWakeInfoBody
  repeat' first | with_reducible assumption | (with_reducible first | apply Res.refuse_keeps | apply Res.done_keeps | apply Res.later_keeps | apply Res.wait_keeps)

theorem State.canFreeze_keeps {s : State} {n : Nat} (hs : State.Keeps pq s) :
    State.Keeps pq (State.canFreeze s n) := by
  unfold State.canFreeze
  repeat' first | with_reducible assumption | (intro _) | (with_reducible first | apply State.modCan_keeps | apply State.canState_keeps | apply State.startDecoding_keeps | apply ite_keeps) | split | (dsimp only; split) | (with_reducible apply State.upd_keeps)

theorem State.slpCan_keeps {s : State} {n : Nat} {op : Nat} (hs : State.Keeps pq s) :
    Res.Keeps pq (State.slpCan s n op) := by
  unfold State.slpCan
  repeat' first | with_reducible assumption | (with_reducible first | apply need_keeps | apply State.canFreeze_keeps | apply State.canThaw_keeps | apply Res.refuse_keeps | apply Res.done_keeps | apply Res.later_keeps | apply Res.wait_keeps | apply res_ite_keeps | apply ite_keeps)

theorem State.slpLin_keeps {s : State} {n : Nat} {op : Nat} (hs : State.Keeps pq s) :
    Res.Keeps pq (State.slpLin s n op) := by
  unfold State.slpLin
  repeat' first | with_reducible assumption | (intro _) | (with_reducible first | apply need_keeps | apply State.linWake_keeps | apply State.modLin_keeps | apply Res.refuse_keeps | apply Res.done_keeps | apply Res.later_keeps | apply Res.wait_keeps | apply res_ite_keeps | apply ite_keeps | apply State.upd_keeps)

theorem State.slpEth_keeps {s : State} {p : Nat} {op : Nat} (hs : State.Keeps pq s) :
    Res.Keeps pq (State.slpEth s p op) := by
  unfold State.slpEth
  repeat' first | with_reducible assumption | (intro _) | (with_reducible first | apply need_keeps | apply Res.refuse_keeps | apply Res.done_keeps | apply Res.later_keeps | apply Res.wait_keeps | apply res_ite_keeps | apply ite_keeps | apply State.upd_keeps)

theorem slpChannelBody_keeps {c : Cmd} {s : State} (hs : State.Keeps pq s) :
    Res.Keeps pq (slpChannelBody c s) := by
  unfold slpChannelBody
  repeat' first | with_reducible assumption | (with_reducible first | apply need_keeps | apply State.slpCan_keeps | apply State.slpLin_keeps | apply State.slpEth_keeps | apply Res.refuse_keeps | apply Res.done_keeps | apply Res.later_keeps | apply Res.wait_keeps | apply res_ite_keeps | apply ite_keeps)

theorem slpAlarmBody_keeps {c : Cmd} {s : State} (hs : State.Keeps pq s) :
    Res.Keeps pq (slpAlarmBody c s) := by
  unfold slpAlarmBody
  repeat' first | with_reducible assumption | (with_reducible first | apply need_keeps | apply Res.refuse_keeps | apply Res.done_keeps | apply Res.later_keeps | apply Res.wait_keeps | apply res_ite_keeps | apply ite_keeps | apply State.upd_keeps)

theorem slpSwkConfigBody_keeps {c : Cmd} {s : State} (hs : State.Keeps pq s) :
    Res.Keeps pq (slpSwkConfigBody c s) := by
  unfold slpSwkConfigBody
  repeat' first | with_reducible assumption | (intro _) | (with_reducible first | apply need_keeps | apply Res.refuse_keeps | apply Res.done_keeps | apply Res.later_keeps | apply Res.wait_keeps | apply res_ite_keeps | apply ite_keeps | apply State.upd_keeps)

/-! ## Machine/Part.lean -/

theorem State.noteTimers_keeps {s : State} {v : Nat} {st : Nat} (hs : State.Keeps pq s) :
    State.Keeps pq (State.noteTimers s v st) := by
  unfold State.noteTimers
  repeat' first | with_reducible assumption | (intro _) | (with_reducible first | apply ite_keeps | apply State.upd_keeps)

theorem State.setPart_keeps {s : State} {v : Nat} {st : Nat} (hs : State.Keeps pq s) :
    State.Keeps pq (State.setPart s v st) := by
  unfold State.setPart
  repeat' first | with_reducible assumption | (intro _) | (with_reducible first | apply State.wr_keeps | apply State.modPart_keeps | apply State.noteTimers_keeps | apply ite_keeps | apply State.upd_keeps)

theorem mpcCorePartWrite_keeps {t : Nat} {a : Acc} {hyp : Bool} {c : Nat} {v : Nat} {s : State} (hs : State.Keeps pq s) :
    State.Keeps pq (mpcCorePartWrite t a hyp c v s) := by
  unfold mpcCorePartWrite
  repeat' first | with_reducible assumption | (with_reducible first | apply State.at__keeps | apply State.wr_keeps | apply State.refuseAcc_keeps | apply ite_keeps | apply State.upd_keeps)

theorem mpcPevtClear_keeps {t : Nat} {a : Acc} {hyp : Bool} {v : Nat} {s : State} (hs : State.Keeps pq s) :
    State.Keeps pq (mpcPevtClear t a hyp v s) := by
  unfold mpcPevtClear
  repeat' first | with_reducible assumption | (with_reducible first | apply State.at__keeps | apply State.wr_keeps | apply ite_keeps | apply State.upd_keeps)

theorem State.beginReset_keeps {s : State} {v : Nat} {cause : Nat} {scrub : Bool} (hs : State.Keeps pq s) :
    State.Keeps pq (State.beginReset s v cause scrub) := by
  unfold State.beginReset
  repeat' first | with_reducible assumption | (intro _) | (with_reducible first | apply State.wr_keeps | apply State.sat_keeps | apply State.modPart_keeps | apply State.setPart_keeps | apply State.upd_keeps)

theorem State.hostReset_keeps {s : State} {v : Nat} {cause : Nat} {scrub : Bool} (hs : State.Keeps pq s) :
    State.Keeps pq (State.hostReset s v cause scrub) := by
  unfold State.hostReset
  repeat' first | with_reducible assumption | (intro _) | (with_reducible first | apply State.beginReset_keeps | apply foldS_keeps) | split | (dsimp only; split)

theorem State.resetPart_keeps {s : State} {v : Nat} {cause : Nat} {scrub : Bool} (hs : State.Keeps pq s) :
    State.Keeps pq (State.resetPart s v cause scrub) := by
  unfold State.resetPart
  repeat' first | with_reducible assumption | (intro _) | (with_reducible first | apply State.modPart_keeps | apply State.hostReset_keeps | apply State.beginReset_keeps | apply ite_keeps) | split | (dsimp only; split) | (with_reducible apply State.upd_keeps)

theorem State.answerHostWait_keeps {s : State} (hs : State.Keeps pq s) :
    State.Keeps pq (State.answerHostWait s) := by
  unfold State.answerHostWait
  repeat' first | with_reducible assumption | (intro _) | (with_reducible first | apply State.answer_keeps | apply foldS_keeps)

theorem State.hostWaitCheck_keeps {s : State} (hs : State.Keeps pq s) :
    State.Keeps pq (State.hostWaitCheck s) := by
  unfold State.hostWaitCheck
  repeat' first | with_reducible assumption | (with_reducible first | apply State.hostReset_keeps | apply State.answerHostWait_keeps | apply ite_keeps) | split | (dsimp only; split) | (with_reducible apply State.upd_keeps)

theorem State.popLost_keeps {s : State} {x : RaSlot} (hs : State.Keeps pq s) :
    State.Keeps pq (State.popLost s x) := by
  unfold State.popLost
  repeat' first | with_reducible assumption | (with_reducible apply State.blogWrite_keeps) | split | (dsimp only; split)

theorem State.dropSlots_keeps {s : State} {f : RaSlot → Bool} (hs : State.Keeps pq s) :
    State.Keeps pq (State.dropSlots s f) := by
  unfold State.dropSlots
  repeat' first | with_reducible assumption | (intro _) | (with_reducible first | apply State.popLost_keeps | apply foldS_keeps | apply State.upd_keeps)

theorem State.clearActive_keeps {s : State} {bank : Nat} (hs : State.Keeps pq s) :
    State.Keeps pq (State.clearActive s bank) := by
  unfold State.clearActive
  repeat' first | with_reducible assumption | (intro _) | (with_reducible apply State.upd_keeps)

theorem State.ringsOff_keeps {s : State} {v : Nat} (hs : State.Keeps pq s) :
    State.Keeps pq (State.ringsOff s v) := by
  unfold State.ringsOff
  repeat' first | with_reducible assumption | (intro _) | (with_reducible first | apply State.wrb_keeps | apply foldS_keeps | apply State.upd_keeps)

theorem State.partEffects_keeps {s : State} {v : Nat} (hs : State.Keeps pq s) :
    State.Keeps pq (State.partEffects s v) := by
  unfold State.partEffects
  repeat' first | with_reducible assumption | (intro _) | (with_reducible first | apply State.wrb_keeps | apply State.ringsOff_keeps | apply State.canOwnerReset_keeps | apply State.linOwnerReset_keeps | apply State.clearActive_keeps | apply State.dispose_keeps | apply State.abortKeyOp_keeps | apply State.wr_keeps | apply foldS_keeps | apply State.upd_keeps)

theorem State.scrubRegions_keeps {s : State} {v : Nat} (hs : State.Keeps pq s) :
    State.Keeps pq (State.scrubRegions s v) := by
  unfold State.scrubRegions
  exact foldS_keeps hs (fun m u hu => foldS_keeps hu (fun r w hw => ⟨Memory.zero_wf _ _ hw.1, hw.2⟩))

theorem partScrubComplete_keeps {t : Nat} {v : Nat} {s : State} (hs : State.Keeps pq s) :
    State.Keeps pq (partScrubComplete t v s) := by
  unfold partScrubComplete
  repeat' first | with_reducible assumption | (intro _) | (with_reducible first | apply State.at__keeps | apply State.scrubRegions_keeps | apply State.wrb_keeps | apply State.modPart_keeps | apply State.setPart_keeps | apply ite_keeps | apply State.upd_keeps)

theorem State.modPair_keeps {s : State} {n : Nat} {f : Pair → Pair} (hs : State.Keeps pq s) :
    State.Keeps pq (State.modPair s n f) := by
  unfold State.modPair
  repeat' first | with_reducible assumption | (intro _) | (with_reducible apply State.upd_keeps)

theorem State.setPair__keeps {s : State} {n : Nat} {st : Nat} (hs : State.Keeps pq s) :
    State.Keeps pq (State.setPair_ s n st) := by
  unfold State.setPair_
  repeat' first | with_reducible assumption | (intro _) | (with_reducible first | apply State.wr_keeps | apply State.modPair_keeps | apply ite_keeps | apply State.upd_keeps)

theorem State.releasePair_keeps {s : State} {n : Nat} (hs : State.Keeps pq s) :
    State.Keeps pq (State.releasePair s n) := by
  unfold State.releasePair
  repeat' first | with_reducible assumption | (intro _) | (with_reducible first | apply State.setPair__keeps | apply State.modPair_keeps | apply State.setPair_keeps | apply ite_keeps | apply State.upd_keeps)

theorem State.haltPair_keeps {s : State} {n : Nat} (hs : State.Keeps pq s) :
    State.Keeps pq (State.haltPair s n) := by
  unfold State.haltPair
  repeat' first | with_reducible assumption | (intro _) | (with_reducible first | apply State.setPair__keeps | apply State.wrb_keeps | apply State.modPair_keeps | apply State.upd_keeps)

theorem State.heldHalt_keeps {s : State} {n : Nat} (hs : State.Keeps pq s) :
    State.Keeps pq (State.heldHalt s n) := by
  unfold State.heldHalt
  repeat' first | with_reducible assumption | (with_reducible first | apply State.haltPair_keeps | apply ite_keeps)

theorem partStatusBody_keeps {c : Cmd} {s : State} (hs : State.Keeps pq s) :
    Res.Keeps pq (partStatusBody c s) := by
  unfold partStatusBody
  repeat' first | with_reducible assumption | (with_reducible first | apply need_keeps | apply Res.refuse_keeps | apply Res.done_keeps | apply Res.later_keeps | apply Res.wait_keeps) | split | (dsimp only; split)

theorem partReadyBody_keeps {c : Cmd} {s : State} (hs : State.Keeps pq s) :
    Res.Keeps pq (partReadyBody c s) := by
  unfold partReadyBody
  repeat' first | with_reducible assumption | (with_reducible first | apply need_keeps | apply State.setPart_keeps | apply Res.refuse_keeps | apply Res.done_keeps | apply Res.later_keeps | apply Res.wait_keeps | apply res_ite_keeps | apply ite_keeps) | split | (dsimp only; split)

theorem partResetBody_keeps {c : Cmd} {s : State} (hs : State.Keeps pq s) :
    Res.Keeps pq (partResetBody c s) := by
  unfold partResetBody
  repeat' first | with_reducible assumption | (with_reducible first | apply need_keeps | apply State.resetPart_keeps | apply Res.refuse_keeps | apply Res.done_keeps | apply Res.later_keeps | apply Res.wait_keeps | apply res_ite_keeps | apply ite_keeps) | split | (dsimp only; split)

theorem partReleaseBody_keeps {c : Cmd} {s : State} (hs : State.Keeps pq s) :
    Res.Keeps pq (partReleaseBody c s) := by
  unfold partReleaseBody
  repeat' first | with_reducible assumption | (with_reducible first | apply need_keeps | apply State.setPart_keeps | apply Res.refuse_keeps | apply Res.done_keeps | apply Res.later_keeps | apply Res.wait_keeps) | split | (dsimp only; split)

theorem partStoreInfoBody_keeps {c : Cmd} {s : State} (hs : State.Keeps pq s) :
    Res.Keeps pq (partStoreInfoBody c s) := by
  unfold partStoreInfoBody
  repeat' first | with_reducible assumption | (with_reducible first | apply need_keeps | apply State.draw_keeps | apply Res.refuse_keeps | apply Res.done_keeps | apply Res.later_keeps | apply Res.wait_keeps)

theorem partStoreReadBody_keeps {c : Cmd} {s : State} (hs : State.Keeps pq s) :
    Res.Keeps pq (partStoreReadBody c s) := by
  unfold partStoreReadBody
  repeat' first | with_reducible assumption | (intro _) | (with_reducible first | apply need_keeps | apply State.draw_keeps | apply State.putBuf_keeps | apply Res.refuse_keeps | apply Res.done_keeps | apply Res.later_keeps | apply Res.wait_keeps) | split | (dsimp only; split)

theorem partStoreWriteBody_keeps {c : Cmd} {s : State} (hs : State.Keeps pq s) :
    Res.Keeps pq (partStoreWriteBody c s) := by
  unfold partStoreWriteBody
  repeat' first | with_reducible assumption | (intro _) | (with_reducible first | apply need_keeps | apply foldS_keeps | apply Res.refuse_keeps | apply Res.done_keeps | apply Res.later_keeps | apply Res.wait_keeps | apply State.upd_keeps)

/-! ## Machine/Pairs.lean -/

theorem State.startRestart_keeps {s : State} {n : Nat} (hs : State.Keeps pq s) :
    State.Keeps pq (State.startRestart s n) := by
  unfold State.startRestart
  repeat' first | with_reducible assumption | (intro _) | (with_reducible first | apply State.clearActive_keeps | apply State.dropSlots_keeps | apply State.setPair__keeps)

theorem State.mismatch_keeps {s : State} {n : Nat} {kind : Nat} {addr : Nat} (hs : State.Keeps pq s) :
    State.Keeps pq (State.mismatch s n kind addr) := by
  unfold State.mismatch
  repeat' first | with_reducible assumption | (with_reducible first | apply State.sat_keeps | apply State.setWord_keeps | apply State.wr_keeps | apply State.setPair_keeps | apply State.setPair__keeps | apply State.startRestart_keeps | apply State.raise_keeps | apply ite_keeps)

theorem lockstepMismatch_keeps {t : Nat} {n : Nat} {kind : Nat} {addr : Nat} {s : State} (hs : State.Keeps pq s) :
    State.Keeps pq (lockstepMismatch t n kind addr s) := by
  unfold lockstepMismatch
  repeat' first | with_reducible assumption | (with_reducible first | apply State.at__keeps | apply State.mismatch_keeps | apply ite_keeps) | split | (dsimp only; split)

theorem lockstepSignatureCheck_keeps {t : Nat} {n : Nat} {equal : Bool} {s : State} (hs : State.Keeps pq s) :
    State.Keeps pq (lockstepSignatureCheck t n equal s) := by
  unfold lockstepSignatureCheck
  repeat' first | with_reducible assumption | (with_reducible first | apply State.at__keeps | apply State.mismatch_keeps | apply ite_keeps) | split | (dsimp only; split)

theorem mismatchSelftestResult_keeps {t : Nat} {n : Nat} {aOk : Bool} {bOk : Bool} {s : State} (hs : State.Keeps pq s) :
    State.Keeps pq (mismatchSelftestResult t n aOk bOk s) := by
  unfold mismatchSelftestResult
  repeat' first | with_reducible assumption | (with_reducible first | apply State.at__keeps | apply State.wr_keeps | apply State.startRestart_keeps | apply State.setPair__keeps | apply State.ownFault_keeps | apply State.heldHalt_keeps | apply ite_keeps)

theorem checkpointRestartComplete_keeps {t : Nat} {n : Nat} {s : State} (hs : State.Keeps pq s) :
    State.Keeps pq (checkpointRestartComplete t n s) := by
  unfold checkpointRestartComplete
  repeat' first | with_reducible assumption | (intro _) | (with_reducible first | apply State.at__keeps | apply State.wr_keeps | apply State.resetPart_keeps | apply State.sat_keeps | apply State.modPair_keeps | apply State.setPair__keeps | apply State.heldHalt_keeps | apply ite_keeps | apply State.upd_keeps)

theorem fltLsCkptWrite_keeps {t : Nat} {a : Acc} {n : Nat} {v : Nat} {s : State} (hs : State.Keeps pq s) :
    State.Keeps pq (fltLsCkptWrite t a n v s) := by
  unfold fltLsCkptWrite
  repeat' first | with_reducible assumption | (intro _) | (with_reducible first | apply State.at__keeps | apply State.refuseAcc_keeps | apply State.modPair_keeps | apply State.setPair_keeps | apply ite_keeps | apply State.upd_keeps)

theorem debugHaltRequest_keeps {t : Nat} {n : Nat} {s : State} (hs : State.Keeps pq s) :
    State.Keeps pq (debugHaltRequest t n s) := by
  unfold debugHaltRequest
  repeat' first | with_reducible assumption | (intro _) | (with_reducible first | apply State.at__keeps | apply State.haltPair_keeps | apply State.modPair_keeps | apply ite_keeps | apply State.upd_keeps)

theorem debugResume_keeps {t : Nat} {n : Nat} {s : State} (hs : State.Keeps pq s) :
    State.Keeps pq (debugResume t n s) := by
  unfold debugResume
  repeat' first | with_reducible assumption | (with_reducible first | apply State.at__keeps | apply State.setPair__keeps | apply ite_keeps)

theorem pairStatusBody_keeps {c : Cmd} {s : State} (hs : State.Keeps pq s) :
    Res.Keeps pq (pairStatusBody c s) := by
  unfold pairStatusBody
  repeat' first | with_reducible assumption | (with_reducible first | apply need_keeps | apply Res.refuse_keeps | apply Res.done_keeps | apply Res.later_keeps | apply Res.wait_keeps)

/-! ## Machine/Worlds.lean -/

theorem State.endCall_keeps {s : State} {c : Nat} (hs : State.Keeps pq s) :
    State.Keeps pq (State.endCall s c) := by
  unfold State.endCall
  repeat' first | with_reducible assumption | (with_reducible first | apply State.wr_keeps | apply State.setWord_keeps | apply State.upd_keeps)

theorem State.gateUnserved_keeps {s : State} {c : Nat} (hs : State.Keeps pq s) :
    State.Keeps pq (State.gateUnserved s c) := by
  unfold State.gateUnserved
  repeat' first | with_reducible assumption | (with_reducible apply State.upd_keeps)

theorem gate_keeps {t : Nat} {a : Acc} {hyp : Bool} {target : Nat} {s : State} (hs : State.Keeps pq s) :
    State.Keeps pq (gate t a hyp target s) := by
  unfold gate
  repeat' first | with_reducible assumption | (with_reducible first | apply State.at__keeps | apply State.accFault_keeps | apply State.gateUnserved_keeps | apply State.setWord_keeps | apply State.wrb_keeps | apply State.wr_keeps | apply ite_keeps | apply State.upd_keeps)

theorem gret_keeps {t : Nat} {a : Acc} {s : State} (hs : State.Keeps pq s) :
    State.Keeps pq (gret t a s) := by
  unfold gret
  repeat' first | with_reducible assumption | (with_reducible first | apply State.at__keeps | apply State.endCall_keeps | apply State.hostWaitCheck_keeps | apply State.accFault_keeps | apply ite_keeps | apply State.upd_keeps)

theorem gateTimerExpiry_keeps {t : Nat} {c : Nat} {s : State} (hs : State.Keeps pq s) :
    State.Keeps pq (gateTimerExpiry t c s) := by
  unfold gateTimerExpiry
  repeat' first | with_reducible assumption | (intro _) | (with_reducible first | apply State.at__keeps | apply State.endCall_keeps | apply State.gateUnserved_keeps | apply State.wr_keeps | apply State.setPair_keeps | apply State.raise_keeps | apply State.dispose_keeps | apply State.hostWaitCheck_keeps | apply foldS_keeps | apply ite_keeps) | split | (dsimp only; split) | (with_reducible apply State.upd_keeps)

theorem State.setPstate_keeps {s : State} {k : Nat} {v : Nat} (hs : State.Keeps pq s) :
    State.Keeps pq (State.setPstate s k v) := by
  unfold State.setPstate
  repeat' first | with_reducible assumption | (with_reducible first | apply State.wrb_keeps | apply State.wr_keeps | apply ite_keeps | apply State.upd_keeps)

theorem mpcCpcPstateWrite_keeps {t : Nat} {a : Acc} {k : Nat} {v : Nat} {s : State} (hs : State.Keeps pq s) :
    State.Keeps pq (mpcCpcPstateWrite t a k v s) := by
  unfold mpcCpcPstateWrite
  repeat' first | with_reducible assumption | (with_reducible first | apply State.at__keeps | apply State.setPstate_keeps | apply State.failAcc_keeps | apply State.refuseAcc_keeps | apply ite_keeps | apply State.upd_keeps)

theorem coreWaitForInterrupt_keeps {t : Nat} {c : Nat} {s : State} (hs : State.Keeps pq s) :
    State.Keeps pq (coreWaitForInterrupt t c s) := by
  unfold coreWaitForInterrupt
  repeat' first | with_reducible assumption | (with_reducible first | apply State.at__keeps | apply State.wr_keeps | apply ite_keeps | apply State.upd_keeps)

theorem worldStatusBody_keeps {x0 : Cmd} {s : State} (hs : State.Keeps pq s) :
    Res.Keeps pq (worldStatusBody x0 s) := by
  unfold worldStatusBody
  repeat' first | with_reducible assumption | (with_reducible first | apply Res.refuse_keeps | apply Res.done_keeps | apply Res.later_keeps | apply Res.wait_keeps)

theorem lcSetBody_keeps {c : Cmd} {s : State} (hs : State.Keeps pq s) :
    Res.Keeps pq (lcSetBody c s) := by
  unfold lcSetBody
  repeat' first | with_reducible assumption | (with_reducible first | apply need_keeps | apply State.wrb_keeps | apply State.wr_keeps | apply Res.refuse_keeps | apply Res.done_keeps | apply Res.later_keeps | apply Res.wait_keeps) | split | (dsimp only; split)

end Sys2Proof.Machine
end

