-- ==== Sys2Proof/Laws/Keeps4.lean ====
section
/-!
SUPPORT. Laws/Keeps4.lean: one lemma per operation: it keeps the canonical form of memory and the queue. Here: the fault collector, configuration, updates, resets and the start.
-/
namespace Sys2Proof.Machine

variable {pq : List Instr}

/-! ## Machine/Faults.lean -/

theorem State.addCond_keeps {s : State} {code : Nat} {src : Nat} (hs : State.Keeps pq s) :
    State.Keeps pq (State.addCond s code src) := by
  unfold State.addCond
  repeat' first | with_reducible assumption | (intro _) | (with_reducible first | apply State.wrb_keeps | apply ite_keeps | apply State.upd_keeps)

theorem State.eccReader_keeps {s : State} {a : Acc} {addr : Nat} (hs : State.Keeps pq s) :
    State.Keeps pq (State.eccReader s a addr) := by
  unfold State.eccReader
  repeat' first | with_reducible assumption | (intro _) | (with_reducible first | apply State.at__keeps | apply ite_keeps | apply State.upd_keeps)

theorem faultReport_keeps {t : Nat} {code : Nat} {cls : Nat} {obj : Nat} {detail : Nat} {a : Acc} {ty : Nat} {addr : Nat} {s : State} (hs : State.Keeps pq s) :
    State.Keeps pq (faultReport t code cls obj detail a ty addr s) := by
  unfold faultReport
  repeat' first | with_reducible assumption | (intro _) | (with_reducible first | apply State.at__keeps | apply State.addCond_keeps | apply State.raise_keeps | apply State.eccReader_keeps | apply ite_keeps) | split | (dsimp only; split) | (with_reducible apply State.upd_keeps)

theorem State.fatalUnrecorded_keeps {s : State} {island : Nat} (hs : State.Keeps pq s) :
    State.Keeps pq (State.fatalUnrecorded s island) := by
  unfold State.fatalUnrecorded
  repeat' first | with_reducible assumption | (with_reducible first | apply State.countFault_keeps | apply State.capture_keeps | apply State.logRec_keeps | apply ite_keeps | apply State.upd_keeps)

theorem unrecordedTimeout_keeps {t : Nat} {island : Nat} {cls : Nat} {s : State} (hs : State.Keeps pq s) :
    State.Keeps pq (unrecordedTimeout t island cls s) := by
  unfold unrecordedTimeout
  repeat' first | with_reducible assumption | (with_reducible first | apply State.at__keeps | apply State.fatalUnrecorded_keeps | apply State.raise_keeps | apply ite_keeps)

theorem railDisagreement_keeps {t : Nat} {island : Nat} {s : State} (hs : State.Keeps pq s) :
    State.Keeps pq (railDisagreement t island s) := by
  unfold railDisagreement
  repeat' first | with_reducible assumption | (with_reducible first | apply State.at__keeps | apply State.setWord_keeps | apply State.addCond_keeps | apply State.raise_keeps | apply ite_keeps) | split | (dsimp only; split)

theorem fatalConditionClear_keeps {t : Nat} {code : Nat} {src : Nat} {s : State} (hs : State.Keeps pq s) :
    State.Keeps pq (fatalConditionClear t code src s) := by
  unfold fatalConditionClear
  repeat' first | with_reducible assumption | (intro _) | (with_reducible first | apply State.at__keeps | apply State.wrb_keeps | apply ite_keeps | apply State.upd_keeps)

theorem State.dropNote_keeps {s : State} {h : Nat} {idx : Nat} (hs : State.Keeps pq s) :
    State.Keeps pq (State.dropNote s h idx) := by
  unfold State.dropNote
  repeat' first | with_reducible assumption | (intro _) | (with_reducible apply State.upd_keeps)

theorem fltNoteAck_keeps {t : Nat} {a : Acc} {v : Nat} {s : State} (hs : State.Keeps pq s) :
    State.Keeps pq (fltNoteAck t a v s) := by
  unfold fltNoteAck
  repeat' first | with_reducible assumption | (intro _) | (with_reducible first | apply State.at__keeps | apply State.dropNote_keeps | apply State.logFlag_keeps | apply ite_keeps) | split | (dsimp only; split) | (with_reducible apply State.upd_keeps)

theorem State.modNote_keeps {s : State} {h : Nat} {idx : Nat} {f : Note → Note} (hs : State.Keeps pq s) :
    State.Keeps pq (State.modNote s h idx f) := by
  unfold State.modNote
  repeat' first | with_reducible assumption | (intro _) | (with_reducible first | apply ite_keeps | apply State.upd_keeps)

theorem handlingTimerExpiry_keeps {t : Nat} {h : Nat} {index : Nat} {s : State} (hs : State.Keeps pq s) :
    State.Keeps pq (handlingTimerExpiry t h index s) := by
  unfold handlingTimerExpiry
  repeat' first | with_reducible assumption | (intro _) | (with_reducible first | apply State.at__keeps | apply State.modNote_keeps | apply State.logFlag_keeps | apply State.resetPart_keeps | apply ite_keeps) | split | (dsimp only; split) | (with_reducible apply State.upd_keeps)

theorem State.abortCompute_keeps {s : State} (hs : State.Keeps pq s) :
    State.Keeps pq (State.abortCompute s) := by
  unfold State.abortCompute
  repeat' first | with_reducible assumption | (intro _) | (with_reducible first | apply State.act_keeps | apply State.maintStat_keeps | apply State.upd_keeps)

theorem State.holdClusters_keeps {s : State} (hs : State.Keeps pq s) :
    State.Keeps pq (State.holdClusters s) := by
  unfold State.holdClusters
  repeat' first | with_reducible assumption | (intro _) | (with_reducible first | apply State.partEffects_keeps | apply State.wrb_keeps | apply State.modPart_keeps | apply State.setPart_keeps | apply State.setPair__keeps | apply State.endCall_keeps | apply State.ringsOff_keeps | apply State.canOwnerReset_keeps | apply State.linOwnerReset_keeps | apply State.abortKeyOps_keeps | apply State.wr_keeps | apply foldS_keeps | apply ite_keeps | apply State.upd_keeps)

theorem State.setDev_keeps {s : State} {d : DevState} (hs : State.Keeps pq s) :
    State.Keeps pq (State.setDev s d) := by
  unfold State.setDev
  repeat' first | with_reducible assumption | (with_reducible first | apply State.wr_keeps | apply ite_keeps | apply State.upd_keeps)

theorem State.allSafe_keeps {s : State} (hs : State.Keeps pq s) :
    State.Keeps pq (State.allSafe s) := by
  unfold State.allSafe
  repeat' first | with_reducible assumption | (intro _) | (with_reducible first | apply State.forceSafe_keeps | apply foldS_keeps)

theorem State.enterFault_keeps {s : State} {fatal : Bool} (hs : State.Keeps pq s) :
    State.Keeps pq (State.enterFault s fatal) := by
  unfold State.enterFault
  repeat' first | with_reducible assumption | (intro _) | (with_reducible first | apply State.sleepAbort_keeps | apply State.wr_keeps | apply State.allSafe_keeps | apply State.setDev_keeps | apply State.wrb_keeps | apply State.setPair_keeps | apply State.cycStop_keeps | apply State.dispose_keeps | apply State.holdClusters_keeps | apply State.dropSwitch_keeps | apply State.abortCompute_keeps | apply State.stopVerify_keeps | apply foldS_keeps | apply ite_keeps | apply State.upd_keeps)

theorem quietTimerExpiry_keeps {t : Nat} {s : State} (hs : State.Keeps pq s) :
    State.Keeps pq (quietTimerExpiry t s) := by
  unfold quietTimerExpiry
  repeat' first | with_reducible assumption | (with_reducible first | apply State.at__keeps | apply State.sat_keeps | apply ite_keeps) | split | (dsimp only; split) | (with_reducible apply State.upd_keeps)

theorem faultStatusBody_keeps {x0 : Cmd} {s : State} (hs : State.Keeps pq s) :
    Res.Keeps pq (faultStatusBody x0 s) := by
  unfold faultStatusBody
  repeat' first | with_reducible assumption | (with_reducible first | apply State.count_keeps | apply Res.refuse_keeps | apply Res.done_keeps | apply Res.later_keeps | apply Res.wait_keeps)

theorem faultLogReadBody_keeps {c : Cmd} {s : State} (hs : State.Keeps pq s) :
    Res.Keeps pq (faultLogReadBody c s) := by
  unfold faultLogReadBody
  repeat' first | with_reducible assumption | (intro _) | (with_reducible first | apply need_keeps | apply State.take_keeps | apply State.putBuf_keeps | apply Res.refuse_keeps | apply Res.done_keeps | apply Res.later_keeps | apply Res.wait_keeps | apply res_ite_keeps | apply ite_keeps) | split | (dsimp only; split)

theorem State.rearm_keeps {s : State} {k : Nat} (hs : State.Keeps pq s) :
    State.Keeps pq (State.rearm s k) := by
  unfold State.rearm
  repeat' first | with_reducible assumption | (intro _) | (with_reducible first | apply State.setWord_keeps | apply foldS_keeps)

theorem faultCaptureBody_keeps {c : Cmd} {s : State} (hs : State.Keeps pq s) :
    Res.Keeps pq (faultCaptureBody c s) := by
  unfold faultCaptureBody
  repeat' first | with_reducible assumption | (with_reducible first | apply need_keeps | apply State.rearm_keeps | apply Res.refuse_keeps | apply Res.done_keeps | apply Res.later_keeps | apply Res.wait_keeps | apply res_ite_keeps | apply ite_keeps) | split | (dsimp only; split)

theorem faultRecoveryClearBody_keeps {c : Cmd} {s : State} (hs : State.Keeps pq s) :
    Res.Keeps pq (faultRecoveryClearBody c s) := by
  unfold faultRecoveryClearBody
  repeat' first | with_reducible assumption | (with_reducible first | apply need_keeps | apply State.wr_keeps | apply Res.refuse_keeps | apply Res.done_keeps | apply Res.later_keeps | apply Res.wait_keeps)

theorem faultInjectBody_keeps {c : Cmd} {s : State} (hs : State.Keeps pq s) :
    Res.Keeps pq (faultInjectBody c s) := by
  unfold faultInjectBody
  repeat' first | with_reducible assumption | (intro _) | (with_reducible first | apply need_keeps | apply State.raise_keeps | apply Res.refuse_keeps | apply Res.done_keeps | apply Res.later_keeps | apply Res.wait_keeps) | split | (dsimp only; split) | (with_reducible apply State.upd_keeps)

/-! ## Machine/SwitchCmds.lean -/

theorem bufferAuditSnapshot_keeps {t : Nat} {total : Nat} {s : State} (hs : State.Keeps pq s) :
    State.Keeps pq (bufferAuditSnapshot t total s) := by
  unfold bufferAuditSnapshot
  repeat' first | with_reducible assumption | (with_reducible first | apply State.at__keeps | apply State.auditSnapshot_keeps | apply State.sysFault_keeps | apply State.requestAct_keeps | apply State.act_keeps | apply ite_keeps)

theorem reclaimSweepComplete_keeps {t : Nat} {returned : Nat} {s : State} (hs : State.Keeps pq s) :
    State.Keeps pq (reclaimSweepComplete t returned s) := by
  unfold reclaimSweepComplete
  repeat' first | with_reducible assumption | (with_reducible first | apply State.at__keeps | apply State.sat_keeps | apply State.trig_keeps | apply State.endRun_keeps | apply ite_keeps)

theorem swcPortStatusBody_keeps {c : Cmd} {s : State} (hs : State.Keeps pq s) :
    Res.Keeps pq (swcPortStatusBody c s) := by
  unfold swcPortStatusBody
  repeat' first | with_reducible assumption | (with_reducible first | apply need_keeps | apply Res.refuse_keeps | apply Res.done_keeps | apply Res.later_keeps | apply Res.wait_keeps) | split | (dsimp only; split)

theorem swcPortConfigBody_keeps {c : Cmd} {s : State} (hs : State.Keeps pq s) :
    Res.Keeps pq (swcPortConfigBody c s) := by
  unfold swcPortConfigBody
  repeat' first | with_reducible assumption | (with_reducible first | apply need_keeps | apply State.configure_keeps | apply Res.refuse_keeps | apply Res.done_keeps | apply Res.later_keeps | apply Res.wait_keeps)

theorem swcQueueConfigBody_keeps {c : Cmd} {s : State} (hs : State.Keeps pq s) :
    Res.Keeps pq (swcQueueConfigBody c s) := by
  unfold swcQueueConfigBody
  repeat' first | with_reducible assumption | (intro _) | (with_reducible first | apply need_keeps | apply State.configure_keeps | apply Res.refuse_keeps | apply Res.done_keeps | apply Res.later_keeps | apply Res.wait_keeps | apply res_ite_keeps | apply ite_keeps) | split | (dsimp only; split)

theorem swcQueueStatusBody_keeps {c : Cmd} {s : State} (hs : State.Keeps pq s) :
    Res.Keeps pq (swcQueueStatusBody c s) := by
  unfold swcQueueStatusBody
  repeat' first | with_reducible assumption | (intro _) | (with_reducible first | apply need_keeps | apply Res.refuse_keeps | apply Res.done_keeps | apply Res.later_keeps | apply Res.wait_keeps) | split | (dsimp only; split)

theorem swcCountersBody_keeps {c : Cmd} {s : State} (hs : State.Keeps pq s) :
    Res.Keeps pq (swcCountersBody c s) := by
  unfold swcCountersBody
  repeat' first | with_reducible assumption | (intro _) | (with_reducible first | apply need_keeps | apply State.answerRange_keeps | apply Res.refuse_keeps | apply Res.done_keeps | apply Res.later_keeps | apply Res.wait_keeps | apply res_ite_keeps | apply ite_keeps) | split | (dsimp only; split)

theorem swcFdbSetBody_keeps {c : Cmd} {s : State} (hs : State.Keeps pq s) :
    Res.Keeps pq (swcFdbSetBody c s) := by
  unfold swcFdbSetBody
  repeat' first | with_reducible assumption | (with_reducible first | apply need_keeps | apply State.setFdb_keeps | apply Res.refuse_keeps | apply Res.done_keeps | apply Res.later_keeps | apply Res.wait_keeps | apply res_ite_keeps | apply ite_keeps) | split | (dsimp only; split) | (with_reducible apply State.upd_keeps)

theorem swcFdbReadBody_keeps {c : Cmd} {s : State} (hs : State.Keeps pq s) :
    Res.Keeps pq (swcFdbReadBody c s) := by
  unfold swcFdbReadBody
  repeat' first | with_reducible assumption | (intro _) | (with_reducible first | apply need_keeps | apply State.take_keeps | apply State.putBuf_keeps | apply Res.refuse_keeps | apply Res.done_keeps | apply Res.later_keeps | apply Res.wait_keeps) | split | (dsimp only; split)

theorem swcVlanConfigBody_keeps {c : Cmd} {s : State} (hs : State.Keeps pq s) :
    Res.Keeps pq (swcVlanConfigBody c s) := by
  unfold swcVlanConfigBody
  repeat' first | with_reducible assumption | (intro _) | (with_reducible first | apply need_keeps | apply State.learn_keeps | apply Res.refuse_keeps | apply Res.done_keeps | apply Res.later_keeps | apply Res.wait_keeps | apply res_ite_keeps | apply ite_keeps | apply State.upd_keeps)

theorem swcPolicerBody_keeps {c : Cmd} {s : State} (hs : State.Keeps pq s) :
    Res.Keeps pq (swcPolicerBody c s) := by
  unfold swcPolicerBody
  repeat' first | with_reducible assumption | (with_reducible first | apply need_keeps | apply State.at__keeps | apply Res.refuse_keeps | apply Res.done_keeps | apply Res.later_keeps | apply Res.wait_keeps | apply State.upd_keeps)

theorem State.putSa_keeps {s : State} {p : Nat} {a : Sa} (hs : State.Keeps pq s) :
    State.Keeps pq (State.putSa s p a) := by
  unfold State.putSa
  repeat' first | with_reducible assumption | (intro _) | (with_reducible first | apply State.setSwPort_keeps | apply State.trig_keeps | apply ite_keeps | apply State.upd_keeps)

theorem swcMacsecSaBody_keeps {c : Cmd} {s : State} (hs : State.Keeps pq s) :
    Res.Keeps pq (swcMacsecSaBody c s) := by
  unfold swcMacsecSaBody
  repeat' first | with_reducible assumption | (intro _) | (with_reducible first | apply need_keeps | apply State.putSa_keeps | apply Res.refuse_keeps | apply Res.done_keeps | apply Res.later_keeps | apply Res.wait_keeps) | split | (dsimp only; split)

theorem swcAuditBody_keeps {c : Cmd} {s : State} (hs : State.Keeps pq s) :
    Res.Keeps pq (swcAuditBody c s) := by
  unfold swcAuditBody
  repeat' first | with_reducible assumption | (with_reducible first | apply need_keeps | apply State.commandAct_keeps | apply Res.refuse_keeps | apply Res.done_keeps | apply Res.later_keeps | apply Res.wait_keeps | apply res_ite_keeps | apply ite_keeps) | split | (dsimp only; split)

/-! ## Machine/FastAct.lean -/

theorem State.faQueue_keeps {s : State} {snd : Nat} {tIn : Nat} {b : List Byte} {o : Nat} (hs : State.Keeps pq s) :
    State.Keeps pq (State.faQueue s snd tIn b o).2 := by
  unfold State.faQueue
  repeat' first | with_reducible assumption | (with_reducible first | apply ite_snd_keeps | apply ite_snd2_keeps | apply State.draw_keeps | apply State.at__keeps | apply State.placeEdge_keeps | apply ite_keeps)

theorem State.faEntries_keeps {snd tIn : Nat} {b : List Byte} {xs : List Nat} : ∀ {s : State}, State.Keeps pq s →
    State.Keeps pq (State.faEntries s snd tIn b xs).2 := by
  induction xs with
  | nil => intro s hs; exact hs
  | cons o l ih => intro s hs; exact ih (State.faQueue_keeps hs)

theorem State.faRun_keeps {s : State} {tIn : Nat} {b : List Byte} (hs : State.Keeps pq s) :
    State.Keeps pq (State.faRun s tIn b).2 := by
  unfold State.faRun
  repeat' first | with_reducible assumption | (with_reducible first | apply ite_snd_keeps | apply ite_snd2_keeps) | (intro _) | (with_reducible first | apply State.faEntries_keeps | apply State.count_keeps | apply ite_keeps)

theorem faFrameArrival_keeps {t : Nat} {s : State} (hs : State.Keeps pq s) :
    State.Keeps pq (faFrameArrival t s) := by
  unfold faFrameArrival
  repeat' first | with_reducible assumption | (with_reducible first | apply State.swAt_keeps | apply State.faCount_keeps | apply State.setPair_keeps | apply State.faRun_keeps | apply State.sendFrom_keeps | apply ite_keeps) | split | (dsimp only; split) | (with_reducible apply State.upd_keeps)

/-! ## Machine/TimeSrc.lean -/

theorem State.slew_keeps {s : State} {off : Int} (hs : State.Keeps pq s) :
    State.Keeps pq (State.slew s off) := by
  unfold State.slew
  repeat' first | with_reducible assumption | (with_reducible first | apply State.wrb_keeps | apply State.setWord_keeps | apply State.draw_keeps | apply State.wr_keeps | apply ite_keeps | apply State.upd_keeps)

theorem State.measureSource_keeps {s : State} {off : Int} (hs : State.Keeps pq s) :
    State.Keeps pq (State.measureSource s off) := by
  unfold State.measureSource
  repeat' first | with_reducible assumption | (with_reducible first | apply State.wr_keeps | apply State.slew_keeps | apply State.wrb_keeps | apply State.sysFault_keeps | apply ite_keeps | apply State.upd_keeps)

theorem sourceMeasurement_keeps {t : Nat} {off : Int} {s : State} (hs : State.Keeps pq s) :
    State.Keeps pq (sourceMeasurement t off s) := by
  unfold sourceMeasurement
  repeat' first | with_reducible assumption | (with_reducible first | apply State.at__keeps | apply State.measureSource_keeps | apply ite_keeps)

theorem sourceLoss_keeps {t : Nat} {s : State} (hs : State.Keeps pq s) :
    State.Keeps pq (sourceLoss t s) := by
  unfold sourceLoss
  repeat' first | with_reducible assumption | (with_reducible first | apply State.at__keeps | apply State.wr_keeps | apply ite_keeps)

/-! ## Machine/GptpFn.lean -/

theorem State.setGptp_keeps {s : State} {i : Nat} {g : Gptp} (hs : State.Keeps pq s) :
    State.Keeps pq (State.setGptp s i g) := by
  unfold State.setGptp
  repeat' first | with_reducible assumption | (with_reducible apply State.upd_keeps)

theorem State.setGport_keeps {s : State} {i : Nat} {p : Nat} {g : GptpPort} (hs : State.Keeps pq s) :
    State.Keeps pq (State.setGport s i p g) := by
  unfold State.setGport
  repeat' first | with_reducible assumption | (with_reducible apply State.upd_keeps)

theorem State.gptpMsg_keeps {s : State} {i : Nat} {p : Nat} {y0 : GptpMsg} (hs : State.Keeps pq s) :
    State.Keeps pq (State.gptpMsg s i p y0) := by
  unfold State.gptpMsg
  repeat' first | with_reducible assumption | (with_reducible first | apply State.setGptp_keeps | apply State.measureSource_keeps | apply State.setGport_keeps | apply ite_keeps) | split | (dsimp only; split) | (with_reducible apply State.upd_keeps)

theorem gptpMessageReceive_keeps {t : Nat} {i : Nat} {p : Nat} {len : Nat} {m : GptpMsg} {s : State} (hs : State.Keeps pq s) :
    State.Keeps pq (gptpMessageReceive t i p len m s) := by
  unfold gptpMessageReceive
  repeat' first | with_reducible assumption | (with_reducible first | apply State.at__keeps | apply State.count_keeps | apply State.setGport_keeps | apply State.gptpMsg_keeps | apply ite_keeps | apply State.upd_keeps)

theorem gptpMessageInterval_keeps {t : Nat} {i : Nat} {p : Nat} {len : Nat} {s : State} (hs : State.Keeps pq s) :
    State.Keeps pq (gptpMessageInterval t i p len s) := by
  unfold gptpMessageInterval
  repeat' first | with_reducible assumption | (with_reducible first | apply State.at__keeps | apply State.count_keeps | apply State.setGport_keeps | apply State.follow_keeps | apply ite_keeps | apply State.upd_keeps)

/-! ## Machine/TsnCmds.lean -/

theorem tsnGclSetBody_keeps {c : Cmd} {s : State} (hs : State.Keeps pq s) :
    Res.Keeps pq (tsnGclSetBody c s) := by
  unfold tsnGclSetBody
  repeat' first | with_reducible assumption | (intro _) | (with_reducible first | apply need_keeps | apply State.setGates_keeps | apply State.wrb_keeps | apply Res.refuse_keeps | apply Res.done_keeps | apply Res.later_keeps | apply Res.wait_keeps | apply res_ite_keeps | apply ite_keeps) | split | (dsimp only; split) | (with_reducible apply State.upd_keeps)

theorem tsnGclStatusBody_keeps {c : Cmd} {s : State} (hs : State.Keeps pq s) :
    Res.Keeps pq (tsnGclStatusBody c s) := by
  unfold tsnGclStatusBody
  repeat' first | with_reducible assumption | (intro _) | (with_reducible first | apply need_keeps | apply Res.refuse_keeps | apply Res.done_keeps | apply Res.later_keeps | apply Res.wait_keeps | apply res_ite_keeps | apply ite_keeps) | split | (dsimp only; split)

theorem State.setSlope_keeps {s : State} {p : Nat} {c : Nat} {w : Nat} (hs : State.Keeps pq s) :
    State.Keeps pq (State.setSlope s p c w) := by
  unfold State.setSlope
  repeat' first | with_reducible assumption | (with_reducible first | apply State.takeSlopes_keeps | apply ite_keeps | apply State.upd_keeps)

theorem tsnShaperConfigBody_keeps {c : Cmd} {s : State} (hs : State.Keeps pq s) :
    Res.Keeps pq (tsnShaperConfigBody c s) := by
  unfold tsnShaperConfigBody
  repeat' first | with_reducible assumption | (intro _) | (with_reducible first | apply need_keeps | apply State.credits_keeps | apply State.setSlope_keeps | apply Res.refuse_keeps | apply Res.done_keeps | apply Res.later_keeps | apply Res.wait_keeps | apply res_ite_keeps | apply ite_keeps)

theorem tsnPreemptConfigBody_keeps {c : Cmd} {s : State} (hs : State.Keeps pq s) :
    Res.Keeps pq (tsnPreemptConfigBody c s) := by
  unfold tsnPreemptConfigBody
  repeat' first | with_reducible assumption | (with_reducible first | apply need_keeps | apply State.configure_keeps | apply Res.refuse_keeps | apply Res.done_keeps | apply Res.later_keeps | apply Res.wait_keeps)

theorem State.stageAll_keeps {s : State} {l : List (Fld × Nat)} (hs : State.Keeps pq s) :
    State.Keeps pq (State.stageAll s l).2 := by
  unfold State.stageAll
  repeat' first | with_reducible assumption | (with_reducible first | apply ite_snd_keeps | apply ite_snd2_keeps) | (intro _) | (with_reducible first | apply State.stage_keeps | apply foldS_keeps | apply ite_keeps)

theorem tsnStreamSetBody_keeps {c : Cmd} {s : State} (hs : State.Keeps pq s) :
    Res.Keeps pq (tsnStreamSetBody c s) := by
  unfold tsnStreamSetBody
  repeat' first | with_reducible assumption | (with_reducible first | apply need_keeps | apply State.setStream_keeps | apply State.stageAll_keeps | apply Res.refuse_keeps | apply Res.done_keeps | apply Res.later_keeps | apply Res.wait_keeps) | split | (dsimp only; split) | (with_reducible apply State.upd_keeps)

theorem tsnStreamStatusBody_keeps {c : Cmd} {s : State} (hs : State.Keeps pq s) :
    Res.Keeps pq (tsnStreamStatusBody c s) := by
  unfold tsnStreamStatusBody
  repeat' first | with_reducible assumption | (intro _) | (with_reducible first | apply need_keeps | apply Res.refuse_keeps | apply Res.done_keeps | apply Res.later_keeps | apply Res.wait_keeps) | split | (dsimp only; split)

theorem tsnFrerSetBody_keeps {c : Cmd} {s : State} (hs : State.Keeps pq s) :
    Res.Keeps pq (tsnFrerSetBody c s) := by
  unfold tsnFrerSetBody
  repeat' first | with_reducible assumption | (with_reducible first | apply need_keeps | apply State.stageAll_keeps | apply Res.refuse_keeps | apply Res.done_keeps | apply Res.later_keeps | apply Res.wait_keeps)

theorem tsnGptpStatusBody_keeps {c : Cmd} {s : State} (hs : State.Keeps pq s) :
    Res.Keeps pq (tsnGptpStatusBody c s) := by
  unfold tsnGptpStatusBody
  repeat' first | with_reducible assumption | (with_reducible first | apply need_keeps | apply Res.refuse_keeps | apply Res.done_keeps | apply Res.later_keeps | apply Res.wait_keeps)

theorem faSenderSetBody_keeps {c : Cmd} {s : State} (hs : State.Keeps pq s) :
    Res.Keeps pq (faSenderSetBody c s) := by
  unfold faSenderSetBody
  repeat' first | with_reducible assumption | (with_reducible first | apply need_keeps | apply State.stageAll_keeps | apply Res.refuse_keeps | apply Res.done_keeps | apply Res.later_keeps | apply Res.wait_keeps)

theorem faStatusBody_keeps {c : Cmd} {s : State} (hs : State.Keeps pq s) :
    Res.Keeps pq (faStatusBody c s) := by
  unfold faStatusBody
  repeat' first | with_reducible assumption | (intro _) | (with_reducible first | apply need_keeps | apply Res.refuse_keeps | apply Res.done_keeps | apply Res.later_keeps | apply Res.wait_keeps | apply res_ite_keeps | apply ite_keeps) | split | (dsimp only; split)

/-! ## Machine/ConfigSet.lean -/

theorem State.repairCopy_keeps {s : State} {target : Nat} (hs : State.Keeps pq s) :
    State.Keeps pq (State.repairCopy s target) := by
  have hf : ∀ (xs : List Host.Cell) (m : List Host.Cell), Memory.wf m = true →
      Memory.wf (foldS xs (fun c m => Memory.put (copyBase target + c.1) c.2 m) m) = true := by
    intro xs
    induction xs with
    | nil => intro m hm; exact hm
    | cons x xs ih => intro m hm; exact ih _ (Memory.put_wf _ _ hm)
  exact ⟨hf _ _ (Memory.zero_wf _ _ hs.1), hs.2⟩

theorem State.copyGens_keeps {s : State} (hs : State.Keeps pq s) :
    State.Keeps pq (State.copyGens s) := by
  unfold State.copyGens
  repeat' first | with_reducible assumption | (with_reducible first | apply State.setWord_keeps | apply ite_keeps)

theorem State.compareCopies_keeps {s : State} (hs : State.Keeps pq s) :
    State.Keeps pq (State.compareCopies s) := by
  unfold State.compareCopies
  repeat' first | with_reducible assumption | (with_reducible first | apply State.wr_keeps | apply State.copyGens_keeps | apply State.sat_keeps | apply State.repairCopy_keeps | apply State.sysFault_keeps | apply ite_keeps) | split | (dsimp only; split) | (with_reducible apply State.upd_keeps)

theorem configCopyCompare_keeps {t : Nat} {s : State} (hs : State.Keeps pq s) :
    State.Keeps pq (configCopyCompare t s) := by
  unfold configCopyCompare
  repeat' first | with_reducible assumption | (with_reducible first | apply State.at__keeps | apply State.stage_keeps | apply State.compareCopies_keeps | apply ite_keeps)

theorem State.trial_keeps {s : State} {c : CfgSet} (hs : State.Keeps pq s) :
    State.Keeps pq (State.trial s c) := by
  unfold State.trial
  repeat' first | with_reducible assumption | (with_reducible apply State.upd_keeps)

theorem State.withRecs_keeps {s : State} {l : List Rec} (hs : State.Keeps pq s) :
    State.Keeps pq (State.withRecs s l) := by
  unfold State.withRecs
  repeat' first | with_reducible assumption | (with_reducible first | apply foldS_keeps | apply State.upd_keeps)

theorem State.writeRecs_keeps {s : State} {l : List Rec} {p : Nat → Bool} (hs : State.Keeps pq s) :
    State.Keeps pq (State.writeRecs s l p) := by
  unfold State.writeRecs
  repeat' first | with_reducible assumption | (intro _) | (with_reducible first | apply State.setWord_keeps | apply foldS_keeps)

theorem State.startOverlay_keeps {s : State} {fab : Bool} (hs : State.Keeps pq s) :
    State.Keeps pq (State.startOverlay s fab) := by
  unfold State.startOverlay
  repeat' first | with_reducible assumption | (intro _) | (with_reducible first | apply State.applyBaseOn_keeps | apply State.applyOwn_keeps | apply State.wr_keeps) | split | (dsimp only; split) | (with_reducible apply State.upd_keeps)

theorem State.markGw_keeps {s : State} {t : Tables} (hs : State.Keeps pq s) :
    State.Keeps pq (State.markGw s t) := by
  unfold State.markGw
  repeat' first | with_reducible assumption | (intro _) | (with_reducible first | apply State.wrb_keeps | apply foldS_keeps | apply ite_keeps)

theorem State.loadTables_keeps {s : State} {t : Tables} (hs : State.Keeps pq s) :
    State.Keeps pq (State.loadTables s t) := by
  unfold State.loadTables
  repeat' first | with_reducible assumption | (intro _) | (with_reducible first | apply State.markGw_keeps | apply State.setSwPort_keeps | apply State.at__keeps | apply State.setSlot_keeps | apply foldS_keeps | apply ite_keeps | apply State.upd_keeps)

theorem State.startCan_keeps {s : State} {c : Nat} (hs : State.Keeps pq s) :
    State.Keeps pq (State.startCan s c) := by
  unfold State.startCan
  repeat' first | with_reducible assumption | (with_reducible first | apply State.wr_keeps | apply State.canMode_keeps | apply ite_keeps)

theorem State.loadSet_keeps {s : State} {c : CfgSet} (hs : State.Keeps pq s) :
    State.Keeps pq (State.loadSet s c) := by
  unfold State.loadSet
  repeat' first | with_reducible assumption | (intro _) | (with_reducible first | apply State.writeRecs_keeps | apply State.loadTables_keeps | apply State.startOverlay_keeps | apply State.startCan_keeps | apply State.setWord_keeps | apply State.wr_keeps | apply foldS_keeps | apply ite_keeps) | split | (dsimp only; split) | (with_reducible apply State.upd_keeps)

theorem State.fabricAtLock_keeps {s : State} (hs : State.Keeps pq s) :
    State.Keeps pq (State.fabricAtLock s) := by
  unfold State.fabricAtLock
  repeat' first | with_reducible assumption | (intro _) | (with_reducible first | apply State.setWord_keeps | apply State.applyBaseOn_keeps | apply State.wrb_keeps | apply foldS_keeps | apply ite_keeps | apply State.upd_keeps)

theorem State.withLocked_keeps {s : State} {x : Nat} (hs : State.Keeps pq s) :
    State.Keeps pq (State.withLocked s x) := by
  unfold State.withLocked
  repeat' first | with_reducible assumption | (intro _) | (with_reducible first | apply State.setWord_keeps | apply foldS_keeps)

theorem State.takeLocked_keeps {s : State} {x : Nat} (hs : State.Keeps pq s) :
    State.Keeps pq (State.takeLocked s x) := by
  unfold State.takeLocked
  repeat' first | with_reducible assumption | (intro _) | (with_reducible first | apply State.withLocked_keeps | apply State.wrb_keeps | apply State.requestAct_keeps | apply State.act_keeps | apply ite_keeps | apply State.upd_keeps)

theorem State.lockCheck_keeps {s : State} (hs : State.Keeps pq s) :
    State.Keeps pq (State.lockCheck s) := by
  unfold State.lockCheck
  repeat' first | with_reducible assumption | (intro _) | (with_reducible first | apply State.takeLocked_keeps | apply foldS_keeps)

/-! ## Machine/KeyCmds.lean -/

theorem State.notLocked_keeps {s : State} {k : Res} (hs : State.Keeps pq s) (hk : Res.Keeps pq k) :
    Res.Keeps pq (State.notLocked s k) := by
  unfold State.notLocked
  repeat' first | with_reducible assumption | (with_reducible first | apply need_keeps | apply Res.refuse_keeps | apply Res.done_keeps | apply Res.later_keeps | apply Res.wait_keeps)

theorem keyStatusBody_keeps {c : Cmd} {s : State} (hs : State.Keeps pq s) :
    Res.Keeps pq (keyStatusBody c s) := by
  unfold keyStatusBody
  repeat' first | with_reducible assumption | (with_reducible first | apply need_keeps | apply Res.refuse_keeps | apply Res.done_keeps | apply Res.later_keeps | apply Res.wait_keeps | apply res_ite_keeps | apply ite_keeps) | split | (dsimp only; split)

theorem State.putShadow_keeps {s : State} {k : Nat} {v : List Byte} (hs : State.Keeps pq s) :
    Res.Keeps pq (State.putShadow s k v) := by
  unfold State.putShadow
  repeat' first | with_reducible assumption | (with_reducible first | apply State.setSlot_keeps | apply State.wrb_keeps | apply Res.refuse_keeps | apply Res.done_keeps | apply Res.later_keeps | apply Res.wait_keeps | apply State.upd_keeps)

theorem keyDeriveBody_keeps {c : Cmd} {s : State} (hs : State.Keeps pq s) :
    Res.Keeps pq (keyDeriveBody c s) := by
  unfold keyDeriveBody
  repeat' first | with_reducible assumption | (intro _) | (with_reducible first | apply need_keeps | apply State.notLocked_keeps | apply State.putShadow_keeps | apply Res.refuse_keeps | apply Res.done_keeps | apply Res.later_keeps | apply Res.wait_keeps)

theorem keyImportBody_keeps {c : Cmd} {s : State} (hs : State.Keeps pq s) :
    Res.Keeps pq (keyImportBody c s) := by
  unfold keyImportBody
  repeat' first | with_reducible assumption | (with_reducible first | apply need_keeps | apply State.putShadow_keeps | apply Res.refuse_keeps | apply Res.done_keeps | apply Res.later_keeps | apply Res.wait_keeps) | split | (dsimp only; split)

theorem keyCommitBody_keeps {c : Cmd} {s : State} (hs : State.Keeps pq s) :
    Res.Keeps pq (keyCommitBody c s) := by
  unfold keyCommitBody
  repeat' first | with_reducible assumption | (with_reducible first | apply need_keeps | apply State.notLocked_keeps | apply State.commitKey_keeps | apply State.setSlot_keeps | apply Res.refuse_keeps | apply Res.done_keeps | apply Res.later_keeps | apply Res.wait_keeps | apply res_ite_keeps | apply ite_keeps | apply State.upd_keeps)

theorem keyDiscardBody_keeps {c : Cmd} {s : State} (hs : State.Keeps pq s) :
    Res.Keeps pq (keyDiscardBody c s) := by
  unfold keyDiscardBody
  repeat' first | with_reducible assumption | (with_reducible first | apply need_keeps | apply State.notLocked_keeps | apply State.setSlot_keeps | apply State.wrb_keeps | apply Res.refuse_keeps | apply Res.done_keeps | apply Res.later_keeps | apply Res.wait_keeps | apply State.upd_keeps)

theorem keyRevokeBody_keeps {c : Cmd} {s : State} (hs : State.Keeps pq s) :
    Res.Keeps pq (keyRevokeBody c s) := by
  unfold keyRevokeBody
  repeat' first | with_reducible assumption | (with_reducible first | apply need_keeps | apply State.notLocked_keeps | apply State.revokeKey_keeps | apply Res.refuse_keeps | apply Res.done_keeps | apply Res.later_keeps | apply Res.wait_keeps)

theorem keyOpBody_keeps {c : Cmd} {s : State} (hs : State.Keeps pq s) :
    Res.Keeps pq (keyOpBody c s) := by
  unfold keyOpBody
  repeat' first | with_reducible assumption | (with_reducible first | apply need_keeps | apply State.notLocked_keeps | apply Res.refuse_keeps | apply Res.done_keeps | apply Res.later_keeps | apply Res.wait_keeps | apply res_ite_keeps | apply ite_keeps) | split | (dsimp only; split)

theorem keyAttestBody_keeps {c : Cmd} {s : State} (hs : State.Keeps pq s) :
    Res.Keeps pq (keyAttestBody c s) := by
  unfold keyAttestBody
  repeat' first | with_reducible assumption | (with_reducible first | apply need_keeps | apply State.putBuf_keeps | apply Res.refuse_keeps | apply Res.done_keeps | apply Res.later_keeps | apply Res.wait_keeps)

theorem State.drbg_keeps {n : Nat} : ∀ {s : State}, State.Keeps pq s → State.Keeps pq (State.drbg s n).2 := by
  induction n with
  | zero => intro s hs; exact hs
  | succ n ih => intro s hs; exact ih (State.draw_keeps hs)

theorem keyRandomBody_keeps {c : Cmd} {s : State} (hs : State.Keeps pq s) :
    Res.Keeps pq (keyRandomBody c s) := by
  unfold keyRandomBody
  repeat' first | with_reducible assumption | (with_reducible first | apply need_keeps | apply State.notLocked_keeps | apply State.drbg_keeps | apply Res.refuse_keeps | apply Res.done_keeps | apply Res.later_keeps | apply Res.wait_keeps)

theorem tamperStatusBody_keeps {c : Cmd} {s : State} (hs : State.Keeps pq s) :
    Res.Keeps pq (tamperStatusBody c s) := by
  unfold tamperStatusBody
  repeat' first | with_reducible assumption | (intro _) | (with_reducible first | apply need_keeps | apply Res.refuse_keeps | apply Res.done_keeps | apply Res.later_keeps | apply Res.wait_keeps) | split | (dsimp only; split)

theorem tamperClearBody_keeps {c : Cmd} {s : State} (hs : State.Keeps pq s) :
    Res.Keeps pq (tamperClearBody c s) := by
  unfold tamperClearBody
  repeat' first | with_reducible assumption | (with_reducible first | apply need_keeps | apply State.wr_keeps | apply State.lockState_keeps | apply State.draw_keeps | apply Res.refuse_keeps | apply Res.done_keeps | apply Res.later_keeps | apply Res.wait_keeps | apply res_ite_keeps | apply ite_keeps)

/-! ## Machine/Overlays.lean -/

theorem State.clearSwitch_keeps {s : State} (hs : State.Keeps pq s) :
    State.Keeps pq (State.clearSwitch s) := by
  unfold State.clearSwitch
  repeat' first | with_reducible assumption | (with_reducible first | apply State.wrb_keeps | apply State.wr_keeps | apply State.upd_keeps)

theorem overlayCutoff_keeps {t : Nat} {s : State} (hs : State.Keeps pq s) :
    State.Keeps pq (overlayCutoff t s) := by
  unfold overlayCutoff
  repeat' first | with_reducible assumption | (with_reducible first | apply State.at__keeps | apply ite_keeps) | split | (dsimp only; split) | (with_reducible apply State.upd_keeps)

theorem State.endSession_keeps {s : State} (hs : State.Keeps pq s) :
    State.Keeps pq (State.endSession s) := by
  unfold State.endSession
  repeat' first | with_reducible assumption | (with_reducible first | apply State.wrb_keeps | apply State.checkHold_keeps | apply ite_keeps | apply State.upd_keeps)

theorem State.usePending_keeps {s : State} {cut : List (Fld × Nat)} (hs : State.Keeps pq s) :
    State.Keeps pq (State.usePending s cut) := by
  unfold State.usePending
  repeat' first | with_reducible assumption | (intro _) | (with_reducible first | apply State.wr_keeps | apply State.upd_keeps)

theorem State.wakeOutMode_keeps {s : State} (hs : State.Keeps pq s) :
    State.Keeps pq (State.wakeOutMode s) := by
  unfold State.wakeOutMode
  repeat' first | with_reducible assumption | (with_reducible first | apply ite_keeps | apply State.upd_keeps)

theorem State.doSwitch_keeps {s : State} {p : SwitchPend} {late : Bool} (hs : State.Keeps pq s) :
    State.Keeps pq (State.doSwitch s p late) := by
  unfold State.doSwitch
  repeat' first | with_reducible assumption | (intro _) | (with_reducible first | apply State.applySwitch_keeps | apply State.usePending_keeps | apply State.wakeOutMode_keeps | apply State.at__keeps | apply State.clearSwitch_keeps | apply State.wrb_keeps | apply State.gwyDiscard_keeps | apply State.endSession_keeps | apply State.answerAt_keeps | apply State.checkHold_keeps | apply foldS_keeps | apply ite_keeps)

theorem overlaySwitchInstant_keeps {t : Nat} {s : State} (hs : State.Keeps pq s) :
    State.Keeps pq (overlaySwitchInstant t s) := by
  unfold overlaySwitchInstant
  repeat' first | with_reducible assumption | (with_reducible first | apply State.at__keeps | apply State.doSwitch_keeps | apply ite_keeps) | split | (dsimp only; split) | (with_reducible apply State.upd_keeps)

theorem overlayAlignTimeout_keeps {t : Nat} {s : State} (hs : State.Keeps pq s) :
    State.Keeps pq (overlayAlignTimeout t s) := by
  unfold overlayAlignTimeout
  repeat' first | with_reducible assumption | (intro _) | (with_reducible first | apply State.at__keeps | apply State.answer_keeps | apply State.clearSwitch_keeps | apply foldS_keeps | apply ite_keeps) | split | (dsimp only; split)

theorem serviceSessionExpiry_keeps {t : Nat} {s : State} (hs : State.Keeps pq s) :
    State.Keeps pq (serviceSessionExpiry t s) := by
  unfold serviceSessionExpiry
  repeat' first | with_reducible assumption | (with_reducible first | apply State.at__keeps | apply State.endSession_keeps | apply ite_keeps) | split | (dsimp only; split)

theorem State.testFailed_keeps {s : State} {x : Nat} {n : Nat} (hs : State.Keeps pq s) :
    State.Keeps pq (State.testFailed s x n) := by
  unfold State.testFailed
  repeat' first | with_reducible assumption | (intro _) | (with_reducible first | apply State.modObj_keeps | apply State.latch_keeps | apply State.upd_keeps)

theorem State.activityEnd_keeps {s : State} {m : MaintRun} {failed : List Nat} {trims : List (Nat × Int)} (hs : State.Keeps pq s) :
    State.Keeps pq (State.activityEnd s m failed trims) := by
  unfold State.activityEnd
  repeat' first | with_reducible assumption | (intro _) | (with_reducible first | apply State.act_keeps | apply State.releaseProbe_keeps | apply State.testFailed_keeps | apply State.modObj_keeps | apply State.unprobe_keeps | apply foldS_keeps | apply ite_keeps | apply State.upd_keeps)

theorem State.chainNext_keeps {s : State} {m : MaintRun} (hs : State.Keeps pq s) :
    State.Keeps pq (State.chainNext s m) := by
  unfold State.chainNext
  repeat' first | with_reducible assumption | (with_reducible first | apply State.act_keeps | apply State.requestAct_keeps | apply State.count_keeps | apply ite_keeps)

theorem maintActivityComplete_keeps {t : Nat} {act : Nat} {failed : List Nat} {trims : List (Nat × Int)} {s : State} (hs : State.Keeps pq s) :
    State.Keeps pq (maintActivityComplete t act failed trims s) := by
  unfold maintActivityComplete
  repeat' first | with_reducible assumption | (intro _) | (with_reducible first | apply State.at__keeps | apply State.act_keeps | apply State.activityEnd_keeps | apply State.endRun_keeps | apply State.chainNext_keeps | apply State.checkHold_keeps | apply ite_keeps) | split | (dsimp only; split)

theorem maintWaitLimit_keeps {t : Nat} {s : State} (hs : State.Keeps pq s) :
    State.Keeps pq (maintWaitLimit t s) := by
  unfold maintWaitLimit
  repeat' first | with_reducible assumption | (intro _) | (with_reducible first | apply State.at__keeps | apply State.arbitrate_keeps | apply ite_keeps | apply State.upd_keeps)

theorem scrubDue_keeps {t : Nat} {s : State} (hs : State.Keeps pq s) :
    State.Keeps pq (scrubDue t s) := by
  unfold scrubDue
  repeat' first | with_reducible assumption | (with_reducible first | apply State.at__keeps | apply State.periodicAct_keeps | apply ite_keeps | apply State.upd_keeps)

theorem lbistDue_keeps {t : Nat} {s : State} (hs : State.Keeps pq s) :
    State.Keeps pq (lbistDue t s) := by
  unfold lbistDue
  repeat' first | with_reducible assumption | (with_reducible first | apply State.at__keeps | apply State.periodicAct_keeps | apply ite_keeps | apply State.upd_keeps)

theorem configStatusBody_keeps {x0 : Cmd} {s : State} (hs : State.Keeps pq s) :
    Res.Keeps pq (configStatusBody x0 s) := by
  unfold configStatusBody
  repeat' first | with_reducible assumption | (with_reducible first | apply State.at__keeps | apply Res.refuse_keeps | apply Res.done_keeps | apply Res.later_keeps | apply Res.wait_keeps) | split | (dsimp only; split)

theorem State.pendSwitch_keeps {s : State} {taken : Nat} {commit : Bool} {ovl : Nat} {at_ : Nat} (hs : State.Keeps pq s) :
    Res.Keeps pq (State.pendSwitch s taken commit ovl at_) := by
  unfold State.pendSwitch
  repeat' first | with_reducible assumption | (with_reducible first | apply State.at__keeps | apply State.wrb_keeps | apply State.wr_keeps | apply Res.refuse_keeps | apply Res.done_keeps | apply Res.later_keeps | apply Res.wait_keeps | apply res_ite_keeps | apply ite_keeps | apply State.upd_keeps)

theorem overlaySwitchBody_keeps {c : Cmd} {s : State} (hs : State.Keeps pq s) :
    Res.Keeps pq (overlaySwitchBody c s) := by
  unfold overlaySwitchBody
  repeat' first | with_reducible assumption | (with_reducible first | apply need_keeps | apply State.pendSwitch_keeps | apply Res.refuse_keeps | apply Res.done_keeps | apply Res.later_keeps | apply Res.wait_keeps | apply res_ite_keeps | apply ite_keeps) | split | (dsimp only; split)

theorem configCommitBody_keeps {c : Cmd} {s : State} (hs : State.Keeps pq s) :
    Res.Keeps pq (configCommitBody c s) := by
  unfold configCommitBody
  repeat' first | with_reducible assumption | (with_reducible first | apply need_keeps | apply State.pendSwitch_keeps | apply Res.refuse_keeps | apply Res.done_keeps | apply Res.later_keeps | apply Res.wait_keeps | apply res_ite_keeps | apply ite_keeps)

theorem State.freshNonce_keeps {s : State} (hs : State.Keeps pq s) :
    State.Keeps pq (State.freshNonce s) := by
  unfold State.freshNonce
  repeat' first | with_reducible assumption | (with_reducible first | apply State.draw_keeps | apply State.upd_keeps)

theorem State.svcFailed_keeps {s : State} (hs : State.Keeps pq s) :
    State.Keeps pq (State.svcFailed s) := by
  unfold State.svcFailed
  repeat' first | with_reducible assumption | (with_reducible first | apply tamperSensorEvent_keeps | apply ite_keeps | apply State.upd_keeps)

theorem serviceOpenBody_keeps {c : Cmd} {s : State} (hs : State.Keeps pq s) :
    Res.Keeps pq (serviceOpenBody c s) := by
  unfold serviceOpenBody
  repeat' first | with_reducible assumption | (with_reducible first | apply need_keeps | apply State.wrb_keeps | apply State.freshNonce_keeps | apply State.svcFailed_keeps | apply Res.refuse_keeps | apply Res.done_keeps | apply Res.later_keeps | apply Res.wait_keeps | apply res_ite_keeps | apply ite_keeps | apply State.upd_keeps)

theorem serviceCloseBody_keeps {c : Cmd} {s : State} (hs : State.Keeps pq s) :
    Res.Keeps pq (serviceCloseBody c s) := by
  unfold serviceCloseBody
  repeat' first | with_reducible assumption | (with_reducible first | apply need_keeps | apply State.endSession_keeps | apply Res.refuse_keeps | apply Res.done_keeps | apply Res.later_keeps | apply Res.wait_keeps)

theorem maintRequestBody_keeps {c : Cmd} {s : State} (hs : State.Keeps pq s) :
    Res.Keeps pq (maintRequestBody c s) := by
  unfold maintRequestBody
  repeat' first | with_reducible assumption | (intro _) | (with_reducible first | apply State.count_keeps | apply need_keeps | apply State.commandAct_keeps | apply Res.refuse_keeps | apply Res.done_keeps | apply Res.later_keeps | apply Res.wait_keeps | apply res_ite_keeps | apply ite_keeps)

theorem maintStatusBody_keeps {x0 : Cmd} {s : State} (hs : State.Keeps pq s) :
    Res.Keeps pq (maintStatusBody x0 s) := by
  unfold maintStatusBody
  repeat' first | with_reducible assumption | (with_reducible first | apply Res.refuse_keeps | apply Res.done_keeps | apply Res.later_keeps | apply Res.wait_keeps)

theorem maintCancelBody_keeps {c : Cmd} {s : State} (hs : State.Keeps pq s) :
    Res.Keeps pq (maintCancelBody c s) := by
  unfold maintCancelBody
  repeat' first | with_reducible assumption | (intro _) | (with_reducible first | apply need_keeps | apply State.act_keeps | apply State.answerReq_keeps | apply State.maintStat_keeps | apply Res.refuse_keeps | apply Res.done_keeps | apply Res.later_keeps | apply Res.wait_keeps) | split | (dsimp only; split) | (with_reducible apply State.upd_keeps)

/-! ## Machine/Update.lean -/

theorem State.setUpd_keeps {s : State} {st : Nat} (hs : State.Keeps pq s) :
    State.Keeps pq (State.setUpd s st) := by
  unfold State.setUpd
  repeat' first | with_reducible assumption | (with_reducible first | apply State.wr_keeps | apply ite_keeps | apply State.upd_keeps)

theorem State.endUpd_keeps {s : State} {result : Nat} (hs : State.Keeps pq s) :
    State.Keeps pq (State.endUpd s result) := by
  unfold State.endUpd
  repeat' first | with_reducible assumption | (with_reducible first | apply State.setUpd_keeps | apply State.wr_keeps | apply State.wrb_keeps | apply State.setWord_keeps | apply State.setPair_keeps | apply State.upd_keeps)

theorem State.chunkCount_keeps {s : State} (hs : State.Keeps pq s) :
    State.Keeps pq (State.chunkCount s) := by
  unfold State.chunkCount
  repeat' first | with_reducible assumption | (intro _) | (with_reducible apply State.wr_keeps)

theorem State.journal_keeps {s : State} {jop : Nat} {img : Nat} {unit_ : Nat} (hs : State.Keeps pq s) :
    State.Keeps pq (State.journal s jop img unit_) := by
  unfold State.journal
  repeat' first | with_reducible assumption | (with_reducible first | apply State.wr_keeps | apply State.upd_keeps)

theorem State.packageOk_keeps {s : State} (hs : State.Keeps pq s) :
    State.Keeps pq (State.packageOk s) := by
  unfold State.packageOk
  repeat' first | with_reducible assumption | (with_reducible first | apply State.setUpd_keeps | apply State.stage_keeps | apply State.requestAct_keeps | apply State.act_keeps | apply ite_keeps | apply State.upd_keeps)

theorem updVerificationComplete_keeps {t : Nat} {s : State} (hs : State.Keeps pq s) :
    State.Keeps pq (updVerificationComplete t s) := by
  unfold updVerificationComplete
  repeat' first | with_reducible assumption | (with_reducible first | apply State.at__keeps | apply State.endUpd_keeps | apply State.packageOk_keeps | apply ite_keeps) | split | (dsimp only; split)

theorem State.prepared_keeps {s : State} (hs : State.Keeps pq s) :
    State.Keeps pq (State.prepared s) := by
  unfold State.prepared
  repeat' first | with_reducible assumption | (with_reducible first | apply State.journal_keeps | apply State.wrb_keeps | apply State.upd_keeps)

theorem stageCopyComplete_keeps {t : Nat} {s : State} (hs : State.Keeps pq s) :
    State.Keeps pq (stageCopyComplete t s) := by
  unfold stageCopyComplete
  repeat' first | with_reducible assumption | (with_reducible first | apply State.at__keeps | apply State.prepared_keeps | apply State.endUpd_keeps | apply State.setUpd_keeps | apply State.endRun_keeps | apply State.checkHold_keeps | apply ite_keeps)

theorem State.activateSet_keeps {s : State} {prep : Bool} (hs : State.Keeps pq s) :
    State.Keeps pq (State.activateSet s prep) := by
  unfold State.activateSet
  repeat' first | with_reducible assumption | (with_reducible first | apply State.prepared_keeps | apply State.journal_keeps | apply State.setUpd_keeps | apply State.wr_keeps | apply State.wrb_keeps | apply ite_keeps) | split | (dsimp only; split) | (with_reducible apply State.upd_keeps)

theorem State.rolledBack_keeps {s : State} (hs : State.Keeps pq s) :
    State.Keeps pq (State.rolledBack s) := by
  unfold State.rolledBack
  repeat' first | with_reducible assumption | (with_reducible first | apply State.journal_keeps | apply State.setUpd_keeps | apply State.wr_keeps | apply State.wrb_keeps) | split | (dsimp only; split) | (with_reducible apply State.upd_keeps)

theorem State.saveRecord_keeps {s : State} (hs : State.Keeps pq s) :
    State.Keeps pq (State.saveRecord s) := by
  unfold State.saveRecord
  repeat' first | with_reducible assumption | (intro _) | (with_reducible apply State.upd_keeps)

theorem State.confirmSet_keeps {s : State} (hs : State.Keeps pq s) :
    State.Keeps pq (State.confirmSet s) := by
  unfold State.confirmSet
  repeat' first | with_reducible assumption | (with_reducible first | apply State.wr_keeps | apply State.saveRecord_keeps | apply State.endUpd_keeps | apply ite_keeps) | split | (dsimp only; split)

theorem State.updStat_keeps {s : State} (hs : State.Keeps pq s) :
    State.Keeps pq (State.updStat s).2 := by
  unfold State.updStat
  repeat' first | with_reducible assumption | (with_reducible first | apply ite_snd_keeps | apply ite_snd2_keeps | apply State.draw_keeps | apply ite_keeps)

theorem updStatusBody_keeps {x0 : Cmd} {s : State} (hs : State.Keeps pq s) :
    Res.Keeps pq (updStatusBody x0 s) := by
  unfold updStatusBody
  repeat' first | with_reducible assumption | (with_reducible first | apply State.updStat_keeps | apply Res.refuse_keeps | apply Res.done_keeps | apply Res.later_keeps | apply Res.wait_keeps)

theorem State.openUpd_keeps {s : State} {m : List Byte} {ct : List Byte} (hs : State.Keeps pq s) :
    State.Keeps pq (State.openUpd s m ct) := by
  unfold State.openUpd
  repeat' first | with_reducible assumption | (with_reducible first | apply State.endUpd_keeps | apply State.setUpd_keeps | apply State.stage_keeps | apply State.wr_keeps | apply State.setPair_keeps | apply State.chunkCount_keeps | apply State.upd_keeps)

theorem updBegin_keeps {m : List Byte} {ct : List Byte} {c : Cmd} {s : State} (hs : State.Keeps pq s) :
    Res.Keeps pq (updBegin m ct c s) := by
  unfold updBegin
  repeat' first | with_reducible assumption | (with_reducible first | apply need_keeps | apply State.notLocked_keeps | apply State.wr_keeps | apply State.openUpd_keeps | apply Res.refuse_keeps | apply Res.done_keeps | apply Res.later_keeps | apply Res.wait_keeps | apply res_ite_keeps | apply ite_keeps)

theorem updBeginBody_keeps {c : Cmd} {s : State} (hs : State.Keeps pq s) :
    Res.Keeps pq (updBeginBody c s) := by
  unfold updBeginBody
  repeat' first | with_reducible assumption | (with_reducible first | apply updBegin_keeps | apply Res.refuse_keeps | apply Res.done_keeps | apply Res.later_keeps | apply Res.wait_keeps)

theorem updChunk_keeps {p : List Byte} {data : List Byte} {c : Cmd} {s : State} (hs : State.Keeps pq s) :
    Res.Keeps pq (updChunk p data c s) := by
  unfold updChunk
  repeat' first | with_reducible assumption | (with_reducible first | apply need_keeps | apply State.wr_keeps | apply State.chunkCount_keeps | apply State.setUpd_keeps | apply Res.refuse_keeps | apply Res.done_keeps | apply Res.later_keeps | apply Res.wait_keeps | apply res_ite_keeps | apply ite_keeps) | split | (dsimp only; split) | (with_reducible apply State.upd_keeps)

theorem updChunkBody_keeps {c : Cmd} {s : State} (hs : State.Keeps pq s) :
    Res.Keeps pq (updChunkBody c s) := by
  unfold updChunkBody
  repeat' first | with_reducible assumption | (with_reducible first | apply updChunk_keeps | apply Res.refuse_keeps | apply Res.done_keeps | apply Res.later_keeps | apply Res.wait_keeps)

theorem updVerifyBody_keeps {c : Cmd} {s : State} (hs : State.Keeps pq s) :
    Res.Keeps pq (updVerifyBody c s) := by
  unfold updVerifyBody
  repeat' first | with_reducible assumption | (with_reducible first | apply need_keeps | apply State.notLocked_keeps | apply State.setUpd_keeps | apply Res.refuse_keeps | apply Res.done_keeps | apply Res.later_keeps | apply Res.wait_keeps | apply State.upd_keeps)

theorem updActivateBody_keeps {c : Cmd} {s : State} (hs : State.Keeps pq s) :
    Res.Keeps pq (updActivateBody c s) := by
  unfold updActivateBody
  repeat' first | with_reducible assumption | (with_reducible first | apply need_keeps | apply State.wrb_keeps | apply State.stage_keeps | apply Res.refuse_keeps | apply Res.done_keeps | apply Res.later_keeps | apply Res.wait_keeps | apply res_ite_keeps | apply ite_keeps | apply State.upd_keeps)

theorem updConfirmBody_keeps {c : Cmd} {s : State} (hs : State.Keeps pq s) :
    Res.Keeps pq (updConfirmBody c s) := by
  unfold updConfirmBody
  repeat' first | with_reducible assumption | (with_reducible first | apply need_keeps | apply State.confirmSet_keeps | apply Res.refuse_keeps | apply Res.done_keeps | apply Res.later_keeps | apply Res.wait_keeps)

theorem updAbortBody_keeps {c : Cmd} {s : State} (hs : State.Keeps pq s) :
    Res.Keeps pq (updAbortBody c s) := by
  unfold updAbortBody
  repeat' first | with_reducible assumption | (intro _) | (with_reducible first | apply need_keeps | apply State.endUpd_keeps | apply State.wrb_keeps | apply State.act_keeps | apply State.maintStat_keeps | apply Res.refuse_keeps | apply Res.done_keeps | apply Res.later_keeps | apply Res.wait_keeps | apply res_ite_keeps | apply ite_keeps | apply State.upd_keeps)

theorem State.romServe_keeps {s : State} {op : Nat} {len : Nat} {tag : Nat} {body : Cmd → State → Res} {r : Req} (hs : State.Keeps pq s) (hbody : ∀ c u, State.Keeps pq u → Res.Keeps pq (body c u)) :
    State.Keeps pq (State.romServe s op len tag body r) := by
  have ha : State.Keeps pq (s.at_ r.t) := State.at__keeps hs
  have hb := hbody ((s.at_ r.t).cmdOf op r) _ ha
  unfold State.romServe
  dsimp only
  refine ite_keeps (State.upd_keeps ha) ?_
  revert hb
  generalize body ((s.at_ r.t).cmdOf op r) (s.at_ r.t) = k
  intro hb
  cases k with
  | refuse st => exact State.upd_keeps ha
  | done st pl u => exact State.upd_keeps (s := u) hb
  | wait p => exact ha
  | later p x u => exact ha

/-! ## Machine/Resets.lean -/

theorem State.dropMaint_keeps {s : State} (hs : State.Keeps pq s) :
    State.Keeps pq (State.dropMaint s) := by
  unfold State.dropMaint
  repeat' first | with_reducible assumption | (intro _) | (with_reducible first | apply State.abortProbe_keeps | apply State.unprobe_keeps | apply State.maintStat_keeps | apply foldS_keeps | apply ite_keeps | apply State.upd_keeps)

theorem State.computeRegs_keeps {s : State} (hs : State.Keeps pq s) :
    State.Keeps pq (State.computeRegs s) := by
  unfold State.computeRegs
  repeat' first | with_reducible assumption | (intro _) | (with_reducible first | apply State.setWord_keeps | apply State.wrb_keeps | apply State.wr_keeps) | split | (dsimp only; split) | (with_reducible apply State.upd_keeps)

theorem State.unalign_keeps {s : State} {isl : List Nat} {banks : Bool} (hs : State.Keeps pq s) :
    State.Keeps pq (State.unalign s isl banks) := by
  unfold State.unalign
  repeat' first | with_reducible assumption | (intro _) | (with_reducible first | apply State.wr_keeps | apply State.setWord_keeps | apply State.wrb_keeps | apply foldS_keeps | apply ite_keeps | apply State.upd_keeps)

theorem State.loseSlots_keeps {s : State} {f : Nat → Bool} (hs : State.Keeps pq s) :
    State.Keeps pq (State.loseSlots s f) := by
  unfold State.loseSlots
  repeat' first | with_reducible assumption | (intro _) | (with_reducible apply State.upd_keeps)

theorem State.clearCompute_keeps {s : State} (hs : State.Keeps pq s) :
    State.Keeps pq (State.clearCompute s) := by
  unfold State.clearCompute
  repeat' first | with_reducible assumption | (intro _) | (with_reducible first | apply State.stopVerify_keeps | apply State.computeRegs_keeps | apply State.setWord_keeps | apply State.unalign_keeps | apply State.wrb_keeps | apply State.wr_keeps | apply State.loseSlots_keeps | apply ite_keeps | apply State.upd_keeps)

theorem State.clearSecure_keeps {s : State} (hs : State.Keeps pq s) :
    State.Keeps pq (State.clearSecure s) := by
  unfold State.clearSecure
  repeat' first | with_reducible assumption | (intro _) | (with_reducible first | apply State.loseSlots_keeps | apply State.wr_keeps | apply State.unalign_keeps | apply State.upd_keeps)

theorem State.clearControl_keeps {s : State} (hs : State.Keeps pq s) :
    State.Keeps pq (State.clearControl s) := by
  unfold State.clearControl
  repeat' first | with_reducible assumption | (intro _) | (with_reducible first | apply State.loseSlots_keeps | apply State.resetRegs_keeps | apply State.wr_keeps | apply State.unalign_keeps | apply State.upd_keeps)

theorem State.clearFabric_keeps {s : State} (hs : State.Keeps pq s) :
    State.Keeps pq (State.clearFabric s) := by
  unfold State.clearFabric
  repeat' first | with_reducible assumption | (intro _) | (with_reducible first | apply State.loseSlots_keeps | apply State.resetRegs_keeps | apply State.wr_keeps | apply State.unalign_keeps | apply State.upd_keeps)

theorem State.clearWake_keeps {s : State} (hs : State.Keeps pq s) :
    State.Keeps pq (State.clearWake s) := by
  unfold State.clearWake
  repeat' first | with_reducible assumption | (with_reducible first | apply State.resetRegs_keeps | apply State.unalign_keeps | apply State.setWord_keeps | apply State.wr_keeps | apply State.upd_keeps)

theorem State.loseMemory_keeps {s : State} (hs : State.Keeps pq s) :
    State.Keeps pq (State.loseMemory s) := by
  exact ⟨Memory.filter_wfFrom _ hs.1, hs.2⟩

theorem State.zeroKeyOps_keeps {s : State} (hs : State.Keeps pq s) :
    State.Keeps pq (State.zeroKeyOps s) := by
  unfold State.zeroKeyOps
  repeat' first | with_reducible assumption | (intro _) | (with_reducible first | apply State.zeroOut_keeps | apply foldS_keeps)

theorem State.domainReset_keeps {s : State} {ty : Nat} (hs : State.Keeps pq s) :
    State.Keeps pq (State.domainReset s ty) := by
  unfold State.domainReset
  repeat' first | with_reducible assumption | (intro _) | (with_reducible first | apply State.zeroKeyOps_keeps | apply State.cancelSwap_keeps | apply State.endStanding_keeps | apply State.clearForces_keeps | apply State.dropMaint_keeps | apply State.abortCompute_keeps | apply State.dispose_keeps | apply State.clearCompute_keeps | apply State.clearControl_keeps | apply State.clearSecure_keeps | apply State.clearFabric_keeps | apply State.clearWake_keeps | apply State.loseMemory_keeps | apply foldS_keeps | apply ite_keeps | apply State.upd_keeps)

/-! ## Machine/Start.lean -/

theorem State.goDark_keeps {s : State} (hs : State.Keeps pq s) :
    State.Keeps pq (State.goDark s) := by
  unfold State.goDark
  repeat' first | with_reducible assumption | (intro _) | (with_reducible first | apply State.setCmd_keeps | apply State.modObj_keeps | apply State.wrb_keeps | apply State.wr_keeps | apply foldS_keeps | apply State.upd_keeps)

theorem State.loadRecord_keeps {s : State} (hs : State.Keeps pq s) :
    State.Keeps pq (State.loadRecord s) := by
  unfold State.loadRecord
  repeat' first | with_reducible assumption | (intro _) | (with_reducible first | apply State.setWord_keeps | apply State.wr_keeps | apply State.goDark_keeps | apply foldS_keeps | apply ite_keeps) | split | (dsimp only; split) | (with_reducible apply State.upd_keeps)

theorem State.coppiceOff_keeps {s : State} (hs : State.Keeps pq s) :
    State.Keeps pq (State.coppiceOff s) := by
  unfold State.coppiceOff
  repeat' first | with_reducible assumption | (intro _) | (with_reducible first | apply State.canState_keeps | apply State.resetRegs_keeps | apply State.canLines_keeps | apply linkDown_keeps | apply State.wrb_keeps | apply foldS_keeps | apply State.upd_keeps)

theorem State.coppiceServing_keeps {s : State} (hs : State.Keeps pq s) :
    State.Keeps pq (State.coppiceServing s) := by
  unfold State.coppiceServing
  repeat' first | with_reducible assumption | (intro _) | (with_reducible first | apply State.wrb_keeps | apply foldS_keeps)

theorem State.serveWindows_keeps {s : State} (hs : State.Keeps pq s) :
    State.Keeps pq (State.serveWindows s) := by
  unfold State.serveWindows
  repeat' first | with_reducible assumption | (intro _) | (with_reducible first | apply State.coppiceServing_keeps | apply State.wrb_keeps | apply foldS_keeps | apply ite_keeps) | split | (dsimp only; split)

theorem State.p05Base_keeps {s : State} (hs : State.Keeps pq s) :
    State.Keeps pq (State.p05Base s) := by
  unfold State.p05Base
  repeat' first | with_reducible assumption | (intro _) | (with_reducible first | apply State.wr_keeps | apply State.setSwPort_keeps | apply State.wrb_keeps | apply foldS_keeps | apply State.upd_keeps)

theorem State.can0Base_keeps {s : State} (hs : State.Keeps pq s) :
    State.Keeps pq (State.can0Base s) := by
  unfold State.can0Base
  repeat' first | with_reducible assumption | (intro _) | (with_reducible first | apply State.setWord_keeps | apply State.wr_keeps | apply State.modCan_keeps | apply State.canMode_keeps | apply foldS_keeps | apply ite_keeps | apply State.upd_keeps)

theorem State.coppiceStop_keeps {s : State} (hs : State.Keeps pq s) :
    State.Keeps pq (State.coppiceStop s) := by
  unfold State.coppiceStop
  repeat' first | with_reducible assumption | (intro _) | (with_reducible first | apply State.cycStop_keeps | apply State.partEffects_keeps | apply State.setPart_keeps | apply State.setPair__keeps | apply State.endCall_keeps | apply State.endSession_keeps | apply State.wr_keeps | apply State.dropSwitch_keeps | apply State.coppiceOff_keeps | apply State.can0Base_keeps | apply State.p05Base_keeps | apply State.startOverlay_keeps | apply State.coppiceServing_keeps | apply foldS_keeps | apply ite_keeps | apply State.upd_keeps)

theorem State.enterCoppice_keeps {s : State} {reason : Nat} (hs : State.Keeps pq s) :
    State.Keeps pq (State.enterCoppice s reason) := by
  unfold State.enterCoppice
  repeat' first | with_reducible assumption | (with_reducible first | apply State.wr_keeps | apply State.sat_keeps | apply State.wrb_keeps | apply State.setDev_keeps | apply State.stage_keeps | apply State.coppiceStop_keeps | apply State.coppiceOff_keeps | apply State.startOverlay_keeps | apply ite_keeps) | split | (dsimp only; split) | (with_reducible apply State.upd_keeps)

theorem State.lifecycleAtStart_keeps {s : State} (hs : State.Keeps pq s) :
    State.Keeps pq (State.lifecycleAtStart s) := by
  unfold State.lifecycleAtStart
  repeat' first | with_reducible assumption | (with_reducible first | apply State.wrb_keeps | apply State.wr_keeps | apply ite_keeps | apply State.upd_keeps)

theorem State.raiseTamper_keeps {s : State} {p : Nat × Nat} (hs : State.Keeps pq s) :
    State.Keeps pq (State.raiseTamper s p) := by
  unfold State.raiseTamper
  repeat' first | with_reducible assumption | (with_reducible first | apply State.sysFault_keeps | apply State.trig_keeps | apply ite_keeps)

theorem State.tamperAtStart_keeps {s : State} (hs : State.Keeps pq s) :
    State.Keeps pq (State.tamperAtStart s) := by
  unfold State.tamperAtStart
  repeat' first | with_reducible assumption | (intro _) | (with_reducible first | apply State.raiseTamper_keeps | apply State.blowFuse_keeps | apply State.lockState_keeps | apply State.enterCoppice_keeps | apply foldS_keeps | apply ite_keeps | apply State.upd_keeps)

theorem State.startNow_keeps {s : State} (hs : State.Keeps pq s) :
    State.Keeps pq (State.startNow s) := by
  unfold State.startNow
  repeat' first | with_reducible assumption | (with_reducible first | apply State.setPair_keeps | apply State.sat_keeps | apply State.stage_keeps | apply State.freshNonce_keeps | apply State.wr_keeps | apply State.tamperAtStart_keeps | apply State.enterCoppice_keeps | apply ite_keeps | apply State.upd_keeps)

theorem State.bootCopy_keeps {s : State} (hs : State.Keeps pq s) :
    State.Keeps pq (State.bootCopy s).2 := by
  unfold State.bootCopy
  repeat' first | with_reducible assumption | (with_reducible first | apply ite_snd_keeps | apply ite_snd2_keeps | apply State.activate_keeps | apply State.wrb_keeps | apply State.setUpd_keeps | apply State.journal_keeps | apply State.endUpd_keeps | apply ite_keeps | apply State.upd_keeps)

theorem State.beginStart_keeps {s : State} {ty : Nat} (hs : State.Keeps pq s) :
    State.Keeps pq (State.beginStart s ty) := by
  unfold State.beginStart
  dsimp only
  split
  · next heq =>
    refine State.upd_keeps (Eq.mp (congrArg (fun p => State.Keeps pq p.2) heq) (State.bootCopy_keeps ?_))
    (repeat' first | with_reducible assumption | (intro _) | (with_reducible first | apply State.setDev_keeps | apply State.wr_keeps | apply State.wrb_keeps | apply State.setPair_keeps | apply State.stage_keeps | apply State.lifecycleAtStart_keeps | apply State.bootCopy_keeps | apply State.startNow_keeps | apply ite_keeps) | split | (dsimp only; split) | (with_reducible apply State.upd_keeps))
  · next heq =>
    refine State.startNow_keeps (Eq.mp (congrArg (fun p => State.Keeps pq p.2) heq) (State.bootCopy_keeps ?_))
    (repeat' first | with_reducible assumption | (intro _) | (with_reducible first | apply State.setDev_keeps | apply State.wr_keeps | apply State.wrb_keeps | apply State.setPair_keeps | apply State.stage_keeps | apply State.lifecycleAtStart_keeps | apply State.bootCopy_keeps | apply State.startNow_keeps | apply ite_keeps) | split | (dsimp only; split) | (with_reducible apply State.upd_keeps))

theorem State.startReset_keeps {s : State} {ty : Nat} (hs : State.Keeps pq s) :
    State.Keeps pq (State.startReset s ty) := by
  unfold State.startReset
  repeat' first | with_reducible assumption | (with_reducible first | apply State.wr_keeps | apply State.domainReset_keeps | apply State.beginStart_keeps | apply ite_keeps)

theorem powerOnReset_keeps {_t : Nat} {s : State} (hs : State.Keeps pq s) :
    State.Keeps pq (powerOnReset _t s) := by
  unfold powerOnReset
  repeat' first | with_reducible assumption | (with_reducible apply State.startReset_keeps)

theorem activationCopyComplete_keeps {t : Nat} {s : State} (hs : State.Keeps pq s) :
    State.Keeps pq (activationCopyComplete t s) := by
  unfold activationCopyComplete
  repeat' first | with_reducible assumption | (with_reducible first | apply State.at__keeps | apply State.activate_keeps | apply State.activateSet_keeps | apply State.startNow_keeps | apply ite_keeps | apply State.upd_keeps)

theorem rollbackCopyComplete_keeps {t : Nat} {s : State} (hs : State.Keeps pq s) :
    State.Keeps pq (rollbackCopyComplete t s) := by
  unfold rollbackCopyComplete
  repeat' first | with_reducible assumption | (with_reducible first | apply State.at__keeps | apply State.rolledBack_keeps | apply State.wr_keeps | apply State.startNow_keeps | apply ite_keeps)

theorem State.writeSet_keeps {s : State} {k : Nat} {c : CfgSet} (hs : State.Keeps pq s) :
    State.Keeps pq (State.writeSet s k c) := by
  have hz : State.Keeps pq { s with mem := Memory.zero s.mem (copyBase k) 0x800000 } := ⟨Memory.zero_wf _ _ hs.1, hs.2⟩
  unfold State.writeSet
  refine foldS_keeps (State.store_keeps (State.store_keeps hz)) ?_
  intro i u hu
  split
  · exact State.store_keeps (State.store_keeps hu)
  · exact hu

theorem State.writeCfgPend_keeps {s : State} (hs : State.Keeps pq s) :
    State.Keeps pq (State.writeCfgPend s) := by
  unfold State.writeCfgPend
  repeat' first | with_reducible assumption | (with_reducible first | apply State.writeSet_keeps | apply State.wrb_keeps | apply ite_keeps) | split | (dsimp only; split) | (with_reducible apply State.upd_keeps)

theorem State.startTests_keeps {s : State} (hs : State.Keeps pq s) :
    State.Keeps pq (State.startTests s) := by
  unfold State.startTests
  repeat' first | with_reducible assumption | (with_reducible first | apply State.requestAct_keeps | apply State.act_keeps | apply State.count_keeps | apply ite_keeps)

theorem State.loadGood_keeps {s : State} {y0 : Option CfgSet} (hs : State.Keeps pq s) :
    State.Keeps pq (State.loadGood s y0) := by
  unfold State.loadGood
  repeat' first | with_reducible assumption | (with_reducible first | apply State.loadSet_keeps | apply State.enterCoppice_keeps | apply State.loadRecord_keeps | apply ite_keeps) | split | (dsimp only; split)

theorem State.configStep_keeps {s : State} (hs : State.Keeps pq s) :
    State.Keeps pq (State.configStep s) := by
  unfold State.configStep
  repeat' first | with_reducible assumption | (with_reducible first | apply State.writeCfgPend_keeps | apply State.compareCopies_keeps | apply State.loadGood_keeps | apply State.enforceAll_keeps | apply State.coppiceOff_keeps | apply State.wrb_keeps | apply State.stage_keeps | apply State.startTests_keeps | apply ite_keeps | apply State.upd_keeps)

theorem imageAuthenticationComplete_keeps {t : Nat} {s : State} (hs : State.Keeps pq s) :
    State.Keeps pq (imageAuthenticationComplete t s) := by
  unfold imageAuthenticationComplete
  repeat' first | with_reducible assumption | (intro _) | (with_reducible first | apply State.at__keeps | apply State.stage_keeps | apply State.setCmd_keeps | apply State.wrb_keeps | apply State.enterCoppice_keeps | apply State.configStep_keeps | apply foldS_keeps | apply ite_keeps) | split | (dsimp only; split) | (with_reducible apply State.upd_keeps)

theorem dramTrainingComplete_keeps {t : Nat} {ok : Bool} {s : State} (hs : State.Keeps pq s) :
    State.Keeps pq (dramTrainingComplete t ok s) := by
  unfold dramTrainingComplete
  repeat' first | with_reducible assumption | (with_reducible first | apply State.at__keeps | apply State.stage_keeps | apply State.enterCoppice_keeps | apply ite_keeps | apply State.upd_keeps)

theorem State.oldAlarms_keeps {s : State} (hs : State.Keeps pq s) :
    State.Keeps pq (State.oldAlarms s) := by
  unfold State.oldAlarms
  repeat' first | with_reducible assumption | (intro _) | (with_reducible first | apply State.trig_keeps | apply foldS_keeps | apply State.upd_keeps)

theorem bootLock_keeps {t : Nat} {s : State} (hs : State.Keeps pq s) :
    State.Keeps pq (bootLock t s) := by
  unfold bootLock
  repeat' first | with_reducible assumption | (with_reducible first | apply State.at__keeps | apply State.stage_keeps | apply State.wrb_keeps | apply State.fabricAtLock_keeps | apply State.oldAlarms_keeps | apply State.serveWindows_keeps | apply ite_keeps | apply State.upd_keeps)

theorem State.loadImage_keeps {s : State} {i : Nat} {base : Nat} {n : Nat} (hs : State.Keeps pq s) :
    State.Keeps pq (State.loadImage s i base n) := by
  unfold State.loadImage
  repeat' first | with_reducible assumption | (with_reducible first | apply State.store_keeps | apply State.take_keeps) | split | (dsimp only; split)

theorem State.loadDram_keeps {s : State} {i : Nat} (hs : State.Keeps pq s) :
    State.Keeps pq (State.loadDram s i) := by
  unfold State.loadDram
  repeat' first | with_reducible assumption | (with_reducible apply State.loadImage_keeps)

theorem State.loadPart_keeps {s : State} {v : Nat} (hs : State.Keeps pq s) :
    State.Keeps pq (State.loadPart s v) := by
  unfold State.loadPart
  repeat' first | with_reducible assumption | (with_reducible apply State.loadImage_keeps) | split | (dsimp only; split)

theorem State.startPair_keeps {s : State} {n : Nat} {v : Nat} {aOk : Bool} {bOk : Bool} (hs : State.Keeps pq s) :
    State.Keeps pq (State.startPair s n v aOk bOk) := by
  unfold State.startPair
  repeat' first | with_reducible assumption | (with_reducible first | apply State.loadPart_keeps | apply State.releasePair_keeps | apply State.setPart_keeps | apply State.setWord_keeps | apply State.wr_keeps | apply State.setPair_keeps | apply State.ownFault_keeps | apply ite_keeps) | split | (dsimp only; split) | (with_reducible apply State.upd_keeps)

theorem State.startSplit_keeps {s : State} {n : Nat} {core : Nat} {ok : Bool} (hs : State.Keeps pq s) :
    State.Keeps pq (State.startSplit s n core ok) := by
  unfold State.startSplit
  repeat' first | with_reducible assumption | (with_reducible first | apply State.loadPart_keeps | apply State.releasePair_keeps | apply State.setPart_keeps | apply State.ownFault_keeps | apply ite_keeps) | split | (dsimp only; split) | (with_reducible apply State.upd_keeps)

theorem State.startSafety_keeps {s : State} {n : Nat} {r : Bool × Bool} (hs : State.Keeps pq s) :
    State.Keeps pq (State.startSafety s n r) := by
  unfold State.startSafety
  repeat' first | with_reducible assumption | (with_reducible first | apply State.startSplit_keeps | apply State.startPair_keeps | apply ite_keeps) | split | (dsimp only; split)

theorem safetyPartitionReload_keeps {t : Nat} {v : Nat} {s : State} (hs : State.Keeps pq s) :
    State.Keeps pq (safetyPartitionReload t v s) := by
  unfold safetyPartitionReload
  repeat' first | with_reducible assumption | (intro _) | (with_reducible first | apply State.at__keeps | apply State.modPair_keeps | apply State.wr_keeps | apply State.loadPart_keeps | apply State.releasePair_keeps | apply State.setPart_keeps | apply State.heldHalt_keeps | apply ite_keeps) | split | (dsimp only; split) | (with_reducible apply State.upd_keeps)

theorem State.startNormal_keeps {s : State} (hs : State.Keeps pq s) :
    State.Keeps pq (State.startNormal s) := by
  unfold State.startNormal
  repeat' first | with_reducible assumption | (with_reducible first | apply State.loadDram_keeps | apply State.upd_keeps)

theorem hostResetReload_keeps {t : Nat} {s : State} (hs : State.Keeps pq s) :
    State.Keeps pq (hostResetReload t s) := by
  unfold hostResetReload
  repeat' first | with_reducible assumption | (with_reducible first | apply State.at__keeps | apply State.startNormal_keeps | apply State.setPart_keeps | apply ite_keeps) | split | (dsimp only; split)

theorem State.measure_keeps {s : State} (hs : State.Keeps pq s) :
    State.Keeps pq (State.measure s) := by
  unfold State.measure
  repeat' first | with_reducible assumption | (intro _) | (with_reducible first | apply foldS_keeps | apply State.upd_keeps)

theorem State.loadProgram_keeps {s : State} (hs : State.Keeps pq s) :
    State.Keeps pq (State.loadProgram s) := by
  unfold State.loadProgram
  repeat' first | with_reducible assumption | (with_reducible first | apply State.loadInactive_keeps | apply State.activate_keeps | apply State.wrb_keeps | apply ite_keeps) | split | (dsimp only; split) | (with_reducible apply State.upd_keeps)

theorem imagesReleased_keeps {t : Nat} {pairs : List (Bool × Bool)} {s : State} (hs : State.Keeps pq s) :
    State.Keeps pq (imagesReleased t pairs s) := by
  unfold imagesReleased
  repeat' first | with_reducible assumption | (intro _) | (with_reducible first | apply State.at__keeps | apply State.stage_keeps | apply State.measure_keeps | apply State.loadDram_keeps | apply State.wr_keeps | apply State.startNormal_keeps | apply State.setPart_keeps | apply State.startSafety_keeps | apply State.loadProgram_keeps | apply State.setUpd_keeps | apply foldS_keeps | apply ite_keeps | apply State.upd_keeps)

theorem State.confirm_keeps {s : State} (hs : State.Keeps pq s) :
    State.Keeps pq (State.confirm s) := by
  unfold State.confirm
  repeat' first | with_reducible assumption | (intro _) | (with_reducible first | apply State.stage_keeps | apply State.wr_keeps | apply State.wrb_keeps | apply State.setPair_keeps | apply State.setDev_keeps | apply State.saveRecord_keeps | apply State.confirmSet_keeps | apply State.setUpd_keeps | apply State.act_keeps | apply State.requestAct_keeps | apply State.arbitrate_keeps | apply ite_keeps | apply State.upd_keeps)

theorem bootWatchdogExpiry_keeps {t : Nat} {s : State} (hs : State.Keeps pq s) :
    State.Keeps pq (bootWatchdogExpiry t s) := by
  unfold bootWatchdogExpiry
  repeat' first | with_reducible assumption | (with_reducible first | apply State.at__keeps | apply State.wr_keeps | apply State.startReset_keeps | apply ite_keeps)

theorem confirmationLimitExpiry_keeps {t : Nat} {s : State} (hs : State.Keeps pq s) :
    State.Keeps pq (confirmationLimitExpiry t s) := by
  unfold confirmationLimitExpiry
  repeat' first | with_reducible assumption | (with_reducible first | apply State.at__keeps | apply State.stage_keeps | apply State.wr_keeps | apply State.startReset_keeps | apply ite_keeps)

theorem State.privetAgain_keeps {s : State} (hs : State.Keeps pq s) :
    State.Keeps pq (State.privetAgain s) := by
  unfold State.privetAgain
  repeat' first | with_reducible assumption | (intro _) | (with_reducible first | apply State.dropMaint_keeps | apply State.unalign_keeps | apply State.dropSlots_keeps | apply State.wrb_keeps | apply State.wr_keeps | apply State.dispose_keeps | apply State.raise_keeps | apply State.sysFault_keeps | apply foldS_keeps | apply ite_keeps) | split | (dsimp only; split) | (with_reducible apply State.upd_keeps)

theorem State.privetBack_keeps {s : State} (hs : State.Keeps pq s) :
    State.Keeps pq (State.privetBack s) := by
  unfold State.privetBack
  repeat' first | with_reducible assumption | (intro _) | (with_reducible first | apply State.answer_keeps | apply State.inc_keeps | apply State.serveWindows_keeps | apply foldS_keeps | apply ite_keeps) | split | (dsimp only; split) | (with_reducible apply State.upd_keeps)

theorem privetRestart_keeps {t : Nat} {s : State} (hs : State.Keeps pq s) :
    State.Keeps pq (privetRestart t s) := by
  unfold privetRestart
  repeat' first | with_reducible assumption | (with_reducible first | apply State.at__keeps | apply State.stage_keeps | apply State.wr_keeps | apply State.startReset_keeps | apply State.privetAgain_keeps | apply ite_keeps)

theorem deviceResetInstant_keeps {t : Nat} {s : State} (hs : State.Keeps pq s) :
    State.Keeps pq (deviceResetInstant t s) := by
  unfold deviceResetInstant
  repeat' first | with_reducible assumption | (with_reducible first | apply State.at__keeps | apply State.startReset_keeps | apply ite_keeps) | split | (dsimp only; split)

theorem coppiceExitReset_keeps {t : Nat} {s : State} (hs : State.Keeps pq s) :
    State.Keeps pq (coppiceExitReset t s) := by
  unfold coppiceExitReset
  repeat' first | with_reducible assumption | (with_reducible first | apply State.at__keeps | apply State.wr_keeps | apply State.startReset_keeps | apply ite_keeps) | split | (dsimp only; split)

theorem State.powerDown_keeps {s : State} (hs : State.Keeps pq s) :
    State.Keeps pq (State.powerDown s) := by
  unfold State.powerDown
  repeat' first | with_reducible assumption | (with_reducible first | apply State.domainReset_keeps | apply State.wr_keeps | apply State.upd_keeps)

theorem sleepPowerDownComplete_keeps {t : Nat} {s : State} (hs : State.Keeps pq s) :
    State.Keeps pq (sleepPowerDownComplete t s) := by
  unfold sleepPowerDownComplete
  repeat' first | with_reducible assumption | (with_reducible first | apply State.at__keeps | apply State.powerDown_keeps | apply State.setDev_keeps | apply ite_keeps | apply State.upd_keeps)

theorem State.wakeUp_keeps {s : State} (hs : State.Keeps pq s) :
    State.Keeps pq (State.wakeUp s) := by
  unfold State.wakeUp
  repeat' first | with_reducible assumption | (intro _) | (with_reducible first | apply State.wrb_keeps | apply State.sat_keeps | apply State.startReset_keeps | apply State.wr_keeps | apply ite_keeps) | split | (dsimp only; split) | (with_reducible apply State.upd_keeps)

theorem bootStatusBody_keeps {x0 : Cmd} {s : State} (hs : State.Keeps pq s) :
    Res.Keeps pq (bootStatusBody x0 s) := by
  unfold bootStatusBody
  repeat' first | with_reducible assumption | (with_reducible first | apply Res.refuse_keeps | apply Res.done_keeps | apply Res.later_keeps | apply Res.wait_keeps)

theorem State.resetAt_keeps {s : State} {u : Nat} {ty : Nat} (hs : State.Keeps pq s) :
    State.Keeps pq (State.resetAt s u ty) := by
  unfold State.resetAt
  repeat' first | with_reducible assumption | (with_reducible apply ite_keeps) | split | (dsimp only; split) | (with_reducible apply State.upd_keeps)

theorem deviceResetBody_keeps {c : Cmd} {s : State} (hs : State.Keeps pq s) :
    Res.Keeps pq (deviceResetBody c s) := by
  unfold deviceResetBody
  repeat' first | with_reducible assumption | (with_reducible first | apply need_keeps | apply State.resetAt_keeps | apply Res.refuse_keeps | apply Res.done_keeps | apply Res.later_keeps | apply Res.wait_keeps | apply res_ite_keeps | apply ite_keeps)

theorem coppiceExitBody_keeps {c : Cmd} {s : State} (hs : State.Keeps pq s) :
    Res.Keeps pq (coppiceExitBody c s) := by
  unfold coppiceExitBody
  repeat' first | with_reducible assumption | (with_reducible first | apply need_keeps | apply State.resetAt_keeps | apply Res.refuse_keeps | apply Res.done_keeps | apply Res.later_keeps | apply Res.wait_keeps)

end Sys2Proof.Machine
end

