-- ==== Sys2Proof/Laws/Keeps5.lean ====
section
/-!
SUPPORT. Laws/Keeps5.lean: one lemma per operation: it keeps the canonical form of memory and the queue. Here: the time base, accesses, fast actuation, the chain, commands in flight and what follows a command.
-/
namespace Sys2Proof.Machine

variable {pq : List Instr}

/-! ## Machine/Supply.lean -/

theorem State.feedReversed_keeps {s : State} {f : Nat} {on : Bool} (hs : State.Keeps pq s) :
    State.Keeps pq (State.feedReversed s f on) := by
  unfold State.feedReversed
  repeat' first | with_reducible assumption | (with_reducible apply State.upd_keeps)

theorem feedReverse_keeps {t : Nat} {f : Nat} {on : Bool} {s : State} (hs : State.Keeps pq s) :
    State.Keeps pq (feedReverse t f on s) := by
  unfold feedReverse
  repeat' first | with_reducible assumption | (with_reducible first | apply State.at__keeps | apply feedUndervoltage_keeps | apply State.feedReversed_keeps | apply ite_keeps)

theorem highestFeedLow_keeps {t : Nat} {low : Bool} {s : State} (hs : State.Keeps pq s) :
    State.Keeps pq (highestFeedLow t low s) := by
  unfold highestFeedLow
  repeat' first | with_reducible assumption | (with_reducible first | apply State.at__keeps | apply ite_keeps | apply State.upd_keeps)

theorem holdUpExpiry_keeps {t : Nat} {s : State} (hs : State.Keeps pq s) :
    State.Keeps pq (holdUpExpiry t s) := by
  unfold holdUpExpiry
  repeat' first | with_reducible assumption | (with_reducible first | apply State.at__keeps | apply State.sleepAbort_keeps | apply State.startReset_keeps | apply ite_keeps) | split | (dsimp only; split) | (with_reducible apply State.upd_keeps)

theorem thermalSample_keeps {t : Nat} {celsius : Int} {s : State} (hs : State.Keeps pq s) :
    State.Keeps pq (thermalSample t celsius s) := by
  unfold thermalSample
  repeat' first | with_reducible assumption | (with_reducible first | apply State.at__keeps | apply State.take_keeps | apply State.wr_keeps | apply State.upd_keeps)

theorem lineInputChange_keeps {t : Nat} {wakeIn : Bool} {ign : Bool} {s : State} (hs : State.Keeps pq s) :
    State.Keeps pq (lineInputChange t wakeIn ign s) := by
  unfold lineInputChange
  repeat' first | with_reducible assumption | (with_reducible first | apply State.at__keeps | apply State.setLines_keeps)

/-! ## Machine/Alignment.lean -/

theorem State.setCmp_keeps {s : State} {n : Nat} {c : Cmp} (hs : State.Keeps pq s) :
    State.Keeps pq (State.setCmp s n c) := by
  unfold State.setCmp
  repeat' first | with_reducible assumption | (with_reducible apply State.upd_keeps)

theorem State.cmpFire_keeps {s : State} {n : Nat} {late : Bool} (hs : State.Keeps pq s) :
    State.Keeps pq (State.cmpFire s n late) := by
  unfold State.cmpFire
  repeat' first | with_reducible assumption | (with_reducible first | apply State.wrb_keeps | apply State.setCmp_keeps | apply State.trig_keeps)

theorem State.cmpArmAt_keeps {s : State} {n : Nat} (hs : State.Keeps pq s) :
    State.Keeps pq (State.cmpArmAt s n) := by
  unfold State.cmpArmAt
  repeat' first | with_reducible assumption | (with_reducible first | apply State.cmpFire_keeps | apply State.setCmp_keeps | apply ite_keeps | apply State.upd_keeps)

theorem State.cmpArm_keeps {s : State} {n : Nat} (hs : State.Keeps pq s) :
    State.Keeps pq (State.cmpArm s n) := by
  unfold State.cmpArm
  repeat' first | with_reducible assumption | (with_reducible first | apply State.wrb_keeps | apply State.setCmp_keeps)

theorem State.cmpDisarm_keeps {s : State} {n : Nat} (hs : State.Keeps pq s) :
    State.Keeps pq (State.cmpDisarm s n) := by
  unfold State.cmpDisarm
  repeat' first | with_reducible assumption | (with_reducible first | apply State.wrb_keeps | apply State.setCmp_keeps)

theorem comparatorFire_keeps {t : Nat} {n : Nat} {s : State} (hs : State.Keeps pq s) :
    State.Keeps pq (comparatorFire t n s) := by
  unfold comparatorFire
  repeat' first | with_reducible assumption | (with_reducible first | apply State.at__keeps | apply State.cmpFire_keeps | apply ite_keeps)

theorem State.lateAct_keeps {s : State} {y0 : StepAct} (hs : State.Keeps pq s) :
    State.Keeps pq (State.lateAct s y0) := by
  unfold State.lateAct
  repeat' first | with_reducible assumption | (with_reducible first | apply State.edgeDue_keeps | apply State.cmpFire_keeps | apply outputInstant_keeps | apply State.doSwitch_keeps | apply ite_keeps) | split | (dsimp only; split) | (with_reducible apply State.upd_keeps)

theorem State.moveProtection_keeps {s : State} {back : Bool} {d : Nat} (hs : State.Keeps pq s) :
    State.Keeps pq (State.moveProtection s back d) := by
  unfold State.moveProtection
  repeat' first | with_reducible assumption | (intro _) | (with_reducible first | apply State.modObj_keeps | apply State.setFeed_keeps | apply foldS_keeps | apply State.upd_keeps)

theorem State.skipReleases_keeps {s : State} {a : Nat} {b : Nat} (hs : State.Keeps pq s) :
    State.Keeps pq (State.skipReleases s a b) := by
  unfold State.skipReleases
  repeat' first | with_reducible assumption | (intro _) | (with_reducible first | apply State.miss_keeps | apply State.dropRelease_keeps | apply foldS_keeps | apply ite_keeps) | split | (dsimp only; split)

theorem State.stepForward_keeps {s : State} {d : Nat} (hs : State.Keeps pq s) :
    State.Keeps pq (State.stepForward s d) := by
  unfold State.stepForward
  repeat' first | with_reducible assumption | (intro _) | (with_reducible first | apply State.skipReleases_keeps | apply State.moveProtection_keeps | apply State.modLin_keeps | apply State.linForward_keeps | apply State.lateAct_keeps | apply State.stepGates_keeps | apply foldS_keeps | apply State.upd_keeps)

theorem State.stepBackward_keeps {s : State} {d : Nat} (hs : State.Keeps pq s) :
    State.Keeps pq (State.stepBackward s d) := by
  unfold State.stepBackward
  repeat' first | with_reducible assumption | (intro _) | (with_reducible first | apply State.moveProtection_keeps | apply State.modTask_keeps | apply State.modLin_keeps | apply State.linBack_keeps | apply State.stepGates_keeps | apply foldS_keeps | apply State.upd_keeps)

theorem State.takeStep_keeps {s : State} (hs : State.Keeps pq s) :
    State.Keeps pq (State.takeStep s) := by
  unfold State.takeStep
  repeat' first | with_reducible assumption | (with_reducible first | apply State.sat_keeps | apply State.stepBackward_keeps | apply State.stepForward_keeps | apply ite_keeps) | split | (dsimp only; split) | (with_reducible apply State.upd_keeps)

theorem State.replicaWord_keeps {s : State} {bad : List Nat} {i : Nat} (hs : State.Keeps pq s) :
    State.Keeps pq (State.replicaWord s bad i) := by
  unfold State.replicaWord
  repeat' first | with_reducible assumption | (with_reducible first | apply State.sysFault_keeps | apply State.suspendGates_keeps | apply State.resumeGates_keeps | apply ite_keeps | apply State.upd_keeps)

theorem State.alignAll_keeps {s : State} {bad : List Nat} (hs : State.Keeps pq s) :
    State.Keeps pq (State.alignAll s bad) := by
  unfold State.alignAll
  repeat' first | with_reducible assumption | (intro _) | (with_reducible first | apply State.replicaWord_keeps | apply State.wr_keeps | apply State.wrb_keeps | apply foldS_keeps) | split | (dsimp only; split)

theorem State.slewOn_keeps {s : State} (hs : State.Keeps pq s) :
    State.Keeps pq (State.slewOn s) := by
  unfold State.slewOn
  repeat' first | with_reducible assumption | (with_reducible first | apply State.wrb_keeps | apply State.setWord_keeps | apply ite_keeps | apply State.upd_keeps)

theorem State.releaseAll_keeps {s : State} (hs : State.Keeps pq s) :
    State.Keeps pq (State.releaseAll s) := by
  unfold State.releaseAll
  repeat' first | with_reducible assumption | (intro _) | (with_reducible first | apply State.releaseHeld_keeps | apply overlaySwitchInstant_keeps | apply foldS_keeps | apply ite_keeps) | split | (dsimp only; split)

theorem alignmentWord_keeps {t : Nat} {bad : List Nat} {s : State} (hs : State.Keeps pq s) :
    State.Keeps pq (alignmentWord t bad s) := by
  unfold alignmentWord
  repeat' first | with_reducible assumption | (intro _) | (with_reducible first | apply State.at__keeps | apply State.takeStep_keeps | apply State.alignAll_keeps | apply State.slewOn_keeps | apply State.releaseAll_keeps | apply State.cmpArmAt_keeps | apply foldS_keeps | apply ite_keeps)

theorem lateActionWindowExpiry_keeps {t : Nat} {s : State} (hs : State.Keeps pq s) :
    State.Keeps pq (lateActionWindowExpiry t s) := by
  unfold lateActionWindowExpiry
  repeat' first | with_reducible assumption | (intro _) | (with_reducible first | apply State.at__keeps | apply State.discardHeld_keeps | apply foldS_keeps)

/-! ## Machine/Access.lean -/

theorem State.accept_keeps {s : State} {v : Verdict} {x : Waiting} {f : State → State} (hs : State.Keeps pq s) (hf : ∀ u, State.Keeps pq u → State.Keeps pq (f u)) :
    State.Keeps pq (State.accept s v x f) := by
  unfold State.accept
  repeat' first | with_reducible assumption | (intro _) | (with_reducible first | apply State.taskFault_keeps | apply State.modPart_keeps | apply State.failAcc_keeps | apply hf) | split | (dsimp only; split) | (with_reducible apply State.upd_keeps)

theorem State.acceptOrWait_keeps {s : State} {v : Verdict} {x : Waiting} {f : State → State} (hs : State.Keeps pq s) (hf : ∀ u, State.Keeps pq u → State.Keeps pq (f u)) :
    State.Keeps pq (State.acceptOrWait s v x f) := by
  unfold State.acceptOrWait
  repeat' first | with_reducible assumption | (intro _) | (with_reducible first | apply State.accept_keeps | apply hf | apply ite_keeps | apply State.upd_keeps)

theorem State.viaBus_keeps {s : State} {x : Waiting} {f : State → State} (hs : State.Keeps pq s) (hf : ∀ u, State.Keeps pq u → State.Keeps pq (f u)) :
    State.Keeps pq (State.viaBus s x f) := by
  unfold State.viaBus
  repeat' first | with_reducible assumption | (intro _) | (with_reducible first | apply State.acceptOrWait_keeps | apply hf | apply ite_keeps)

theorem State.pushWrite_keeps {s : State} {a : Acc} {addr : Nat} (hs : State.Keeps pq s) :
    State.Keeps pq (State.pushWrite s a addr) := by
  unfold State.pushWrite
  repeat' first | with_reducible assumption | (intro _) | split | (dsimp only; split) | (with_reducible apply State.upd_keeps)

theorem State.irqClaim_keeps {s : State} {a : Acc} (hs : State.Keeps pq s) :
    State.Keeps pq (State.irqClaim s a) := by
  unfold State.irqClaim
  repeat' first | with_reducible assumption | (with_reducible first | apply State.replyData_keeps | apply ite_keeps) | split | (dsimp only; split) | (with_reducible apply State.upd_keeps)

theorem State.regLoad_keeps {s : State} {a : Acc} {addr : Nat} (hs : State.Keeps pq s) :
    State.Keeps pq (State.regLoad s a addr) := by
  unfold State.regLoad
  repeat' first | with_reducible assumption | (with_reducible first | apply State.refuseAcc_keeps | apply State.replyData_keeps | apply State.irqClaim_keeps | apply canRxevtPop_keeps | apply canTxevtPop_keeps | apply State.updStat_keeps | apply ite_keeps) | split | (dsimp only; split) | (with_reducible apply State.upd_keeps)

theorem State.plainWrite_keeps {s : State} {a : Acc} {addr : Nat} {v : Nat} (hs : State.Keeps pq s) :
    State.Keeps pq (State.plainWrite s a addr v) := by
  unfold State.plainWrite
  repeat' first | with_reducible assumption | (intro _) | (with_reducible first | apply State.refuseAcc_keeps | apply State.setWord_keeps | apply State.stage_keeps | apply foldS_keeps | apply ite_keeps) | split | (dsimp only; split)

theorem State.mbxOn_keeps {s : State} {w : Nat} (hs : State.Keeps pq s) :
    State.Keeps pq (State.mbxOn s w) := by
  unfold State.mbxOn
  repeat' first | with_reducible assumption | (with_reducible first | apply State.wrb_keeps | apply State.wr_keeps | apply ite_keeps)

theorem State.mbxCtl_keeps {s : State} {w : Nat} {v : Nat} (hs : State.Keeps pq s) :
    State.Keeps pq (State.mbxCtl s w v) := by
  unfold State.mbxCtl
  repeat' first | with_reducible assumption | (with_reducible first | apply State.wr_keeps | apply State.mbxOn_keeps | apply State.wrb_keeps | apply ite_keeps)

theorem State.mbxProd_keeps {s : State} {w : Nat} {v : Nat} (hs : State.Keeps pq s) :
    State.Keeps pq (State.mbxProd s w v) := by
  unfold State.mbxProd
  repeat' first | with_reducible assumption | (with_reducible first | apply State.wr_keeps | apply State.wrb_keeps | apply ite_keeps)

theorem State.mbxCons_keeps {s : State} {w : Nat} {v : Nat} (hs : State.Keeps pq s) :
    State.Keeps pq (State.mbxCons s w v) := by
  unfold State.mbxCons
  repeat' first | with_reducible assumption | (with_reducible first | apply State.wr_keeps | apply State.wrb_keeps | apply ite_keeps)

theorem State.mbxWrite_keeps {s : State} {a : Acc} {w : Nat} {addr : Nat} {v : Nat} (hs : State.Keeps pq s) :
    State.Keeps pq (State.mbxWrite s a w addr v) := by
  unfold State.mbxWrite
  repeat' first | with_reducible assumption | (with_reducible first | apply State.mbxCtl_keeps | apply State.mbxProd_keeps | apply State.mbxCons_keeps | apply State.plainWrite_keeps | apply ite_keeps)

theorem State.irqWrite_keeps {s : State} {a : Acc} {addr : Nat} {v : Nat} (hs : State.Keeps pq s) :
    State.Keeps pq (State.irqWrite s a addr v) := by
  unfold State.irqWrite
  repeat' first | with_reducible assumption | (with_reducible first | apply State.trig_keeps | apply State.refuseAcc_keeps | apply State.plainWrite_keeps | apply ite_keeps | apply State.upd_keeps)

theorem State.tbsWrite_keeps {s : State} {a : Acc} {addr : Nat} {v : Nat} (hs : State.Keeps pq s) :
    State.Keeps pq (State.tbsWrite s a addr v) := by
  unfold State.tbsWrite
  repeat' first | with_reducible assumption | (with_reducible first | apply State.cmpArm_keeps | apply State.cmpDisarm_keeps | apply State.plainWrite_keeps | apply ite_keeps)

theorem State.ringWrite_keeps {s : State} {a : Acc} {r : Nat} {addr : Nat} {v : Nat} (hs : State.Keeps pq s) :
    State.Keeps pq (State.ringWrite s a r addr v) := by
  unfold State.ringWrite
  repeat' first | with_reducible assumption | (with_reducible first | apply State.ringCtl_keeps | apply State.ringAdvance_keeps | apply State.plainWrite_keeps | apply ite_keeps)

theorem State.canWrite_keeps {s : State} {a : Acc} {c : Nat} {addr : Nat} {v : Nat} (hs : State.Keeps pq s) :
    State.Keeps pq (State.canWrite s a c addr v) := by
  unfold State.canWrite
  repeat' first | with_reducible assumption | (with_reducible first | apply State.writeObjCtl_keeps | apply State.writeObjId_keeps | apply State.plainWrite_keeps) | split | (dsimp only; split)

theorem State.linStore_keeps {s : State} {a : Acc} {c : Nat} {addr : Nat} {v : Nat} (hs : State.Keeps pq s) :
    State.Keeps pq (State.linStore s a c addr v) := by
  unfold State.linStore
  repeat' first | with_reducible assumption | (with_reducible first | apply State.writeLinCfg_keeps | apply State.writeLinData0_keeps | apply State.writeLinData1_keeps | apply State.plainWrite_keeps) | split | (dsimp only; split)

theorem State.mpcWrite_keeps {s : State} {a : Acc} {hyp : Bool} {addr : Nat} {v : Nat} (hs : State.Keeps pq s) :
    State.Keeps pq (State.mpcWrite s a hyp addr v) := by
  unfold State.mpcWrite
  repeat' first | with_reducible assumption | (with_reducible first | apply mpcCorePartWrite_keeps | apply mpcCpcPstateWrite_keeps | apply mpcPevtClear_keeps | apply State.plainWrite_keeps | apply ite_keeps) | split | (dsimp only; split)

theorem State.fltWrite_keeps {s : State} {a : Acc} {addr : Nat} {v : Nat} (hs : State.Keeps pq s) :
    State.Keeps pq (State.fltWrite s a addr v) := by
  unfold State.fltWrite
  repeat' first | with_reducible assumption | (with_reducible first | apply fltNoteAck_keeps | apply fltLsCkptWrite_keeps | apply State.plainWrite_keeps | apply ite_keeps) | split | (dsimp only; split)

theorem State.regStore_keeps {s : State} {a : Acc} {hyp : Bool} {addr : Nat} {v : Nat} (hs : State.Keeps pq s) :
    State.Keeps pq (State.regStore s a hyp addr v) := by
  unfold State.regStore
  repeat' first | with_reducible assumption | (with_reducible first | apply State.refuseAcc_keeps | apply State.mbxWrite_keeps | apply State.ringWrite_keeps | apply State.canWrite_keeps | apply State.linStore_keeps | apply State.fltWrite_keeps | apply State.mpcWrite_keeps | apply State.irqWrite_keeps | apply State.tbsWrite_keeps | apply bootLock_keeps | apply State.credits_keeps | apply State.plainWrite_keeps | apply ite_keeps) | split | (dsimp only; split)

theorem State.wipeSlots_keeps {s : State} {a : Acc} {addr : Nat} {len : Nat} (hs : State.Keeps pq s) :
    State.Keeps pq (State.wipeSlots s a addr len) := by
  unfold State.wipeSlots
  repeat' first | with_reducible assumption | (intro _) | split | (dsimp only; split) | (with_reducible apply State.upd_keeps)

theorem State.doLoad_keeps {s : State} {a : Acc} {addr : Nat} {len : Nat} (hs : State.Keeps pq s) :
    State.Keeps pq (State.doLoad s a addr len) := by
  unfold State.doLoad
  repeat' first | with_reducible assumption | (with_reducible first | apply State.regLoad_keeps | apply State.traffic_keeps | apply State.replyData_keeps | apply ite_keeps)

theorem State.doFetch_keeps {s : State} {a : Acc} {addr : Nat} {len : Nat} (hs : State.Keeps pq s) :
    State.Keeps pq (State.doFetch s a addr len) := by
  unfold State.doFetch
  repeat' first | with_reducible assumption | (with_reducible first | apply State.traffic_keeps | apply State.replyData_keeps)

theorem State.doStore_keeps {s : State} {a : Acc} {hyp : Bool} {addr : Nat} {data : List Byte} (hs : State.Keeps pq s) :
    State.Keeps pq (State.doStore s a hyp addr data) := by
  unfold State.doStore
  repeat' first | with_reducible assumption | (with_reducible first | apply State.pushWrite_keeps | apply State.wipeSlots_keeps | apply State.regStore_keeps | apply State.store_keeps | apply State.traffic_keeps | apply ite_keeps)

theorem State.busLoad_keeps {s : State} {a : Acc} {addr : Nat} {len : Nat} (hs : State.Keeps pq s) :
    State.Keeps pq (State.busLoad s a addr len) := by
  unfold State.busLoad
  repeat' first | with_reducible assumption | (intro _) | (with_reducible first | apply State.viaBus_keeps | apply State.doLoad_keeps)

theorem State.busFetch_keeps {s : State} {a : Acc} {addr : Nat} {len : Nat} (hs : State.Keeps pq s) :
    State.Keeps pq (State.busFetch s a addr len) := by
  unfold State.busFetch
  repeat' first | with_reducible assumption | (intro _) | (with_reducible first | apply State.viaBus_keeps | apply State.doFetch_keeps)

theorem State.busStore_keeps {s : State} {a : Acc} {hyp : Bool} {addr : Nat} {data : List Byte} (hs : State.Keeps pq s) :
    State.Keeps pq (State.busStore s a hyp addr data) := by
  unfold State.busStore
  repeat' first | with_reducible assumption | (intro _) | (with_reducible first | apply State.viaBus_keeps | apply State.store_keeps | apply State.doStore_keeps | apply ite_keeps | apply State.upd_keeps)

theorem State.busReg_keeps {s : State} {a : Acc} {addr : Nat} {f : State → State} (hs : State.Keeps pq s) (hf : ∀ u, State.Keeps pq u → State.Keeps pq (f u)) :
    State.Keeps pq (State.busReg s a addr f) := by
  unfold State.busReg
  repeat' first | with_reducible assumption | (intro _) | (with_reducible first | apply State.viaBus_keeps | apply State.store_keeps | apply State.pushWrite_keeps | apply State.wipeSlots_keeps | apply State.refuseAcc_keeps | apply hf | apply ite_keeps | apply State.upd_keeps)

theorem State.act_keeps {s : State} {x : Waiting} (hs : State.Keeps pq s) :
    State.Keeps pq (State.act s x) := by
  unfold State.act
  repeat' first | with_reducible assumption | (with_reducible first | apply State.doLoad_keeps | apply State.doFetch_keeps | apply State.store_keeps | apply State.doStore_keeps) | split | (dsimp only; split)

theorem State.carryOn_keeps {s : State} {x : Waiting} (hs : State.Keeps pq s) :
    State.Keeps pq (State.carryOn s x) := by
  unfold State.carryOn
  repeat' first | with_reducible assumption | (intro _) | (with_reducible first | apply State.accept_keeps | apply State.act_keeps)

theorem State.resumeAcc_keeps {s : State} {x : Waiting} (hs : State.Keeps pq s) :
    State.Keeps pq (State.resumeAcc s x) := by
  unfold State.resumeAcc
  repeat' first | with_reducible assumption | (intro _) | (with_reducible first | apply State.acceptOrWait_keeps | apply State.act_keeps | apply ite_keeps | apply State.upd_keeps)

theorem State.resumeAll_keeps {s : State} (hs : State.Keeps pq s) :
    State.Keeps pq (State.resumeAll s) := by
  unfold State.resumeAll
  repeat' first | with_reducible assumption | (intro _) | (with_reducible first | apply State.resumeAcc_keeps | apply foldS_keeps | apply State.upd_keeps)

theorem regulationPeriod_keeps {t : Nat} {s : State} (hs : State.Keeps pq s) :
    State.Keeps pq (regulationPeriod t s) := by
  unfold regulationPeriod
  repeat' first | with_reducible assumption | (intro _) | (with_reducible first | apply State.at__keeps | apply State.modPart_keeps | apply State.resumeAll_keeps | apply foldS_keeps | apply ite_keeps | apply State.upd_keeps)

theorem registerWrite_keeps {t : Nat} {a : Acc} {addr : Nat} {v : Nat} {s : State} (hs : State.Keeps pq s) :
    State.Keeps pq (registerWrite t a addr v s) := by
  unfold registerWrite
  repeat' first | with_reducible assumption | (with_reducible first | apply State.at__keeps | apply State.busStore_keeps)

theorem lowWordRead_keeps {t : Nat} {a : Acc} {addr : Nat} {s : State} (hs : State.Keeps pq s) :
    State.Keeps pq (lowWordRead t a addr s) := by
  unfold lowWordRead
  repeat' first | with_reducible assumption | (with_reducible first | apply State.at__keeps | apply State.busLoad_keeps | apply ite_keeps)

theorem memoryAccess_keeps {t : Nat} {a : Acc} {k : AccKind} {addr : Nat} {len : Nat} {data : List Byte} {s : State} (hs : State.Keeps pq s) :
    State.Keeps pq (memoryAccess t a k addr len data s) := by
  unfold memoryAccess
  repeat' first | with_reducible assumption | (with_reducible first | apply State.at__keeps | apply State.busLoad_keeps | apply State.store_keeps | apply State.busStore_keeps | apply State.busFetch_keeps) | split | (dsimp only; split)

theorem bridgeRead_keeps {t : Nat} {a : Acc} {br : Nat} {away : Bool} {addr : Nat} {size : Nat} {s : State} (hs : State.Keeps pq s) :
    State.Keeps pq (bridgeRead t a br away addr size s) := by
  unfold bridgeRead
  repeat' first | with_reducible assumption | (intro _) | (with_reducible first | apply State.at__keeps | apply State.accept_keeps | apply ite_keeps) | split | (dsimp only; split) | (with_reducible apply State.upd_keeps)

theorem State.fillSlot_keeps {s : State} {i : Nat} (hs : State.Keeps pq s) :
    State.Keeps pq (State.fillSlot s i) := by
  unfold State.fillSlot
  repeat' first | with_reducible assumption | (with_reducible first | apply State.carryOn_keeps | apply State.at__keeps | apply ite_keeps) | split | (dsimp only; split) | (with_reducible apply State.upd_keeps)

theorem readaheadFill_keeps {t : Nat} {i : Nat} {s : State} (hs : State.Keeps pq s) :
    State.Keeps pq (readaheadFill t i s) := by
  unfold readaheadFill
  repeat' first | with_reducible assumption | (with_reducible first | apply State.at__keeps | apply State.fillSlot_keeps)

theorem State.drainIssued_keeps {s : State} {v : Nat} (hs : State.Keeps pq s) :
    State.Keeps pq (State.drainIssued s v) := by
  unfold State.drainIssued
  repeat' first | with_reducible assumption | (intro _) | (with_reducible first | apply State.carryOn_keeps | apply State.fillSlot_keeps | apply foldS_keeps | apply ite_keeps) | split | (dsimp only; split) | (with_reducible apply State.upd_keeps)

theorem partResetDrainComplete_keeps {t : Nat} {v : Nat} {s : State} (hs : State.Keeps pq s) :
    State.Keeps pq (partResetDrainComplete t v s) := by
  unfold partResetDrainComplete
  repeat' first | with_reducible assumption | (intro _) | (with_reducible first | apply State.at__keeps | apply State.drainIssued_keeps | apply State.dropSlots_keeps | apply State.partEffects_keeps | apply State.wrb_keeps | apply State.setPart_keeps | apply ite_keeps)

theorem readaheadExpiry_keeps {t : Nat} {i : Nat} {s : State} (hs : State.Keeps pq s) :
    State.Keeps pq (readaheadExpiry t i s) := by
  unfold readaheadExpiry
  repeat' first | with_reducible assumption | (with_reducible first | apply State.at__keeps | apply ite_keeps) | split | (dsimp only; split) | (with_reducible apply State.upd_keeps)

theorem irqSourceTrigger_keeps {t : Nat} {src : Nat} {on : Bool} {s : State} (hs : State.Keeps pq s) :
    State.Keeps pq (irqSourceTrigger t src on s) := by
  unfold irqSourceTrigger
  repeat' first | with_reducible assumption | (with_reducible first | apply State.at__keeps | apply State.trig_keeps | apply ite_keeps) | split | (dsimp only; split) | (with_reducible apply State.upd_keeps)

theorem irqClaimPop_keeps {t : Nat} {a : Acc} {s : State} (hs : State.Keeps pq s) :
    State.Keeps pq (irqClaimPop t a s) := by
  unfold irqClaimPop
  repeat' first | with_reducible assumption | (with_reducible first | apply State.at__keeps | apply State.busLoad_keeps)

theorem irqEoi_keeps {t : Nat} {a : Acc} {v : Nat} {s : State} (hs : State.Keeps pq s) :
    State.Keeps pq (irqEoi t a v s) := by
  unfold irqEoi
  repeat' first | with_reducible assumption | (with_reducible first | apply State.at__keeps | apply State.busStore_keeps)

theorem irqDoorbell_keeps {t : Nat} {a : Acc} {v : Nat} {s : State} (hs : State.Keeps pq s) :
    State.Keeps pq (irqDoorbell t a v s) := by
  unfold irqDoorbell
  repeat' first | with_reducible assumption | (with_reducible first | apply State.at__keeps | apply State.busStore_keeps)

theorem tbsCmpArm_keeps {t : Nat} {a : Acc} {n : Nat} {s : State} (hs : State.Keeps pq s) :
    State.Keeps pq (tbsCmpArm t a n s) := by
  unfold tbsCmpArm
  repeat' first | with_reducible assumption | (with_reducible first | apply State.at__keeps | apply State.busStore_keeps | apply ite_keeps)

theorem tbsCmpDisarm_keeps {t : Nat} {a : Acc} {n : Nat} {s : State} (hs : State.Keeps pq s) :
    State.Keeps pq (tbsCmpDisarm t a n s) := by
  unfold tbsCmpDisarm
  repeat' first | with_reducible assumption | (with_reducible first | apply State.at__keeps | apply State.busStore_keeps | apply ite_keeps)

theorem mbxEnable_keeps {t : Nat} {a : Acc} {w : Nat} {v : Nat} {s : State} (hs : State.Keeps pq s) :
    State.Keeps pq (mbxEnable t a w v s) := by
  unfold mbxEnable
  repeat' first | with_reducible assumption | (with_reducible first | apply State.at__keeps | apply State.busStore_keeps | apply ite_keeps)

theorem mbxDisable_keeps {t : Nat} {a : Acc} {w : Nat} {v : Nat} {s : State} (hs : State.Keeps pq s) :
    State.Keeps pq (mbxDisable t a w v s) := by
  unfold mbxDisable
  repeat' first | with_reducible assumption | (with_reducible first | apply State.at__keeps | apply State.busStore_keeps | apply ite_keeps)

theorem mbxReqProdWrite_keeps {t : Nat} {a : Acc} {w : Nat} {v : Nat} {s : State} (hs : State.Keeps pq s) :
    State.Keeps pq (mbxReqProdWrite t a w v s) := by
  unfold mbxReqProdWrite
  repeat' first | with_reducible assumption | (with_reducible first | apply State.at__keeps | apply State.busStore_keeps | apply ite_keeps)

theorem mbxRspConsWrite_keeps {t : Nat} {a : Acc} {w : Nat} {v : Nat} {s : State} (hs : State.Keeps pq s) :
    State.Keeps pq (mbxRspConsWrite t a w v s) := by
  unfold mbxRspConsWrite
  repeat' first | with_reducible assumption | (with_reducible first | apply State.at__keeps | apply State.busStore_keeps | apply ite_keeps)

theorem mbxErrClear_keeps {t : Nat} {a : Acc} {w : Nat} {v : Nat} {s : State} (hs : State.Keeps pq s) :
    State.Keeps pq (mbxErrClear t a w v s) := by
  unfold mbxErrClear
  repeat' first | with_reducible assumption | (with_reducible first | apply State.at__keeps | apply State.busStore_keeps | apply ite_keeps)

/-! ## Machine/Chain.lean -/

theorem State.sendOn_keeps {s : State} {up : Bool} {f : HdgFrame} (hs : State.Keeps pq s) :
    State.Keeps pq (State.sendOn s up f) := by
  unfold State.sendOn
  repeat' first | with_reducible assumption | (with_reducible first | apply State.sendUp_keeps | apply State.sendDn_keeps | apply ite_keeps)

theorem State.setHop_keeps {s : State} {up : Bool} {link : Bool} (hs : State.Keeps pq s) :
    State.Keeps pq (State.setHop s up link) := by
  unfold State.setHop
  repeat' first | with_reducible assumption | (with_reducible first | apply State.wrb_keeps | apply State.sat_keeps | apply State.trig_keeps | apply ite_keeps)

theorem State.setHdg_keeps {s : State} {v : Nat} (hs : State.Keeps pq s) :
    State.Keeps pq (State.setHdg s v) := by
  unfold State.setHdg
  repeat' first | with_reducible assumption | (with_reducible apply State.wr_keeps)

theorem State.startEnum_keeps {s : State} (hs : State.Keeps pq s) :
    State.Keeps pq (State.startEnum s) := by
  unfold State.startEnum
  repeat' first | with_reducible assumption | (with_reducible first | apply State.setHdg_keeps | apply State.wr_keeps | apply State.sendDn_keeps | apply State.upd_keeps)

theorem State.enumAck_keeps {s : State} {fin : Bool} {done : Bool} (hs : State.Keeps pq s) :
    State.Keeps pq (State.enumAck s fin done) := by
  unfold State.enumAck
  repeat' first | with_reducible assumption | (with_reducible apply State.sendUp_keeps)

theorem State.passEnum_keeps {s : State} (hs : State.Keeps pq s) :
    State.Keeps pq (State.passEnum s) := by
  unfold State.passEnum
  repeat' first | with_reducible assumption | (with_reducible first | apply State.enumAck_keeps | apply State.sendDn_keeps | apply State.upd_keeps)

theorem State.assign_keeps {xs : List (Option EnumAck)} : ∀ {a : List Nat × List Nat × List Nat} {s : State}, State.Keeps pq s →
    State.Keeps pq (State.assign s xs a).2 := by
  induction xs with
  | nil => intro a s hs; exact hs
  | cons k l ih =>
    intro a s hs
    cases k with
    | none => exact ih hs
    | some k =>
      unfold State.assign
      refine ite_snd_keeps (ih (State.sysFault_keeps hs)) ?_
      split
      · exact ih hs
      · split
        · exact ih (State.upd_keeps hs)
        · exact ih (State.sysFault_keeps hs)

theorem State.makeTopo_keeps {s : State} (hs : State.Keeps pq s) :
    State.Keeps pq (State.makeTopo s) := by
  unfold State.makeTopo
  repeat' first | with_reducible assumption | (intro _) | (with_reducible first | apply State.assign_keeps | apply State.wr_keeps | apply State.upd_keeps)

theorem State.sendTopo_keeps {s : State} (hs : State.Keeps pq s) :
    State.Keeps pq (State.sendTopo s) := by
  unfold State.sendTopo
  repeat' first | with_reducible assumption | (with_reducible first | apply State.makeTopo_keeps | apply State.hdgSeal_keeps | apply State.sendDn_keeps)

theorem State.hdgAuth_keeps {s : State} {f : HdgFrame} (hs : State.Keeps pq s) :
    State.Keeps pq (State.hdgAuth s f).2 := by
  unfold State.hdgAuth
  repeat' first | with_reducible assumption | (with_reducible first | apply ite_snd_keeps | apply ite_snd2_keeps | apply State.sat_keeps | apply State.trig_keeps | apply ite_keeps | apply State.upd_keeps)

theorem State.hdgBad_keeps {s : State} (hs : State.Keeps pq s) :
    State.Keeps pq (State.hdgBad s) := by
  unfold State.hdgBad
  repeat' first | with_reducible assumption | (with_reducible apply State.sat_keeps)

theorem State.hopAlive_keeps {s : State} {up : Bool} {f : HdgFrame} (hs : State.Keeps pq s) :
    State.Keeps pq (State.hopAlive s up f) := by
  unfold State.hopAlive
  repeat' first | with_reducible assumption | (with_reducible first | apply State.setHop_keeps | apply State.wrb_keeps | apply State.setHdg_keeps | apply State.startEnum_keeps | apply State.passEnum_keeps | apply State.sendUp_keeps | apply ite_keeps | apply State.upd_keeps)

theorem State.hdgReceive_keeps {s : State} {ty : Nat} {up : Bool} {f : HdgFrame} {k : HdgFrame → State → State} (hs : State.Keeps pq s) (hk : ∀ f u, State.Keeps pq u → State.Keeps pq (k f u)) :
    State.Keeps pq (State.hdgReceive s ty up f k) := by
  have ha : ∀ u (g : HdgFrame), State.Keeps pq u → State.Keeps pq (if (u.hdgAuth g).1 then k g (u.hdgAuth g).2 else (u.hdgAuth g).2) :=
    fun u g h => ite_keeps (hk _ _ (State.hdgAuth_keeps h)) (State.hdgAuth_keeps h)
  unfold State.hdgReceive
  refine ite_keeps hs (ite_keeps (State.sysFault_keeps hs) (ite_keeps (State.hdgBad_keeps hs) ?_))
  exact ite_keeps (ha _ _ (State.hopAlive_keeps hs)) (hk _ _ (State.hopAlive_keeps hs))

theorem State.relay_keeps {s : State} {up : Bool} {f : HdgFrame} (hs : State.Keeps pq s) :
    State.Keeps pq (State.relay s up f) := by
  unfold State.relay
  repeat' first | with_reducible assumption | (with_reducible first | apply State.sendOn_keeps | apply ite_keeps | apply State.upd_keeps)

theorem hdgIdleFrame_keeps {t : Nat} {up : Bool} {f : HdgFrame} {s : State} (hs : State.Keeps pq s) :
    State.Keeps pq (hdgIdleFrame t up f s) := by
  unfold hdgIdleFrame
  repeat' first | with_reducible assumption | (intro _) | (with_reducible first | apply State.at__keeps | apply State.hdgReceive_keeps)

theorem hdgEnumFrame_keeps {t : Nat} {up : Bool} {f : HdgFrame} {s : State} (hs : State.Keeps pq s) :
    State.Keeps pq (hdgEnumFrame t up f s) := by
  unfold hdgEnumFrame
  repeat' first | with_reducible assumption | (intro _) | (with_reducible first | apply State.at__keeps | apply State.hdgReceive_keeps | apply State.setHdg_keeps | apply State.wr_keeps | apply State.enumAck_keeps | apply State.passEnum_keeps | apply ite_keeps | apply State.upd_keeps)

theorem hdgEnumAckFrame_keeps {t : Nat} {up : Bool} {f : HdgFrame} {s : State} (hs : State.Keeps pq s) :
    State.Keeps pq (hdgEnumAckFrame t up f s) := by
  unfold hdgEnumAckFrame
  repeat' first | with_reducible assumption | (intro _) | (with_reducible first | apply State.at__keeps | apply State.hdgReceive_keeps | apply State.relay_keeps | apply State.setHdg_keeps | apply State.trig_keeps | apply State.sendTopo_keeps | apply ite_keeps | apply State.upd_keeps)

theorem State.leaveNode_keeps {s : State} {n : Nat} (hs : State.Keeps pq s) :
    State.Keeps pq (State.leaveNode s n) := by
  unfold State.leaveNode
  repeat' first | with_reducible assumption | (with_reducible first | apply ite_keeps | apply State.upd_keeps)

theorem State.takePos_keeps {s : State} {p : Nat} (hs : State.Keeps pq s) :
    State.Keeps pq (State.takePos s p) := by
  unfold State.takePos
  repeat' first | with_reducible assumption | (with_reducible first | apply State.leaveNode_keeps | apply State.wr_keeps | apply State.setHdg_keeps | apply State.wrb_keeps | apply State.sysFault_keeps | apply State.trig_keeps | apply ite_keeps | apply State.upd_keeps)

theorem hdgTopoFrame_keeps {t : Nat} {up : Bool} {f : HdgFrame} {s : State} (hs : State.Keeps pq s) :
    State.Keeps pq (hdgTopoFrame t up f s) := by
  unfold hdgTopoFrame
  repeat' first | with_reducible assumption | (intro _) | (with_reducible first | apply State.at__keeps | apply State.hdgReceive_keeps | apply State.takePos_keeps | apply State.relay_keeps | apply State.enumAck_keeps | apply ite_keeps | apply State.upd_keeps)

theorem hdgChangeFrame_keeps {t : Nat} {up : Bool} {f : HdgFrame} {s : State} (hs : State.Keeps pq s) :
    State.Keeps pq (hdgChangeFrame t up f s) := by
  unfold hdgChangeFrame
  repeat' first | with_reducible assumption | (intro _) | (with_reducible first | apply State.at__keeps | apply State.hdgReceive_keeps | apply State.trig_keeps | apply State.startEnum_keeps | apply State.relay_keeps | apply ite_keeps)

theorem hdgSyncFrame_keeps {t : Nat} {up : Bool} {f : HdgFrame} {s : State} (hs : State.Keeps pq s) :
    State.Keeps pq (hdgSyncFrame t up f s) := by
  unfold hdgSyncFrame
  repeat' first | with_reducible assumption | (intro _) | (with_reducible first | apply State.at__keeps | apply State.hdgReceive_keeps | apply State.wrb_keeps | apply State.measureSource_keeps | apply State.relay_keeps | apply ite_keeps | apply State.upd_keeps)

theorem hdgDelayReqFrame_keeps {t : Nat} {up : Bool} {f : HdgFrame} {s : State} (hs : State.Keeps pq s) :
    State.Keeps pq (hdgDelayReqFrame t up f s) := by
  unfold hdgDelayReqFrame
  repeat' first | with_reducible assumption | (intro _) | (with_reducible first | apply State.at__keeps | apply State.hdgReceive_keeps | apply ite_keeps | apply State.upd_keeps)

theorem hdgDelayRspFrame_keeps {t : Nat} {up : Bool} {f : HdgFrame} {s : State} (hs : State.Keeps pq s) :
    State.Keeps pq (hdgDelayRspFrame t up f s) := by
  unfold hdgDelayRspFrame
  repeat' first | with_reducible assumption | (intro _) | (with_reducible first | apply State.at__keeps | apply State.hdgReceive_keeps | apply State.wr_keeps | apply ite_keeps) | split | (dsimp only; split) | (with_reducible apply State.upd_keeps)

theorem delayMeasurementPeriod_keeps {t : Nat} {s : State} (hs : State.Keeps pq s) :
    State.Keeps pq (delayMeasurementPeriod t s) := by
  unfold delayMeasurementPeriod
  repeat' first | with_reducible assumption | (with_reducible first | apply State.at__keeps | apply State.sendUp_keeps | apply ite_keeps | apply State.upd_keeps)

theorem syncLossTimeout_keeps {t : Nat} {s : State} (hs : State.Keeps pq s) :
    State.Keeps pq (syncLossTimeout t s) := by
  unfold syncLossTimeout
  repeat' first | with_reducible assumption | (with_reducible first | apply State.at__keeps | apply State.wrb_keeps | apply State.wr_keeps | apply ite_keeps) | split | (dsimp only; split) | (with_reducible apply State.upd_keeps)

theorem State.sendCommit_keeps {s : State} {f : HdgFrame} (hs : State.Keeps pq s) :
    State.Keeps pq (State.sendCommit s f).2 := by
  unfold State.sendCommit
  repeat' first | with_reducible assumption | (with_reducible first | apply ite_snd_keeps | apply ite_snd2_keeps | apply ite_keeps | apply State.upd_keeps)

theorem State.windowDn_keeps {s : State} (hs : State.Keeps pq s) :
    State.Keeps pq (State.windowDn s).2 := by
  unfold State.windowDn
  repeat' first | with_reducible assumption | (with_reducible first | apply ite_snd_keeps | apply ite_snd2_keeps | apply State.sendCommit_keeps | apply ite_keeps) | split | (dsimp only; split) | (with_reducible apply State.upd_keeps)

theorem State.windowUp_keeps {s : State} (hs : State.Keeps pq s) :
    State.Keeps pq (State.windowUp s).2 := by
  unfold State.windowUp
  repeat' first | with_reducible assumption | (with_reducible first | apply ite_snd_keeps | apply ite_snd2_keeps | apply ite_keeps) | split | (dsimp only; split) | (with_reducible apply State.upd_keeps)

theorem hopCycle_keeps {t : Nat} {up : Bool} {s : State} (hs : State.Keeps pq s) :
    State.Keeps pq (hopCycle t up s) := by
  unfold hopCycle
  repeat' first | with_reducible assumption | (with_reducible first | apply State.at__keeps | apply State.enumAck_keeps | apply State.windowUp_keeps | apply State.windowDn_keeps | apply ite_keeps) | split | (dsimp only; split) | (with_reducible apply State.upd_keeps)

theorem hopDownTimeout_keeps {t : Nat} {up : Bool} {s : State} (hs : State.Keeps pq s) :
    State.Keeps pq (hopDownTimeout t up s) := by
  unfold hopDownTimeout
  repeat' first | with_reducible assumption | (with_reducible first | apply State.at__keeps | apply State.setHop_keeps | apply State.setHdg_keeps | apply State.sendUp_keeps | apply ite_keeps)

theorem hdgFrameTruncation_keeps {t : Nat} {_up : Bool} {s : State} (hs : State.Keeps pq s) :
    State.Keeps pq (hdgFrameTruncation t _up s) := by
  unfold hdgFrameTruncation
  repeat' first | with_reducible assumption | (with_reducible first | apply State.at__keeps | apply State.sat_keeps | apply ite_keeps)

theorem hdgInvalidFrame_keeps {t : Nat} {_up : Bool} {s : State} (hs : State.Keeps pq s) :
    State.Keeps pq (hdgInvalidFrame t _up s) := by
  unfold hdgInvalidFrame
  repeat' first | with_reducible assumption | (with_reducible first | apply State.at__keeps | apply State.hdgBad_keeps | apply ite_keeps)

theorem enumRestartTimeout_keeps {t : Nat} {s : State} (hs : State.Keeps pq s) :
    State.Keeps pq (enumRestartTimeout t s) := by
  unfold enumRestartTimeout
  repeat' first | with_reducible assumption | (with_reducible first | apply State.at__keeps | apply State.startEnum_keeps | apply ite_keeps) | split | (dsimp only; split)

theorem bypassOpen_keeps {t : Nat} {s : State} (hs : State.Keeps pq s) :
    State.Keeps pq (bypassOpen t s) := by
  unfold bypassOpen
  repeat' first | with_reducible assumption | (with_reducible first | apply State.at__keeps | apply State.startEnum_keeps | apply State.setHdg_keeps | apply State.wr_keeps | apply ite_keeps | apply State.upd_keeps)

theorem hdgCommitFrame_keeps {t : Nat} {up : Bool} {f : HdgFrame} {s : State} (hs : State.Keeps pq s) :
    State.Keeps pq (hdgCommitFrame t up f s) := by
  unfold hdgCommitFrame
  repeat' first | with_reducible assumption | (intro _) | (with_reducible first | apply State.at__keeps | apply State.hdgReceive_keeps | apply State.relay_keeps | apply State.trig_keeps | apply State.commitNow_keeps | apply ite_keeps | apply State.upd_keeps)

theorem hdgStatusBody_keeps {x0 : Cmd} {s : State} (hs : State.Keeps pq s) :
    Res.Keeps pq (hdgStatusBody x0 s) := by
  unfold hdgStatusBody
  repeat' first | with_reducible assumption | (intro _) | (with_reducible first | apply Res.refuse_keeps | apply Res.done_keeps | apply Res.later_keeps | apply Res.wait_keeps)

theorem hdgTopologyBody_keeps {c : Cmd} {s : State} (hs : State.Keeps pq s) :
    Res.Keeps pq (hdgTopologyBody c s) := by
  unfold hdgTopologyBody
  repeat' first | with_reducible assumption | (intro _) | (with_reducible first | apply need_keeps | apply Res.refuse_keeps | apply Res.done_keeps | apply Res.later_keeps | apply Res.wait_keeps)

theorem hdgEnumBody_keeps {c : Cmd} {s : State} (hs : State.Keeps pq s) :
    Res.Keeps pq (hdgEnumBody c s) := by
  unfold hdgEnumBody
  repeat' first | with_reducible assumption | (with_reducible first | apply need_keeps | apply State.startEnum_keeps | apply Res.refuse_keeps | apply Res.done_keeps | apply Res.later_keeps | apply Res.wait_keeps)

theorem hdgMapForgetBody_keeps {c : Cmd} {s : State} (hs : State.Keeps pq s) :
    Res.Keeps pq (hdgMapForgetBody c s) := by
  unfold hdgMapForgetBody
  repeat' first | with_reducible assumption | (intro _) | (with_reducible first | apply need_keeps | apply Res.refuse_keeps | apply Res.done_keeps | apply Res.later_keeps | apply Res.wait_keeps) | split | (dsimp only; split) | (with_reducible apply State.upd_keeps)

/-! ## Machine/Devices.lean -/

theorem devIdentityBody_keeps {x0 : Cmd} {s : State} (hs : State.Keeps pq s) :
    Res.Keeps pq (devIdentityBody x0 s) := by
  unfold devIdentityBody
  repeat' first | with_reducible assumption | (with_reducible first | apply Res.refuse_keeps | apply Res.done_keeps | apply Res.later_keeps | apply Res.wait_keeps | apply res_ite_keeps | apply ite_keeps)

theorem devVersionBody_keeps {x0 : Cmd} {s : State} (hs : State.Keeps pq s) :
    Res.Keeps pq (devVersionBody x0 s) := by
  unfold devVersionBody
  repeat' first | with_reducible assumption | (with_reducible first | apply Res.refuse_keeps | apply Res.done_keeps | apply Res.later_keeps | apply Res.wait_keeps)

theorem devStateBody_keeps {x0 : Cmd} {s : State} (hs : State.Keeps pq s) :
    Res.Keeps pq (devStateBody x0 s) := by
  unfold devStateBody
  repeat' first | with_reducible assumption | (with_reducible first | apply Res.refuse_keeps | apply Res.done_keeps | apply Res.later_keeps | apply Res.wait_keeps | apply res_ite_keeps | apply ite_keeps)

theorem devTimeBody_keeps {x0 : Cmd} {s : State} (hs : State.Keeps pq s) :
    Res.Keeps pq (devTimeBody x0 s) := by
  unfold devTimeBody
  repeat' first | with_reducible assumption | (with_reducible first | apply Res.refuse_keeps | apply Res.done_keeps | apply Res.later_keeps | apply Res.wait_keeps)

theorem devEchoBody_keeps {c : Cmd} {s : State} (hs : State.Keeps pq s) :
    Res.Keeps pq (devEchoBody c s) := by
  unfold devEchoBody
  repeat' first | with_reducible assumption | (with_reducible first | apply Res.refuse_keeps | apply Res.done_keeps | apply Res.later_keeps | apply Res.wait_keeps)

theorem devMbxStatsBody_keeps {c : Cmd} {s : State} (hs : State.Keeps pq s) :
    Res.Keeps pq (devMbxStatsBody c s) := by
  unfold devMbxStatsBody
  repeat' first | with_reducible assumption | (with_reducible first | apply need_keeps | apply Res.refuse_keeps | apply Res.done_keeps | apply Res.later_keeps | apply Res.wait_keeps) | split | (dsimp only; split)

theorem requestUndefinedOpcode_keeps {r : Req} {op : Nat} {s : State} (hs : State.Keeps pq s) :
    State.Keeps pq (requestUndefinedOpcode r op s) := by
  unfold requestUndefinedOpcode
  repeat' first | with_reducible assumption | (exact cmdOfOp_keeps (by assumption)) | (with_reducible first | apply State.at__keeps | apply State.take_keeps | apply State.respond_keeps | apply ite_keeps)

theorem dCanConfig_keeps : CmdDef.Keeps pq dCanConfig := body_keeps (b := canConfigBody) (by unfold dCanConfig; dsimp only) (fun c s h => @canConfigBody_keeps pq c s h)
theorem dCanStatus_keeps : CmdDef.Keeps pq dCanStatus := body_keeps (b := canStatusBody) (by unfold dCanStatus; dsimp only) (fun c s h => @canStatusBody_keeps pq c s h)
theorem dCanRecover_keeps : CmdDef.Keeps pq dCanRecover := body_keeps (b := canRecoverBody) (by unfold dCanRecover; dsimp only) (fun c s h => @canRecoverBody_keeps pq c s h)
theorem dLinConfig_keeps : CmdDef.Keeps pq dLinConfig := body_keeps (b := linConfigBody) (by unfold dLinConfig; dsimp only) (fun c s h => @linConfigBody_keeps pq c s h)
theorem dLinTableLoad_keeps : CmdDef.Keeps pq dLinTableLoad := body_keeps (b := linTableLoadBody) (by unfold dLinTableLoad; dsimp only) (fun c s h => @linTableLoadBody_keeps pq c s h)
theorem dLinSchedule_keeps : CmdDef.Keeps pq dLinSchedule := body_keeps (b := linScheduleBody) (by unfold dLinSchedule; dsimp only) (fun c s h => @linScheduleBody_keeps pq c s h)
theorem dLinStatus_keeps : CmdDef.Keeps pq dLinStatus := body_keeps (b := linStatusBody) (by unfold dLinStatus; dsimp only) (fun c s h => @linStatusBody_keeps pq c s h)
theorem dCellSet_keeps : CmdDef.Keeps pq dCellSet := body_keeps (b := cellSetBody) (by unfold dCellSet; dsimp only) (fun c s h => @cellSetBody_keeps pq c s h)
theorem dCellConfig_keeps : CmdDef.Keeps pq dCellConfig := body_keeps (b := cellConfigBody) (by unfold dCellConfig; dsimp only) (fun c s h => @cellConfigBody_keeps pq c s h)
theorem dCellStatus_keeps : CmdDef.Keeps pq dCellStatus := body_keeps (b := cellStatusBody) (by unfold dCellStatus; dsimp only) (fun c s h => @cellStatusBody_keeps pq c s h)
theorem dCellClear_keeps : CmdDef.Keeps pq dCellClear := body_keeps (b := cellClearBody) (by unfold dCellClear; dsimp only) (fun c s h => @cellClearBody_keeps pq c s h)
theorem dCellReadConfig_keeps : CmdDef.Keeps pq dCellReadConfig := body_keeps (b := cellReadConfigBody) (by unfold dCellReadConfig; dsimp only) (fun c s h => @cellReadConfigBody_keeps pq c s h)
theorem dGangSet_keeps : CmdDef.Keeps pq dGangSet := body_keeps (b := gangSetBody) (by unfold dGangSet; dsimp only) (fun c s h => @gangSetBody_keeps pq c s h)
theorem dGangConfig_keeps : CmdDef.Keeps pq dGangConfig := body_keeps (b := gangConfigBody) (by unfold dGangConfig; dsimp only) (fun c s h => @gangConfigBody_keeps pq c s h)
theorem dGangStatus_keeps : CmdDef.Keeps pq dGangStatus := body_keeps (b := gangStatusBody) (by unfold dGangStatus; dsimp only) (fun c s h => @gangStatusBody_keeps pq c s h)
theorem dGangClear_keeps : CmdDef.Keeps pq dGangClear := body_keeps (b := gangClearBody) (by unfold dGangClear; dsimp only) (fun c s h => @gangClearBody_keeps pq c s h)
theorem dBridgeSet_keeps : CmdDef.Keeps pq dBridgeSet := body_keeps (b := bridgeSetBody) (by unfold dBridgeSet; dsimp only) (fun c s h => @bridgeSetBody_keeps pq c s h)
theorem dBridgeConfig_keeps : CmdDef.Keeps pq dBridgeConfig := body_keeps (b := bridgeConfigBody) (by unfold dBridgeConfig; dsimp only) (fun c s h => @bridgeConfigBody_keeps pq c s h)
theorem dBridgeStatus_keeps : CmdDef.Keeps pq dBridgeStatus := body_keeps (b := bridgeStatusBody) (by unfold dBridgeStatus; dsimp only) (fun c s h => @bridgeStatusBody_keeps pq c s h)
theorem dBridgeClear_keeps : CmdDef.Keeps pq dBridgeClear := body_keeps (b := bridgeClearBody) (by unfold dBridgeClear; dsimp only) (fun c s h => @bridgeClearBody_keeps pq c s h)
theorem dProbeRun_keeps : CmdDef.Keeps pq dProbeRun := body_keeps (b := probeRunBody) (by unfold dProbeRun; dsimp only) (fun c s h => @probeRunBody_keeps pq c s h)
theorem dProbeResult_keeps : CmdDef.Keeps pq dProbeResult := body_keeps (b := probeResultBody) (by unfold dProbeResult; dsimp only) (fun c s h => @probeResultBody_keeps pq c s h)
theorem dGangReadConfig_keeps : CmdDef.Keeps pq dGangReadConfig := body_keeps (b := gangReadConfigBody) (by unfold dGangReadConfig; dsimp only) (fun c s h => @gangReadConfigBody_keeps pq c s h)
theorem dHdgStatus_keeps : CmdDef.Keeps pq dHdgStatus := body_keeps (b := hdgStatusBody) (by unfold dHdgStatus; dsimp only) (fun c s h => @hdgStatusBody_keeps pq c s h)
theorem dHdgTopology_keeps : CmdDef.Keeps pq dHdgTopology := body_keeps (b := hdgTopologyBody) (by unfold dHdgTopology; dsimp only) (fun c s h => @hdgTopologyBody_keeps pq c s h)
theorem dHdgEnum_keeps : CmdDef.Keeps pq dHdgEnum := body_keeps (b := hdgEnumBody) (by unfold dHdgEnum; dsimp only) (fun c s h => @hdgEnumBody_keeps pq c s h)
theorem dHdgMapForget_keeps : CmdDef.Keeps pq dHdgMapForget := body_keeps (b := hdgMapForgetBody) (by unfold dHdgMapForget; dsimp only) (fun c s h => @hdgMapForgetBody_keeps pq c s h)
theorem dCycStatus_keeps : CmdDef.Keeps pq dCycStatus := body_keeps (b := cycStatusBody) (by unfold dCycStatus; dsimp only) (fun c s h => @cycStatusBody_keeps pq c s h)
theorem dCycTaskStatus_keeps : CmdDef.Keeps pq dCycTaskStatus := body_keeps (b := cycTaskStatusBody) (by unfold dCycTaskStatus; dsimp only) (fun c s h => @cycTaskStatusBody_keeps pq c s h)
theorem dCycLoad_keeps : CmdDef.Keeps pq dCycLoad := body_keeps (b := cycLoadBody) (by unfold dCycLoad; dsimp only) (fun c s h => @cycLoadBody_keeps pq c s h)
theorem dCycSwap_keeps : CmdDef.Keeps pq dCycSwap := body_keeps (b := cycSwapBody) (by unfold dCycSwap; dsimp only) (fun c s h => @cycSwapBody_keeps pq c s h)
theorem dCycStart_keeps : CmdDef.Keeps pq dCycStart := body_keeps (b := cycStartBody) (by unfold dCycStart; dsimp only) (fun c s h => @cycStartBody_keeps pq c s h)
theorem dCycStop_keeps : CmdDef.Keeps pq dCycStop := body_keeps (b := cycStopBody) (by unfold dCycStop; dsimp only) (fun c s h => @cycStopBody_keeps pq c s h)
theorem dCycHold_keeps : CmdDef.Keeps pq dCycHold := body_keeps (b := cycHoldBody) (by unfold dCycHold; dsimp only) (fun c s h => @cycHoldBody_keeps pq c s h)
theorem dCycTaskRestart_keeps : CmdDef.Keeps pq dCycTaskRestart := body_keeps (b := cycTaskRestartBody) (by unfold dCycTaskRestart; dsimp only) (fun c s h => @cycTaskRestartBody_keeps pq c s h)
theorem dCycChange_keeps : CmdDef.Keeps pq dCycChange := body_keeps (b := cycChangeBody) (by unfold dCycChange; dsimp only) (fun c s h => @cycChangeBody_keeps pq c s h)
theorem dCycForce_keeps : CmdDef.Keeps pq dCycForce := body_keeps (b := cycForceBody) (by unfold dCycForce; dsimp only) (fun c s h => @cycForceBody_keeps pq c s h)
theorem dCycVarRead_keeps : CmdDef.Keeps pq dCycVarRead := body_keeps (b := cycVarReadBody) (by unfold dCycVarRead; dsimp only) (fun c s h => @cycVarReadBody_keeps pq c s h)
theorem dCycEvent_keeps : CmdDef.Keeps pq dCycEvent := body_keeps (b := cycEventBody) (by unfold dCycEvent; dsimp only) (fun c s h => @cycEventBody_keeps pq c s h)
theorem dDevIdentity_keeps : CmdDef.Keeps pq dDevIdentity := body_keeps (b := devIdentityBody) (by unfold dDevIdentity; dsimp only) (fun c s h => @devIdentityBody_keeps pq c s h)
theorem dDevVersion_keeps : CmdDef.Keeps pq dDevVersion := body_keeps (b := devVersionBody) (by unfold dDevVersion; dsimp only) (fun c s h => @devVersionBody_keeps pq c s h)
theorem dDevState_keeps : CmdDef.Keeps pq dDevState := body_keeps (b := devStateBody) (by unfold dDevState; dsimp only) (fun c s h => @devStateBody_keeps pq c s h)
theorem dDevTime_keeps : CmdDef.Keeps pq dDevTime := body_keeps (b := devTimeBody) (by unfold dDevTime; dsimp only) (fun c s h => @devTimeBody_keeps pq c s h)
theorem dDevEcho_keeps : CmdDef.Keeps pq dDevEcho := body_keeps (b := devEchoBody) (by unfold dDevEcho; dsimp only) (fun c s h => @devEchoBody_keeps pq c s h)
theorem dDevMbxStats_keeps : CmdDef.Keeps pq dDevMbxStats := body_keeps (b := devMbxStatsBody) (by unfold dDevMbxStats; dsimp only) (fun c s h => @devMbxStatsBody_keeps pq c s h)
theorem dBudgetStatus_keeps : CmdDef.Keeps pq dBudgetStatus := body_keeps (b := budgetStatusBody) (by unfold dBudgetStatus; dsimp only) (fun c s h => @budgetStatusBody_keeps pq c s h)
theorem dBudgetObject_keeps : CmdDef.Keeps pq dBudgetObject := body_keeps (b := budgetObjectBody) (by unfold dBudgetObject; dsimp only) (fun c s h => @budgetObjectBody_keeps pq c s h)
theorem dBudgetObjStatus_keeps : CmdDef.Keeps pq dBudgetObjStatus := body_keeps (b := budgetObjStatusBody) (by unfold dBudgetObjStatus; dsimp only) (fun c s h => @budgetObjStatusBody_keeps pq c s h)
theorem dEnergyRead_keeps : CmdDef.Keeps pq dEnergyRead := body_keeps (b := energyReadBody) (by unfold dEnergyRead; dsimp only) (fun c s h => @energyReadBody_keeps pq c s h)
theorem dEnergyLogRead_keeps : CmdDef.Keeps pq dEnergyLogRead := body_keeps (b := energyLogReadBody) (by unfold dEnergyLogRead; dsimp only) (fun c s h => @energyLogReadBody_keeps pq c s h)
theorem dFaultStatus_keeps : CmdDef.Keeps pq dFaultStatus := body_keeps (b := faultStatusBody) (by unfold dFaultStatus; dsimp only) (fun c s h => @faultStatusBody_keeps pq c s h)
theorem dFaultLogRead_keeps : CmdDef.Keeps pq dFaultLogRead := body_keeps (b := faultLogReadBody) (by unfold dFaultLogRead; dsimp only) (fun c s h => @faultLogReadBody_keeps pq c s h)
theorem dFaultCapture_keeps : CmdDef.Keeps pq dFaultCapture := body_keeps (b := faultCaptureBody) (by unfold dFaultCapture; dsimp only) (fun c s h => @faultCaptureBody_keeps pq c s h)
theorem dFaultRecoveryClear_keeps : CmdDef.Keeps pq dFaultRecoveryClear := body_keeps (b := faultRecoveryClearBody) (by unfold dFaultRecoveryClear; dsimp only) (fun c s h => @faultRecoveryClearBody_keeps pq c s h)
theorem dFaultInject_keeps : CmdDef.Keeps pq dFaultInject := body_keeps (b := faultInjectBody) (by unfold dFaultInject; dsimp only) (fun c s h => @faultInjectBody_keeps pq c s h)
theorem dGwyStatus_keeps : CmdDef.Keeps pq dGwyStatus := body_keeps (b := gwyStatusBody) (by unfold dGwyStatus; dsimp only) (fun c s h => @gwyStatusBody_keeps pq c s h)
theorem dGwyRouteStatus_keeps : CmdDef.Keeps pq dGwyRouteStatus := body_keeps (b := gwyRouteStatusBody) (by unfold dGwyRouteStatus; dsimp only) (fun c s h => @gwyRouteStatusBody_keeps pq c s h)
theorem dGwyRouteEnable_keeps : CmdDef.Keeps pq dGwyRouteEnable := body_keeps (b := gwyRouteEnableBody) (by unfold dGwyRouteEnable; dsimp only) (fun c s h => @gwyRouteEnableBody_keeps pq c s h)
theorem dGwyPduRead_keeps : CmdDef.Keeps pq dGwyPduRead := body_keeps (b := gwyPduReadBody) (by unfold dGwyPduRead; dsimp only) (fun c s h => @gwyPduReadBody_keeps pq c s h)
theorem dGwyBridgeLog_keeps : CmdDef.Keeps pq dGwyBridgeLog := body_keeps (b := gwyBridgeLogBody) (by unfold dGwyBridgeLog; dsimp only) (fun c s h => @gwyBridgeLogBody_keeps pq c s h)
theorem dKeyStatus_keeps : CmdDef.Keeps pq dKeyStatus := body_keeps (b := keyStatusBody) (by unfold dKeyStatus; dsimp only) (fun c s h => @keyStatusBody_keeps pq c s h)
theorem dKeyDerive_keeps : CmdDef.Keeps pq dKeyDerive := body_keeps (b := keyDeriveBody) (by unfold dKeyDerive; dsimp only) (fun c s h => @keyDeriveBody_keeps pq c s h)
theorem dKeyImport_keeps : CmdDef.Keeps pq dKeyImport := body_keeps (b := keyImportBody) (by unfold dKeyImport; dsimp only) (fun c s h => @keyImportBody_keeps pq c s h)
theorem dKeyCommit_keeps : CmdDef.Keeps pq dKeyCommit := body_keeps (b := keyCommitBody) (by unfold dKeyCommit; dsimp only) (fun c s h => @keyCommitBody_keeps pq c s h)
theorem dKeyDiscard_keeps : CmdDef.Keeps pq dKeyDiscard := body_keeps (b := keyDiscardBody) (by unfold dKeyDiscard; dsimp only) (fun c s h => @keyDiscardBody_keeps pq c s h)
theorem dKeyRevoke_keeps : CmdDef.Keeps pq dKeyRevoke := body_keeps (b := keyRevokeBody) (by unfold dKeyRevoke; dsimp only) (fun c s h => @keyRevokeBody_keeps pq c s h)
theorem dKeyOp_keeps : CmdDef.Keeps pq dKeyOp := body_keeps (b := keyOpBody) (by unfold dKeyOp; dsimp only) (fun c s h => @keyOpBody_keeps pq c s h)
theorem dKeyAttest_keeps : CmdDef.Keeps pq dKeyAttest := body_keeps (b := keyAttestBody) (by unfold dKeyAttest; dsimp only) (fun c s h => @keyAttestBody_keeps pq c s h)
theorem dKeyRandom_keeps : CmdDef.Keeps pq dKeyRandom := body_keeps (b := keyRandomBody) (by unfold dKeyRandom; dsimp only) (fun c s h => @keyRandomBody_keeps pq c s h)
theorem dTamperStatus_keeps : CmdDef.Keeps pq dTamperStatus := body_keeps (b := tamperStatusBody) (by unfold dTamperStatus; dsimp only) (fun c s h => @tamperStatusBody_keeps pq c s h)
theorem dTamperClear_keeps : CmdDef.Keeps pq dTamperClear := body_keeps (b := tamperClearBody) (by unfold dTamperClear; dsimp only) (fun c s h => @tamperClearBody_keeps pq c s h)
theorem dConfigStatus_keeps : CmdDef.Keeps pq dConfigStatus := body_keeps (b := configStatusBody) (by unfold dConfigStatus; dsimp only) (fun c s h => @configStatusBody_keeps pq c s h)
theorem dOverlaySwitch_keeps : CmdDef.Keeps pq dOverlaySwitch := body_keeps (b := overlaySwitchBody) (by unfold dOverlaySwitch; dsimp only) (fun c s h => @overlaySwitchBody_keeps pq c s h)
theorem dConfigCommit_keeps : CmdDef.Keeps pq dConfigCommit := body_keeps (b := configCommitBody) (by unfold dConfigCommit; dsimp only) (fun c s h => @configCommitBody_keeps pq c s h)
theorem dServiceOpen_keeps : CmdDef.Keeps pq dServiceOpen := body_keeps (b := serviceOpenBody) (by unfold dServiceOpen; dsimp only) (fun c s h => @serviceOpenBody_keeps pq c s h)
theorem dServiceClose_keeps : CmdDef.Keeps pq dServiceClose := body_keeps (b := serviceCloseBody) (by unfold dServiceClose; dsimp only) (fun c s h => @serviceCloseBody_keeps pq c s h)
theorem dMaintRequest_keeps : CmdDef.Keeps pq dMaintRequest := body_keeps (b := maintRequestBody) (by unfold dMaintRequest; dsimp only) (fun c s h => @maintRequestBody_keeps pq c s h)
theorem dMaintStatus_keeps : CmdDef.Keeps pq dMaintStatus := body_keeps (b := maintStatusBody) (by unfold dMaintStatus; dsimp only) (fun c s h => @maintStatusBody_keeps pq c s h)
theorem dMaintCancel_keeps : CmdDef.Keeps pq dMaintCancel := body_keeps (b := maintCancelBody) (by unfold dMaintCancel; dsimp only) (fun c s h => @maintCancelBody_keeps pq c s h)
theorem dPairStatus_keeps : CmdDef.Keeps pq dPairStatus := body_keeps (b := pairStatusBody) (by unfold dPairStatus; dsimp only) (fun c s h => @pairStatusBody_keeps pq c s h)
theorem dPartStatus_keeps : CmdDef.Keeps pq dPartStatus := body_keeps (b := partStatusBody) (by unfold dPartStatus; dsimp only) (fun c s h => @partStatusBody_keeps pq c s h)
theorem dPartReady_keeps : CmdDef.Keeps pq dPartReady := body_keeps (b := partReadyBody) (by unfold dPartReady; dsimp only) (fun c s h => @partReadyBody_keeps pq c s h)
theorem dPartReset_keeps : CmdDef.Keeps pq dPartReset := body_keeps (b := partResetBody) (by unfold dPartReset; dsimp only) (fun c s h => @partResetBody_keeps pq c s h)
theorem dPartRelease_keeps : CmdDef.Keeps pq dPartRelease := body_keeps (b := partReleaseBody) (by unfold dPartRelease; dsimp only) (fun c s h => @partReleaseBody_keeps pq c s h)
theorem dPartStoreInfo_keeps : CmdDef.Keeps pq dPartStoreInfo := body_keeps (b := partStoreInfoBody) (by unfold dPartStoreInfo; dsimp only) (fun c s h => @partStoreInfoBody_keeps pq c s h)
theorem dPartStoreRead_keeps : CmdDef.Keeps pq dPartStoreRead := body_keeps (b := partStoreReadBody) (by unfold dPartStoreRead; dsimp only) (fun c s h => @partStoreReadBody_keeps pq c s h)
theorem dPartStoreWrite_keeps : CmdDef.Keeps pq dPartStoreWrite := body_keeps (b := partStoreWriteBody) (by unfold dPartStoreWrite; dsimp only) (fun c s h => @partStoreWriteBody_keeps pq c s h)
theorem dSlpVote_keeps : CmdDef.Keeps pq dSlpVote := body_keeps (b := slpVoteBody) (by unfold dSlpVote; dsimp only) (fun c s h => @slpVoteBody_keeps pq c s h)
theorem dSlpStatus_keeps : CmdDef.Keeps pq dSlpStatus := body_keeps (b := slpStatusBody) (by unfold dSlpStatus; dsimp only) (fun c s h => @slpStatusBody_keeps pq c s h)
theorem dSlpWakeInfo_keeps : CmdDef.Keeps pq dSlpWakeInfo := body_keeps (b := slpWakeInfoBody) (by unfold dSlpWakeInfo; dsimp only) (fun c s h => @slpWakeInfoBody_keeps pq c s h)
theorem dSlpChannel_keeps : CmdDef.Keeps pq dSlpChannel := body_keeps (b := slpChannelBody) (by unfold dSlpChannel; dsimp only) (fun c s h => @slpChannelBody_keeps pq c s h)
theorem dSlpAlarm_keeps : CmdDef.Keeps pq dSlpAlarm := body_keeps (b := slpAlarmBody) (by unfold dSlpAlarm; dsimp only) (fun c s h => @slpAlarmBody_keeps pq c s h)
theorem dSlpSwkConfig_keeps : CmdDef.Keeps pq dSlpSwkConfig := body_keeps (b := slpSwkConfigBody) (by unfold dSlpSwkConfig; dsimp only) (fun c s h => @slpSwkConfigBody_keeps pq c s h)
theorem dBootStatus_keeps : CmdDef.Keeps pq dBootStatus := body_keeps (b := bootStatusBody) (by unfold dBootStatus; dsimp only) (fun c s h => @bootStatusBody_keeps pq c s h)
theorem dDeviceReset_keeps : CmdDef.Keeps pq dDeviceReset := body_keeps (b := deviceResetBody) (by unfold dDeviceReset; dsimp only) (fun c s h => @deviceResetBody_keeps pq c s h)
theorem dCoppiceExit_keeps : CmdDef.Keeps pq dCoppiceExit := body_keeps (b := coppiceExitBody) (by unfold dCoppiceExit; dsimp only) (fun c s h => @coppiceExitBody_keeps pq c s h)
theorem dSwcPortStatus_keeps : CmdDef.Keeps pq dSwcPortStatus := body_keeps (b := swcPortStatusBody) (by unfold dSwcPortStatus; dsimp only) (fun c s h => @swcPortStatusBody_keeps pq c s h)
theorem dSwcPortConfig_keeps : CmdDef.Keeps pq dSwcPortConfig := body_keeps (b := swcPortConfigBody) (by unfold dSwcPortConfig; dsimp only) (fun c s h => @swcPortConfigBody_keeps pq c s h)
theorem dSwcQueueConfig_keeps : CmdDef.Keeps pq dSwcQueueConfig := body_keeps (b := swcQueueConfigBody) (by unfold dSwcQueueConfig; dsimp only) (fun c s h => @swcQueueConfigBody_keeps pq c s h)
theorem dSwcQueueStatus_keeps : CmdDef.Keeps pq dSwcQueueStatus := body_keeps (b := swcQueueStatusBody) (by unfold dSwcQueueStatus; dsimp only) (fun c s h => @swcQueueStatusBody_keeps pq c s h)
theorem dSwcCounters_keeps : CmdDef.Keeps pq dSwcCounters := body_keeps (b := swcCountersBody) (by unfold dSwcCounters; dsimp only) (fun c s h => @swcCountersBody_keeps pq c s h)
theorem dSwcFdbSet_keeps : CmdDef.Keeps pq dSwcFdbSet := body_keeps (b := swcFdbSetBody) (by unfold dSwcFdbSet; dsimp only) (fun c s h => @swcFdbSetBody_keeps pq c s h)
theorem dSwcFdbRead_keeps : CmdDef.Keeps pq dSwcFdbRead := body_keeps (b := swcFdbReadBody) (by unfold dSwcFdbRead; dsimp only) (fun c s h => @swcFdbReadBody_keeps pq c s h)
theorem dSwcVlanConfig_keeps : CmdDef.Keeps pq dSwcVlanConfig := body_keeps (b := swcVlanConfigBody) (by unfold dSwcVlanConfig; dsimp only) (fun c s h => @swcVlanConfigBody_keeps pq c s h)
theorem dSwcPolicer_keeps : CmdDef.Keeps pq dSwcPolicer := body_keeps (b := swcPolicerBody) (by unfold dSwcPolicer; dsimp only) (fun c s h => @swcPolicerBody_keeps pq c s h)
theorem dSwcMacsecSa_keeps : CmdDef.Keeps pq dSwcMacsecSa := body_keeps (b := swcMacsecSaBody) (by unfold dSwcMacsecSa; dsimp only) (fun c s h => @swcMacsecSaBody_keeps pq c s h)
theorem dSwcAudit_keeps : CmdDef.Keeps pq dSwcAudit := body_keeps (b := swcAuditBody) (by unfold dSwcAudit; dsimp only) (fun c s h => @swcAuditBody_keeps pq c s h)
theorem dTsnGclSet_keeps : CmdDef.Keeps pq dTsnGclSet := body_keeps (b := tsnGclSetBody) (by unfold dTsnGclSet; dsimp only) (fun c s h => @tsnGclSetBody_keeps pq c s h)
theorem dTsnGclStatus_keeps : CmdDef.Keeps pq dTsnGclStatus := body_keeps (b := tsnGclStatusBody) (by unfold dTsnGclStatus; dsimp only) (fun c s h => @tsnGclStatusBody_keeps pq c s h)
theorem dTsnShaperConfig_keeps : CmdDef.Keeps pq dTsnShaperConfig := body_keeps (b := tsnShaperConfigBody) (by unfold dTsnShaperConfig; dsimp only) (fun c s h => @tsnShaperConfigBody_keeps pq c s h)
theorem dTsnPreemptConfig_keeps : CmdDef.Keeps pq dTsnPreemptConfig := body_keeps (b := tsnPreemptConfigBody) (by unfold dTsnPreemptConfig; dsimp only) (fun c s h => @tsnPreemptConfigBody_keeps pq c s h)
theorem dTsnStreamSet_keeps : CmdDef.Keeps pq dTsnStreamSet := body_keeps (b := tsnStreamSetBody) (by unfold dTsnStreamSet; dsimp only) (fun c s h => @tsnStreamSetBody_keeps pq c s h)
theorem dTsnStreamStatus_keeps : CmdDef.Keeps pq dTsnStreamStatus := body_keeps (b := tsnStreamStatusBody) (by unfold dTsnStreamStatus; dsimp only) (fun c s h => @tsnStreamStatusBody_keeps pq c s h)
theorem dTsnFrerSet_keeps : CmdDef.Keeps pq dTsnFrerSet := body_keeps (b := tsnFrerSetBody) (by unfold dTsnFrerSet; dsimp only) (fun c s h => @tsnFrerSetBody_keeps pq c s h)
theorem dTsnGptpStatus_keeps : CmdDef.Keeps pq dTsnGptpStatus := body_keeps (b := tsnGptpStatusBody) (by unfold dTsnGptpStatus; dsimp only) (fun c s h => @tsnGptpStatusBody_keeps pq c s h)
theorem dFaSenderSet_keeps : CmdDef.Keeps pq dFaSenderSet := body_keeps (b := faSenderSetBody) (by unfold dFaSenderSet; dsimp only) (fun c s h => @faSenderSetBody_keeps pq c s h)
theorem dFaStatus_keeps : CmdDef.Keeps pq dFaStatus := body_keeps (b := faStatusBody) (by unfold dFaStatus; dsimp only) (fun c s h => @faStatusBody_keeps pq c s h)
theorem dUpdStatus_keeps : CmdDef.Keeps pq dUpdStatus := body_keeps (b := updStatusBody) (by unfold dUpdStatus; dsimp only) (fun c s h => @updStatusBody_keeps pq c s h)
theorem dUpdBegin_keeps : CmdDef.Keeps pq dUpdBegin := body_keeps (b := updBeginBody) (by unfold dUpdBegin; dsimp only) (fun c s h => @updBeginBody_keeps pq c s h)
theorem dUpdChunk_keeps : CmdDef.Keeps pq dUpdChunk := body_keeps (b := updChunkBody) (by unfold dUpdChunk; dsimp only) (fun c s h => @updChunkBody_keeps pq c s h)
theorem dUpdVerify_keeps : CmdDef.Keeps pq dUpdVerify := body_keeps (b := updVerifyBody) (by unfold dUpdVerify; dsimp only) (fun c s h => @updVerifyBody_keeps pq c s h)
theorem dUpdActivate_keeps : CmdDef.Keeps pq dUpdActivate := body_keeps (b := updActivateBody) (by unfold dUpdActivate; dsimp only) (fun c s h => @updActivateBody_keeps pq c s h)
theorem dUpdConfirm_keeps : CmdDef.Keeps pq dUpdConfirm := body_keeps (b := updConfirmBody) (by unfold dUpdConfirm; dsimp only) (fun c s h => @updConfirmBody_keeps pq c s h)
theorem dUpdAbort_keeps : CmdDef.Keeps pq dUpdAbort := body_keeps (b := updAbortBody) (by unfold dUpdAbort; dsimp only) (fun c s h => @updAbortBody_keeps pq c s h)
theorem dWorldStatus_keeps : CmdDef.Keeps pq dWorldStatus := body_keeps (b := worldStatusBody) (by unfold dWorldStatus; dsimp only) (fun c s h => @worldStatusBody_keeps pq c s h)
theorem dLcSet_keeps : CmdDef.Keeps pq dLcSet := body_keeps (b := lcSetBody) (by unfold dLcSet; dsimp only) (fun c s h => @lcSetBody_keeps pq c s h)
theorem cmdsFabric_keeps : ∀ d ∈ cmdsFabric, CmdDef.Keeps pq d := by
  unfold cmdsFabric
  repeat (first | exact List.forall_mem_nil _ | (refine List.forall_mem_cons.mpr ⟨?_, ?_⟩; rotate_left))
  exact dDevIdentity_keeps
  exact dDevVersion_keeps
  exact dDevState_keeps
  exact dDevTime_keeps
  exact dDevEcho_keeps
  exact dDevMbxStats_keeps
  exact dCellSet_keeps
  exact dCellConfig_keeps
  exact dCellStatus_keeps
  exact dCellClear_keeps
  exact dCellReadConfig_keeps
  exact dGangSet_keeps
  exact dGangConfig_keeps
  exact dGangStatus_keeps
  exact dGangClear_keeps
  exact dBridgeSet_keeps
  exact dBridgeConfig_keeps
  exact dBridgeStatus_keeps
  exact dBridgeClear_keeps
  exact dProbeRun_keeps
  exact dProbeResult_keeps
  exact dGangReadConfig_keeps
  exact dBudgetStatus_keeps
  exact dBudgetObject_keeps
  exact dBudgetObjStatus_keeps
  exact dEnergyRead_keeps
  exact dEnergyLogRead_keeps
theorem cmdsEngine_keeps : ∀ d ∈ cmdsEngine, CmdDef.Keeps pq d := by
  unfold cmdsEngine
  repeat (first | exact List.forall_mem_nil _ | (refine List.forall_mem_cons.mpr ⟨?_, ?_⟩; rotate_left))
  exact dCycStatus_keeps
  exact dCycTaskStatus_keeps
  exact dCycLoad_keeps
  exact dCycSwap_keeps
  exact dCycStart_keeps
  exact dCycStop_keeps
  exact dCycHold_keeps
  exact dCycTaskRestart_keeps
  exact dCycChange_keeps
  exact dCycForce_keeps
  exact dCycVarRead_keeps
  exact dCycEvent_keeps
theorem cmdsSwitch_keeps : ∀ d ∈ cmdsSwitch, CmdDef.Keeps pq d := by
  unfold cmdsSwitch
  repeat (first | exact List.forall_mem_nil _ | (refine List.forall_mem_cons.mpr ⟨?_, ?_⟩; rotate_left))
  exact dSwcPortStatus_keeps
  exact dSwcPortConfig_keeps
  exact dSwcQueueConfig_keeps
  exact dSwcQueueStatus_keeps
  exact dSwcCounters_keeps
  exact dSwcFdbSet_keeps
  exact dSwcFdbRead_keeps
  exact dSwcVlanConfig_keeps
  exact dSwcPolicer_keeps
  exact dSwcMacsecSa_keeps
  exact dSwcAudit_keeps
  exact dTsnGclSet_keeps
  exact dTsnGclStatus_keeps
  exact dTsnShaperConfig_keeps
  exact dTsnPreemptConfig_keeps
  exact dTsnStreamSet_keeps
  exact dTsnStreamStatus_keeps
  exact dTsnFrerSet_keeps
  exact dTsnGptpStatus_keeps
  exact dFaSenderSet_keeps
  exact dFaStatus_keeps
theorem cmdsNet_keeps : ∀ d ∈ cmdsNet, CmdDef.Keeps pq d := by
  unfold cmdsNet
  repeat (first | exact List.forall_mem_nil _ | (refine List.forall_mem_cons.mpr ⟨?_, ?_⟩; rotate_left))
  exact dCanConfig_keeps
  exact dCanStatus_keeps
  exact dCanRecover_keeps
  exact dLinConfig_keeps
  exact dLinTableLoad_keeps
  exact dLinSchedule_keeps
  exact dLinStatus_keeps
  exact dGwyStatus_keeps
  exact dGwyRouteStatus_keeps
  exact dGwyRouteEnable_keeps
  exact dGwyPduRead_keeps
  exact dGwyBridgeLog_keeps
  exact dSlpVote_keeps
  exact dSlpStatus_keeps
  exact dSlpWakeInfo_keeps
  exact dSlpChannel_keeps
  exact dSlpAlarm_keeps
  exact dSlpSwkConfig_keeps
  exact dHdgStatus_keeps
  exact dHdgTopology_keeps
  exact dHdgEnum_keeps
  exact dHdgMapForget_keeps
theorem cmdsPart_keeps : ∀ d ∈ cmdsPart, CmdDef.Keeps pq d := by
  unfold cmdsPart
  repeat (first | exact List.forall_mem_nil _ | (refine List.forall_mem_cons.mpr ⟨?_, ?_⟩; rotate_left))
  exact dPartStatus_keeps
  exact dPartReady_keeps
  exact dPartReset_keeps
  exact dPartRelease_keeps
  exact dPartStoreInfo_keeps
  exact dPartStoreRead_keeps
  exact dPartStoreWrite_keeps
  exact dPairStatus_keeps
  exact dWorldStatus_keeps
  exact dBootStatus_keeps
  exact dDeviceReset_keeps
  exact dCoppiceExit_keeps
  exact dKeyStatus_keeps
  exact dKeyDerive_keeps
  exact dKeyImport_keeps
  exact dKeyCommit_keeps
  exact dKeyDiscard_keeps
  exact dKeyRevoke_keeps
  exact dKeyOp_keeps
  exact dKeyAttest_keeps
  exact dKeyRandom_keeps
  exact dTamperStatus_keeps
  exact dTamperClear_keeps
  exact dLcSet_keeps
theorem cmdsSystem_keeps : ∀ d ∈ cmdsSystem, CmdDef.Keeps pq d := by
  unfold cmdsSystem
  repeat (first | exact List.forall_mem_nil _ | (refine List.forall_mem_cons.mpr ⟨?_, ?_⟩; rotate_left))
  exact dFaultStatus_keeps
  exact dFaultLogRead_keeps
  exact dFaultCapture_keeps
  exact dFaultRecoveryClear_keeps
  exact dFaultInject_keeps
  exact dConfigStatus_keeps
  exact dOverlaySwitch_keeps
  exact dConfigCommit_keeps
  exact dServiceOpen_keeps
  exact dServiceClose_keeps
  exact dUpdStatus_keeps
  exact dUpdBegin_keeps
  exact dUpdChunk_keeps
  exact dUpdVerify_keeps
  exact dUpdActivate_keeps
  exact dUpdConfirm_keeps
  exact dUpdAbort_keeps
  exact dMaintRequest_keeps
  exact dMaintStatus_keeps
  exact dMaintCancel_keeps
theorem cmdOfOp_keeps {op : Nat} {d : CmdDef} (h : cmdOfOp op = some d) : CmdDef.Keeps pq d := by
  have hm := List.mem_of_find?_eq_some h
  simp only [allCmds, List.mem_append] at hm
  rcases hm with ((((hm | hm) | hm) | hm) | hm) | hm
  · exact cmdsFabric_keeps d hm
  · exact cmdsEngine_keeps d hm
  · exact cmdsSwitch_keeps d hm
  · exact cmdsNet_keeps d hm
  · exact cmdsPart_keeps d hm
  · exact cmdsSystem_keeps d hm

theorem commandWaitResume_keeps {t : Nat} {node : Nat} {w : Nat} {tag : Nat} {s : State} (hs : State.Keeps pq s) :
    State.Keeps pq (commandWaitResume t node w tag s) := by
  unfold commandWaitResume
  repeat' first | with_reducible assumption | (exact cmdOfOp_keeps (by assumption)) | (with_reducible first | apply State.at__keeps | apply State.forward_keeps | apply State.runBody_keeps | apply ite_keeps) | split | (dsimp only; split)

theorem commandWaitTimeout_keeps {t : Nat} {node : Nat} {w : Nat} {tag : Nat} {s : State} (hs : State.Keeps pq s) :
    State.Keeps pq (commandWaitTimeout t node w tag s) := by
  unfold commandWaitTimeout
  repeat' first | with_reducible assumption | (with_reducible first | apply State.at__keeps | apply State.dropReq_keeps | apply State.expire_keeps | apply ite_keeps) | split | (dsimp only; split)

theorem forwardDeadlineExpiry_keeps {t : Nat} {w : Nat} {tag : Nat} {s : State} (hs : State.Keeps pq s) :
    State.Keeps pq (forwardDeadlineExpiry t w tag s) := by
  unfold forwardDeadlineExpiry
  repeat' first | with_reducible assumption | (with_reducible first | apply State.at__keeps | apply State.answer_keeps | apply ite_keeps) | split | (dsimp only; split)

theorem State.lateRsp_keeps {s : State} {w : Nat} (hs : State.Keeps pq s) :
    State.Keeps pq (State.lateRsp s w) := by
  unfold State.lateRsp
  repeat' first | with_reducible assumption | (with_reducible first | apply State.wrb_keeps | apply State.sat_keeps | apply ite_keeps)

theorem State.forwardedResponse_keeps {s : State} {w : Nat} {tag : Nat} {status : Nat} {done : Nat} {payload : List Byte} (hs : State.Keeps pq s) :
    State.Keeps pq (State.forwardedResponse s w tag status done payload) := by
  unfold State.forwardedResponse
  repeat' first | with_reducible assumption | (with_reducible first | apply State.lateRsp_keeps | apply State.answer_keeps | apply State.answerAt_keeps | apply ite_keeps) | split | (dsimp only; split)

theorem forwardedResponseArrival_keeps {t : Nat} {w : Nat} {tag : Nat} {status : Nat} {done : Nat} {payload : List Byte} {s : State} (hs : State.Keeps pq s) :
    State.Keeps pq (forwardedResponseArrival t w tag status done payload s) := by
  unfold forwardedResponseArrival
  repeat' first | with_reducible assumption | (with_reducible first | apply State.at__keeps | apply State.forwardedResponse_keeps | apply State.take_keeps)

theorem State.executeFwd_keeps {s : State} {f : HdgFrame} (hs : State.Keeps pq s) :
    State.Keeps pq (State.executeFwd s f) := by
  unfold State.executeFwd
  repeat' first | with_reducible assumption | (exact cmdOfOp_keeps (by assumption)) | (with_reducible first | apply State.serveRemote_keeps | apply State.answer_keeps | apply ite_keeps) | split | (dsimp only; split)

theorem State.takeRsp_keeps {s : State} {f : HdgFrame} (hs : State.Keeps pq s) :
    State.Keeps pq (State.takeRsp s f) := by
  unfold State.takeRsp
  repeat' first | with_reducible assumption | (with_reducible apply State.forwardedResponse_keeps)

theorem State.executeForAll_keeps {s : State} {f : HdgFrame} (hs : State.Keeps pq s) :
    State.Keeps pq (State.executeForAll s f) := by
  unfold State.executeForAll
  repeat' first | with_reducible assumption | (exact cmdOfOp_keeps (by assumption)) | (with_reducible first | apply State.executeFwd_keeps | apply ite_keeps) | split | (dsimp only; split)

theorem State.passOn_keeps {s : State} {up : Bool} {f : HdgFrame} (hs : State.Keeps pq s) :
    State.Keeps pq (State.passOn s up f) := by
  unfold State.passOn
  repeat' first | with_reducible assumption | (with_reducible first | apply State.relay_keeps | apply ite_keeps | apply State.upd_keeps)

theorem State.fwdTooLong_keeps {s : State} (hs : State.Keeps pq s) :
    State.Keeps pq (State.fwdTooLong s) := by
  unfold State.fwdTooLong
  repeat' first | with_reducible assumption | (with_reducible first | apply State.sat_keeps | apply State.trig_keeps)

theorem hdgFwdReqFrame_keeps {t : Nat} {up : Bool} {f : HdgFrame} {s : State} (hs : State.Keeps pq s) :
    State.Keeps pq (hdgFwdReqFrame t up f s) := by
  unfold hdgFwdReqFrame
  repeat' first | with_reducible assumption | (intro _) | (with_reducible first | apply State.at__keeps | apply State.hdgReceive_keeps | apply State.fwdTooLong_keeps | apply State.executeFwd_keeps | apply State.executeForAll_keeps | apply State.passOn_keeps | apply ite_keeps)

theorem hdgFwdRspFrame_keeps {t : Nat} {up : Bool} {f : HdgFrame} {s : State} (hs : State.Keeps pq s) :
    State.Keeps pq (hdgFwdRspFrame t up f s) := by
  unfold hdgFwdRspFrame
  repeat' first | with_reducible assumption | (intro _) | (with_reducible first | apply State.at__keeps | apply State.hdgReceive_keeps | apply State.takeRsp_keeps | apply State.lateRsp_keeps | apply State.passOn_keeps | apply ite_keeps)

theorem rootEthernetFrame_keeps {t : Nat} {s : State} (hs : State.Keeps pq s) :
    State.Keeps pq (rootEthernetFrame t s) := by
  unfold rootEthernetFrame
  repeat' first | with_reducible assumption | (with_reducible first | apply State.at__keeps | apply State.hdgBad_keeps | apply State.hdgAuth_keeps | apply State.fwdTooLong_keeps | apply State.executeFwd_keeps | apply State.takeRsp_keeps | apply State.lateRsp_keeps | apply State.executeForAll_keeps | apply State.sendDn_keeps | apply ite_keeps) | split | (dsimp only; split) | (with_reducible apply State.upd_keeps)

theorem State.flushEth_keeps {s : State} (hs : State.Keeps pq s) :
    State.Keeps pq (State.flushEth s) := by
  unfold State.flushEth
  repeat' first | with_reducible assumption | (intro _) | (with_reducible first | apply State.swAt_keeps | apply State.sendFrom_keeps | apply foldS_keeps | apply ite_keeps | apply State.upd_keeps)

/-! ## Machine/React.lean -/

theorem State.carry_keeps {s : State} {y0 : React} (hs : State.Keeps pq s) :
    State.Keeps pq (State.carry s y0) := by
  unfold State.carry
  repeat' first | with_reducible assumption | (with_reducible first | apply State.resetPart_keeps | apply State.enterFault_keeps | apply State.enterCoppice_keeps | apply State.wakeUp_keeps | apply State.startReset_keeps) | split | (dsimp only; split)

theorem State.drain_keeps {n : Nat} : ∀ {s : State}, State.Keeps pq s → State.Keeps pq (State.drain n s) := by
  induction n with
  | zero => intro s hs; exact State.upd_keeps hs
  | succ n ih =>
    intro s hs
    unfold State.drain
    split
    · exact hs
    · exact ih (State.carry_keeps (State.upd_keeps hs))

theorem State.settle_keeps {s : State} (hs : State.Keeps pq s) :
    State.Keeps pq (State.settle s) := by
  unfold State.settle
  repeat' first | with_reducible assumption | (with_reducible first | apply State.privetBack_keeps | apply State.drain_keeps | apply State.confirm_keeps | apply State.lockCheck_keeps | apply State.flushEth_keeps | apply State.sleepPhase_keeps | apply State.releaseActs_keeps)

/-! ## Outcomes -/

/-- No reaction waits after a command. -/
theorem State.drain_react (n : Nat) : ∀ s : State, (State.drain n s).flt.react = [] := by
  induction n with
  | zero => intro s; rfl
  | succ n ih =>
    intro s
    unfold State.drain
    split
    · assumption
    · exact ih _

theorem State.settle_react (s : State) : s.settle.flt.react = [] := State.drain_react 64 _

theorem powered_keeps {t : Nat} {f : State → State} {s : State} (hs : State.Keeps pq s) (hf : ∀ u, State.Keeps pq u → State.Keeps pq (f u)) :
    ∃ u, powered t f s = .next u ∧ State.Keeps pq u ∧ (s.flt.react = [] → u.flt.react = []) := by
  unfold powered
  refine ⟨_, rfl, ?_, ?_⟩
  · exact ite_keeps (State.at__keeps hs) (State.settle_keeps (hf s hs))
  · intro h
    split
    · exact h
    · exact State.settle_react _

theorem always_keeps {f : State → State} {s : State} (hs : State.Keeps pq s) (hf : ∀ u, State.Keeps pq u → State.Keeps pq (f u)) :
    ∃ u, always f s = .next u ∧ State.Keeps pq u ∧ (s.flt.react = [] → u.flt.react = []) :=
  ⟨_, rfl, State.settle_keeps (hf s hs), fun _ => State.settle_react _⟩

theorem mailbox_keeps {d : CmdDef} {r : Req} {s : State} (hs : State.Keeps pq s) (hd : CmdDef.Keeps pq d) :
    ∃ u, mailbox d r s = .next u ∧ State.Keeps pq u ∧ (s.flt.react = [] → u.flt.react = []) :=
  powered_keeps hs (fun _ hu => State.serve_keeps hu hd)

theorem romMailbox_keeps {d : CmdDef} {len : Nat} {body : Cmd → State → Res} {r : Req} {s : State} (hs : State.Keeps pq s) (hd : CmdDef.Keeps pq d)
    (hb : ∀ c u, State.Keeps pq u → Res.Keeps pq (body c u)) :
    ∃ u, romMailbox d len body r s = .next u ∧ State.Keeps pq u ∧ (s.flt.react = [] → u.flt.react = []) :=
  powered_keeps hs (fun _ hu => ite_keeps (State.romServe_keeps hu hb) (State.serve_keeps hu hd))

theorem storeRow_keeps {ok : Bool} {t : Nat} {a : Acc} {addr : Nat} {f : State → State} {s : State} (hs : State.Keeps pq s)
    (hf : ∀ u, State.Keeps pq u → State.Keeps pq (f u)) :
    ∃ u, storeRow ok t a addr f s = .next u ∧ State.Keeps pq u ∧ (s.flt.react = [] → u.flt.react = []) :=
  powered_keeps hs (fun _ hu => ite_keeps (State.busReg_keeps (State.at__keeps hu) hf) (State.at__keeps hu))

theorem loadRow_keeps {ok : Bool} {t : Nat} {a : Acc} {addr : Nat} {s : State} (hs : State.Keeps pq s) :
    ∃ u, loadRow ok t a addr s = .next u ∧ State.Keeps pq u ∧ (s.flt.react = [] → u.flt.react = []) :=
  powered_keeps hs (fun _ hu => ite_keeps (State.busLoad_keeps (State.at__keeps hu)) (State.at__keeps hu))

end Sys2Proof.Machine
end

