-- ==== Sys2Proof/WellFormed.lean ====
section
/-!
DEFINITION. WellFormed.lean: which commands the outside world can send, as syntax: a request slot's fields have their
widths, its payload fits the slot, and an access carries a possible identity.
-/
namespace Sys2Proof

/-- A request slot that the ring can hold: 16-bit TAG, LEN and TARGET, 32-bit FLAGS and reserved word, one of the 17
windows and 48 payload bytes (R50, R56). -/
def Req.wf (r : Req) : Bool :=
  decide (r.win ≤ 16) && decide (r.tag < 2 ^ 16) && decide (r.len < 2 ^ 16) && decide (r.target < 2 ^ 16) &&
  decide (r.flags < 2 ^ 32) && decide (r.rsvd < 2 ^ 32) && decide (r.payload.length = 48)

/-- An identity that a master can carry (R445, R494). -/
def Acc.wf (a : Acc) : Bool :=
  decide (a.part < 16) && !(a.sec && a.dev) && decide (a.master < 256) && (!a.hyp || (decide (a.master < 6) && !a.sec && !a.dev))

end Sys2Proof
end

