-- ==== Sys2Proof/Laws/Slot.lean ====
section
/-!
SUPPORT. Laws/Slot.lean: a request slot's bytes give back the request and the opcode they were written from (R50, R56).
-/
namespace Sys2Proof.Machine

/-- The bytes between two parts of a byte string. -/
theorem slice_mid (a b c : List Byte) {o n : Nat} (ha : a.length = o) (hb : b.length = n) : slice (a ++ (b ++ c)) o n = b := by
  subst ha hb
  simp [slice]

/-- A little-endian field between two parts of a byte string. -/
theorem leAt_mid (a c : List Byte) {o n v : Nat} (ha : a.length = o) (hv : v < 256 ^ n) : leAt (a ++ (bytesLE n v ++ c)) o n = v := by
  rw [leAt, slice_mid a _ c ha (bytesLE_length n v), natLE_bytesLE_of_lt hv]

/-- The opcode of a slot. -/
theorem slotOp_reqBytes (r : Req) {op : Nat} (h : op < 2 ^ 16) : slotOp (reqBytes op r) = op := by
  have := leAt_mid [] (bytesLE 2 r.tag ++ (bytesLE 2 r.len ++ (bytesLE 2 r.target ++ (bytesLE 4 r.flags ++ (bytesLE 4 r.rsvd ++ slice r.payload 0 48)))))
    (o := 0) (n := 2) (v := op) rfl (by simpa using h)
  simpa [slotOp, reqBytes, List.append_assoc] using this

/-- The request of a slot. -/
theorem reqOfSlot_reqBytes {r : Req} (op : Nat) (h : r.wf = true) : reqOfSlot r.t r.win (reqBytes op r) = r := by
  obtain ⟨t, w, tag, len, target, flags, rsvd, pl⟩ := r
  simp only [Req.wf, Bool.and_eq_true, decide_eq_true_eq] at h
  obtain ⟨⟨⟨⟨⟨⟨_, h1⟩, h2⟩, h3⟩, h4⟩, h5⟩, h6⟩ := h
  have hp : slice pl 0 48 = pl := by simp [slice, List.take_of_length_le (Nat.le_of_eq h6), h6]
  have e1 := leAt_mid (bytesLE 2 op) (bytesLE 2 len ++ (bytesLE 2 target ++ (bytesLE 4 flags ++ (bytesLE 4 rsvd ++ pl)))) (o := 2) (n := 2) (v := tag) (by simp) (by simpa using h1)
  have e2 := leAt_mid (bytesLE 2 op ++ bytesLE 2 tag) (bytesLE 2 target ++ (bytesLE 4 flags ++ (bytesLE 4 rsvd ++ pl))) (o := 4) (n := 2) (v := len) (by simp) (by simpa using h2)
  have e3 := leAt_mid (bytesLE 2 op ++ (bytesLE 2 tag ++ bytesLE 2 len)) (bytesLE 4 flags ++ (bytesLE 4 rsvd ++ pl)) (o := 6) (n := 2) (v := target) (by simp) (by simpa using h3)
  have e4 := leAt_mid (bytesLE 2 op ++ (bytesLE 2 tag ++ (bytesLE 2 len ++ bytesLE 2 target))) (bytesLE 4 rsvd ++ pl) (o := 8) (n := 4) (v := flags) (by simp) (by simpa using h4)
  have e5 := leAt_mid (bytesLE 2 op ++ (bytesLE 2 tag ++ (bytesLE 2 len ++ (bytesLE 2 target ++ bytesLE 4 flags)))) pl (o := 12) (n := 4) (v := rsvd) (by simp) (by simpa using h5)
  have e6 := slice_mid (bytesLE 2 op ++ (bytesLE 2 tag ++ (bytesLE 2 len ++ (bytesLE 2 target ++ (bytesLE 4 flags ++ bytesLE 4 rsvd))))) pl [] (o := 16) (n := 48) (by simp) h6
  simp only [List.append_assoc, List.append_nil] at e1 e2 e3 e4 e5 e6
  simp only [reqOfSlot, reqBytes, hp, List.append_assoc, e1, e2, e3, e4, e5, e6]

end Sys2Proof.Machine
end

