-- ==== Sys2Proof/Tests/Slice0.lean ====
section
/-!
SUPPORT. Tests/Slice0.lean: ill-formed commands that the checks refuse, worked examples of the spec, single steps, and for
every statement with hypotheses a state and operands that meet them: `witness_<statement>`, one part for each clause.
-/
open Sys2Proof Sys2Proof.Machine
namespace Wit

set_option Elab.async false
set_option linter.unusedVariables false

/-! ## Witness states and requests -/

/-- A window is enabled and served, with one request waiting in its ring. -/
def win (w : Nat) (s : State) : State :=
  ((s.wrb (F.MBX_CTL_ENABLE w) true).wrb (F.MBX_STATUS_SERVING w) true).wr (F.MBX_REQ_PROD_PROD w) 1
/-- The module runs, and the secure world has a request waiting. -/
def run : State := win 16 { State.reset with dev := .running, boot.stage := .released }
/-- A request of a window of this unit with a payload. -/
def rq (w : Nat) (b : List Byte) : Req :=
  { t := 1000, win := w, tag := 1, len := b.length, target := 0xFFFF, flags := 0, rsvd := 0,
    payload := b ++ List.replicate (48 - b.length) 0 }
/-- The request's bytes stand in the slot that its window takes next. -/
def slot (op : Nat) (r : Req) (s : State) : State := s.store (s.reqSlot r.win) (reqBytes op r)
/-- A request with descriptors: address, size, direction. -/
def dq (w : Nat) (l : List (Nat × Nat × Nat)) : Req :=
  { rq w (l.flatMap (fun d => bytesLE 8 d.1 ++ bytesLE 4 d.2.1 ++ bytesLE 4 d.2.2)) with flags := 1 }
/-- An owner is set. -/
def own (k i w : Nat) (s : State) : State := { s with own := s.own.set (okey k i) { owner := w } }
/-- A gang of the cells 2 n and 2 n + 1 of feed 1. -/
def gang (g n : Nat) (s : State) : State :=
  own kGang g 16 ((((s.wr (F.PFB_GANG_DEF_VALID g) 1).wr (F.PFB_GANG_DEF_COUNT g) 2).wr (F.PFB_GANG_DEF_FEED g) 0).wr (F.PFB_GANG_MEM_MEM g 0) (3 * 4 ^ n))
/-- A bridge of the gangs 0 and 1. -/
def bridge (h : Nat) (s : State) : State :=
  own kBrg h 16 ((((gang 0 0 (gang 1 1 s)).wr (F.PFB_BRG_CFG0_VALID h) 1).wr (F.PFB_BRG_CFG0_GANG_A h) 0).wr (F.PFB_BRG_CFG0_GANG_B h) 1)
/-- The probe has passed for an object. -/
def probed (x : Nat) (s : State) : State := { s with fab.probes := s.fab.probes.set (s.entryTerm x) { result := 1 } }
/-- Every memory range is open to everyone. -/
def mpc (s : State) : State :=
  foldS (List.range 6) (fun m s => (((s.setWord (R.MPC_R_START m 31) 0).setWord (R.MPC_R_END m 31) 0xFFFFFFFF).setWord (R.MPC_R_ATTR m 31) 0xFFFFFFFF).wrb (F.MPC_R_ATTR_LOCK m 31) false) s
/-- A program without code, with one symbol of eight bytes that may be changed online. -/
def prog : Prog :=
  { id := 7, hyper := 1, cfgs := List.replicate 24 0, writer := List.replicate 608 0xFF, syms := [{ off := 0, size := 8, flags := 3, hash := 0 }],
    rids := [], code := [], data := [] }
/-- The same program as an image (R186): header and task table, then the writer table. -/
def imageHead : List Byte :=
  [0x43594331, 1, 7, 0, 64, 0, 64, 0, 64, 448, 1056, 0, 1056, 0, 1056, 0].flatMap (fun n => bytesLE 4 n) ++ List.replicate 384 0
def image : List Byte := imageHead ++ List.replicate 608 0xFF
/-- The secure world owns the program and its tasks; the engine is in a state with an active program. -/
def cyc (e : Nat) (s : State) : State :=
  { (((s.wr F.CYC_CFG_PROG_OWNER 16).wr (F.CYC_TASK_OWN_OWNER 23) 16).wr F.CYC_STATE_STATE e).wr F.MPC_LC_STAT_LIFECYCLE 1 with
    cyc.active := some prog }
/-- The kinds of a result. -/
def isDone : Res → Bool | .done .. => true | _ => false
def isLater : Res → Bool | .later .. => true | _ => false
def isWait : Res → Bool | .wait .. => true | _ => false
/-- Payload fields: size and value. -/
def pl (l : List (Nat × Nat)) : List Byte := l.flatMap (fun p => bytesLE p.1 p.2)
/-- Key slot `k` holds a valid key of a type with USE bits, derived from domain key 7. -/
def key (k ty use : Nat) (s : State) : State :=
  { ((s.wr (F.HWN_SLOT_STAT_TYPE k) ty).wr (F.HWN_SLOT_STAT_USE k) use) with
    hwn.slots := s.hwn.slots.set k { raw := 1, pgen := s.epoch, value := List.replicate (keyLen ty) 1 } }
/-- A route is defined. -/
def route (i : Nat) (s : State) : State := s.modRoute i (fun x => { x with defined := true })
/-- Slot 255 is imported under slot 254; the buffer holds a wrapped key for it. -/
def imported (s : State) : State :=
  (((s.wr (F.HWN_SLOT_STAT_TYPE 255) 2).setSlot 255 { parent := 254, imported := true }).store 0x10000 (bytesLE 2 255 ++ bytesLE 2 0 ++ bytesLE 2 40))
/-- COPPICE, with partition 1 on safety core 0. -/
def cop : State := win 1 { run.wr (F.MPC_PART_CFG_HOSTING 1) 2 with dev := .coppice }
/-- The update is in a state. -/
def upd (n : Nat) : State := run.wr F.UPD_STAT_STATE n
/-- A download of one chunk is under way, and a chunk of the wrong length arrives. -/
def chunk : State := (mpc { upd 1 with upd.manifest := pl [(56, 0), (1, 1)] }).store 0x10000 (pl [(4, 0), (4, 16)])
def isRefuse : Res → Bool | .refuse _ => true | _ => false
/-- An object in a given condition. -/
def ob (x : Nat) (o : Obj) (s : State) : State := s.setObj x o
/-- A bank as given. -/
def bank (k : Nat) (b : Bank) (s : State) : State := { s with fab.banks := s.fab.banks.set k b }
/-- An access of the secure world on core 0. -/
def secA : Acc := ⟨0, true, 0, false, false⟩
/-- An access of DEVICE. -/
def devA : Acc := ⟨0x10, false, 0, true, false⟩
/-- An access of a partition's core. -/
def vpA (m p : Nat) : Acc := ⟨m, false, p, false, false⟩
/-- The switch's island is aligned. -/
def al6 (s : State) : State := { s with tb.replicas := s.tb.replicas.set 6 { aligned := true } }
/-- A frame being received or sent. -/
def rxF (p : Nat) : RxFrame := { port := p, sfd := 1000, len := 64, bytes := [], fin := true, fcsOk := true }
/-- Port `p` is on and its link is up. -/
def up (p : Nat) (s : State) : State := (s.wrb (F.SWC_PORT_CFG0_ENABLE p) true).wrb (F.SWC_PORT_STAT_LINK p) true
/-- CAN channel `c` is on the bus in a mode. -/
def canOn (c m : Nat) (s : State) : State := own kCan c 16 ((s.wr (F.CAN_CTL_MODE c) m).wr (F.CAN_STAT_STATE c) 1)
/-- The chain port is open, as root (1) or member (2). -/
def hdg (role : Nat) (s : State) : State := { s.wr F.HDG_CFG_ROLE role with hdg.bypassOpen := true }
/-- A hop is up. -/
def hop (u : Bool) (s : State) : State := s.wrb (F.HDG_HOP_LINK (if u then 0 else 1)) true
/-- A chain frame and a CAN frame. -/
def hf : HdgFrame := { ty := 0 }
def canF : CanFrame := ⟨false, 1, false, false, false, false, 0, [], 0, false⟩

/-! ## Queue, interrupts, time base, accesses, windows and commands in flight -/
/-- A state with a command in its queue, and one without. -/
theorem witness_StepRunsFrontCommand :
    ({ run with pending := [.irqDoorbell 0 secA 7] } : State).pending = .irqDoorbell 0 secA 7 :: [] ∧ run.pending = [] := ⟨rfl, rfl⟩
/-- The module runs, source 1023 is pending and active for the secure world, and may be rung by it. -/
def irqS : State :=
  { mpc (((run.wr (F.IRQ_ROUTE_TARGET 1023) 16).wr (F.IRQ_ROUTE_PRIO 1023) 15).wrb (F.IRQ_RINGMASK_SECURE 255) true) with irq.mask := run.irq.mask.set 0x10 0x10 }
def irqP : State := { irqS with irq.pend := irqS.irq.pend.set 1023 true }
def irqA : State := { irqS with irq.active := irqS.irq.active.set 1023 true }
theorem witness_InterruptCommandsComplete :
    run.asleep = false ∧ reservedSource 1023 = false ∧ levelSource 1023 = false ∧ reservedSource 16 = false ∧ levelSource 16 = true ∧
    irqP.Loads 1 secA R.IRQ_CLAIM_POP = true ∧ (irqP.polled 1).irqHead (irqP.accBank secA) = some 1023 ∧
    irqA.Stores 1 secA R.IRQ_EOI = true ∧ (irqA.posted 1 secA R.IRQ_EOI).irqMine (irqA.accBank secA) 1023 = true ∧ irqA.irq.active.get false 1023 = true ∧
    irqS.Stores 1 secA R.IRQ_DOORBELL = true ∧ (irqS.posted 1 secA R.IRQ_DOORBELL).mayRing secA 1023 = true := by decide +kernel
/-- VP15 is READY on core 5, with a source of its own. -/
def irqV : State :=
  (((irqP.wr (F.IRQ_ROUTE_TARGET 1023) 15).wrb (F.MPC_CORE_PART_VALID 5) true).wr (F.MPC_CORE_PART_PART 5) 15).wr (F.MPC_PART_STAT_STATE 15) psREADY
theorem witness_ClaimTakesHighestPriority :
    irqP.irqHead 0x10 = some 1023 ∧ irqP.irqDeliverable 0x10 1023 = true ∧ run.irqHead 0x10 = none ∧
    irqV.virtLine 5 = true ∧ (irqV.wr F.MPC_GW_STAT_IN_GATE 32).virtLine 5 = false ∧ (irqV.wr F.MPC_PEVT_CHG 1).noteLine 5 = true ∧
    (irqP.wr F.MPC_GW_STAT_SEC_STATE 1).secLine 5 = true ∧ (irqP.wr F.MPC_GW_STAT_SEC_STATE 2).secLine 5 = false := by decide +kernel
theorem witness_InterruptPendingRules :
    irqP.Calm ∧ (irqP.at_ 1).Calm ∧ (irqA.at_ 1).Calm ∧ irqP.asleep = false ∧ levelSource 1023 = false ∧ levelSource 16 = true ∧
    irqP.Loads 1 secA R.IRQ_CLAIM_POP = true ∧ (irqP.polled 1).irqHead (irqP.accBank secA) = some 1023 ∧ irqA.irq.active.get false 1023 = true ∧
    irqA.Stores 1 secA R.IRQ_EOI = true ∧ irqA.irqMine (irqA.accBank secA) 1023 = true ∧
    ({ irqA.wr (F.IRQ_ROUTE_TARGET 1023) 0 with bus := .none } : State).irqMine (irqA.accBank secA) 1023 = false := by
  unfold State.Calm
  decide +kernel
/-- Comparator 15 belongs to the secure world. -/
def cmpS : State := mpc (run.wr (F.IRQ_ROUTE_TARGET 15) 16)
def srcS : State := run.wr F.TBS_CFG_SOURCE 1
theorem witness_TimeBaseCommandsComplete :
    srcS.asleep = false ∧ srcS.rd F.TBS_CFG_SOURCE = 1 ∧ (run.wr F.TBS_CFG_SOURCE 2).rd F.TBS_CFG_SOURCE = 2 ∧
    ((srcS.at_ 1).wr F.TBS_OFFSET_OFFSET (offsetCode 5)).rdb F.TBS_STATUS_BACKSTEP = false ∧
    (5 : Int).natAbs ≤ us (((srcS.at_ 1).wr F.TBS_OFFSET_OFFSET (offsetCode 5)).rd F.TBS_CFG_STEP_THRESH) ∧
    us (((srcS.at_ 1).wr F.TBS_OFFSET_OFFSET (offsetCode (10 ^ 9))).rd F.TBS_CFG_STEP_THRESH) < ((10 : Int) ^ 9).natAbs ∧
    (run.wr F.TBS_STATUS_SYNC 2).rd F.TBS_STATUS_SYNC = 2 ∧
    ((run.setCmp 15 { armed := true, value := 7 }).cmp_ 15).armed = true ∧ ((run.setCmp 15 { armed := true, value := 7 }).cmp_ 15).value ≤ 7 ∧
    cmpS.Stores 1 secA (R.TBS_CMP_CTL 15) = true ∧ (cmpS.posted 1 secA (R.TBS_CMP_CTL 15)).cmpMine secA 15 = true := by decide +kernel
theorem witness_ReplicaAlignment :
    ({ aligned := true } : Replica).badRun = 0 ∧ ({ aligned := false, badRun := 3, goodRun := 0 } : Replica).badRun = 3 := by decide
/-- A prefetch slot of DEVICE, empty or with data. -/
def slotA (d : Option (Option (List Byte))) : State :=
  { run with brg.slots := [{ br := 0, away := true, acc := devA, addr := 0x10000, size := 4, pop := false, data := d, at_ := 0 }] }
/-- Partition 1 has no DRAM budget left on core 0, in STALL; and the buffer of the bridge of island 3, the cores', is full. -/
def stallS : State := (((mpc run).wr (F.MPC_CORE_PART_PART 0) 1).wrb (F.MPC_CORE_PART_VALID 0) true).wr (F.MPC_PART_CFG_HOSTING 1) 1 |>.wr (F.MPC_PART_REG_MODE 1) 0
def fullB : State := { mpc run with brg.wbuf := List.replicate 16 ⟨3, false, 0, 0, 2⟩ }
theorem witness_AccessCommandsComplete :
    irqS.Stores 1 secA R.IRQ_PMASK = true ∧ irqS.Loads 1 secA R.TBS_NOW_LO = true ∧ isLow R.TBS_NOW_LO = true ∧ isPop R.TBS_NOW_LO = false ∧
    R.TBS_NOW_LO ≠ R.UPD_STAT ∧
    ((mpc run).at_ 1).silent secA = false ∧ ((mpc run).at_ 1).bufRoom secA 0xFFFFF0 = true ∧ ((mpc run).at_ 1).stalls secA 0xFFFFF0 16 = false ∧
    ((mpc run).at_ 1).accVerdict secA .load 0xFFFFF0 16 = .ok ∧ inPeri 0xFFFFF0 = false ∧ ((mpc run).at_ 1).accVerdict secA .store 0xFFFFF0 16 = .ok ∧
    ((mpc run).at_ 1).accVerdict secA .fetch 0xFFFFF0 16 = .ok ∧
    (stallS.at_ 1).silent (vpA 0 1) = false ∧ (stallS.at_ 1).bufRoom (vpA 0 1) 0x100000000 = true ∧
    (stallS.at_ 1).accVerdict (vpA 0 1) .store 0x100000000 4 = .ok ∧ (stallS.at_ 1).stalls (vpA 0 1) 0x100000000 4 = true ∧
    (fullB.at_ 1).silent secA = false ∧ (fullB.at_ 1).bufRoom secA (R.CAN_CTL 0) = false ∧
    (run.at_ 1).silent devA = false ∧ (run.at_ 1).idVerdict devA = .ok ∧
    run.brg.slots.find? (fun x => x.matches devA 0 true 0x10000 4) = none ∧ run.slotRoom devA 0 true 0x10000 = true ∧
    ((slotA (some (some [1, 2, 3, 4]))).brg.slots.find? (fun x => x.matches devA 0 true 0x10000 4)).isSome = true ∧
    ((slotA (some (some [1, 2, 3, 4]))).brg.slots[0]?.map (fun x => x.data)) = some (some (some [1, 2, 3, 4])) ∧
    ((slotA none).brg.slots[0]?.map (fun x => (x.data, ((slotA none).at_ 1).writesAhead x, ((slotA none).at_ 1).stalls x.acc x.addr 4))) =
      some (none, false, false) ∧
    ((slotA (some none)).brg.slots[0]?.map (fun x => (x.data, x.pop))) = some (some none, false) ∧ 0 + us 10 ≤ us 10 := by decide +kernel
/-- Window 16 with its rings at two places, whose memory is open to the secure world. -/
def ringS : State :=
  { mpc ((((State.reset.wr (F.MBX_CTL_ENABLE 16) 0).setPair (R.MBX_REQ_BASE_LO 16) (R.MBX_REQ_BASE_HI 16) 0x10000).setPair
      (R.MBX_RSP_BASE_LO 16) (R.MBX_RSP_BASE_HI 16) 0x20000)) with dev := .running }
/-- The indexes of window 16: requests 64 ahead, responses 3 ahead. -/
def idxS : State := { mpc (((State.reset.wr (F.MBX_REQ_PROD_PROD 16) 5).wr (F.MBX_REQ_CONS_CONS 16) 5).wr (F.MBX_RSP_PROD_PROD 16) 3) with dev := .running }
/-- The four indexes start again at zero. -/
def idx0 (s : State) : State :=
  (((s.wr (F.MBX_REQ_PROD_PROD 16) 0).wr (F.MBX_REQ_CONS_CONS 16) 0).wr (F.MBX_RSP_PROD_PROD 16) 0).wr (F.MBX_RSP_CONS_CONS 16) 0
theorem witness_MailboxRegisterCommandsComplete :
    ringS.Stores 1 secA (R.MBX_CTL 16) = true ∧ ((ringS.posted 1 secA (R.MBX_CTL 16)).wr (F.MBX_CTL_IRQ_EN 16) 0).rd (F.MBX_STATUS_INFLIGHT 16) = 0 ∧
    (idx0 ((ringS.posted 1 secA (R.MBX_CTL 16)).wr (F.MBX_CTL_IRQ_EN 16) 0)).ringsPass 16 = true ∧
    (idx0 ((idxS.posted 1 secA (R.MBX_CTL 16)).wr (F.MBX_CTL_IRQ_EN 16) 0)).ringsPass 16 = false ∧
    idxS.Stores 1 secA (R.MBX_REQ_PROD 16) = true ∧ idxS.Stores 1 secA (R.MBX_RSP_CONS 16) = true ∧ idxS.Stores 1 secA (R.MBX_ERR 16) = true ∧
    (69 + 65536 - idxS.rd (F.MBX_REQ_CONS_CONS 16)) % 65536 = 64 ∧ (70 + 65536 - idxS.rd (F.MBX_REQ_CONS_CONS 16)) % 65536 = 65 ∧
    (idxS.rd (F.MBX_RSP_PROD_PROD 16) + 65536 - idxS.rd (F.MBX_RSP_CONS_CONS 16)) % 65536 = 3 := by decide +kernel
/-- Window 16 holds 64 responses that nobody has consumed. -/
def fullS : State := (idxS.wr (F.MBX_RSP_PROD_PROD 16) 64).wr (F.MBX_REQ_CONS_CONS 16) 64
theorem witness_MailboxIndexRules :
    (idxS.at_ 1000).Calm ∧ (fullS.at_ 1000).Calm ∧ idxS.Stores 1000 secA (R.MBX_REQ_PROD 16) = true ∧ idxS.Stores 1000 secA (R.MBX_RSP_CONS 16) = true ∧
    (request (.devTime (rq 16 []))).map (fun p => p.2) = some (rq 16 []) ∧ fullS.boot.stage ≠ .rom ∧
    64 ≤ (fullS.rd (F.MBX_REQ_CONS_CONS 16) + 2 ^ 16 - fullS.rd (F.MBX_RSP_CONS_CONS 16)) % 2 ^ 16 ∧
    run.canTake 16 = true ∧ run.rd (F.MBX_REQ_CONS_CONS 16) = (run.rd (F.MBX_RSP_PROD_PROD 16) + run.rd (F.MBX_STATUS_INFLIGHT 16)) % 2 ^ 16 := by
  unfold State.Calm
  decide +kernel
/-- A command of window 16 in flight in a phase, with a time limit. -/
def flightC (p : Phase) (l : Option Nat) : Cmd := { op := 0x0105, node := 0xFFFF, who := 16, taken := 0, phase := p, limit := l, req := rq 16 [1] }
def flightS (p : Phase) (l : Option Nat) : State := { run with mbx.cmds := [flightC p l] }
theorem witness_WaitingCommandsComplete :
    run.asleep = false ∧ (flightS .waitObject none).inFlight 0xFFFF 16 1 = some (flightC .waitObject none) ∧ ((flightS .waitObject none).at_ 9).serving = true ∧
    ((flightS .waitObject none).at_ 9).expired (flightC .waitObject none) = false ∧ run.isLocal 0xFFFF = true ∧ (cmdOfOp 0x0105).isSome = true ∧
    ((flightS .waitOrder (some 9)).at_ 9).expired (flightC .waitOrder (some 9)) = true ∧
    (flightS .forwarded (some 9)).inFlight 0xFFFF 16 1 = some (flightC .forwarded (some 9)) ∧
    ((flightS .forwarded (some 9)).at_ 9).expired (flightC .forwarded (some 9)) = true ∧
    ((flightS .forwarded (some 9)).at_ 8).expired (flightC .forwarded (some 9)) = false ∧
    run.inFlight 0xFFFF 16 1 = none ∧ (run.at_ 1000).canTake 16 = true ∧ ((slot 0x0FFF (rq 16 []) run).at_ 1000).slotHolds 0x0FFF (rq 16 []) = true ∧
    (cmdOfOp 0x0FFF).isNone = true := by decide +kernel
theorem witness_LateResponses :
    run.asleep = false ∧ ((flightS .forwarded (some 9)).at_ 9).Calm ∧ Memory.wf (flightS .forwarded (some 9)).mem = true ∧
    (flightS .forwarded (some 9)).inFlight 0xFFFF 16 1 = some (flightC .forwarded (some 9)) ∧
    ((flightS .forwarded (some 9)).at_ 9).expired (flightC .forwarded (some 9)) = true := by
  unfold State.Calm
  decide +kernel
/-- A request of a window stands in its ring and reaches its own steps. -/
def reaches (d : CmdDef) (r : Req) (s : State) : Bool := (slot d.op r s).Reaches d r
theorem witness_DeviceCommandsComplete :
    reaches dDevIdentity (rq 16 []) run = true ∧ reaches dDevVersion (rq 16 []) run = true ∧ reaches dDevState (rq 16 []) run = true ∧
    reaches dDevTime (rq 16 []) run = true ∧ reaches dDevEcho (rq 16 [1, 2]) run = true ∧ reaches dDevMbxStats (rq 16 [15, 0, 0, 0]) run = true ∧
    reaches dDevMbxStats (rq 15 [15, 0, 0, 0]) (win 15 (run.wr (F.MPC_PART_CFG_HOSTING 15) 1)) = true ∧
    (run.reqCmd dDevMbxStats (rq 16 [15, 0, 0, 0])).arg 0 1 = 15 ∧ (run.reqCmd dDevMbxStats (rq 16 [15, 0, 0, 0])).zero 1 3 = true := by decide +kernel
theorem witness_EveryStepKeepsInvariant : run.Inv ∧ ({ run with pending := [.irqDoorbell 0 secA 7] } : State).Inv := by
  unfold State.Inv
  decide +kernel
/-- A sleeping module. -/
def sleepS : State := { run with dev := .sleep }
theorem witness_SleepingBlockIgnoresCommands :
    sleepS.asleep = true ∧ ({ run with dev := .off } : State).asleep = true ∧ actsAsleep (.devTime (rq 16 [])) = false := by decide +kernel
theorem witness_StoreWritesExactlyItsBytes :
    ((mpc run).at_ 1).silent secA = false ∧ ((mpc run).at_ 1).Calm ∧ ((mpc run).at_ 1).bufRoom secA 0xFFFFFE = true ∧
    ((mpc run).at_ 1).stalls secA 0xFFFFFE 2 = false ∧ (mpc run).cached devA 0xFFFFFE = false ∧ Memory.wf (mpc run).mem = true ∧ ((mpc run).at_ 1).accVerdict secA .store 0xFFFFFE 2 = .ok ∧
    inPeri 0xFFFFFE = false ∧ 16 ≤ accWho secA ∧ inDram 0xFFFFFE = false := by
  unfold State.Calm
  decide +kernel
/-- A request with a reserved field set, one too long, one of a wrong length, and the requests of COPPICE and of no unit. -/
def badR : Req := { rq 16 [] with rsvd := 1 }
def longR : Req := { rq 16 [] with len := 49 }
def farR : Req := { rq 16 [] with target := 0x0800 }
def copS : State := win 16 { run with dev := .coppice }
/-- The status with which a request that stands in its ring is refused at the head. -/
def refusedAt (d : CmdDef) (r : Req) (s : State) : Option Nat :=
  let u := slot d.op r s
  if (u.at_ r.t).canTake r.win && (u.at_ r.t).slotHolds d.op r then some ((u.taken r).headCheck d ((u.taken r).cmdOf d.op r)) else none
theorem witness_RefusedRequestHasNoEffect :
    (request (.devTime badR)).map (fun p => p.2) = some badR ∧ run.asleep = false ∧ run.boot.stage ≠ .rom ∧ ((slot dDevTime.op badR run).at_ 1000).Calm ∧
    ((slot dHdgEnum.op (rq 16 []) copS).at_ 1000).Calm ∧ Memory.wf (slot dDevTime.op badR run).mem = true ∧
    refusedAt dDevTime badR run = some 0x0103 ∧ refusedAt dDevTime longR run = some 0x0102 ∧
    refusedAt dDevTime farR run = some 0x0103 ∧ run.isLocal 0x0800 = false ∧ refusedAt dDevTime farR copS = some 0x0402 ∧ dDevTime.lens 0 = true ∧
    refusedAt dHdgEnum (rq 16 []) copS = some 0x0402 ∧ dHdgEnum.coppice = false ∧ dHdgEnum.lens 0 = true := by
  unfold State.Calm
  decide +kernel
theorem witness_ReadsChangeNothing :
    (irqS.at_ 1).Calm ∧ irqS.Loads 1 secA R.TBS_NOW_LO = true ∧ isLow R.TBS_NOW_LO = true ∧ isPop R.TBS_NOW_LO = false ∧
    irqS.Loads 1 secA R.FLT_CFG = true ∧ isLow R.FLT_CFG = false ∧ isLow (R.FLT_CFG - 4) = false := by
  unfold State.Calm
  decide +kernel
theorem witness_PlainRegisterWrite :
    idxS.Stores 1 secA (R.MBX_ERR 16) = true ∧ (regRow (R.MBX_ERR 16)).map (fun r => (r.rwl, r.staged)) = some (0, 0) ∧
    run.Stores 1 devA (R.PFB_CELL_CFG0 511) = true ∧ (regRow (R.PFB_CELL_CFG0 511)).map (fun r => (r.rwl, r.staged)) = some (0, 0) ∧
    inControl (R.PFB_CELL_CFG0 511) = true ∧ R.PFB_CELL_CFG0 511 ≠ R.BOOT_CTL := by decide +kernel

/-! ## Well-formed commands, and ill-formed ones that each check refuses (R50, R56, R445) -/
def okR : Req := { rq 16 [] with target := 0xFFFF, tag := 0xFFFF, len := 0xFFFF }
theorem smoke_request_wf : okR.wf = true ∧ (rq 0 [1]).wf = true := by decide
theorem smoke_request_ill :
    ({ okR with win := 17 } : Req).wf = false ∧ ({ okR with tag := 0x10000 } : Req).wf = false ∧ ({ okR with len := 0x10000 } : Req).wf = false ∧
    ({ okR with target := 0x10000 } : Req).wf = false ∧ ({ okR with flags := 2 ^ 32 } : Req).wf = false ∧ ({ okR with rsvd := 2 ^ 32 } : Req).wf = false ∧
    ({ okR with payload := [] } : Req).wf = false := by decide
theorem smoke_access : secA.wf = true ∧ devA.wf = true ∧ (vpA 5 15).wf = true ∧ (vpA 5 16).wf = false ∧ (vpA 256 0).wf = false ∧ (⟨0x10, true, 0, true, false⟩ : Acc).wf = false := by decide

/-! ## Worked examples of the spec -/
/-- 07_ethernet_switch.md, the yellow frame on a busy queue: averages 26,624 and 27,584, and the draw 0x0F00 drops. -/
theorem test_red_example : redAvg 25600 164 4 = 26624 ∧ redAvg 26624 164 4 = 27584 ∧ redRule true 64 192 63 0 26624 0x0F00 = .drop ∧
    redRule true 128 256 63 0 27584 0 = .accept := by decide
/-- The draw that is not below thr = 5,120 admits the frame. -/
theorem test_red_threshold : redRule true 64 192 63 0 26624 5119 = .drop ∧ redRule true 64 192 63 0 26624 5120 = .accept := by decide
/-- 04_gangs_bridges_wiring.md, gang G05 of the heater: T128–T157. -/
theorem test_gang_members : ((run.setWord (R.PFB_GANG_DEF 5) 0x801E0001).setWord (R.PFB_GANG_MEM 5 0) 0x3FFFFFFF).gangMembers 5 = (List.range 30).map (fun i => 128 + i) := by
  decide +kernel
/-- Every replica is aligned. -/
def aligned (s : State) : State := foldS (List.range 42) (fun i s => { s with tb.replicas := s.tb.replicas.set i { aligned := true } }) s
/-- Bridge H03 of the window motor: PFB_BRG03_CFG0 0x82CA_3014, its legs T300–T303 and T304–T307. -/
def motor : State :=
  probed 579 ((((((((aligned run).setWord (R.PFB_BRG_CFG0 3) 0x82CA3014).setWord (R.PFB_BRG_CFG1 3) 0x00000C81).setWord (R.PFB_GANG_DEF 10) 0x80040002).setWord
    (R.PFB_GANG_DEF 11) 0x80040002).setWord (R.PFB_GANG_MEM 10 1) 0x0000F000).setWord (R.PFB_GANG_MEM 11 1) 0x000F0000).setObj 579
      { cmd := 1, st := 1, edges := [⟨1000, 2, .mailbox⟩] })
theorem test_bridge_fields :
    motor.brgValid 3 = true ∧ motor.legA 3 = 10 ∧ motor.legB 3 = 11 ∧ motor.dwellSt 3 = 3 ∧ motor.rd (F.PFB_BRG_CFG0_REV_DWELL 3) = 20 ∧
    motor.members 579 = [300, 301, 302, 303, 304, 305, 306, 307] := by decide +kernel
/-- The state that a completed command leaves. -/
def next (i : Instr) (s : State) : State := match exec i s with | .next u => u | _ => s
/-- Its reversal passes the dwell state: the change to BRAKE_LOW begins at the edge, REVERSE waits. -/
theorem test_bridge_reversal :
    ((next (.edgeInstant 1000 579) motor).obj 579).cmd = 2 ∧ ((next (.edgeInstant 1000 579) motor).obj 579).trans.map (fun t => t.target) = some 3 ∧
    ((next (.edgeInstant 1000 579) motor).obj 579).dwelling = true ∧ ((next (.edgeInstant 1000 579) motor).obj 579).dwellShown = false := by decide +kernel
/-- 00_scope.md: node 3.17 is 0x00D1. -/
theorem test_node_address : ((({ hdg 2 run with hdg.seg := 3 } : State).takePos 17).rd F.HDG_STAT_NODE) = 0x00D1 := by decide +kernel
/-- 01_architecture.md, lock after wake: the step of 2.5 ms passes an edge armed 0.5 ms ahead, which is driven now and late. -/
def lockS : State :=
  { aligned (probed 0 run) with now := 10000300000, tb.step := some ⟨false, 2500000⟩, fab.objs := run.fab.objs.set 0 { edges := [⟨10000800000, 1, .mailbox⟩] } }
theorem test_step_drives_late : ((next (.alignmentWord 10000300001 []) lockS).obj 0).cmd = 1 ∧ ((next (.alignmentWord 10000300001 []) lockS).obj 0).lateEdge = true := by
  decide +kernel

/-! ## Single steps -/
/-- A request's response slot holds opcode, tag and status; DEV_TIME answers OK (R58, R79). -/
theorem test_dev_time : (next (.devTime (rq 16 [])) (slot 0x0104 (rq 16 []) run)).rd (F.MBX_RSP_PROD_PROD 16) = 1 ∧
    leAt ((next (.devTime (rq 16 [])) (slot 0x0104 (rq 16 []) run)).load (run.rspSlot 16) 64) 0 2 = 0x0104 ∧ leAt ((next (.devTime (rq 16 [])) (slot 0x0104 (rq 16 []) run)).load (run.rspSlot 16) 64) 4 2 = 0 := by
  decide +kernel
/-- Step 2 of R66: a reserved flag is BAD_ARGUMENT, and step 3: a wrong LEN is BAD_LENGTH. -/
theorem test_bad_flags : leAt ((next (.devTime { rq 16 [] with flags := 8 }) (slot 0x0104 { rq 16 [] with flags := 8 } run)).load (run.rspSlot 16) 64) 4 2 = 0x0103 ∧
    leAt ((next (.devTime (rq 16 [1])) (slot 0x0104 (rq 16 [1]) run)).load (run.rspSlot 16) 64) 4 2 = 0x0102 := by decide +kernel
/-- A claim takes the source and a second claim finds none (R38). -/
theorem test_claim : (next (.irqClaimPop 1 secA) irqP).bus = .data 0x800F03FF ∧ (next (.irqClaimPop 2 secA) (next (.irqClaimPop 1 secA) irqP)).bus = .data 0 := by
  decide +kernel
/-- A producer index 65 ahead is refused, one 64 ahead is taken (R51). -/
theorem test_prod_jump : (next (.mbxReqProdWrite 1 secA 16 70) idxS).rdb (F.MBX_ERR_PROD_JUMP 16) = true ∧
    (next (.mbxReqProdWrite 1 secA 16 69) idxS).rd (F.MBX_REQ_PROD_PROD 16) = 69 := by decide +kernel
/-- An access of a partition's core to the control window is an access violation, aligned or not (R31). -/
theorem test_control_window : (mpc run).accVerdict secA .load 0x10800000 4 = .fail 0x0B01 ∧ (mpc run).accVerdict secA .load 0x10830001 1 = .fail 0x0B01 := by
  decide +kernel

/-! ## Mailbox commands -/
/-- The clauses of `Obligations.CellCommandsComplete` apply: cellSet, cellConfig, cellStatus, cellClear, cellReadConfig. -/
theorem witness_CellCommandsComplete :
  (
    let s : State := slot dCellSet.op (rq 16 (pl [(2, 511), (2, 0), (8, 0)])) (own kTerm 511 16 run)
    let r : Req := rq 16 (pl [(2, 511), (2, 0), (8, 0)])
    (s.Reaches dCellSet r) &&
    let c := s.reqCmd dCellSet r
    let σ := s.taken r
    let n := c.arg 0 2
    let a := c.arg 2 1
    let at_ := c.arg 4 8
    (decide (n < 512) && decide (a ≤ 3) && c.zero 3 1 && atOk c at_) &&
    (σ.owns c kTerm n) &&
    let res : Res :=
    σ.setObject c n a at_ false (σ.gangOf n).isSome
    (isLater res)) = true ∧
  (
    let s : State := slot dCellSet.op (rq 16 (pl [(2, 511), (2, 0), (8, 10 ^ 7)])) (own kTerm 511 16 run)
    let r : Req := rq 16 (pl [(2, 511), (2, 0), (8, 10 ^ 7)])
    (s.Reaches dCellSet r) &&
    let c := s.reqCmd dCellSet r
    let σ := s.taken r
    let n := c.arg 0 2
    let a := c.arg 2 1
    let at_ := c.arg 4 8
    (decide (n < 512) && decide (a ≤ 3) && c.zero 3 1 && atOk c at_) &&
    (σ.owns c kTerm n) &&
    let res : Res :=
    σ.setObject c n a at_ false (σ.gangOf n).isSome
    (isDone res)) = true ∧
  (
    let s : State := slot dCellConfig.op (rq 16 (pl [(2, 511), (26, 0)])) (own kTerm 511 16 run)
    let r : Req := rq 16 (pl [(2, 511), (26, 0)])
    (s.Reaches dCellConfig r) &&
    let c := s.reqCmd dCellConfig r
    let σ := s.taken r
    let n := c.arg 0 2
    let ims := [c.image (R.PFB_CELL_CFG0 n) 4, c.image (R.PFB_CELL_CFG1 n) 12, c.image (R.PFB_CELL_CFG2 n) 20]
    let fs := cellFlds n
    (decide (n < 512) && c.zero 2 2 && imagesOk fs ims && decide (σ.afterFld fs ims (F.PFB_CELL_CFG2_THR_LO n) < σ.afterFld fs ims (F.PFB_CELL_CFG2_THR_HI n))) &&
    (σ.owns c kTerm n) &&
    let res : Res :=
    σ.configure fs ims (σ.stopped n) (if (σ.gangOf n).isSome || σ.brokenFor c n then stMODE_FORBIDS else σ.lostStatus n)
    (isDone res)) = true ∧
  (
    let s : State := slot dCellStatus.op (rq 16 (pl [(2, 511), (1, 1), (1, 0)])) (own kTerm 511 16 run)
    let r : Req := rq 16 (pl [(2, 511), (1, 1), (1, 0)])
    (s.Reaches dCellStatus r) &&
    let c := s.reqCmd dCellStatus r
    let σ := s.taken r
    let b := σ.rangeBytes c
    let first := leAt b 0 2
    let count := if c.desc then leAt b 2 2 else leAt b 2 1
    ((c.desc || leAt b 3 1 == 0) && (!c.desc || c.dSize 0 == 4) && between 1 (if c.desc then 512 else 5) count && decide (first + count ≤ 512) && (!c.desc || c.room (8 + 8 * count))) &&
    ((List.range count).all (fun i => σ.mayRead c kTerm (first + i))) &&
    ((List.range count).all (fun i => !σ.bankLost ((first + i) / 16))) &&
    let p := σ.rd F.PFB_TS_SEL_PAGE
    let res : Res :=
    σ.answerRange c (bytesLE 8 σ.pageStamp ++ (List.range count).flatMap (fun i =>
      let w := σ.pageWords p (first + i)
      wordBytes w.1 ++ wordBytes w.2)) []
    (isDone res)) = true ∧
  (
    let s : State := slot dCellClear.op (rq 16 (pl [(2, 511), (2, 0)])) (own kTerm 511 16 run)
    let r : Req := rq 16 (pl [(2, 511), (2, 0)])
    (s.Reaches dCellClear r) &&
    let c := s.reqCmd dCellClear r
    let σ := s.taken r
    let n := c.arg 0 2
    (decide (n < 512) && c.zero 2 2) &&
    (σ.owns c kTerm n) &&
    let res : Res :=
    σ.clearObject n ((σ.gangOf n).isSome || σ.brokenFor c n)
    (isDone res)) = true ∧
  (
    let s : State := slot dCellReadConfig.op (rq 16 (pl [(2, 511), (1, 1), (1, 0)])) (own kTerm 511 16 run)
    let r : Req := rq 16 (pl [(2, 511), (1, 1), (1, 0)])
    (s.Reaches dCellReadConfig r) &&
    let c := s.reqCmd dCellReadConfig r
    let σ := s.taken r
    let n := c.arg 0 2
    let w := c.arg 2 1
    (decide (n < 512) && decide (w ≤ 1) && c.zero 3 1) &&
    (σ.mayRead c kTerm n) &&
    (!σ.bankLost (n / 16)) &&
    true) = true :=
  by and_intros <;> decide +kernel
/-- The clauses of `Obligations.GangBridgeProbeCommandsComplete` apply: gangSet, gangConfig, gangStatus, gangClear, bridgeSet, bridgeConfig, bridgeStatus, bridgeClear, probeRun, probeResult, gangReadConfig. -/
theorem witness_GangBridgeProbeCommandsComplete :
  (
    let s : State := slot dGangSet.op (rq 16 (pl [(1, 63), (3, 0), (8, 0), (4, 0)])) (probed (xGang 63) (gang 63 0 run))
    let r : Req := rq 16 (pl [(1, 63), (3, 0), (8, 0), (4, 0)])
    (s.Reaches dGangSet r) &&
    let c := s.reqCmd dGangSet r
    let σ := s.taken r
    let g := c.arg 0 1
    let a := c.arg 1 1
    let at_ := c.arg 4 8
    (decide (g < 64) && σ.defined (xGang g) && decide (a ≤ 2) && decide (c.arg 2 1 ≤ 1) && c.zero 3 1 && c.zero 12 4 && atOk c at_) &&
    (σ.owns c kGang g) &&
    let res : Res :=
    σ.setObject c (xGang g) a at_ (bitOf (c.arg 2 1) 0) (σ.brgOf g).isSome
    (isLater res)) = true ∧
  (
    let s : State := slot dGangSet.op (rq 16 (pl [(1, 63), (3, 0), (8, 10 ^ 7), (4, 0)])) (probed (xGang 63) (gang 63 0 run))
    let r : Req := rq 16 (pl [(1, 63), (3, 0), (8, 10 ^ 7), (4, 0)])
    (s.Reaches dGangSet r) &&
    let c := s.reqCmd dGangSet r
    let σ := s.taken r
    let g := c.arg 0 1
    let a := c.arg 1 1
    let at_ := c.arg 4 8
    (decide (g < 64) && σ.defined (xGang g) && decide (a ≤ 2) && decide (c.arg 2 1 ≤ 1) && c.zero 3 1 && c.zero 12 4 && atOk c at_) &&
    (σ.owns c kGang g) &&
    let res : Res :=
    σ.setObject c (xGang g) a at_ (bitOf (c.arg 2 1) 0) (σ.brgOf g).isSome
    (isDone res)) = true ∧
  (
    let s : State := slot dGangConfig.op (rq 16 (pl [(1, 63), (27, 0)])) (gang 63 0 run)
    let r : Req := rq 16 (pl [(1, 63), (27, 0)])
    (s.Reaches dGangConfig r) &&
    let c := s.reqCmd dGangConfig r
    let σ := s.taken r
    let g := c.arg 0 1
    let ims := [c.image (R.PFB_GANG_CFG0 g) 4, c.image (R.PFB_GANG_CFG1 g) 12]
    let fs := gangFlds g
    (decide (g < 64) && σ.defined (xGang g) && c.zero 1 3 && c.zero 20 8 && imagesOk fs ims && (σ.afterFld fs ims (F.PFB_GANG_CFG1_FAST_EN g) == 0 || σ.afterFld fs ims (F.PFB_GANG_CFG1_DRIVER g) == 0)) &&
    (σ.owns c kGang g) &&
    let res : Res :=
    (σ.configure fs ims (σ.stopped (σ.topOf (xGang g))) (if σ.brokenFor c (xGang g) then stMODE_FORBIDS else σ.lostStatus (xGang g))).andThen
      (fun s' => if σ.fastEn (xGang g) && !s'.fastEn (xGang g) then s'.dropStanding (xGang g) else s')
    (isDone res)) = true ∧
  (
    let s : State := slot dGangStatus.op (rq 16 (pl [(1, 63), (1, 1), (2, 0)])) (gang 63 0 run)
    let r : Req := rq 16 (pl [(1, 63), (1, 1), (2, 0)])
    (s.Reaches dGangStatus r) &&
    let c := s.reqCmd dGangStatus r
    let σ := s.taken r
    let first := c.arg 0 1
    let count := c.arg 1 1
    let l := (List.range count).map (fun i => first + i)
    (between 1 5 count && decide (first + count ≤ 64) && c.zero 2 2) &&
    (l.all (fun g => !σ.defined (xGang g) || σ.mayRead c kGang g)) &&
    (l.all (fun g => !σ.defined (xGang g) || !σ.objLost (σ.topOf (xGang g)))) &&
    true) = true ∧
  (
    let s : State := slot dGangClear.op (rq 16 (pl [(1, 63), (3, 0)])) (gang 63 0 run)
    let r : Req := rq 16 (pl [(1, 63), (3, 0)])
    (s.Reaches dGangClear r) &&
    let c := s.reqCmd dGangClear r
    let σ := s.taken r
    let g := c.arg 0 1
    (decide (g < 64) && σ.defined (xGang g) && c.zero 1 3) &&
    (σ.owns c kGang g) &&
    let res : Res :=
    σ.clearObject (xGang g) ((σ.brgOf g).isSome || σ.brokenFor c (xGang g))
    (isDone res)) = true ∧
  (
    let s : State := slot dBridgeSet.op (rq 16 (pl [(1, 31), (3, 0), (8, 0), (4, 0)])) (probed (xBrg 31) (bridge 31 run))
    let r : Req := rq 16 (pl [(1, 31), (3, 0), (8, 0), (4, 0)])
    (s.Reaches dBridgeSet r) &&
    let c := s.reqCmd dBridgeSet r
    let σ := s.taken r
    let h := c.arg 0 1
    let a := c.arg 1 1
    let at_ := c.arg 4 8
    (decide (h < 32) && σ.defined (xBrg h) && decide (a ≤ 4) && decide (c.arg 2 1 ≤ 1) && c.zero 3 1 && c.zero 12 4 && atOk c at_) &&
    (σ.owns c kBrg h) &&
    let res : Res :=
    σ.setObject c (xBrg h) a at_ (bitOf (c.arg 2 1) 0) false
    (isLater res)) = true ∧
  (
    let s : State := slot dBridgeSet.op (rq 16 (pl [(1, 31), (3, 0), (8, 10 ^ 7), (4, 0)])) (probed (xBrg 31) (bridge 31 run))
    let r : Req := rq 16 (pl [(1, 31), (3, 0), (8, 10 ^ 7), (4, 0)])
    (s.Reaches dBridgeSet r) &&
    let c := s.reqCmd dBridgeSet r
    let σ := s.taken r
    let h := c.arg 0 1
    let a := c.arg 1 1
    let at_ := c.arg 4 8
    (decide (h < 32) && σ.defined (xBrg h) && decide (a ≤ 4) && decide (c.arg 2 1 ≤ 1) && c.zero 3 1 && c.zero 12 4 && atOk c at_) &&
    (σ.owns c kBrg h) &&
    let res : Res :=
    σ.setObject c (xBrg h) a at_ (bitOf (c.arg 2 1) 0) false
    (isDone res)) = true ∧
  (
    let s : State := slot dBridgeConfig.op (rq 16 (pl [(1, 31), (19, 0)])) (bridge 31 run)
    let r : Req := rq 16 (pl [(1, 31), (19, 0)])
    (s.Reaches dBridgeConfig r) &&
    let c := s.reqCmd dBridgeConfig r
    let σ := s.taken r
    let h := c.arg 0 1
    let ims := [c.image (R.PFB_BRG_CFG0 h) 4, c.image (R.PFB_BRG_CFG1 h) 12]
    let fs := bridgeFlds h
    (decide (h < 32) && σ.defined (xBrg h) && c.zero 1 3 && imagesOk fs ims) &&
    (σ.owns c kBrg h) &&
    let res : Res :=
    σ.configure fs ims (σ.stopped (xBrg h)) (if σ.brokenFor c (xBrg h) then stMODE_FORBIDS else σ.lostStatus (xBrg h))
    (isDone res)) = true ∧
  (
    let s : State := slot dBridgeStatus.op (rq 16 (pl [(1, 31), (1, 1), (2, 0)])) (bridge 31 run)
    let r : Req := rq 16 (pl [(1, 31), (1, 1), (2, 0)])
    (s.Reaches dBridgeStatus r) &&
    let c := s.reqCmd dBridgeStatus r
    let σ := s.taken r
    let first := c.arg 0 1
    let count := c.arg 1 1
    let l := (List.range count).map (fun i => first + i)
    (between 1 3 count && decide (first + count ≤ 32) && c.zero 2 2) &&
    (l.all (fun h => !σ.defined (xBrg h) || σ.mayRead c kBrg h)) &&
    (l.all (fun h => !σ.defined (xBrg h) || !σ.objLost (xBrg h))) &&
    true) = true ∧
  (
    let s : State := slot dBridgeClear.op (rq 16 (pl [(1, 31), (3, 0)])) (bridge 31 run)
    let r : Req := rq 16 (pl [(1, 31), (3, 0)])
    (s.Reaches dBridgeClear r) &&
    let c := s.reqCmd dBridgeClear r
    let σ := s.taken r
    let h := c.arg 0 1
    (decide (h < 32) && σ.defined (xBrg h) && c.zero 1 3) &&
    (σ.owns c kBrg h) &&
    let res : Res :=
    σ.clearObject (xBrg h) (σ.brokenFor c (xBrg h))
    (isDone res)) = true ∧
  (
    let s : State := slot dProbeRun.op (rq 16 (pl [(2, 511), (2, 1), (4, 0)])) ({ run with cfg.mrun := [{ req := { act := aLBIST }, start := 0 }] })
    let r : Req := rq 16 (pl [(2, 511), (2, 1), (4, 0)])
    (s.Reaches dProbeRun r) &&
    let c := s.reqCmd dProbeRun r
    let σ := s.taken r
    let first := c.arg 0 2
    let count := c.arg 2 2
    (between 1 512 count && decide (first + count ≤ 512) && σ.coversWhole first count && decide (c.arg 4 1 ≤ 1) && c.zero 5 3) &&
    (c.isSecure || σ.ownsCover c first count) &&
    let res : Res :=
    σ.commandAct c aPROBE first count (c.arg 4 1)
    (isLater res)) = true ∧
  (
    let s : State := slot dProbeRun.op (rq 16 (pl [(2, 511), (2, 1), (4, 0)])) (run)
    let r : Req := rq 16 (pl [(2, 511), (2, 1), (4, 0)])
    (s.Reaches dProbeRun r) &&
    let c := s.reqCmd dProbeRun r
    let σ := s.taken r
    let first := c.arg 0 2
    let count := c.arg 2 2
    (between 1 512 count && decide (first + count ≤ 512) && σ.coversWhole first count && decide (c.arg 4 1 ≤ 1) && c.zero 5 3) &&
    (c.isSecure || σ.ownsCover c first count) &&
    let res : Res :=
    σ.commandAct c aPROBE first count (c.arg 4 1)
    (isDone res)) = true ∧
  (
    let s : State := slot dProbeResult.op (rq 16 (pl [(2, 511), (2, 1)])) (own kTerm 511 16 run)
    let r : Req := rq 16 (pl [(2, 511), (2, 1)])
    (s.Reaches dProbeResult r) &&
    let c := s.reqCmd dProbeResult r
    let σ := s.taken r
    let b := σ.rangeBytes c
    let first := leAt b 0 2
    let count := leAt b 2 2
    ((!c.desc || c.dSize 0 == 4) && between 1 (if c.desc then 512 else 8) count && decide (first + count ≤ 512) && (!c.desc || c.room (16 + 4 * count))) &&
    ((List.range count).all (fun i => σ.mayRead c kTerm (first + i))) &&
    let res : Res :=
    σ.answerRange c (bytesLE 8 (if σ.fab.probeState = 1 then 0 else σ.fab.probeDone) ++ bytesLE 4 σ.fab.probeSeq ++
      bytesLE 1 σ.fab.probeState ++ bytesLE 3 0 ++ (List.range count).flatMap (fun i => σ.probeBytes (first + i))) []
    (isDone res)) = true ∧
  (
    let s : State := slot dGangReadConfig.op (rq 16 (pl [(1, 63), (1, 0), (1, 1), (1, 0)])) (gang 63 0 run)
    let r : Req := rq 16 (pl [(1, 63), (1, 0), (1, 1), (1, 0)])
    (s.Reaches dGangReadConfig r) &&
    let c := s.reqCmd dGangReadConfig r
    let σ := s.taken r
    let o := c.arg 0 1
    let ty := c.arg 1 1
    let w := c.arg 2 1
    (decide (ty ≤ 1) && decide (w ≤ 1) && c.zero 3 1 && (if ty = 0 then decide (o < 64) && σ.defined (xGang o) else decide (o < 32) && σ.defined (xBrg o))) &&
    (σ.mayRead c (if ty = 0 then kGang else kBrg) o) &&
    (!σ.objLost (if ty = 0 then σ.topOf (xGang o) else xBrg o)) &&
    let res : Res :=
    if ty = 0 then
      .done stOK (σ.confWord w (R.PFB_GANG_CFG0 o) ++
        wordBytes (σ.gangCfg1 o (if w = 1 then σ.shadowWord (R.PFB_GANG_CFG1 o) else σ.word (R.PFB_GANG_CFG1 o))) ++ wordBytes (σ.gangDef o)) σ
    else .done stOK (σ.confWord w (R.PFB_BRG_CFG0 o) ++ σ.confWord w (R.PFB_BRG_CFG1 o) ++ bytesLE 4 0) σ
    (isDone res)) = true ∧
  (
    let s : State := slot dGangReadConfig.op (rq 16 (pl [(1, 31), (1, 1), (1, 0), (1, 0)])) (bridge 31 run)
    let r : Req := rq 16 (pl [(1, 31), (1, 1), (1, 0), (1, 0)])
    (s.Reaches dGangReadConfig r) &&
    let c := s.reqCmd dGangReadConfig r
    let σ := s.taken r
    let o := c.arg 0 1
    let ty := c.arg 1 1
    let w := c.arg 2 1
    (decide (ty ≤ 1) && decide (w ≤ 1) && c.zero 3 1 && (if ty = 0 then decide (o < 64) && σ.defined (xGang o) else decide (o < 32) && σ.defined (xBrg o))) &&
    (σ.mayRead c (if ty = 0 then kGang else kBrg) o) &&
    (!σ.objLost (if ty = 0 then σ.topOf (xGang o) else xBrg o)) &&
    let res : Res :=
    if ty = 0 then
      .done stOK (σ.confWord w (R.PFB_GANG_CFG0 o) ++
        wordBytes (σ.gangCfg1 o (if w = 1 then σ.shadowWord (R.PFB_GANG_CFG1 o) else σ.word (R.PFB_GANG_CFG1 o))) ++ wordBytes (σ.gangDef o)) σ
    else .done stOK (σ.confWord w (R.PFB_BRG_CFG0 o) ++ σ.confWord w (R.PFB_BRG_CFG1 o) ++ bytesLE 4 0) σ
    (isDone res)) = true :=
  by and_intros <;> decide +kernel
/-- The clauses of `Obligations.BudgetEnergyCommandsComplete` apply: budgetStatus, budgetObject, budgetObjStatus, energyRead, energyLogRead. -/
theorem witness_BudgetEnergyCommandsComplete :
  (
    let s : State := slot dBudgetStatus.op (rq 16 (pl [(1, 255), (3, 0)])) (run)
    let r : Req := rq 16 (pl [(1, 255), (3, 0)])
    (s.Reaches dBudgetStatus r) &&
    let c := s.reqCmd dBudgetStatus r
    let σ := s.taken r
    let v := if c.arg 0 1 = 0xFF then c.who else c.arg 0 1
    (decide (v ≤ 17) && c.zero 1 3) &&
    (σ.mayHolder c v) &&
    true) = true ∧
  (
    let s : State := slot dBudgetObject.op (rq 16 (pl [(2, 511), (2, 3), (4, 1600)])) (own kTerm 511 16 run)
    let r : Req := rq 16 (pl [(2, 511), (2, 3), (4, 1600)])
    (s.Reaches dBudgetObject r) &&
    let c := s.reqCmd dBudgetObject r
    let σ := s.taken r
    let x := c.arg 0 2
    let d := c.arg 4 4
    (decide (x < 608) && σ.isTop x && decide (c.arg 2 1 ≤ 3) && c.zero 3 1 && between 10 (σ.declMax x) d) &&
    (σ.owns c (objKind x) (objIdx x)) &&
    (!σ.brokenFor c x) &&
    true) = true ∧
  (
    let s : State := slot dBudgetObjStatus.op (rq 16 (pl [(2, 607), (1, 1), (1, 0)])) (own kBrg 31 16 run)
    let r : Req := rq 16 (pl [(2, 607), (1, 1), (1, 0)])
    (s.Reaches dBudgetObjStatus r) &&
    let c := s.reqCmd dBudgetObjStatus r
    let σ := s.taken r
    let first := c.arg 0 2
    let count := c.arg 2 1
    let l := (List.range count).map (fun i => first + i)
    (between 1 10 count && decide (first + count ≤ 608) && c.zero 3 1) &&
    (l.all (fun x => σ.mayRead c (objKind x) (objIdx x))) &&
    true) = true ∧
  (
    let s : State := slot dEnergyRead.op (rq 16 (pl [(2, 631), (2, 1)])) (run)
    let r : Req := rq 16 (pl [(2, 631), (2, 1)])
    (s.Reaches dEnergyRead r) &&
    let c := s.reqCmd dEnergyRead r
    let σ := s.taken r
    let b := σ.rangeBytes c
    let first := leAt b 0 2
    let count := leAt b 2 2
    let l := (List.range count).map (fun i => first + i)
    ((!c.desc || c.dSize 0 == 4) && between 1 (if c.desc then 632 else 2) count && decide (first + count ≤ 632) && (!c.desc || c.room (8 + 16 * count))) &&
    (l.all (fun m => σ.mayMeter c m)) &&
    let res : Res :=
    σ.answerRange c (bytesLE 8 σ.fab.lastGrid ++ l.flatMap (fun m => bytesLE 8 (σ.eDel m) ++ bytesLE 8 (σ.eRet m)))
      (bytesLE 4 (8 + 16 * count) ++ bytesLE 4 0)
    (isDone res)) = true ∧
  (
    let s : State := slot dEnergyLogRead.op (dq 16 [(0x10000, 4, 0), (0x10040, 256, 1)]) (mpc run)
    let r : Req := dq 16 [(0x10000, 4, 0), (0x10040, 256, 1)]
    (s.Reaches dEnergyLogRead r) &&
    let c := s.reqCmd dEnergyLogRead r
    (c.dSize 0 == 4 && c.dSize 1 % 256 == 0) &&
    true) = true :=
  by and_intros <;> decide +kernel
/-- The clauses of `Obligations.CycleCommandsComplete` apply: cycStatus, cycTaskStatus, cycSwap, cycStart, cycStop, cycHold, cycTaskRestart, cycChange, cycForce, cycVarRead, cycEvent. -/
theorem witness_CycleCommandsComplete :
  (
    let s : State := slot dCycStatus.op (rq 16 (pl [])) (cyc 1 run)
    let r : Req := rq 16 (pl [])
    (s.Reaches dCycStatus r) &&
    let c := s.reqCmd dCycStatus r
    let σ := s.taken r
    (σ.readsProg c) &&
    true) = true ∧
  (
    let s : State := slot dCycTaskStatus.op (rq 16 (pl [(1, 23), (3, 0)])) (cyc 1 run)
    let r : Req := rq 16 (pl [(1, 23), (3, 0)])
    (s.Reaches dCycTaskStatus r) &&
    let c := s.reqCmd dCycTaskStatus r
    let σ := s.taken r
    let k := c.arg 0 1
    (decide (k < 24) && c.zero 1 3) &&
    (σ.readsTask c k) &&
    true) = true ∧
  (
    let s : State := slot dCycSwap.op (rq 16 (pl [(8, 0)])) ({ cyc 0 run with cyc.waiting := some prog })
    let r : Req := rq 16 (pl [(8, 0)])
    (s.Reaches dCycSwap r) &&
    let c := s.reqCmd dCycSwap r
    let σ := s.taken r
    (σ.ownsProg c) &&
    (σ.eng != 2 && σ.cyc.waiting.isSome && !(σ.eng == 1 && σ.swapDue σ.now)) &&
    let res : Res :=
    if σ.eng = 0 then .done stOK (bytesLE 8 σ.now) ((σ.activate false).trig 123)
    else match σ.scheduleSwap (c.arg 0 8) c.taken with
      | some (e, σ') => .done stACCEPTED (bytesLE 8 e) σ'
      | none => if c.nowait then .done stBUDGET_DENIED [] (σ.denyAwaited c) else .later .deferred σ.now σ
    (isDone res)) = true ∧
  (
    let s : State := slot dCycSwap.op (rq 16 (pl [(8, 0)])) ({ (cyc 1 (own kTerm 0 16 run)).wr (F.PFB_BUD_I_DECL 0) 1600 with cyc.waiting := some { prog with writer := [23] } })
    let r : Req := rq 16 (pl [(8, 0)])
    (s.Reaches dCycSwap r) &&
    let c := s.reqCmd dCycSwap r
    let σ := s.taken r
    (σ.ownsProg c) &&
    (σ.eng != 2 && σ.cyc.waiting.isSome && !(σ.eng == 1 && σ.swapDue σ.now)) &&
    let res : Res :=
    if σ.eng = 0 then .done stOK (bytesLE 8 σ.now) ((σ.activate false).trig 123)
    else match σ.scheduleSwap (c.arg 0 8) c.taken with
      | some (e, σ') => .done stACCEPTED (bytesLE 8 e) σ'
      | none => if c.nowait then .done stBUDGET_DENIED [] (σ.denyAwaited c) else .later .deferred σ.now σ
    (isLater res)) = true ∧
  (
    let s : State := slot dCycStart.op (rq 16 (pl [(1, 0), (3, 0)])) (cyc 0 run)
    let r : Req := rq 16 (pl [(1, 0), (3, 0)])
    (s.Reaches dCycStart r) &&
    let c := s.reqCmd dCycStart r
    let σ := s.taken r
    let m := c.arg 0 1
    (decide (m ≤ 2) && c.zero 1 3) &&
    (σ.ownsProg c) &&
    (σ.cyc.active.isSome) &&
    ((m == 2 && σ.eng == 2) || (m != 2 && σ.eng == 0)) &&
    let res : Res :=
    if (match σ.startLive with | some ρ => !ρ.auto | none => false) then .wait .waitObject
    else
      let σ := { σ with cyc.start := some { mode := m, auto := false, cmd := some (c.node, c.win, c.tag) } }
      match σ.admitGroup σ.progObjs with
      | some σ' =>
        let at_ := (σ.now / gridNs + 1) * gridNs
        .later .running at_ ({ σ' with cyc.start := some { mode := m, auto := false, cmd := some (c.node, c.win, c.tag), runAt := some at_ } })
      | none => if c.nowait then .done stBUDGET_DENIED [] (({ σ with cyc.start := none } : State).denyAwaited c) else .later .deferred σ.now σ
    (isLater res)) = true ∧
  (
    let s : State := slot dCycStop.op (rq 16 (pl [])) (cyc 1 run)
    let r : Req := rq 16 (pl [])
    (s.Reaches dCycStop r) &&
    let c := s.reqCmd dCycStop r
    let σ := s.taken r
    (σ.ownsProg c) &&
    (σ.eng == 1 || σ.eng == 2) &&
    true) = true ∧
  (
    let s : State := slot dCycHold.op (rq 16 (pl [])) (cyc 1 run)
    let r : Req := rq 16 (pl [])
    (s.Reaches dCycHold r) &&
    let c := s.reqCmd dCycHold r
    let σ := s.taken r
    (σ.ownsProg c) &&
    (σ.eng == 1 && σ.holdPermitted) &&
    true) = true ∧
  (
    let s : State := slot dCycTaskRestart.op (rq 16 (pl [(1, 23), (3, 0)])) ((cyc 1 run).setT 23 5)
    let r : Req := rq 16 (pl [(1, 23), (3, 0)])
    (s.Reaches dCycTaskRestart r) &&
    let c := s.reqCmd dCycTaskRestart r
    let σ := s.taken r
    let k := c.arg 0 1
    (decide (k < 24) && c.zero 1 3) &&
    (σ.ownsTask c k) &&
    (σ.eng == 1 && σ.tstate k == 5) &&
    true) = true ∧
  (
    let s : State := slot dCycChange.op (rq 16 (pl [(1, 0), (1, 1), (2, 0), (8, 0), (2, 0), (2, 0), (1, 8), (1, 0), (2, 0), (8, 5)])) (cyc 1 run)
    let r : Req := rq 16 (pl [(1, 0), (1, 1), (2, 0), (8, 0), (2, 0), (2, 0), (1, 8), (1, 0), (2, 0), (8, 5)])
    (s.Reaches dCycChange r) &&
    let c := s.reqCmd dCycChange r
    let σ := s.taken r
    let b := σ.changeBytes c
    let op := leAt b 0 1
    let n := leAt b 1 1
    let es := (List.range n).map (fun i => slice b (12 + 16 * i) 16)
    let at_ := leAt b 4 8
    (decide (op ≤ 2) && leAt b 2 2 == 0 && (op == 1 || at_ == 0) && (if op = 0 then between 1 64 n && (if c.desc then decide (12 + 16 * n ≤ c.dSize 0) else c.req.len == 12 + 16 * n) && es.all (fun e => σ.changeOk e) else n == 0 && (c.desc || c.req.len == 12))) &&
    (σ.ownsProg c) &&
    (if op = 0 then decide (σ.cyc.staged.length + n ≤ 64) else op != 1 || !σ.cyc.staged.isEmpty) &&
    (op != 1 || σ.eng != 2) &&
    let res : Res :=
    if σ.cyc.commitAt.isSome then .wait .waitObject
    else if op = 0 then
      let σ := { σ with cyc.staged := σ.cyc.staged ++ es }
      .done stOK σ.stagedBytes (σ.wr F.CYC_STATE_OC_STAGED σ.cyc.staged.length)
    else if op = 1 then
      if σ.eng = 0 then
        let σ := σ.applyStaged.wr F.CYC_STATE_OC_RESULT 2
        .done stOK σ.stagedBytes σ
      else .done stACCEPTED σ.stagedBytes ({ σ.wr F.CYC_STATE_OC_RESULT 1 with cyc.commitAt := some (if at_ = 0 then σ.now else max at_ σ.now) })
    else
      let σ := { σ with cyc.staged := [] }
      .done stOK σ.stagedBytes ((σ.wr F.CYC_STATE_OC_STAGED 0).wr F.CYC_STATE_OC_RESULT 4)
    (isDone res)) = true ∧
  (
    let s : State := slot dCycChange.op (rq 16 (pl [(1, 1), (1, 0), (2, 0), (8, 0)])) ({ cyc 1 run with cyc.staged := [pl [(16, 0)]] })
    let r : Req := rq 16 (pl [(1, 1), (1, 0), (2, 0), (8, 0)])
    (s.Reaches dCycChange r) &&
    let c := s.reqCmd dCycChange r
    let σ := s.taken r
    let b := σ.changeBytes c
    let op := leAt b 0 1
    let n := leAt b 1 1
    let es := (List.range n).map (fun i => slice b (12 + 16 * i) 16)
    let at_ := leAt b 4 8
    (decide (op ≤ 2) && leAt b 2 2 == 0 && (op == 1 || at_ == 0) && (if op = 0 then between 1 64 n && (if c.desc then decide (12 + 16 * n ≤ c.dSize 0) else c.req.len == 12 + 16 * n) && es.all (fun e => σ.changeOk e) else n == 0 && (c.desc || c.req.len == 12))) &&
    (σ.ownsProg c) &&
    (if op = 0 then decide (σ.cyc.staged.length + n ≤ 64) else op != 1 || !σ.cyc.staged.isEmpty) &&
    (op != 1 || σ.eng != 2) &&
    let res : Res :=
    if σ.cyc.commitAt.isSome then .wait .waitObject
    else if op = 0 then
      let σ := { σ with cyc.staged := σ.cyc.staged ++ es }
      .done stOK σ.stagedBytes (σ.wr F.CYC_STATE_OC_STAGED σ.cyc.staged.length)
    else if op = 1 then
      if σ.eng = 0 then
        let σ := σ.applyStaged.wr F.CYC_STATE_OC_RESULT 2
        .done stOK σ.stagedBytes σ
      else .done stACCEPTED σ.stagedBytes ({ σ.wr F.CYC_STATE_OC_RESULT 1 with cyc.commitAt := some (if at_ = 0 then σ.now else max at_ σ.now) })
    else
      let σ := { σ with cyc.staged := [] }
      .done stOK σ.stagedBytes ((σ.wr F.CYC_STATE_OC_STAGED 0).wr F.CYC_STATE_OC_RESULT 4)
    (isDone res)) = true ∧
  (
    let s : State := slot dCycForce.op (rq 16 (pl [(1, 0), (1, 2), (2, 0), (1, 2), (1, 0), (2, 511), (2, 1), (2, 0), (8, 0), (1, 3), (1, 0), (2, 511), (2, 4000), (2, 0), (8, 0)])) (cyc 1 run)
    let r : Req := rq 16 (pl [(1, 0), (1, 2), (2, 0), (1, 2), (1, 0), (2, 511), (2, 1), (2, 0), (8, 0), (1, 3), (1, 0), (2, 511), (2, 4000), (2, 0), (8, 0)])
    (s.Reaches dCycForce r) &&
    let c := s.reqCmd dCycForce r
    let σ := s.taken r
    let op := c.arg 0 1
    let n := c.arg 1 1
    let es := (List.range n).map (fun i => c.argBytes (4 + 16 * i) 16)
    let key (e : List Byte) := σ.forceSlot (leAt e 0 1) (leAt e 2 2)
    (c.zero 2 2 && (c.req.len == 4 + 16 * n) && (if op = 0 then between 1 2 n && es.all forceOk else if op = 1 then n == 1 && es.all (fun e => forceForm e && (key e).isSome) else op == 2 && n == 0)) &&
    (σ.ownsProg c) &&
    (σ.holdPermitted && (op != 0 || es.all (fun e => leAt e 0 1 != 1 || σ.progObjs.contains (leAt e 2 2)))) &&
    let res : Res :=
    if op = 0 then
      (match σ.putForces es with
       | some σ' => .done stOK σ'.forceBytes σ'.forceStat
       | none => .refuse stBAD_ARGUMENT)
    else if op = 1 then
      let σ' := foldS es (fun e (σ : State) => match σ.forceSlot (leAt e 0 1) (leAt e 2 2) with | some i => σ.store (cycForce i) (List.replicate 16 0) | none => σ) σ
      .done stOK σ'.forceBytes σ'.forceStat
    else .done stOK (σ.clearForces).forceBytes σ.clearForces
    (isDone res)) = true ∧
  (
    let s : State := slot dCycForce.op (rq 16 (pl [(1, 2), (1, 0), (2, 0)])) (cyc 1 run)
    let r : Req := rq 16 (pl [(1, 2), (1, 0), (2, 0)])
    (s.Reaches dCycForce r) &&
    let c := s.reqCmd dCycForce r
    let σ := s.taken r
    let op := c.arg 0 1
    let n := c.arg 1 1
    let es := (List.range n).map (fun i => c.argBytes (4 + 16 * i) 16)
    let key (e : List Byte) := σ.forceSlot (leAt e 0 1) (leAt e 2 2)
    (c.zero 2 2 && (c.req.len == 4 + 16 * n) && (if op = 0 then between 1 2 n && es.all forceOk else if op = 1 then n == 1 && es.all (fun e => forceForm e && (key e).isSome) else op == 2 && n == 0)) &&
    (σ.ownsProg c) &&
    (σ.holdPermitted && (op != 0 || es.all (fun e => leAt e 0 1 != 1 || σ.progObjs.contains (leAt e 2 2)))) &&
    let res : Res :=
    if op = 0 then
      (match σ.putForces es with
       | some σ' => .done stOK σ'.forceBytes σ'.forceStat
       | none => .refuse stBAD_ARGUMENT)
    else if op = 1 then
      let σ' := foldS es (fun e (σ : State) => match σ.forceSlot (leAt e 0 1) (leAt e 2 2) with | some i => σ.store (cycForce i) (List.replicate 16 0) | none => σ) σ
      .done stOK σ'.forceBytes σ'.forceStat
    else .done stOK (σ.clearForces).forceBytes σ.clearForces
    (isDone res)) = true ∧
  (
    let s : State := slot dCycVarRead.op (rq 16 (pl [(2, 0), (2, 0), (1, 8), (3, 0)])) (cyc 1 run)
    let r : Req := rq 16 (pl [(2, 0), (2, 0), (1, 8), (3, 0)])
    (s.Reaches dCycVarRead r) &&
    let c := s.reqCmd dCycVarRead r
    let σ := s.taken r
    let o := c.arg 2 2
    let w := c.arg 4 1
    let y := match σ.cyc.active with | some p => p.syms[c.arg 0 2]? | none => none
    (between 1 40 w && c.zero 5 3 && (match y with | some y => decide (o + w ≤ y.size) | none => false)) &&
    (σ.readsProg c) &&
    true) = true ∧
  (
    let s : State := slot dCycEvent.op (rq 16 (pl [(1, 23), (3, 0)])) ((cyc 1 run).wr ⟨R.CYC_TASK_CFG 23, 17, 3⟩ 5)
    let r : Req := rq 16 (pl [(1, 23), (3, 0)])
    (s.Reaches dCycEvent r) &&
    let c := s.reqCmd dCycEvent r
    let σ := s.taken r
    let k := c.arg 0 1
    (between 8 23 k && c.zero 1 3 && bitsOf (σ.taskCfg k) 17 3 == 5) &&
    (σ.ownsTask c k) &&
    let res : Res :=
    if σ.eng ≠ 1 ∨ σ.tstate k = 5 then .done stOK (bytesLE 8 0) (σ.trigger k σ.now)
    else
      let t := ceilTo gridNs (max (c.taken + us 50) (σ.now + 1))
      if (σ.task k).rel.isSome || (σ.task k).relAt.isSome then .later .running k (σ.trigger k t)
      else .done stOK (bytesLE 8 t) (σ.trigger k t)
    (isDone res)) = true ∧
  (
    let s : State := slot dCycEvent.op (rq 16 (pl [(1, 23), (3, 0)])) (((cyc 1 run).wr ⟨R.CYC_TASK_CFG 23, 17, 3⟩ 5).modTask 23 (fun x => { x with rel := some 0 }))
    let r : Req := rq 16 (pl [(1, 23), (3, 0)])
    (s.Reaches dCycEvent r) &&
    let c := s.reqCmd dCycEvent r
    let σ := s.taken r
    let k := c.arg 0 1
    (between 8 23 k && c.zero 1 3 && bitsOf (σ.taskCfg k) 17 3 == 5) &&
    (σ.ownsTask c k) &&
    let res : Res :=
    if σ.eng ≠ 1 ∨ σ.tstate k = 5 then .done stOK (bytesLE 8 0) (σ.trigger k σ.now)
    else
      let t := ceilTo gridNs (max (c.taken + us 50) (σ.now + 1))
      if (σ.task k).rel.isSome || (σ.task k).relAt.isSome then .later .running k (σ.trigger k t)
      else .done stOK (bytesLE 8 t) (σ.trigger k t)
    (isLater res)) = true :=
  by and_intros <;> decide +kernel
/-- The clauses of `Obligations.SwitchCommandsComplete` apply: swcPortStatus, swcPortConfig, swcQueueConfig, swcQueueStatus, swcCounters, swcFdbSet, swcFdbRead, swcVlanConfig, swcPolicer, swcMacsecSa, swcAudit. -/
theorem witness_SwitchCommandsComplete :
  (
    let s : State := slot dSwcPortStatus.op (rq 16 (pl [(1, 27), (3, 0)])) (own kPort 27 16 (run))
    let r : Req := rq 16 (pl [(1, 27), (3, 0)])
    (s.Reaches dSwcPortStatus r) &&
    let c := s.reqCmd dSwcPortStatus r
    let σ := s.taken r
    let p := c.arg 0 1
    (decide (p < 28) && c.zero 1 3) &&
    (σ.mayRead c kPort p || σ.owns c kPort p) &&
    true) = true ∧
  (
    let s : State := slot dSwcPortConfig.op (rq 16 (pl [(1, 27), (27, 0)])) (own kPort 27 16 (run))
    let r : Req := rq 16 (pl [(1, 27), (27, 0)])
    (s.Reaches dSwcPortConfig r) &&
    let c := s.reqCmd dSwcPortConfig r
    let σ := s.taken r
    let p := c.arg 0 1
    let ims := [c.image (R.SWC_PORT_CFG0 p) 4, c.image (R.SWC_PORT_CFG1 p) 12, c.image (R.SWC_PORT_CFG2 p) 20]
    (decide (p < 28) && c.zero 1 3 && imagesOk (portFlds p) ims) &&
    (σ.owns c kPort p) &&
    let res : Res :=
    σ.configure (portFlds p) ims (σ.portStopped p) 0
    (isDone res)) = true ∧
  (
    let s : State := slot dSwcQueueConfig.op (rq 16 (pl [(2, 223), (1, 1), (1, 0), (4, 0x20000020), (28, 0)])) (own kPort 27 16 (run))
    let r : Req := rq 16 (pl [(2, 223), (1, 1), (1, 0), (4, 0x20000020), (28, 0)])
    (s.Reaches dSwcQueueConfig r) &&
    let c := s.reqCmd dSwcQueueConfig r
    let σ := s.taken r
    let q := c.arg 0 2
    let fs := queueFlds q
    let ws := queueWords c q
    let ims : List Image := (ws.filter (fun w => w.2.2)).map (fun w => (w.1, w.2.1, fullMask fs w.1))
    let val (f : Fld) : Nat := σ.afterFld fs ims f
    let sum := (List.range 224).foldl (fun a k => a + (if k = q then val (F.SWC_Q_CFG0_Q_MIN q) else σ.shadow (F.SWC_Q_CFG0_Q_MIN k))) 0
    (decide (q < 224) && decide (c.arg 2 1 < 32) && c.zero 3 1 && ws.all (fun w => w.2.2 || w.2.1 == 0) && ims.all (fun im => im.2.1 &&& im.2.2 == im.2.1) && imagesOk fs ims && decide (sum ≤ 32768) && decide (val (F.SWC_Q_CFG0_Q_MIN q) ≤ val (F.SWC_Q_CFG0_Q_MAX q)) && ([0, 1, 2] : List Nat).all (fun k => val (F.SWC_Q_RED_P_ENABLE q k) == 0 || decide (val (F.SWC_Q_RED_TH_MIN_TH q k) < val (F.SWC_Q_RED_TH_MAX_TH q k)))) &&
    (σ.owns c kPort (q / 8)) &&
    let res : Res :=
    σ.configure fs ims true 0
    (isDone res)) = true ∧
  (
    let s : State := slot dSwcQueueStatus.op (rq 16 (pl [(2, 223), (1, 1), (1, 0)])) (own kPort 27 16 (run))
    let r : Req := rq 16 (pl [(2, 223), (1, 1), (1, 0)])
    (s.Reaches dSwcQueueStatus r) &&
    let c := s.reqCmd dSwcQueueStatus r
    let σ := s.taken r
    let f := c.arg 0 2
    let n := c.arg 2 1
    let l := (List.range n).map (fun i => f + i)
    (between 1 5 n && c.zero 3 1 && decide (f + n ≤ 224)) &&
    (l.all (fun q => σ.mayRead c kPort (q / 8) || σ.owns c kPort (q / 8))) &&
    true) = true ∧
  (
    let s : State := slot dSwcCounters.op (rq 16 (pl [(1, 27), (1, 31), (1, 1), (1, 0)])) (own kPort 27 16 (run))
    let r : Req := rq 16 (pl [(1, 27), (1, 31), (1, 1), (1, 0)])
    (s.Reaches dSwcCounters r) &&
    let c := s.reqCmd dSwcCounters r
    let σ := s.taken r
    let b := σ.rangeBytes c
    let p := leAt b 0 1
    let f := leAt b 1 1
    let n := leAt b 2 1
    (decide (p < 28) && leAt b 3 1 == 0 && between 1 (if c.desc then 32 else 5) n && decide (f + n ≤ 32) && (!c.desc || c.dSize 0 == 4) && (!c.desc || c.room (8 + 8 * n))) &&
    (σ.mayRead c kPort p || σ.owns c kPort p) &&
    let res : Res :=
    σ.answerRange c (bytesLE 8 σ.now ++ (List.range n).flatMap (fun i => bytesLE 8 (σ.swCnt p (f + i)))) (bytesLE 4 (8 + 8 * n) ++ bytesLE 4 0)
    (isDone res)) = true ∧
  (
    let s : State := slot dSwcFdbSet.op (rq 16 (pl [(6, 0x010203040506), (2, 4094), (4, 0), (4, 0)])) ({ own kVlan 4094 16 (run) with swc.vlans := run.swc.vlans.set 4094 { defined := true } })
    let r : Req := rq 16 (pl [(6, 0x010203040506), (2, 4094), (4, 0), (4, 0)])
    (s.Reaches dSwcFdbSet r) &&
    let c := s.reqCmd dSwcFdbSet r
    let σ := s.taken r
    let mac := natBE (c.argBytes 0 6)
    let vid := c.arg 6 2
    let m := c.arg 8 4
    (between 1 4094 vid && (σ.swc.vlans.get {} vid).defined && decide (m < 2 ^ 28) && c.zero 12 4 && (m == 0 || (σ.staticSlot vid mac).isSome)) &&
    (σ.ownsVlan c vid) &&
    let res : Res :=
    if m = 0 then .done stOK [] (match σ.fdbFind vid mac with | some i => { σ with swc.fdb := σ.swc.fdb.erase i } | none => σ)
    else match σ.staticSlot vid mac with
      | some i => .done stOK [] (σ.setFdb i { mac := mac, vid := vid, mask := m, static := true, valid := true, seen := σ.now })
      | none => .refuse stBAD_ARGUMENT
    (isDone res)) = true ∧
  (
    let s : State := slot dSwcFdbSet.op (rq 16 (pl [(6, 0x010203040506), (2, 4094), (4, 2 ^ 28 - 1), (4, 0)])) ({ own kVlan 4094 16 (run) with swc.vlans := run.swc.vlans.set 4094 { defined := true } })
    let r : Req := rq 16 (pl [(6, 0x010203040506), (2, 4094), (4, 2 ^ 28 - 1), (4, 0)])
    (s.Reaches dSwcFdbSet r) &&
    let c := s.reqCmd dSwcFdbSet r
    let σ := s.taken r
    let mac := natBE (c.argBytes 0 6)
    let vid := c.arg 6 2
    let m := c.arg 8 4
    (between 1 4094 vid && (σ.swc.vlans.get {} vid).defined && decide (m < 2 ^ 28) && c.zero 12 4 && (m == 0 || (σ.staticSlot vid mac).isSome)) &&
    (σ.ownsVlan c vid) &&
    let res : Res :=
    if m = 0 then .done stOK [] (match σ.fdbFind vid mac with | some i => { σ with swc.fdb := σ.swc.fdb.erase i } | none => σ)
    else match σ.staticSlot vid mac with
      | some i => .done stOK [] (σ.setFdb i { mac := mac, vid := vid, mask := m, static := true, valid := true, seen := σ.now })
      | none => .refuse stBAD_ARGUMENT
    (isDone res)) = true ∧
  (
    let s : State := slot dSwcFdbRead.op (dq 16 [(0x10000, 4, 0), (0x10040, 16, 1)]) (mpc run)
    let r : Req := dq 16 [(0x10000, 4, 0), (0x10040, 16, 1)]
    (s.Reaches dSwcFdbRead r) &&
    let c := s.reqCmd dSwcFdbRead r
    let σ := s.taken r
    let start := natLE (σ.load (c.dAddr 0) 4)
    (c.dSize 0 == 4 && decide (start < 16384) && (c.dSize 1 % 16 == 0)) &&
    (c.node == 0xFFFF) &&
    true) = true ∧
  (
    let s : State := slot dSwcVlanConfig.op (rq 16 (pl [(2, 4094), (2, 0), (4, 2 ^ 28 - 1), (4, 0), (1, 15), (3, 0)])) (own kVlan 4094 16 (run))
    let r : Req := rq 16 (pl [(2, 4094), (2, 0), (4, 2 ^ 28 - 1), (4, 0), (1, 15), (3, 0)])
    (s.Reaches dSwcVlanConfig r) &&
    let c := s.reqCmd dSwcVlanConfig r
    let σ := s.taken r
    let v := c.arg 0 2
    let f := c.arg 12 1
    (between 1 4094 v && c.zero 2 2 && decide (c.arg 4 4 < 2 ^ 28) && decide (c.arg 8 4 < 2 ^ 28) && decide (f < 16) && c.zero 13 3) &&
    (σ.ownsVlan c v) &&
    let res : Res :=
    if bitOf f 3 then
      .done stOK [] { σ with swc.vlans := σ.swc.vlans.set v { defined := true, member := c.arg 4 4, untag := c.arg 8 4, learn := bitOf f 0, floodUc := bitOf f 1, floodMc := bitOf f 2 } }
    else .done stOK [] { σ with swc.vlans := σ.swc.vlans.erase v, swc.fdb := σ.swc.fdb.keep (fun i => (σ.fdbE i).vid != v) }
    (isDone res)) = true ∧
  (
    let s : State := slot dSwcVlanConfig.op (rq 16 (pl [(2, 4094), (2, 0), (4, 2 ^ 28 - 1), (4, 0), (1, 0), (3, 0)])) (own kVlan 4094 16 (run))
    let r : Req := rq 16 (pl [(2, 4094), (2, 0), (4, 2 ^ 28 - 1), (4, 0), (1, 0), (3, 0)])
    (s.Reaches dSwcVlanConfig r) &&
    let c := s.reqCmd dSwcVlanConfig r
    let σ := s.taken r
    let v := c.arg 0 2
    let f := c.arg 12 1
    (between 1 4094 v && c.zero 2 2 && decide (c.arg 4 4 < 2 ^ 28) && decide (c.arg 8 4 < 2 ^ 28) && decide (f < 16) && c.zero 13 3) &&
    (σ.ownsVlan c v) &&
    let res : Res :=
    if bitOf f 3 then
      .done stOK [] { σ with swc.vlans := σ.swc.vlans.set v { defined := true, member := c.arg 4 4, untag := c.arg 8 4, learn := bitOf f 0, floodUc := bitOf f 1, floodMc := bitOf f 2 } }
    else .done stOK [] { σ with swc.vlans := σ.swc.vlans.erase v, swc.fdb := σ.swc.fdb.keep (fun i => (σ.fdbE i).vid != v) }
    (isDone res)) = true ∧
  (
    let s : State := slot dSwcPolicer.op (rq 16 (pl [(2, 1023), (1, 3), (1, 0), (4, 400000), (4, 400000), (4, 64), (4, 1048575), (4, 0)])) (own kPolicer 1023 16 (run))
    let r : Req := rq 16 (pl [(2, 1023), (1, 3), (1, 0), (4, 400000), (4, 400000), (4, 64), (4, 1048575), (4, 0)])
    (s.Reaches dSwcPolicer r) &&
    let c := s.reqCmd dSwcPolicer r
    let σ := s.taken r
    let k := c.arg 0 2
    let m := c.arg 2 1
    let cir := c.arg 4 4
    let pir := c.arg 8 4
    let cbs := c.arg 12 4
    let pbs := c.arg 16 4
    (decide (k < 1024) && decide (m < 4) && c.zero 3 1 && c.zero 20 4 && decide (cir ≤ pir) && decide (pir ≤ 400000) && between 64 1048575 cbs && between 64 1048575 pbs) &&
    (σ.owns c kPolicer k) &&
    true) = true ∧
  (
    let s : State := slot dSwcMacsecSa.op (rq 16 (pl [(1, 23), (1, 1), (1, 3), (1, 3), (2, 255), (2, 15), (8, 0), (8, 1)])) (key 255 2 128 (own kPort 23 16 (own kKey 255 16 (run))))
    let r : Req := rq 16 (pl [(1, 23), (1, 1), (1, 3), (1, 3), (2, 255), (2, 15), (8, 0), (8, 1)])
    (s.Reaches dSwcMacsecSa r) &&
    let c := s.reqCmd dSwcMacsecSa r
    let σ := s.taken r
    let p := c.arg 0 1
    let rx := c.arg 1 1 == 1
    let an := c.arg 2 1
    let sc := c.arg 3 1
    let k := c.arg 4 2
    let f := c.arg 6 2
    let others := (σ.swPort p).secy.sas.filter (fun a => a.rx == rx && a.sc == sc && a.an != an)
    (decide (p < 24) && decide (c.arg 1 1 ≤ 1) && decide (an ≤ 3) && decide (sc ≤ 3) && (rx || sc == 0) && decide (k ≤ 255) && decide (f < 16) && (bitOf f 0 || c.zero 12 4) && (rx || c.zero 16 8) && (σ.slotType k == 2) && decide (others.length < 2)) &&
    (σ.owns c kPort p && σ.owns c kKey k) &&
    (σ.slotUse k 7) &&
    (σ.usable k) &&
    true) = true ∧
  (
    let s : State := slot dSwcAudit.op (rq 16 (pl [(1, 0), (3, 0)])) (run)
    let r : Req := rq 16 (pl [(1, 0), (3, 0)])
    (s.Reaches dSwcAudit r) &&
    let c := s.reqCmd dSwcAudit r
    let σ := s.taken r
    let op := c.arg 0 1
    (decide (op ≤ 1) && c.zero 1 3) &&
    (op == 0 || c.isSecure) &&
    let res : Res :=
    if op = 0 then .done stOK (wordBytes σ.auditWord ++ wordBytes σ.poolWord ++ bytesLE 4 σ.swc.snaps) σ
    else σ.commandAct c aBUF_AUDIT 0 0 0
    (isDone res)) = true ∧
  (
    let s : State := slot dSwcAudit.op (rq 16 (pl [(1, 1), (3, 0)])) ({ run with cfg.mrun := [{ req := { act := aLBIST }, start := 0 }] })
    let r : Req := rq 16 (pl [(1, 1), (3, 0)])
    (s.Reaches dSwcAudit r) &&
    let c := s.reqCmd dSwcAudit r
    let σ := s.taken r
    let op := c.arg 0 1
    (decide (op ≤ 1) && c.zero 1 3) &&
    (op == 0 || c.isSecure) &&
    let res : Res :=
    if op = 0 then .done stOK (wordBytes σ.auditWord ++ wordBytes σ.poolWord ++ bytesLE 4 σ.swc.snaps) σ
    else σ.commandAct c aBUF_AUDIT 0 0 0
    (isLater res)) = true :=
  by and_intros <;> decide +kernel
/-- The clauses of `Obligations.TsnCommandsComplete` apply: tsnGclSet, tsnGclStatus, tsnShaperConfig, tsnPreemptConfig, tsnStreamSet, tsnStreamStatus, tsnFrerSet, tsnGptpStatus, faSenderSet, faStatus. -/
theorem witness_TsnCommandsComplete :
  (
    let s : State := slot dTsnGclSet.op (dq 16 [(0x10000, 32, 0)]) ((mpc (own kPort 27 16 (run))).store 0x10000 (pl [(1, 0), (1, 0), (2, 27), (8, 0), (4, 1000), (4, 0), (2, 1), (2, 0), (1, 1), (1, 0), (2, 0), (4, 1000)]))
    let r : Req := dq 16 [(0x10000, 32, 0)]
    (s.Reaches dTsnGclSet r) &&
    let c := s.reqCmd dTsnGclSet r
    let σ := s.taken r
    let b := σ.load (c.dAddr 0) (min (c.dSize 0) 2072)
    let ty := leAt b 0 1
    let idx := leAt b 2 2
    let cyc := leAt b 12 4
    let n := leAt b 20 2
    let k := gclKey ty idx
    let es := gclEntries b n
    (decide (24 + 8 * n ≤ c.dSize 0) && decide (ty ≤ 1) && leAt b 1 1 == 0 && decide (idx < (if ty = 0 then 28 else 256)) && between 1000 1000000000 cyc && decide (leAt b 16 4 ≤ cyc) && leAt b 22 2 == 0 && between 1 (if ty = 0 then 256 else 64) n && (List.range n).all (fun i => leAt b (26 + 8 * i) 2 == 0) && es.all (fun e => σ.gclEntryOk ty idx e) && (ty == 0 || decide (σ.sgEntries k + n ≤ 1024))) &&
    (σ.owns c (gclOwnKind ty) idx) &&
    true) = true ∧
  (
    let s : State := slot dTsnGclSet.op (dq 16 [(0x10000, 32, 0)]) ((mpc (own kSgate 255 16 (run))).store 0x10000 (pl [(1, 1), (1, 0), (2, 255), (8, 0), (4, 1000), (4, 0), (2, 1), (2, 0), (1, 1), (1, 0), (2, 0), (4, 1000)]))
    let r : Req := dq 16 [(0x10000, 32, 0)]
    (s.Reaches dTsnGclSet r) &&
    let c := s.reqCmd dTsnGclSet r
    let σ := s.taken r
    let b := σ.load (c.dAddr 0) (min (c.dSize 0) 2072)
    let ty := leAt b 0 1
    let idx := leAt b 2 2
    let cyc := leAt b 12 4
    let n := leAt b 20 2
    let k := gclKey ty idx
    let es := gclEntries b n
    (decide (24 + 8 * n ≤ c.dSize 0) && decide (ty ≤ 1) && leAt b 1 1 == 0 && decide (idx < (if ty = 0 then 28 else 256)) && between 1000 1000000000 cyc && decide (leAt b 16 4 ≤ cyc) && leAt b 22 2 == 0 && between 1 (if ty = 0 then 256 else 64) n && (List.range n).all (fun i => leAt b (26 + 8 * i) 2 == 0) && es.all (fun e => σ.gclEntryOk ty idx e) && (ty == 0 || decide (σ.sgEntries k + n ≤ 1024))) &&
    (σ.owns c (gclOwnKind ty) idx) &&
    true) = true ∧
  (
    let s : State := slot dTsnGclStatus.op (rq 16 (pl [(1, 1), (1, 0), (2, 255)])) (own kSgate 255 16 (run))
    let r : Req := rq 16 (pl [(1, 1), (1, 0), (2, 255)])
    (s.Reaches dTsnGclStatus r) &&
    let c := s.reqCmd dTsnGclStatus r
    let σ := s.taken r
    let ty := c.arg 0 1
    let idx := c.arg 2 2
    (decide (ty ≤ 1) && c.zero 1 1 && decide (idx < (if ty = 0 then 28 else 256))) &&
    (σ.mayRead c (gclOwnKind ty) idx || σ.owns c (gclOwnKind ty) idx) &&
    true) = true ∧
  (
    let s : State := slot dTsnShaperConfig.op (rq 16 (pl [(1, 27), (1, 7), (2, 0), (4, 2 ^ 31 + 1000)])) (own kPort 27 16 (run))
    let r : Req := rq 16 (pl [(1, 27), (1, 7), (2, 0), (4, 2 ^ 31 + 1000)])
    (s.Reaches dTsnShaperConfig r) &&
    let c := s.reqCmd dTsnShaperConfig r
    let σ := s.taken r
    let p := c.arg 0 1
    let k := c.arg 1 1
    let w := c.arg 4 4
    let sum := (List.range 8).foldl (fun a i => a + (if i = k then w % 2 ^ 20 else σ.slopeOf p i)) 0
    (decide (p < 28) && decide (k < 8) && c.zero 2 2 && bitsOf w 20 11 == 0 && decide (sum * 64 ≤ σ.portRate p * 1000)) &&
    (σ.owns c kPort p) &&
    true) = true ∧
  (
    let s : State := slot dTsnPreemptConfig.op (rq 16 (pl [(1, 15), (11, 0)])) (own kPort 15 16 (run))
    let r : Req := rq 16 (pl [(1, 15), (11, 0)])
    (s.Reaches dTsnPreemptConfig r) &&
    let c := s.reqCmd dTsnPreemptConfig r
    let σ := s.taken r
    let p := c.arg 0 1
    let ims := [c.image (R.TSN_PRE_CFG p) 4]
    (decide (p < 16) && c.zero 1 3 && imagesOk (preemptFlds p) ims) &&
    (σ.owns c kPort p) &&
    let res : Res :=
    σ.configure (preemptFlds p) ims (σ.portStopped p) 0
    (isDone res)) = true ∧
  (
    let s : State := slot dTsnStreamSet.op (rq 16 (pl [(2, 1023), (1, 2), (1, 31), (6, 1), (2, 4094), (1, 7), (1, 0), (2, 1500), (2, 0xFFFF), (2, 255), (2, 255), (2, 0), (4, 2 ^ 28 - 1), (4, 0)])) (own kStream 1023 16 (run))
    let r : Req := rq 16 (pl [(2, 1023), (1, 2), (1, 31), (6, 1), (2, 4094), (1, 7), (1, 0), (2, 1500), (2, 0xFFFF), (2, 255), (2, 255), (2, 0), (4, 2 ^ 28 - 1), (4, 0)])
    (s.Reaches dTsnStreamSet r) &&
    let c := s.reqCmd dTsnStreamSet r
    let σ := s.taken r
    let n := c.arg 0 2
    let id := c.arg 2 1
    let f := c.arg 3 1
    let vid := c.arg 10 2
    let opt (v m : Nat) : Bool := decide (v ≤ m) || v == 0xFFFF
    (decide (n < 1024) && decide (id ≤ 2) && decide (f < 32) && (id == 0 || between 1 4094 vid) && decide (vid < 4096) && decide (c.arg 12 1 ≤ 7) && c.zero 13 1 && opt (c.arg 16 2) 1023 && opt (c.arg 18 2) 255 && opt (c.arg 20 2) 255 && c.zero 22 2 && decide (c.arg 24 4 < 2 ^ 28) && c.zero 28 4) &&
    (σ.owns c kStream n) &&
    true) = true ∧
  (
    let s : State := slot dTsnStreamStatus.op (rq 16 (pl [(2, 1023), (2, 0)])) (own kStream 1023 16 (run))
    let r : Req := rq 16 (pl [(2, 1023), (2, 0)])
    (s.Reaches dTsnStreamStatus r) &&
    let c := s.reqCmd dTsnStreamStatus r
    let σ := s.taken r
    let n := c.arg 0 2
    (decide (n < 1024) && c.zero 2 2) &&
    (σ.mayRead c kStream n || σ.owns c kStream n) &&
    true) = true ∧
  (
    let s : State := slot dTsnFrerSet.op (rq 16 (pl [(2, 255), (1, 1), (1, 32), (2, 65535), (1, 1), (1, 255), (4, 65535), (4, 0)])) (own kRecov 255 16 (run))
    let r : Req := rq 16 (pl [(2, 255), (1, 1), (1, 32), (2, 65535), (1, 1), (1, 255), (4, 65535), (4, 0)])
    (s.Reaches dTsnFrerSet r) &&
    let c := s.reqCmd dTsnFrerSet r
    let σ := s.taken r
    let f := c.arg 0 2
    (decide (f < 256) && decide (c.arg 2 1 ≤ 1) && between 2 32 (c.arg 3 1) && between 1 65535 (c.arg 4 2) && decide (c.arg 6 1 ≤ 1) && between 1 65535 (c.arg 8 4) && c.zero 12 4) &&
    (σ.owns c kRecov f) &&
    true) = true ∧
  (
    let s : State := slot dTsnGptpStatus.op (rq 16 (pl [(1, 1), (1, 15), (2, 0)])) (run)
    let r : Req := rq 16 (pl [(1, 1), (1, 15), (2, 0)])
    (s.Reaches dTsnGptpStatus r) &&
    let c := s.reqCmd dTsnGptpStatus r
    let i := c.arg 0 1
    let p := c.arg 1 1
    (decide (i ≤ 1) && decide (p ≤ 15) && c.zero 2 2) &&
    true) = true ∧
  (
    let s : State := slot dFaSenderSet.op (rq 16 (pl [(1, 63), (3, 0), (4, 2 ^ 31 + 16 * 65536 + 255)])) (run)
    let r : Req := rq 16 (pl [(1, 63), (3, 0), (4, 2 ^ 31 + 16 * 65536 + 255)])
    (s.Reaches dFaSenderSet r) &&
    let c := s.reqCmd dFaSenderSet r
    let n := c.arg 0 1
    let w := c.arg 4 4
    (decide (n < 64) && c.zero 1 3 && bitsOf w 22 9 == 0 && bitsOf w 8 8 == 0 && targetOk (bitsOf w 16 6)) &&
    (c.isSecure) &&
    true) = true ∧
  (
    let s : State := slot dFaStatus.op (rq 16 (pl [(1, 63), (3, 0)])) (run)
    let r : Req := rq 16 (pl [(1, 63), (3, 0)])
    (s.Reaches dFaStatus r) &&
    let c := s.reqCmd dFaStatus r
    let σ := s.taken r
    let n := c.arg 0 1
    ((decide (n < 64) || n == 0xFF) && c.zero 1 3) &&
    (c.isSecure || (c.node == 0xFFFF && n != 0xFF && σ.shareOf (σ.rd (F.TSN_FA_SND_CFG_HOLDER n)) == c.who)) &&
    true) = true :=
  by and_intros <;> decide +kernel
/-- The clauses of `Obligations.FieldBusCommandsComplete` apply: canConfig, canStatus, canRecover, linConfig, linTableLoad, linSchedule, linStatus, gwyStatus, gwyRouteStatus, gwyRouteEnable, gwyPduRead, gwyBridgeLog. -/
theorem witness_FieldBusCommandsComplete :
  (
    let s : State := slot dCanConfig.op (rq 16 (pl [(1, 15), (3, 0), (4, 0), (4, 0)] ++ bytesLE 4 (run.wordN (R.CAN_NBT 15)) ++ bytesLE 4 (run.wordN (R.CAN_DBT 15)))) (own kCan 15 16 (run))
    let r : Req := rq 16 (pl [(1, 15), (3, 0), (4, 0), (4, 0)] ++ bytesLE 4 (run.wordN (R.CAN_NBT 15)) ++ bytesLE 4 (run.wordN (R.CAN_DBT 15)))
    (s.Reaches dCanConfig r) &&
    let c := s.reqCmd dCanConfig r
    let σ := s.taken r
    let n := c.arg 0 1
    (σ.dev != .coppice || n == 0) &&
    let nbt := c.arg 12 4
    let dbt := c.arg 16 4
    let im : List Image := [(R.CAN_CTL n, c.arg 4 4, c.arg 8 4)] ++
    (if nbt = σ.wordN (R.CAN_NBT n) then [] else [(R.CAN_NBT n, nbt, 0xFFFFFFE0)]) ++
    (if dbt = σ.wordN (R.CAN_DBT n) then [] else [(R.CAN_DBT n, dbt, 0xFFFFFFC0)])
    let old := σ.rd (F.CAN_CTL_MODE n)
    let new := σ.afterFld (canFlds n) im (F.CAN_CTL_MODE n)
    (decide (n ≤ 15) && c.zero 1 3 && imagesOk (canFlds n) im && canTimingOk nbt dbt && (new == 0 || σ.canAreaOk n)) &&
    (σ.owns c kCan n) &&
    let res : Res :=
    (σ.configure (canFlds n) im (old == 0) (if new = 4 ∧ σ.rd F.MPC_LC_STAT_LIFECYCLE ≠ 1 then stMODE_FORBIDS else 0)).andThen
      (fun σ => σ.modeAfter n old (c.arg 8 4))
    (isDone res)) = true ∧
  (
    let s : State := slot dCanStatus.op (rq 16 (pl [(1, 15), (3, 0)])) (own kCan 15 16 (run))
    let r : Req := rq 16 (pl [(1, 15), (3, 0)])
    (s.Reaches dCanStatus r) &&
    let c := s.reqCmd dCanStatus r
    let σ := s.taken r
    let n := c.arg 0 1
    (decide (n ≤ 15) && c.zero 1 3) &&
    (σ.owns c kCan n || σ.mayRead c kCan n) &&
    true) = true ∧
  (
    let s : State := slot dCanRecover.op (rq 16 (pl [(1, 15), (3, 0)])) ((own kCan 15 16 (run)).wr (F.CAN_STAT_STATE 15) 3)
    let r : Req := rq 16 (pl [(1, 15), (3, 0)])
    (s.Reaches dCanRecover r) &&
    let c := s.reqCmd dCanRecover r
    let σ := s.taken r
    let n := c.arg 0 1
    (σ.dev != .coppice || n == 0) &&
    (decide (n ≤ 15) && c.zero 1 3) &&
    (σ.owns c kCan n) &&
    (σ.rd (F.CAN_STAT_STATE n) == 3) &&
    true) = true ∧
  (
    let s : State := slot dLinConfig.op (rq 16 (pl [(1, 7), (11, 0)])) (own kLin 7 16 (run))
    let r : Req := rq 16 (pl [(1, 7), (11, 0)])
    (s.Reaches dLinConfig r) &&
    let c := s.reqCmd dLinConfig r
    let σ := s.taken r
    let n := c.arg 0 1
    let im : List Image := [(R.LIN_CTL n, c.arg 4 4, c.arg 8 4)]
    (decide (n ≤ 7) && c.zero 1 3 && imagesOk (linFlds n) im) &&
    (σ.owns c kLin n) &&
    let res : Res :=
    σ.configure (linFlds n) im (σ.linStopped n) 0
    (isDone res)) = true ∧
  (
    let s : State := slot dLinTableLoad.op (dq 16 [(0x10000, 12, 0)]) ((mpc (own kLin 7 16 (run))).store 0x10000 (pl [(1, 7), (1, 15), (1, 0), (1, 1), (1, 0), (1, 63), (1, 255), (1, 0), (4, 0)]))
    let r : Req := dq 16 [(0x10000, 12, 0)]
    (s.Reaches dLinTableLoad r) &&
    let c := s.reqCmd dLinTableLoad r
    let σ := s.taken r
    let b := σ.load (c.dAddr 0) (min (c.dSize 0) 516)
    let n := leAt b 0 1
    let tab := leAt b 1 1
    let cnt := leAt b 3 1
    let es := (List.range cnt).map (fun i => linEntry b (4 + 8 * i))
    (decide (n ≤ 7) && decide (tab ≤ 15) && decide (leAt b 2 1 ≤ 1) && between 1 64 cnt && decide (4 + 8 * cnt ≤ c.dSize 0) && (List.range cnt).all (fun i => leAt b (8 + 8 * i) 4 == 0) && es.all (fun e => σ.linEntryOk n e) && decide (σ.linEntries n tab + cnt ≤ 256)) &&
    (σ.owns c kLin n) &&
    let res : Res :=
    if σ.linActive n tab then .wait .waitObject
    else .done stOK [] (σ.modLin n (fun x => { x with tables := x.tables.set tab { once := bitOf (leAt b 2 1) 0, ents := es } }))
    (isDone res)) = true ∧
  (
    let s : State := slot dLinSchedule.op (rq 16 (pl [(1, 7), (1, 15), (1, 1), (1, 0)])) (own kLin 7 16 (run.modLin 7 (fun x => { x with tables := x.tables.set 15 { ents := [⟨0, 0, 0, 0⟩] } })))
    let r : Req := rq 16 (pl [(1, 7), (1, 15), (1, 1), (1, 0)])
    (s.Reaches dLinSchedule r) &&
    let c := s.reqCmd dLinSchedule r
    let σ := s.taken r
    let n := c.arg 0 1
    let tab := c.arg 1 1
    let w := c.arg 2 1
    (decide (n ≤ 7) && decide (tab ≤ 15) && decide (w ≤ 1) && c.zero 3 1 && !(σ.linTable n tab).ents.isEmpty) &&
    (σ.owns c kLin n) &&
    let res : Res :=
    if (σ.lin_ n).run then .done stOK (bytesLE 8 (σ.linSwitchAt n w)) (σ.modLin n (fun x => { x with switch_ := some (tab, σ.linWhen n w) }))
    else
      let t := if tab = σ.rd (F.LIN_CTL_TABLE n) then σ else σ.linTrig n 2
      .done stOK (bytesLE 8 (max σ.now (σ.lin_ n).nextAt)) ((t.modLin n (fun x => { x with prev := σ.rd (F.LIN_CTL_TABLE n) })).wr (F.LIN_CTL_TABLE n) tab)
    (isDone res)) = true ∧
  (
    let s : State := slot dLinStatus.op (rq 16 (pl [(1, 7), (3, 0)])) (own kLin 7 16 (run))
    let r : Req := rq 16 (pl [(1, 7), (3, 0)])
    (s.Reaches dLinStatus r) &&
    let c := s.reqCmd dLinStatus r
    let σ := s.taken r
    let n := c.arg 0 1
    (decide (n ≤ 7) && c.zero 1 3) &&
    (σ.owns c kLin n || σ.mayRead c kLin n) &&
    true) = true ∧
  (
    let s : State := slot dGwyStatus.op (rq 16 (pl [])) (run)
    let r : Req := rq 16 (pl [])
    (s.Reaches dGwyStatus r) &&
    true) = true ∧
  (
    let s : State := slot dGwyRouteStatus.op (rq 16 (pl [(2, 4095), (2, 0)])) (route 4095 (own kRoute 4095 16 (run)))
    let r : Req := rq 16 (pl [(2, 4095), (2, 0)])
    (s.Reaches dGwyRouteStatus r) &&
    let c := s.reqCmd dGwyRouteStatus r
    let σ := s.taken r
    let ρ := c.arg 0 2
    (σ.isRoute ρ && c.zero 2 2) &&
    (σ.owns c kRoute ρ || σ.mayRead c kRoute ρ) &&
    true) = true ∧
  (
    let s : State := slot dGwyRouteEnable.op (rq 16 (pl [(2, 4095), (1, 1), (1, 0)])) (route 4095 (own kRoute 4095 16 (run)))
    let r : Req := rq 16 (pl [(2, 4095), (1, 1), (1, 0)])
    (s.Reaches dGwyRouteEnable r) &&
    let c := s.reqCmd dGwyRouteEnable r
    let σ := s.taken r
    let ρ := c.arg 0 2
    (σ.isRoute ρ && decide (c.arg 2 1 ≤ 1) && c.zero 3 1) &&
    (σ.owns c kRoute ρ) &&
    true) = true ∧
  (
    let s : State := slot dGwyPduRead.op (rq 16 (pl [(2, 4095), (1, 1), (1, 0)])) (route 4095 (own kRoute 4095 16 (run)))
    let r : Req := rq 16 (pl [(2, 4095), (1, 1), (1, 0)])
    (s.Reaches dGwyPduRead r) &&
    let c := s.reqCmd dGwyPduRead r
    let σ := s.taken r
    let ρ := c.arg 0 2
    let h := c.arg 2 1
    (σ.isRoute ρ && decide (h ≤ 1) && c.zero 3 1) &&
    (σ.owns c kRoute ρ || σ.mayRead c kRoute ρ) &&
    true) = true ∧
  (
    let s : State := slot dGwyBridgeLog.op (rq 16 (pl [(1, 7), (1, 2), (2, 0)])) (run)
    let r : Req := rq 16 (pl [(1, 7), (1, 2), (2, 0)])
    (s.Reaches dGwyBridgeLog r) &&
    let c := s.reqCmd dGwyBridgeLog r
    let f := c.arg 0 1
    let n := c.arg 1 1
    (decide (f ≤ 7) && between 1 2 n && c.zero 2 2) &&
    true) = true :=
  by and_intros <;> decide +kernel
/-- The clauses of `Obligations.SleepChainCommandsComplete` apply: slpVote, slpStatus, slpWakeInfo, slpChannel, slpAlarm, slpSwkConfig, hdgStatus, hdgTopology, hdgEnum, hdgMapForget. -/
theorem witness_SleepChainCommandsComplete :
  (
    let s : State := slot dSlpVote.op (rq 16 (pl [(1, 1), (3, 0)])) ({ run with slp.voters := 65536 })
    let r : Req := rq 16 (pl [(1, 1), (3, 0)])
    (s.Reaches dSlpVote r) &&
    let c := s.reqCmd dSlpVote r
    let σ := s.taken r
    let v := c.arg 0 1
    (decide (v ≤ 1) && c.zero 1 3) &&
    (σ.isVoter c) &&
    true) = true ∧
  (
    let s : State := slot dSlpStatus.op (rq 16 (pl [])) (run)
    let r : Req := rq 16 (pl [])
    (s.Reaches dSlpStatus r) &&
    true) = true ∧
  (
    let s : State := slot dSlpWakeInfo.op (rq 16 (pl [])) (run)
    let r : Req := rq 16 (pl [])
    (s.Reaches dSlpWakeInfo r) &&
    true) = true ∧
  (
    let s : State := slot dSlpChannel.op (rq 16 (pl [(1, 0), (1, 15), (1, 0), (1, 0)])) ((own kCan 15 16 (run)).wr (F.CAN_CTL_MODE 15) 1)
    let r : Req := rq 16 (pl [(1, 0), (1, 15), (1, 0), (1, 0)])
    (s.Reaches dSlpChannel r) &&
    let c := s.reqCmd dSlpChannel r
    let σ := s.taken r
    let k := c.arg 0 1
    let n := c.arg 1 1
    let op := c.arg 2 1
    (decide (k ≤ 2) && decide (n < (if k = 1 then 8 else 16)) && decide (op ≤ 1) && c.zero 3 1) &&
    (σ.owns c (if k = 0 then kCan else if k = 1 then kLin else kPort) n) &&
    let res : Res :=
    if k = 0 then σ.slpCan n op else if k = 1 then σ.slpLin n op else σ.slpEth n op
    (isDone res)) = true ∧
  (
    let s : State := slot dSlpChannel.op (rq 16 (pl [(1, 1), (1, 7), (1, 0), (1, 0)])) ((own kLin 7 16 (run)).wrb (F.LIN_CTL_ENABLE 7) true)
    let r : Req := rq 16 (pl [(1, 1), (1, 7), (1, 0), (1, 0)])
    (s.Reaches dSlpChannel r) &&
    let c := s.reqCmd dSlpChannel r
    let σ := s.taken r
    let k := c.arg 0 1
    let n := c.arg 1 1
    let op := c.arg 2 1
    (decide (k ≤ 2) && decide (n < (if k = 1 then 8 else 16)) && decide (op ≤ 1) && c.zero 3 1) &&
    (σ.owns c (if k = 0 then kCan else if k = 1 then kLin else kPort) n) &&
    let res : Res :=
    if k = 0 then σ.slpCan n op else if k = 1 then σ.slpLin n op else σ.slpEth n op
    (isDone res)) = true ∧
  (
    let s : State := slot dSlpChannel.op (rq 16 (pl [(1, 2), (1, 15), (1, 0), (1, 0)])) ((own kPort 15 16 (run)).wrb (F.SWC_PORT_CFG0_ENABLE 15) true)
    let r : Req := rq 16 (pl [(1, 2), (1, 15), (1, 0), (1, 0)])
    (s.Reaches dSlpChannel r) &&
    let c := s.reqCmd dSlpChannel r
    let σ := s.taken r
    let k := c.arg 0 1
    let n := c.arg 1 1
    let op := c.arg 2 1
    (decide (k ≤ 2) && decide (n < (if k = 1 then 8 else 16)) && decide (op ≤ 1) && c.zero 3 1) &&
    (σ.owns c (if k = 0 then kCan else if k = 1 then kLin else kPort) n) &&
    let res : Res :=
    if k = 0 then σ.slpCan n op else if k = 1 then σ.slpLin n op else σ.slpEth n op
    (isDone res)) = true ∧
  (
    let s : State := slot dSlpAlarm.op (rq 16 (pl [(8, 2 ^ 64 - 1), (4, 0)])) ({ run with slp.voters := 65536 })
    let r : Req := rq 16 (pl [(8, 2 ^ 64 - 1), (4, 0)])
    (s.Reaches dSlpAlarm r) &&
    let c := s.reqCmd dSlpAlarm r
    let σ := s.taken r
    (c.zero 8 4) &&
    (σ.isVoter c) &&
    true) = true ∧
  (
    let s : State := slot dSlpSwkConfig.op (rq 16 (pl [(1, 15), (1, 15), (2, 0), (4, 2 ^ 29 - 1), (4, 2 ^ 29 - 1), (1, 8), (3, 0), (8, 0)])) (own kCan 15 16 (run))
    let r : Req := rq 16 (pl [(1, 15), (1, 15), (2, 0), (4, 2 ^ 29 - 1), (4, 2 ^ 29 - 1), (1, 8), (3, 0), (8, 0)])
    (s.Reaches dSlpSwkConfig r) &&
    let c := s.reqCmd dSlpSwkConfig r
    let σ := s.taken r
    let n := c.arg 0 1
    let k := swkOfCmd c
    let top := if k.ide then 2 ^ 29 else 2 ^ 11
    let others := ((List.range 16).filter (fun m => m != n && (σ.slp.swk.get {} m).decode)).length
    (decide (n ≤ 15) && decide (c.arg 1 1 < 16) && c.zero 2 2 && decide (k.id < top) && decide (k.mask < top) && decide (k.dlc ≤ 8) && c.zero 13 3) &&
    (!(k.decode && decide (4 ≤ others)) && σ.swkRate n) &&
    (σ.owns c kCan n) &&
    true) = true ∧
  (
    let s : State := slot dHdgStatus.op (rq 16 (pl [])) (run)
    let r : Req := rq 16 (pl [])
    (s.Reaches dHdgStatus r) &&
    true) = true ∧
  (
    let s : State := slot dHdgTopology.op (rq 16 (pl [(1, 62), (1, 10), (2, 0)])) (run)
    let r : Req := rq 16 (pl [(1, 62), (1, 10), (2, 0)])
    (s.Reaches dHdgTopology r) &&
    let c := s.reqCmd dHdgTopology r
    let f := c.arg 0 1
    let n := c.arg 1 1
    (between 1 62 f && between 1 10 n && c.zero 2 2) &&
    true) = true ∧
  (
    let s : State := slot dHdgEnum.op (rq 16 (pl [])) ({ run.wr F.HDG_CFG_ROLE 1 with hdg.bypassOpen := true })
    let r : Req := rq 16 (pl [])
    (s.Reaches dHdgEnum r) &&
    let c := s.reqCmd dHdgEnum r
    let σ := s.taken r
    (c.isSecure) &&
    (σ.isRoot && σ.hdgOn) &&
    true) = true ∧
  (
    let s : State := slot dHdgMapForget.op (rq 16 (pl [(8, 7)])) ({ run.wr F.HDG_CFG_ROLE 1 with hdg.map := [⟨7, 62, false⟩] })
    let r : Req := rq 16 (pl [(8, 7)])
    (s.Reaches dHdgMapForget r) &&
    let c := s.reqCmd dHdgMapForget r
    let σ := s.taken r
    let k := c.arg 0 8
    (!σ.isRoot || σ.hdg.map.any (fun e => e.serial == k && !e.fixed)) &&
    (c.isSecure) &&
    (σ.isRoot) &&
    true) = true :=
  by and_intros <;> decide +kernel
/-- The clauses of `Obligations.PartitionCommandsComplete` apply: partStatus, partReady, partReset, partRelease, partStoreInfo, partStoreRead, partStoreWrite, pairStatus, worldStatus, lcSet. -/
theorem witness_PartitionCommandsComplete :
  (
    let s : State := slot dPartStatus.op (rq 16 (pl [(1, 15), (3, 0)])) ((((run.wr (F.MPC_PART_CFG_HOSTING 15) 1).wrb (F.MPC_PART_CFG_HOST 15) true).wr (F.MPC_PART_STAT_STATE 15) 2))
    let r : Req := rq 16 (pl [(1, 15), (3, 0)])
    (s.Reaches dPartStatus r) &&
    let c := s.reqCmd dPartStatus r
    let σ := s.taken r
    let v := c.partArg
    (decide (v < 16) && c.zero 1 3 && (σ.hosting v != 0)) &&
    (c.node == 0xFFFF && (c.who == v || σ.overPart c v || bitOf (σ.ownOf kPart v).readers c.who)) &&
    true) = true ∧
  (
    let s : State := slot dPartReady.op (rq 15 (pl [])) (win 15 ((run.wr (F.MPC_PART_CFG_HOSTING 15) 1).wr (F.MPC_PART_STAT_STATE 15) 1))
    let r : Req := rq 15 (pl [])
    (s.Reaches dPartReady r) &&
    let c := s.reqCmd dPartReady r
    let σ := s.taken r
    (c.node != 0xFFFF || decide (c.who < 16)) &&
    (c.node == 0xFFFF) &&
    let res : Res :=
    if σ.pst c.who = psREADY then .done stOK (bytesLE 8 σ.now) σ
    else if σ.pst c.who = psSTARTING then .done stOK (bytesLE 8 σ.now) (σ.setPart c.who psREADY)
    else .refuse stMODE_FORBIDS
    (isDone res)) = true ∧
  (
    let s : State := slot dPartReset.op (rq 16 (pl [(1, 15), (1, 1), (2, 0)])) ((run.wr (F.MPC_PART_CFG_HOSTING 15) 1).wr (F.MPC_PART_STAT_STATE 15) 2)
    let r : Req := rq 16 (pl [(1, 15), (1, 1), (2, 0)])
    (s.Reaches dPartReset r) &&
    let c := s.reqCmd dPartReset r
    let σ := s.taken r
    let v := c.partArg
    let f := c.arg 1 1
    (decide (v < 16) && decide (f ≤ 1) && c.zero 2 2) &&
    (c.node == 0xFFFF && (c.who == v || σ.overPart c v)) &&
    (σ.pst v != psOFF) &&
    let σ' := σ.resetPart v (if c.who = v then 1 else if c.who = 16 then 3 else 2) (f == 1)
    let res : Res :=
    if σ'.prt.hostWait.isSome ∧ σ.isHost v = true then .later .running 0 σ'
    else .done stACCEPTED (bytesLE 8 (σ'.part_ v).tpr) σ'
    (isDone res)) = true ∧
  (
    let s : State := slot dPartReset.op (rq 16 (pl [(1, 15), (1, 0), (2, 0)])) ((((run.wr (F.MPC_PART_CFG_HOSTING 15) 1).wrb (F.MPC_PART_CFG_HOST 15) true).wr (F.MPC_PART_STAT_STATE 15) 2).wr F.MPC_GW_STAT_IN_GATE 1)
    let r : Req := rq 16 (pl [(1, 15), (1, 0), (2, 0)])
    (s.Reaches dPartReset r) &&
    let c := s.reqCmd dPartReset r
    let σ := s.taken r
    let v := c.partArg
    let f := c.arg 1 1
    (decide (v < 16) && decide (f ≤ 1) && c.zero 2 2) &&
    (c.node == 0xFFFF && (c.who == v || σ.overPart c v)) &&
    (σ.pst v != psOFF) &&
    let σ' := σ.resetPart v (if c.who = v then 1 else if c.who = 16 then 3 else 2) (f == 1)
    let res : Res :=
    if σ'.prt.hostWait.isSome ∧ σ.isHost v = true then .later .running 0 σ'
    else .done stACCEPTED (bytesLE 8 (σ'.part_ v).tpr) σ'
    (isLater res)) = true ∧
  (
    let s : State := slot dPartRelease.op (rq 16 (pl [(1, 15), (3, 0)])) ((run.wr (F.MPC_PART_CFG_HOSTING 15) 1).wr (F.MPC_PART_STAT_STATE 15) 4)
    let r : Req := rq 16 (pl [(1, 15), (3, 0)])
    (s.Reaches dPartRelease r) &&
    let c := s.reqCmd dPartRelease r
    let σ := s.taken r
    let v := c.arg 0 1
    (decide (v < 16) && c.zero 1 3) &&
    (c.node == 0xFFFF && (c.who == 16 || σ.isHost c.who)) &&
    (σ.pst v == psHALTED && σ.hosting v == 1) &&
    true) = true ∧
  (
    let s : State := slot dPartStoreInfo.op (rq 16 (pl [])) (run)
    let r : Req := rq 16 (pl [])
    (s.Reaches dPartStoreInfo r) &&
    let c := s.reqCmd dPartStoreInfo r
    (c.node == 0xFFFF) &&
    true) = true ∧
  (
    let s : State := slot dPartStoreRead.op (dq 16 [(0x10000, 8, 0), (0x20000, 4096, 1)]) ((mpc { run with prt.stores := run.prt.stores.set 16 { size := 1 } }).store 0x10000 (pl [(4, 0), (2, 1), (2, 0)]))
    let r : Req := dq 16 [(0x10000, 8, 0), (0x20000, 4096, 1)]
    (s.Reaches dPartStoreRead r) &&
    let c := s.reqCmd dPartStoreRead r
    let σ := s.taken r
    let (k, n, ok) := σ.storeArgs c
    (ok) &&
    true) = true ∧
  (
    let s : State := slot dPartStoreWrite.op (dq 16 [(0x10000, 8, 0), (0x20000, 4096, 0)]) ((mpc { run with prt.stores := run.prt.stores.set 16 { size := 1 } }).store 0x10000 (pl [(4, 0), (2, 1), (2, 0)]))
    let r : Req := dq 16 [(0x10000, 8, 0), (0x20000, 4096, 0)]
    (s.Reaches dPartStoreWrite r) &&
    let c := s.reqCmd dPartStoreWrite r
    let σ := s.taken r
    let (k, n, ok) := σ.storeArgs c
    (ok) &&
    true) = true ∧
  (
    let s : State := slot dPairStatus.op (rq 16 (pl [(1, 3), (3, 0)])) (run)
    let r : Req := rq 16 (pl [(1, 3), (3, 0)])
    (s.Reaches dPairStatus r) &&
    let c := s.reqCmd dPairStatus r
    let n := c.arg 0 1
    (decide (n ≤ 3) && c.zero 1 3) &&
    true) = true ∧
  (
    let s : State := slot dWorldStatus.op (rq 16 (pl [])) (run)
    let r : Req := rq 16 (pl [])
    (s.Reaches dWorldStatus r) &&
    true) = true ∧
  (
    let s : State := slot dLcSet.op (rq 16 (pl [(1, 3), (3, 0), (16, 0)])) (run)
    let r : Req := rq 16 (pl [(1, 3), (3, 0), (16, 0)])
    (s.Reaches dLcSet r) &&
    let c := s.reqCmd dLcSet r
    let b := c.arg 0 1
    (decide (b ≤ 3) && c.zero 1 3) &&
    (c.isSecure) &&
    true) = true :=
  by and_intros <;> decide +kernel
/-- The clauses of `Obligations.KeyCommandsComplete` apply: keyStatus, keyDerive, keyImport, keyCommit, keyDiscard, keyRevoke, keyOp, keyAttest, keyRandom, tamperStatus, tamperClear. -/
theorem witness_KeyCommandsComplete :
  (
    let s : State := slot dKeyStatus.op (rq 16 (pl [(2, 255), (2, 0)])) (own kKey 255 16 (run))
    let r : Req := rq 16 (pl [(2, 255), (2, 0)])
    (s.Reaches dKeyStatus r) &&
    let c := s.reqCmd dKeyStatus r
    let σ := s.taken r
    let k := c.arg 0 2
    (decide (k ≤ 255) && c.zero 2 2) &&
    (σ.owns c kKey k || σ.mayRead c kKey k) &&
    true) = true ∧
  (
    let s : State := slot dKeyDerive.op (rq 16 (pl [(2, 255), (1, 16), (1, 0), (8, 1), (8, 2)])) (key 255 2 128 (own kKey 255 16 (run)))
    let r : Req := rq 16 (pl [(2, 255), (1, 16), (1, 0), (8, 1), (8, 2)])
    (s.Reaches dKeyDerive r) &&
    let c := s.reqCmd dKeyDerive r
    let σ := s.taken r
    let k := c.arg 0 2
    let n := c.arg 2 1
    (decide (k ≤ 255) && decide (n ≤ 16) && c.zero 3 1 && (c.argBytes (4 + n) (16 - n)).all (fun b => b == 0)) &&
    (σ.owns c kKey k) &&
    (σ.rd F.HWN_STAT_LOCK_STATE != 1) &&
    (!(σ.slot k).imported && σ.parentOk k 5 && σ.slotType k != 0) &&
    let res : Res :=
    σ.putShadow k (σ.derived k (c.argBytes 4 n))
    (isDone res)) = true ∧
  (
    let s : State := slot dKeyImport.op (dq 16 [(0x10000, 48, 0)]) (imported (mpc (key 254 5 64 (own kKey 254 16 (own kKey 255 16 (run))))))
    let r : Req := dq 16 [(0x10000, 48, 0)]
    (s.Reaches dKeyImport r) &&
    let c := s.reqCmd dKeyImport r
    let σ := s.taken r
    let b := σ.load (c.dAddr 0) (min (c.dSize 0) 80)
    let k := leAt b 0 2
    let n := leAt b 4 2
    let par := (σ.slot k).parent
    (decide (k ≤ 255) && leAt b 2 2 == 0 && leAt b 6 2 == 0 && (n == keyLen (σ.slotType k) + 8) && decide (8 + n ≤ c.dSize 0)) &&
    (σ.owns c kKey k && (0x8000 ≤ par || σ.owns c kKey par)) &&
    (σ.rd F.HWN_STAT_LOCK_STATE != 1) &&
    ((σ.slot k).imported && σ.parentOk k 6 && σ.slotType k != 0) &&
    true) = true ∧
  (
    let s : State := slot dKeyCommit.op (rq 16 (pl [(2, 255), (2, 0), (8, 0)])) ((key 255 2 255 (own kKey 255 16 (run))).wrb (F.HWN_SLOT_STAT_SHADOW 255) true)
    let r : Req := rq 16 (pl [(2, 255), (2, 0), (8, 0)])
    (s.Reaches dKeyCommit r) &&
    let c := s.reqCmd dKeyCommit r
    let σ := s.taken r
    let k := c.arg 0 2
    (decide (k ≤ 255) && c.zero 2 2) &&
    (σ.owns c kKey k) &&
    (σ.rd F.HWN_STAT_LOCK_STATE != 1) &&
    true) = true ∧
  (
    let s : State := slot dKeyCommit.op (rq 16 (pl [(2, 255), (2, 0), (8, 0)])) (own kKey 255 16 (run))
    let r : Req := rq 16 (pl [(2, 255), (2, 0), (8, 0)])
    (s.Reaches dKeyCommit r) &&
    let c := s.reqCmd dKeyCommit r
    let σ := s.taken r
    let k := c.arg 0 2
    let x := σ.slot k
    (decide (k ≤ 255) && c.zero 2 2) &&
    (σ.owns c kKey k) &&
    (σ.rd F.HWN_STAT_LOCK_STATE != 1) &&
    let res : Res :=
    if σ.rdb (F.HWN_SLOT_STAT_SHADOW k) then
      need (σ.kcv k x.shadow == c.argBytes 4 8) stAUTH_FAILED <|
      if x.commit.isSome then .wait .waitObject
      else if σ.opsOn k = [] then .done stOK (bytesLE 8 σ.now) (σ.commitKey k)
      else .later .running 0 (σ.setSlot k { x with commit := some (c.node, c.win, c.tag) })
    else .refuse stMODE_FORBIDS
    (isRefuse res)) = true ∧
  (
    let s : State := slot dKeyDiscard.op (rq 16 (pl [(2, 255), (2, 0)])) (own kKey 255 16 (run))
    let r : Req := rq 16 (pl [(2, 255), (2, 0)])
    (s.Reaches dKeyDiscard r) &&
    let c := s.reqCmd dKeyDiscard r
    let σ := s.taken r
    let k := c.arg 0 2
    (decide (k ≤ 255) && c.zero 2 2) &&
    (σ.owns c kKey k) &&
    (σ.rd F.HWN_STAT_LOCK_STATE != 1) &&
    true) = true ∧
  (
    let s : State := slot dKeyRevoke.op (rq 16 (pl [(2, 255), (2, 0)])) (own kKey 255 16 (run))
    let r : Req := rq 16 (pl [(2, 255), (2, 0)])
    (s.Reaches dKeyRevoke r) &&
    let c := s.reqCmd dKeyRevoke r
    let σ := s.taken r
    let k := c.arg 0 2
    (decide (k ≤ 255) && c.zero 2 2) &&
    (σ.owns c kKey k) &&
    (σ.rd F.HWN_STAT_LOCK_STATE != 1) &&
    true) = true ∧
  (
    let s : State := slot dKeyOp.op (dq 16 [(0x10000, 32, 0), (0x10040, 16, 0), (0x10080, 16, 1)]) ((mpc (key 255 2 255 (own kKey 255 16 (run)))).store 0x10000 (pl [(2, 255), (1, 6), (29, 0)]))
    let r : Req := dq 16 [(0x10000, 32, 0), (0x10040, 16, 0), (0x10080, 16, 1)]
    (s.Reaches dKeyOp r) &&
    let c := s.reqCmd dKeyOp r
    let σ := s.taken r
    let p := σ.keyParam c
    let b := σ.load (c.dAddr 0) 32
    let n := c.dSize 1
    (c.dSize 0 == 32 && between 1 13 p.op && leAt b 3 1 == 0 && leAt b 24 8 == 0 && (if 12 ≤ p.op then p.slot == 0xFFFF else decide (p.slot ≤ 255)) && (p.op == 4 || p.op == 5 || p.aad == 0) && opIv p.op p.iv) &&
    (opLen p.op p.aad n (if σ.slotType p.slot = 4 then 48 else 32)) &&
    (12 ≤ p.op || (opTypes p.op).contains (σ.slotType p.slot)) &&
    (p.op == 7 || p.op == 9 || p.op == 11 || decide (σ.keyOutLen p n ≤ c.dSize 2)) &&
    (12 ≤ p.op || σ.owns c kKey p.slot || (opUse p.op == some 3 && σ.mayRead c kKey p.slot)) &&
    (σ.rd F.HWN_STAT_LOCK_STATE != 1) &&
    (match opUse p.op with | some u => σ.slotUse p.slot u | none => true) &&
    let res : Res :=
    if p.op < 12 ∧ (σ.slot p.slot).commit.isSome then .wait .waitObject
    else need (12 ≤ p.op || σ.usable p.slot) stKEY_REVOKED <|
    .later .running 0 σ
    (isLater res)) = true ∧
  (
    let s : State := slot dKeyAttest.op (dq 16 [(0x10000, 32, 0), (0x10400, 1448, 1)]) (mpc run)
    let r : Req := dq 16 [(0x10000, 32, 0), (0x10400, 1448, 1)]
    (s.Reaches dKeyAttest r) &&
    let c := s.reqCmd dKeyAttest r
    (c.dSize 0 == 32 && decide (1448 ≤ c.dSize 1)) &&
    true) = true ∧
  (
    let s : State := slot dKeyRandom.op (rq 16 (pl [(1, 48), (3, 0)])) (run)
    let r : Req := rq 16 (pl [(1, 48), (3, 0)])
    (s.Reaches dKeyRandom r) &&
    let c := s.reqCmd dKeyRandom r
    let σ := s.taken r
    let n := c.arg 0 1
    (between 1 48 n && c.zero 1 3) &&
    (σ.rd F.HWN_STAT_LOCK_STATE != 1) &&
    true) = true ∧
  (
    let s : State := slot dTamperStatus.op (rq 16 (pl [(1, 31), (1, 2), (2, 0)])) (run)
    let r : Req := rq 16 (pl [(1, 31), (1, 2), (2, 0)])
    (s.Reaches dTamperStatus r) &&
    let c := s.reqCmd dTamperStatus r
    let f := c.arg 0 1
    let n := c.arg 1 1
    (decide (f ≤ 31) && decide (n ≤ 2) && c.zero 2 2) &&
    true) = true ∧
  (
    let s : State := slot dTamperClear.op (rq 16 (pl [(1, 63), (3, 0), (16, 0)])) (run)
    let r : Req := rq 16 (pl [(1, 63), (3, 0), (16, 0)])
    (s.Reaches dTamperClear r) &&
    let c := s.reqCmd dTamperClear r
    let σ := s.taken r
    let m := c.arg 0 1
    (decide (m < 64) && c.zero 1 3) &&
    (σ.mayClear c) &&
    true) = true :=
  by and_intros <;> decide +kernel
/-- The clauses of `Obligations.FaultCommandsComplete` apply: faultStatus, faultLogRead, faultCapture, faultRecoveryClear, faultInject. -/
theorem witness_FaultCommandsComplete :
  (
    let s : State := slot dFaultStatus.op (rq 16 (pl [])) (run)
    let r : Req := rq 16 (pl [])
    (s.Reaches dFaultStatus r) &&
    true) = true ∧
  (
    let s : State := slot dFaultLogRead.op (rq 16 (pl [(4, 0), (4, 0)])) (run)
    let r : Req := rq 16 (pl [(4, 0), (4, 0)])
    (s.Reaches dFaultLogRead r) &&
    let c := s.reqCmd dFaultLogRead r
    let σ := s.taken r
    let res : Res :=
    if c.desc then
      need (c.dSize 0 == 4 && c.dSize 1 % 32 == 0) stBAD_ARGUMENT <|
      need (c.node == 0xFFFF || c.who == 16) stNOT_OWNER <|
      let l := ((σ.logFrom (natLE (σ.load (c.dAddr 0) 4))).filter (fun ρ => ρ.forWho c)).take (c.dSize 1 / 32)
      .done stOK (bytesLE 4 (32 * l.length) ++ bytesLE 4 σ.logOldest) (σ.putBuf c 1 (l.flatMap (fun ρ => ρ.bytes)))
    else
      need (c.zero 4 4) stBAD_ARGUMENT <|
      need (c.node == 0xFFFF || c.who == 16) stNOT_OWNER <|
      match (σ.logFrom (c.arg 0 4)).find? (fun ρ => ρ.forWho c) with
      | some ρ => .done stOK (bytesLE 4 ρ.seq ++ bytesLE 4 σ.logOldest ++ ρ.bytes) σ
      | none => .done stOK (bytesLE 4 0xFFFFFFFF ++ bytesLE 4 σ.logOldest) σ
    (isDone res)) = true ∧
  (
    let s : State := slot dFaultLogRead.op (dq 16 [(0x10000, 4, 0), (0x10040, 32, 1)]) (mpc run)
    let r : Req := dq 16 [(0x10000, 4, 0), (0x10040, 32, 1)]
    (s.Reaches dFaultLogRead r) &&
    let c := s.reqCmd dFaultLogRead r
    let σ := s.taken r
    let res : Res :=
    if c.desc then
      need (c.dSize 0 == 4 && c.dSize 1 % 32 == 0) stBAD_ARGUMENT <|
      need (c.node == 0xFFFF || c.who == 16) stNOT_OWNER <|
      let l := ((σ.logFrom (natLE (σ.load (c.dAddr 0) 4))).filter (fun ρ => ρ.forWho c)).take (c.dSize 1 / 32)
      .done stOK (bytesLE 4 (32 * l.length) ++ bytesLE 4 σ.logOldest) (σ.putBuf c 1 (l.flatMap (fun ρ => ρ.bytes)))
    else
      need (c.zero 4 4) stBAD_ARGUMENT <|
      need (c.node == 0xFFFF || c.who == 16) stNOT_OWNER <|
      match (σ.logFrom (c.arg 0 4)).find? (fun ρ => ρ.forWho c) with
      | some ρ => .done stOK (bytesLE 4 ρ.seq ++ bytesLE 4 σ.logOldest ++ ρ.bytes) σ
      | none => .done stOK (bytesLE 4 0xFFFFFFFF ++ bytesLE 4 σ.logOldest) σ
    (isDone res)) = true ∧
  (
    let s : State := slot dFaultCapture.op (rq 16 (pl [(1, 2), (1, 1), (2, 0)])) (run)
    let r : Req := rq 16 (pl [(1, 2), (1, 1), (2, 0)])
    (s.Reaches dFaultCapture r) &&
    let c := s.reqCmd dFaultCapture r
    let σ := s.taken r
    let k := c.arg 0 1
    let op := c.arg 1 1
    (decide (k ≤ 2) && decide (op ≤ 1) && c.zero 2 2) &&
    (op == 0 || c.isSecure) &&
    (op == 0 || σ.dev != .fault) &&
    true) = true ∧
  (
    let s : State := slot dFaultRecoveryClear.op (rq 16 (pl [])) (run)
    let r : Req := rq 16 (pl [])
    (s.Reaches dFaultRecoveryClear r) &&
    let c := s.reqCmd dFaultRecoveryClear r
    (c.isSecure) &&
    true) = true ∧
  (
    let s : State := slot dFaultInject.op (rq 16 (pl [(2, 0x0103), (2, 0), (4, 0)])) (run.wr F.MPC_LC_STAT_LIFECYCLE 1)
    let r : Req := rq 16 (pl [(2, 0x0103), (2, 0), (4, 0)])
    (s.Reaches dFaultInject r) &&
    let c := s.reqCmd dFaultInject r
    let σ := s.taken r
    let code := c.arg 0 2
    let obj := c.arg 2 2
    let res : Res :=
    match codeTable.find? (fun ρ => ρ.1 == code) with
    | some (_, cs, k) =>
      need (c.zero 4 4) stBAD_ARGUMENT <|
      need c.isSecure stNOT_OWNER <|
      need (σ.lifecycle == 1) stMODE_FORBIDS <|
      let σ := σ.raise { code := code, cls := cs.headD .corrected, kind := σ.codeKind code obj k, acc := some (⟨0x10, false, 0, true, false⟩, 0, 0), obj := obj }
      .done stOK (bytesLE 4 (σ.flt.seq + 2 ^ 32 - 1) ++ bytesLE 4 0) σ
    | none => .refuse stBAD_ARGUMENT
    (isDone res)) = true :=
  by and_intros <;> decide +kernel
/-- The clauses of `Obligations.ConfigMaintCommandsComplete` apply: configStatus, overlaySwitch, configCommit, serviceOpen, serviceClose, maintRequest, maintStatus, maintCancel. -/
theorem witness_ConfigMaintCommandsComplete :
  (
    let s : State := slot dConfigStatus.op (rq 16 (pl [])) (run)
    let r : Req := rq 16 (pl [])
    (s.Reaches dConfigStatus r) &&
    true) = true ∧
  (
    let s : State := slot dOverlaySwitch.op (rq 16 (pl [(1, 6), (3, 0), (8, 0)])) ({ run with cfg.ovlCtrl := 65536, cfg.ovls := run.cfg.ovls.set 6 { present := true } })
    let r : Req := rq 16 (pl [(1, 6), (3, 0), (8, 0)])
    (s.Reaches dOverlaySwitch r) &&
    let c := s.reqCmd dOverlaySwitch r
    let σ := s.taken r
    let n := c.arg 0 1
    (c.zero 1 3 && (σ.overlay n).present) &&
    (σ.ovlRight c) &&
    (n != 4 || σ.cfg.svcEnd.isSome) &&
    let res : Res :=
    if σ.cfg.switch_.isSome then .wait .waitObject else σ.pendSwitch c.taken false n (c.arg 4 8)
    (isLater res)) = true ∧
  (
    let s : State := slot dConfigCommit.op (rq 16 (pl [(8, 0)])) ({ run with cfg.ovlCtrl := 65536, cfg.pend := [(F.PFB_HEAT_CFG_HEAT_MAX, 1)] })
    let r : Req := rq 16 (pl [(8, 0)])
    (s.Reaches dConfigCommit r) &&
    let c := s.reqCmd dConfigCommit r
    let σ := s.taken r
    (!σ.cfg.pend.isEmpty) &&
    (σ.ovlRight c) &&
    let res : Res :=
    if σ.cfg.switch_.isSome then .wait .waitObject else σ.pendSwitch c.taken true (σ.rd F.CFG_STAT_OVERLAY) (c.arg 0 8)
    (isLater res)) = true ∧
  (
    let s : State := slot dServiceOpen.op (rq 16 (pl [(1, 240), (3, 0), (16, 0)])) (run)
    let r : Req := rq 16 (pl [(1, 240), (3, 0), (16, 0)])
    (s.Reaches dServiceOpen r) &&
    let c := s.reqCmd dServiceOpen r
    let m := c.arg 0 1
    (between 1 240 m && c.zero 1 3) &&
    (c.isSecure) &&
    true) = true ∧
  (
    let s : State := slot dServiceClose.op (rq 16 (pl [])) ({ run with cfg.svcEnd := some 2000 })
    let r : Req := rq 16 (pl [])
    (s.Reaches dServiceClose r) &&
    let c := s.reqCmd dServiceClose r
    let σ := s.taken r
    (c.isSecure) &&
    (σ.cfg.svcEnd.isSome) &&
    true) = true ∧
  (
    let s : State := slot dMaintRequest.op (rq 16 (pl [(1, 4), (7, 0)])) (run)
    let r : Req := rq 16 (pl [(1, 4), (7, 0)])
    (s.Reaches dMaintRequest r) &&
    let c := s.reqCmd dMaintRequest r
    let σ := s.taken r
    let a := c.arg 0 1
    let first := c.arg 2 2
    let count := c.arg 4 2
    ([2, 3, 4, 7].contains a && c.zero 1 1 && c.zero 6 2) &&
    let res : Res :=
    if a = aSCRUB ∨ a = aLBIST then
      need (c.who == 16) stNOT_OWNER <|
      σ.commandAct c a first count 0
    else
      need (decide (1 ≤ count) && decide (first + count ≤ 512) && σ.coversWhole first count) stBAD_ARGUMENT <|
      need ((σ.coverTops first count).all (fun x => σ.owns c (objKind x) (objIdx x))) stNOT_OWNER <|
      σ.commandAct c a first count 0
    (isDone res)) = true ∧
  (
    let s : State := slot dMaintRequest.op (rq 16 (pl [(1, 7), (7, 0)])) ({ run with cfg.mrun := [{ req := { act := aLBIST }, start := 0 }] })
    let r : Req := rq 16 (pl [(1, 7), (7, 0)])
    (s.Reaches dMaintRequest r) &&
    let c := s.reqCmd dMaintRequest r
    let σ := s.taken r
    let a := c.arg 0 1
    let first := c.arg 2 2
    let count := c.arg 4 2
    ([2, 3, 4, 7].contains a && c.zero 1 1 && c.zero 6 2) &&
    let res : Res :=
    if a = aSCRUB ∨ a = aLBIST then
      need (c.who == 16) stNOT_OWNER <|
      σ.commandAct c a first count 0
    else
      need (decide (1 ≤ count) && decide (first + count ≤ 512) && σ.coversWhole first count) stBAD_ARGUMENT <|
      need ((σ.coverTops first count).all (fun x => σ.owns c (objKind x) (objIdx x))) stNOT_OWNER <|
      σ.commandAct c a first count 0
    (isLater res)) = true ∧
  (
    let s : State := slot dMaintStatus.op (rq 16 (pl [])) (run)
    let r : Req := rq 16 (pl [])
    (s.Reaches dMaintStatus r) &&
    true) = true ∧
  (
    let s : State := slot dMaintCancel.op (rq 16 (pl [(1, 8), (3, 0)])) ({ run with cfg.mq := [{ act := 8, who := 16, cmd := some (0xFFFF, 16, 9) }] })
    let r : Req := rq 16 (pl [(1, 8), (3, 0)])
    (s.Reaches dMaintCancel r) &&
    let c := s.reqCmd dMaintCancel r
    let σ := s.taken r
    let a := c.arg 0 1
    (between 1 8 a && c.zero 1 3) &&
    let res : Res :=
    match σ.cfg.mq.find? (fun ρ => ρ.act == a && ρ.mine c) with
    | some ρ =>
      .done stOK [] (({ σ with cfg.mq := σ.cfg.mq.erase ρ }).answerReq ρ stTIMEOUT []).maintStat
    | none =>
      need (!σ.cfg.mq.any (fun ρ => ρ.act == a)) stNOT_OWNER <|
      .refuse stMODE_FORBIDS
    (isDone res)) = true :=
  by and_intros <;> decide +kernel
/-- The clauses of `Obligations.BootUpdateCommandsComplete` apply: bootStatus, deviceReset, coppiceExit, updStatus, updBegin, updChunk, updVerify, updActivate, updConfirm, updAbort. -/
theorem witness_BootUpdateCommandsComplete :
  (
    let s : State := slot dBootStatus.op (rq 16 (pl [])) (run)
    let r : Req := rq 16 (pl [])
    (s.Reaches dBootStatus r) &&
    true) = true ∧
  (
    let s : State := slot dDeviceReset.op (rq 16 (pl [(1, 1), (3, 0)])) (run)
    let r : Req := rq 16 (pl [(1, 1), (3, 0)])
    (s.Reaches dDeviceReset r) &&
    let c := s.reqCmd dDeviceReset r
    let k := c.arg 0 1
    (decide (k ≤ 1) && c.zero 1 3) &&
    (c.isSecure) &&
    true) = true ∧
  (
    let s : State := slot dCoppiceExit.op (rq 1 (pl [(20, 0)])) (cop)
    let r : Req := rq 1 (pl [(20, 0)])
    (s.Reaches dCoppiceExit r) &&
    let c := s.reqCmd dCoppiceExit r
    let σ := s.taken r
    (c.zero 0 4) &&
    (c.node == 0xFFFF) &&
    (σ.corePart 0 == some c.who) &&
    (σ.rd F.HWN_STAT_LOCK_STATE != 1) &&
    true) = true ∧
  (
    let s : State := slot dUpdStatus.op (rq 16 (pl [])) (run)
    let r : Req := rq 16 (pl [])
    decide (s.boot.stage ≠ .rom) &&
    (s.Reaches dUpdStatus r) &&
    true) = true ∧
  (
    let s : State := slot dUpdBegin.op (dq 16 [(0x10000, 16, 0), (0x10040, 32, 0)]) ({ mpc (upd 1) with upd.manifest := pl [(16, 0)] })
    let r : Req := dq 16 [(0x10000, 16, 0), (0x10040, 32, 0)]
    decide (s.boot.stage ≠ .rom) &&
    (s.Reaches dUpdBegin r) &&
    let c := s.reqCmd dUpdBegin r
    let σ := s.taken r
    let res : Res :=
    updBegin (σ.load (c.dAddr 0) (min (c.dSize 0) 65537)) (σ.load (c.dAddr 1) (c.dSize 1)) c σ
    (isDone res)) = true ∧
  (
    let s : State := slot dUpdChunk.op (dq 16 [(0x10000, 8, 0), (0x10040, 16, 0)]) (chunk)
    let r : Req := dq 16 [(0x10000, 8, 0), (0x10040, 16, 0)]
    decide (s.boot.stage ≠ .rom) &&
    (s.Reaches dUpdChunk r) &&
    let c := s.reqCmd dUpdChunk r
    let σ := s.taken r
    let res : Res :=
    updChunk (σ.load (c.dAddr 0) (c.dSize 0)) (σ.load (c.dAddr 1) (c.dSize 1)) c σ
    (isDone res)) = true ∧
  (
    let s : State := slot dUpdVerify.op (rq 16 (pl [])) (upd 2)
    let r : Req := rq 16 (pl [])
    decide (s.boot.stage ≠ .rom) &&
    (s.Reaches dUpdVerify r) &&
    let c := s.reqCmd dUpdVerify r
    let σ := s.taken r
    (σ.updCtl c) &&
    (σ.rd F.HWN_STAT_LOCK_STATE != 1) &&
    (σ.rd F.UPD_STAT_STATE == 2) &&
    true) = true ∧
  (
    let s : State := slot dUpdActivate.op (rq 16 (pl [])) ((upd 4).wr F.CFG_STAT_OVERLAY 0)
    let r : Req := rq 16 (pl [])
    decide (s.boot.stage ≠ .rom) &&
    (s.Reaches dUpdActivate r) &&
    let c := s.reqCmd dUpdActivate r
    let σ := s.taken r
    (σ.updCtl c) &&
    (between 4 6 (σ.rd F.UPD_STAT_STATE) && σ.mayArm && !σ.upd.dropped) &&
    true) = true ∧
  (
    let s : State := slot dUpdConfirm.op (rq 16 (pl [])) (((upd 8).wrb F.UPD_STAT_EXPLICIT true).wrb F.BOOT_STAT_CONFIRMED true)
    let r : Req := rq 16 (pl [])
    decide (s.boot.stage ≠ .rom) &&
    (s.Reaches dUpdConfirm r) &&
    let c := s.reqCmd dUpdConfirm r
    let σ := s.taken r
    (σ.updCtl c) &&
    (σ.rd F.UPD_STAT_STATE == 8 && σ.rdb F.UPD_STAT_EXPLICIT && σ.rdb F.BOOT_STAT_CONFIRMED) &&
    true) = true ∧
  (
    let s : State := slot dUpdAbort.op (rq 16 (pl [])) (upd 1)
    let r : Req := rq 16 (pl [])
    decide (s.boot.stage ≠ .rom) &&
    (s.Reaches dUpdAbort r) &&
    let c := s.reqCmd dUpdAbort r
    let σ := s.taken r
    (σ.updCtl c) &&
    let st := σ.rd F.UPD_STAT_STATE
    (st != 0) &&
    let res : Res :=
    if st = 8 then .done stOK [] { σ with upd.rollback := true }
    else if st = 9 then .done stOK [] (σ.endUpd (σ.rd F.UPD_STAT_RESULT))
    else if σ.rd F.UPD_STAT_JOP ≠ 0 then .done stOK [] { σ.wrb F.UPD_STAT_ARMED false with upd.dropped := true }
    else .done stOK [] ({ σ.endUpd 0xE with cfg.mq := σ.cfg.mq.filter (fun ρ => ρ.act != aSTAGE_COPY) }).maintStat
    (isDone res)) = true ∧
  (
    let s : State := slot dUpdAbort.op (rq 16 (pl [])) (upd 8)
    let r : Req := rq 16 (pl [])
    decide (s.boot.stage ≠ .rom) &&
    (s.Reaches dUpdAbort r) &&
    let c := s.reqCmd dUpdAbort r
    let σ := s.taken r
    (σ.updCtl c) &&
    let st := σ.rd F.UPD_STAT_STATE
    (st != 0) &&
    let res : Res :=
    if st = 8 then .done stOK [] { σ with upd.rollback := true }
    else if st = 9 then .done stOK [] (σ.endUpd (σ.rd F.UPD_STAT_RESULT))
    else if σ.rd F.UPD_STAT_JOP ≠ 0 then .done stOK [] { σ.wrb F.UPD_STAT_ARMED false with upd.dropped := true }
    else .done stOK [] ({ σ.endUpd 0xE with cfg.mq := σ.cfg.mq.filter (fun ρ => ρ.act != aSTAGE_COPY) }).maintStat
    (isDone res)) = true ∧
  (
    let s : State := slot dUpdAbort.op (rq 16 (pl [])) (upd 9)
    let r : Req := rq 16 (pl [])
    decide (s.boot.stage ≠ .rom) &&
    (s.Reaches dUpdAbort r) &&
    let c := s.reqCmd dUpdAbort r
    let σ := s.taken r
    (σ.updCtl c) &&
    let st := σ.rd F.UPD_STAT_STATE
    (st != 0) &&
    let res : Res :=
    if st = 8 then .done stOK [] { σ with upd.rollback := true }
    else if st = 9 then .done stOK [] (σ.endUpd (σ.rd F.UPD_STAT_RESULT))
    else if σ.rd F.UPD_STAT_JOP ≠ 0 then .done stOK [] { σ.wrb F.UPD_STAT_ARMED false with upd.dropped := true }
    else .done stOK [] ({ σ.endUpd 0xE with cfg.mq := σ.cfg.mq.filter (fun ρ => ρ.act != aSTAGE_COPY) }).maintStat
    (isDone res)) = true :=
  by and_intros <;> decide +kernel
/-! ## The program load

Its image is large, so the parts are shown one by one. -/
/-- Bytes stored are loaded. -/
theorem load_store (s : State) (a : Nat) (l : List Byte) (h : Memory.wf s.mem = true) : (s.store a l).load a l.length = l :=
  Memory.read_write a l h
/-- The byte at an index of a run of equal bytes behind others. -/
theorem leAt_tail (h : List Byte) (b : Byte) (n i : Nat) (hi : i < n) : leAt (h ++ List.replicate n b) (h.length + i) 1 = b.toNat := by
  have e : ((h ++ List.replicate n b).drop (h.length + i)).take 1 = [b] := by
    rw [List.drop_append, List.drop_of_length_le (by omega), List.drop_replicate]
    obtain ⟨k, hk⟩ : ∃ k, n - (h.length + i - h.length) = k + 1 := ⟨n - i - 1, by omega⟩
    rw [hk]; rfl
  unfold leAt slice
  dsimp only
  rw [e]
  simp [natLE]
/-- The writer entries of an image are its bytes. -/
theorem progOf_writer (b : List Byte) (x : Nat) (hx : x < 608) : (progOf b).writer.getD x 0xFF = leAt b (leAt b 36 4 + x) 1 := by
  unfold progOf
  dsimp only
  rw [List.getD_eq_getElem?_getD, List.getElem?_map, List.getElem?_range hx]; rfl
def loadR : Req := dq 16 [(0x10000, 1056, 0)]
def loadSt : State := slot dCycLoad.op loadR (cyc 0 (mpc run))
def loadS : State := loadSt.store 0x10000 image
theorem image_length : image.length = 1056 := by decide +kernel
theorem loadSt_wf : Memory.wf loadSt.mem = true := by decide +kernel
theorem loadS_image : loadS.load 0x10000 1056 = image := image_length ▸ load_store loadSt 0x10000 image loadSt_wf
/-- The image, placed last, leaves the request's slot as it was. -/
theorem loadS_slot : (loadS.at_ loadR.t).slotHolds dCycLoad.op loadR = true := by
  have e : (loadS.at_ loadR.t).reqSlot loadR.win = 0 := by decide +kernel
  have m : ∀ (s : State) (t a : Nat) (l : List Byte), ((s.store a l).at_ t).mem = Memory.write s.mem a l := fun _ _ _ _ => rfl
  have m0 : loadSt.mem = Memory.write (cyc 0 (mpc run)).mem 0 (reqBytes dCycLoad.op loadR) := by
    unfold loadSt slot; rw [State.store_mem]; congr 1
  have h : (loadS.at_ loadR.t).load ((loadS.at_ loadR.t).reqSlot loadR.win) 64 = reqBytes dCycLoad.op loadR := by
    rw [e]; unfold State.load loadS; rw [m]
    exact Memory.read_eq _ 64 0 (reqBytes dCycLoad.op loadR) (by decide +kernel) (fun i hi =>
      (Memory.byte_write_out image loadSt_wf (Or.inl (by omega))).trans (m0 ▸ Memory.byte_write_in _ (by decide +kernel) hi))
  unfold State.slotHolds
  rw [h]
  decide +kernel
theorem imageHead_length : imageHead.length = 448 := by decide +kernel
theorem image_writer (x : Nat) (hx : x < 608) : (progOf image).writer.getD x 0xFF = 0xFF := by
  rw [progOf_writer image x hx, show leAt image 36 4 = 448 by decide +kernel, ← imageHead_length]
  exact leAt_tail imageHead 0xFF 608 x hx
def loadC : Cmd := loadS.reqCmd dCycLoad loadR
def loadB : State := loadS.taken loadR
theorem loadC_args : loadC.dAddr 0 = 0x10000 ∧ loadC.dSize 0 = 1056 := by decide +kernel
theorem loadB_image : loadB.load (loadC.dAddr 0) (loadC.dSize 0) = image := by
  rw [loadC_args.1, loadC_args.2]
  have h : loadB.mem = loadS.mem := by
    unfold loadB State.taken
    rw [State.take_mem]; exact State.at__mem loadS loadR.t
  unfold State.load
  rw [h]
  exact loadS_image
/-- No object is driven by the cycle engine. -/
theorem loadB_drivers : ((List.range 608).all fun x => !(loadB.isTop x && loadB.driverOf x == 1)) = true := by decide +kernel
theorem loadB_writers : ((List.range 608).all fun x => loadB.writerOk (progOf image) x) = true := by
  rw [List.all_eq_true]
  intro x hx
  have h := List.all_eq_true.mp loadB_drivers x hx
  unfold State.writerOk
  dsimp only
  rw [image_writer x (List.mem_range.mp hx), if_neg (by rw [Bool.not_eq_true'] at h; rw [h]; exact Bool.false_ne_true)]
  rfl
theorem loadB_progOk : loadB.progOk image = true := by
  unfold State.progOk
  dsimp only
  rw [loadB_writers]
  decide +kernel
theorem loadS_reaches : loadS.Reaches dCycLoad loadR = true := by
  unfold State.Reaches
  rw [loadS_slot]
  decide +kernel
theorem witness_cycLoad :
    loadS.Reaches dCycLoad loadR = true ∧ loadB.ownsProg loadC = true ∧
      loadB.progOk (loadB.load (loadC.dAddr 0) (loadC.dSize 0)) = true ∧ loadB.progTag (loadB.load (loadC.dAddr 0) (loadC.dSize 0)) = true ∧
      loadB.cyc.swapAt = none := by
  rw [loadB_image]
  exact ⟨loadS_reaches, by decide +kernel, loadB_progOk, by decide +kernel, by decide +kernel⟩
/-! ## Events and register rows -/
/-- The clauses of `Obligations.ObjectTransitionsComplete` apply: edgeInstant, transitionEnd, deadTimeExpiry, freewheelCurrentLow, freewheelMaxExpiry, reversalDwellExpiry, holdWindowExpiry. -/
theorem witness_ObjectTransitionsComplete :
  (
    let s : State := ob 511 { edges := [⟨5, 1, .mailbox⟩] } run
    let t : Nat := 10 ^ 9
    let x : Nat := 511
    decide (s.asleep = false) &&
    let σ := s.at_ t
    (σ.isTop x) &&
    (match (σ.obj x).nextEdge with
    | some e =>
    decide (e.at_ ≤ σ.now) &&
    true
    | _ => false)) = true ∧
  (
    let s : State := ob 511 { st := 1, trans := some ⟨0, false⟩ } run
    let t : Nat := 10 ^ 9
    let x : Nat := 511
    decide (s.asleep = false) &&
    let σ := s.at_ t
    (match (σ.obj x).trans with
    | some tr =>
    decide (¬ (tr.dead)) &&
    true
    | _ => false)) = true ∧
  (
    let s : State := ob 511 { trans := some ⟨1, true⟩ } run
    let t : Nat := 10 ^ 9
    let x : Nat := 511
    decide (s.asleep = false) &&
    let σ := s.at_ t
    ((match (σ.obj x).trans with | some tr => tr.dead | none => false) || (match (σ.obj x).wheel with | .dead _ => true | _ => false)) &&
    true) = true ∧
  (
    let s : State := ob 511 { wheel := .dead 7 } run
    let t : Nat := 10 ^ 9
    let x : Nat := 511
    decide (s.asleep = false) &&
    let σ := s.at_ t
    ((match (σ.obj x).trans with | some tr => tr.dead | none => false) || (match (σ.obj x).wheel with | .dead _ => true | _ => false)) &&
    true) = true ∧
  (
    let s : State := ob 511 { wheel := .run 7 } run
    let t : Nat := 10 ^ 9
    let x : Nat := 511
    decide (s.asleep = false) &&
    let σ := s.at_ t
    (match (σ.obj x).wheel with
    | .run v1 =>
    true
    | _ => false)) = true ∧
  (
    let s : State := ob 511 { wheel := .run 7 } run
    let t : Nat := 10 ^ 9
    let x : Nat := 511
    decide (s.asleep = false) &&
    let σ := s.at_ t
    (match (σ.obj x).wheel with
    | .run e =>
    decide (e ≤ σ.now) &&
    true
    | _ => false)) = true ∧
  (
    let s : State := ob 607 { dwell := some ⟨1, some 7, 5, false⟩ } run
    let t : Nat := 10 ^ 9
    let h : Nat := 31
    decide (s.asleep = false) &&
    let σ := s.at_ t
    let x := xBrg h
    (match (σ.obj x).dwell with
    | some d =>
    (match d.until_ with
    | some u =>
    decide (u ≤ σ.now ∧ d.final = false ∧ (σ.obj x).trans.isNone) &&
    true
    | _ => false)
    | _ => false)) = true ∧
  (
    let s : State := ob 511 { holdEnd := some (10 ^ 9) } run
    let t : Nat := 10 ^ 9
    let x : Nat := 511
    decide (s.asleep = false) &&
    let σ := s.at_ t
    (match (σ.obj x).holdEnd with
    | some e =>
    decide (e ≤ σ.now) &&
    true
    | _ => false)) = true :=
  by and_intros <;> decide +kernel
/-- The clauses of `Obligations.ProtectionEventsComplete` apply: shortCircuit, currentLimitEntry, ocBlankExpiry, retryDelayExpiry, retryCounterReset, thermalShutdown, feedUndervoltage, feedUvRecovery, uvRestart. -/
theorem witness_ProtectionEventsComplete :
  (
    let s : State := run
    let n : Nat := 511
    decide (s.asleep = false) &&
    decide (n < 512) &&
    true) = true ∧
  (
    let s : State := ob 511 { st := 1 } run
    let t : Nat := 10 ^ 9
    let n : Nat := 511
    decide (s.asleep = false) &&
    let σ := s.at_ t
    let x := σ.topOf n
    decide (n < 512 ∧ σ.live x = true) &&
    true) = true ∧
  (
    let s : State := ob 511 { st := 1, regEnds := [(511, 7)] } run
    let t : Nat := 10 ^ 9
    let x : Nat := 511
    decide (s.asleep = false) &&
    let σ := s.at_ t
    (match firstDue σ.now (σ.obj x).regEnds with
    | some p =>
    true
    | _ => false)) = true ∧
  (
    let s : State := ob 511 { st := 4, retryEnd := some (10 ^ 9) } run
    let t : Nat := 10 ^ 9
    let x : Nat := 511
    decide (s.asleep = false) &&
    let σ := s.at_ t
    (match (σ.obj x).retryEnd with
    | some e =>
    decide (e ≤ σ.now) &&
    true
    | _ => false)) = true ∧
  (
    let s : State := ob 511 { st := 1, condFrom := some 0 } run
    let t : Nat := 10 ^ 9
    let x : Nat := 511
    decide (s.asleep = false) &&
    let σ := s.at_ t
    (match (σ.obj x).condFrom with
    | some e =>
    decide (e + sec 1 ≤ σ.now ∧ onState x (σ.obj x).st = true) &&
    true
    | _ => false)) = true ∧
  (
    let s : State := run
    let n : Nat := 511
    decide (s.asleep = false) &&
    decide (n < 512) &&
    true) = true ∧
  (
    let s : State := run
    let f : Nat := 4
    decide (s.asleep = false) &&
    decide (1 ≤ f ∧ f ≤ 4) &&
    true) = true ∧
  (
    let s : State := run
    let f : Nat := 4
    decide (s.asleep = false) &&
    decide (1 ≤ f ∧ f ≤ 4) &&
    true) = true ∧
  (
    let s : State := run
    let t : Nat := 10 ^ 11
    let k : Nat := 31
    decide (s.asleep = false) &&
    let σ := s.at_ t
    let f := k / 8 + 1
    decide (k < 32 ∧ σ.rdb (F.PFB_FEED_STAT_UV f) = false ∧ σ.restartAt k ≤ σ.now) &&
    true) = true :=
  by and_intros <;> decide +kernel
/-- The clauses of `Obligations.BankAndProbeEventsComplete` apply: bankNoAnswer, bankAnswerReturn, bankFeedLoss, bankFeedReturn, probeSettleExpiry, probeRetryTimer. -/
theorem witness_BankAndProbeEventsComplete :
  (
    let s : State := run
    let t : Nat := 10 ^ 9
    let k : Nat := 31
    decide (s.asleep = false) &&
    let σ := s.at_ t
    decide (k < 32 ∧ σ.bankLost k = false) &&
    true) = true ∧
  (
    let s : State := bank 31 { lost := true } run
    let t : Nat := 10 ^ 9
    let k : Nat := 31
    decide (s.asleep = false) &&
    let σ := s.at_ t
    decide (k < 32 ∧ σ.bankLost k = true ∧ (σ.fab.banks.get {} k).silent = false) &&
    true) = true ∧
  (
    let s : State := run
    let f : Nat := 4
    decide (s.asleep = false) &&
    decide (1 ≤ f ∧ f ≤ 4) &&
    true) = true ∧
  (
    let s : State := bank 31 { silent := true } run
    let t : Nat := 10 ^ 9
    let f : Nat := 4
    decide (s.asleep = false) &&
    let σ := s.at_ t
    decide (1 ≤ f ∧ f ≤ 4 ∧ (List.range 8).any (fun j => (σ.fab.banks.get {} (8 * (f - 1) + j)).silent) = true) &&
    true) = true ∧
  (
    let s : State := { ob 511 { probing := true } run with fab.probeList := [511] }
    let t : Nat := 10 ^ 9
    let x : Nat := 511
    decide (s.asleep = false) &&
    let σ := s.at_ t
    decide (σ.fab.probeList.contains x && (σ.obj x).probing) &&
    true) = true ∧
  (
    let s : State := run
    decide (s.asleep = false) &&
    true) = true :=
  by and_intros <;> decide +kernel
/-- The clauses of `Obligations.GovernorEventsComplete` apply: governorCycle, restoreDelayExpiry, deferMaxExpiry, feedOverloadDelayExpiry, feedPeak, heatShedStart, measuredShedInterval, classSOverloadExpiry, feedOvervolt. -/
theorem witness_GovernorEventsComplete :
  (
    let s : State := run
    let t : Nat := 10 ^ 9
    decide (s.asleep = false) &&
    let σ := s.at_ t
    decide (σ.fab.lastGov + ms 1 ≤ σ.now) &&
    true) = true ∧
  (
    let s : State := ob 511 { shed := true, restFrom := some 0, cmd := 1 } (own kTerm 511 16 (run.wr (F.PFB_ALLOT_ALLOT 16) 5000))
    let t : Nat := 10 ^ 11
    let x : Nat := 511
    decide (s.asleep = false) &&
    let σ := s.at_ t
    (σ.isTop x) &&
    (match (σ.obj x).restFrom with
    | some t0 =>
    ((σ.obj x).shed) &&
    decide ((σ.obj x).hasInt .restore = false) &&
    (σ.mayRestore x) &&
    decide (t0 + σ.restoreDly x ≤ σ.now) &&
    decide (σ.fab.shedFeeds.contains (σ.feedOf x) = false) &&
    true
    | _ => false)) = true ∧
  (
    let s : State := { run with mbx.cmds := [{ op := 0x0102, node := 0xFFFF, who := 16, taken := 0, phase := .deferred, limit := none, req := rq 16 [] }] }
    let t : Nat := 10 ^ 12
    let node : Nat := 0xFFFF
    let w : Nat := 16
    let tag : Nat := 1
    decide (s.asleep = false) &&
    let σ := s.at_ t
    (match σ.mbx.cmds.find? (fun c => c.node == node && c.win == w && c.tag == tag && c.phase == .deferred) with
    | some c =>
    decide (c.aux + ms (10 * σ.rd F.PFB_GOV_CFG_DEFER_MAX) ≤ σ.now) &&
    true
    | _ => false)) = true ∧
  (
    let s : State := run.setFeed 4 { overFrom := some 0 }
    let t : Nat := 10 ^ 12
    let f : Nat := 4
    decide (s.asleep = false) &&
    let σ := s.at_ t
    (match (σ.feed f).overFrom with
    | some e =>
    decide (1 ≤ f ∧ f ≤ 4 ∧ e + ms (σ.rd (F.PFB_FEED_CFG1_OVL_DLY f)) ≤ σ.now ∧ σ.rdb (F.PFB_FEED_STAT_OVL f) = false) &&
    true
    | _ => false)) = true ∧
  (
    let s : State := run.setFeed 4 { peakFrom := some 0 }
    let t : Nat := 10 ^ 9
    let f : Nat := 4
    decide (s.asleep = false) &&
    let σ := s.at_ t
    (match (σ.feed f).peakFrom with
    | some e =>
    decide (1 ≤ f ∧ f ≤ 4 ∧ e + ms 1 ≤ σ.now ∧ σ.rdb (F.PFB_FEED_STAT_PEAK f) = false) &&
    true
    | _ => false)) = true ∧
  (
    let s : State := { run with fab.hist := List.replicate 40000 (1000000, 0) }
    let t : Nat := 10 ^ 9
    decide (s.asleep = false) &&
    let σ := s.at_ t
    decide (σ.fab.hist.length = 40000 ∧ 100 * σ.heatLim < meanOf 40000 (σ.fab.hist.map (fun p => p.1 + p.2)) ∧ σ.rdb F.PFB_HEAT_STAT_HOT = false) &&
    true) = true ∧
  (
    let s : State := run
    decide (s.asleep = false) &&
    true) = true ∧
  (
    let s : State := run.setFeed 4 { classSFrom := some 0 }
    let t : Nat := 10 ^ 12
    let f : Nat := 4
    decide (s.asleep = false) &&
    let σ := s.at_ t
    (match (σ.feed f).classSFrom with
    | some e =>
    decide (1 ≤ f ∧ f ≤ 4 ∧ e + sec 10 ≤ σ.now ∧ σ.nextVictim (some f) = none) &&
    true
    | _ => false)) = true ∧
  (
    let s : State := run
    let t : Nat := 10 ^ 9
    let f : Nat := 4
    decide (s.asleep = false) &&
    let σ := s.at_ t
    decide (1 ≤ f ∧ f ≤ 4 ∧ σ.rdb (F.PFB_FEED_STAT_OV f) = false) &&
    true) = true :=
  by and_intros <;> decide +kernel
/-- The clauses of `Obligations.GridAndSupplyEventsComplete` apply: gridSample, statusPageSwitch, energyLogRecord, feedReverse, highestFeedLow, holdUpExpiry, thermalSample. -/
theorem witness_GridAndSupplyEventsComplete :
  (
    let s : State := run
    let t : Nat := 10 ^ 9
    decide (s.asleep = false) &&
    decide (t % us 250 = 0) &&
    decide ((s.at_ t).now = t) &&
    true) = true ∧
  (
    let s : State := { run with fab.snap := [(0, 0)] }
    let t : Nat := 10 ^ 9
    decide (s.asleep = false) &&
    let σ := s.at_ t
    decide (σ.fab.snap.isEmpty = false) &&
    decide (σ.fab.snapAt + us 25 ≤ σ.now) &&
    decide (σ.rd F.PFB_TS_SEL_PAGE = 0) &&
    true) = true ∧
  (
    let s : State := { run.wr F.PFB_TS_SEL_PAGE 1 with fab.snap := [(0, 0)] }
    let t : Nat := 10 ^ 9
    decide (s.asleep = false) &&
    let σ := s.at_ t
    decide (σ.fab.snap.isEmpty = false) &&
    decide (σ.fab.snapAt + us 25 ≤ σ.now) &&
    decide (σ.rd F.PFB_TS_SEL_PAGE = 1) &&
    true) = true ∧
  (
    let s : State := { run with tb.replicas := run.tb.replicas.set 9 { aligned := true } }
    let t : Nat := 60 * 10 ^ 9
    decide (s.asleep = false) &&
    let σ := s.at_ t
    decide (σ.aligned 9 = true ∧ t = σ.now ∧ 0 < σ.rd F.PFB_GOV_CFG_ELOG_INT ∧ t % sec (σ.rd F.PFB_GOV_CFG_ELOG_INT) = 0 ∧ σ.fab.elogAt < t) &&
    true) = true ∧
  (
    let f : Nat := 4
    decide (1 ≤ f ∧ f ≤ 4) &&
    true) = true ∧
  (
    true) = true ∧
  (
    let s : State := { run with sup.holdEnd := some 7 }
    let t : Nat := 10 ^ 9
    let σ := s.at_ t
    (match σ.sup.holdEnd with
    | some u =>
    decide (u ≤ σ.now ∧ σ.logicOn = true) &&
    true
    | _ => false)) = true ∧
  (
    let s : State := run
    decide (s.asleep = false) &&
    true) = true :=
  by and_intros <;> decide +kernel
/-- The clauses of `Obligations.TaskEventsComplete` apply: taskRelease, inputImageCapture, taskComplete, retainedWriteComplete, outputCutoff, outputInstant. -/
theorem witness_TaskEventsComplete :
  (
    let s : State := { ((cyc 1 run).wr ⟨R.CYC_TASK_CFG 23, 17, 3⟩ 5) with cyc.tasks := run.cyc.tasks.set 23 { relAt := some (10 ^ 9) } }
    let t : Nat := 10 ^ 9
    let k : Nat := 23
    decide (s.asleep = false) &&
    let σ := s.at_ t
    let due := if isCyclic k then decide (σ.taskPhase k ≤ t + σ.taskSpan k) && (t + σ.taskSpan k - σ.taskPhase k) % σ.taskSpan k == 0
    else (σ.task k).relAt == some t
    decide (t % gridNs = 0 ∧ σ.taskUsed k = true ∧ due = true ∧ σ.cyc.tRun ≤ t ∧ σ.now = t ∧ σ.tstate k ≠ 5) &&
    decide ((σ.eng = 1 ∨ σ.eng = 2) ∧ σ.tstate k ≠ 5) &&
    true) = true ∧
  (
    let s : State := { cyc 1 run with cyc.tasks := run.cyc.tasks.set 23 { rel := some 0 } }
    let t : Nat := 10 ^ 9
    let k : Nat := 23
    decide (s.asleep = false) &&
    let σ := s.at_ t
    (match (σ.task k).rel with
    | some r =>
    decide (r + us 25 ≤ σ.now ∧ (σ.task k).imaged = false ∧ σ.eng = 1 ∧ k < 24) &&
    true
    | _ => false)) = true ∧
  (
    let s : State := ({ cyc 1 run with cyc.tasks := run.cyc.tasks.set 23 { rel := some 0 } }).setT 23 3
    let t : Nat := 10 ^ 9
    let k : Nat := 23
    decide (s.asleep = false) &&
    let σ := s.at_ t
    (match (σ.task k).rel with
    | some r =>
    (match σ.cyc.active with
    | some p =>
    decide (σ.tstate k = 3 ∧ σ.eng = 1) &&
    true
    | _ => false)
    | _ => false)) = true ∧
  (
    let s : State := { cyc 1 run with cyc.tasks := run.cyc.tasks.set 23 { rel := some 0, retBusy := true } }
    let t : Nat := 10 ^ 9
    let k : Nat := 23
    decide (s.asleep = false) &&
    let σ := s.at_ t
    decide ((σ.task k).retBusy) &&
    true) = true ∧
  (
    let s : State := cyc 1 run
    let t : Nat := 10 ^ 9
    let k : Nat := 23
    decide (s.asleep = false) &&
    let σ := (s.at_ t).cutOuts k
    let x := σ.task k
    decide (x.rel = none) &&
    true) = true ∧
  (
    let s : State := { cyc 1 run with cyc.tasks := run.cyc.tasks.set 23 { rel := some 0, overrun := true } }
    let t : Nat := 10 ^ 9
    let k : Nat := 23
    decide (s.asleep = false) &&
    let σ := (s.at_ t).cutOuts k
    let x := σ.task k
    (match x.rel with
    | some r =>
    true
    | _ => false)) = true ∧
  (
    let s : State := ({ cyc 1 run with cyc.tasks := run.cyc.tasks.set 23 { rel := some 0 } }).wr ⟨R.CYC_TASK_CFG 23, 17, 3⟩ 5
    let t : Nat := 10 ^ 9
    let k : Nat := 23
    decide (s.asleep = false) &&
    let σ := (s.at_ t).cutOuts k
    let x := σ.task k
    (match x.rel with
    | some r =>
    true
    | _ => false)) = true ∧
  (
    let s : State := run
    decide (s.asleep = false) &&
    true) = true :=
  by and_intros <;> decide +kernel
/-- The clauses of `Obligations.CycleEngineEventsComplete` apply: laneException, runAdmission, onlineChangeIdlePoint, onlineChangeNoIdle, swapInstant. -/
theorem witness_CycleEngineEventsComplete :
  (
    let s : State := cyc 1 run
    let t : Nat := 10 ^ 9
    let k : Nat := 0
    let cause : Nat := 4
    decide (s.asleep = false) &&
    let σ := s.at_ t
    decide (¬ (σ.eng = 0)) &&
    decide (cause = 4 ∨ ((cause = 2 ∨ cause = 3) ∧ σ.taskUsed k = true ∧ σ.tstate k ≠ 5)) &&
    true) = true ∧
  (
    let s : State := (cyc 1 run).wr ⟨R.CYC_TASK_CFG 23, 17, 3⟩ 5
    let t : Nat := 10 ^ 9
    let k : Nat := 23
    let cause : Nat := 2
    decide (s.asleep = false) &&
    let σ := s.at_ t
    decide (¬ (σ.eng = 0)) &&
    decide (cause = 4 ∨ ((cause = 2 ∨ cause = 3) ∧ σ.taskUsed k = true ∧ σ.tstate k ≠ 5)) &&
    true) = true ∧
  (
    let s : State := { cyc 0 run with cyc.start := some ⟨0, true, none, none⟩ }
    let t : Nat := 10 ^ 9
    decide (s.asleep = false) &&
    let σ := s.at_ t
    (match σ.startLive with
    | some r =>
    decide (r.runAt = none) &&
    true
    | _ => false)) = true ∧
  (
    let s : State := { cyc 0 run with cyc.start := some ⟨0, true, none, some 7⟩ }
    let t : Nat := 10 ^ 9
    decide (s.asleep = false) &&
    let σ := s.at_ t
    (match σ.startLive with
    | some r =>
    (match r.runAt with
    | some a =>
    decide (a ≤ σ.now) &&
    true
    | _ => false)
    | _ => false)) = true ∧
  (
    let s : State := { cyc 1 run with cyc.commitAt := some (10 ^ 9) }
    let t : Nat := 10 ^ 9
    decide (s.asleep = false) &&
    let σ := s.at_ t
    (match σ.cyc.commitAt with
    | some a =>
    decide (a ≤ t ∧ t % gridNs = 0 ∧ t ≤ a + ms 100 ∧ σ.idle = true) &&
    true
    | _ => false)) = true ∧
  (
    let s : State := { cyc 1 run with cyc.commitAt := some 7 }
    let t : Nat := 10 ^ 9
    decide (s.asleep = false) &&
    let σ := s.at_ t
    (match σ.cyc.commitAt with
    | some a =>
    decide (a + ms 100 ≤ σ.now) &&
    true
    | _ => false)) = true ∧
  (
    let s : State := { cyc 1 run with cyc.swapAt := some 7 }
    let t : Nat := 10 ^ 9
    decide (s.asleep = false) &&
    let σ := s.at_ t
    (match σ.cyc.swapAt with
    | some e =>
    decide (e ≤ σ.now ∧ σ.eng = 1) &&
    true
    | _ => false)) = true :=
  by and_intros <;> decide +kernel
/-- The clauses of `Obligations.SwitchFrameEventsComplete` apply: frameReceive, frameTruncationTimeout, matchingRound, transmitOpportunity, frameTransmitComplete. -/
theorem witness_SwitchFrameEventsComplete :
  (
    let s : State := up 23 run
    let t : Nat := 10 ^ 9
    let fr : RxFrame := rxF 23
    decide (s.asleep = false) &&
    let σ := s.swAt t
    decide (isExt fr.port && σ.linkUp fr.port) &&
    true) = true ∧
  (
    let s : State := run.setSwPort 23 { rx := some { sfd := 0, max := 1522 } }
    let t : Nat := 10 ^ 9
    let p : Nat := 23
    decide (s.asleep = false) &&
    let σ := s.swAt t
    (match (σ.swPort p).rx with
    | some r =>
    decide (!r.dead && decide (r.sfd + σ.tTrunc p r.max ≤ σ.now)) &&
    true
    | _ => false)) = true ∧
  (
    let s : State := run
    decide (s.asleep = false) &&
    true) = true ∧
  (
    let s : State := up 27 run
    let t : Nat := 10 ^ 9
    let p : Nat := 27
    decide (s.asleep = false) &&
    let σ := s.swAt t
    decide (σ.portOn p && σ.linkUp p && decide (p < 28)) &&
    true) = true ∧
  (
    let s : State := run.setSwPort 27 { tx := some { fid := 0, cls := 0 } }
    let t : Nat := 10 ^ 9
    let p : Nat := 27
    decide (s.asleep = false) &&
    let σ := s.swAt t
    (match (σ.swPort p).tx with
    | some x =>
    let whole := match σ.frame x.fid with | some f => f.fin | none => true
    decide (whole && decide (x.start + σ.wireNs p (8 + σ.txLen x - x.sent) ≤ σ.now)) &&
    true
    | _ => false)) = true :=
  by and_intros <;> decide +kernel
/-- The clauses of `Obligations.SwitchLinkEventsComplete` apply: linkDown, linkUp, flapHoldExpiry, dynamicEntryAgeing, redIdleUpdate, bufferAuditSnapshot, reclaimSweepComplete. -/
theorem witness_SwitchLinkEventsComplete :
  (
    let s : State := up 23 run
    let t : Nat := 10 ^ 9
    let p : Nat := 23
    decide (s.asleep = false) &&
    let σ := s.swAt t
    decide (isExt p && σ.rdb (F.SWC_PORT_STAT_LINK p)) &&
    true) = true ∧
  (
    let s : State := run.wrb (F.SWC_PORT_CFG0_ENABLE 23) true
    let t : Nat := 10 ^ 9
    let p : Nat := 23
    decide (s.asleep = false) &&
    let σ := s.swAt t
    decide (isExt p && σ.portOn p && !σ.rdb (F.SWC_PORT_STAT_LINK p)) &&
    true) = true ∧
  (
    let s : State := run.setSwPort 23 { holdEnd := some 7 }
    let t : Nat := 10 ^ 9
    let p : Nat := 23
    decide (s.asleep = false) &&
    let σ := s.swAt t
    (match (σ.swPort p).holdEnd with
    | some e =>
    decide (e ≤ σ.now) &&
    true
    | _ => false)) = true ∧
  (
    let s : State := run.setFdb 16383 { mac := 1, vid := 1, mask := 1, static := false, valid := true, seen := 0 }
    let t : Nat := 10 ^ 13
    let j : Nat := 16383
    decide (s.asleep = false) &&
    let σ := s.at_ t
    let e := σ.fdbE j
    decide (e.valid ∧ e.static = false ∧ e.seen + sec (σ.rd F.SWC_FDB_CFG_AGE_TIME) ≤ σ.now) &&
    true) = true ∧
  (
    let s : State := run
    let t : Nat := 10 ^ 9
    let q : Nat := 223
    decide (s.asleep = false) &&
    let σ := s.at_ t
    let x := σ.swQueue q
    decide (q < 224 ∧ x.occ = 0) &&
    true) = true ∧
  (
    let s : State := run
    let t : Nat := 10 ^ 9
    decide (s.asleep = false) &&
    let u := s.at_ t
    decide (u.aligned 6 = false) &&
    true) = true ∧
  (
    let s : State := al6 run
    let t : Nat := 10 ^ 9
    let total : Nat := 65536
    decide (s.asleep = false) &&
    let u := s.at_ t
    let σ := u.auditSnapshot total
    (u.aligned 6) &&
    decide (σ.swc.missRun ≠ 2) &&
    true) = true ∧
  (
    let s : State := { al6 run with swc.missRun := 1 }
    let t : Nat := 10 ^ 9
    let total : Nat := 0
    decide (s.asleep = false) &&
    let u := s.at_ t
    let σ := u.auditSnapshot total
    (u.aligned 6) &&
    decide (σ.swc.missRun = 2) &&
    true) = true ∧
  (
    let s : State := { run with cfg.mrun := [{ req := { act := aBUF_AUDIT }, start := 0 }] }
    let t : Nat := 10 ^ 9
    decide (s.asleep = false) &&
    let σ := s.at_ t
    decide (σ.running aBUF_AUDIT) &&
    true) = true :=
  by and_intros <;> decide +kernel
/-- The clauses of `Obligations.RingRowsComplete` apply: swcRingEnable, swcTxProdWrite, swcRxFillWrite, txDescriptorTake. -/
theorem witness_RingRowsComplete :
  (
    let s : State := mpc (run.wr (F.SWC_RING_CTL_HOLDER 63) 16)
    let t : Nat := 10 ^ 9
    let a : Acc := secA
    let r : Nat := 63
    let v : Nat := 1
    decide (r < 64) &&
    decide (v < 2 ^ 32) &&
    (s.Stores t a (R.SWC_RING_CTL r)) &&
    true) = true ∧
  (
    let s : State := mpc (run.wr (F.SWC_RING_CTL_HOLDER 63) 16)
    let t : Nat := 10 ^ 9
    let a : Acc := secA
    let r : Nat := 63
    let v : Nat := 1
    decide (r < 64) &&
    decide (v < 2 ^ 32) &&
    (s.Stores t a (R.SWC_RING_TX_PROD r)) &&
    true) = true ∧
  (
    let s : State := mpc (run.wr (F.SWC_RING_CTL_HOLDER 63) 16)
    let t : Nat := 10 ^ 9
    let a : Acc := secA
    let r : Nat := 63
    let v : Nat := 1
    decide (r < 64) &&
    decide (v < 2 ^ 32) &&
    (s.Stores t a (R.SWC_RING_RX_FILL r)) &&
    true) = true ∧
  (
    let s : State := (run.wrb (F.SWC_RING_CTL_ENABLE 63) true).wr (F.SWC_RING_TX_PROD_PROD 63) 1
    let t : Nat := 10 ^ 9
    let r : Nat := 63
    decide (s.asleep = false) &&
    let σ := s.swAt t
    let i := σ.swc.taken.get 0 r
    decide (r < 64 ∧ σ.rdb (F.SWC_RING_CTL_ENABLE r) = true ∧ i ≠ σ.rd (F.SWC_RING_TX_PROD_PROD r)) &&
    true) = true :=
  by and_intros <;> decide +kernel
/-- The clauses of `Obligations.TsnEventsComplete` apply: gptpMessageReceive, gptpMessageInterval, gateIntervalEnd, gclChangeInstant, preemptVerifyTimer, frerResetTimer, frerLatentPeriod, faFrameArrival. -/
theorem witness_TsnEventsComplete :
  (
    let s : State := up 15 (run.wrb (F.TSN_GPTP_ENABLE 1) true)
    let t : Nat := 10 ^ 9
    let inst : Nat := 1
    let p : Nat := 15
    decide (s.asleep = false) &&
    let σ := s.at_ t
    decide (σ.gptpAt inst p) &&
    true) = true ∧
  (
    let s : State := up 15 (run.wrb (F.TSN_GPTP_ENABLE 1) true)
    let t : Nat := 10 ^ 9
    let inst : Nat := 1
    let p : Nat := 15
    decide (s.asleep = false) &&
    let σ := s.at_ t
    decide (σ.gptpAt inst p) &&
    true) = true ∧
  (
    let s : State := run
    let k : Nat := 27
    decide (s.asleep = false) &&
    decide (k < 28 ∨ (32 ≤ k ∧ k < 288)) &&
    true) = true ∧
  (
    let s : State := run
    let k : Nat := 287
    decide (s.asleep = false) &&
    decide (k < 28 ∨ (32 ≤ k ∧ k < 288)) &&
    true) = true ∧
  (
    let s : State := run.setGates 287 { run.gates 287 with pend := some ({}, 7) }
    let t : Nat := 10 ^ 9
    let k : Nat := 287
    decide (s.asleep = false) &&
    let σ := s.at_ t
    (match (σ.gates k).pend with
    | some (l, tc) =>
    decide (tc ≤ σ.now) &&
    true
    | _ => false)) = true ∧
  (
    let s : State := run.wr (F.TSN_PRE_STAT_VERIFY_STATUS 15) 1
    let t : Nat := 10 ^ 9
    let p : Nat := 15
    decide (s.asleep = false) &&
    let σ := s.at_ t
    decide (p < 16 ∧ σ.rd (F.TSN_PRE_STAT_VERIFY_STATUS p) = 1) &&
    true) = true ∧
  (
    let s : State := { run with tsn.frer := run.tsn.frer.set 255 { any := false } }
    let t : Nat := 10 ^ 12
    let f : Nat := 255
    decide (s.asleep = false) &&
    let σ := s.at_ t
    let x := σ.tsn.frer.get {} f
    decide (f < 256 ∧ x.any = false ∧ x.lastAt + ms (σ.rd (F.TSN_FRER_B_RESET_MS f)) ≤ σ.now) &&
    true) = true ∧
  (
    let s : State := run.wrb (F.TSN_FRER_A_LATENT 255) true
    let t : Nat := 10 ^ 12
    let f : Nat := 255
    decide (s.asleep = false) &&
    let σ := s.at_ t
    let x := σ.tsn.frer.get {} f
    decide (f < 256 ∧ σ.rdb (F.TSN_FRER_A_LATENT f) = true ∧ x.latAt + ms (σ.rd (F.TSN_FRER_B_LATENT_PERIOD f)) ≤ σ.now) &&
    true) = true ∧
  (
    let s : State := { up 27 run with tsn.waiting := [⟨0, [], 0⟩] }
    let t : Nat := 10 ^ 9
    decide (s.asleep = false) &&
    let σ := s.swAt t
    (match σ.tsn.waiting with
    | f :: l =>
    let σ : State := { σ with tsn.waiting := l }
    let b := f.bytes
    let e := σ.faAuth b
    decide (σ.faDark = false) &&
    decide (e ≠ 0) &&
    true
    | _ => false)) = true :=
  by and_intros <;> decide +kernel
/-- The clauses of `Obligations.CanBusEventsComplete` apply: canFrameValid, canTxOpportunity, canTxFrameComplete, canTxLostOrError, canBusError, canRecoverDelayExpiry, canRecoveryComplete, domTimeout. -/
theorem witness_CanBusEventsComplete :
  (
    let c : Nat := 15
    decide (c < 16) &&
    true) = true ∧
  (
    let s : State := ((canOn 15 1 run).wr (F.CAN_OBJ_ID_EN 15 511) 1).wr (F.CAN_OBJ_ID_DIR 15 511) 1 |>.setTxst 15 511 txPENDING
    let t : Nat := 10 ^ 9
    let c : Nat := 15
    let idle : Bool := true
    decide (s.asleep = false) &&
    decide (c < 16) &&
    let u := s.at_ t
    let σ := match (u.can_ c).modeWant with
    | some m => if idle && (u.can_ c).active.isNone then u.canMode c m else u
    | none => u
    let m := σ.rd (F.CAN_CTL_MODE c)
    (σ.canLive c) &&
    decide ((σ.can_ c).active = none) &&
    decide (m = 1 ∨ m = 4) &&
    (match σ.txChoice c with
    | some k =>
    true
    | _ => false)) = true ∧
  (
    let s : State := (canOn 15 1 run).modCan 15 (fun x => { x with modeWant := some 2 })
    let t : Nat := 10 ^ 9
    let c : Nat := 15
    let idle : Bool := true
    decide (s.asleep = false) &&
    decide (c < 16) &&
    let u := s.at_ t
    let σ := match (u.can_ c).modeWant with
    | some m => if idle && (u.can_ c).active.isNone then u.canMode c m else u
    | none => u
    let m := σ.rd (F.CAN_CTL_MODE c)
    (match (u.can_ c).modeWant with
    | some w =>
    (idle) &&
    decide ((u.can_ c).active = none) &&
    decide (¬ (σ.canLive c = true ∧ (σ.can_ c).active = none ∧ (m = 1 ∨ m = 4) ∧ (σ.txChoice c).isSome = true)) &&
    true
    | _ => false)) = true ∧
  (
    let s : State := (canOn 15 1 run).modCan 15 (fun x => { x with active := some (511, []) })
    let t : Nat := 10 ^ 9
    let c : Nat := 15
    decide (s.asleep = false) &&
    let σ := s.at_ t
    (match (σ.can_ c).active with
    | some (k, b) =>
    true
    | _ => false)) = true ∧
  (
    let s : State := (canOn 15 1 run).modCan 15 (fun x => { x with active := some (511, []) })
    let t : Nat := 10 ^ 9
    let c : Nat := 15
    decide (s.asleep = false) &&
    let σ := s.at_ t
    (match (σ.can_ c).active with
    | some (k, v1) =>
    true
    | _ => false)) = true ∧
  (
    let c : Nat := 15
    decide (c < 16) &&
    true) = true ∧
  (
    let s : State := ((canOn 15 1 run).wr (F.CAN_STAT_STATE 15) 3).modCan 15 (fun x => { x with recoverAt := some 7 })
    let t : Nat := 10 ^ 9
    let c : Nat := 15
    decide (s.asleep = false) &&
    let σ := s.at_ t
    (match (σ.can_ c).recoverAt with
    | some u =>
    decide (σ.rd (F.CAN_STAT_STATE c) = 3 ∧ u ≤ σ.now) &&
    true
    | _ => false)) = true ∧
  (
    let s : State := (canOn 15 1 run).wr (F.CAN_STAT_STATE 15) 4
    let t : Nat := 10 ^ 9
    let c : Nat := 15
    decide (s.asleep = false) &&
    let σ := s.at_ t
    decide (σ.rd (F.CAN_STAT_STATE c) = 4) &&
    true) = true ∧
  (
    let s : State := canOn 15 1 run
    let t : Nat := 10 ^ 9
    let c : Nat := 15
    decide (s.asleep = false) &&
    let σ := s.at_ t
    decide (c < 16 ∧ σ.rd (F.CAN_STAT_STATE c) ≠ 0) &&
    true) = true :=
  by and_intros <;> decide +kernel
/-- The clauses of `Obligations.CanRegisterRowsComplete` apply: canObjEnWrite, canEvqOff, canEvqOn, canLostClr, canHoldRel, canHoldSet, canAbort, canTxreq, canRxevtPop, canTxevtPop. -/
theorem witness_CanRegisterRowsComplete :
  (
    let s : State := mpc (canOn 15 1 run)
    let t : Nat := 10 ^ 9
    let a : Acc := secA
    let c : Nat := 15
    let k : Nat := 511
    decide (c < 16) &&
    decide (k < 512) &&
    (s.Stores t a (R.CAN_OBJ_ID c k)) &&
    (s.blockWrites a kCan c) &&
    true) = true ∧
  (
    let s : State := mpc (canOn 15 1 run)
    let t : Nat := 10 ^ 9
    let a : Acc := secA
    let c : Nat := 15
    let k : Nat := 511
    decide (c < 16) &&
    decide (k < 512) &&
    (s.Stores t a (R.CAN_OBJ_CTL c k)) &&
    (s.blockWrites a kCan c) &&
    true) = true ∧
  (
    let s : State := mpc (canOn 15 1 run)
    let t : Nat := 10 ^ 9
    let a : Acc := secA
    let c : Nat := 15
    let k : Nat := 511
    decide (c < 16) &&
    decide (k < 512) &&
    (s.Stores t a (R.CAN_OBJ_CTL c k)) &&
    (s.blockWrites a kCan c) &&
    true) = true ∧
  (
    let s : State := mpc (canOn 15 1 run)
    let t : Nat := 10 ^ 9
    let a : Acc := secA
    let c : Nat := 15
    let k : Nat := 511
    decide (c < 16) &&
    decide (k < 512) &&
    (s.Stores t a (R.CAN_OBJ_CTL c k)) &&
    (s.blockWrites a kCan c) &&
    true) = true ∧
  (
    let s : State := mpc (canOn 15 1 run)
    let t : Nat := 10 ^ 9
    let a : Acc := secA
    let c : Nat := 15
    let k : Nat := 511
    decide (c < 16) &&
    decide (k < 512) &&
    (s.Stores t a (R.CAN_OBJ_CTL c k)) &&
    (s.blockWrites a kCan c) &&
    true) = true ∧
  (
    let s : State := mpc (canOn 15 1 run)
    let t : Nat := 10 ^ 9
    let a : Acc := secA
    let c : Nat := 15
    let k : Nat := 511
    decide (c < 16) &&
    decide (k < 512) &&
    (s.Stores t a (R.CAN_OBJ_CTL c k)) &&
    (s.blockWrites a kCan c) &&
    true) = true ∧
  (
    let s : State := mpc (canOn 15 1 run)
    let t : Nat := 10 ^ 9
    let a : Acc := secA
    let c : Nat := 15
    let k : Nat := 511
    decide (c < 16) &&
    decide (k < 512) &&
    (s.Stores t a (R.CAN_OBJ_CTL c k)) &&
    (s.blockWrites a kCan c) &&
    true) = true ∧
  (
    let s : State := mpc (canOn 15 1 run)
    let t : Nat := 10 ^ 9
    let a : Acc := secA
    let c : Nat := 15
    let k : Nat := 511
    decide (c < 16) &&
    decide (k < 512) &&
    (s.Stores t a (R.CAN_OBJ_CTL c k)) &&
    (s.blockWrites a kCan c) &&
    true) = true ∧
  (
    let s : State := mpc (canOn 15 1 run)
    let t : Nat := 10 ^ 9
    let a : Acc := secA
    let c : Nat := 15
    decide (c < 16) &&
    (s.Loads t a (R.CAN_RXEVT_POP c)) &&
    (s.blockReads a kCan c) &&
    true) = true ∧
  (
    let s : State := mpc (canOn 15 1 run)
    let t : Nat := 10 ^ 9
    let a : Acc := secA
    let c : Nat := 15
    decide (c < 16) &&
    (s.Loads t a (R.CAN_TXEVT_POP c)) &&
    (s.blockReads a kCan c) &&
    true) = true :=
  by and_intros <;> decide +kernel
/-- The clauses of `Obligations.LinCommandsComplete` apply: linSlotStart, linResponseEnd, linFrameMaxExpiry, linHoldSet, linHoldRel, linLostClr, linData1Write. -/
theorem witness_LinCommandsComplete :
  (
    let s : State := { run with tb.replicas := run.tb.replicas.set 7 { aligned := true } }
    let t : Nat := 10 ^ 9
    let c : Nat := 7
    decide (s.asleep = false) &&
    let σ := s.at_ t
    decide (¬ (8 ≤ c ∨ σ.aligned 7 = false ∨ (σ.lin_ c).asleep = true)) &&
    let σ := if (σ.lin_ c).nextAt + ms 1 < σ.now then σ.linForward c else σ
    let x := σ.lin_ c
    decide (x.nextAt ≤ σ.now) &&
    true) = true ∧
  (
    let s : State := (own kLin 7 16 run).modLin 7 (fun x => { x with frame := some ⟨0, false, false, 10 ^ 9, []⟩ })
    let t : Nat := 10 ^ 9
    let c : Nat := 7
    decide (s.asleep = false) &&
    let σ := s.at_ t
    (match (σ.lin_ c).frame with
    | some f =>
    decide (¬ (f.limit < σ.now)) &&
    true
    | _ => false)) = true ∧
  (
    let s : State := (own kLin 7 16 run).modLin 7 (fun x => { x with frame := some ⟨0, false, false, 7, []⟩ })
    let t : Nat := 10 ^ 9
    let c : Nat := 7
    decide (s.asleep = false) &&
    let σ := s.at_ t
    (match (σ.lin_ c).frame with
    | some f =>
    decide (¬ (σ.now < f.limit ∨ f.pub = true)) &&
    true
    | _ => false)) = true ∧
  (
    let s : State := mpc (own kLin 7 16 run)
    let t : Nat := 10 ^ 9
    let a : Acc := secA
    let c : Nat := 7
    let j : Nat := 63
    decide (c < 8) &&
    decide (j < 64) &&
    (s.Stores t a (R.LIN_BUF_CFG c j)) &&
    (s.blockWrites a kLin c) &&
    true) = true ∧
  (
    let s : State := mpc (own kLin 7 16 run)
    let t : Nat := 10 ^ 9
    let a : Acc := secA
    let c : Nat := 7
    let j : Nat := 63
    decide (c < 8) &&
    decide (j < 64) &&
    (s.Stores t a (R.LIN_BUF_CFG c j)) &&
    (s.blockWrites a kLin c) &&
    true) = true ∧
  (
    let s : State := mpc (own kLin 7 16 run)
    let t : Nat := 10 ^ 9
    let a : Acc := secA
    let c : Nat := 7
    let j : Nat := 63
    decide (c < 8) &&
    decide (j < 64) &&
    (s.Stores t a (R.LIN_BUF_CFG c j)) &&
    (s.blockWrites a kLin c) &&
    true) = true ∧
  (
    let s : State := mpc (own kLin 7 16 run)
    let t : Nat := 10 ^ 9
    let a : Acc := secA
    let c : Nat := 7
    let j : Nat := 63
    decide (c < 8) &&
    decide (j < 64) &&
    (s.Stores t a (R.LIN_BUF_DATA1 c j)) &&
    (s.blockWrites a kLin c) &&
    true) = true :=
  by and_intros <;> decide +kernel
/-- The clauses of `Obligations.GatewayEventsComplete` apply: gatewaySendDue, gatewayMaxGapExpiry, gatewayTimeout, containerSendTimeout, containerReceive. -/
theorem witness_GatewayEventsComplete :
  (
    let s : State := { (run.wrb (F.GWY_ROUTE_ENABLE 4095) true) with gwy.running := true, gwy.routes := run.gwy.routes.set 4095 { defined := true, pend := true } }
    let t : Nat := 10 ^ 9
    let r : Nat := 4095
    decide (s.asleep = false) &&
    let σ := s.at_ t
    decide (σ.routeActs r && (σ.route r).pend && decide ((σ.route r).due ≤ σ.ioClock)) &&
    true) = true ∧
  (
    let s : State := { (run.wrb (F.GWY_ROUTE_ENABLE 4095) true) with gwy.running := true, gwy.routes := run.gwy.routes.set 4095 { defined := true, maxGap := 1 } }
    let t : Nat := 10 ^ 9
    let r : Nat := 4095
    decide (s.asleep = false) &&
    let σ := s.at_ t
    let x := σ.route r
    decide (σ.routeActs r && !x.pend && !x.stopped && x.maxGap != 0 && decide ((if x.sendAt.isSome then x.sendClk else σ.gwy.loadAt) + ms x.maxGap ≤ σ.ioClock)) &&
    true) = true ∧
  (
    let s : State := { (run.wrb (F.GWY_ROUTE_ENABLE 4095) true) with gwy.running := true, gwy.routes := run.gwy.routes.set 4095 { defined := true, timeout := 1 } }
    let t : Nat := 10 ^ 9
    let r : Nat := 4095
    decide (s.asleep = false) &&
    let σ := s.at_ t
    let x := σ.route r
    decide (σ.routeActs r && x.timeout != 0 && !x.timedOut && decide (max x.updClk σ.gwy.loadAt + ms x.timeout ≤ σ.ioClock)) &&
    true) = true ∧
  (
    let s : State := { run with gwy.running := true }
    let t : Nat := 10 ^ 9
    let k : Nat := 63
    decide (s.asleep = false) &&
    let σ := s.at_ t
    let x := σ.gwy.conts.get {} k
    decide (σ.gwy.running && σ.dev != .coppice && decide (x.firstAt + x.tmo ≤ σ.ioClock)) &&
    true) = true ∧
  (
    let s : State := { run with gwy.running := true, gwy.waiting := [[0x10, 1, 0, 0, 0, 0, 0, 0, 0, 5, 1, 0, 9]] }
    let t : Nat := 10 ^ 9
    decide (s.asleep = false) &&
    let σ := s.at_ t
    (match σ.gwy.waiting with
    | b :: l =>
    (σ.gwy.running) &&
    decide (σ.dev ≠ .coppice) &&
    decide (beAt b 0 1 = 0x10) &&
    decide (beAt b 1 1 ≠ 0) &&
    (match contEntries b (beAt b 1 1) 8 with
    | some es =>
    true
    | _ => false)
    | _ => false)) = true :=
  by and_intros <;> decide +kernel
/-- The clauses of `Obligations.PartitionRowsComplete` apply: mpcCorePartWrite, mpcPevtClear, partResetDrainComplete, partScrubComplete, safetyPartitionReload, hostResetReload, regulationPeriod. -/
theorem witness_PartitionRowsComplete :
  (
    let s : State := mpc (((run.wr (F.MPC_PART_CFG_HOSTING 15) 1).wr (F.MPC_PART_CFG_AFFINITY 15) 32).wrb (F.MPC_PART_CFG_HOST 15) true)
    let t : Nat := 10 ^ 9
    let a : Acc := { vpA 5 15 with hyp := true }
    let c : Nat := 5
    let v : Nat := 2 ^ 31 + 15
    (s.Stores t a (R.MPC_CORE_PART c)) &&
    let σ := s.posted t a (R.MPC_CORE_PART c)
    let p := v % 32
    decide (c < 6) &&
    (a.hyp) &&
    decide (a.sec = false) &&
    decide (a.dev = false) &&
    decide (a.master = c) &&
    decide (bitOf v 31 = false ∨ (p < 16 ∧ σ.hosting p = 1 ∧ bitOf (σ.rd (F.MPC_PART_CFG_AFFINITY p)) c = true)) &&
    true) = true ∧
  (
    let s : State := ((mpc run |>.wr (F.MPC_CORE_PART_PART 5) 15).wrb (F.MPC_CORE_PART_VALID 5) true).wrb (F.MPC_PART_CFG_HOST 15) true
    let t : Nat := 10 ^ 9
    let a : Acc := { vpA 5 15 with hyp := true }
    (s.Stores t a R.MPC_PEVT) &&
    (a.hyp) &&
    decide (a.sec = false) &&
    decide (a.dev = false) &&
    true) = true ∧
  (
    let s : State := (((run.wr (F.MPC_PART_CFG_HOSTING 15) 1).wrb (F.MPC_PART_CFG_HOST 15) true).wr (F.MPC_PART_STAT_STATE 15) 3)
    let t : Nat := 10 ^ 9
    let v : Nat := 15
    decide (s.asleep = false) &&
    let σ := s.at_ t
    decide (v < 16 ∧ σ.pst v = psRESETTING ∧ σ.rdb (F.MPC_PART_STAT_SCRUBBING v) = false) &&
    true) = true ∧
  (
    let s : State := (((run.wr (F.MPC_PART_CFG_HOSTING 15) 1).wrb (F.MPC_PART_CFG_HOST 15) true).wr (F.MPC_PART_STAT_STATE 15) 3).wrb (F.MPC_PART_STAT_SCRUBBING 15) true
    let t : Nat := 10 ^ 9
    let v : Nat := 15
    decide (s.asleep = false) &&
    let σ := s.at_ t
    decide (v < 16 ∧ σ.pst v = psRESETTING ∧ σ.rdb (F.MPC_PART_STAT_SCRUBBING v) = true) &&
    true) = true ∧
  (
    let s : State := (run.wr (F.MPC_PART_CFG_HOSTING 15) 2).wr (F.MPC_PART_STAT_STATE 15) 4
    let t : Nat := 10 ^ 9
    let v : Nat := 15
    decide (s.asleep = false) &&
    let σ := s.at_ t
    (match (if v < 16 then σ.hostCore v else none) with
    | some k =>
    decide (σ.pst v = psHALTED ∧ σ.dev ≠ .fault) &&
    true
    | _ => false)) = true ∧
  (
    let s : State := (((run.wr (F.MPC_PART_CFG_HOSTING 15) 1).wrb (F.MPC_PART_CFG_HOST 15) true).wr (F.MPC_PART_STAT_STATE 15) 4)
    let t : Nat := 10 ^ 9
    decide (s.asleep = false) &&
    let σ := s.at_ t
    (match σ.hostPart with
    | some v =>
    decide (σ.pst v = psHALTED ∧ σ.hosting v = 1 ∧ σ.dev ≠ .fault) &&
    true
    | _ => false)) = true ∧
  (
    let s : State := run.wr F.MPC_REG_CFG_PERIOD 100
    let t : Nat := 10 ^ 9
    decide (s.asleep = false) &&
    let σ := s.at_ t
    let p := us (σ.rd F.MPC_REG_CFG_PERIOD)
    let at_ := if p = 0 then 0 else σ.now / p * p
    decide (σ.prt.period < at_) &&
    true) = true :=
  by and_intros <;> decide +kernel
/-- The clauses of `Obligations.PairRowsComplete` apply: lockstepMismatch, lockstepSignatureCheck, mismatchSelftestResult, checkpointRestartComplete, debugHaltRequest, debugResume, fltLsCkptWrite. -/
theorem witness_PairRowsComplete :
  (
    let s : State := (((run.wr (F.MPC_PART_STAT_STATE 6) 1).wr (F.MPC_PART_CFG_HOSTING 6) 2).wr (F.MPC_PART_CFG_SCORE 6) 6).wr (F.FLT_LS_STAT_STATE 3) 1
    let t : Nat := 10 ^ 9
    let n : Nat := 3
    let kind : Nat := 4
    decide (s.asleep = false) &&
    let σ := s.at_ t
    decide (n < 4 ∧ σ.lst n = lsLOCKSTEP ∧ σ.pairUp n = true ∧ 1 ≤ kind ∧ kind ≤ 4) &&
    true) = true ∧
  (
    let s : State := (((run.wr (F.MPC_PART_STAT_STATE 6) 1).wr (F.MPC_PART_CFG_HOSTING 6) 2).wr (F.MPC_PART_CFG_SCORE 6) 6).wr (F.FLT_LS_STAT_STATE 3) 1
    let t : Nat := 10 ^ 9
    let n : Nat := 3
    let equal : Bool := false
    decide (s.asleep = false) &&
    let σ := s.at_ t
    decide (n < 4 ∧ σ.lst n = lsLOCKSTEP ∧ σ.pairUp n = true ∧ equal = false) &&
    true) = true ∧
  (
    let s : State := (((run.wr (F.MPC_PART_STAT_STATE 6) 1).wr (F.MPC_PART_CFG_HOSTING 6) 2).wr (F.MPC_PART_CFG_SCORE 6) 6).wr (F.FLT_LS_STAT_STATE 3) 2
    let t : Nat := 10 ^ 9
    let n : Nat := 3
    decide (s.asleep = false) &&
    let σ := s.at_ t
    decide (n < 4 ∧ σ.lst n = lsSELFTEST ∧ σ.pairUp n = true) &&
    true) = true ∧
  (
    let s : State := (((run.wr (F.MPC_PART_STAT_STATE 6) 1).wr (F.MPC_PART_CFG_HOSTING 6) 2).wr (F.MPC_PART_CFG_SCORE 6) 6).wr (F.FLT_LS_STAT_STATE 3) 3
    let t : Nat := 10 ^ 9
    let n : Nat := 3
    decide (s.asleep = false) &&
    let σ := s.at_ t
    decide (n < 4 ∧ σ.lst n = lsRESTARTING ∧ σ.pairUp n = true) &&
    true) = true ∧
  (
    let s : State := run
    let t : Nat := 10 ^ 9
    let n : Nat := 3
    decide (s.asleep = false) &&
    let σ := s.at_ t
    decide (¬ (4 ≤ n ∨ σ.lifecycle = 2)) &&
    true) = true ∧
  (
    let s : State := run.wr (F.FLT_LS_STAT_STATE 3) 6
    let t : Nat := 10 ^ 9
    let n : Nat := 3
    decide (s.asleep = false) &&
    let σ := s.at_ t
    decide (n < 4 ∧ σ.lst n = lsHALTED) &&
    true) = true ∧
  (
    let s : State := mpc ((((run.wr (F.MPC_PART_STAT_STATE 6) 1).wr (F.MPC_PART_CFG_HOSTING 6) 2).wr (F.MPC_PART_CFG_SCORE 6) 6).wr (F.FLT_LS_STAT_STATE 3) 1)
    let t : Nat := 10 ^ 9
    let a : Acc := vpA 14 6
    let n : Nat := 3
    let v : Nat := 1
    (s.Stores t a (R.FLT_LS_CKPT n)) &&
    let σ := s.posted t a (R.FLT_LS_CKPT n)
    decide (n < 4) &&
    decide (a.dev = false) &&
    decide (a.master / 2 = 4 + n) &&
    decide (σ.lst n = lsLOCKSTEP) &&
    (bitOf v 0) &&
    true) = true :=
  by and_intros <;> decide +kernel
/-- The clauses of `Obligations.WorldRowsComplete` apply: gate, gret, gateTimerExpiry, mpcCpcPstateWrite, coreWaitForInterrupt. -/
theorem witness_WorldRowsComplete :
  (
    let s : State := run
    let t : Nat := 10 ^ 9
    let a : Acc := secA
    decide (s.asleep = false) &&
    decide (a.dev = false) &&
    let σ : State := { s.at_ t with bus := .none }
    let c := a.master
    decide (c < 6) &&
    decide (σ.muteCore a = false) &&
    (a.sec) &&
    true) = true ∧
  (
    let s : State := run.wr F.MPC_GW_STAT_SEC_STATE 2
    let t : Nat := 10 ^ 9
    let a : Acc := vpA 5 15
    decide (s.asleep = false) &&
    decide (a.dev = false) &&
    let σ : State := { s.at_ t with bus := .none }
    let c := a.master
    decide (c < 6) &&
    decide (σ.muteCore a = false) &&
    decide (a.sec = false) &&
    decide (σ.secState = 2) &&
    true) = true ∧
  (
    let s : State := run
    let t : Nat := 10 ^ 9
    let a : Acc := vpA 5 15
    let target : Nat := 0
    decide (s.asleep = false) &&
    decide (a.dev = false) &&
    let σ : State := { s.at_ t with bus := .none }
    let c := a.master
    decide (c < 6) &&
    decide (σ.muteCore a = false) &&
    decide (a.sec = false) &&
    decide (σ.secState ≠ 2) &&
    decide (σ.inCall c = false) &&
    decide (σ.gateOk target = false) &&
    true) = true ∧
  (
    let s : State := mpc (((run.wrb (F.MPC_PART_CFG_HOST 15) true)).store 0x10000 (bytesLE 4 0xE5A71C03))
    let t : Nat := 10 ^ 9
    let a : Acc := vpA 5 15
    let target : Nat := 0x10000
    decide (s.asleep = false) &&
    decide (a.dev = false) &&
    let σ : State := { s.at_ t with bus := .none }
    let c := a.master
    decide (c < 6) &&
    decide (σ.muteCore a = false) &&
    decide (a.sec = false) &&
    decide (σ.secState ≠ 2) &&
    decide (σ.inCall c = false) &&
    (σ.gateOk target) &&
    true) = true ∧
  (
    let s : State := { run.wr F.MPC_GW_STAT_IN_GATE 32 with prt.calls := run.prt.calls.set 5 (some ⟨15, true, 7⟩) }
    let t : Nat := 10 ^ 9
    let a : Acc := ⟨5, true, 0, false, false⟩
    decide (s.asleep = false) &&
    (a.sec) &&
    decide (a.master < 6) &&
    let σ : State := { s.at_ t with bus := .none }
    decide (σ.muteCore a = false) &&
    (σ.inCall a.master) &&
    true) = true ∧
  (
    let s : State := run
    let t : Nat := 10 ^ 9
    let a : Acc := ⟨5, true, 0, false, false⟩
    decide (s.asleep = false) &&
    (a.sec) &&
    decide (a.master < 6) &&
    let σ : State := { s.at_ t with bus := .none }
    decide (σ.muteCore a = false) &&
    decide (σ.inCall a.master = false) &&
    true) = true ∧
  (
    let s : State := { run.wr F.MPC_GW_STAT_IN_GATE 32 with prt.calls := run.prt.calls.set 5 (some ⟨15, true, 7⟩) }
    let t : Nat := 10 ^ 9
    let c : Nat := 5
    decide (s.asleep = false) &&
    let σ := s.at_ t
    (match σ.prt.calls.get none c with
    | some k =>
    decide (¬ (σ.now < k.until_ ∨ 6 ≤ c)) &&
    true
    | _ => false)) = true ∧
  (
    let s : State := mpc run
    let t : Nat := 10 ^ 9
    let a : Acc := secA
    let k : Nat := 53
    (s.Stores t a (R.MPC_CPC k)) &&
    let σ := s.posted t a (R.MPC_CPC k)
    decide (k < 54) &&
    decide (σ.dev ≠ .coppice) &&
    decide (a.dev = false) &&
    decide (a.sec = true ∨ (σ.cpcSecure k = false ∧ σ.cpcOwner k = a.part)) &&
    true) = true ∧
  (
    let s : State := { run with prt.want := run.prt.want.set 5 3 }
    let t : Nat := 10 ^ 9
    let c : Nat := 5
    decide (s.asleep = false) &&
    let σ := s.at_ t
    let w := σ.prt.want.get 0 c
    decide (c < 6 ∧ w ≠ 0) &&
    true) = true :=
  by and_intros <;> decide +kernel
/-- The clauses of `Obligations.KeyTamperEventsComplete` apply: keyCommitEffect, keyOpComplete, remaskDue, tamperSensorEvent, tamperConditionEnd. -/
theorem witness_KeyTamperEventsComplete :
  (
    let s : State := run.setSlot 255 { commit := some (0xFFFF, 16, 1) }
    let t : Nat := 10 ^ 9
    let k : Nat := 255
    decide (s.asleep = false) &&
    let σ := s.at_ t
    (match (σ.slot k).commit with
    | some (n, w, g) =>
    decide (σ.opsOn k = []) &&
    true
    | _ => false)) = true ∧
  (
    let s : State := { mpc run with mbx.cmds := [{ op := 0x0B07, node := 0xFFFF, who := 16, taken := 0, phase := .running, limit := none, req := dq 16 [(0x10000, 32, 0), (0x10040, 16, 0), (0x10080, 16, 1)] }] }
    let t : Nat := 10 ^ 9
    let node : Nat := 0xFFFF
    let w : Nat := 16
    let tag : Nat := 1
    decide (s.asleep = false) &&
    let σ := s.at_ t
    (match ((σ.keyOps.filter (fun c => c.phase == .running)).take 4).find? (fun c => c.node == node && c.win == w && c.tag == tag) with
    | some c =>
    true
    | _ => false)) = true ∧
  (
    let s : State := run
    let t : Nat := 240 * 10 ^ 9
    decide (s.asleep = false) &&
    let σ := s.at_ t
    decide (σ.now % sec (60 * σ.rd F.HWN_CFG_REMASK_MIN) = 0) &&
    decide (σ.cfg.mq.any (fun r => r.act == aREMASK) = false) &&
    decide (σ.rd F.WAK_STAT_PHASE = 0) &&
    true) = true ∧
  (
    let s : State := run.wr F.WAK_STAT_PHASE 1
    let t : Nat := 240 * 10 ^ 9
    decide (s.asleep = false) &&
    let σ := s.at_ t
    decide (σ.now % sec (60 * σ.rd F.HWN_CFG_REMASK_MIN) = 0) &&
    decide (σ.cfg.mq.any (fun r => r.act == aREMASK) = false) &&
    decide (σ.rd F.WAK_STAT_PHASE ≠ 0) &&
    decide (σ.cfg.heldActs.any (fun p => p.1 == aREMASK) = false) &&
    true) = true ∧
  (
    let s : State := run
    let t : Nat := 10 ^ 9
    let j : Nat := 5
    let σ := s.at_ t
    decide (¬ (6 ≤ j ∨ (σ.dev = .sleep ∧ j ≠ 0 ∧ j ≠ 4) ∨ σ.dev = .off)) &&
    true) = true ∧
  (
    let j : Nat := 5
    decide (j < 6) &&
    true) = true :=
  by and_intros <;> decide +kernel
/-- The clauses of `Obligations.SleepEventsComplete` apply: readyDlyExpiry, prepMsExpiry, sleepPowerDownComplete, coppiceSleepCommit, tc10HandshakeComplete, wakeOutPulseEnd, lineInputChange. -/
theorem witness_SleepEventsComplete :
  (
    let s : State := { run.wr F.WAK_STAT_PHASE 1 with hdg.commitAt := some 7 }
    let t : Nat := 10 ^ 9
    decide (s.asleep = false) &&
    let σ := s.at_ t
    (match σ.hdg.commitAt with
    | some u =>
    decide (σ.phase = 1 ∨ (σ.chainNames = true ∧ σ.phase = 0)) &&
    decide (u ≤ σ.now) &&
    decide (σ.dev = .running) &&
    true
    | _ => false)) = true ∧
  (
    let s : State := ((run.wr F.WAK_STAT_PHASE 1).wr F.HDG_CFG_ROLE 1 |>.wrb F.HDG_CFG_CHAIN_SLEEP true).wrb F.HDG_STAT_DN_LINK true
    let t : Nat := 10 ^ 11
    decide (s.asleep = false) &&
    let σ := s.at_ t
    decide (σ.hdg.commitAt = none) &&
    decide (σ.phase = 1) &&
    decide (σ.readyEnd ≤ σ.now) &&
    decide (σ.chainNames = false) &&
    (σ.chainSleeps && σ.rd F.HDG_CFG_ROLE == 1 && σ.rdb F.HDG_STAT_DN_LINK) &&
    decide (σ.hdg.outDn.any (fun f => f.ty == 7) = false) &&
    true) = true ∧
  (
    let s : State := run.wr F.WAK_STAT_PHASE 1
    let t : Nat := 10 ^ 12
    decide (s.asleep = false) &&
    let σ := s.at_ t
    decide (σ.hdg.commitAt = none) &&
    decide (σ.phase = 1) &&
    decide (σ.readyEnd ≤ σ.now) &&
    decide (σ.chainNames = false) &&
    decide ((σ.chainSleeps && σ.rd F.HDG_CFG_ROLE == 1 && σ.rdb F.HDG_STAT_DN_LINK) = false) &&
    decide (gridAt σ.readyEnd ≤ σ.now) &&
    true) = true ∧
  (
    let s : State := run.wr F.WAK_STAT_PHASE 2
    let t : Nat := 10 ^ 9
    decide (s.asleep = false) &&
    let σ := s.at_ t
    decide (σ.phase = 2 ∧ σ.slp.prepped = false ∧ (σ.slp.tCommit + ms (σ.rd F.WAK_CFG0_PREP_MS) ≤ σ.now)) &&
    true) = true ∧
  (
    let s : State := { run.wr F.WAK_STAT_PHASE 2 with slp.prepped := true }
    let t : Nat := 10 ^ 9
    let σ := s.at_ t
    decide (σ.phase = 2 ∧ σ.slp.prepped = true ∧ σ.dev ≠ .sleep) &&
    true) = true ∧
  (
    let s : State := { run with dev := .coppice }
    let t : Nat := 10 ^ 12
    decide (s.asleep = false) &&
    let σ := s.at_ t
    decide (σ.dev = .coppice ∧ σ.phase ≠ 2 ∧ σ.wakeActive = false ∧ σ.slp.ign = false ∧ σ.slp.lineAt + sec 600 ≤ σ.now ∧ σ.slp.can0At + sec 60 ≤ σ.now) &&
    true) = true ∧
  (
    let s : State := { run with slp.tc10 := [15] }
    let t : Nat := 10 ^ 9
    let p : Nat := 15
    decide (s.asleep = false) &&
    let σ := s.at_ t
    decide (σ.slp.tc10.contains p) &&
    true) = true ∧
  (
    let s : State := { run with slp.woutEnd := some 7 }
    let t : Nat := 10 ^ 9
    let σ := s.at_ t
    (match σ.slp.woutEnd with
    | some u =>
    decide (u ≤ σ.now) &&
    true
    | _ => false)) = true ∧
  (
    true) = true :=
  by and_intros <;> decide +kernel
/-- The clauses of `Obligations.WakeEventsComplete` apply: wakeInEvent, ignSenseEvent, rtcAlarm, canWakePattern, canWakeFrame, canFecOverflow, linWakeDominant, ethTc10Wake, chainWakePulse. -/
theorem witness_WakeEventsComplete :
  (
    true) = true ∧
  (
    true) = true ∧
  (
    let s : State := { run with slp.alarms := run.slp.alarms.set 16 7 }
    let t : Nat := 10 ^ 9
    let v : Nat := 16
    let σ := s.at_ t
    let a := σ.slp.alarms.get 0 v
    decide (¬ (a = 0 ∨ σ.now < a)) &&
    true) = true ∧
  (
    let s : State := run
    let t : Nat := 10 ^ 9
    let c : Nat := 15
    let σ := s.at_ t
    decide (c < 16 ∧ σ.decodes c = false) &&
    true) = true ∧
  (
    let s : State := { run with slp.decoding := [15], slp.fec := run.slp.fec.set 15 31 }
    let t : Nat := 10 ^ 9
    let c : Nat := 15
    let σ := s.at_ t
    decide (c < 16 ∧ σ.decodes c = true) &&
    true) = true ∧
  (
    let s : State := { run with slp.decoding := [15], slp.fec := run.slp.fec.set 15 31 }
    let t : Nat := 10 ^ 9
    let c : Nat := 15
    let σ := s.at_ t
    decide (c < 16 ∧ σ.decodes c = true ∧ σ.slp.fec.get 0 c = 31) &&
    true) = true ∧
  (
    let c : Nat := 7
    decide (¬ (8 ≤ c)) &&
    true) = true ∧
  (
    let p : Nat := 15
    decide (¬ (16 ≤ p)) &&
    true) = true ∧
  (
    let s : State := { run with dev := .starting }
    let t : Nat := 10 ^ 9
    let σ := s.at_ t
    decide ((σ.latching && bitOf σ.slp.arm 28) || (σ.dev == .starting && σ.rdb F.WAK_ARM_ARM_CHAIN)) &&
    true) = true :=
  by and_intros <;> decide +kernel
/-- The clauses of `Obligations.ChainEventsComplete` apply: hopCycle, hopDownTimeout, hdgFrameTruncation, hdgInvalidFrame, enumRestartTimeout, delayMeasurementPeriod, syncLossTimeout, bypassOpen. -/
theorem witness_ChainEventsComplete :
  (
    let s : State := hdg 1 run
    let t : Nat := 10 ^ 9
    let up : Bool := false
    decide (s.asleep = false) &&
    let σ := s.at_ t
    decide (¬ (!σ.hdgOn || (up && σ.isRoot))) &&
    true) = true ∧
  (
    let s : State := hdg 2 run
    let t : Nat := 10 ^ 9
    let up : Bool := true
    decide (s.asleep = false) &&
    let σ := s.at_ t
    decide (¬ (!σ.hdgOn || (up && σ.isRoot))) &&
    true) = true ∧
  (
    let s : State := hop true (hdg 2 run)
    let t : Nat := 10 ^ 9
    let up : Bool := true
    decide (s.asleep = false) &&
    let σ := s.at_ t
    decide (σ.hopUp up && decide ((if up then σ.hdg.lastUp else σ.hdg.lastDn) + us 240 ≤ σ.now)) &&
    true) = true ∧
  (
    let s : State := hdg 2 run
    let t : Nat := 10 ^ 9
    decide (s.asleep = false) &&
    let σ := s.at_ t
    decide (σ.hdgOn) &&
    true) = true ∧
  (
    let s : State := hdg 2 run
    let t : Nat := 10 ^ 9
    decide (s.asleep = false) &&
    let σ := s.at_ t
    decide (σ.hdgOn) &&
    true) = true ∧
  (
    let s : State := { hdg 1 run with hdg.enumAt := some 7 }
    let t : Nat := 10 ^ 9
    decide (s.asleep = false) &&
    let σ := s.at_ t
    (match σ.hdg.enumAt with
    | some u =>
    decide (σ.isRoot && decide (u + ms 100 ≤ σ.now)) &&
    true
    | _ => false)) = true ∧
  (
    let s : State := hop true (hdg 2 run)
    let t : Nat := 10 ^ 9
    decide (s.asleep = false) &&
    let σ := s.at_ t
    decide (σ.hdgOn && σ.isMember && σ.hopUp true && decide (σ.hdg.delayAt + ms 64 ≤ σ.now)) &&
    true) = true ∧
  (
    let s : State := { run with hdg.lastSync := some 7 }
    let t : Nat := 10 ^ 10
    decide (s.asleep = false) &&
    let σ := s.at_ t
    (match σ.hdg.lastSync with
    | some u =>
    decide (u + sec 3 ≤ σ.now) &&
    true
    | _ => false)) = true ∧
  (
    let s : State := run.wr F.HDG_CFG_ROLE 1
    let t : Nat := 10 ^ 9
    decide (s.asleep = false) &&
    let σ := s.at_ t
    decide (¬ (σ.hdg.bypassOpen ∨ σ.dev = .off ∨ σ.dev = .sleep ∨ (σ.isRoot = false ∧ σ.isMember = false))) &&
    true) = true ∧
  (
    let s : State := run.wr F.HDG_CFG_ROLE 2
    let t : Nat := 10 ^ 9
    decide (s.asleep = false) &&
    let σ := s.at_ t
    decide (¬ (σ.hdg.bypassOpen ∨ σ.dev = .off ∨ σ.dev = .sleep ∨ (σ.isRoot = false ∧ σ.isMember = false))) &&
    true) = true :=
  by and_intros <;> decide +kernel
/-- The clauses of `Obligations.ChainFramesComplete` apply: hdgIdleFrame, hdgEnumFrame, hdgEnumAckFrame, hdgTopoFrame, hdgSyncFrame, hdgDelayReqFrame, hdgDelayRspFrame, hdgCommitFrame, hdgFwdReqFrame, hdgFwdRspFrame, hdgChangeFrame. -/
theorem witness_ChainFramesComplete :
  (
    let s : State := hdg 2 run
    decide (s.asleep = false) &&
    true) = true ∧
  (
    let s : State := hdg 2 run
    decide (s.asleep = false) &&
    true) = true ∧
  (
    let s : State := hdg 2 run
    decide (s.asleep = false) &&
    true) = true ∧
  (
    let s : State := hdg 2 run
    decide (s.asleep = false) &&
    true) = true ∧
  (
    let s : State := hdg 2 run
    decide (s.asleep = false) &&
    true) = true ∧
  (
    let s : State := hdg 2 run
    decide (s.asleep = false) &&
    true) = true ∧
  (
    let s : State := hdg 2 run
    decide (s.asleep = false) &&
    true) = true ∧
  (
    let s : State := hdg 2 run
    decide (s.asleep = false) &&
    true) = true ∧
  (
    let s : State := hdg 2 run
    decide (s.asleep = false) &&
    true) = true ∧
  (
    let s : State := hdg 2 run
    decide (s.asleep = false) &&
    true) = true ∧
  (
    let s : State := hdg 2 run
    decide (s.asleep = false) &&
    true) = true :=
  by and_intros <;> decide +kernel
/-- The clauses of `Obligations.FaultEventsComplete` apply: faultReport, unrecordedTimeout, railDisagreement, fltNoteAck, handlingTimerExpiry, quietTimerExpiry, fatalConditionClear. -/
theorem witness_FaultEventsComplete :
  (
    let s : State := run
    let code : Nat := 0x0103
    let cls : Nat := 1
    decide (s.asleep = false) &&
    (match codeTable.find? (fun r => r.1 == code) with
    | some (v1, cs, k) =>
    let c := classOfCode cls
    decide (¬ (!cs.contains c)) &&
    true
    | _ => false)) = true ∧
  (
    let s : State := run
    let t : Nat := 10 ^ 9
    let island : Nat := 41
    let cls : Nat := 2
    decide (s.asleep = false) &&
    let σ := s.at_ t
    decide (¬ (41 < island ∨ 2 < cls ∨ σ.railMasked island = true)) &&
    true) = true ∧
  (
    let s : State := run
    let t : Nat := 10 ^ 9
    let island : Nat := 41
    decide (s.asleep = false) &&
    let σ := s.at_ t
    decide (¬ (41 < island ∨ σ.railMasked island = true)) &&
    true) = true ∧
  (
    let s : State := { mpc run with flt.queue := run.flt.queue.set 0x10 [⟨4095, 0x0103, true, 0, 0, none, false⟩] }
    let t : Nat := 10 ^ 9
    let a : Acc := secA
    let v : Nat := 4095
    let h : Nat := 0x10
    (s.Stores t a R.FLT_NOTE_ACK) &&
    let σ := s.posted t a R.FLT_NOTE_ACK
    decide (σ.handlerOfAcc a = some h) &&
    ((σ.flt.queue.get [] h).any (fun n => n.index == v % 4096)) &&
    true) = true ∧
  (
    let s : State := { run with flt.queue := run.flt.queue.set 0x10 [⟨4095, 0x0103, true, 0, 0, some 7, false⟩] }
    let t : Nat := 10 ^ 9
    let h : Nat := 0x10
    let index : Nat := 4095
    decide (s.asleep = false) &&
    let σ := s.at_ t
    (match (σ.flt.queue.get [] h).find? (fun n => n.index == index) with
    | some n =>
    (match n.timer with
    | some e =>
    decide (¬ (σ.now < e)) &&
    true
    | _ => false)
    | _ => false)) = true ∧
  (
    let s : State := { run with dev := .fault, flt.quietEnd := some 7 }
    let t : Nat := 10 ^ 9
    decide (s.asleep = false) &&
    let σ := s.at_ t
    (match σ.flt.quietEnd with
    | some e =>
    decide (σ.dev = .fault ∧ e ≤ σ.now ∧ σ.flt.conds = []) &&
    true
    | _ => false)) = true ∧
  (
    let s : State := { run with flt.conds := [⟨0x0C01, 8⟩] }
    let t : Nat := 10 ^ 9
    let code : Nat := 0x0C01
    let src : Nat := 8
    decide (s.asleep = false) &&
    let σ := s.at_ t
    let l := σ.flt.conds.filter (fun c => !(c.code == code && c.src == src))
    decide (¬ (l = σ.flt.conds)) &&
    true) = true :=
  by and_intros <;> decide +kernel
/-- The clauses of `Obligations.ConfigMaintEventsComplete` apply: overlayCutoff, overlaySwitchInstant, overlayAlignTimeout, configCopyCompare, serviceSessionExpiry, maintActivityComplete, maintWaitLimit, scrubDue, lbistDue. -/
theorem witness_ConfigMaintEventsComplete :
  (
    let s : State := { run with cfg.switch_ := some { commit := true, ovl := 6, at_ := 7 } }
    let t : Nat := 10 ^ 9
    decide (s.asleep = false) &&
    let σ := s.at_ t
    (match σ.cfg.switch_ with
    | some p =>
    decide (p.at_ ≤ σ.now + ms 1) &&
    true
    | _ => false)) = true ∧
  (
    let s : State := { run with cfg.switch_ := some { commit := true, ovl := 6, at_ := 7 } }
    let t : Nat := 10 ^ 9
    decide (s.asleep = false) &&
    let σ := s.at_ t
    (match σ.cfg.switch_ with
    | some p =>
    decide (¬ (σ.now < p.at_)) &&
    true
    | _ => false)) = true ∧
  (
    let s : State := { run with cfg.switch_ := some { commit := true, ovl := 6, at_ := 7, held := true } }
    let t : Nat := 10 ^ 9
    decide (s.asleep = false) &&
    let σ := s.at_ t
    (match σ.cfg.switch_ with
    | some p =>
    decide (p.held ∧ p.at_ + ms 1 ≤ σ.now) &&
    true
    | _ => false)) = true ∧
  (
    let s : State := run
    let t : Nat := 10 ^ 11
    decide (s.asleep = false) &&
    let σ := s.at_ t
    decide ((σ.dev = .running ∨ σ.dev = .fault ∨ σ.dev = .coppice ∨ (σ.dev = .starting ∧ σ.boot.stage ≠ .images ∧ σ.boot.stage ≠ .rom)) ∧ σ.cfg.cmpAt + sec 10 ≤ σ.now) &&
    true) = true ∧
  (
    let s : State := { run with cfg.svcEnd := some 7 }
    let t : Nat := 10 ^ 9
    decide (s.asleep = false) &&
    let σ := s.at_ t
    (match σ.cfg.svcEnd with
    | some e =>
    decide (e ≤ σ.now) &&
    true
    | _ => false)) = true ∧
  (
    let s : State := { run with cfg.mrun := [{ req := { act := aLBIST }, start := 0 }] }
    let t : Nat := 10 ^ 9
    let act : Nat := aLBIST
    decide (s.asleep = false) &&
    let σ := s.at_ t
    decide (¬ (act = aBUF_AUDIT ∨ act = aSTAGE_COPY ∨ (act = aPROBE ∧ σ.fab.probeList ≠ []))) &&
    (match σ.cfg.mrun.find? (fun m => m.req.act == act) with
    | some m =>
    true
    | _ => false)) = true ∧
  (
    let s : State := run
    decide (s.asleep = false) &&
    true) = true ∧
  (
    let s : State := run
    let t : Nat := 10 ^ 18
    decide (s.asleep = false) &&
    let σ := s.at_ t
    decide (σ.cfg.scrubAt + sec (60 * σ.rd F.CFG_MAINT_CFG_SCRUB_MIN) ≤ σ.now) &&
    true) = true ∧
  (
    let s : State := run
    let t : Nat := 10 ^ 18
    decide (s.asleep = false) &&
    let σ := s.at_ t
    decide (σ.cfg.lbistAt + sec (σ.rd F.CFG_MAINT_CFG_LBIST_S) ≤ σ.now) &&
    true) = true :=
  by and_intros <;> decide +kernel
/-- The clauses of `Obligations.BootEventsComplete` apply: powerOnReset, dramTrainingComplete, imageAuthenticationComplete, bootLock, imagesReleased, bootWatchdogExpiry, confirmationLimitExpiry, privetRestart, deviceResetInstant, coppiceExitReset. -/
theorem witness_BootEventsComplete :
  (
    true) = true ∧
  (
    let s : State := { State.reset with dev := .starting, boot.stage := .loaded }
    let t : Nat := 10 ^ 9
    decide (s.asleep = false) &&
    let σ := s.at_ t
    decide (σ.dev = .starting ∧ σ.boot.stage = .loaded) &&
    true) = true ∧
  (
    let s : State := { State.reset with dev := .starting, boot.stage := .images }
    let t : Nat := 10 ^ 9
    decide (s.asleep = false) &&
    let σ := s.at_ t
    decide ((σ.dev = .starting ∨ σ.dev = .coppice) ∧ σ.boot.stage = .images ∧ σ.boot.copying.isNone = true) &&
    true) = true ∧
  (
    let s : State := { State.reset with dev := .starting, boot.stage := .loaded, boot.dram := true }
    let t : Nat := 10 ^ 9
    decide (s.asleep = false) &&
    let σ := s.at_ t
    decide (σ.boot.stage = .loaded ∧ ((σ.dev = .starting ∧ σ.boot.dram = true) ∨ σ.dev = .coppice)) &&
    true) = true ∧
  (
    let s : State := { State.reset with dev := .starting, boot.stage := .locked }
    let t : Nat := 10 ^ 9
    decide (s.asleep = false) &&
    let σ := s.at_ t
    decide (σ.boot.stage = .locked ∧ (σ.dev = .starting ∨ σ.dev = .coppice)) &&
    true) = true ∧
  (
    let s : State := { State.reset with dev := .starting, boot.stage := .loaded }
    let t : Nat := 10 ^ 11
    decide (s.asleep = false) &&
    let σ := s.at_ t
    decide ((σ.dev = .starting ∨ σ.dev = .coppice) ∧ σ.beforeLock = true ∧ σ.tStart + sec 5 ≤ σ.now) &&
    true) = true ∧
  (
    let s : State := { State.reset with dev := .starting, boot.stage := .locked }
    let t : Nat := 10 ^ 11
    decide (s.asleep = false) &&
    let σ := s.at_ t
    decide (σ.dev = .starting ∧ σ.boot.stage ≠ .rom ∧ σ.boot.copying.isNone = true ∧ σ.tStart + sec 30 ≤ σ.now ∧ (σ.boot.stage ≠ .released ∨ σ.allRequired = false)) &&
    true) = true ∧
  (
    let s : State := run
    let t : Nat := 10 ^ 9
    decide (s.asleep = false) &&
    let σ := s.at_ t
    decide (¬ (σ.dev = .off ∨ σ.dev = .sleep ∨ σ.boot.copying.isSome = true ∨ σ.boot.stage = .rom)) &&
    true) = true ∧
  (
    let s : State := { run with boot.rstAt := some (7, 3) }
    let t : Nat := 10 ^ 9
    decide (s.asleep = false) &&
    let σ := s.at_ t
    (match σ.boot.rstAt with
    | some (u, ty) =>
    decide (u ≤ σ.now ∧ ty ≠ 8 ∧ σ.dev ≠ .off ∧ σ.dev ≠ .sleep) &&
    true
    | _ => false)) = true ∧
  (
    let s : State := { run with dev := .coppice, boot.rstAt := some (7, 8) }
    let t : Nat := 10 ^ 9
    decide (s.asleep = false) &&
    let σ := s.at_ t
    (match σ.boot.rstAt with
    | some (u, ty) =>
    decide (u ≤ σ.now ∧ ty = 8 ∧ σ.dev = .coppice) &&
    true
    | _ => false)) = true :=
  by and_intros <;> decide +kernel
/-- The clauses of `Obligations.UpdateEventsComplete` apply: updVerificationComplete, stageCopyComplete, activationCopyComplete, rollbackCopyComplete, updStatus, updBegin, updChunk, updVerify, updActivate. -/
theorem witness_UpdateEventsComplete :
  (
    let s : State := upd 3
    let t : Nat := 10 ^ 9
    decide (s.asleep = false) &&
    let σ := s.at_ t
    decide (¬ (σ.rd F.UPD_STAT_STATE ≠ 3)) &&
    let ck := Config.cipher 0x70 σ.kekU ((mWrapped σ.upd.manifest).getD [])
    let bad := (((mEnts σ.upd.manifest).filter ePkg).map (fun e => σ.verifyImage ck e)).find? (fun r => r != 0)
    decide (bad = none) &&
    true) = true ∧
  (
    let s : State := { run with cfg.mrun := [{ req := { act := aSTAGE_COPY }, start := 0 }] }
    let t : Nat := 10 ^ 9
    decide (s.asleep = false) &&
    let σ := s.at_ t
    decide (σ.running aSTAGE_COPY) &&
    true) = true ∧
  (
    let s : State := { run with boot.copying := some .activate }
    let t : Nat := 10 ^ 9
    decide (s.asleep = false) &&
    let σ := s.at_ t
    decide (σ.boot.copying = some .activate) &&
    true) = true ∧
  (
    let s : State := { run with boot.copying := some .rollback }
    let t : Nat := 10 ^ 9
    decide (s.asleep = false) &&
    let σ := s.at_ t
    decide (σ.boot.copying = some .rollback) &&
    true) = true ∧
  (
    let s : State := { run with boot.stage := .rom }
    let r : Req := rq 16 []
    decide (s.asleep = false) &&
    decide (s.boot.stage = .rom) &&
    decide (r.len = 0) &&
    let c := (s.at_ r.t).cmdOf dUpdStatus.op r
    (match updStatusBody c (s.at_ r.t) with
    | .done st pl u =>
    true
    | _ => false)) = true ∧
  (
    let s : State := { run with boot.stage := .rom }
    let r : Req := rq 16 (List.replicate 32 0)
    let bufs : List Byte := []
    decide (s.asleep = false) &&
    decide (s.boot.stage = .rom) &&
    decide (r.len = 32) &&
    let c := (s.at_ r.t).cmdOf dUpdBegin.op r
    (match updBegin (bufs.take (c.dSize 0)) (slice bufs (c.dSize 0) (c.dSize 1)) c (s.at_ r.t) with
    | .done st pl u =>
    true
    | _ => false)) = true ∧
  (
    let s : State := { upd 1 with boot.stage := .rom, upd.manifest := pl [(56, 0), (1, 1)] }
    let r : Req := dq 16 [(0x10000, 8, 0), (0x11000, 16, 0)]
    let bufs : List Byte := pl [(4, 0), (4, 16), (8, 0), (8, 0)]
    decide (s.asleep = false) &&
    decide (s.boot.stage = .rom) &&
    decide (r.len = 32) &&
    let c := (s.at_ r.t).cmdOf dUpdChunk.op r
    (match updChunk (bufs.take (c.dSize 0)) (slice bufs (c.dSize 0) (c.dSize 1)) c (s.at_ r.t) with
    | .done st pl u =>
    true
    | _ => false)) = true ∧
  (
    let s : State := { upd 2 with boot.stage := .rom }
    let r : Req := rq 16 []
    decide (s.asleep = false) &&
    decide (s.boot.stage = .rom) &&
    decide (r.len = 0) &&
    let c := (s.at_ r.t).cmdOf dUpdVerify.op r
    (match updVerifyBody c (s.at_ r.t) with
    | .done st pl u =>
    true
    | _ => false)) = true ∧
  (
    let s : State := { upd 5 with boot.stage := .rom }
    let r : Req := rq 16 []
    decide (s.asleep = false) &&
    decide (s.boot.stage = .rom) &&
    decide (r.len = 0) &&
    let c := (s.at_ r.t).cmdOf dUpdActivate.op r
    (match updActivateBody c (s.at_ r.t) with
    | .done st pl u =>
    true
    | _ => false)) = true :=
  by and_intros <;> decide +kernel
/-! ## A frame between the roots of two segments

It carries the unit's MAC address and a MAC under the chain's key, which are uninterpreted. -/
/-- A root with a chain key, its node address 65 in segment 1, before that 70. -/
def ethRoot : State :=
  { key 0 2 0xFF (((hdg 1 run).wr F.HDG_STAT_STATE 3).wr F.HDG_STAT_NODE 65) with hdg.seg := 1, hdg.oldNode := some 70 }
/-- A frame of a type to a node, with a payload. -/
def ethF (ty dst : Nat) (p : List Byte) : HdgFrame := { ty := ty, dst := dst, src := 1, flags := 1, seq := 9, payload := p }
def ethHead (f : HdgFrame) : List Byte := bytesBE 6 Config.unitMac ++ bytesBE 6 1 ++ bytesBE 2 0x88B5 ++ hdgBytes f
/-- A root with the frame's bytes waiting, under a MAC. -/
def ethS (f : HdgFrame) (mac : List Byte) : State := { ethRoot with hdg.inEth := [ethHead f ++ mac] }

theorem natBE_bytesBE (n v : Nat) (h : v < 256 ^ n) : natBE (bytesBE n v) = v := by
  have e : ∀ l : List Byte, natBE l.reverse = natLE l := by
    intro l
    unfold natBE
    rw [List.foldl_reverse]
    induction l with
    | nil => rfl
    | cons b l ih => simp only [List.foldr_cons, ih, natLE]; omega
  unfold bytesBE
  rw [e, natLE_bytesLE_of_lt h]
theorem bytesBE_length (n v : Nat) : (bytesBE n v).length = n := by simp [bytesBE]
theorem slice_head (l m : List Byte) (n : Nat) (h : l.length = n) : slice (l ++ m) 0 n = l := by
  subst h
  simp [slice]
theorem slice_tail (l m : List Byte) (n k : Nat) (hl : l.length = n) (hm : m.length = k) : slice (l ++ m) n k = m := by
  subst hl hm
  simp [slice]
theorem dstMac_unit (l : List Byte) : dstMac (bytesBE 6 Config.unitMac ++ l) = Config.unitMac := by
  unfold dstMac beAt
  rw [slice_head _ _ _ (bytesBE_length 6 _)]
  exact natBE_bytesBE 6 _ Config.unitMacBits.isLt
theorem hdgMac_length (s : State) (f : HdgFrame) : (s.hdgMac f).length = 8 := by
  simp only [State.hdgMac, slice, List.length_append, List.length_take, List.length_replicate]
  omega
/-- The frame that the bytes hold. -/
theorem eth_parse (f : HdgFrame) (mac : List Byte) (hm : mac.length = 8) (n : Nat) (hl : (hdgBytes f).length = n)
    (hn : 12 + beAt (hdgBytes f ++ mac) 6 1 = n) : (hdgOfEth (ethHead f ++ mac)).mac = mac := by
  have e : (ethHead f ++ mac).drop (typeOff (ethHead f ++ mac) + 2) = hdgBytes f ++ mac := rfl
  unfold hdgOfEth
  dsimp only
  rw [e, hn]
  exact slice_tail _ _ _ _ hl hm
/-- The frame passes R385 at the root, under the MAC the root computes. -/
theorem eth_auth (f : HdgFrame) (s : State) (n : Nat)
    (h : s.hdgKeyOk = true ∧ ethRoot.hdgKeyOk = true ∧
      (s.slot (s.rd F.HDG_CFG_KEY_SLOT)).value = (ethRoot.slot (ethRoot.rd F.HDG_CFG_KEY_SLOT)).value ∧
      (hdgBytes f).length = n ∧ 12 + beAt (hdgBytes f ++ ethRoot.hdgMac f) 6 1 = n ∧
      hdgBytes (hdgOfEth (ethHead f ++ ethRoot.hdgMac f)) = hdgBytes f ∧
      (s.hdg.rx.get {} (hdgOfEth (ethHead f ++ ethRoot.hdgMac f)).src).accepts (hdgOfEth (ethHead f ++ ethRoot.hdgMac f)).seq = true) :
    (s.hdgAuth (hdgOfEth (ethHead f ++ ethRoot.hdgMac f))).1 = true := by
  obtain ⟨hs, hr, hv, hl, hn, hb, hw⟩ := h
  have hm : s.hdgMac (hdgOfEth (ethHead f ++ ethRoot.hdgMac f)) = ethRoot.hdgMac f := by
    have e : ∀ (g : HdgFrame), hdgBytes g = hdgBytes f → s.hdgMac g = ethRoot.hdgMac f := by
      intro g hg
      unfold State.hdgMac
      rw [hg, hs, hr, hv]
    exact e _ hb
  unfold State.hdgAuth
  rw [hm, eth_parse f _ (hdgMac_length _ _) n hl hn, hs, beq_self_eq_true]
  dsimp only
  rw [hw]
  rfl
/-- A request that waits too long, a response for this unit, a late one for its old address, and a request for another unit of
the segment. -/
def ethLong : HdgFrame := ethF 8 66 (bytesBE 8 (2 ^ 40) ++ bytesBE 8 0)
def ethMine : HdgFrame := ethF 9 65 (bytesBE 8 0)
def ethOld : HdgFrame := ethF 9 70 (bytesBE 8 0)
def ethDown : HdgFrame := ethF 8 66 (bytesBE 8 0)
/-- A frame of a type that does not cross between segments. -/
def ethOdd : HdgFrame := ethF 7 65 (bytesBE 8 0)
def ethSt (f : HdgFrame) : State := { (ethS f (ethRoot.hdgMac f)).at_ 1000 with hdg.inEth := [] }
def ethGot (f : HdgFrame) : HdgFrame := hdgOfEth (ethHead f ++ ethRoot.hdgMac f)
theorem eth_states :
    (ethS ethLong (ethRoot.hdgMac ethLong)).Awake ∧ (ethSt ethLong).isRoot = true ∧ (ethGot ethLong).ty = 8 ∧ hdgFormOk (ethGot ethLong) = true ∧
      ms 2550 < beAt (ethGot ethLong).payload 0 8 ∧
    (ethGot ethMine).ty = 9 ∧ hdgFormOk (ethGot ethMine) = true ∧ (ethSt ethMine).isMine (ethGot ethMine) = true ∧
    (ethGot ethOld).ty = 9 ∧ hdgFormOk (ethGot ethOld) = true ∧ (ethSt ethOld).isMine (ethGot ethOld) = false ∧
      (ethSt ethOld).isForOld (ethGot ethOld) = true ∧
    (ethGot ethDown).ty = 8 ∧ hdgFormOk (ethGot ethDown) = true ∧ ¬ ms 2550 < beAt (ethGot ethDown).payload 0 8 ∧
      (ethSt ethDown).isMine (ethGot ethDown) = false ∧ (ethGot ethDown).dst / 64 = (ethSt ethDown).ownNode / 64 ∧ (ethGot ethDown).hops + 1 ≤ 63 ∧
    (ethGot ethOdd).ty ≠ 8 ∧ (ethGot ethOdd).ty ≠ 9 := by
  unfold State.Awake
  decide +kernel
theorem eth_auths :
    ((ethSt ethLong).hdgAuth (ethGot ethLong)).1 = true ∧ ((ethSt ethMine).hdgAuth (ethGot ethMine)).1 = true ∧
      ((ethSt ethOld).hdgAuth (ethGot ethOld)).1 = true ∧ ((ethSt ethDown).hdgAuth (ethGot ethDown)).1 = true :=
  ⟨eth_auth _ _ 28 (by decide +kernel), eth_auth _ _ 20 (by decide +kernel), eth_auth _ _ 20 (by decide +kernel), eth_auth _ _ 20 (by decide +kernel)⟩
/-- A frame that fails R385: the root's key slot is not usable. -/
def ethBad : State := { hdg 1 run with hdg.inEth := [ethHead ethMine ++ ethRoot.hdgMac ethMine] }
theorem eth_bad :
    ethBad.Awake ∧ (ethBad.at_ 1000).isRoot = true ∧ (ethGot ethMine).ty = 9 ∧ hdgFormOk (ethGot ethMine) = true ∧
      (({ ethBad.at_ 1000 with hdg.inEth := [] } : State).hdgAuth (ethGot ethMine)).1 = false := by
  unfold State.Awake
  decide +kernel
theorem eth_queue (f : HdgFrame) (mac : List Byte) :
    ((ethS f mac).at_ 1000).hdg.inEth = (ethHead f ++ mac) :: [] ∧ dstMac (ethHead f ++ mac) = Config.unitMac := by
  refine ⟨rfl, ?_⟩
  unfold ethHead
  rw [List.append_assoc, List.append_assoc, List.append_assoc]
  exact dstMac_unit _

/-! ## An image that fails its check

The digest and the cipher are uninterpreted: whichever way the digest comes out, the configuration set is no newer than the one in use. -/
theorem natLE_lt : ∀ l : List Byte, natLE l < 256 ^ l.length
  | [] => by decide
  | b :: l => by
    have h := natLE_lt l
    have hb := b.isLt
    simp only [natLE, List.length_cons, Nat.pow_succ]
    omega
/-- A manifest with one image entry, the configuration set of the package. -/
def badSet : State :=
  { (upd 3).setWord R.CFG_GEN_RUN 0xFFFFFFFF with
    upd.manifest := List.replicate 6 0 ++ [1] ++ List.replicate 121 0 ++ [3, 1] ++ List.replicate 94 0 }
theorem witness_UpdateEventsComplete_bad (ck : List Byte) :
    (badSet.at_ 1000).rd F.UPD_STAT_STATE = 3 ∧
    ∃ r, (((mEnts (badSet.at_ 1000).upd.manifest).filter ePkg).map (fun e => (badSet.at_ 1000).verifyImage ck e)).find? (fun r => r != 0) = some r := by
  refine ⟨by decide +kernel, ?_⟩
  have he : (mEnts (badSet.at_ 1000).upd.manifest).filter ePkg = [[3, 1] ++ List.replicate 94 0] := by decide +kernel
  have hg : (badSet.at_ 1000).wordN R.CFG_GEN_RUN = 2 ^ 32 - 1 := by decide +kernel
  have hi : eId ([3, 1] ++ List.replicate 94 0) = 3 := by decide +kernel
  have hv : (badSet.at_ 1000).verifyImage ck ([3, 1] ++ List.replicate 94 0) = 9 ∨
      (badSet.at_ 1000).verifyImage ck ([3, 1] ++ List.replicate 94 0) = 0xA := by
    have hl : ∀ b : List Byte, (cfgOfImage b).gen < 2 ^ 32 := by
      intro b
      have h := natLE_lt (slice b 8 4)
      have hs : (slice b 8 4).length = 4 := by simp [slice] <;> omega
      rw [hs] at h
      exact h
    unfold State.verifyImage
    dsimp only
    split
    · exact Or.inl rfl
    · rw [hi, hg, decide_eq_false (Nat.not_lt.mpr (Nat.le_sub_one_of_lt (hl _)))]
      simp
  rw [he]
  rcases hv with h | h <;> exact ⟨_, by simp only [List.map, List.find?, h]; rfl⟩
end Wit
end

/-!
PROOFS. Accesses (R7, R11-R15, R30-R33, R282, R355-R357, R421, R422): what each access row does, that reads of registers change nothing,
the frame of a memory store, and a register write that is not plain.
-/
namespace Sys2Proof.Machine

/-! ## Rows that act on an awake module -/

/-- A row whose meaning is `powered` runs its operation while the block acts. -/
theorem runs_of_powered {i : Instr} {t : Nat} {f : State → State} {s u : State} (he : exec i s = powered t f s)
    (ha : s.asleep = false) (hu : f s = u) : Runs i s u := by
  rw [Runs, he, powered_awake ha, hu]

/-- Where nothing follows the state that a command leaves, that state is its outcome. -/
theorem Runs.exec_eq {i : Instr} {s u : State} (h : Runs i s u) (hc : u.Calm) : exec i s = .next u := by
  rw [← State.settle_of_calm hc]; exact h

/-- Where a core issues an access, the block acts. -/
theorem State.asleep_of_issued {s : State} {t : Nat} {a : Acc} (h : (s.at_ t).silent a = false) : s.asleep = false := by
  rw [State.silent, Bool.or_eq_false_iff] at h; exact h.1

/-- While the block acts, the count of an instant is that instant. -/
theorem State.le_at_now {s : State} (h : s.asleep = false) (t : Nat) : t ≤ (s.at_ t).now := by
  have hd : ¬ (s.dev = .sleep ∧ s.devSince ≤ t) := by
    rintro ⟨hd, -⟩; simp [State.asleep, hd] at h
  simp [State.at_, State.countAt, hd]

/-! ## Accesses to memory (R30, R421, R422) -/

/-- A slice of its own length is the byte string. -/
theorem slice_whole (l : List Byte) : slice l 0 l.length = l := by
  simp [slice]

/-- A store that finds room in the write buffer is issued. -/
theorem State.busStore_room {s : State} {a : Acc} {addr : Nat} (hb : s.bufRoom a addr = true) (hyp : Bool) (data : List Byte) :
    s.busStore a hyp addr data =
      s.viaBus ⟨a, .store, addr, data.length, data⟩ (fun s => s.doStore a hyp addr data) := by
  rw [State.busStore, if_neg (by simp [hb])]

/-- The state in which a store to memory has written its bytes and not yet been accounted for: at its instant, the bus idle, in the
write buffer of the bridge that it crosses, overlapped read-ahead slots dropped. -/
def State.written (s : State) (t : Nat) (a : Acc) (addr : Nat) (data : List Byte) : State :=
  (((s.polled t).pushWrite a addr).wipeSlots a addr data.length).store addr data

/-- It differs in memory, the bus, the bridges and what was drawn for the stay in the buffer. -/
theorem State.written_eq (s : State) (t : Nat) (a : Acc) (addr : Nat) (data : List Byte) :
    ∃ b n, s.written t a addr data = { s.at_ t with mem := Memory.write s.mem addr data, bus := .none, brg := b, free := n } := by
  unfold State.written State.pushWrite
  split <;> exact ⟨_, _, rfl⟩

section
variable {s : State} {t : Nat} {a : Acc} {addr len : Nat} (hi : (s.at_ t).silent a = false)
include hi

/-- A load of memory that the checks admit answers the bytes. -/
theorem State.busLoad_memory (hv : (s.at_ t).accVerdict a .load addr len = .ok) (hp : inPeri addr = false)
    (hs : (s.at_ t).stalls a addr len = false) :
    (s.at_ t).busLoad a addr len = ((s.polled t).traffic a false addr len).replyData (natLE (s.load addr len)) := by
  rw [State.busLoad, State.viaBus_ok hi hv hs, State.doLoad, if_neg (by simp [hp])]; rfl

/-- A fetch that the checks admit answers the bytes. -/
theorem State.busFetch_memory (hv : (s.at_ t).accVerdict a .fetch addr len = .ok) (hs : (s.at_ t).stalls a addr len = false) :
    (s.at_ t).busFetch a addr len = ((s.polled t).traffic a false addr len).replyData (natLE (s.load addr len)) := by
  rw [State.busFetch, State.viaBus_ok hi hv hs]; rfl

/-- A store that finds the write buffer full is answered with a retry (R357). -/
theorem State.busStore_full (hb : (s.at_ t).bufRoom a addr = false) (hyp : Bool) (data : List Byte) :
    (s.at_ t).busStore a hyp addr data = { s.at_ t with bus := .retry } := by
  rw [State.busStore, if_pos (by simp [hi, hb])]

/-- A store to memory that the checks admit enters the write buffer, writes the bytes and is accounted for. -/
theorem State.busStore_memory {data : List Byte} (hb : (s.at_ t).bufRoom a addr = true)
    (hv : (s.at_ t).accVerdict a .store addr data.length = .ok) (hp : inPeri addr = false)
    (hs : (s.at_ t).stalls a addr data.length = false) (hyp : Bool) :
    (s.at_ t).busStore a hyp addr data = (s.written t a addr data).traffic a true addr data.length := by
  rw [State.busStore_room hb, State.viaBus_ok hi hv hs, State.doStore, if_neg (by simp [hp])]; rfl

/-- An admitted access of a partition without a DRAM rank waits at the cluster interface (R422). -/
theorem State.viaBus_stalls {k : AccKind} {d : List Byte} (f : State → State) (hv : (s.at_ t).accVerdict a k addr len = .ok)
    (hs : (s.at_ t).stalls a addr len = true) :
    (s.at_ t).viaBus ⟨a, k, addr, len, d⟩ f =
      { s.at_ t with bus := .waits, prt.waiting := s.prt.waiting ++ [⟨a, k, addr, len, d⟩] } := by
  simp [State.viaBus, State.acceptOrWait, hi, hv, hs]

end

/-- MEMORY_ACCESS of a store takes the whole of its data. -/
theorem memoryAccess_store (t : Nat) (a : Acc) (addr : Nat) (data : List Byte) (s : State) :
    memoryAccess t a .store addr data.length data s = (s.at_ t).busStore a a.hyp addr data := by
  rw [memoryAccess, slice_whole]

/-! ## Loads from registers (R11, R13) -/

/-- A load from a register that is no pop register and not UPD_STAT: the low word of a pair keeps the high word in the requester's
holding copy, a high word is answered from that copy where there is one, any other register answers its value. -/
theorem State.regLoad_eq {s : State} {a : Acc} {addr : Nat} (hb : s.blockAdmits a false addr = true) (hw : s.powered addr = true)
    (hp : isPop addr = false) (hu : addr ≠ R.UPD_STAT) :
    s.regLoad a addr =
      if isLow addr then
        { s.replyData (s.regValue a addr) with hold := s.hold.set (holdKey a addr) (BitVec.ofNat 32 (s.regValue a (addr + 4))) }
      else if isLow (addr - 4) && s.hold.keys.contains (holdKey a (addr - 4)) then
        s.replyData (s.hold.get 0 (holdKey a (addr - 4))).toNat
      else s.replyData (s.regValue a addr) := by
  simp only [isPop, Bool.or_eq_false_iff, decide_eq_false_iff_not, Option.isSome_eq_false_iff, Option.isNone_iff_eq_none] at hp
  obtain ⟨⟨hclaim, hrx⟩, htx⟩ := hp
  simp [State.regLoad, hb, hw, hclaim, hrx, htx, hu]

/-- The same of a load that reaches the register over the bus. -/
theorem State.Loads.busLoad_eq {s : State} {t : Nat} {a : Acc} {addr : Nat} (h : s.Loads t a addr = true) (hp : isPop addr = false)
    (hu : addr ≠ R.UPD_STAT) :
    (s.at_ t).busLoad a addr 4 =
      if isLow addr then
        { s.polled t with
          bus := .data ((s.polled t).regValue a addr)
          hold := s.hold.set (holdKey a addr) (BitVec.ofNat 32 ((s.polled t).regValue a (addr + 4))) }
      else if isLow (addr - 4) && s.hold.keys.contains (holdKey a (addr - 4)) then
        (s.polled t).replyData (s.hold.get 0 (holdKey a (addr - 4))).toNat
      else (s.polled t).replyData ((s.polled t).regValue a addr) := by
  rw [State.busLoad_reg h, State.regLoad_eq (State.Loads.admits h).1 (State.Loads.admits h).2 hp hu]; rfl

/-! ## Access rows -/

/-- REGISTER_WRITE that reaches a register acts as that register's store. -/
theorem registerWrite_runs {s : State} {t : Nat} {a : Acc} {addr v : Nat} (hv : v < 2 ^ 32) (h : s.Stores t a addr = true) :
    Runs (.registerWrite t a addr v) s ((s.posted t a addr).regStore a a.hyp addr v) :=
  runs_of_powered rfl (State.Stores.awake h) (by rw [registerWrite, State.busStore_reg h, Nat.mod_eq_of_lt hv])

/-- LOW_WORD_READ that reaches the low word of a pair. -/
theorem lowWordRead_runs {s : State} {t : Nat} {a : Acc} {addr : Nat} (h : s.Loads t a addr = true) (hl : isLow addr = true)
    (hp : isPop addr = false) (hu : addr ≠ R.UPD_STAT) :
    Runs (.lowWordRead t a addr) s { s.polled t with
      bus := .data ((s.polled t).regValue a addr)
      hold := s.hold.set (holdKey a addr) (BitVec.ofNat 32 ((s.polled t).regValue a (addr + 4))) } :=
  runs_of_powered rfl (State.Loads.awake h) (by simp only [lowWordRead, hl, if_true, State.Loads.busLoad_eq h hp hu])

section
variable {s : State} {t : Nat} {a : Acc} {addr len : Nat} (hi : (s.at_ t).silent a = false)
include hi

theorem memoryAccess_load_runs (hv : (s.at_ t).accVerdict a .load addr len = .ok) (hp : inPeri addr = false)
    (hs : (s.at_ t).stalls a addr len = false) (data : List Byte) :
    Runs (.memoryAccess t a .load addr len data) s (((s.polled t).traffic a false addr len).replyData (natLE (s.load addr len))) :=
  runs_of_powered rfl (State.asleep_of_issued hi) (State.busLoad_memory hi hv hp hs)

theorem memoryAccess_fetch_runs (hv : (s.at_ t).accVerdict a .fetch addr len = .ok) (hs : (s.at_ t).stalls a addr len = false)
    (data : List Byte) :
    Runs (.memoryAccess t a .fetch addr len data) s (((s.polled t).traffic a false addr len).replyData (natLE (s.load addr len))) :=
  runs_of_powered rfl (State.asleep_of_issued hi) (State.busFetch_memory hi hv hs)

theorem memoryAccess_store_runs {data : List Byte} (hb : (s.at_ t).bufRoom a addr = true)
    (hv : (s.at_ t).accVerdict a .store addr data.length = .ok) (hp : inPeri addr = false)
    (hs : (s.at_ t).stalls a addr data.length = false) :
    Runs (.memoryAccess t a .store addr data.length data) s ((s.written t a addr data).traffic a true addr data.length) :=
  runs_of_powered rfl (State.asleep_of_issued hi) (by rw [memoryAccess_store, State.busStore_memory hi hb hv hp hs])

/-- An access of a partition without a DRAM rank waits; a store that waits keeps its bytes. -/
theorem memoryAccess_stalls_runs {k : AccKind} {data : List Byte} (hl : data.length = len)
    (hb : (s.at_ t).bufRoom a addr = true ∨ k ≠ .store) (hv : (s.at_ t).accVerdict a k addr len = .ok)
    (hs : (s.at_ t).stalls a addr len = true) :
    Runs (.memoryAccess t a k addr len data) s { s.at_ t with
      bus := .waits, prt.waiting := s.prt.waiting ++ [⟨a, k, addr, len, if k = .store then data else []⟩] } := by
  refine runs_of_powered rfl (State.asleep_of_issued hi) ?_
  cases k with
  | load => exact State.viaBus_stalls hi _ hv hs
  | fetch => exact State.viaBus_stalls hi _ hv hs
  | store =>
    have hb := hb.resolve_right (fun h => h rfl)
    subst hl
    rw [memoryAccess_store, State.busStore_room hb, State.viaBus_stalls hi _ hv hs, if_pos rfl]

theorem memoryAccess_full_runs (hb : (s.at_ t).bufRoom a addr = false) (data : List Byte) :
    Runs (.memoryAccess t a .store addr len data) s { s.at_ t with bus := .retry } :=
  runs_of_powered rfl (State.asleep_of_issued hi) (State.busStore_full hi hb _ _)

/-- BRIDGE_READ that matches no slot allocates one where there is room (R355, R356). -/
theorem bridgeRead_new_runs {br : Nat} {away : Bool} (hv : (s.at_ t).idVerdict a = .ok)
    (hf : s.brg.slots.find? (fun x => x.matches a br away addr len) = none) (hr : s.slotRoom a br away addr = true) :
    Runs (.bridgeRead t a br away addr len) s { s.at_ t with
      bus := .retry
      brg.slots := s.brg.slots ++
        [{ br := br, away := away, acc := a, addr := addr, size := len, pop := isPop addr, at_ := (s.at_ t).now }] } := by
  have hr' : (s.at_ t).slotRoom a br away addr = true := hr
  exact runs_of_powered rfl (State.asleep_of_issued hi) (by simp [bridgeRead, hi, hv, hf, hr'])

/-- BRIDGE_READ that repeats a filled slot answers its data and frees it (R355). -/
theorem bridgeRead_filled_runs {br : Nat} {away : Bool} {x : RaSlot} {d : List Byte} (hv : (s.at_ t).idVerdict a = .ok)
    (hf : s.brg.slots.find? (fun x => x.matches a br away addr len) = some x) (hd : x.data = some (some d)) :
    Runs (.bridgeRead t a br away addr len) s { s.at_ t with brg.slots := s.brg.slots.erase x, bus := .data (natLE d) } :=
  runs_of_powered rfl (State.asleep_of_issued hi) (by simp [bridgeRead, hi, hv, hf, hd])

end

/-- READAHEAD_FILL of an empty slot keeps what the bus answers for its access. -/
theorem readaheadFill_runs {s u : State} {t i n : Nat} {x : RaSlot} (ha : s.Awake) (hx : s.brg.slots[i]? = some x) (hd : x.data = none)
    (hw : (s.at_ t).writesAhead x = false) (hn : n = min 64 x.size) (hs : (s.at_ t).stalls x.acc x.addr n = false)
    (hu : u = (s.at_ t).carryOn ⟨x.acc, .load, x.addr, n, []⟩) :
    Runs (.readaheadFill t i) s { u with
      bus := s.bus
      brg.slots := u.brg.slots.set i { x with
        data := some (match u.bus with | .data w => some (bytesLE n w) | _ => none), at_ := u.now } } := by
  subst hu hn
  have ha' : s.asleep = false := ha
  exact runs_of_powered rfl ha (by simp [readaheadFill, State.fillSlot, hx, hd, hw, hs, ha'] <;> rfl)

/-- READAHEAD_EXPIRY of a filled slot that nobody collected for 10 µs. -/
theorem readaheadExpiry_runs {s : State} {t i : Nat} {x : RaSlot} {d : Option (List Byte)} (ha : s.Awake) (hx : s.brg.slots[i]? = some x)
    (hd : x.data = some d) (hp : x.pop = false) (ht : x.at_ + us 10 ≤ t) :
    Runs (.readaheadExpiry t i) s { s.at_ t with
      brg.slots := s.brg.slots.eraseIdx i, brg.expired := (s.brg.expired + 1) % 2 ^ 32 } := by
  have hnow : x.at_ + us 10 ≤ (s.at_ t).now := ht.trans (State.le_at_now ha t)
  exact runs_of_powered rfl ha (by simp [readaheadExpiry, hx, hd, hp, hnow])

/-- POSTED_WRITE_FAILURE raises the fault of its kind. -/
theorem postedWriteFailure_runs {s : State} {t ty : Nat} (ha : s.Awake) (h1 : 1 ≤ ty) (h3 : ty ≤ 3) (a : Acc) (addr : Nat) :
    Runs (.postedWriteFailure t a ty addr) s
      ((s.at_ t).failAcc (if ty = 1 then 0x0103 else if ty = 2 then 0x0B01 else 0x0105) a 2 addr) :=
  runs_of_powered rfl ha (by rw [postedWriteFailure, if_neg (by omega)])

/-- Settles O6: each clause is its row's lemma above. -/
theorem accessCommandsComplete : Obligations.AccessCommandsComplete := fun _ _ _ _ _ =>
  ⟨fun _ hv h => registerWrite_runs hv h,
   lowWordRead_runs,
   fun data hi hv hp hs => memoryAccess_load_runs hi hv hp hs data,
   fun _ hi hl hb hv hp hs => by subst hl; exact memoryAccess_store_runs hi hb hv hp hs,
   fun data hi hv hs => memoryAccess_fetch_runs hi hv hs data,
   fun _ _ hi hl hb hv hs => memoryAccess_stalls_runs hi hl hb hv hs,
   fun data hi hb => memoryAccess_full_runs hi hb data,
   fun _ _ hi hv hf hr => bridgeRead_new_runs hi hv hf hr,
   fun _ _ _ _ hi hv hf hd => bridgeRead_filled_runs hi hv hf hd,
   fun _ _ _ _ ha hx hd hw hn hs hu => readaheadFill_runs ha hx hd hw hn hs hu,
   fun _ _ _ ha hx hd hp ht => readaheadExpiry_runs ha hx hd hp ht,
   fun _ ha h1 h3 => postedWriteFailure_runs ha h1 h3 _ _⟩

/-! ## Reads of registers change nothing (R11, R13) -/

/-- Only the answer of the bus and holding copies of pairs differ: nothing follows where nothing would have followed. -/
theorem State.Calm.of_reply {s : State} (h : s.Calm) (b : BusReply) (k : Tab Word) : State.Calm { s with bus := b, hold := k } :=
  State.Calm.of_same h (fun _ _ => rfl) rfl rfl rfl rfl rfl rfl

/-- Settles O59: the three branches of a register's load (a low word, a high word held, any other) each change at most the bus
and the copy of that low word. -/
theorem readsChangeNothing : Obligations.ReadsChangeNothing := by
  intro s t a addr data hc h hp hu
  have hrun : Runs (.memoryAccess t a .load addr 4 data) s _ := runs_of_powered rfl (State.Loads.awake h) (State.Loads.busLoad_eq h hp hu)
  by_cases hl : isLow addr = true
  · rw [if_pos hl] at hrun
    refine ⟨_, hrun.exec_eq (hc.of_reply _ _), rfl, fun k hk => Tab.get_set_ne _ _ _ hk, fun hn => absurd hl (by simp [hn]),
      fun _ => ⟨rfl, Tab.get_set_self ..⟩, fun hn => absurd hl (by simp [hn])⟩
  · rw [if_neg hl] at hrun
    by_cases hh : (isLow (addr - 4) && s.hold.keys.contains (holdKey a (addr - 4))) = true
    · rw [if_pos hh] at hrun
      have hlow : isLow (addr - 4) = true := ((Bool.and_eq_true _ _).mp hh).1
      exact ⟨_, hrun.exec_eq (hc.of_reply _ _), rfl, fun _ _ => rfl, fun _ => rfl, fun hn => absurd hn hl, fun _ hn => absurd hlow (by simp [hn])⟩
    · rw [if_neg hh] at hrun
      exact ⟨_, hrun.exec_eq (hc.of_reply _ _), rfl, fun _ _ => rfl, fun _ => rfl, fun hn => absurd hn hl, fun _ _ => rfl⟩

/-! ## The frame of a memory store (R7, R30, R355, R421) -/

@[simp] theorem State.written_regs (s : State) (t : Nat) (a : Acc) (addr : Nat) (data : List Byte) : (s.written t a addr data).regs = s.regs := by
  obtain ⟨_, _, e⟩ := s.written_eq t a addr data; rw [e]; rfl

@[simp] theorem State.written_prt (s : State) (t : Nat) (a : Acc) (addr : Nat) (data : List Byte) : (s.written t a addr data).prt = s.prt := by
  obtain ⟨_, _, e⟩ := s.written_eq t a addr data; rw [e]; rfl

@[simp] theorem State.written_word (s : State) (t : Nat) (a : Acc) (addr : Nat) (data : List Byte) (b : Nat) :
    (s.written t a addr data).word b = s.word b := by
  simp [State.word]

/-- Whether an access goes through the cache is a matter of the regions' registers. -/
theorem State.written_cached (s : State) (t : Nat) (a : Acc) (addr : Nat) (data : List Byte) :
    (s.written t a addr data).cached a addr = s.cached a addr := by
  obtain ⟨_, _, e⟩ := s.written_eq t a addr data; rw [e]; rfl

/-- What the accounting of a store to memory leaves. -/
theorem State.written_traffic_eq (s : State) (t : Nat) (a : Acc) (addr len : Nat) (data : List Byte) :
    ∃ r p b n, (s.written t a addr data).traffic a true addr len =
      { s.at_ t with mem := Memory.write s.mem addr data, bus := .none, regs := r, prt := p, brg := b, free := n } := by
  obtain ⟨⟨r, p, n, e⟩, -⟩ := (s.written t a addr data).traffic_accounts a true addr len
  obtain ⟨b, _, e'⟩ := s.written_eq t a addr data
  exact ⟨r, p, b, n, by rw [e, e']⟩

/-- It changes no register but the partitions' throttle counts. -/
theorem State.written_traffic_word (s : State) (t : Nat) (a : Acc) (addr len : Nat) (data : List Byte) {b : Nat}
    (hb : ∀ v, v < 16 → b ≠ R.MPC_PART_RSTAT v) : ((s.written t a addr data).traffic a true addr len).word b = s.word b := by
  rw [((s.written t a addr data).traffic_accounts a true addr len).2 b hb, State.written_word]

/-- Nothing follows a store to memory where nothing would have followed before it. -/
theorem State.Calm.written_traffic {s : State} {t : Nat} (h : (s.at_ t).Calm) (a : Acc) (addr len : Nat) (data : List Byte) :
    ((s.written t a addr data).traffic a true addr len).Calm := by
  have hw : ∀ b, 0x10C00000 ≤ b → ((s.written t a addr data).traffic a true addr len).word b = s.word b := fun b hb =>
    s.written_traffic_word t a addr len data (fun v hv => by unfold R.MPC_PART_RSTAT; omega)
  obtain ⟨_, _, _, _, e⟩ := s.written_traffic_eq t a addr len data
  refine State.Calm.of_same h hw ?_ ?_ ?_ ?_ ?_ ?_ <;> rw [e]

/-- Settles O56: the store's state is that of `State.written`, accounted for; bytes are read back by the laws of memory, and an
access that bypasses the cache charges its own holder alone. -/
theorem storeWritesExactlyItsBytes : Obligations.StoreWritesExactlyItsBytes := by
  intro s t a addr len data hi hc hm hl hb hv hp hs
  subst hl
  have hrun := (memoryAccess_store_runs hi hb hv hp hs).exec_eq (hc.written_traffic a addr _ data)
  have hmem : ((s.written t a addr data).traffic a true addr data.length).mem = Memory.write s.mem addr data := by
    obtain ⟨_, _, _, _, e⟩ := s.written_traffic_eq t a addr data.length data; rw [e]
  have hunc : s.cached a addr = false →
      (s.written t a addr data).traffic a true addr data.length = (s.written t a addr data).dramCharge (accWho a) addr data.length :=
    fun h => State.traffic_uncached _ true _ (by rw [State.written_cached, h])
  refine ⟨(s.written t a addr data).traffic a true addr data.length, hrun, ?_, ?_, ?_, ?_, ?_, ?_⟩
  · obtain ⟨_, _, _, _, e⟩ := s.written_traffic_eq t a addr data.length data
    rw [e]
  · intro i hi
    rw [State.byte, hmem, Memory.byte_write_in data hm hi]
  · intro x hx
    rw [State.byte, hmem, Memory.byte_write_out data hm hx]; rfl
  · exact fun b hb => s.written_traffic_word t a addr _ data hb
  · intro h hd
    rw [hunc h, State.dramCharge_none _ _ hd, State.written_regs, State.written_prt]
    exact ⟨rfl, rfl⟩
  · intro h b hb
    rw [hunc h, State.dramCharge_word _ _ _ hb, State.written_word]

/-! ## A write that is not plain: the shapers' credits (R282) -/

/-- A shaper of port 0 with credit and no frame waiting: an idle shaper's credit is drawn to 0. -/
def creditState : State :=
  { State.reset with
    dev := .running, boot.stage := .released
    regs := State.reset.regs.set (R.TSN_CBS 0 0) 0x80000001#32
    tsn.credit := State.reset.tsn.credit.set 0 5 }

/-- The Privet controller. -/
def privetAcc : Acc := ⟨0x10, false, 0, true, false⟩

/-- The credit of class 0 of port 0 after a command. -/
def creditAfter (i : Instr) (s : State) : Int :=
  match exec i s with
  | .next u => u.tsn.credit.get 0 0
  | _ => 0

/-- The write of TSN_CBS first brings the credit 5, which nothing waits to use, to its instant. -/
theorem creditAfter_tsnWrite : creditAfter (.registerWrite 1 privetAcc (R.TSN_CBS 0 0) 0) creditState = 0 := by decide +kernel

theorem creditState_stores : creditState.Stores 1 privetAcc (R.TSN_CBS 0 0) = true := by decide +kernel

theorem creditState_calm : (creditState.at_ 1).Calm := by
  unfold State.Calm
  decide +kernel

/-- Refutes O60: a write of a register of the TSN block acts after the shapers' credits have been brought to its instant (R282), so
that the credit 5 of the idle shaper of `creditState` becomes 0: a unit changes beside the register. -/
theorem not_plainRegisterWrite : ¬ Obligations.PlainRegisterWrite := by
  intro h
  obtain ⟨r, hr, hrwl, hst⟩ : ∃ r, regRow (R.TSN_CBS 0 0) = some r ∧ r.rwl = 0 ∧ r.staged = 0 := ⟨_, rfl, rfl, rfl⟩
  obtain ⟨u, hrun, hu, hword, -⟩ := h creditState 1 privetAcc (R.TSN_CBS 0 0) 0 r (by decide) creditState_stores hr
    (Or.inl ⟨by decide, by decide⟩) hrwl hst
  have hcalm : u.Calm := by
    refine State.Calm.of_same creditState_calm (fun b hb => hword b (by unfold R.TSN_CBS; omega)) ?_ ?_ ?_ ?_ ?_ ?_ <;> rw [hu] <;> simp
  have h0 : u.tsn.credit.get 0 0 = 0 := by
    have := creditAfter_tsnWrite
    rw [creditAfter, hrun.exec_eq hcalm] at this
    exact this
  have h5 : u.tsn.credit.get 0 0 = 5 := by rw [hu]; simp [creditState]
  rw [h5] at h0
  exact absurd h0 (by decide)

end Sys2Proof.Machine

/-!
PROOFS. Architecture (R16, R35-R48, R309, R409, R410, R454, R455): interrupt sources, claims and lines, the time base, the
replicas' alignment, and what reset leaves.
-/
namespace Sys2Proof.Machine

/-! ## The head of the deliverable sources (R37) -/

/-- Source `n` comes before source `m`: by a higher priority, which is a smaller PRIO, or by a number that is not larger. -/
def State.Ahead (s : State) (n m : Nat) : Prop :=
  s.rd (F.IRQ_ROUTE_PRIO n) < s.rd (F.IRQ_ROUTE_PRIO m) ∨ (s.rd (F.IRQ_ROUTE_PRIO n) = s.rd (F.IRQ_ROUTE_PRIO m) ∧ n ≤ m)

theorem State.Ahead.refl (s : State) (n : Nat) : s.Ahead n n := Or.inr ⟨rfl, Nat.le_refl n⟩

theorem State.Ahead.trans {s : State} {n m k : Nat} (h1 : s.Ahead n m) (h2 : s.Ahead m k) : s.Ahead n k := by
  unfold State.Ahead at *
  omega

/-- Of two sources in rising order `irqBetter` keeps one that is ahead of both. -/
theorem State.irqBetter_some (s : State) {m x : Nat} (hlt : m < x) :
    ∃ k, s.irqBetter (some m) x = some k ∧ (k = m ∨ k = x) ∧ s.Ahead k m ∧ s.Ahead k x := by
  by_cases hp : s.rd (F.IRQ_ROUTE_PRIO x) < s.rd (F.IRQ_ROUTE_PRIO m)
  · exact ⟨x, by simp [State.irqBetter, hp], Or.inr rfl, Or.inl hp, .refl s x⟩
  · exact ⟨m, by simp [State.irqBetter, hp], Or.inl rfl, .refl s m, by unfold State.Ahead; omega⟩

/-- The choice among sources in rising order, from a first one, is one of them and ahead of them all. -/
theorem State.foldl_irqBetter (s : State) : ∀ (l : List Nat) (m : Nat), (m :: l).Pairwise (· < ·) →
    ∃ n ∈ m :: l, l.foldl (fun b n => s.irqBetter b n) (some m) = some n ∧ ∀ x ∈ m :: l, s.Ahead n x
  | [], m, _ => ⟨m, by simp, rfl, by simp [State.Ahead.refl]⟩
  | x :: l, m, h => by
    obtain ⟨hm, hx, hl⟩ : (∀ y ∈ x :: l, m < y) ∧ (∀ y ∈ l, x < y) ∧ l.Pairwise (· < ·) := by
      simpa only [List.pairwise_cons] using h
    obtain ⟨k, hk, hor, hkm, hkx⟩ := s.irqBetter_some (hm x (by simp))
    have hsorted : (k :: l).Pairwise (· < ·) := by
      refine List.pairwise_cons.mpr ⟨fun y hy => ?_, hl⟩
      rcases hor with rfl | rfl
      · exact hm y (by simp [hy])
      · exact hx y hy
    obtain ⟨n, hn, hfold, hbest⟩ := s.foldl_irqBetter l k hsorted
    have hnk : s.Ahead n k := hbest k (by simp)
    refine ⟨n, ?_, by rw [List.foldl_cons, hk, hfold], ?_⟩
    · rcases hor with rfl | rfl <;> simp at hn ⊢ <;> tauto
    · intro y hy
      rcases List.mem_cons.mp hy with rfl | hy
      · exact hnk.trans hkm
      rcases List.mem_cons.mp hy with rfl | hy
      · exact hnk.trans hkx
      · exact hbest y (by simp [hy])

/-- The sources that can be delivered to a requester, in rising order. -/
def State.deliverables (s : State) (b : Nat) : List Nat := (List.range 1024).filter (fun n => s.irqDeliverable b n)

theorem State.mem_deliverables {s : State} {b n : Nat} : n ∈ s.deliverables b ↔ n < 1024 ∧ s.irqDeliverable b n = true := by
  simp [State.deliverables]

/-- The head is ahead of every deliverable source; there is none exactly where no source is deliverable. -/
theorem State.irqHead_cases (s : State) (b : Nat) :
    (s.irqHead b = none ∧ s.deliverables b = []) ∨
    ∃ n ∈ s.deliverables b, s.irqHead b = some n ∧ ∀ m ∈ s.deliverables b, s.Ahead n m := by
  have hsorted : (s.deliverables b).Pairwise (· < ·) := List.pairwise_lt_range.filter _
  have hhead : s.irqHead b = (s.deliverables b).foldl (fun b n => s.irqBetter b n) none := rfl
  rw [hhead]
  cases hl : s.deliverables b with
  | nil => exact Or.inl ⟨rfl, rfl⟩
  | cons m l => exact Or.inr (s.foldl_irqBetter l m (hl ▸ hsorted))

theorem State.irqHead_some {s : State} {b n : Nat} (h : s.irqHead b = some n) :
    n ∈ s.deliverables b ∧ ∀ m ∈ s.deliverables b, s.Ahead n m := by
  rcases s.irqHead_cases b with ⟨hnone, -⟩ | ⟨k, hk, hsome, hbest⟩
  · simp [hnone] at h
  · obtain rfl : k = n := by simpa [hsome] using h
    exact ⟨hk, hbest⟩

theorem State.irqHead_none {s : State} {b : Nat} (h : s.irqHead b = none) : s.deliverables b = [] := by
  rcases s.irqHead_cases b with ⟨-, hnil⟩ | ⟨k, -, hsome, -⟩
  · exact hnil
  · simp [hsome] at h

theorem State.irqHead_isSome_iff (s : State) (b : Nat) :
    (s.irqHead b).isSome = true ↔ ∃ m, m < 1024 ∧ s.irqDeliverable b m = true := by
  simp only [← State.mem_deliverables]
  rcases s.irqHead_cases b with ⟨hnone, hnil⟩ | ⟨n, hn, hsome, -⟩
  · simp [hnone, hnil]
  · simp only [hsome, Option.isSome_some, true_iff]
    exact ⟨n, hn⟩

/-! ## The interrupt lines of the application cores (R409, R410, R454, R455) -/

theorem State.virtLine_iff (s : State) (c : Nat) :
    s.virtLine c = true ↔ s.rdb (F.MPC_CORE_PART_VALID c) = true ∧ s.inCall c = false ∧
      (s.pst (s.rd (F.MPC_CORE_PART_PART c)) = psSTARTING ∨ s.pst (s.rd (F.MPC_CORE_PART_PART c)) = psREADY) ∧
      ∃ m, m < 1024 ∧ s.irqDeliverable (s.rd (F.MPC_CORE_PART_PART c)) m = true := by
  rw [← State.irqHead_isSome_iff]
  simp only [State.virtLine, Bool.and_eq_true, Bool.or_eq_true, Bool.not_eq_true', beq_iff_eq]
  exact ⟨fun ⟨⟨⟨hv, hp⟩, hm⟩, hc⟩ => ⟨hv, hc, hp, hm⟩, fun ⟨hv, hc, hp, hm⟩ => ⟨⟨⟨hv, hp⟩, hm⟩, hc⟩⟩

theorem State.noteLine_iff (s : State) (c : Nat) :
    s.noteLine c = true ↔ (s.hnote c ≠ 0 ∨ s.rd F.MPC_PEVT_CHG ≠ 0) ∧ s.inCall c = false := by
  simp [State.noteLine]

theorem State.secLine_iff (s : State) (c : Nat) :
    s.secLine c = true ↔ bitOf (s.rd F.MPC_GW_CFG_SEC_CORES) c = true ∧ s.secState = 1 ∧
      ∃ m, m < 1024 ∧ s.irqDeliverable 0x10 m = true := by
  rw [← State.irqHead_isSome_iff]
  simp only [State.secLine, Bool.and_eq_true, beq_iff_eq, and_assoc]

/-- Settles O3: the head by the fold over the deliverable sources, the lines by its existence. -/
theorem claimTakesHighestPriority : Obligations.ClaimTakesHighestPriority := by
  intro s b
  refine ⟨fun n h => ?_, fun h m hm => ?_, fun c v hv => hv ▸ s.virtLine_iff c, s.noteLine_iff, s.secLine_iff⟩
  · obtain ⟨hn, hbest⟩ := State.irqHead_some h
    obtain ⟨hlt, hd⟩ := State.mem_deliverables.mp hn
    exact ⟨hlt, hd, fun m hm hdm => hbest m (State.mem_deliverables.mpr ⟨hm, hdm⟩)⟩
  · have hnot : m ∉ s.deliverables b := by simp [State.irqHead_none h]
    rw [State.mem_deliverables] at hnot
    simpa [hm] using hnot

/-! ## Writes to the interrupt distributor and the time base (R36-R38, R47) -/

/-- A store that reaches a register of the interrupt distributor or of the time base is that block's write. -/
theorem State.Stores.busStore_irqTbs {s : State} {t : Nat} {a : Acc} {addr : Nat} (h : s.Stores t a addr = true)
    (h1 : 0x10030000 ≤ addr) (h2 : addr ≤ 0x1004FFFF) (hyp : Bool) (v : Nat) :
    (s.at_ t).busStore a hyp addr (bytesLE 4 v) =
      if addr ≤ 0x1003FFFF then (s.posted t a addr).irqWrite a addr (v % 2 ^ 32)
      else (s.posted t a addr).tbsWrite a addr (v % 2 ^ 32) := by
  obtain ⟨hb, hp⟩ := State.Stores.admits h
  obtain ⟨hw, hr, hc, hl⟩ := plain_of_low (a := addr) (by omega) (by omega)
  rw [State.busStore_reg h, State.regStore]
  simp only [hb, hp, hw, hr, hc, hl, Bool.not_true, Bool.false_eq_true, if_false]
  rw [if_neg (by omega), if_neg (by omega)]
  by_cases hirq : addr ≤ 0x1003FFFF
  · rw [if_pos ⟨h1, hirq⟩, if_pos hirq]
  · rw [if_neg (by omega), if_pos ⟨by omega, h2⟩, if_neg hirq]

/-- IRQ_EOI of a source: the end of its activity where the requester has it and it is active. -/
theorem State.irqWrite_eoi (s : State) (a : Acc) {n : Nat} (hn : n < 1024) :
    s.irqWrite a R.IRQ_EOI n =
      if !a.dev && s.irqMine (s.accBank a) n && s.irq.active.get false n then
        { s with irq.active := s.irq.active.set n false }
      else s := by
  simp [State.irqWrite, Nat.mod_eq_of_lt hn]

/-- IRQ_DOORBELL of a source: it triggers where the requester may ring it. -/
theorem State.irqWrite_doorbell (s : State) (a : Acc) {n : Nat} (hn : n < 1024) :
    s.irqWrite a R.IRQ_DOORBELL n = if s.mayRing a n then s.trig n else s.refuseAcc a 2 R.IRQ_DOORBELL := by
  simp [State.irqWrite, Nat.mod_eq_of_lt hn, R.IRQ_DOORBELL, R.IRQ_EOI, R.IRQ_PMASK]

theorem irqEoi_eq {s : State} {t n : Nat} {a : Acc} (h : s.Stores t a R.IRQ_EOI = true) (hn : n < 1024) :
    irqEoi t a n s = (s.posted t a R.IRQ_EOI).irqWrite a R.IRQ_EOI n := by
  rw [irqEoi, State.Stores.busStore_irqTbs h (by decide) (by decide), if_pos (by decide), Nat.mod_eq_of_lt (by omega)]

theorem irqDoorbell_eq {s : State} {t n : Nat} {a : Acc} (h : s.Stores t a R.IRQ_DOORBELL = true) (hn : n < 1024) :
    irqDoorbell t a n s = (s.posted t a R.IRQ_DOORBELL).irqWrite a R.IRQ_DOORBELL n := by
  rw [irqDoorbell, State.Stores.busStore_irqTbs h (by decide) (by decide), if_pos (by decide), Nat.mod_eq_of_lt (by omega)]

/-! ## Claims (R37) -/

/-- The state in which the head `n` of a requester has been claimed (R37). -/
def State.claimed (s : State) (t n : Nat) : State :=
  { s.polled t with
    bus := .data (2 ^ 31 + (s.polled t).rd (F.IRQ_ROUTE_PRIO n) * 2 ^ 16 + n),
    irq.pend := s.irq.pend.set n false, irq.active := s.irq.active.set n true }

theorem State.irqHeadWord_some {s : State} {b n : Nat} (h : s.irqHead b = some n) :
    s.irqHeadWord b = 2 ^ 31 + s.rd (F.IRQ_ROUTE_PRIO n) * 2 ^ 16 + n := by
  unfold State.irqHeadWord
  split
  next k hk => rw [Option.some.inj (hk.symm.trans h)]
  next hk => simp [hk] at h

/-- A claim of a requester that has a head. -/
theorem State.irqClaim_some {s : State} {a : Acc} {n : Nat} (hd : a.dev = false) (hh : s.irqHead (s.accBank a) = some n) :
    s.irqClaim a = { s with
      bus := .data (2 ^ 31 + s.rd (F.IRQ_ROUTE_PRIO n) * 2 ^ 16 + n),
      irq.pend := s.irq.pend.set n false, irq.active := s.irq.active.set n true } := by
  simp [State.irqClaim, State.replyData, hd, hh, State.irqHeadWord_some hh]

/-- IRQ_CLAIM_POP of a requester that has a head. -/
theorem irqClaimPop_eq {s : State} {t n : Nat} {a : Acc} (h : s.Loads t a R.IRQ_CLAIM_POP = true) (hd : a.dev = false)
    (hh : (s.polled t).irqHead ((s.polled t).accBank a) = some n) : irqClaimPop t a s = s.claimed t n := by
  obtain ⟨hb, hp⟩ := State.Loads.admits h
  rw [irqClaimPop, State.busLoad_reg h, State.regLoad, if_neg (by simp [hb]), if_neg (by simp [hp]), if_pos rfl,
    State.irqClaim_some hd hh]
  rfl

/-! ## The interrupt rows -/

theorem irqSourceTrigger_edge_runs {s : State} {t n : Nat} (ha : s.Awake) (hr : reservedSource n = false)
    (hl : levelSource n = false) : Runs (.irqSourceTrigger t n true) s ((s.at_ t).trig n) :=
  runs_of_powered rfl ha (by simp [irqSourceTrigger, hr, hl, show s.asleep = false from ha])

theorem irqSourceTrigger_level_runs {s : State} {t n : Nat} (ha : s.Awake) (hr : reservedSource n = false)
    (hl : levelSource n = true) (on : Bool) :
    Runs (.irqSourceTrigger t n on) s { s.at_ t with irq.line := s.irq.line.set n on } :=
  runs_of_powered rfl ha (by simp [irqSourceTrigger, hr, hl, show s.asleep = false from ha])

theorem irqClaimPop_runs {s : State} {t n : Nat} {a : Acc} (h : s.Loads t a R.IRQ_CLAIM_POP = true) (hd : a.dev = false)
    (hh : (s.polled t).irqHead ((s.polled t).accBank a) = some n) : Runs (.irqClaimPop t a) s (s.claimed t n) :=
  runs_of_powered rfl (State.Loads.awake h) (irqClaimPop_eq h hd hh)

theorem irqEoi_mine_runs {s : State} {t n : Nat} {a : Acc} (h : s.Stores t a R.IRQ_EOI = true) (hn : n < 1024) (hd : a.dev = false)
    (hm : (s.posted t a R.IRQ_EOI).irqMine ((s.posted t a R.IRQ_EOI).accBank a) n = true) (hact : s.irq.active.get false n = true) :
    Runs (.irqEoi t a n) s { s.posted t a R.IRQ_EOI with irq.active := s.irq.active.set n false } :=
  runs_of_powered rfl (State.Stores.awake h) (by
    rw [irqEoi_eq h hn, State.irqWrite_eoi _ _ hn, if_pos (by simp [hd, hm, hact])]
    simp only [State.posted_irq])

theorem irqEoi_foreign_runs {s : State} {t n : Nat} {a : Acc} (h : s.Stores t a R.IRQ_EOI = true) (hn : n < 1024)
    (hm : (s.posted t a R.IRQ_EOI).irqMine ((s.posted t a R.IRQ_EOI).accBank a) n = false) :
    Runs (.irqEoi t a n) s (s.posted t a R.IRQ_EOI) :=
  runs_of_powered rfl (State.Stores.awake h) (by rw [irqEoi_eq h hn, State.irqWrite_eoi _ _ hn, if_neg (by simp [hm])])

theorem irqDoorbell_runs {s : State} {t n : Nat} {a : Acc} (h : s.Stores t a R.IRQ_DOORBELL = true) (hn : n < 1024)
    (hr : (s.posted t a R.IRQ_DOORBELL).mayRing a n = true) :
    Runs (.irqDoorbell t a n) s ((s.posted t a R.IRQ_DOORBELL).trig n) :=
  runs_of_powered rfl (State.Stores.awake h) (by rw [irqDoorbell_eq h hn, State.irqWrite_doorbell _ _ hn, if_pos hr])

/-- A doorbell makes its source pending beside those that were. -/
theorem State.posted_trig (s : State) (t : Nat) (a : Acc) (addr n : Nat) :
    (s.posted t a addr).trig n = { s.posted t a addr with irq.pend := s.irq.pend.set n true } := by
  simp [State.trig]

/-- Settles O2: each clause is its row's lemma above. -/
theorem interruptCommandsComplete : Obligations.InterruptCommandsComplete := by
  intro s t n a
  refine ⟨fun on ha hr hl hon => ?_, fun on ha hr hl => irqSourceTrigger_level_runs ha hr hl on, irqClaimPop_runs, irqEoi_mine_runs,
    fun h hn hr => ?_⟩
  · subst hon
    exact irqSourceTrigger_edge_runs ha hr hl
  · rw [← State.posted_trig]
    exact irqDoorbell_runs h hn hr

/-! ## Pending and active sources (R38) -/

theorem State.irqPending_edge {s : State} {n : Nat} (h : levelSource n = false) : s.irqPending n = s.irq.pend.get false n := by
  simp [State.irqPending, h]

theorem State.irqPending_level_iff {s : State} {n : Nat} (h : levelSource n = true) :
    s.irqPending n = true ↔ s.irqLevel n = true ∧ s.irq.active.get false n = false := by
  simp [State.irqPending, h]

/-- A trigger leaves every other source's pending state. -/
theorem State.irqPending_trig_ne (s : State) {n m : Nat} (h : m ≠ n) : (s.trig n).irqPending m = s.irqPending m := by
  have hlevel : (s.trig n).irqLevel m = s.irqLevel m := rfl
  have hpend : (s.trig n).irq.pend.get false m = s.irq.pend.get false m := Tab.get_set_ne _ _ _ h
  have hact : (s.trig n).irq.active = s.irq.active := rfl
  simp only [State.irqPending, hlevel, hpend, hact]

theorem State.not_irqDeliverable_of_active {s : State} {n : Nat} (h : s.irq.active.get false n = true) (b : Nat) :
    s.irqDeliverable b n = false := by
  simp [State.irqDeliverable, h]

/-- The sources that a requester has are a matter of the registers and the device's state, which a posted store leaves. -/
theorem State.posted_irqMine (s : State) (t : Nat) (a : Acc) (addr n : Nat) :
    (s.posted t a addr).irqMine ((s.posted t a addr).accBank a) n = s.irqMine (s.accBank a) n := by
  obtain ⟨_, _, h⟩ := s.posted_eq t a addr
  rw [h]
  rfl

/-- The interrupt flags do not decide whether anything follows. -/
theorem State.Calm.of_irq {s : State} (h : s.Calm) (b : BusReply) (i : Irq) : State.Calm { s with bus := b, irq := i } :=
  State.Calm.of_same h (fun _ _ => rfl) rfl rfl rfl rfl rfl rfl

/-- Settles O53: the outcome of each row is its lemma's state, in which nothing follows. -/
theorem interruptPendingRules : Obligations.InterruptPendingRules := by
  intro s t n a hc
  refine ⟨fun ha hr hl => ?_, fun hl h hd hh => ?_, State.irqPending_level_iff, State.not_irqDeliverable_of_active,
    fun h hn hd hact => ⟨fun hm => ?_, fun hm => ?_⟩⟩
  · refine ⟨_, (irqSourceTrigger_edge_runs ha hr hl).exec_eq (hc.of_irq _ _), ?_, fun m hm => (s.at_ t).irqPending_trig_ne hm, rfl⟩
    rw [State.irqPending_edge hl]
    exact Tab.get_set_self ..
  · refine ⟨_, (irqClaimPop_runs h hd hh).exec_eq (hc.of_irq _ _), ?_, Tab.get_set_self ..⟩
    rw [State.irqPending_edge hl]
    exact Tab.get_set_self ..
  · rw [← State.posted_irqMine s t a R.IRQ_EOI n] at hm
    exact ⟨_, (irqEoi_mine_runs h hn hd hm hact).exec_eq (State.Calm.of_irq (hc.posted a _) _ _), Tab.get_set_self ..⟩
  · rw [← State.posted_irqMine s t a R.IRQ_EOI n] at hm
    exact ⟨_, (irqEoi_foreign_runs h hn hm).exec_eq (hc.posted a _), by rw [State.posted_irq]⟩

/-! ## Comparators and their registers (R47) -/

/-- A write of a comparator's control by the requester of its source arms or disarms it. -/
theorem State.tbsWrite_cmpCtl {s : State} {a : Acc} {n : Nat} (hn : n < 16) (hm : s.cmpMine a n = true) (v : Nat) :
    s.tbsWrite a (R.TBS_CMP_CTL n) v = if bitOf v 0 then s.cmpArm n else s.cmpDisarm n := by
  have hin : R.TBS_CMP_LO 0 ≤ R.TBS_CMP_CTL n ∧ R.TBS_CMP_CTL n < R.TBS_CMP_LO 16 := by
    simp only [R.TBS_CMP_LO, R.TBS_CMP_CTL]; omega
  have hidx : (R.TBS_CMP_CTL n - R.TBS_CMP_LO 0) / 0x10 = n := by
    simp only [R.TBS_CMP_LO, R.TBS_CMP_CTL]; omega
  simp [State.tbsWrite, hin, hidx, hm]

section
variable {s : State} {t n : Nat} {a : Acc} (hn : n < 16) (h : s.Stores t a (R.TBS_CMP_CTL n) = true)
  (hm : (s.posted t a (R.TBS_CMP_CTL n)).cmpMine a n = true)
include hn h hm

/-- A store to a comparator's control that reaches it. -/
theorem State.Stores.busStore_cmpCtl (v : Nat) :
    (s.at_ t).busStore a false (R.TBS_CMP_CTL n) (bytesLE 4 v) =
      if bitOf (v % 2 ^ 32) 0 then (s.posted t a (R.TBS_CMP_CTL n)).cmpArm n else (s.posted t a (R.TBS_CMP_CTL n)).cmpDisarm n := by
  have haddr : R.TBS_CMP_CTL n = 0x10040108 + 0x10 * n := rfl
  rw [State.Stores.busStore_irqTbs h (by omega) (by omega), if_neg (by omega), State.tbsWrite_cmpCtl hn hm]

theorem tbsCmpArm_runs : Runs (.tbsCmpArm t a n) s ((s.posted t a (R.TBS_CMP_CTL n)).cmpArm n) :=
  runs_of_powered rfl (State.Stores.awake h) (by rw [tbsCmpArm, if_pos hn, State.Stores.busStore_cmpCtl hn h hm, if_pos (by decide)])

theorem tbsCmpDisarm_runs : Runs (.tbsCmpDisarm t a n) s ((s.posted t a (R.TBS_CMP_CTL n)).cmpDisarm n) :=
  runs_of_powered rfl (State.Stores.awake h)
    (by rw [tbsCmpDisarm, if_pos hn, State.Stores.busStore_cmpCtl hn h hm, if_neg (by decide)])

end

/-- COMPARATOR_FIRE of an armed comparator whose value the count has reached. -/
theorem comparatorFire_runs {s : State} {t n : Nat} (ha : s.Awake) (hn : n < 16) (harm : (s.cmp_ n).armed = true)
    (hv : (s.cmp_ n).value ≤ t) : Runs (.comparatorFire t n) s ((s.at_ t).cmpFire n false) := by
  have hdue : n < 16 ∧ ((s.at_ t).cmp_ n).armed = true ∧ ((s.at_ t).cmp_ n).value ≤ (s.at_ t).now :=
    ⟨hn, harm, hv.trans (State.le_at_now ha t)⟩
  exact runs_of_powered rfl ha (by rw [comparatorFire, if_pos hdue])

/-! ## The count and its source (R40-R46) -/

/-- ALIGNMENT_WORD, in the order of its parts. -/
theorem alignmentWord_runs {s : State} (ha : s.Awake) (t : Nat) (bad : List Nat) :
    Runs (.alignmentWord t bad) s
      (foldS (List.range 16) (fun n s => s.cmpArmAt n) ((((s.at_ t).takeStep.alignAll bad).slewOn).releaseAll)) := by
  have hon : ¬ ((s.at_ t).dev = .sleep ∨ (s.at_ t).dev = .off) := by
    simpa [State.Awake, State.asleep] using ha
  exact runs_of_powered rfl ha (by rw [alignmentWord, if_neg hon])

/-- A measured source disciplines the master. -/
theorem sourceMeasurement_runs {s : State} (ha : s.Awake) (hsrc : s.rd F.TBS_CFG_SOURCE = 1 ∨ s.rd F.TBS_CFG_SOURCE = 2) (t : Nat)
    (off : Int) : Runs (.sourceMeasurement t off) s ((s.at_ t).measureSource off) :=
  runs_of_powered rfl ha (if_pos hsrc)

section
variable {s : State} {off : Int} (hb : (s.wr F.TBS_OFFSET_OFFSET (offsetCode off)).rdb F.TBS_STATUS_BACKSTEP = false)
include hb

/-- An offset within the threshold is slewed, and SYNC becomes LOCKED. -/
theorem State.measureSource_within (hle : off.natAbs ≤ us ((s.wr F.TBS_OFFSET_OFFSET (offsetCode off)).rd F.TBS_CFG_STEP_THRESH)) :
    s.measureSource off = ((s.wr F.TBS_OFFSET_OFFSET (offsetCode off)).slew off).wr F.TBS_STATUS_SYNC 2 := by
  simp [State.measureSource, hb, hle, syLOCKED]

/-- A source ahead by more than the threshold schedules a forward step. -/
theorem State.measureSource_forward (hlt : us ((s.wr F.TBS_OFFSET_OFFSET (offsetCode off)).rd F.TBS_CFG_STEP_THRESH) < off.natAbs)
    (hpos : 0 < off) :
    s.measureSource off =
      { s.wr F.TBS_OFFSET_OFFSET (offsetCode off) with tb.step := some { back := false, by_ := off.natAbs } } := by
  simp [State.measureSource, hb, Nat.not_le.mpr hlt, hpos]

end

/-- SOURCE_LOSS after lock. -/
theorem sourceLoss_runs {s : State} (ha : s.Awake) (hl : s.rd F.TBS_STATUS_SYNC = 2) (t : Nat) :
    Runs (.sourceLoss t) s ((s.at_ t).wr F.TBS_STATUS_SYNC 3) :=
  runs_of_powered rfl ha (if_pos hl)

/-- Settles O4: each clause is its row's lemma above. -/
theorem timeBaseCommandsComplete : Obligations.TimeBaseCommandsComplete := by
  intro s t
  refine ⟨fun bad ha => alignmentWord_runs ha t bad, fun ha => runs_of_powered rfl ha rfl, fun off u ha hsrc hu hb => ?_,
    fun ha hl => sourceLoss_runs ha hl t, fun n ha hn harm hv => comparatorFire_runs ha hn harm hv, fun a n u hn h hm hu => ?_,
    fun a n hn h hm => tbsCmpDisarm_runs hn h hm⟩
  · subst hu
    have hrun := sourceMeasurement_runs ha hsrc t off
    exact ⟨fun hle => State.measureSource_within hb hle ▸ hrun, fun hlt hpos => State.measureSource_forward hb hlt hpos ▸ hrun⟩
  · subst hu
    exact tbsCmpArm_runs hn h hm

/-! ## Losing and regaining alignment (R40) -/

/-- The word that makes an aligned replica lose its alignment is the third in a row beyond the limit. -/
theorem Replica.word_bad {r : Replica} (h : r.aligned = true) (t : Nat) :
    r.word true t = if 2 ≤ r.badRun then { r with aligned := false, badRun := 3, goodRun := 0, lostAt := t }
      else { r with badRun := r.badRun + 1 } := by
  simp [Replica.word, h]

theorem Replica.word_good {r : Replica} (h : r.aligned = true) (t : Nat) : r.word false t = { r with badRun := 0 } := by
  simp [Replica.word, h]

/-- A replica that is not aligned starts its count again at a word beyond the limit. -/
theorem Replica.word_bad_lost {r : Replica} (h : r.aligned = false) (t : Nat) : r.word true t = { r with goodRun := 0 } := by
  simp [Replica.word, h]

/-- A replica that lost its alignment regains it at the third word in a row within the limit. -/
theorem Replica.word_good_lost {r : Replica} (h : r.aligned = false) (h3 : r.badRun = 3) (t : Nat) :
    r.word false t = if 2 ≤ r.goodRun then { r with aligned := true, badRun := 0, goodRun := 0 }
      else { r with goodRun := r.goodRun + 1 } := by
  simp [Replica.word, h, h3]

/-- Settles O5: the words one after the other, by what one word does. -/
theorem replicaAlignment : Obligations.ReplicaAlignment := by
  intro r a b c d
  refine ⟨fun h h0 => ?_, fun h h3 h0 => ?_⟩
  · simp [Replica.word_bad, Replica.word_good, h, h0]
  · simp [Replica.word_bad_lost, Replica.word_good_lost, h, h3, h0]

/-! ## Reset (R16, R37, R48, R309) -/

/-- No register has been written at reset. -/
theorem State.reset_word (a : Nat) : State.reset.word a = resetWord a := rfl

theorem State.reset_rd (f : Fld) : State.reset.rd f = (resetWord f.reg).field f.lo f.len := rfl

/-- A row covers its registers. -/
theorem RegRow.covers_at (r : RegRow) {i j : Nat} (hi : i < r.cnt1) (hj : j < r.cnt2) (h2 : 0 < r.st2) (h1 : r.st2 * j < r.st1) :
    r.covers (r.base + (r.st1 * i + r.st2 * j)) = true := by
  have hpos : 0 < r.st1 := by omega
  have hdiv : (r.st1 * i + r.st2 * j) / r.st1 = i := by
    rw [Nat.mul_add_div hpos, Nat.div_eq_of_lt h1, Nat.add_zero]
  have hmod : (r.st1 * i + r.st2 * j) % r.st1 = r.st2 * j := by
    rw [Nat.mul_add_mod, Nat.mod_eq_of_lt h1]
  simp [RegRow.covers, hdiv, hmod, Nat.mul_div_cancel_left j h2, hi, hj]

/-- A row that leads its block's table is the one of the addresses it covers. -/
theorem regRow_of_head {a : Nat} {r : RegRow} {l : List RegRow} (h : rowsOf a = r :: l) (hc : r.covers a = true) : regRow a = some r := by
  simp [regRow, h, hc]

/-- The cells' registers lie in the range of the bank controllers. -/
theorem rowsOf_cellCfg0 {n : Nat} (h : n < 512) : rowsOf (R.PFB_CELL_CFG0 n) = rowsBank := by
  have hlo : 0x10810000 ≤ R.PFB_CELL_CFG0 n ∧ R.PFB_CELL_CFG0 n ≤ 0x108FFFFF := by simp only [R.PFB_CELL_CFG0]; omega
  unfold rowsOf
  repeat rw [if_neg (by omega)]
  rw [if_pos hlo]

/-- Every cell's first configuration word resets to the same value. -/
theorem resetWord_cellCfg0 {n : Nat} (h : n < 512) : resetWord (R.PFB_CELL_CFG0 n) = 0x14930108#32 := by
  have haddr : R.PFB_CELL_CFG0 n = 0x10810100 + (0x1000 * (n / 16) + 0x20 * (n % 16)) := by rw [R.PFB_CELL_CFG0, Nat.add_assoc]
  have hrow := regRow_of_head (rowsOf_cellCfg0 h) (by
    rw [haddr]
    exact RegRow.covers_at _ (by dsimp only; omega) (by dsimp only; omega) (by decide) (by dsimp only; omega))
  rw [resetWord, hrow]
  simp

theorem reset_mbxId : ∀ w, w < 16 → State.reset.rd (F.MBX_ID_WINDOW w) = w ∧ State.reset.rd (F.MBX_ID_SECURE w) = 0 ∧
    State.reset.rd (F.MBX_ID_MAXFLIGHT w) = 64 := by decide

theorem reset_mbxId_secure : State.reset.rd (F.MBX_ID_WINDOW 16) = 16 ∧ State.reset.rd (F.MBX_ID_SECURE 16) = 1 ∧
    State.reset.rd (F.MBX_ID_MAXFLIGHT 16) = 64 := by decide

theorem reset_cellCfg0 {n : Nat} (h : n < 512) : State.reset.rd (F.PFB_CELL_CFG0_ILIM n) = 8 ∧
    State.reset.rd (F.PFB_CELL_CFG0_OC_BLANK n) = 4 ∧ State.reset.rd (F.PFB_CELL_CFG0_RETRIES n) = 3 := by
  simp only [State.reset_rd, F.PFB_CELL_CFG0_ILIM, F.PFB_CELL_CFG0_OC_BLANK, F.PFB_CELL_CFG0_RETRIES, resetWord_cellCfg0 h]
  decide

/-- A CAN bit of 80 MHz / 500 kbit/s (R309). -/
theorem reset_canBit : ∀ c, c < 16 → (State.reset.rd (F.CAN_NBT_NBRP c) + 1) *
    (1 + (State.reset.rd (F.CAN_NBT_NTSEG1 c) + 1) + (State.reset.rd (F.CAN_NBT_NTSEG2 c) + 1)) = 160 := by decide

theorem reset_mbxDisabled : ∀ w, w < 17 → State.reset.rdb (F.MBX_CTL_ENABLE w) = false := by decide

/-- Settles O52: at reset nothing has been written, so that each value is the one of the register tables or of an empty table. -/
theorem resetValues : Obligations.ResetValues :=
  ⟨State.reset_word, reset_mbxId, reset_mbxId_secure, fun _ => rfl, fun _ => reset_cellCfg0, by decide, reset_canBit,
    fun w hw => reset_mbxDisabled w (Nat.lt_succ_of_le hw), rfl, rfl, rfl, fun _ => rfl⟩

end Sys2Proof.Machine

/-!
PROOFS. The mailbox windows (R48-R81, R363, R366): what every row does in SLEEP, the registers of a window, requests that are not taken
or refused, commands that wait or were forwarded, and the device and cell commands.
-/
namespace Sys2Proof.Machine

/-! ## What every row is (R66, R79, R363, R561) -/

/-- Every row but the events that reach a sleeping module acts while the block acts. -/
theorem exec_eq_powered {i : Instr} (h : actsAsleep i = false) : ∃ t f, exec i = powered t f := by
  cases i
  case sleepPowerDownComplete | wakeInEvent | ignSenseEvent | rtcAlarm | canWakePattern | canWakeFrame | canFecOverflow | linWakeDominant |
    ethTc10Wake | chainWakePulse | wakeOutPulseEnd | tamperSensorEvent | powerOnReset | feedReverse | highestFeedLow | holdUpExpiry |
    lineInputChange | tamperConditionEnd | canFrameValid | canBusError => cases h
  all_goals exact ⟨_, _, rfl⟩

/-- In SLEEP and without supply such a row only lets time pass. -/
theorem powered_asleep {s : State} (h : s.asleep = true) (t : Nat) (f : State → State) : powered t f s = .next (s.at_ t) := by
  rw [powered, if_pos h]

/-- Settles O57: in SLEEP a row that acts while the block acts leaves the state but for its instant. -/
theorem sleepingBlockIgnoresCommands : Obligations.SleepingBlockIgnoresCommands := by
  intro i s hs hi
  obtain ⟨t, f, he⟩ := exec_eq_powered hi
  exact ⟨t, by rw [he, powered_asleep hs]⟩

/-- Outside ROM recovery the update commands are served as the others are (R561). -/
theorem romMailbox_eq_mailbox {s : State} (hs : s.boot.stage ≠ .rom) (d : CmdDef) (len : Nat) (body : Cmd → State → Res) (r : Req) :
    romMailbox d len body r s = mailbox d r s := by
  rw [romMailbox, mailbox, powered, powered, if_neg hs]

/-- Outside ROM recovery every mailbox row takes its request and serves it. -/
theorem exec_request {i : Instr} {d : CmdDef} {r : Req} {s : State} (h : request i = some (d, r)) (hs : s.boot.stage ≠ .rom) :
    exec i s = mailbox d r s := by
  cases i
  case updStatus | updBegin | updChunk | updVerify | updActivate => cases h; exact romMailbox_eq_mailbox hs _ _ _ _
  all_goals cases h
  all_goals rfl

/-! ## Writes of a window's registers (R50-R52, R55) -/

/-- A store that reaches a register of a window is the window's write. -/
theorem State.Stores.busStore_mbx {s : State} {t : Nat} {a : Acc} {w addr : Nat} (h : s.Stores t a addr = true) (hw : w ≤ 16)
    (hlo : 0x10000000 + winOff w ≤ addr) (hhi : addr < 0x10000000 + winOff w + 0x1000) (v : Nat) :
    (s.at_ t).busStore a false addr (bytesLE 4 v) = (s.posted t a addr).mbxWrite a w addr (v % 2 ^ 32) := by
  obtain ⟨hb, hp⟩ := State.Stores.admits h
  rw [State.busStore_reg h, State.regStore, window_of_window hw hlo hhi]
  simp [hb, hp]

theorem State.mbxWrite_ctl (s : State) (a : Acc) (w v : Nat) : s.mbxWrite a w (R.MBX_CTL w) v = s.mbxCtl w v := if_pos rfl

theorem State.mbxWrite_prod (s : State) (a : Acc) (w v : Nat) : s.mbxWrite a w (R.MBX_REQ_PROD w) v = s.mbxProd w v := by
  simp [State.mbxWrite, R.MBX_CTL, R.MBX_REQ_PROD]

theorem State.mbxWrite_cons (s : State) (a : Acc) (w v : Nat) : s.mbxWrite a w (R.MBX_RSP_CONS w) v = s.mbxCons w v := by
  simp [State.mbxWrite, R.MBX_CTL, R.MBX_REQ_PROD, R.MBX_RSP_CONS]

theorem State.mbxWrite_err (s : State) (a : Acc) (w v : Nat) : s.mbxWrite a w (R.MBX_ERR w) v = s.plainWrite a (R.MBX_ERR w) v := by
  simp [State.mbxWrite, R.MBX_CTL, R.MBX_REQ_PROD, R.MBX_RSP_CONS, R.MBX_ERR]

theorem setBit_zero (v : Nat) : setBit v 0 = 2 * (v / 2) + 1 := by
  apply Nat.eq_of_testBit_eq
  intro i
  cases i with
  | zero => simp [setBit]
  | succ i =>
    have h1 : (2 * (v / 2) + 1) / 2 = v / 2 := by omega
    simp [setBit, Nat.testBit_succ, Nat.or_div_two, h1]

theorem clrBit_zero (v : Nat) : clrBit v 0 = 2 * (v / 2) := by
  simp only [clrBit, Nat.testBit_zero, decide_eq_true_eq]
  split <;> omega

theorem bitOf_setBit_zero (v : Nat) : bitOf (setBit v 0 % 2 ^ 32) 0 = true := by
  rw [setBit_zero, bitOf, Nat.testBit_zero]; simp

theorem bitOf_clrBit_zero (v : Nat) : bitOf (clrBit v 0 % 2 ^ 32) 0 = false := by
  rw [clrBit_zero, bitOf, Nat.testBit_zero]; simp

/-- What is done to ENABLE leaves IRQ_EN of a control word. -/
theorem bitsOf_setBit_zero (v : Nat) : bitsOf (setBit v 0 % 2 ^ 32) 1 1 = bitsOf v 1 1 := by
  rw [setBit_zero]; simp only [bitsOf]; omega

theorem bitsOf_clrBit_zero (v : Nat) : bitsOf (clrBit v 0 % 2 ^ 32) 1 1 = bitsOf v 1 1 := by
  rw [clrBit_zero]; simp only [bitsOf]; omega

section
variable {s : State} {t : Nat} {a : Acc} {w v : Nat} (hw : w ≤ 16)
include hw

theorem mbxEnable_runs (h : s.Stores t a (R.MBX_CTL w) = true) :
    Runs (.mbxEnable t a w v) s (((s.posted t a (R.MBX_CTL w)).wr (F.MBX_CTL_IRQ_EN w) (bitsOf v 1 1)).mbxOn w) :=
  runs_of_powered rfl (State.Stores.awake h) (by
    rw [mbxEnable, if_pos hw, State.Stores.busStore_mbx h hw (by unfold R.MBX_CTL; omega) (by unfold R.MBX_CTL; omega), State.mbxWrite_ctl,
      State.mbxCtl, bitsOf_setBit_zero, if_pos (bitOf_setBit_zero v)])

theorem mbxDisable_runs (h : s.Stores t a (R.MBX_CTL w) = true) :
    Runs (.mbxDisable t a w v) s
      (((s.posted t a (R.MBX_CTL w)).wr (F.MBX_CTL_IRQ_EN w) (bitsOf v 1 1)).wrb (F.MBX_CTL_ENABLE w) false) :=
  runs_of_powered rfl (State.Stores.awake h) (by
    rw [mbxDisable, if_pos hw, State.Stores.busStore_mbx h hw (by unfold R.MBX_CTL; omega) (by unfold R.MBX_CTL; omega), State.mbxWrite_ctl,
      State.mbxCtl, bitsOf_clrBit_zero, bitOf_clrBit_zero, if_neg Bool.false_ne_true])

theorem mbxReqProdWrite_runs (hv : v < 2 ^ 32) (h : s.Stores t a (R.MBX_REQ_PROD w) = true) :
    Runs (.mbxReqProdWrite t a w v) s ((s.posted t a (R.MBX_REQ_PROD w)).mbxProd w v) :=
  runs_of_powered rfl (State.Stores.awake h) (by
    rw [mbxReqProdWrite, if_pos hw, State.Stores.busStore_mbx h hw (by unfold R.MBX_REQ_PROD; omega) (by unfold R.MBX_REQ_PROD; omega),
      State.mbxWrite_prod, Nat.mod_eq_of_lt hv])

theorem mbxRspConsWrite_runs (hv : v < 2 ^ 32) (h : s.Stores t a (R.MBX_RSP_CONS w) = true) :
    Runs (.mbxRspConsWrite t a w v) s ((s.posted t a (R.MBX_RSP_CONS w)).mbxCons w v) :=
  runs_of_powered rfl (State.Stores.awake h) (by
    rw [mbxRspConsWrite, if_pos hw, State.Stores.busStore_mbx h hw (by unfold R.MBX_RSP_CONS; omega) (by unfold R.MBX_RSP_CONS; omega),
      State.mbxWrite_cons, Nat.mod_eq_of_lt hv])

theorem mbxErrClear_runs (hv : v < 2 ^ 32) (h : s.Stores t a (R.MBX_ERR w) = true) :
    Runs (.mbxErrClear t a w v) s ((s.posted t a (R.MBX_ERR w)).plainWrite a (R.MBX_ERR w) v) :=
  runs_of_powered rfl (State.Stores.awake h) (by
    rw [mbxErrClear, if_pos hw, State.Stores.busStore_mbx h hw (by unfold R.MBX_ERR; omega) (by unfold R.MBX_ERR; omega),
      State.mbxWrite_err, Nat.mod_eq_of_lt hv])

end

/-- ENABLE written 1 with nothing in flight, by the secure world or a hosted partition (R52, R55). -/
theorem State.mbxOn_idle {u : State} {w : Nat} (hi : u.rd (F.MBX_STATUS_INFLIGHT w) = 0) (ho : w = 16 ∨ u.hosting w ≠ 0) :
    u.mbxOn w =
      let z := (((u.wr (F.MBX_REQ_PROD_PROD w) 0).wr (F.MBX_REQ_CONS_CONS w) 0).wr (F.MBX_RSP_PROD_PROD w) 0).wr (F.MBX_RSP_CONS_CONS w) 0
      if z.ringsPass w then z.wrb (F.MBX_CTL_ENABLE w) true
      else (z.wrb (F.MBX_CTL_ENABLE w) false).wrb (F.MBX_ERR_RING_ACCESS w) true := by
  have hn : ¬ (w < 16 ∧ u.hosting w = 0) := by rintro ⟨h1, h2⟩; exact ho.elim (by omega) (fun h => h h2)
  rw [State.mbxOn, if_neg (by simp [hi]), if_neg hn]

/-! ## Writes of an index (R51) -/

/-- A flag that was written. -/
theorem State.rdb_wrb_self (s : State) {f : Fld} (b : Bool) (hlo : f.lo < 32) (hlen : f.len = 1) : (s.wrb f b).rdb f = b := by
  rw [State.rdb, State.wrb, State.rd_wr_self s f _ (by omega), hlen]
  cases b <;> rfl

/-- A count that was added to. -/
theorem State.rd_sat_self (s : State) {f : Fld} (n : Nat) (h : f.lo + f.len ≤ 32) :
    (s.sat f n).rd f = min (s.rd f + n) (2 ^ f.len - 1) := by
  have hpos := Nat.two_pow_pos f.len
  rw [State.sat, State.rd_wr_self s f _ h, Nat.mod_eq_of_lt (by omega)]

/-- No register of a window decides whether anything follows. -/
theorem State.Calm.wr {s : State} (h : s.Calm) {f : Fld} (hf : f.reg < 0x10C00000) (v : Nat) : (s.wr f v).Calm :=
  State.Calm.of_same h (fun _ hb => State.word_wr_ne s f v (by omega)) rfl rfl rfl rfl rfl rfl

/-- A write of an index `f` that keeps its bounds takes the value; any other sets the flag `g`. -/
def State.indexWrite (p : State) (ok : Prop) [Decidable ok] (f g : Fld) (v : Nat) : State := if ok then p.wr f v else p.wrb g true

theorem State.mbxProd_eq (p : State) (w v : Nat) :
    p.mbxProd w v = p.indexWrite
      ((p.rd (F.MBX_REQ_PROD_PROD w) + 65536 - p.rd (F.MBX_REQ_CONS_CONS w)) % 65536 ≤ (v % 65536 + 65536 - p.rd (F.MBX_REQ_CONS_CONS w)) % 65536 ∧
        (v % 65536 + 65536 - p.rd (F.MBX_REQ_CONS_CONS w)) % 65536 ≤ 64)
      (F.MBX_REQ_PROD_PROD w) (F.MBX_ERR_PROD_JUMP w) v := rfl

theorem State.mbxCons_eq (p : State) (w v : Nat) :
    p.mbxCons w v = p.indexWrite
      ((v % 65536 + 65536 - p.rd (F.MBX_RSP_CONS_CONS w)) % 65536 ≤ (p.rd (F.MBX_RSP_PROD_PROD w) + 65536 - p.rd (F.MBX_RSP_CONS_CONS w)) % 65536)
      (F.MBX_RSP_CONS_CONS w) (F.MBX_ERR_CONS_JUMP w) v := rfl

section
variable {p : State} {ok : Prop} [Decidable ok] {f g : Fld} {v : Nat}

theorem State.indexWrite_ok (h : ok) : p.indexWrite ok f g v = p.wr f v := if_pos h

theorem State.indexWrite_jump (h : ¬ ok) : p.indexWrite ok f g v = p.wrb g true := if_neg h

/-- Only the index's register and the flag's change. -/
theorem State.indexWrite_word {b : Nat} (hf : b ≠ f.reg) (hg : b ≠ g.reg) : (p.indexWrite ok f g v).word b = p.word b := by
  unfold State.indexWrite
  split
  · exact State.word_wr_ne p f v hf
  · exact State.word_wr_ne p g _ hg

/-- Nothing follows the write of an index of a window. -/
theorem State.Calm.indexWrite (hc : p.Calm) (hf : f.reg < 0x10C00000) (hg : g.reg < 0x10C00000) : (p.indexWrite ok f g v).Calm := by
  unfold State.indexWrite
  split
  · exact hc.wr hf v
  · exact hc.wr hg _

end

/-- What the write of an index comes to, read through its registers. -/
structure IndexOutcome (s u : State) (ok : Prop) (f g : Fld) (v : Nat) : Prop where
  frame : ∀ b, b ≠ f.reg → b ≠ g.reg → u.word b = s.word b
  taken : ok → u.rd f = v % 2 ^ f.len ∧ u.word g.reg = s.word g.reg
  jump : ¬ ok → u.rd f = s.rd f ∧ u.rdb g = true

/-- A row that comes to the write of an index answers its outcome where nothing follows. -/
theorem Runs.indexOutcome {i : Instr} {s : State} {t addr : Nat} {a : Acc} {ok : Prop} [Decidable ok] {f g : Fld} {v : Nat}
    (h : Runs i s ((s.posted t a addr).indexWrite ok f g v)) (hc : (s.at_ t).Calm) (hne : f.reg ≠ g.reg) (hflow : f.reg < 0x10C00000)
    (hglow : g.reg < 0x10C00000) (hf : f.lo + f.len ≤ 32) (hg : g.lo < 32) (hg1 : g.len = 1) :
    ∃ u, exec i s = .next u ∧ IndexOutcome s u ok f g v := by
  refine ⟨_, h.exec_eq ((hc.posted a addr).indexWrite hflow hglow), fun b h1 h2 => ?_, fun hok => ?_, fun hok => ?_⟩
  · rw [State.indexWrite_word h1 h2, State.posted_word]
  · rw [State.indexWrite_ok hok, State.rd_wr_self _ _ _ hf, State.word_wr_ne _ _ _ hne.symm, State.posted_word]
    exact ⟨rfl, rfl⟩
  · rw [State.indexWrite_jump hok, State.wrb, State.rd_wr_reg _ _ hne, State.posted_rd]
    exact ⟨rfl, State.rdb_wrb_self _ true hg hg1⟩

/-- Settles O7: each clause is its row's lemma, with the branch of the write that its hypotheses select. -/
theorem mailboxRegisterCommandsComplete : Obligations.MailboxRegisterCommandsComplete := by
  intro s t a w v hw hv
  refine ⟨?_, mbxDisable_runs hw, ?_, ?_, mbxErrClear_runs hw hv⟩
  · intro u z h hu hi ho hz
    have hrun := mbxEnable_runs (v := v) hw h
    rw [← hu, State.mbxOn_idle hi ho] at hrun
    subst hz
    exact ⟨fun hpass => by simpa only [hpass, if_true] using hrun, fun hfail => by simpa [hfail] using hrun⟩
  · intro p c h hp hc
    have hrun := mbxReqProdWrite_runs hw hv h
    rw [State.mbxProd_eq, State.posted_rd, State.posted_rd, ← hp, ← hc] at hrun
    exact ⟨fun h1 h2 => by rwa [State.indexWrite_ok ⟨h1, h2⟩] at hrun, fun hn => by rwa [State.indexWrite_jump hn] at hrun⟩
  · intro p c h hp hc
    have hrun := mbxRspConsWrite_runs hw hv h
    rw [State.mbxCons_eq, State.posted_rd, State.posted_rd, ← hp, ← hc] at hrun
    exact ⟨fun h1 => by rwa [State.indexWrite_ok h1] at hrun, fun hn => by rwa [State.indexWrite_jump (Nat.not_le.mpr hn)] at hrun⟩

/-! ## Requests that may be taken (R51, R60) -/

/-- A request is taken only while a response slot is free. -/
theorem State.canTake_room {s : State} {w : Nat} (h : s.canTake w = true) :
    w ≤ 16 ∧ (s.rd (F.MBX_REQ_CONS_CONS w) + 0x10000 - s.rd (F.MBX_RSP_CONS_CONS w)) % 0x10000 < 64 := by
  simp only [State.canTake, State.hasReq, Bool.and_eq_true, decide_eq_true_eq] at h
  obtain ⟨⟨⟨⟨⟨⟨⟨⟨hw, -⟩, -⟩, -⟩, hroom⟩, -⟩, -⟩, -⟩, -⟩ := h
  exact ⟨hw, hroom⟩

/-- A row whose request may not be taken only lets time pass. -/
theorem mailbox_of_not_canTake {s : State} {d : CmdDef} {r : Req} (h : (s.at_ r.t).canTake r.win = false) (hc : (s.at_ r.t).Calm) :
    mailbox d r s = .next (s.at_ r.t) := by
  have hserve : s.serve d r = s.at_ r.t := by simp [State.serve, h]
  by_cases ha : s.asleep = true
  · exact powered_asleep ha _ _
  · rw [mailbox, powered_awake (by simpa using ha), hserve, State.settle_of_calm hc]

/-- Settles O54: the writes by the outcome of an index's write, the requests by the room that taking one needs. -/
theorem mailboxIndexRules : Obligations.MailboxIndexRules := by
  intro s t a w v hw hv hc
  have hoff := winOff_cases hw
  refine ⟨⟨State.rd_lt .., State.rd_lt .., State.rd_lt .., State.rd_lt ..⟩, fun h => ?_, fun h => ?_, ?_, ?_⟩
  · have hregs : R.MBX_REQ_PROD w ≠ R.MBX_ERR w ∧ R.MBX_REQ_PROD w < 0x10C00000 ∧ R.MBX_ERR w < 0x10C00000 := by unfold R.MBX_REQ_PROD R.MBX_ERR; omega
    have hrun := mbxReqProdWrite_runs hw hv h
    rw [State.mbxProd_eq, State.posted_rd, State.posted_rd] at hrun
    obtain ⟨u, hu, hframe, htaken, hjump⟩ := hrun.indexOutcome hc hregs.1 hregs.2.1 hregs.2.2 (Nat.le_of_ble_eq_true rfl)
      (Nat.le_of_ble_eq_true rfl) rfl
    exact ⟨u, hu, hframe, htaken, fun hn => hjump (by omega)⟩
  · have hregs : R.MBX_RSP_CONS w ≠ R.MBX_ERR w ∧ R.MBX_RSP_CONS w < 0x10C00000 ∧ R.MBX_ERR w < 0x10C00000 := by unfold R.MBX_RSP_CONS R.MBX_ERR; omega
    have hrun := mbxRspConsWrite_runs hw hv h
    rw [State.mbxCons_eq, State.posted_rd, State.posted_rd] at hrun
    obtain ⟨u, hu, hframe, htaken, hjump⟩ := hrun.indexOutcome hc hregs.1 hregs.2.1 hregs.2.2 (Nat.le_of_ble_eq_true rfl)
      (Nat.le_of_ble_eq_true rfl) rfl
    exact ⟨u, hu, hframe, htaken, fun hn => hjump (by omega)⟩
  · intro i d r hreq hwin ht hrom hfull
    subst hwin ht
    have hno : (s.at_ r.t).canTake r.win = false := by
      refine Bool.eq_false_iff.mpr (fun h => ?_)
      have hroom : (s.rd (F.MBX_REQ_CONS_CONS r.win) + 0x10000 - s.rd (F.MBX_RSP_CONS_CONS r.win)) % 0x10000 < 64 := (State.canTake_room h).2
      omega
    rw [exec_request hreq hrom, mailbox_of_not_canTake hno hc]
  · intro htake heq
    have hroom := (State.canTake_room htake).2
    rw [heq] at hroom
    exact hroom

/-! ## The device and cell commands (R66, R76-R81, R117-R122) -/

/-- A request whose steps answer runs to its answer. -/
theorem answers_of_body {i : Instr} {d : CmdDef} {r : Req} {s u : State} {st : Nat} {pl : List Byte} (he : exec i s = mailbox d r s)
    (h : s.Reaches d r = true) (hb : d.body (s.reqCmd d r) (s.taken r) = .done st pl u) : Answers i d r s st pl u := by
  rw [Answers, Runs, he, mailbox_done h hb]

/-- A request whose steps start runs to its place in flight. -/
theorem starts_of_body {i : Instr} {d : CmdDef} {r : Req} {s u : State} {p : Phase} {aux : Nat} (he : exec i s = mailbox d r s)
    (h : s.Reaches d r = true) (hb : d.body (s.reqCmd d r) (s.taken r) = .later p aux u) : Starts i d r s p aux u := by
  rw [Starts, Runs, he, mailbox_later h hb]

/-- Two checks that pass leave the steps after them. -/
theorem need_need {c₁ c₂ : Bool} (h₁ : c₁ = true) (h₂ : c₂ = true) (e₁ e₂ : Nat) (k : Res) : need c₁ e₁ (need c₂ e₂ k) = k := by
  rw [need_of h₁, need_of h₂]

/-- DEV_MBX_STATS of an existing window for its owner or the secure world (R81). -/
theorem devMbxStatsBody_allowed {c : Cmd} {s : State} (hw : c.arg 0 1 ≤ 16) (hz : c.zero 1 3 = true) (ho : c.who = 16 ∨ c.who = c.arg 0 1) :
    devMbxStatsBody c s = .done stOK
      (bytesLE 4 (s.mbx.stat.get {} (c.arg 0 1)).served ++ bytesLE 4 (s.mbx.stat.get {} (c.arg 0 1)).refused ++
        bytesLE 2 (s.mbx.stat.get {} (c.arg 0 1)).timeouts ++ bytesLE 2 (s.rd (F.MBX_LATE_CNT_LATE (c.arg 0 1))) ++
        bytesLE 1 (s.mbx.stat.get {} (c.arg 0 1)).peak ++ bytesLE 3 0) s :=
  need_need (by simp [hw, hz]) (by simpa using ho) _ _ _

/-- Settles O9: each command's steps answer at once; DEV_MBX_STATS after its two checks. -/
theorem deviceCommandsComplete : Obligations.DeviceCommandsComplete := by
  intro s u r c hu
  subst hu
  refine ⟨fun h => answers_of_body rfl h rfl, fun h => answers_of_body rfl h rfl, fun h => answers_of_body rfl h rfl,
    fun h => answers_of_body rfl h rfl, fun h => answers_of_body rfl h rfl, ?_⟩
  intro w h hc hw hle hz ho
  subst hc hw
  exact answers_of_body rfl h (devMbxStatsBody_allowed hle hz ho)

/-- Settles O10: where a command's checks pass, its steps come to the outcome that the statement names. -/
theorem cellCommandsComplete : Obligations.CellCommandsComplete := by
  intro s r
  refine ⟨?_, ?_, ?_, ?_, ?_⟩
  · intro c σ h hc hσ n a at_ harg hown res
    subst hc hσ
    have hb : cellSetBody (s.reqCmd dCellSet r) (s.taken r) = res := need_need harg hown _ _ _
    exact ⟨fun st pl u hr => answers_of_body rfl h (hb.trans hr), fun p aux u hr => starts_of_body rfl h (hb.trans hr)⟩
  · intro c σ h hc hσ n ims fs harg hown res st pl u hr
    subst hc hσ
    have hb : cellConfigBody (s.reqCmd dCellConfig r) (s.taken r) = res := need_need harg hown _ _ _
    exact answers_of_body rfl h (hb.trans hr)
  · intro c σ h hc hσ b first count harg hmay hbank p res st pl u hr
    subst hc hσ
    have hb : cellStatusBody (s.reqCmd dCellStatus r) (s.taken r) = res := (need_need harg hmay _ _ _).trans (need_of hbank _ _)
    exact answers_of_body rfl h (hb.trans hr)
  · intro c σ h hc hσ n harg hown res st pl u hr
    subst hc hσ
    have hb : cellClearBody (s.reqCmd dCellClear r) (s.taken r) = res := need_need harg hown _ _ _
    exact answers_of_body rfl h (hb.trans hr)
  · intro c σ h hc hσ n w harg hmay hbank
    subst hc hσ
    exact answers_of_body rfl h ((need_need harg hmay _ _ _).trans (need_of hbank _ _))

/-! ## Commands in flight (R57, R59, R62, R71, R72) -/

/-- The command found in flight is that of the origin, window and tag. -/
theorem State.inFlight_some {s : State} {node w tag : Nat} {c : Cmd} (h : s.inFlight node w tag = some c) :
    c.node = node ∧ c.win = w ∧ c.tag = tag := by
  simpa [and_assoc] using List.find?_some h

/-- A command that has been taken out of flight is not found there. -/
theorem State.inFlight_unlist (s : State) (c : Cmd) : (s.unlist c).inFlight c.node c.win c.tag = none := by
  refine List.find?_eq_none.mpr (fun d hd => ?_)
  have hne := (List.mem_filter.mp hd).2
  simp only [Cmd.same, Bool.not_eq_true', Bool.and_eq_false_iff, beq_eq_false_iff_ne] at hne
  simp only [Bool.and_eq_true, beq_iff_eq]
  rintro ⟨⟨h1, h2⟩, h3⟩
  exact hne.elim (fun h => h.elim (fun h => h h1.symm) (fun h => h h2.symm)) (fun h => h h3.symm)

/-- The answer to a command of this unit's windows is a response (R58, R59). -/
theorem State.answerAt_local (s : State) {c : Cmd} (h : c.node = 0xFFFF) (st done : Nat) (pl : List Byte) :
    s.answerAt c st done pl = (s.unlist c).respond c.win c.op c.tag st done pl := if_pos h

section
variable {s : State} {t node w tag : Nat} {c : Cmd} (ha : s.Awake)
include ha

/-- A command that waits and may be served goes on with its own steps at this unit. -/
theorem commandWaitResume_runs {d : CmdDef} (hc : s.inFlight node w tag = some c) (hs : (s.at_ t).serving = true)
    (hx : (s.at_ t).expired c = false) (hp : c.phase = .waitOrder ∨ c.phase = .waitObject ∨ c.phase = .waitQueue)
    (hl : node ≠ 0xFFFF ∨ s.isLocal c.req.target = true) (hd : cmdOfOp c.op = some d) :
    Runs (.commandWaitResume t node w tag) s ((s.at_ t).runBody d c) := by
  have hf : (s.at_ t).inFlight node w tag = some c := hc
  have hwait : (c.phase == .waitOrder || c.phase == .waitObject || c.phase == .waitQueue) = true := by
    rcases hp with h | h | h <;> rw [h] <;> rfl
  have hhere : ¬ (node = 0xFFFF ∧ (s.at_ t).isLocal c.req.target = false) := by
    rintro ⟨hn, hloc⟩
    exact hl.elim (fun h => h hn) (fun h => Bool.false_ne_true (hloc.symm.trans h))
  refine runs_of_powered rfl ha ?_
  simp only [commandWaitResume, hf, hs, hx, hwait, Bool.not_true, Bool.or_self, Bool.false_eq_true, if_false, if_neg hhere, hd]

/-- A waiting command whose limit has passed is answered TIMEOUT, or removed where it was forwarded here. -/
theorem commandWaitTimeout_runs (hc : s.inFlight node w tag = some c) (hx : (s.at_ t).expired c = true) (hr : c.phase ≠ .running)
    (hf : c.phase ≠ .forwarded) (hm : c.phase ≠ .maint) :
    Runs (.commandWaitTimeout t node w tag) s (if node = 0xFFFF then (s.at_ t).answer c stTIMEOUT [] else (s.at_ t).unlist c) := by
  have hi : (s.at_ t).inFlight node w tag = some c := hc
  obtain ⟨rfl, -, -⟩ := State.inFlight_some hc
  refine runs_of_powered rfl ha ?_
  simp [commandWaitTimeout, hi, hx, hr, hf, hm, State.expire]

/-- A forwarded command whose deadline has passed is answered TIMEOUT. -/
theorem forwardDeadlineExpiry_runs (hc : s.inFlight 0xFFFF w tag = some c) (hp : c.phase = .forwarded) (hx : (s.at_ t).expired c = true) :
    Runs (.forwardDeadlineExpiry t w tag) s ((s.at_ t).answer c stTIMEOUT []) := by
  have hi : (s.at_ t).inFlight 0xFFFF w tag = some c := hc
  refine runs_of_powered rfl ha ?_
  simp [forwardDeadlineExpiry, hi, hp, hx]

/-- A response before the deadline answers its command. -/
theorem forwardedResponseArrival_runs (hc : s.inFlight 0xFFFF w tag = some c) (hp : c.phase = .forwarded) (hx : (s.at_ t).expired c = false)
    (st done : Nat) (pl : List Byte) :
    Runs (.forwardedResponseArrival t w tag st done pl) s ((s.at_ t).answerAt c st done (pl.take 48)) := by
  have hi : (s.at_ t).inFlight 0xFFFF w tag = some c := hc
  refine runs_of_powered rfl ha ?_
  simp [forwardedResponseArrival, State.forwardedResponse, hi, hp, hx]

/-- A response that finds no command is late. -/
theorem forwardedResponseArrival_late_runs (hc : s.inFlight 0xFFFF w tag = none) (hw : w ≤ 16) (st done : Nat) (pl : List Byte) :
    Runs (.forwardedResponseArrival t w tag st done pl) s (((s.at_ t).wrb (F.MBX_ERR_LATE_RSP w) true).sat (F.MBX_LATE_CNT_LATE w) 1) := by
  have hi : (s.at_ t).inFlight 0xFFFF w tag = none := hc
  refine runs_of_powered rfl ha ?_
  simp [forwardedResponseArrival, State.forwardedResponse, hi, State.lateRsp, hw]

/-- A request of an undefined opcode is taken and answered BAD_OPCODE (R75). -/
theorem requestUndefinedOpcode_runs {r : Req} {op : Nat} (ht : (s.at_ r.t).canTake r.win = true) (hs : (s.at_ r.t).slotHolds op r = true)
    (hd : cmdOfOp op = none) :
    Runs (.requestUndefinedOpcode r op) s (((s.at_ r.t).take r.win).respond r.win op r.tag stBAD_OPCODE (s.at_ r.t).now []) := by
  refine runs_of_powered rfl ha ?_
  simp [requestUndefinedOpcode, ht, hs, hd]

end

/-- Settles O8: each clause is its row's lemma. -/
theorem waitingCommandsComplete : Obligations.WaitingCommandsComplete := fun _ _ _ _ _ ha =>
  ⟨fun _ _ => commandWaitResume_runs ha, fun _ => commandWaitTimeout_runs ha, fun _ => forwardDeadlineExpiry_runs ha,
    fun _ st done pl hc hp hx => forwardedResponseArrival_runs ha hc hp hx st done pl,
    fun st done pl hc hw => forwardedResponseArrival_late_runs ha hc hw st done pl, fun _ _ => requestUndefinedOpcode_runs ha⟩

/-! ## Responses and late responses (R50, R58, R72) -/

/-- A window's own registers, and its partition's throttle count, do not decide whether anything follows. -/
theorem window_regs_low {w : Nat} (hw : w ≤ 16) :
    R.MBX_REQ_CONS w < 0x10C00000 ∧ R.MBX_RSP_PROD w < 0x10C00000 ∧ R.MBX_STATUS w < 0x10C00000 ∧ R.MPC_PART_RSTAT w < 0x10C00000 := by
  have hoff := winOff_cases hw
  unfold R.MBX_REQ_CONS R.MBX_RSP_PROD R.MBX_STATUS R.MPC_PART_RSTAT
  omega

/-- Nothing follows a response. -/
theorem State.Calm.respond {s : State} (h : s.Calm) {w : Nat} (hw : w ≤ 16) (op tag st done : Nat) (pl : List Byte) :
    (s.respond w op tag st done pl).Calm := by
  obtain ⟨-, hprod, hstatus, hthr⟩ := window_regs_low hw
  exact State.Calm.of_same h (fun b hb => s.respond_word op tag st done pl (by omega) (by omega) (by omega)) (State.respond_flt ..)
    (State.respond_dev ..) (State.respond_boot ..) (State.respond_hdg ..) (State.respond_slp ..) (State.respond_cfg ..)

/-- Nothing follows the taking of a request. -/
theorem State.Calm.take {s : State} (h : s.Calm) {w : Nat} (hw : w ≤ 16) : (s.take w).Calm := by
  obtain ⟨hcons, -, hstatus, hthr⟩ := window_regs_low hw
  exact State.Calm.of_same h (fun b hb => s.take_word (by omega) (by omega) (by omega)) (State.take_flt ..)
    (State.take_dev ..) (State.take_boot ..) (State.take_hdg ..) (State.take_slp ..) (State.take_cfg ..)

theorem State.Calm.unlist {s : State} (h : s.Calm) (c : Cmd) : (s.unlist c).Calm :=
  State.Calm.of_same h (fun _ _ => rfl) rfl rfl rfl rfl rfl rfl

theorem State.Calm.at_ {s : State} (h : s.Calm) (t : Nat) : (s.at_ t).Calm :=
  State.Calm.of_same h (fun _ _ => rfl) rfl rfl rfl rfl rfl rfl

/-- The response stands in its slot. -/
theorem State.respond_load {s : State} (hm : Memory.wf s.mem = true) (w op tag st done : Nat) (pl : List Byte) :
    (s.respond w op tag st done pl).load (s.rspSlot w) 64 = rspBytes op tag st done pl := by
  have h := Memory.read_write (s.rspSlot w) (rspBytes op tag st done pl) hm
  rwa [rspBytes_length, ← State.respond_mem] at h

/-- Every byte outside the slot is as it was. -/
theorem State.respond_byte {s : State} (hm : Memory.wf s.mem = true) (w op tag st done : Nat) (pl : List Byte) {x : Nat}
    (hx : x < s.rspSlot w ∨ s.rspSlot w + 64 ≤ x) : (s.respond w op tag st done pl).byte x = s.byte x := by
  rw [State.byte, State.respond_mem, Memory.byte_write_out _ hm (by rwa [rspBytes_length])]
  rfl

/-- A late response in a state in which nothing follows sets LATE_RSP, counts and changes nothing else (R72). -/
theorem forwardedResponseArrival_late {u : State} {t w tag : Nat} (ha : u.Awake) (hc : u.Calm) (hi : u.inFlight 0xFFFF w tag = none)
    (hw : w ≤ 16) (st done : Nat) (pl : List Byte) :
    ∃ v, exec (.forwardedResponseArrival t w tag st done pl) u = .next v ∧
      v = { u.at_ t with regs := v.regs } ∧ v.rdb (F.MBX_ERR_LATE_RSP w) = true ∧
      v.rd (F.MBX_LATE_CNT_LATE w) = min (u.rd (F.MBX_LATE_CNT_LATE w) + 1) 0xFFFF ∧
      ∀ b, b ≠ R.MBX_ERR w → b ≠ R.MBX_LATE_CNT w → v.word b = u.word b := by
  have hoff := winOff_cases hw
  have herr : (F.MBX_ERR_LATE_RSP w).reg < 0x10C00000 := by simp only [F.MBX_ERR_LATE_RSP, R.MBX_ERR]; omega
  have hcnt : (F.MBX_LATE_CNT_LATE w).reg < 0x10C00000 := by simp only [F.MBX_LATE_CNT_LATE, R.MBX_LATE_CNT]; omega
  have hne : (F.MBX_ERR_LATE_RSP w).reg ≠ (F.MBX_LATE_CNT_LATE w).reg := by
    simp [F.MBX_ERR_LATE_RSP, R.MBX_ERR, F.MBX_LATE_CNT_LATE, R.MBX_LATE_CNT]
  refine ⟨_, (forwardedResponseArrival_late_runs ha hi hw st done pl).exec_eq (((hc.at_ t).wr herr _).wr hcnt _), rfl, ?_, ?_, ?_⟩
  · rw [State.sat, State.rdb, State.rd_wr_reg _ _ hne]
    exact State.rdb_wrb_self _ true (Nat.le_of_ble_eq_true rfl) rfl
  · rw [State.rd_sat_self _ _ (Nat.le_of_ble_eq_true rfl), State.wrb, State.rd_wr_reg _ _ hne.symm]
    rfl
  · intro b h1 h2
    rw [State.sat, State.word_wr_ne _ _ _ h2, State.wrb, State.word_wr_ne _ _ _ h1]
    rfl

/-- Settles O55: the expiry is the command's TIMEOUT answer, which takes it out of flight; the response after it finds none. -/
theorem lateResponses : Obligations.LateResponses := by
  intro s t t' w tag c ha hc hm hw hi hp hx
  have hrun := forwardDeadlineExpiry_runs ha hi hp hx
  obtain ⟨hnode, rfl, rfl⟩ := State.inFlight_some hi
  rw [State.answer, State.answerAt_local _ hnode] at hrun
  have hcalm := (hc.unlist c).respond hw c.op c.tag stTIMEOUT (s.at_ t).now []
  have hnone : (((s.at_ t).unlist c).respond c.win c.op c.tag stTIMEOUT (s.at_ t).now []).inFlight 0xFFFF c.win c.tag = none := by
    rw [State.inFlight, State.respond_cmds, ← hnode]
    exact State.inFlight_unlist _ c
  have hawake : (((s.at_ t).unlist c).respond c.win c.op c.tag stTIMEOUT (s.at_ t).now []).Awake := by
    rw [State.Awake, State.asleep, State.respond_dev]; exact ha
  refine ⟨_, hrun.exec_eq hcalm, hnone, ?_, State.respond_prod _ hw .., forwardedResponseArrival_late hawake hcalm hnone hw⟩
  rw [State.respond_now]
  exact State.respond_load (s := (s.at_ t).unlist c) hm c.win c.op c.tag stTIMEOUT (s.at_ t).now []

/-! ## Refusals in steps 2 to 6 (R56, R57, R63, R66, R73) -/

/-- The state that the refusal of a request leaves: the request taken, its slot answered. -/
def State.refused (s : State) (d : CmdDef) (r : Req) (e : Nat) : State := (s.taken r).respond r.win d.op r.tag e (s.taken r).now []

/-- A command that is not in flight has nothing to be taken out of. -/
theorem State.unlist_of_new {s : State} {c : Cmd} (h : s.mbx.cmds.any (fun x => c.same x) = false) : s.unlist c = s := by
  have hall : s.mbx.cmds.filter (fun x => !c.same x) = s.mbx.cmds :=
    List.filter_eq_self.mpr (fun x hx => by simpa using List.any_eq_false.mp h x hx)
  rw [State.unlist, hall]

/-- Only taking and answering happen to a request that fails steps 2 to 6. -/
theorem State.serve_refused {s : State} {d : CmdDef} {r : Req} (ht : (s.at_ r.t).canTake r.win = true) (hs : (s.at_ r.t).slotHolds d.op r = true)
    (he : (s.taken r).headCheck d ((s.taken r).cmdOf d.op r) ≠ 0) :
    s.serve d r = s.refused d r ((s.taken r).headCheck d ((s.taken r).cmdOf d.op r)) := by
  rw [State.taken] at he
  simp only [State.serve, State.refused, State.taken, ht, hs, he, Bool.and_self, Bool.not_true, Bool.false_eq_true, if_false, ne_eq,
    not_false_eq_true, if_true]
  split
  · rfl
  · next h => rw [State.answer, State.answerAt_local _ rfl, State.unlist_of_new (by simpa using h)]; rfl

/-- Taking a request outside DRAM charges no account. -/
theorem State.take_prt (s : State) {w : Nat} (h : inDram (s.reqSlot w) = false) : (s.take w).prt = s.prt := by
  unfold State.take
  dsimp only
  rw [State.dramCharge_none (s.turn w) (a := (s.turn w).reqSlot w) 64 (Or.inr h)]
  rfl

/-- A response outside DRAM charges no account. -/
theorem State.respond_prt (s : State) {w : Nat} (op tag st done : Nat) (pl : List Byte) (h : inDram (s.rspSlot w) = false) :
    (s.respond w op tag st done pl).prt = s.prt := by
  unfold State.respond
  dsimp only
  rw [State.dramCharge_none _ 64 (Or.inr h)]
  rfl

/-- What taking a request and answering it at once leave. -/
theorem State.take_respond_eq (s : State) (w op tag st done : Nat) (pl : List Byte) : ∃ m x p n,
    (s.take w).respond w op tag st done pl =
      { s with mem := m, regs := x, prt := p, mbx := { s.mbx with stat := n, owed := (s.turn w).mbx.owed } } := by
  obtain ⟨x, p, n, h⟩ := (s.take w).respond_eq w op tag st done pl
  rw [h, State.store, s.take_eq w]
  exact ⟨_, x, p, n, rfl⟩

section
variable {s : State} {w : Nat} (hw : w ≤ 16)
include hw

/-- Taking a request leaves the registers of its response ring, and with them the slot of the next response. -/
theorem State.take_rspSlot : (s.take w).rspSlot w = s.rspSlot w := by
  have hoff := winOff_cases hw
  have h1 : ∀ b, b = R.MBX_RSP_BASE_LO w ∨ b = R.MBX_RSP_BASE_HI w ∨ b = R.MBX_RSP_PROD w → (s.take w).word b = s.word b := by
    unfold R.MBX_RSP_BASE_LO R.MBX_RSP_BASE_HI R.MBX_RSP_PROD
    intro b hb
    refine s.take_word ?_ ?_ ?_ <;> (simp only [R.MBX_REQ_CONS, R.MBX_STATUS, R.MPC_PART_RSTAT]; omega)
  simp [State.rspSlot, State.rspBase, State.rd, F.MBX_RSP_BASE_LO_ADDR, F.MBX_RSP_BASE_HI_ADDR_HI, F.MBX_RSP_PROD_PROD, h1]

/-- A response leaves REQ_CONS. -/
theorem State.respond_cons (op tag st done : Nat) (pl : List Byte) :
    (s.respond w op tag st done pl).rd (F.MBX_REQ_CONS_CONS w) = s.rd (F.MBX_REQ_CONS_CONS w) := by
  have hoff := winOff_cases hw
  rw [State.rd, s.respond_word op tag st done pl] <;> simp only [F.MBX_REQ_CONS_CONS, R.MBX_REQ_CONS, R.MBX_RSP_PROD, R.MBX_STATUS, R.MPC_PART_RSTAT]
  · rfl
  all_goals omega

/-- Taking a request leaves RSP_PROD. -/
theorem State.take_prod : (s.take w).rd (F.MBX_RSP_PROD_PROD w) = s.rd (F.MBX_RSP_PROD_PROD w) := by
  have hoff := winOff_cases hw
  rw [State.rd, s.take_word] <;> simp only [F.MBX_RSP_PROD_PROD, R.MBX_REQ_CONS, R.MBX_RSP_PROD, R.MBX_STATUS, R.MPC_PART_RSTAT]
  · rfl
  all_goals omega

/-- Whether a target is this unit is a matter of the chain's registers, which taking a request leaves. -/
theorem State.take_isLocal (target : Nat) : (s.take w).isLocal target = s.isLocal target := by
  have hoff := winOff_cases hw
  have h1 : ∀ b, 0x10C00000 ≤ b → (s.take w).word b = s.word b := by
    obtain ⟨hcons, -, hstatus, hthr⟩ := window_regs_low hw
    exact fun b hb => s.take_word (by omega) (by omega) (by omega)
  have h2 : ∀ f : Fld, 0x10C00000 ≤ f.reg → (s.take w).rd f = s.rd f := fun f hf => by rw [State.rd, h1 _ hf]; rfl
  simp (disch := decide) only [State.isLocal, State.ownNode, h2]

end

section
variable {s : State} {d : CmdDef} {c : Cmd}

/-- Step 2: the reserved word, the reserved flags and the tag. -/
theorem State.headCheck_malformed (h : c.req.rsvd ≠ 0 ∨ bitsOf c.req.flags 3 5 ≠ 0 ∨ bitsOf c.req.flags 16 16 ≠ 0 ∨
    s.mbx.cmds.any (fun x => c.same x) = true) : s.headCheck d c = stBAD_ARGUMENT := if_pos h

variable (hok : ¬ (c.req.rsvd ≠ 0 ∨ bitsOf c.req.flags 3 5 ≠ 0 ∨ bitsOf c.req.flags 16 16 ≠ 0 ∨ s.mbx.cmds.any (fun x => c.same x) = true))
include hok

/-- Step 3: a LEN above 48. -/
theorem State.headCheck_long (h : 48 < c.req.len) : s.headCheck d c = stBAD_LENGTH := by
  rw [State.headCheck, if_neg hok, if_pos (by simp [Nat.not_le.mpr h])]

variable (hlen : c.req.len ≤ 48) (hdesc : c.desc = false) (hl : d.lens c.req.len = true)
include hlen hdesc hl

/-- Step 4: what COPPICE does not permit. -/
theorem State.headCheck_coppice (hcop : s.dev = .coppice) (h : d.coppice = false ∨ s.isLocal c.req.target = false) :
    s.headCheck d c = stCOPPICE_ACTIVE := by
  have hforbid : (!(d.coppice && d.coppiceForm c) || !s.isLocal c.req.target) = true := by
    rcases h with h | h <;> simp [h]
  rw [State.headCheck, if_neg hok, if_neg (by simp [hlen, hdesc, hl]), if_pos ⟨hcop, hforbid⟩]

/-- Step 5: a remote target of more than 11 bits. -/
theorem State.headCheck_target (hcop : s.dev ≠ .coppice) (h : s.isLocal c.req.target = false) (ht : 2 ^ 11 ≤ c.req.target) :
    s.headCheck d c = stBAD_ARGUMENT := by
  rw [State.headCheck, if_neg hok, if_neg (by simp [hlen, hdesc, hl]), if_neg (fun hc => hcop hc.1),
    if_pos (by simp only [h, ge_iff_le, ht, decide_true, Bool.not_false, Bool.true_and, Bool.true_or])]

end

/-! ## What a refusal leaves -/

/-- Memory, registers, a DRAM account and the window's counts and turns differ at most. -/
theorem State.refused_eq (s : State) (d : CmdDef) (r : Req) (e : Nat) : ∃ m x p n,
    s.refused d r e = { s.at_ r.t with
      mem := m, regs := x, prt := p, mbx := { s.mbx with stat := n, owed := ((s.at_ r.t).turn r.win).mbx.owed } } :=
  (s.at_ r.t).take_respond_eq r.win d.op r.tag e _ []

section
variable {s : State} {d : CmdDef} {r : Req} {e : Nat} (hw : r.win ≤ 16)
include hw

theorem State.refused_rspSlot : (s.taken r).rspSlot r.win = s.rspSlot r.win := State.take_rspSlot (s := s.at_ r.t) hw

theorem State.refused_calm (hc : (s.at_ r.t).Calm) : (s.refused d r e).Calm := (hc.take hw).respond hw ..

theorem State.refused_load (hm : Memory.wf s.mem = true) :
    (s.refused d r e).load (s.rspSlot r.win) 64 = rspBytes d.op r.tag e (s.refused d r e).now [] := by
  have hmem : Memory.wf (s.taken r).mem = true := by rw [State.taken, State.take_mem]; exact hm
  rw [State.refused, State.respond_now, ← State.refused_rspSlot hw]
  exact State.respond_load hmem ..

theorem State.refused_byte (hm : Memory.wf s.mem = true) {x : Nat} (hx : x < s.rspSlot r.win ∨ s.rspSlot r.win + 64 ≤ x) :
    (s.refused d r e).byte x = s.byte x := by
  have hmem : (s.taken r).mem = s.mem := State.take_mem ..
  rw [← State.refused_rspSlot hw] at hx
  rw [State.refused, State.respond_byte (hmem ▸ hm) _ _ _ _ _ _ hx, State.byte, hmem]
  rfl

theorem State.refused_cons : (s.refused d r e).rd (F.MBX_REQ_CONS_CONS r.win) = (s.rd (F.MBX_REQ_CONS_CONS r.win) + 1) % 2 ^ 16 :=
  (State.respond_cons hw ..).trans (State.take_cons (s.at_ r.t) hw)

theorem State.refused_prod : (s.refused d r e).rd (F.MBX_RSP_PROD_PROD r.win) = (s.rd (F.MBX_RSP_PROD_PROD r.win) + 1) % 2 ^ 16 := by
  have hprod : (s.taken r).rd (F.MBX_RSP_PROD_PROD r.win) = s.rd (F.MBX_RSP_PROD_PROD r.win) := State.take_prod (s := s.at_ r.t) hw
  rw [State.refused, State.respond_prod _ hw, hprod]

omit hw in
theorem State.refused_word {b : Nat} (h1 : b ≠ R.MBX_REQ_CONS r.win) (h2 : b ≠ R.MBX_RSP_PROD r.win) (h3 : b ≠ R.MBX_STATUS r.win)
    (h4 : b ≠ R.MPC_PART_RSTAT r.win) : (s.refused d r e).word b = s.word b :=
  (State.respond_word _ _ _ _ _ _ h2 h3 h4).trans (State.take_word (s.at_ r.t) h1 h3 h4)

theorem State.refused_prt (h1 : inDram (s.reqSlot r.win) = false) (h2 : inDram (s.rspSlot r.win) = false) : (s.refused d r e).prt = s.prt := by
  rw [← State.refused_rspSlot hw] at h2
  exact (State.respond_prt _ _ _ _ _ _ h2).trans (State.take_prt (s.at_ r.t) h1)

end

/-- Settles O58: the row takes the request and answers it; its status is that of the first step that fails. -/
theorem refusedRequestHasNoEffect : Obligations.RefusedRequestHasNoEffect := by
  intro s i d r c e hreq ha hrom hc hm ht hs hcmd he h0
  obtain ⟨hw, -⟩ := State.canTake_room ht
  have hreqOf : c.req = r := by rw [hcmd]; rfl
  have hloc : (s.taken r).isLocal r.target = s.isLocal r.target := State.take_isLocal (s := s.at_ r.t) hw r.target
  have hdev : (s.taken r).dev = s.dev := State.take_dev ..
  have hcmds : (s.taken r).mbx.cmds = s.mbx.cmds := State.take_cmds ..
  have hexec : exec i s = .next (s.refused d r e) := by
    subst hcmd he
    rw [exec_request hreq hrom, mailbox, powered_awake ha, State.serve_refused ht hs h0, State.settle_of_calm (State.refused_calm hw hc)]
  refine ⟨⟨s.refused d r e, hexec, ?_, ?_, State.refused_load hw hm, fun x => State.refused_byte hw hm, State.refused_cons hw,
    State.refused_prod hw, fun b => State.refused_word, fun h => State.refused_prt hw h.1 h.2⟩, ?_, ?_⟩
  · obtain ⟨m, x, p, n, h⟩ := s.refused_eq d r e
    rw [h]; rfl
  · obtain ⟨m, x, p, n, h⟩ := s.refused_eq d r e
    rw [h]
  · intro h
    subst hreqOf
    rw [← he]
    exact State.headCheck_malformed (by rwa [hcmds])
  · intro h1 h2 h3 h4
    subst hreqOf
    have hok : ¬ (c.req.rsvd ≠ 0 ∨ bitsOf c.req.flags 3 5 ≠ 0 ∨ bitsOf c.req.flags 16 16 ≠ 0 ∨
        (s.taken c.req).mbx.cmds.any (fun x => c.same x) = true) := by
      simp [h1, h2, h3, h4, hcmds]
    rw [← he, ← hdev, ← hloc]
    exact ⟨State.headCheck_long hok,
      fun hlen hdesc hl => ⟨State.headCheck_coppice hok hlen hdesc hl, State.headCheck_target hok hlen hdesc hl⟩⟩

end Sys2Proof.Machine

/-!
PROOFS. The terminal cells' family: gang, bridge and probe commands (R122, R147-R153) and the events of objects, protections, banks,
probes, grid and supply (R86-R101, R111, R114, R136-R144, R158, R173, R574-R584): what each row does where its condition holds.
-/
namespace Sys2Proof.Machine

/-! ## Rows and requests by their outcome -/

/-- A row that also reaches a sleeping module runs its operation. -/
theorem runs_of_always {i : Instr} {f : State → State} {s u : State} (he : exec i s = always f s) (hu : f s = u) : Runs i s u := by
  rw [Runs, he, always, hu]

/-- A row whose operation is guarded by a condition that holds runs what the condition lets through. -/
theorem runs_of_guard {i : Instr} {t : Nat} {f : State → State} {s u v : State} {p : Prop} {_ : Decidable p}
    (he : exec i s = powered t f s) (ha : s.asleep = false) (hf : f s = if p then u else v) (hp : p) : Runs i s u :=
  runs_of_powered he ha (hf.trans (if_pos hp))

section
variable {i : Instr} {d : CmdDef} {r : Req} {s : State} {res : Res} (he : exec i s = mailbox d r s) (h : s.Reaches d r = true)
  (hb : d.body (s.reqCmd d r) (s.taken r) = res)
include he h hb

/-- A request whose steps come to an outcome is answered where that outcome is an answer. -/
theorem answers_of_outcome (st : Nat) (pl : List Byte) (u : State) (hr : res = .done st pl u) : Answers i d r s st pl u :=
  answers_of_body he h (hb.trans hr)

/-- It is answered or started, as the outcome says. -/
theorem answers_or_starts_of_outcome :
    (∀ st pl u, res = .done st pl u → Answers i d r s st pl u) ∧ (∀ p aux u, res = .later p aux u → Starts i d r s p aux u) :=
  ⟨answers_of_outcome he h hb, fun _ _ _ hr => starts_of_body he h (hb.trans hr)⟩

end

/-- Three checks that pass leave the steps after them. -/
theorem need_need_need {c₁ c₂ c₃ : Bool} (h₁ : c₁ = true) (h₂ : c₂ = true) (h₃ : c₃ = true) (e₁ e₂ e₃ : Nat) (k : Res) :
    need c₁ e₁ (need c₂ e₂ (need c₃ e₃ k)) = k := by
  rw [need_need h₁ h₂, need_of h₃]

/-! ## Gang, bridge and probe commands (R122, R147-R153) -/

/-- Settles O11: where a command's checks pass, its steps come to the outcome that the statement names. -/
theorem gangBridgeProbeCommandsComplete : Obligations.GangBridgeProbeCommandsComplete := by
  intro s r
  refine ⟨?gangSet, ?gangConfig, ?gangStatus, ?gangClear, ?bridgeSet, ?bridgeConfig, ?bridgeStatus, ?bridgeClear, ?probeRun, ?probeResult,
    ?gangReadConfig⟩
  case gangSet =>
    rintro _ _ h rfl rfl g a at_ harg hown res
    exact answers_or_starts_of_outcome rfl h (need_need harg hown _ _ _)
  case gangConfig =>
    rintro _ _ h rfl rfl g ims fs harg hown res
    exact answers_of_outcome rfl h (need_need harg hown _ _ _)
  case gangStatus =>
    rintro _ _ h rfl rfl first count l harg hmay hbank
    exact answers_of_body rfl h (need_need_need harg hmay hbank _ _ _ _)
  case gangClear =>
    rintro _ _ h rfl rfl g harg hown res
    exact answers_of_outcome rfl h (need_need harg hown _ _ _)
  case bridgeSet =>
    rintro _ _ h rfl rfl g a at_ harg hown res
    exact answers_or_starts_of_outcome rfl h (need_need harg hown _ _ _)
  case bridgeConfig =>
    rintro _ _ h rfl rfl g ims fs harg hown res
    exact answers_of_outcome rfl h (need_need harg hown _ _ _)
  case bridgeStatus =>
    rintro _ _ h rfl rfl first count l harg hmay hbank
    exact answers_of_body rfl h (need_need_need harg hmay hbank _ _ _ _)
  case bridgeClear =>
    rintro _ _ h rfl rfl g harg hown res
    exact answers_of_outcome rfl h (need_need harg hown _ _ _)
  case probeRun =>
    rintro _ _ h rfl rfl first count harg hown res
    exact answers_or_starts_of_outcome rfl h (need_need harg hown _ _ _)
  case probeResult =>
    rintro _ _ h rfl rfl b first count harg hmay res
    exact answers_of_outcome rfl h (need_need harg hmay _ _ _)
  case gangReadConfig =>
    rintro _ _ h rfl rfl o ty w harg hmay hbank res
    exact answers_of_outcome rfl h (need_need_need harg hmay hbank _ _ _ _)

/-! ## Instants, transitions, dead times and windows of an object (R86, R87, R89, R111, R136) -/

/-- The first edge of an object that is due leaves its lists; it is carried out, or held while a replica is not aligned (R42, R86). -/
theorem State.edgeDue_due {s : State} {x : Nat} {e : Edge} (hn : (s.obj x).nextEdge = some e) (he : e.at_ ≤ s.now) (late : Bool) :
    s.edgeDue x late =
      if (s.modObj x (fun o => o.dropEdge e)).objAligned x then (s.modObj x (fun o => o.dropEdge e)).doEdge x e late
      else (s.modObj x (fun o => o.dropEdge e)).modObj x (fun o => { o with heldEdges := o.heldEdges ++ [e] }) := by
  simp only [State.edgeDue, hn, if_neg (Nat.not_lt.mpr he)]

/-- EDGE_INSTANT of a top-level object. -/
theorem edgeInstant_top {s : State} {t x : Nat} (h : (s.at_ t).isTop x = true) : edgeInstant t x s = (s.at_ t).edgeDue x false :=
  if_pos h

/-- What the row of an edge instant does: the edge, and then the pending off edge of a sleep commit. -/
theorem exec_edgeInstant (t x : Nat) (s : State) :
    exec (.edgeInstant t x) s = powered t (fun s => (edgeInstant t x s).sleepEdge x) s := rfl

/-- Settles O23: each row finds the timer or the edge that its clause names, and what it guards is due. -/
theorem objectTransitionsComplete : Obligations.ObjectTransitionsComplete := by
  intro s
  refine ⟨?edgeInstant, ?transitionEnd, ?deadTimeExpiry, ?freewheelCurrentLow, ?freewheelMaxExpiry, ?reversalDwellExpiry,
    ?holdWindowExpiry⟩
  case edgeInstant =>
    intro t x e ha σ htop hn he dropped
    have hedge := (edgeInstant_top htop).trans (State.edgeDue_due hn he false)
    exact runs_of_powered (exec_edgeInstant t x s) ha (congrArg (fun u => State.sleepEdge u x) hedge)
  case transitionEnd =>
    intro t x hot ha σ tr htr hdead st clamped moved
    refine runs_of_powered rfl ha ?_
    simp only [transitionEnd, htr, σ]
    exact if_neg hdead
  case deadTimeExpiry =>
    intro t x ha σ wheel _
    exact runs_of_powered rfl ha rfl
  case freewheelCurrentLow =>
    intro t x ha σ e hw
    exact runs_of_powered rfl ha (by simp only [freewheelCurrentLow, hw, σ])
  case freewheelMaxExpiry =>
    intro t x hot ha σ e hw he
    exact runs_of_powered rfl ha (by simp only [freewheelMaxExpiry, hw, if_pos he, σ])
  case reversalDwellExpiry =>
    intro t h ha σ x d hd u hu hdue
    exact runs_of_powered rfl ha (by simp only [reversalDwellExpiry, hd, hu, if_pos hdue, σ, x])
  case holdWindowExpiry =>
    intro t x ha σ e hh he
    exact runs_of_powered rfl ha (by simp only [holdWindowExpiry, hh, if_pos he, σ])

/-! ## Protections (R91-R94, R96, R97) -/

/-- Settles O24: the place or the feed of a row exists, or its timer has passed. -/
theorem protectionEventsComplete : Obligations.ProtectionEventsComplete := by
  intro s
  refine ⟨?shortCircuit, ?currentLimitEntry, ?ocBlankExpiry, ?retryDelayExpiry, ?retryCounterReset, ?thermalShutdown, ?feedUndervoltage,
    ?feedUvRecovery, ?uvRestart⟩
  case shortCircuit =>
    intro t n hot ha σ x hn
    exact runs_of_guard rfl ha rfl hn
  case currentLimitEntry =>
    intro t n ha σ x hlive
    exact runs_of_guard rfl ha rfl hlive
  case ocBlankExpiry =>
    intro t x hot ha σ p hp
    exact runs_of_powered rfl ha (by simp only [ocBlankExpiry, hp, σ])
  case retryDelayExpiry =>
    intro t x ha σ e hr he
    exact runs_of_powered rfl ha (by simp only [retryDelayExpiry, hr, if_pos he, σ])
  case retryCounterReset =>
    intro t x ha σ e hc he
    exact runs_of_powered rfl ha (by simp only [retryCounterReset, hc, if_pos he, σ])
  case thermalShutdown =>
    intro t n hot ha σ hn x aborted hotTerm
    exact runs_of_guard rfl ha rfl hn
  case feedUndervoltage =>
    intro t f hot ha σ hf flagged
    exact runs_of_guard rfl ha rfl hf
  case feedUvRecovery =>
    intro t f ha σ hf cleared
    exact runs_of_guard rfl ha rfl hf
  case uvRestart =>
    intro t k ha σ f hk
    exact runs_of_guard rfl ha rfl hk

/-! ## Banks and the wiring probe (R114, R142, R144, R158) -/

/-- Settles O25: the bank or the feed of a row is as its clause says, or the object's probe runs; the retest timer has no condition of its own. -/
theorem bankAndProbeEventsComplete : Obligations.BankAndProbeEventsComplete := by
  intro s
  refine ⟨?bankNoAnswer, ?bankAnswerReturn, ?bankFeedLoss, ?bankFeedReturn, ?probeSettleExpiry, ?probeRetryTimer⟩
  case bankNoAnswer =>
    intro t k ha σ hk lost faulted
    exact runs_of_guard rfl ha rfl hk
  case bankAnswerReturn =>
    intro t k ha σ hk answers
    exact runs_of_guard rfl ha rfl hk
  case bankFeedLoss =>
    intro t f ha σ hf
    exact runs_of_guard rfl ha rfl hf
  case bankFeedReturn =>
    intro t f ha σ hf was cleared
    exact runs_of_guard rfl ha rfl hf
  case probeSettleExpiry =>
    intro t x rd ha σ hx e m codes first noted taken judged others
    exact runs_of_guard rfl ha rfl hx
  case probeRetryTimer =>
    intro t ha σ due
    exact runs_of_powered rfl ha rfl

/-! ## The grid, the energy log and the supply (R101, R173, R574, R575, R584) -/

/-- What the row of a grid sample does: the fabric's share, then the cyclic engine's. -/
theorem exec_gridSample (t : Nat) (cells : List CellSample) (feeds : List FeedSample) (elec : Nat) (s : State) :
    exec (.gridSample t cells feeds elec) s = powered t (fun s => gridCycle t (gridFabric t cells feeds elec s)) s := rfl

/-- What the row of a page switch does: the fabric's page, then the engine's. -/
theorem exec_statusPageSwitch (t : Nat) (s : State) :
    exec (.statusPageSwitch t) s = powered t (fun s => cycleStatusPage (statusPageSwitch t s)) s := rfl

section
variable {s : State} {t : Nat} (hs : (s.at_ t).fab.snap.isEmpty = false) (hd : (s.at_ t).fab.snapAt + us 25 ≤ (s.at_ t).now)
include hs hd

/-- A snapshot that is 25 µs old goes to the page that is not selected. -/
theorem statusPageSwitch_due :
    statusPageSwitch t s =
      ((if (s.at_ t).rd F.PFB_TS_SEL_PAGE = 0 then
          { s.at_ t with fab.page1 := (s.at_ t).fab.snap, fab.stamp1 := (s.at_ t).fab.snapAt, fab.snap := [] }
        else { s.at_ t with fab.page0 := (s.at_ t).fab.snap, fab.stamp0 := (s.at_ t).fab.snapAt, fab.snap := [] } : State).wr
          F.PFB_TS_SEL_PAGE (1 - (s.at_ t).rd F.PFB_TS_SEL_PAGE)).inc F.PFB_TS_SEL_SEQ := by
  have hdue : ((s.at_ t).fab.snap.isEmpty || decide ((s.at_ t).now < (s.at_ t).fab.snapAt + us 25)) = false := by
    rw [hs, decide_eq_false (Nat.not_lt.mpr hd), Bool.or_false]
  rw [statusPageSwitch, if_neg (Bool.eq_false_iff.mp hdue)]

theorem statusPageSwitch_page0 (hp : (s.at_ t).rd F.PFB_TS_SEL_PAGE = 0) :
    statusPageSwitch t s =
      (({ s.at_ t with fab.page1 := (s.at_ t).fab.snap, fab.stamp1 := (s.at_ t).fab.snapAt, fab.snap := [] } : State).wr
        F.PFB_TS_SEL_PAGE 1).inc F.PFB_TS_SEL_SEQ := by
  rw [statusPageSwitch_due hs hd, hp, if_pos rfl]

theorem statusPageSwitch_page1 (hp : (s.at_ t).rd F.PFB_TS_SEL_PAGE = 1) :
    statusPageSwitch t s =
      (({ s.at_ t with fab.page0 := (s.at_ t).fab.snap, fab.stamp0 := (s.at_ t).fab.snapAt, fab.snap := [] } : State).wr
        F.PFB_TS_SEL_PAGE 0).inc F.PFB_TS_SEL_SEQ := by
  rw [statusPageSwitch_due hs hd, hp, if_neg Nat.one_ne_zero]

end

/-- Settles O27: the fabric's share of a row is what its due instant lets through; the supply's rows also act on a sleeping module. -/
theorem gridAndSupplyEventsComplete : Obligations.GridAndSupplyEventsComplete := by
  intro s
  refine ⟨?gridSample, ?statusPageSwitch, ?energyLogRecord, ?feedReverse, ?highestFeedLow, ?holdUpExpiry, ?thermalSample⟩
  case gridSample =>
    intro t cells feeds elec ha hgrid hnow
    intros
    have hdue : t % us 250 = 0 ∧ (s.at_ t).now = t := ⟨hgrid, hnow⟩
    refine runs_of_powered (exec_gridSample t cells feeds elec s) ha (congrArg (gridCycle t) ?_)
    rw [gridFabric, if_pos hdue]
  case statusPageSwitch =>
    intro t ha σ hs hd
    have hrow := fun u (h : statusPageSwitch t s = u) => runs_of_powered (exec_statusPageSwitch t s) ha (congrArg cycleStatusPage h)
    exact ⟨fun hp => hrow _ (statusPageSwitch_page0 hs hd hp), fun hp => hrow _ (statusPageSwitch_page1 hs hd hp)⟩
  case energyLogRecord =>
    intro t ha σ hlog
    exact runs_of_guard rfl ha rfl hlog
  case feedReverse =>
    intro t f on σ hf
    exact runs_of_always rfl (if_pos hf)
  case highestFeedLow =>
    intro t low σ
    exact runs_of_always rfl rfl
  case holdUpExpiry =>
    intro t σ u hu hdue ended
    exact runs_of_always rfl (by simp only [holdUpExpiry, hu, if_pos hdue, σ, ended])
  case thermalSample =>
    intro t celsius ha σ l th noted housing
    exact runs_of_powered rfl ha rfl

end Sys2Proof.Machine

/-!
PROOFS. The budget's family: the budget and energy commands (R173, R175-R180) and the governor's events (R159, R166-R170): what each row
does where its condition holds.
-/
namespace Sys2Proof.Machine

/-! ## Budget and energy commands (R173, R175-R180) -/

/-- Settles O12: where a command's checks pass, its steps come to the outcome that the statement names. -/
theorem budgetEnergyCommandsComplete : Obligations.BudgetEnergyCommandsComplete := by
  intro s r
  refine ⟨?budgetStatus, ?budgetObject, ?budgetObjStatus, ?energyRead, ?energyLogRead⟩
  case budgetStatus =>
    rintro _ _ h rfl rfl v harg hmay
    exact answers_of_body rfl h (need_need harg hmay _ _ _)
  case budgetObject =>
    rintro _ _ h rfl rfl x d harg hown hsound
    exact answers_of_body rfl h (need_need_need harg hown hsound _ _ _ _)
  case budgetObjStatus =>
    rintro _ _ h rfl rfl first count l harg hmay
    exact answers_of_body rfl h (need_need harg hmay _ _ _)
  case energyRead =>
    rintro _ _ h rfl rfl b first count l harg hmay res
    exact answers_of_outcome rfl h (need_need harg hmay _ _ _)
  case energyLogRead =>
    rintro _ _ h rfl rfl harg l
    exact answers_of_body rfl h (need_of harg _ _)

/-! ## The governor (R164, R166-R170) -/

/-- Time does not pass twice. -/
theorem State.at_at (s : State) (t : Nat) : (s.at_ t).at_ t = s.at_ t := by
  have hm : max (max s.now (s.countAt t)) (s.countAt t) = max s.now (s.countAt t) := Nat.max_eq_left (Nat.le_max_right _ _)
  exact congrArg (fun n => ({ s with now := n } : State)) hm

section
variable {s : State} {t : Nat} (hdue : (s.at_ t).fab.lastGov + ms 1 ≤ (s.at_ t).now)
include hdue

/-- A round that is due is the fabric's cycle at its instant, then the engine's share (R204). -/
theorem governorRound_due : governorRound t s = { cycleGovern (governorCycle t s) with fab.restFeeds := [] } := by
  have hat : governorCycle t (s.at_ t) = governorCycle t s := by rw [governorCycle, State.at_at]; rfl
  rw [governorRound, if_pos hdue, hat]

/-- A cycle that is due serves the limits, the standing requests, the safe states and the four classes in this order. -/
theorem governorCycle_due :
    governorCycle t s =
      let s := ({ s.at_ t with fab.lastGov := (s.at_ t).now } : State).fitLimits
      let s := foldS s.tops (fun x s => s.takeStanding x) s
      let s := foldS s.tops (fun x s => s.retrySafe x) s
      { foldS [0, 1, 2, 3] (fun c s => s.cycleClass c) s with fab.shedFeeds := [] } := by
  simp only [governorCycle, if_pos hdue]

end

/-- A shed object gets its restore intent where all of R170 holds and its feed has not shed in this cycle. -/
theorem State.restoreIfDue_due {s : State} {x t0 : Nat} (hrest : (s.obj x).restFrom = some t0) (hshed : (s.obj x).shed = true)
    (hint : (s.obj x).hasInt .restore = false) (hmay : s.mayRestore x = true) (hdly : t0 + s.restoreDly x ≤ s.now)
    (hfeed : s.fab.shedFeeds.contains (s.feedOf x) = false) :
    s.restoreIfDue x = ({ s with fab.restFeeds := s.feedOf x :: s.fab.restFeeds } : State).modObj x
      (fun o => { o with admAt := s.now, ints := o.ints ++ [{ at_ := s.now, action := 0, kind := .restore }] }) := by
  have hall : ((s.obj x).shed && !(s.obj x).hasInt .restore && s.mayRestore x && decide (t0 + s.restoreDly x ≤ s.now) &&
      !s.fab.shedFeeds.contains (s.feedOf x)) = true := by
    rw [hshed, hint, hmay, decide_eq_true hdly, hfeed]; rfl
  simp only [State.restoreIfDue, hrest, if_pos hall]

/-- Settles O26: each row finds the timer, the command or the flag that its clause names, and what it guards is due. -/
theorem governorEventsComplete : Obligations.GovernorEventsComplete := by
  intro s
  refine ⟨?governorCycle, ?restoreDelayExpiry, ?deferMaxExpiry, ?feedOverloadDelayExpiry, ?feedPeak, ?heatShedStart,
    ?measuredShedInterval, ?classSOverloadExpiry, ?feedOvervolt⟩
  case governorCycle =>
    intro t ha σ hdue fitted standing safe served
    exact runs_of_powered rfl ha (by rw [governorRound_due hdue, governorCycle_due hdue])
  case restoreDelayExpiry =>
    intro t x t0 ha σ htop hrest hshed hint hmay hdly hfeed
    have hback := State.restoreIfDue_due hrest hshed hint hmay hdly hfeed
    refine runs_of_powered rfl ha ?_
    rw [restoreDelayExpiry, if_pos htop, hback]
    rfl
  case deferMaxExpiry =>
    intro t node w tag ha σ c hc hdue
    exact runs_of_powered rfl ha (by simp only [deferMaxExpiry, hc, if_pos hdue, σ])
  case feedOverloadDelayExpiry =>
    intro t f ha σ e he hdue flagged
    exact runs_of_powered rfl ha (by simp only [feedOverloadDelayExpiry, he, if_pos hdue, σ, flagged])
  case feedPeak =>
    intro t f ha σ e he hdue flagged
    exact runs_of_powered rfl ha (by simp only [feedPeak, he, if_pos hdue, σ, flagged])
  case heatShedStart =>
    intro t ha σ hhot flagged
    exact runs_of_powered rfl ha (by simp only [heatShedStart, if_pos hhot, σ, flagged])
  case measuredShedInterval =>
    intro t ha σ shed
    exact runs_of_powered rfl ha (by rw [measuredShedInterval])
  case classSOverloadExpiry =>
    intro t f ha σ e he hdue
    exact runs_of_powered rfl ha (by simp only [classSOverloadExpiry, he, if_pos hdue, σ])
  case feedOvervolt =>
    intro t f ha σ hf
    exact runs_of_guard rfl ha rfl hf

end Sys2Proof.Machine

/-!
PROOFS. The cycle engine's family (chapter 06): its commands (R204-R228), the events of a task (R189-R201, R213) and those of the
engine (R196, R204, R208, R218): what each row does where its condition holds.
-/
namespace Sys2Proof.Machine

/-! ## Cycle-engine commands (R204-R228) -/

/-- Settles O13: where a command's checks pass, its steps come to the outcome that the statement names. -/
theorem cycleCommandsComplete : Obligations.CycleCommandsComplete := by
  intro s r
  refine ⟨?cycStatus, ?cycTaskStatus, ?cycLoad, ?cycSwap, ?cycStart, ?cycStop, ?cycHold, ?cycTaskRestart, ?cycChange, ?cycForce,
    ?cycVarRead, ?cycEvent⟩
  case cycStatus =>
    rintro _ _ h rfl rfl hmay
    exact answers_of_body rfl h (need_of hmay _ _)
  case cycTaskStatus =>
    rintro _ _ h rfl rfl k harg hmay
    exact answers_of_body rfl h (need_need harg hmay _ _ _)
  case cycLoad =>
    rintro _ _ h rfl rfl b hown hform htag res
    exact answers_of_outcome rfl h (need_need_need hown hform htag _ _ _ _)
  case cycSwap =>
    rintro _ _ h rfl rfl hown hmode res
    exact answers_or_starts_of_outcome rfl h (need_need hown hmode _ _ _)
  case cycStart =>
    rintro _ _ h rfl rfl m harg hown hprog hmode res
    exact answers_or_starts_of_outcome rfl h ((need_need_need harg hown hprog _ _ _ _).trans (need_of hmode _ _))
  case cycStop =>
    rintro _ _ h rfl rfl hown hmode
    exact answers_of_body rfl h (need_need hown hmode _ _ _)
  case cycHold =>
    rintro _ _ h rfl rfl hown hmode
    exact answers_of_body rfl h (need_need hown hmode _ _ _)
  case cycTaskRestart =>
    rintro _ _ h rfl rfl k harg hown hmode
    exact answers_of_body rfl h (need_need_need harg hown hmode _ _ _ _)
  case cycChange =>
    rintro _ _ h rfl rfl b op n es at_ harg hown hlist hmode res
    exact answers_of_outcome rfl h ((need_need_need harg hown hlist _ _ _ _).trans (need_of hmode _ _))
  case cycForce =>
    rintro _ _ h rfl rfl op n es key harg hown hmode res
    exact answers_of_outcome rfl h (need_need_need harg hown hmode _ _ _ _)
  case cycVarRead =>
    rintro _ _ h rfl rfl o w y harg hmay
    exact answers_of_body rfl h (need_need harg hmay _ _ _)
  case cycEvent =>
    rintro _ _ h rfl rfl k harg hown res
    exact answers_or_starts_of_outcome rfl h (need_need harg hown _ _ _)

/-! ## The input image and the output cut-off of a task (R190, R195, R211) -/

/-- A capture that is due stores the input image, stamps the forces of all inputs and makes the task ready (R190, R211). -/
theorem inputImageCapture_due {s : State} {t k r : Nat} (hr : ((s.at_ t).task k).rel = some r)
    (hdue : r + us 25 ≤ (s.at_ t).now ∧ ((s.at_ t).task k).imaged = false ∧ (s.at_ t).eng = 1 ∧ k < 24) :
    inputImageCapture t k s =
      let s := (s.at_ t).store (cycIn k) ((s.at_ t).inputImage k)
      let s := foldS (List.range 512) (fun n s => (s.stampForce 2 n r).stampForce 3 n r) s
      ((s.modTask k (fun x => { x with imaged := true, readyAt := s.now })).setT k 2).schedule := by
  simp only [inputImageCapture, hr, if_pos hdue]

/-- The execution of a task released at `r` has not completed at its cut-off, was not found so before, and was not in flight at a
backward step: it overruns (R45, R195). -/
def State.OverrunsAt (s : State) (k r : Nat) : Prop :=
  s.eng = 1 ∧ s.outAt k r ≤ s.now + us 20 ∧ (s.task k).overrun = false ∧ (s.task k).stepped = false

/-- An overrun is marked, counted and reported (R195). -/
def State.noteOverrun (s : State) (k : Nat) : State :=
  let s := s.modTask k (fun x => { x with overrun := true })
  let s := (s.sat (F.CYC_TASK_CNT_OVERRUNS k) 1).sat (F.CYC_TASK_STAT_OVR_RUN k) 1
  s.ownFault 0x0401 .corrected (s.taskOwner k) k 0

section
variable {s : State} {t k r : Nat}

/-- A task without an execution in flight only has its outputs fixed. -/
theorem outputCutoff_of_complete (hr : (((s.at_ t).cutOuts k).task k).rel = none) : outputCutoff t k s = (s.at_ t).cutOuts k := by
  simp only [outputCutoff, hr]

variable (hr : (((s.at_ t).cutOuts k).task k).rel = some r)
include hr

/-- An execution that does not overrun goes on. -/
theorem outputCutoff_of_in_time (h : ¬ ((s.at_ t).cutOuts k).OverrunsAt k r) : outputCutoff t k s = (s.at_ t).cutOuts k := by
  simp only [outputCutoff, hr]
  exact if_neg h

/-- One that overruns faults its task where as many in a row as its limit have done so. -/
theorem outputCutoff_of_late (h : ((s.at_ t).cutOuts k).OverrunsAt k r) :
    outputCutoff t k s =
      let s := ((s.at_ t).cutOuts k).noteOverrun k
      let lim := cfgLimit k (s.taskCfg k)
      if lim ≠ 0 ∧ lim ≤ s.rd (F.CYC_TASK_STAT_OVR_RUN k) then s.taskFault k 1 else s := by
  simp only [outputCutoff, hr]
  exact if_pos h

end

/-! ## The events of a task (R189, R190, R195, R201, R213) -/

/-- Settles O28: each row finds the release or the write that its clause names, and what it guards is due. -/
theorem taskEventsComplete : Obligations.TaskEventsComplete := by
  intro s
  refine ⟨?taskRelease, ?inputImageCapture, ?taskComplete, ?retainedWriteComplete, ?outputCutoff, ?outputInstant⟩
  case taskRelease =>
    intro t k ha σ due hdue _
    exact runs_of_guard rfl ha rfl hdue
  case inputImageCapture =>
    intro t k ha σ r hr hdue
    exact runs_of_powered rfl ha (inputImageCapture_due hr hdue)
  case taskComplete =>
    intro t k writes ha σ r p hr hp hrun w
    exact runs_of_powered rfl ha (by simp only [taskComplete, hr, hp, if_pos hrun, σ, w])
  case retainedWriteComplete =>
    intro t k ha σ hbusy
    exact runs_of_guard rfl ha rfl hbusy
  case outputCutoff =>
    intro t k ha σ x
    refine ⟨fun hr => runs_of_powered rfl ha (outputCutoff_of_complete hr), ?_⟩
    intro r hr late
    exact ⟨fun h => runs_of_powered rfl ha (outputCutoff_of_in_time hr h), fun h => runs_of_powered rfl ha (outputCutoff_of_late hr h)⟩
  case outputInstant =>
    intro t k ha
    exact runs_of_powered rfl ha rfl

/-! ## The admission of RUN (R204) -/

/-- The state of an engine that enters RUN by an admitted start (R204). -/
def State.entered (s : State) (r : CStart) : State := { s.enterRun r.mode with cyc.start := none, cyc.tRun := s.now }

section
variable {s : State} {t : Nat} {r : CStart} (hlive : (s.at_ t).startLive = some r)
include hlive

/-- A start that has not been admitted is tried. -/
theorem runAdmission_of_waiting (hr : r.runAt = none) : runAdmission t s = (s.at_ t).tryStart := by
  simp only [runAdmission, hlive, hr]

variable {a : Nat} (hr : r.runAt = some a) (hdue : a ≤ (s.at_ t).now)
include hr hdue

/-- A start that no command has made enters RUN at its instant. -/
theorem runAdmission_of_auto (hc : r.cmd = none) : runAdmission t s = (s.at_ t).entered r := by
  simp only [runAdmission, hlive, hr, if_pos hdue, hc, State.entered]

/-- A start by a command in flight enters RUN and answers it with the instant. -/
theorem runAdmission_of_command {k : Nat × Nat × Nat} {c : Cmd} (hk : r.cmd = some k)
    (hc : ((s.at_ t).entered r).mbx.cmds.find? (fun c => c.node == k.1 && c.win == k.2.1 && c.tag == k.2.2) = some c) :
    runAdmission t s = ((s.at_ t).entered r).answer c stOK (bytesLE 8 ((s.at_ t).entered r).now) := by
  simp only [State.entered] at hc
  simp only [runAdmission, hlive, hr, if_pos hdue, hk, hc, State.entered]

end

/-! ## The events of the engine (R196, R204, R208, R218) -/

/-- Settles O29: each row finds the start, the commit or the swap that its clause names, and what it guards is due. -/
theorem cycleEngineEventsComplete : Obligations.CycleEngineEventsComplete := by
  intro s
  refine ⟨?laneException, ?runAdmission, ?onlineChangeIdlePoint, ?onlineChangeNoIdle, ?swapInstant⟩
  case laneException =>
    intro t k cause ha σ hon _
    exact runs_of_powered rfl ha (if_neg hon)
  case runAdmission =>
    intro t r ha σ hlive
    refine ⟨fun hr => runs_of_powered rfl ha (runAdmission_of_waiting hlive hr), ?_⟩
    intro a hr hdue entered
    exact ⟨fun hc => runs_of_powered rfl ha (runAdmission_of_auto hlive hr hdue hc),
      fun k c hk hc => runs_of_powered rfl ha (runAdmission_of_command hlive hr hdue hk hc)⟩
  case onlineChangeIdlePoint =>
    intro t ha σ a hcommit hidle
    exact runs_of_powered rfl ha (by simp only [onlineChangeIdlePoint, hcommit, if_pos hidle, σ])
  case onlineChangeNoIdle =>
    intro t ha σ a hcommit hover
    exact runs_of_powered rfl ha (by simp only [onlineChangeNoIdle, hcommit, if_pos hover, σ])
  case swapInstant =>
    intro t ha σ e hswap hdue exchanged
    exact runs_of_powered rfl ha (by simp only [swapInstant, hswap, if_pos hdue, σ, exchanged])

end Sys2Proof.Machine

/-!
PROOFS. The Ethernet switch's family (chapter 07): its commands (R263-R271), the events of frames (R236, R246, R254, R259, R277), the
stores to ring registers and the transmit descriptors (R244, R258, R259), and a link that does not come up while TC10 has its port asleep.
-/
namespace Sys2Proof.Machine

/-! ## Switch commands (R263-R271) -/

/-- Settles O14: where a command's checks pass, its steps come to the outcome that the statement names. -/
theorem switchCommandsComplete : Obligations.SwitchCommandsComplete := by
  intro s r
  refine ⟨?swcPortStatus, ?swcPortConfig, ?swcQueueConfig, ?swcQueueStatus, ?swcCounters, ?swcFdbSet, ?swcFdbRead, ?swcVlanConfig,
    ?swcPolicer, ?swcMacsecSa, ?swcAudit⟩
  case swcPortStatus =>
    rintro _ _ h rfl rfl p harg hmay
    exact answers_of_body rfl h (need_need harg hmay _ _ _)
  case swcPortConfig =>
    rintro _ _ h rfl rfl p ims harg hown res
    exact answers_of_outcome rfl h (need_need harg hown _ _ _)
  case swcQueueConfig =>
    rintro _ _ h rfl rfl q fs ws ims val sum harg hown res
    exact answers_of_outcome rfl h (need_need harg hown _ _ _)
  case swcQueueStatus =>
    rintro _ _ h rfl rfl f n l harg hmay
    exact answers_of_body rfl h (need_need harg hmay _ _ _)
  case swcCounters =>
    rintro _ _ h rfl rfl b p f n harg hmay res
    exact answers_of_outcome rfl h (need_need harg hmay _ _ _)
  case swcFdbSet =>
    rintro _ _ h rfl rfl mac vid m harg hown res
    exact answers_of_outcome rfl h (need_need harg hown _ _ _)
  case swcFdbRead =>
    rintro _ _ h rfl rfl start harg hlocal l got rest
    exact answers_of_body rfl h (need_need harg hlocal _ _ _)
  case swcVlanConfig =>
    rintro _ _ h rfl rfl v f harg hown res
    exact answers_of_outcome rfl h (need_need harg hown _ _ _)
  case swcPolicer =>
    rintro _ _ h rfl rfl k m cir pir cbs pbs harg hown p
    exact answers_of_body rfl h (need_need harg hown _ _ _)
  case swcMacsecSa =>
    rintro _ _ h rfl rfl p rx an sc k f others harg hown huse husable
    exact answers_of_body rfl h ((need_need_need harg hown huse _ _ _ _).trans (need_of husable _ _))
  case swcAudit =>
    rintro _ _ h rfl rfl op harg hown res
    exact answers_or_starts_of_outcome rfl h (need_need harg hown _ _ _)

/-! ## Frames (R236, R246, R254, R259, R277) -/

/-- Settles O30: each row finds the port, the reception or the frame that its clause names, and what it guards is due. -/
theorem switchFrameEventsComplete : Obligations.SwitchFrameEventsComplete := by
  intro s
  refine ⟨?frameReceive, ?frameTruncationTimeout, ?matchingRound, ?transmitOpportunity, ?frameTransmitComplete⟩
  case frameReceive =>
    intro t fr ha σ hport counted
    exact runs_of_guard rfl ha rfl hport
  case frameTruncationTimeout =>
    intro t p ha σ r hr hdue truncated
    exact runs_of_powered rfl ha (by simp only [frameTruncationTimeout, hr, σ]; exact if_pos hdue)
  case matchingRound =>
    intro t ha σ m
    exact runs_of_powered rfl ha rfl
  case transmitOpportunity =>
    intro t p ha σ hport refreshed
    exact runs_of_guard rfl ha rfl hport
  case frameTransmitComplete =>
    intro t p ha σ x hx whole hdue counted left idle b
    exact runs_of_powered rfl ha (by simp only [frameTransmitComplete, hx, if_pos hdue, σ, whole, counted, left, idle, b])

/-! ## Ring registers and transmit descriptors (R244, R258, R259) -/

/-- A store that reaches a register of a ring pair is the pair's write. -/
theorem State.Stores.busStore_ring {s : State} {t : Nat} {a : Acc} {r addr v : Nat} (h : s.Stores t a addr = true) (hr : r < 64)
    (hlo : R.SWC_RING_CTL r ≤ addr) (hhi : addr < R.SWC_RING_CTL r + 0x1000) (hv : v < 2 ^ 32) :
    (s.at_ t).busStore a false addr (bytesLE 4 v) = (s.posted t a addr).ringWrite a r addr v := by
  obtain ⟨hblock, hpower⟩ := State.Stores.admits h
  obtain ⟨hwin, hring⟩ := ring_of_ring hr hlo hhi
  rw [State.busStore_reg h, Nat.mod_eq_of_lt hv, State.regStore, hwin, hring]
  simp [hblock, hpower]

theorem State.ringWrite_ctl (s : State) (a : Acc) (r v : Nat) : s.ringWrite a r (R.SWC_RING_CTL r) v = s.ringCtl r v := if_pos rfl

theorem State.ringWrite_txProd (s : State) (a : Acc) (r v : Nat) :
    s.ringWrite a r (R.SWC_RING_TX_PROD r) v = s.ringAdvance r (F.SWC_RING_TX_PROD_PROD r) (F.SWC_RING_TX_DONE_CNT r) v := by
  simp [State.ringWrite, R.SWC_RING_CTL, R.SWC_RING_TX_PROD]

theorem State.ringWrite_rxFill (s : State) (a : Acc) (r v : Nat) :
    s.ringWrite a r (R.SWC_RING_RX_FILL r) v = s.ringAdvance r (F.SWC_RING_RX_FILL_CNT r) (F.SWC_RING_RX_DONE_CNT r) v := by
  simp [State.ringWrite, R.SWC_RING_CTL, R.SWC_RING_TX_PROD, R.SWC_RING_RX_FILL]

/-- A row that stores to a register of a ring pair runs the pair's write. -/
theorem runs_of_ringWrite {i : Instr} {s : State} {t r addr v : Nat} {a : Acc}
    (he : exec i s = powered t (fun s => if r < 64 then (s.at_ t).busStore a false addr (bytesLE 4 v) else s.at_ t) s)
    (h : s.Stores t a addr = true) (hr : r < 64) (hlo : R.SWC_RING_CTL r ≤ addr) (hhi : addr < R.SWC_RING_CTL r + 0x1000)
    (hv : v < 2 ^ 32) : Runs i s ((s.posted t a addr).ringWrite a r addr v) :=
  runs_of_powered he (State.Stores.awake h) ((if_pos hr).trans (State.Stores.busStore_ring h hr hlo hhi hv))

/-- Settles O32: a store is the ring pair's write of its register; a descriptor that the ring has is taken. -/
theorem ringRowsComplete : Obligations.RingRowsComplete := by
  intro s
  refine ⟨?swcRingEnable, ?swcTxProdWrite, ?swcRxFillWrite, ?txDescriptorTake⟩
  case swcRingEnable =>
    intro t a r v hr hv h
    rw [← State.ringWrite_ctl _ a]
    exact runs_of_ringWrite rfl h hr (by omega) (by omega) hv
  case swcTxProdWrite =>
    intro t a r v hr hv h
    rw [← State.ringWrite_txProd _ a]
    exact runs_of_ringWrite rfl h hr (by unfold R.SWC_RING_CTL R.SWC_RING_TX_PROD; omega)
      (by unfold R.SWC_RING_CTL R.SWC_RING_TX_PROD; omega) hv
  case swcRxFillWrite =>
    intro t a r v hr hv h
    rw [← State.ringWrite_rxFill _ a]
    exact runs_of_ringWrite rfl h hr (by unfold R.SWC_RING_CTL R.SWC_RING_RX_FILL; omega)
      (by unfold R.SWC_RING_CTL R.SWC_RING_RX_FILL; omega) hv
  case txDescriptorTake =>
    intro t r ha σ i hdue a addr len txf h p take
    exact runs_of_guard rfl ha rfl hdue

/-! ## A link that does not come up: a port that TC10 has asleep (R255, R373) -/

/-- While a port is in wake detection its link does not come up; only time and the shapers' credits go on. -/
theorem linkUp_runs_of_ethAsleep {s : State} {t p : Nat} (ha : s.Awake) (hz : (s.swAt t).slp.ethAsleep.contains p = true) :
    Runs (.linkUp t p) s (s.swAt t) :=
  runs_of_powered rfl ha (if_neg (by rw [hz]; simp))

/-- P05 (port 4) is enabled, and SLP_CHANNEL has put it to sleep while its link was down. -/
def portAsleepState : State :=
  let s := ({ State.reset with dev := .running, boot.stage := .released } : State).wrb (F.SWC_PORT_CFG0_ENABLE 4) true
  { s with slp.ethAsleep := [4] }

/-- Refutes O31: its clause for a link that comes up does not ask whether the port is asleep. Port 4 of `portAsleepState` is enabled
and its link is down, but it is in wake detection, and LINK stays 0 where the clause has it become 1. -/
theorem not_switchLinkEventsComplete : ¬ Obligations.SwitchLinkEventsComplete := by
  intro h
  obtain ⟨-, hup, -⟩ := h portAsleepState
  have ha : portAsleepState.Awake := by unfold State.Awake; decide +kernel
  have hclaim := hup 1 4 ha (by decide +kernel)
  have hstays := linkUp_runs_of_ethAsleep (t := 1) (p := 4) ha (by decide +kernel)
  have heq := Host.Outcome.next.inj (hstays.symm.trans hclaim)
  exact absurd (congrArg (fun u => u.rdb (F.SWC_PORT_STAT_LINK 4)) heq) (by decide +kernel)

end Sys2Proof.Machine

/-!
PROOFS. The family of time-sensitive networking and fast actuation (chapter 08): its commands (R298-R304), and the events of gPTP
messages, gate lists, preemption verification, recovery functions and fast-actuation frames (R274, R278, R279, R283, R288, R292-R296).
-/
namespace Sys2Proof.Machine

/-! ## TSN commands (R298-R304) -/

/-- The steps of TSN_GCL_SET, by name: rewriting the row's record finds them without evaluating the checks on the list. -/
theorem dTsnGclSet_body (c : Cmd) (s : State) : dTsnGclSet.body c s = tsnGclSetBody c s := by
  rw [dTsnGclSet]

/-- Settles O15: where a command's checks pass, its steps come to the outcome that the statement names. -/
theorem tsnCommandsComplete : Obligations.TsnCommandsComplete := by
  intro s r
  refine ⟨?tsnGclSet, ?tsnGclStatus, ?tsnShaperConfig, ?tsnPreemptConfig, ?tsnStreamSet, ?tsnStreamStatus, ?tsnFrerSet, ?tsnGptpStatus,
    ?faSenderSet, ?faStatus⟩
  case tsnGclSet =>
    rintro _ _ h rfl rfl b ty idx base cyc n k es hlist hown tc armed
    exact answers_of_body rfl h ((dTsnGclSet_body _ _).trans (need_need hlist hown _ _ _))
  case tsnGclStatus =>
    rintro _ _ h rfl rfl ty idx harg hmay g l st en
    exact answers_of_body rfl h (need_need harg hmay _ _ _)
  case tsnShaperConfig =>
    rintro _ _ h rfl rfl p k w sum harg hown
    exact answers_of_body rfl h (need_need harg hown _ _ _)
  case tsnPreemptConfig =>
    rintro _ _ h rfl rfl p ims harg hown res
    exact answers_of_outcome rfl h (need_need harg hown _ _ _)
  case tsnStreamSet =>
    rintro _ _ h rfl rfl n id f mac vid opt harg hown x σ ρ
    exact answers_of_body rfl h (need_need harg hown _ _ _)
  case tsnStreamStatus =>
    rintro _ _ h rfl rfl n harg hmay x
    exact answers_of_body rfl h (need_need harg hmay _ _ _)
  case tsnFrerSet =>
    rintro _ _ h rfl rfl f harg hown ρ
    exact answers_of_body rfl h (need_need harg hown _ _ _)
  case tsnGptpStatus =>
    rintro _ _ h rfl rfl i p harg g x
    exact answers_of_body rfl h (need_of harg _ _)
  case faSenderSet =>
    rintro _ _ h rfl rfl n w harg hsecure ρ
    exact answers_of_body rfl h (need_need harg hsecure _ _ _)
  case faStatus =>
    rintro _ _ h rfl rfl n harg hmay cnt
    exact answers_of_body rfl h (need_need harg hmay _ _ _)

/-! ## Gate lists (R44, R279) -/

/-- A pending list whose change instant has come becomes operational. Where that instant was passed over by a step, the list waits for
its first cycle start; a list of a replica that is not aligned is suspended. -/
theorem gclChangeInstant_due {s : State} {t k tc : Nat} {l : Gcl} (hp : ((s.at_ t).gates k).pend = some (l, tc)) (hdue : tc ≤ (s.at_ t).now) :
    gclChangeInstant t k s =
      let s := s.at_ t
      let g := s.gates k
      let s := s.setGates k { g with
        oper := some l, pend := none, resume := if tc < s.now then g.resume.map (fun _ => l.nextStart s.now) else none }
      let s := if k < 28 then s.wrb (F.TSN_GATE_CTL_PENDING k) false else s
      let s := if s.aligned 6 then s else s.suspendGate k
      (s.refreshGates k).trig 288 := by
  simp only [gclChangeInstant, hp, if_pos hdue]

/-! ## Fast-actuation frames (R292-R296) -/

/-- The state in which the fast path checks its oldest waiting frame: the frame has left the queue. -/
def State.faTaken (s : State) (t : Nat) (l : List FaFrame) : State := { s.swAt t with tsn.waiting := l }

/-- The checks 1 to 5 of a frame, and what follows them (R292, R293, R296): a frame that fails one is counted for its reason, and nothing
of it acts; one that passes uses up its number, its entries act where its target checks pass, and its RESULT is sent where it is asked for. -/
def State.faServe (s : State) (f : FaFrame) : State :=
  let b := f.bytes
  let h := faHdr b
  let e := s.faAuth b
  if e ≠ 0 then s.faCount h.sender e
  else
    let s := s.setPair (R.TSN_FA_SND_SEQ_LO h.sender) (R.TSN_FA_SND_SEQ_HI h.sender) h.seq
    let e := s.faTarget b
    let r := if e = 0 then s.faRun f.tIn b else ([], s)
    let s := r.2.faCount h.sender e
    if h.ack then s.sendFrom 27 (s.faResult b e r.1) (s.rd F.TSN_FA_CFG_FA_CLASS) else s

/-- Outside the dark phase the row serves the oldest frame that waits. -/
theorem faFrameArrival_waiting {s : State} {t : Nat} {f : FaFrame} {l : List FaFrame} (hw : (s.swAt t).tsn.waiting = f :: l)
    (hlight : (s.faTaken t l).faDark = false) : faFrameArrival t s = (s.faTaken t l).faServe f := by
  have hrow : faFrameArrival t s = if (s.faTaken t l).faDark then s.faTaken t l else (s.faTaken t l).faServe f := by
    rw [faFrameArrival, hw]; rfl
  rw [hrow, hlight, if_neg Bool.false_ne_true]

/-! ## The events of the TSN units (R274, R278, R279, R283, R288, R292) -/

/-- Settles O33: each row finds the port, the list, the function or the frame that its clause names, and what it guards is due. -/
theorem tsnEventsComplete : Obligations.TsnEventsComplete := by
  intro s
  refine ⟨?gptpMessageReceive, ?gptpMessageInterval, ?gateIntervalEnd, ?gclChangeInstant, ?preemptVerifyTimer, ?frerResetTimer,
    ?frerLatentPeriod, ?faFrameArrival⟩
  case gptpMessageReceive =>
    intro t inst p len m ha σ hport counted
    exact runs_of_guard rfl ha rfl hport
  case gptpMessageInterval =>
    intro t inst p len ha σ hport counted x two
    exact runs_of_guard rfl ha rfl hport
  case gateIntervalEnd =>
    intro t k ha σ hlist
    exact runs_of_guard rfl ha rfl hlist
  case gclChangeInstant =>
    intro t k ha σ l tc hpend hdue
    intros
    exact runs_of_powered rfl ha (gclChangeInstant_due hpend hdue)
  case preemptVerifyTimer =>
    intro t p ok ha σ hverifying
    exact runs_of_guard rfl ha rfl hverifying
  case frerResetTimer =>
    intro t f ha σ x hdue restarted
    exact runs_of_guard rfl ha rfl hdue
  case frerLatentPeriod =>
    intro t f ha σ x hdue want restarted
    exact runs_of_guard rfl ha rfl hdue
  case faFrameArrival =>
    intro t f l ha σ hwaiting taken b h e hlight
    have hserve := faFrameArrival_waiting hwaiting hlight
    exact ⟨fun he => runs_of_powered rfl ha (hserve.trans (if_pos he)),
      fun he => runs_of_powered rfl ha (hserve.trans (if_neg (not_not_intro he)))⟩

end Sys2Proof.Machine

/-!
PROOFS. The field buses' family (chapters 09 and 10): the CAN, LIN and gateway commands (R330-R335, R352-R354, R358), the events of CAN channels
(R306, R316-R323), the stores and pops of their registers (R312-R321), and the LIN channels' events and frame buffers (R326-R329).
-/
namespace Sys2Proof.Machine

/-! ## CAN, LIN and gateway commands (R330-R335, R352-R354, R358) -/

/-- The steps of LIN_TABLE_LOAD, by name: rewriting the row's record finds them without evaluating the checks on the table. -/
theorem dLinTableLoad_body (c : Cmd) (s : State) : dLinTableLoad.body c s = linTableLoadBody c s := by
  rw [dLinTableLoad]

/-- Settles O16: where a command's checks pass, its steps come to the outcome that the statement names; CAN_CONFIG and CAN_RECOVER
pass one check more, that COPPICE serves the channel (R330). -/
theorem fieldBusCommandsComplete : Obligations.FieldBusCommandsComplete := by
  intro s r
  refine ⟨?canConfig, ?canStatus, ?canRecover, ?linConfig, ?linTableLoad, ?linSchedule, ?linStatus, ?gwyStatus, ?gwyRouteStatus,
    ?gwyRouteEnable, ?gwyPduRead, ?gwyBridgeLog⟩
  case canConfig =>
    rintro _ _ h rfl rfl n hserved nbt dbt im old new harg hown res
    exact answers_of_outcome rfl h (need_need_need hserved harg hown _ _ _ _)
  case canStatus =>
    rintro _ _ h rfl rfl n harg hmay x
    exact answers_of_body rfl h (need_need harg hmay _ _ _)
  case canRecover =>
    rintro _ _ h rfl rfl n hserved harg hown hoff
    exact answers_of_body rfl h ((need_need_need hserved harg hown _ _ _ _).trans (need_of hoff _ _))
  case linConfig =>
    rintro _ _ h rfl rfl n im harg hown res
    exact answers_of_outcome rfl h (need_need harg hown _ _ _)
  case linTableLoad =>
    rintro _ _ h rfl rfl b n tab cnt es harg hown res
    exact answers_of_outcome rfl h ((dLinTableLoad_body _ _).trans (need_need harg hown _ _ _))
  case linSchedule =>
    rintro _ _ h rfl rfl n tab w harg hown res
    exact answers_of_outcome rfl h (need_need harg hown _ _ _)
  case linStatus =>
    rintro _ _ h rfl rfl n harg hmay
    exact answers_of_body rfl h (need_need harg hmay _ _ _)
  case gwyStatus =>
    rintro _ _ h rfl rfl rs
    exact answers_of_body rfl h rfl
  case gwyRouteStatus =>
    rintro _ _ h rfl rfl ρ harg hmay x
    exact answers_of_body rfl h (need_need harg hmay _ _ _)
  case gwyRouteEnable =>
    rintro _ _ h rfl rfl ρ harg hown
    exact answers_of_body rfl h (need_need harg hown _ _ _)
  case gwyPduRead =>
    rintro _ _ h rfl rfl ρ upper harg hmay x d
    exact answers_of_body rfl h (need_need harg hmay _ _ _)
  case gwyBridgeLog =>
    rintro _ _ h rfl rfl f n harg
    exact answers_of_body rfl h (need_of harg _ _)

/-! ## Transmit opportunities of a CAN channel (R305, R308, R317, R319) -/

/-- What an opportunity does with a mode that waits: it takes effect at bus idle (R308). -/
def State.takeMode (s : State) (c : Nat) (idle : Bool) : State :=
  match (s.can_ c).modeWant with
  | some m => if idle && (s.can_ c).active.isNone then s.canMode c m else s
  | none => s

theorem State.takeMode_idle {s : State} {c w : Nat} (hw : (s.can_ c).modeWant = some w) (hfree : (s.can_ c).active = none) :
    s.takeMode c true = s.canMode c w := by
  simp only [State.takeMode, hw, hfree, Option.isNone_none, Bool.and_self, if_true]

/-- A channel may begin a frame: it is live and has none on the bus, in NORMAL or LOOPBACK (R305, R319). -/
def State.MaySend (s : State) (c : Nat) : Prop :=
  s.canLive c = true ∧ (s.can_ c).active = none ∧ (s.rd (F.CAN_CTL_MODE c) = 1 ∨ s.rd (F.CAN_CTL_MODE c) = 4)

/-- The model's test of the same. -/
theorem State.maySend_iff (s : State) (c : Nat) :
    (s.canLive c && (s.can_ c).active.isNone && (s.rd (F.CAN_CTL_MODE c) == 1 || s.rd (F.CAN_CTL_MODE c) == 4)) = true ↔ s.MaySend c := by
  simp only [State.MaySend, Bool.and_eq_true, Bool.or_eq_true, beq_iff_eq, Option.isNone_iff_eq_none, and_assoc]

/-- The object that a channel chose, if any, has its frame loaded (R317, R319). The choice is an argument, so that a case split on it does
not evaluate the search among the 512 objects. -/
def State.sendChosen (s : State) (c : Nat) : Option Nat → State
  | some k => s.loadFrame c k
  | none => s

section
variable {s : State} {t c : Nat} {idle : Bool} (hc : c < 16)
include hc

/-- An opportunity takes a mode that waits, and then sends where the channel may. -/
theorem canTxOpportunity_eq : canTxOpportunity t c idle s =
    let s := (s.at_ t).takeMode c idle
    if s.canLive c && (s.can_ c).active.isNone && (s.rd (F.CAN_CTL_MODE c) == 1 || s.rd (F.CAN_CTL_MODE c) == 4) then
      s.sendChosen c (s.txChoice c)
    else s := by
  rw [canTxOpportunity, if_neg (Nat.not_le.mpr hc), State.takeMode]
  cases ((s.at_ t).can_ c).modeWant with
  | none =>
    dsimp only
    generalize (s.at_ t).txChoice c = o
    cases o <;> rfl
  | some m =>
    dsimp only
    generalize (if (idle && ((s.at_ t).can_ c).active.isNone) = true then (s.at_ t).canMode c m else s.at_ t) = u
    generalize u.txChoice c = o
    cases o <;> rfl

theorem canTxOpportunity_of_maySend (h : ((s.at_ t).takeMode c idle).MaySend c) :
    canTxOpportunity t c idle s = ((s.at_ t).takeMode c idle).sendChosen c (((s.at_ t).takeMode c idle).txChoice c) := by
  rw [canTxOpportunity_eq hc]
  exact if_pos ((State.maySend_iff _ _).mpr h)

theorem canTxOpportunity_of_not_maySend (h : ¬ ((s.at_ t).takeMode c idle).MaySend c) :
    canTxOpportunity t c idle s = (s.at_ t).takeMode c idle := by
  rw [canTxOpportunity_eq hc]
  exact if_neg (mt (State.maySend_iff _ _).mp h)

/-- An opportunity of a channel that may send loads the frame of the object it chooses. -/
theorem canTxOpportunity_of_choice {k : Nat} (hsend : ((s.at_ t).takeMode c idle).MaySend c)
    (hk : ((s.at_ t).takeMode c idle).txChoice c = some k) : canTxOpportunity t c idle s = ((s.at_ t).takeMode c idle).loadFrame c k := by
  rw [canTxOpportunity_of_maySend hc hsend, hk, State.sendChosen]

/-- An opportunity of a channel that may not send, or has nothing to send, takes the mode at most. -/
theorem canTxOpportunity_of_no_choice
    (hnone : ¬ (((s.at_ t).takeMode c idle).MaySend c ∧ (((s.at_ t).takeMode c idle).txChoice c).isSome = true)) :
    canTxOpportunity t c idle s = (s.at_ t).takeMode c idle := by
  by_cases hsend : ((s.at_ t).takeMode c idle).MaySend c
  · have hk : ((s.at_ t).takeMode c idle).txChoice c = none := Option.not_isSome_iff_eq_none.mp (fun hk => hnone ⟨hsend, hk⟩)
    rw [canTxOpportunity_of_maySend hc hsend, hk, State.sendChosen]
  · exact canTxOpportunity_of_not_maySend hc hsend

end

/-! ## The events of a CAN channel (R306, R313, R316, R318, R319, R322, R323) -/

/-- Settles O34: each row finds the frame, the timer or the state of the channel that its clause names, and what it guards is due. -/
theorem canBusEventsComplete : Obligations.CanBusEventsComplete := by
  intro s
  refine ⟨?canFrameValid, ?canTxOpportunity, ?canTxFrameComplete, ?canTxLostOrError, ?canBusError, ?canRecoverDelayExpiry,
    ?canRecoveryComplete, ?domTimeout⟩
  case canFrameValid =>
    intro t c fr hc _ _ live _
    exact runs_of_always rfl (if_congr (or_iff_right (Nat.not_le.mpr hc)) rfl rfl)
  case canTxOpportunity =>
    intro t c idle ha hc u σ m
    refine ⟨fun k hlive hfree hmode hk => ?_, fun w hw hidle hfree hnone => ?_⟩
    · exact runs_of_powered rfl ha (canTxOpportunity_of_choice hc ⟨hlive, hfree, hmode⟩ hk)
    · subst hidle
      have hkept := canTxOpportunity_of_no_choice (s := s) (t := t) (idle := true) hc
        (fun ⟨⟨hlive, hfree, hmode⟩, hk⟩ => hnone ⟨hlive, hfree, hmode, hk⟩)
      exact runs_of_powered rfl ha (hkept.trans (State.takeMode_idle hw hfree))
  case canTxFrameComplete =>
    intro t c sof ha σ k b hactive woken stored counted ended lowered received
    exact runs_of_powered rfl ha
      (by simp only [canTxFrameComplete, hactive, σ, woken, stored, counted, ended, lowered, received])
  case canTxLostOrError =>
    intro t c lost ha σ k v hactive
    exact runs_of_powered rfl ha (by simp only [canTxLostOrError, hactive, σ])
  case canBusError =>
    intro t c dTec dRec lec dataPhase hc σ live seen
    refine runs_of_always rfl ?_
    have hcounts : (σ.decodes c && (lec == 1 || lec == 2 || lec == 6)) = true ↔ σ.decodes c = true ∧ (lec = 1 ∨ lec = 2 ∨ lec = 6) := by
      simp [or_assoc]
    by_cases hlive : live = true
    · have hacts : ¬ (16 ≤ c ∨ live = false) := by simp [hlive, hc]
      rw [if_pos hlive]
      exact (if_neg hacts).trans (congrArg (fun u => State.canError u c dTec dRec lec dataPhase) (if_congr hcounts rfl rfl))
    · have hdark : 16 ≤ c ∨ live = false := Or.inr (by simpa using hlive)
      rw [if_neg hlive]
      exact (if_pos hdark).trans (if_congr hcounts rfl rfl)
  case canRecoverDelayExpiry =>
    intro t c ha σ u hu hdue
    exact runs_of_powered rfl ha (by simp only [canRecoverDelayExpiry, hu, if_pos hdue, σ])
  case canRecoveryComplete =>
    intro t c ha σ hstate
    exact runs_of_guard rfl ha rfl hstate
  case domTimeout =>
    intro t c ha σ hon
    exact runs_of_guard rfl ha rfl hon

/-! ## Stores to the block of a channel (R307, R310, R357) -/

/-- The bus of a posted store is idle already. -/
theorem State.posted_idle (s : State) (t : Nat) (a : Acc) (addr : Nat) :
    ({ s.posted t a addr with bus := .none } : State) = s.posted t a addr := by
  rw [← State.posted_bus s t a addr]

/-- Who may write an object's block is a matter of the registers, which a posted store leaves. -/
theorem State.posted_blockWrites (s : State) (t : Nat) (a : Acc) (addr kind idx : Nat) :
    (s.posted t a addr).blockWrites a kind idx = s.blockWrites a kind idx := by
  obtain ⟨_, _, h⟩ := s.posted_eq t a addr
  rw [h]
  rfl

section
variable {i : Instr} {s : State} {t addr : Nat} {a : Acc}

/-- A posted store of a requester that may write the block does the operation. -/
theorem State.posted_blockWrite {kind idx : Nat} (hw : s.blockWrites a kind idx = true) (addr' : Nat) (f : State → State) :
    (s.posted t a addr).blockWrite a kind idx addr' f = f (s.posted t a addr) := by
  rw [State.blockWrite, State.posted_blockWrites, if_pos hw, State.posted_idle]

/-- A row of a store that reaches an existing object's register runs its operation. -/
theorem runs_of_storeRow {ok : Bool} {f : State → State} {u : State} (he : exec i s = storeRow ok t a addr f s) (hk : ok = true)
    (h : s.Stores t a addr = true) (hu : f (s.posted t a addr) = u) : Runs i s u := by
  rw [Runs, he, storeRow_reg hk h, hu]

section
variable {c k : Nat} (hc : c < 16) (hk : k < 512) (hw : s.blockWrites a kCan c = true)
include hc hk hw

theorem canObjEnWrite_posted (v : Nat) : canObjEnWrite t a c k v (s.posted t a addr) = (s.posted t a addr).writeObjId c k v := by
  simp only [canObjEnWrite, State.posted_at, hc, hk, and_self, if_true, State.posted_blockWrite hw]

theorem State.posted_canCtl (f : State → State) : (s.posted t a addr).canCtl t a c k f = f (s.posted t a addr) := by
  simp only [State.canCtl, State.posted_at, hc, hk, and_self, if_true, State.posted_blockWrite hw]

/-- A row of a store to an object's control word does the operation that its bits select. -/
theorem runs_of_canCtl (f : State → State)
    (he : exec i s = storeRow (decide (c < 16 ∧ k < 512)) t a (R.CAN_OBJ_CTL c k) (fun s => s.canCtl t a c k f) s)
    (h : s.Stores t a (R.CAN_OBJ_CTL c k) = true) : Runs i s (f (s.posted t a (R.CAN_OBJ_CTL c k))) :=
  runs_of_storeRow he (decide_eq_true ⟨hc, hk⟩) h (State.posted_canCtl hc hk hw f)

end

/-- A row of a store to a LIN frame buffer does its operation. -/
theorem runs_of_linWrite {c j : Nat} (hc : c < 8) (hj : j < 64) (hw : s.blockWrites a kLin c = true) (f : State → State)
    (he : exec i s = storeRow (decide (c < 8 ∧ j < 64)) t a addr (fun s => s.linWrite t a c j addr f) s)
    (h : s.Stores t a addr = true) : Runs i s (f (s.posted t a addr)) :=
  runs_of_storeRow he (decide_eq_true ⟨hc, hj⟩) h
    (by simp only [State.linWrite, State.posted_at, hc, hj, and_self, if_true, State.posted_blockWrite hw])

end

/-! ## Pops of the event queues (R321) -/

/-- An address of a family of registers has its index there. -/
theorem atIdx_of_mem {base st n i : Nat} (hst : 0 < st) (hi : i < n) : atIdx (base + st * i) base st n = some i := by
  simp [atIdx, hst, hi]

/-- An address that lies between the registers of a family is none of them. -/
theorem atIdx_of_offset {base st n i o : Nat} (ho : 0 < o) (hst : o < st) : atIdx (base + (o + st * i)) base st n = none := by
  have hmod : (o + st * i) % st = o := by rw [Nat.add_mul_mod_self_left, Nat.mod_eq_of_lt hst]
  simp [atIdx, hmod, Nat.ne_of_gt ho]

section
variable {s : State} {t c : Nat} {a : Acc} (hc : c < 16)
include hc

/-- A load of CAN_RXEVT_POP that reaches it is a pop of the receive queue. -/
theorem State.regLoad_rxevtPop (hb : s.blockAdmits a false (R.CAN_RXEVT_POP c) = true) (hp : s.powered (R.CAN_RXEVT_POP c) = true) :
    s.regLoad a (R.CAN_RXEVT_POP c) = canRxevtPop s.now a c s := by
  have hrx : atIdx (R.CAN_RXEVT_POP c) (R.CAN_RXEVT_POP 0) 0x4000 16 = some c := atIdx_of_mem (by decide) hc
  have hclaim : R.CAN_RXEVT_POP c ≠ R.IRQ_CLAIM_POP := by unfold R.CAN_RXEVT_POP R.IRQ_CLAIM_POP; omega
  rw [State.regLoad, if_neg (by simp [hb]), if_neg (by simp [hp]), if_neg hclaim, hrx]

/-- A load of CAN_TXEVT_POP that reaches it is a pop of the transmit queue. -/
theorem State.regLoad_txevtPop (hb : s.blockAdmits a false (R.CAN_TXEVT_POP c) = true) (hp : s.powered (R.CAN_TXEVT_POP c) = true) :
    s.regLoad a (R.CAN_TXEVT_POP c) = canTxevtPop s.now a c s := by
  have hrx : atIdx (R.CAN_TXEVT_POP c) (R.CAN_RXEVT_POP 0) 0x4000 16 = none := by
    rw [show R.CAN_TXEVT_POP c = R.CAN_RXEVT_POP 0 + (4 + 0x4000 * c) by simp only [R.CAN_TXEVT_POP, R.CAN_RXEVT_POP]; omega]
    exact atIdx_of_offset (by decide) (by decide)
  have htx : atIdx (R.CAN_TXEVT_POP c) (R.CAN_TXEVT_POP 0) 0x4000 16 = some c := atIdx_of_mem (by decide) hc
  have hclaim : R.CAN_TXEVT_POP c ≠ R.IRQ_CLAIM_POP := by unfold R.CAN_TXEVT_POP R.IRQ_CLAIM_POP; omega
  rw [State.regLoad, if_neg (by simp [hb]), if_neg (by simp [hp]), if_neg hclaim, hrx, htx]

end

/-- A row of a load that reaches an existing object's register answers what the register's load does. -/
theorem runs_of_loadRow {i : Instr} {s u : State} {t addr : Nat} {a : Acc} {ok : Bool} (he : exec i s = loadRow ok t a addr s)
    (hk : ok = true) (h : s.Loads t a addr = true) (hu : (s.polled t).regLoad a addr = u) : Runs i s u := by
  rw [Runs, he, loadRow_reg hk h, hu]

/-- A read of a block by one that may read it, in a state whose time has come. -/
theorem State.polled_blockRead {s : State} {t kind idx : Nat} {a : Acc} (hr : s.blockReads a kind idx = true) (addr : Nat) (f : State → State) :
    (s.polled t).blockRead a kind idx addr f = f (s.polled t) :=
  if_pos hr

/-! ## The registers of CAN objects and queues (R312, R313, R316, R318, R321) -/

/-- Settles O35: a store that reaches an object's register does the operation of its bits; a load of a queue pops it. -/
theorem canRegisterRowsComplete : Obligations.CanRegisterRowsComplete := by
  intro s
  refine ⟨?canObjEnWrite, ?canEvqOff, ?canEvqOn, ?canLostClr, ?canHoldRel, ?canHoldSet, ?canAbort, ?canTxreq, ?canRxevtPop, ?canTxevtPop⟩
  case canObjEnWrite =>
    intro t a c k v hc hk h hw
    exact runs_of_storeRow rfl (decide_eq_true ⟨hc, hk⟩) h (canObjEnWrite_posted hc hk hw v)
  case canEvqOff =>
    intro t a c k hc hk h hw
    exact runs_of_canCtl hc hk hw (fun s => s.actEvqOff c k) rfl h
  case canEvqOn =>
    intro t a c k hc hk h hw
    exact runs_of_canCtl hc hk hw (fun s => s.actEvqOn c k) rfl h
  case canLostClr =>
    intro t a c k hc hk h hw
    exact runs_of_canCtl hc hk hw (fun s => s.actLostClr c k) rfl h
  case canHoldRel =>
    intro t a c k hc hk h hw
    exact runs_of_canCtl hc hk hw (fun s => s.actHoldRel c k) rfl h
  case canHoldSet =>
    intro t a c k hc hk h hw
    exact runs_of_canCtl hc hk hw (fun s => s.actHoldSet c k) rfl h
  case canAbort =>
    intro t a c k hc hk h hw
    exact runs_of_canCtl hc hk hw (fun s => s.actAbort c k) rfl h
  case canTxreq =>
    intro t a c k slot hc hk h hw
    exact runs_of_canCtl hc hk hw (fun s => s.actTxreq c k (slot % 2)) rfl h
  case canRxevtPop =>
    intro t a c hc h hr
    obtain ⟨hb, hp⟩ := State.Loads.admits h
    refine runs_of_loadRow rfl (decide_eq_true hc) h ((State.regLoad_rxevtPop hc hb hp).trans ?_)
    rw [canRxevtPop, State.polled_at_now, if_pos hc, State.polled_blockRead hr]
  case canTxevtPop =>
    intro t a c hc h hr
    obtain ⟨hb, hp⟩ := State.Loads.admits h
    refine runs_of_loadRow rfl (decide_eq_true hc) h ((State.regLoad_txevtPop hc hb hp).trans ?_)
    rw [canTxevtPop, State.polled_at_now, if_pos hc, State.polled_blockRead hr]

/-! ## LIN slots, frames and frame buffers (R326-R329) -/

/-- LIN_SLOT_START of a slot that is due on an aligned and awake channel, in the state `u` that the row acts in once a schedule more than
1 ms late has moved on (R42): a disabled schedule stops, a channel that is to sleep sends go-to-sleep, a schedule that runs goes on, and one
that does not starts the selected table (R326, R328, R372). -/
theorem linSlotStart_due {s u : State} {t c : Nat} (hrun : ¬ (8 ≤ c ∨ (s.at_ t).aligned 7 = false ∨ ((s.at_ t).lin_ c).asleep = true))
    (hu : u = if ((s.at_ t).lin_ c).nextAt + ms 1 < (s.at_ t).now then (s.at_ t).linForward c else s.at_ t)
    (hdue : (u.lin_ c).nextAt ≤ u.now) :
    linSlotStart t c s =
      if !u.rdb (F.LIN_CTL_ENABLE c) then u.linStop c
      else if u.slp.linSleep.contains c then u.linGoToSleep c
      else if (u.lin_ c).run then u.linNext c
      else u.linServe c (u.rd (F.LIN_CTL_TABLE c)) 0 := by
  subst hu
  rw [linSlotStart, if_neg hrun, if_neg (Nat.not_lt.mpr hdue)]

/-- Settles O36: the slot, the response or the limit of a row is due, and each store does its buffer's operation. -/
theorem linCommandsComplete : Obligations.LinCommandsComplete := by
  intro s
  refine ⟨?linSlotStart, ?linResponseEnd, ?linFrameMaxExpiry, ?linHoldSet, ?linHoldRel, ?linLostClr, ?linData1Write⟩
  case linSlotStart =>
    intro t c ha
    dsimp only
    intro hrun hdue
    exact runs_of_powered rfl ha (linSlotStart_due hrun rfl hdue)
  case linResponseEnd =>
    intro t c err data ha σ f hf hlimit
    exact runs_of_powered rfl ha (by simp only [linResponseEnd, hf, if_neg hlimit, σ])
  case linFrameMaxExpiry =>
    intro t c got ha σ f hf hlimit
    exact runs_of_powered rfl ha (by simp only [linFrameMaxExpiry, hf, if_neg hlimit, σ])
  case linHoldSet =>
    intro t a c j hc hj h hw
    exact runs_of_linWrite hc hj hw (fun s => s.linHoldSet c j) rfl h
  case linHoldRel =>
    intro t a c j hc hj h hw
    exact runs_of_linWrite hc hj hw (fun s => s.linHoldRel c j) rfl h
  case linLostClr =>
    intro t a c j hc hj h hw
    exact runs_of_linWrite hc hj hw (fun s => s.linLostClr c j) rfl h
  case linData1Write =>
    intro t a c j v hc hj h hw
    exact runs_of_linWrite hc hj hw (fun s => s.writeLinData1 c j v) rfl h

end Sys2Proof.Machine

/-!
PROOFS. The signal gateway's events (chapter 10): due sends, maximum gaps, timeouts and containers (R342, R343, R348).
-/
namespace Sys2Proof.Machine

/-! ## Containers received (R348) -/

/-- The gateway unpacks containers: it runs, on a module that is not in COPPICE. -/
def State.Unpacks (s : State) : Prop := s.gwy.running = true ∧ s.dev ≠ .coppice

/-- A container's payload is well formed and has at least one entry; its entries are `es`. -/
def HasEntries (b : List Byte) (es : List (Nat × List Byte)) : Prop :=
  beAt b 0 1 = 0x10 ∧ beAt b 1 1 ≠ 0 ∧ contEntries b (beAt b 1 1) 8 = some es

/-- What one entry of a container does: the routes of its PDU are updated, or it counts as unknown where no route names the PDU. -/
def State.entryTaken (s : State) (e : Nat × List Byte) : State :=
  if (s.routesFrom (epPdu e.1)).isEmpty then ({ s with gwy.unknown := wrap32 (s.gwy.unknown + 1) }).trig 546
  else s.gwyUpdate (epPdu e.1) 0 e.2

/-- The oldest container that waits is taken, and its entries act in their order where the gateway unpacks it. -/
theorem containerReceive_waiting {s : State} {t : Nat} {b : List Byte} {l : List (List Byte)} {es : List (Nat × List Byte)}
    (hw : (s.at_ t).gwy.waiting = b :: l) (hs : (s.at_ t).Unpacks) (hb : HasEntries b es) :
    containerReceive t s = foldS es (fun e s => s.entryTaken e) { s.at_ t with gwy.waiting := l } := by
  obtain ⟨hrunning, hdev⟩ := hs
  obtain ⟨hversion, hcount, hentries⟩ := hb
  have hdrop : ¬ ((!(s.at_ t).gwy.running || (s.at_ t).dev == .coppice || beAt b 0 1 != 0x10 || beAt b 1 1 == 0) = true) := by
    simp only [hrunning, hversion, beq_false_of_ne hdev, beq_false_of_ne hcount, Bool.not_true, bne_self_eq_false, Bool.or_self,
      Bool.false_eq_true, not_false_eq_true]
  simp only [containerReceive, hw]
  rw [if_neg hdrop, hentries]
  rfl

/-! ## The events of the gateway (R342, R343, R348) -/

/-- Settles O37: each timer row finds its route or container due; the container row, a container whose entries it unpacks. -/
theorem gatewayEventsComplete : Obligations.GatewayEventsComplete := by
  intro s
  refine ⟨?gatewaySendDue, ?gatewayMaxGapExpiry, ?gatewayTimeout, ?containerSendTimeout, ?containerReceive⟩
  case gatewaySendDue =>
    intro t r ha σ hdue
    exact runs_of_guard rfl ha rfl hdue
  case gatewayMaxGapExpiry =>
    intro t r ha σ x hdue
    exact runs_of_guard rfl ha rfl hdue
  case gatewayTimeout =>
    intro t r ha σ x hdue timedOut counted
    exact runs_of_guard rfl ha rfl hdue
  case containerSendTimeout =>
    intro t k ha σ x hdue
    exact runs_of_guard rfl ha rfl hdue
  case containerReceive =>
    intro t b l es ha σ hwaiting hrunning hdev hversion hcount hentries
    exact runs_of_powered rfl ha (containerReceive_waiting hwaiting ⟨hrunning, hdev⟩ ⟨hversion, hcount, hentries⟩)

end Sys2Proof.Machine

/-!
PROOFS. The sleep and wake family (chapter 11): the sleep and chain commands (R378-R381, R401-R403), the events of the entry to sleep
(R361-R363, R369, R373, R376), and the events that wake the module or a channel (R366-R374, R394).
-/
namespace Sys2Proof.Machine

/-! ## Sleep and chain commands (R361, R371-R373, R378-R381, R401-R403) -/

/-- Settles O17: where a command's checks pass, its steps come to the outcome that the statement names. -/
theorem sleepChainCommandsComplete : Obligations.SleepChainCommandsComplete := by
  intro s r
  refine ⟨?slpVote, ?slpStatus, ?slpWakeInfo, ?slpChannel, ?slpAlarm, ?slpSwkConfig, ?hdgStatus, ?hdgTopology, ?hdgEnum, ?hdgMapForget⟩
  case slpVote =>
    rintro _ _ h rfl rfl v harg hvoter w
    exact answers_of_body rfl h (need_need harg hvoter _ _ _)
  case slpStatus =>
    rintro _ _ h rfl rfl since
    exact answers_of_body rfl h rfl
  case slpWakeInfo =>
    rintro _ _ h rfl rfl
    exact answers_of_body rfl h rfl
  case slpChannel =>
    rintro _ _ h rfl rfl k n op harg hown res
    exact answers_of_outcome rfl h (need_need harg hown _ _ _)
  case slpAlarm =>
    rintro _ _ h rfl rfl v harg hvoter
    exact answers_of_body rfl h (need_need harg hvoter _ _ _)
  case slpSwkConfig =>
    rintro _ _ h rfl rfl n k top others harg hfree hown
    exact answers_of_body rfl h (need_need_need harg hfree hown _ _ _ _)
  case hdgStatus =>
    rintro _ _ h rfl rfl
    exact answers_of_body rfl h rfl
  case hdgTopology =>
    rintro _ _ h rfl rfl f n harg
    exact answers_of_body rfl h (need_of harg _ _)
  case hdgEnum =>
    rintro _ _ h rfl rfl hsecure hroot
    exact answers_of_body rfl h (need_need hsecure hroot _ _ _)
  case hdgMapForget =>
    rintro _ _ h rfl rfl k harg hsecure hroot
    exact answers_of_body rfl h (need_need_need harg hsecure hroot _ _ _ _)

/-! ## The end of the ready delay (R362, R396) -/

/-- A unit that decides its commit itself is at the end of its ready delay: no instant is announced to it, and no root names one. -/
def State.DelayOver (s : State) : Prop := s.hdg.commitAt = none ∧ s.phase = 1 ∧ s.readyEnd ≤ s.now ∧ s.chainNames = false

/-- The unit is the root of a chain that sleeps with it: its COMMIT frame goes first. -/
def State.commitsByFrame (s : State) : Bool := s.chainSleeps && s.rd F.HDG_CFG_ROLE == 1 && s.rdb F.HDG_STAT_DN_LINK

/-- The COMMIT frame that a root seals and queues; its sending names the instant. -/
def State.queueCommit (s : State) : State :=
  let f := s.hdgSeal { ty := 7, dst := s.rd F.HDG_STAT_NODE / 64 * 64 + 63, payload := bytesBE 8 0 }
  f.2.sendDn f.1

section
variable {s : State} {t : Nat}

/-- An announced commit takes place once its instant has come, on a unit that runs and that is ready or follows its root. -/
theorem readyDlyExpiry_announced {u : Nat} (hu : (s.at_ t).hdg.commitAt = some u)
    (hphase : (s.at_ t).phase = 1 ∨ ((s.at_ t).chainNames = true ∧ (s.at_ t).phase = 0)) (hdue : u ≤ (s.at_ t).now)
    (hrun : (s.at_ t).dev = .running) : readyDlyExpiry t s = (s.at_ t).commitNow u := by
  simp only [readyDlyExpiry, hu]
  exact if_pos ⟨hphase, hdue, hrun⟩

/-- At the end of the ready delay a root queues one COMMIT frame; any other unit commits at the grid instant. -/
theorem readyDlyExpiry_delayOver (h : (s.at_ t).DelayOver) : readyDlyExpiry t s =
    if (s.at_ t).commitsByFrame then
      if (s.at_ t).hdg.outDn.any (fun f => f.ty == 7) then s.at_ t else (s.at_ t).queueCommit
    else if gridAt (s.at_ t).readyEnd ≤ (s.at_ t).now then (s.at_ t).commitNow (gridAt (s.at_ t).readyEnd) else s.at_ t := by
  obtain ⟨hnone, hover⟩ := h
  simp only [readyDlyExpiry, hnone]
  exact if_pos hover

theorem readyDlyExpiry_root (h : (s.at_ t).DelayOver) (hroot : (s.at_ t).commitsByFrame = true)
    (hfirst : (s.at_ t).hdg.outDn.any (fun f => f.ty == 7) = false) : readyDlyExpiry t s = (s.at_ t).queueCommit := by
  rw [readyDlyExpiry_delayOver h, if_pos hroot, hfirst, if_neg Bool.false_ne_true]

theorem readyDlyExpiry_grid (h : (s.at_ t).DelayOver) (hroot : (s.at_ t).commitsByFrame = false)
    (hdue : gridAt (s.at_ t).readyEnd ≤ (s.at_ t).now) : readyDlyExpiry t s = (s.at_ t).commitNow (gridAt (s.at_ t).readyEnd) := by
  rw [readyDlyExpiry_delayOver h, hroot, if_neg Bool.false_ne_true, if_pos hdue]

end

/-! ## The entry to sleep and the lines (R361-R363, R369, R373, R376) -/

/-- Settles O42: READY_DLY_EXPIRY by who decides the commit; every other row finds what it guards due. -/
theorem sleepEventsComplete : Obligations.SleepEventsComplete := by
  intro s
  refine ⟨?readyDlyExpiry, ?prepMsExpiry, ?sleepPowerDownComplete, ?coppiceSleepCommit, ?tc10HandshakeComplete, ?wakeOutPulseEnd,
    ?lineInputChange⟩
  case readyDlyExpiry =>
    intro t ha σ
    refine ⟨?announced, ?root, ?grid⟩
    case announced =>
      intro u hu hphase hdue hrun
      exact runs_of_powered rfl ha (readyDlyExpiry_announced hu hphase hdue hrun)
    case root =>
      intro hnone hphase hend hown hroot hfirst f
      exact runs_of_powered rfl ha (readyDlyExpiry_root ⟨hnone, hphase, hend, hown⟩ hroot hfirst)
    case grid =>
      intro hnone hphase hend hown hroot hdue
      exact runs_of_powered rfl ha (readyDlyExpiry_grid ⟨hnone, hphase, hend, hown⟩ hroot hdue)
  case prepMsExpiry =>
    intro t ha σ hdue written logged cut slept
    exact runs_of_guard rfl ha rfl hdue
  case sleepPowerDownComplete =>
    intro t σ hprepped out down
    exact runs_of_always rfl (if_pos hprepped)
  case coppiceSleepCommit =>
    intro t ha σ hquiet
    exact runs_of_guard rfl ha rfl hquiet
  case tc10HandshakeComplete =>
    intro t p ok ha σ hopen
    exact runs_of_guard rfl ha rfl hopen
  case wakeOutPulseEnd =>
    intro t σ u hu hdue
    exact runs_of_always rfl (by simp only [wakeOutPulseEnd, hu, if_pos hdue, σ])
  case lineInputChange =>
    intro t wakeIn ign σ u
    exact runs_of_always rfl rfl

/-! ## Wake events (R366-R374, R394) -/

/-- Settles O43: the line rows take the line's level and judge it; every other row finds the alarm, channel, port or pulse that its
clause names. -/
theorem wakeEventsComplete : Obligations.WakeEventsComplete := by
  intro s
  refine ⟨?wakeInEvent, ?ignSenseEvent, ?rtcAlarm, ?canWakePattern, ?canWakeFrame, ?canFecOverflow, ?linWakeDominant, ?ethTc10Wake,
    ?chainWakePulse⟩
  case wakeInEvent =>
    intro t level σ seen held taken
    exact runs_of_always rfl rfl
  case ignSenseEvent =>
    intro t level σ seen held taken
    exact runs_of_always rfl rfl
  case rtcAlarm =>
    intro t v σ a hdue
    exact runs_of_always rfl (if_neg hdue)
  case canWakePattern =>
    intro t c σ hsilent
    exact runs_of_always rfl (if_pos hsilent)
  case canWakeFrame =>
    intro t c fr σ hdecodes
    exact runs_of_always rfl (if_pos hdecodes)
  case canFecOverflow =>
    intro t c σ hlast
    exact runs_of_always rfl (if_pos hlast)
  case linWakeDominant =>
    intro t c fin σ hc
    exact runs_of_always rfl (if_neg hc)
  case ethTc10Wake =>
    intro t p σ hp
    exact runs_of_always rfl (if_neg hp)
  case chainWakePulse =>
    intro t up σ hlatches
    exact runs_of_always rfl (if_pos hlatches)

end Sys2Proof.Machine

/-!
PROOFS. The steps (assumption log 2, 3 and 106): the command at the front of the queue is executed with its rest, every row answers a next
state and keeps the invariant, and the reset state meets it.
-/
namespace Sys2Proof.Machine

/-! ## What every row keeps -/

/-- A row answers a next state, which keeps memory's canonical form and the queue and leaves no reaction where none waited. -/
def Kept (q : List Instr) (s : State) (o : Host.Outcome State Fault Refusal) : Prop :=
  ∃ u, o = .next u ∧ State.Keeps q u ∧ (s.flt.react = [] → u.flt.react = [])

/-- The opcode of each request's command is found in the table of commands. -/
theorem cmdOfOp_request {i : Instr} {d : CmdDef} {r : Req} (h : request i = some (d, r)) : cmdOfOp d.op = some d := by
  cases i
  all_goals cases h
  all_goals rfl

/-- What the rows of a ring pair's registers do: the store goes over the bus where the pair exists (R258, R259). -/
def ringStore (t : Nat) (a : Acc) (r addr v : Nat) (s : State) : State :=
  if r < 64 then (s.at_ t).busStore a false addr (bytesLE 4 v) else s.at_ t

theorem exec_swcRingEnable (t : Nat) (a : Acc) (r v : Nat) (s : State) :
    exec (.swcRingEnable t a r v) s = powered t (ringStore t a r (R.SWC_RING_CTL r) v) s := rfl

theorem exec_swcTxProdWrite (t : Nat) (a : Acc) (r v : Nat) (s : State) :
    exec (.swcTxProdWrite t a r v) s = powered t (ringStore t a r (R.SWC_RING_TX_PROD r) v) s := rfl

theorem exec_swcRxFillWrite (t : Nat) (a : Acc) (r v : Nat) (s : State) :
    exec (.swcRxFillWrite t a r v) s = powered t (ringStore t a r (R.SWC_RING_RX_FILL r) v) s := rfl

theorem ringStore_keeps {q : List Instr} {t r addr v : Nat} {a : Acc} {s : State} (hs : State.Keeps q s) :
    State.Keeps q (ringStore t a r addr v s) :=
  ite_keeps (State.busStore_keeps (State.at__keeps hs)) (State.at__keeps hs)

section
variable {q : List Instr} {s : State} (hs : State.Keeps q s)
include hs

/-- A mailbox row keeps what its command's steps keep; in ROM recovery the boot ROM serves the update commands (R561). -/
theorem exec_request_keeps {i : Instr} {d : CmdDef} {r : Req} (h : request i = some (d, r)) : Kept q s (exec i s) := by
  have hd : CmdDef.Keeps q d := cmdOfOp_keeps (cmdOfOp_request h)
  cases i
  case updStatus => cases h; exact romMailbox_keeps hs hd (fun _ _ => updStatusBody_keeps)
  case updBegin => cases h; exact romMailbox_keeps hs hd (fun _ _ => updBegin_keeps)
  case updChunk => cases h; exact romMailbox_keeps hs hd (fun _ _ => updChunk_keeps)
  case updVerify => cases h; exact romMailbox_keeps hs hd (fun _ _ => updVerifyBody_keeps)
  case updActivate => cases h; exact romMailbox_keeps hs hd (fun _ _ => updActivateBody_keeps)
  all_goals cases h
  all_goals exact mailbox_keeps hs hd

/-- Every other row keeps what its operation keeps. -/
theorem exec_event_keeps {i : Instr} (h : request i = none) : Kept q s (exec i s) := by
  cases i
  case registerWrite => exact powered_keeps hs (fun _ => registerWrite_keeps)
  case lowWordRead => exact powered_keeps hs (fun _ => lowWordRead_keeps)
  case memoryAccess => exact powered_keeps hs (fun _ => memoryAccess_keeps)
  case bridgeRead => exact powered_keeps hs (fun _ => bridgeRead_keeps)
  case readaheadFill => exact powered_keeps hs (fun _ => readaheadFill_keeps)
  case readaheadExpiry => exact powered_keeps hs (fun _ => readaheadExpiry_keeps)
  case postedWriteFailure => exact powered_keeps hs (fun _ => postedWriteFailure_keeps)
  case alignmentWord => exact powered_keeps hs (fun _ => alignmentWord_keeps)
  case lateActionWindowExpiry => exact powered_keeps hs (fun _ => lateActionWindowExpiry_keeps)
  case sourceMeasurement => exact powered_keeps hs (fun _ => sourceMeasurement_keeps)
  case sourceLoss => exact powered_keeps hs (fun _ => sourceLoss_keeps)
  case comparatorFire => exact powered_keeps hs (fun _ => comparatorFire_keeps)
  case tbsCmpArm => exact powered_keeps hs (fun _ => tbsCmpArm_keeps)
  case tbsCmpDisarm => exact powered_keeps hs (fun _ => tbsCmpDisarm_keeps)
  case irqSourceTrigger => exact powered_keeps hs (fun _ => irqSourceTrigger_keeps)
  case irqClaimPop => exact powered_keeps hs (fun _ => irqClaimPop_keeps)
  case irqEoi => exact powered_keeps hs (fun _ => irqEoi_keeps)
  case irqDoorbell => exact powered_keeps hs (fun _ => irqDoorbell_keeps)
  case mbxEnable => exact powered_keeps hs (fun _ => mbxEnable_keeps)
  case mbxDisable => exact powered_keeps hs (fun _ => mbxDisable_keeps)
  case mbxReqProdWrite => exact powered_keeps hs (fun _ => mbxReqProdWrite_keeps)
  case mbxRspConsWrite => exact powered_keeps hs (fun _ => mbxRspConsWrite_keeps)
  case mbxErrClear => exact powered_keeps hs (fun _ => mbxErrClear_keeps)
  case commandWaitResume => exact powered_keeps hs (fun _ => commandWaitResume_keeps)
  case commandWaitTimeout => exact powered_keeps hs (fun _ => commandWaitTimeout_keeps)
  case forwardDeadlineExpiry => exact powered_keeps hs (fun _ => forwardDeadlineExpiry_keeps)
  case forwardedResponseArrival => exact powered_keeps hs (fun _ => forwardedResponseArrival_keeps)
  case edgeInstant => rw [exec_edgeInstant]; exact powered_keeps hs (fun _ hu => State.sleepEdge_keeps (edgeInstant_keeps hu))
  case transitionEnd => exact powered_keeps hs (fun _ => transitionEnd_keeps)
  case deadTimeExpiry => exact powered_keeps hs (fun _ => deadTimeExpiry_keeps)
  case freewheelCurrentLow => exact powered_keeps hs (fun _ => freewheelCurrentLow_keeps)
  case freewheelMaxExpiry => exact powered_keeps hs (fun _ => freewheelMaxExpiry_keeps)
  case shortCircuit => exact powered_keeps hs (fun _ => shortCircuit_keeps)
  case currentLimitEntry => exact powered_keeps hs (fun _ => currentLimitEntry_keeps)
  case ocBlankExpiry => exact powered_keeps hs (fun _ => ocBlankExpiry_keeps)
  case retryDelayExpiry => exact powered_keeps hs (fun _ => retryDelayExpiry_keeps)
  case retryCounterReset => exact powered_keeps hs (fun _ => retryCounterReset_keeps)
  case thermalShutdown => exact powered_keeps hs (fun _ => thermalShutdown_keeps)
  case feedUndervoltage => exact powered_keeps hs (fun _ => feedUndervoltage_keeps)
  case feedUvRecovery => exact powered_keeps hs (fun _ => feedUvRecovery_keeps)
  case uvRestart => exact powered_keeps hs (fun _ => uvRestart_keeps)
  case gridSample => rw [exec_gridSample]; exact powered_keeps hs (fun _ hu => gridCycle_keeps (gridFabric_keeps hu))
  case statusPageSwitch => rw [exec_statusPageSwitch]; exact powered_keeps hs (fun _ hu => cycleStatusPage_keeps (statusPageSwitch_keeps hu))
  case holdWindowExpiry => exact powered_keeps hs (fun _ => holdWindowExpiry_keeps)
  case bankNoAnswer => exact powered_keeps hs (fun _ => bankNoAnswer_keeps)
  case bankAnswerReturn => exact powered_keeps hs (fun _ => bankAnswerReturn_keeps)
  case reversalDwellExpiry => exact powered_keeps hs (fun _ => reversalDwellExpiry_keeps)
  case probeSettleExpiry => exact powered_keeps hs (fun _ => probeSettleExpiry_keeps)
  case probeRetryTimer => exact powered_keeps hs (fun _ => probeRetryTimer_keeps)
  case governorCycle => exact powered_keeps hs (fun _ => governorRound_keeps)
  case restoreDelayExpiry => exact powered_keeps hs (fun _ => restoreDelayExpiry_keeps)
  case deferMaxExpiry => exact powered_keeps hs (fun _ => deferMaxExpiry_keeps)
  case feedOverloadDelayExpiry => exact powered_keeps hs (fun _ => feedOverloadDelayExpiry_keeps)
  case feedPeak => exact powered_keeps hs (fun _ => feedPeak_keeps)
  case heatShedStart => exact powered_keeps hs (fun _ => heatShedStart_keeps)
  case measuredShedInterval => exact powered_keeps hs (fun _ => measuredShedInterval_keeps)
  case classSOverloadExpiry => exact powered_keeps hs (fun _ => classSOverloadExpiry_keeps)
  case feedOvervolt => exact powered_keeps hs (fun _ => feedOvervolt_keeps)
  case bankFeedLoss => exact powered_keeps hs (fun _ => bankFeedLoss_keeps)
  case bankFeedReturn => exact powered_keeps hs (fun _ => bankFeedReturn_keeps)
  case energyLogRecord => exact powered_keeps hs (fun _ => energyLogRecord_keeps)
  case taskRelease => exact powered_keeps hs (fun _ => taskRelease_keeps)
  case inputImageCapture => exact powered_keeps hs (fun _ => inputImageCapture_keeps)
  case taskComplete => exact powered_keeps hs (fun _ => taskComplete_keeps)
  case retainedWriteComplete => exact powered_keeps hs (fun _ => retainedWriteComplete_keeps)
  case outputCutoff => exact powered_keeps hs (fun _ => outputCutoff_keeps)
  case outputInstant => exact powered_keeps hs (fun _ => outputInstant_keeps)
  case laneException => exact powered_keeps hs (fun _ => laneException_keeps)
  case runAdmission => exact powered_keeps hs (fun _ => runAdmission_keeps)
  case onlineChangeIdlePoint => exact powered_keeps hs (fun _ => onlineChangeIdlePoint_keeps)
  case onlineChangeNoIdle => exact powered_keeps hs (fun _ => onlineChangeNoIdle_keeps)
  case swapInstant => exact powered_keeps hs (fun _ => swapInstant_keeps)
  case frameReceive => exact powered_keeps hs (fun _ => frameReceive_keeps)
  case frameTruncationTimeout => exact powered_keeps hs (fun _ => frameTruncationTimeout_keeps)
  case matchingRound => exact powered_keeps hs (fun _ => matchingRound_keeps)
  case transmitOpportunity => exact powered_keeps hs (fun _ => transmitOpportunity_keeps)
  case frameTransmitComplete => exact powered_keeps hs (fun _ => frameTransmitComplete_keeps)
  case linkDown => exact powered_keeps hs (fun _ => linkDown_keeps)
  case linkUp => exact powered_keeps hs (fun _ => linkUpEvent_keeps)
  case flapHoldExpiry => exact powered_keeps hs (fun _ => flapHoldExpiry_keeps)
  case dynamicEntryAgeing => exact powered_keeps hs (fun _ => dynamicEntryAgeing_keeps)
  case redIdleUpdate => exact powered_keeps hs (fun _ => redIdleUpdate_keeps)
  case bufferAuditSnapshot => exact powered_keeps hs (fun _ => bufferAuditSnapshot_keeps)
  case reclaimSweepComplete => exact powered_keeps hs (fun _ => reclaimSweepComplete_keeps)
  case swcRingEnable => rw [exec_swcRingEnable]; exact powered_keeps hs (fun _ => ringStore_keeps)
  case swcTxProdWrite => rw [exec_swcTxProdWrite]; exact powered_keeps hs (fun _ => ringStore_keeps)
  case swcRxFillWrite => rw [exec_swcRxFillWrite]; exact powered_keeps hs (fun _ => ringStore_keeps)
  case txDescriptorTake => exact powered_keeps hs (fun _ => txDescriptorTake_keeps)
  case gptpMessageReceive => exact powered_keeps hs (fun _ => gptpMessageReceive_keeps)
  case gptpMessageInterval => exact powered_keeps hs (fun _ => gptpMessageInterval_keeps)
  case gateIntervalEnd => exact powered_keeps hs (fun _ => gateIntervalEnd_keeps)
  case gclChangeInstant => exact powered_keeps hs (fun _ => gclChangeInstant_keeps)
  case preemptVerifyTimer => exact powered_keeps hs (fun _ => preemptVerifyTimer_keeps)
  case frerResetTimer => exact powered_keeps hs (fun _ => frerResetTimer_keeps)
  case frerLatentPeriod => exact powered_keeps hs (fun _ => frerLatentPeriod_keeps)
  case faFrameArrival => exact powered_keeps hs (fun _ => faFrameArrival_keeps)
  case canFrameValid => exact always_keeps hs (fun _ => canFrameValid_keeps)
  case canTxOpportunity => exact powered_keeps hs (fun _ => canTxOpportunity_keeps)
  case canTxFrameComplete => exact powered_keeps hs (fun _ => canTxFrameComplete_keeps)
  case canTxLostOrError => exact powered_keeps hs (fun _ => canTxLostOrError_keeps)
  case canBusError => exact always_keeps hs (fun _ => canBusError_keeps)
  case canRecoverDelayExpiry => exact powered_keeps hs (fun _ => canRecoverDelayExpiry_keeps)
  case canRecoveryComplete => exact powered_keeps hs (fun _ => canRecoveryComplete_keeps)
  case domTimeout => exact powered_keeps hs (fun _ => domTimeout_keeps)
  case canObjEnWrite => exact storeRow_keeps hs (fun _ => canObjEnWrite_keeps)
  case canEvqOff => exact storeRow_keeps hs (fun _ => canEvqOff_keeps)
  case canEvqOn => exact storeRow_keeps hs (fun _ => canEvqOn_keeps)
  case canLostClr => exact storeRow_keeps hs (fun _ => canLostClr_keeps)
  case canHoldRel => exact storeRow_keeps hs (fun _ => canHoldRel_keeps)
  case canHoldSet => exact storeRow_keeps hs (fun _ => canHoldSet_keeps)
  case canAbort => exact storeRow_keeps hs (fun _ => canAbort_keeps)
  case canTxreq => exact storeRow_keeps hs (fun _ => canTxreq_keeps)
  case canRxevtPop => exact loadRow_keeps hs
  case canTxevtPop => exact loadRow_keeps hs
  case linSlotStart => exact powered_keeps hs (fun _ => linSlotStart_keeps)
  case linResponseEnd => exact powered_keeps hs (fun _ => linResponseEnd_keeps)
  case linFrameMaxExpiry => exact powered_keeps hs (fun _ => linFrameMaxExpiry_keeps)
  case linHoldSet => exact storeRow_keeps hs (fun _ => linHoldSetWrite_keeps)
  case linHoldRel => exact storeRow_keeps hs (fun _ => linHoldRelWrite_keeps)
  case linLostClr => exact storeRow_keeps hs (fun _ => linLostClrWrite_keeps)
  case linData1Write => exact storeRow_keeps hs (fun _ => linData1Write_keeps)
  case gatewaySendDue => exact powered_keeps hs (fun _ => gatewaySendDue_keeps)
  case gatewayMaxGapExpiry => exact powered_keeps hs (fun _ => gatewayMaxGapExpiry_keeps)
  case gatewayTimeout => exact powered_keeps hs (fun _ => gatewayTimeout_keeps)
  case containerSendTimeout => exact powered_keeps hs (fun _ => containerSendTimeout_keeps)
  case containerReceive => exact powered_keeps hs (fun _ => containerReceive_keeps)
  case readyDlyExpiry => exact powered_keeps hs (fun _ => readyDlyExpiry_keeps)
  case prepMsExpiry => exact powered_keeps hs (fun _ => prepMsExpiry_keeps)
  case sleepPowerDownComplete => exact always_keeps hs (fun _ => sleepPowerDownComplete_keeps)
  case wakeInEvent => exact always_keeps hs (fun _ => wakeInEvent_keeps)
  case ignSenseEvent => exact always_keeps hs (fun _ => ignSenseEvent_keeps)
  case rtcAlarm => exact always_keeps hs (fun _ => rtcAlarm_keeps)
  case canWakePattern => exact always_keeps hs (fun _ => canWakePattern_keeps)
  case canWakeFrame => exact always_keeps hs (fun _ => canWakeFrame_keeps)
  case canFecOverflow => exact always_keeps hs (fun _ => canFecOverflow_keeps)
  case linWakeDominant => exact always_keeps hs (fun _ => linWakeDominant_keeps)
  case ethTc10Wake => exact always_keeps hs (fun _ => ethTc10Wake_keeps)
  case chainWakePulse => exact always_keeps hs (fun _ => chainWakePulse_keeps)
  case tc10HandshakeComplete => exact powered_keeps hs (fun _ => tc10HandshakeComplete_keeps)
  case wakeOutPulseEnd => exact always_keeps hs (fun _ => wakeOutPulseEnd_keeps)
  case coppiceSleepCommit => exact powered_keeps hs (fun _ => coppiceSleepCommit_keeps)
  case hopCycle => exact powered_keeps hs (fun _ => hopCycle_keeps)
  case hopDownTimeout => exact powered_keeps hs (fun _ => hopDownTimeout_keeps)
  case hdgFrameTruncation => exact powered_keeps hs (fun _ => hdgFrameTruncation_keeps)
  case hdgIdleFrame => exact powered_keeps hs (fun _ => hdgIdleFrame_keeps)
  case hdgEnumFrame => exact powered_keeps hs (fun _ => hdgEnumFrame_keeps)
  case hdgEnumAckFrame => exact powered_keeps hs (fun _ => hdgEnumAckFrame_keeps)
  case hdgTopoFrame => exact powered_keeps hs (fun _ => hdgTopoFrame_keeps)
  case hdgSyncFrame => exact powered_keeps hs (fun _ => hdgSyncFrame_keeps)
  case hdgDelayReqFrame => exact powered_keeps hs (fun _ => hdgDelayReqFrame_keeps)
  case hdgDelayRspFrame => exact powered_keeps hs (fun _ => hdgDelayRspFrame_keeps)
  case hdgCommitFrame => exact powered_keeps hs (fun _ => hdgCommitFrame_keeps)
  case hdgFwdReqFrame => exact powered_keeps hs (fun _ => hdgFwdReqFrame_keeps)
  case hdgFwdRspFrame => exact powered_keeps hs (fun _ => hdgFwdRspFrame_keeps)
  case hdgChangeFrame => exact powered_keeps hs (fun _ => hdgChangeFrame_keeps)
  case rootEthernetFrame => exact powered_keeps hs (fun _ => rootEthernetFrame_keeps)
  case enumRestartTimeout => exact powered_keeps hs (fun _ => enumRestartTimeout_keeps)
  case delayMeasurementPeriod => exact powered_keeps hs (fun _ => delayMeasurementPeriod_keeps)
  case syncLossTimeout => exact powered_keeps hs (fun _ => syncLossTimeout_keeps)
  case bypassOpen => exact powered_keeps hs (fun _ => bypassOpen_keeps)
  case mpcCorePartWrite => exact storeRow_keeps hs (fun _ => mpcCorePartWrite_keeps)
  case mpcPevtClear => exact storeRow_keeps hs (fun _ => mpcPevtClear_keeps)
  case partResetDrainComplete => exact powered_keeps hs (fun _ => partResetDrainComplete_keeps)
  case partScrubComplete => exact powered_keeps hs (fun _ => partScrubComplete_keeps)
  case safetyPartitionReload => exact powered_keeps hs (fun _ => safetyPartitionReload_keeps)
  case hostResetReload => exact powered_keeps hs (fun _ => hostResetReload_keeps)
  case regulationPeriod => exact powered_keeps hs (fun _ => regulationPeriod_keeps)
  case lockstepMismatch => exact powered_keeps hs (fun _ => lockstepMismatch_keeps)
  case lockstepSignatureCheck => exact powered_keeps hs (fun _ => lockstepSignatureCheck_keeps)
  case mismatchSelftestResult => exact powered_keeps hs (fun _ => mismatchSelftestResult_keeps)
  case checkpointRestartComplete => exact powered_keeps hs (fun _ => checkpointRestartComplete_keeps)
  case fltLsCkptWrite => exact storeRow_keeps hs (fun _ => fltLsCkptWrite_keeps)
  case debugHaltRequest => exact powered_keeps hs (fun _ => debugHaltRequest_keeps)
  case debugResume => exact powered_keeps hs (fun _ => debugResume_keeps)
  case gate => exact powered_keeps hs (fun _ => gate_keeps)
  case gret => exact powered_keeps hs (fun _ => gret_keeps)
  case gateTimerExpiry => exact powered_keeps hs (fun _ => gateTimerExpiry_keeps)
  case mpcCpcPstateWrite => exact storeRow_keeps hs (fun _ => mpcCpcPstateWrite_keeps)
  case keyCommitEffect => exact powered_keeps hs (fun _ => keyCommitEffect_keeps)
  case keyOpComplete => exact powered_keeps hs (fun _ => keyOpComplete_keeps)
  case remaskDue => exact powered_keeps hs (fun _ => remaskDue_keeps)
  case tamperSensorEvent => exact always_keeps hs (fun _ => tamperSensorEvent_keeps)
  case faultReport => exact powered_keeps hs (fun _ => faultReport_keeps)
  case unrecordedTimeout => exact powered_keeps hs (fun _ => unrecordedTimeout_keeps)
  case railDisagreement => exact powered_keeps hs (fun _ => railDisagreement_keeps)
  case fltNoteAck => exact storeRow_keeps hs (fun _ => fltNoteAck_keeps)
  case handlingTimerExpiry => exact powered_keeps hs (fun _ => handlingTimerExpiry_keeps)
  case quietTimerExpiry => exact powered_keeps hs (fun _ => quietTimerExpiry_keeps)
  case overlayCutoff => exact powered_keeps hs (fun _ => overlayCutoff_keeps)
  case overlaySwitchInstant => exact powered_keeps hs (fun _ => overlaySwitchInstant_keeps)
  case overlayAlignTimeout => exact powered_keeps hs (fun _ => overlayAlignTimeout_keeps)
  case configCopyCompare => exact powered_keeps hs (fun _ => configCopyCompare_keeps)
  case serviceSessionExpiry => exact powered_keeps hs (fun _ => serviceSessionExpiry_keeps)
  case maintActivityComplete => exact powered_keeps hs (fun _ => maintActivityComplete_keeps)
  case maintWaitLimit => exact powered_keeps hs (fun _ => maintWaitLimit_keeps)
  case scrubDue => exact powered_keeps hs (fun _ => scrubDue_keeps)
  case lbistDue => exact powered_keeps hs (fun _ => lbistDue_keeps)
  case powerOnReset => exact always_keeps hs (fun _ => powerOnReset_keeps)
  case dramTrainingComplete => exact powered_keeps hs (fun _ => dramTrainingComplete_keeps)
  case imageAuthenticationComplete => exact powered_keeps hs (fun _ => imageAuthenticationComplete_keeps)
  case bootLock => exact powered_keeps hs (fun _ => bootLock_keeps)
  case imagesReleased => exact powered_keeps hs (fun _ => imagesReleased_keeps)
  case bootWatchdogExpiry => exact powered_keeps hs (fun _ => bootWatchdogExpiry_keeps)
  case confirmationLimitExpiry => exact powered_keeps hs (fun _ => confirmationLimitExpiry_keeps)
  case privetRestart => exact powered_keeps hs (fun _ => privetRestart_keeps)
  case deviceResetInstant => exact powered_keeps hs (fun _ => deviceResetInstant_keeps)
  case coppiceExitReset => exact powered_keeps hs (fun _ => coppiceExitReset_keeps)
  case updVerificationComplete => exact powered_keeps hs (fun _ => updVerificationComplete_keeps)
  case stageCopyComplete => exact powered_keeps hs (fun _ => stageCopyComplete_keeps)
  case activationCopyComplete => exact powered_keeps hs (fun _ => activationCopyComplete_keeps)
  case rollbackCopyComplete => exact powered_keeps hs (fun _ => rollbackCopyComplete_keeps)
  case feedReverse => exact always_keeps hs (fun _ => feedReverse_keeps)
  case highestFeedLow => exact always_keeps hs (fun _ => highestFeedLow_keeps)
  case holdUpExpiry => exact always_keeps hs (fun _ => holdUpExpiry_keeps)
  case thermalSample => exact powered_keeps hs (fun _ => thermalSample_keeps)
  case requestUndefinedOpcode => exact powered_keeps hs (fun _ => requestUndefinedOpcode_keeps)
  case lineInputChange => exact always_keeps hs (fun _ => lineInputChange_keeps)
  case fatalConditionClear => exact powered_keeps hs (fun _ => fatalConditionClear_keeps)
  case tamperConditionEnd => exact always_keeps hs (fun _ => tamperConditionEnd_keeps)
  case coreWaitForInterrupt => exact powered_keeps hs (fun _ => coreWaitForInterrupt_keeps)
  case hdgInvalidFrame => exact powered_keeps hs (fun _ => hdgInvalidFrame_keeps)
  all_goals cases h

/-- Every row keeps it. -/
theorem exec_keeps (i : Instr) : Kept q s (exec i s) :=
  match h : request i with
  | some (_, _) => exec_request_keeps hs h
  | none => exec_event_keeps hs h

end

/-! ## Steps -/

/-- A step of a queue that is not empty executes its front command with its rest. -/
theorem step_cons {s : State} {c : Instr} {l : List Instr} (h : s.pending = c :: l) : step s = exec c { s with pending := l } := by
  rw [step, h]

/-- An empty queue idles (assumption 3). -/
theorem step_nil {s : State} (h : s.pending = []) : step s = .next s := by
  rw [step, h]

/-- Settles O1: the two shapes of the queue. -/
theorem stepRunsFrontCommand : Obligations.StepRunsFrontCommand :=
  ⟨fun _ _ _ => step_cons, fun _ => step_nil⟩

/-- Settles O50: an idle step leaves the state; any other is a row, which keeps memory's form and the rest of the queue. -/
theorem everyStepKeepsInvariant : Obligations.EveryStepKeepsInvariant := by
  intro s hs
  have ⟨hmem, hreact⟩ := hs
  cases hq : s.pending with
  | nil => exact ⟨s, step_nil hq, hs, hq⟩
  | cons c l =>
    obtain ⟨u, hu, ⟨hum, hup⟩, hur⟩ := exec_keeps (q := l) (s := { s with pending := l }) ⟨hmem, rfl⟩ c
    exact ⟨u, (step_cons hq).trans hu, ⟨hum, hur hreact⟩, hup⟩

/-- Settles O51: nothing is listed in memory and nothing has been raised. -/
theorem invariantAtReset : Obligations.InvariantAtReset := ⟨rfl, rfl⟩

end Sys2Proof.Machine

/-!
PROOFS. The Hedgerow chain's family (chapter 12): hop cycles, timers, damaged frames, the root's Ethernet frames and the bypass (R383-R387,
R390, R393, R398), and the frames of each type (R383, R388, R390-R397).
-/
namespace Sys2Proof.Machine

/-! ## Frames of another segment at a root (R385, R391, R398) -/

/-- What a root does with an authenticated frame of another segment: refused where its instant is too far, executed or taken where it is
its own, late where it was for its old address, else sent down, after execution where it is for every unit. -/
def State.ethAccepted (s : State) (f : HdgFrame) : State :=
  if f.ty = 8 ∧ ms 2550 < beAt f.payload 0 8 then s.fwdTooLong
  else if s.isMine f then (if f.ty = 8 then s.executeFwd f else s.takeRsp f)
  else if s.isForOld f ∧ f.ty = 9 then s.lateRsp (beAt f.payload 7 1)
  else if f.dst / 64 = s.ownNode / 64 ∧ f.hops + 1 ≤ 63 then
    (if s.isForAll f ∧ f.ty = 8 then s.executeForAll f else s).sendDn { f with hops := f.hops + 1, inAt := s.now }
  else s

section
variable {s : State} {f : HdgFrame}

theorem State.ethAccepted_far (h8 : f.ty = 8) (hfar : ms 2550 < beAt f.payload 0 8) : s.ethAccepted f = s.fwdTooLong :=
  if_pos ⟨h8, hfar⟩

variable (hnear : ¬ (f.ty = 8 ∧ ms 2550 < beAt f.payload 0 8))
include hnear

theorem State.ethAccepted_mine (hmine : s.isMine f = true) : s.ethAccepted f = if f.ty = 8 then s.executeFwd f else s.takeRsp f := by
  rw [State.ethAccepted, if_neg hnear, if_pos hmine]

variable (hmine : s.isMine f = false)
include hmine

theorem State.ethAccepted_late (hold : s.isForOld f = true ∧ f.ty = 9) : s.ethAccepted f = s.lateRsp (beAt f.payload 7 1) := by
  rw [State.ethAccepted, if_neg hnear, if_neg (Bool.eq_false_iff.mp hmine), if_pos hold]

theorem State.ethAccepted_down (hold : ¬ (s.isForOld f = true ∧ f.ty = 9)) (hseg : f.dst / 64 = s.ownNode / 64) (hhops : f.hops + 1 ≤ 63) :
    s.ethAccepted f =
      (if s.isForAll f = true ∧ f.ty = 8 then s.executeForAll f else s).sendDn { f with hops := f.hops + 1, inAt := s.now } := by
  rw [State.ethAccepted, if_neg hnear, if_neg (Bool.eq_false_iff.mp hmine), if_neg hold, if_pos ⟨hseg, hhops⟩]

end

/-- The state in which a root checks its oldest Ethernet frame: the frame has left the queue. -/
def State.ethTaken (s : State) (l : List (List Byte)) : State := { s with hdg.inEth := l }

section
variable {s : State} {t : Nat} {b : List Byte} {l : List (List Byte)} (hq : (s.at_ t).hdg.inEth = b :: l)
  (hroot : ((s.at_ t).ethTaken l).isRoot = true) (hmac : dstMac b = Config.unitMac)
include hq hroot hmac

/-- A root's Ethernet frame of a type that chains do not exchange, or of a wrong form, is counted; any other is authenticated. -/
theorem rootEthernetFrame_own : rootEthernetFrame t s =
    if !((hdgOfEth b).ty == 8 || (hdgOfEth b).ty == 9) || !hdgFormOk (hdgOfEth b) then ((s.at_ t).ethTaken l).hdgBad
    else if !(((s.at_ t).ethTaken l).hdgAuth (hdgOfEth b)).1 then (((s.at_ t).ethTaken l).hdgAuth (hdgOfEth b)).2
    else (((s.at_ t).ethTaken l).hdgAuth (hdgOfEth b)).2.ethAccepted (hdgOfEth b) := by
  have hown : ¬ ((!((s.at_ t).ethTaken l).isRoot || dstMac b != Config.unitMac) = true) := by simp [hroot, hmac]
  simp only [rootEthernetFrame, hq]
  exact if_neg hown

theorem rootEthernetFrame_bad (hbad : ((hdgOfEth b).ty ≠ 8 ∧ (hdgOfEth b).ty ≠ 9) ∨ hdgFormOk (hdgOfEth b) = false) :
    rootEthernetFrame t s = ((s.at_ t).ethTaken l).hdgBad := by
  rw [rootEthernetFrame_own hq hroot hmac, if_pos (by simpa using hbad)]

/-- A frame of a chain's form is dropped by authentication or accepted by it. -/
theorem rootEthernetFrame_formed (hty : (hdgOfEth b).ty = 8 ∨ (hdgOfEth b).ty = 9) (hform : hdgFormOk (hdgOfEth b) = true) :
    rootEthernetFrame t s =
      if !(((s.at_ t).ethTaken l).hdgAuth (hdgOfEth b)).1 then (((s.at_ t).ethTaken l).hdgAuth (hdgOfEth b)).2
      else (((s.at_ t).ethTaken l).hdgAuth (hdgOfEth b)).2.ethAccepted (hdgOfEth b) := by
  rw [rootEthernetFrame_own hq hroot hmac, if_neg (by simpa [hform] using or_iff_not_imp_left.mp hty)]

variable (hty : (hdgOfEth b).ty = 8 ∨ (hdgOfEth b).ty = 9) (hform : hdgFormOk (hdgOfEth b) = true)
include hty hform

theorem rootEthernetFrame_unauthenticated (ha : (((s.at_ t).ethTaken l).hdgAuth (hdgOfEth b)).1 = false) :
    rootEthernetFrame t s = (((s.at_ t).ethTaken l).hdgAuth (hdgOfEth b)).2 := by
  rw [rootEthernetFrame_formed hq hroot hmac hty hform, ha, Bool.not_false, if_pos rfl]

theorem rootEthernetFrame_authenticated (ha : (((s.at_ t).ethTaken l).hdgAuth (hdgOfEth b)).1 = true) :
    rootEthernetFrame t s = (((s.at_ t).ethTaken l).hdgAuth (hdgOfEth b)).2.ethAccepted (hdgOfEth b) := by
  rw [rootEthernetFrame_formed hq hroot hmac hty hform, ha, Bool.not_true, if_neg Bool.false_ne_true]

end

/-! ## The events of the chain (R383-R387, R390, R393, R398) -/

/-- Settles O44: each row finds the hop, the timer or the link that its clause names; a root's Ethernet frame by its form, its
authentication and its address. -/
theorem chainEventsComplete : Obligations.ChainEventsComplete := by
  intro s
  refine ⟨?hopCycle, ?hopDownTimeout, ?hdgFrameTruncation, ?hdgInvalidFrame, ?rootEthernetFrame, ?enumRestartTimeout,
    ?delayMeasurementPeriod, ?syncLossTimeout, ?bypassOpen⟩
  case hopCycle =>
    intro t up ha σ hon
    exact runs_of_powered rfl ha (if_neg hon)
  case hopDownTimeout =>
    intro t up ha σ hdue down
    exact runs_of_guard rfl ha rfl hdue
  case hdgFrameTruncation =>
    intro t up ha σ hon
    exact runs_of_guard rfl ha rfl hon
  case hdgInvalidFrame =>
    intro t up ha σ hon
    exact runs_of_guard rfl ha rfl hon
  case rootEthernetFrame =>
    intro t b l ha σ hq taken f a z hroot hmac
    refine ⟨fun hbad => runs_of_powered rfl ha (rootEthernetFrame_bad hq hroot hmac hbad), fun hty hform => ?_⟩
    have haccepted : ∀ u, a.1 = true → z.ethAccepted f = u → Runs (.rootEthernetFrame t) s u := fun u hauth hu =>
      runs_of_powered rfl ha ((rootEthernetFrame_authenticated hq hroot hmac hty hform hauth).trans hu)
    exact ⟨fun hauth => runs_of_powered rfl ha (rootEthernetFrame_unauthenticated hq hroot hmac hty hform hauth),
      fun hauth h8 hfar => haccepted _ hauth (State.ethAccepted_far h8 hfar),
      fun hauth hnear hmine => haccepted _ hauth (State.ethAccepted_mine hnear hmine),
      fun hauth hnear hmine hold h9 => haccepted _ hauth (State.ethAccepted_late hnear hmine ⟨hold, h9⟩),
      fun hauth hnear hmine hold hseg hhops => haccepted _ hauth (State.ethAccepted_down hnear hmine hold hseg hhops)⟩
  case enumRestartTimeout =>
    intro t ha σ u hu hdue
    exact runs_of_powered rfl ha (by simp only [enumRestartTimeout, hu, if_pos hdue, σ])
  case delayMeasurementPeriod =>
    intro t ha σ hdue
    exact runs_of_guard rfl ha rfl hdue
  case syncLossTimeout =>
    intro t ha σ u hu hdue lost
    exact runs_of_powered rfl ha (by simp only [syncLossTimeout, hu, if_pos hdue, σ, lost])
  case bypassOpen =>
    intro t ha σ hshut opened
    exact runs_of_powered rfl ha (if_neg hshut)

/-! ## The frames of the chain (R383, R388, R390-R397) -/

/-- Settles O45: each row is the reception of its type's frame, which does what the clause says. -/
theorem chainFramesComplete : Obligations.ChainFramesComplete := by
  intro s
  refine ⟨?hdgIdleFrame, ?hdgEnumFrame, ?hdgEnumAckFrame, ?hdgTopoFrame, ?hdgSyncFrame, ?hdgDelayReqFrame, ?hdgDelayRspFrame,
    ?hdgCommitFrame, ?hdgFwdReqFrame, ?hdgFwdRspFrame, ?hdgChangeFrame⟩
  all_goals
    intro t up f ha
    exact runs_of_powered rfl ha rfl

end Sys2Proof.Machine

/-!
PROOFS. Partitions, safety pairs and worlds (chapters 13 to 15): their commands (R414, R425-R428, R444, R460, R464), the rows of the pairs
(R433-R441), and the gates, controls and cores of the worlds (R452, R453, R456, R458, R459).
-/
namespace Sys2Proof.Machine

/-! ## Requests that are refused, started or answered -/

/-- A request that its own steps refuse is only answered. -/
theorem refuses_of_body {i : Instr} {d : CmdDef} {r : Req} {s : State} {st : Nat} (he : exec i s = mailbox d r s)
    (h : s.Reaches d r = true) (hb : d.body (s.reqCmd d r) (s.taken r) = .refuse st) : Refuses i d r s st := by
  rw [Refuses, Runs, he, mailbox_refuse h hb]

/-- A check that fails refuses the request, whatever would follow. -/
theorem need_fails {c : Bool} (h : c = false) (st : Nat) (k : Res) : need c st k = .refuse st := by rw [h, need_false]

/-! ## Partition, pair, world and life-cycle commands (R414, R425-R428, R444, R460, R464) -/

/-- Settles O18: where a command's checks pass, its steps come to the outcome that the statement names; LC_SET is refused by its third or
fourth check. -/
theorem partitionCommandsComplete : Obligations.PartitionCommandsComplete := by
  intro s r
  refine ⟨?partStatus, ?partReady, ?partReset, ?partRelease, ?partStoreInfo, ?partStoreRead, ?partStoreWrite, ?pairStatus, ?worldStatus,
    ?lcSet⟩
  case partStatus =>
    rintro _ _ h rfl rfl v harg hmay p
    exact answers_of_body rfl h (need_need harg hmay _ _ _)
  case partReady =>
    rintro _ _ h rfl rfl harg hlocal res
    exact answers_of_outcome rfl h (need_need harg hlocal _ _ _)
  case partReset =>
    rintro _ _ h rfl rfl v f harg hover hon after res
    exact answers_or_starts_of_outcome rfl h (need_need_need harg hover hon _ _ _ _)
  case partRelease =>
    rintro _ _ h rfl rfl v harg hover hhalted
    exact answers_of_body rfl h (need_need_need harg hover hhalted _ _ _ _)
  case partStoreInfo =>
    rintro _ _ h rfl rfl hlocal x d
    exact answers_of_body rfl h (need_of hlocal stNOT_OWNER _)
  case partStoreRead =>
    rintro _ _ h rfl rfl
    exact fun hargs => answers_of_body rfl h (need_of hargs _ _)
  case partStoreWrite =>
    rintro _ _ h rfl rfl
    exact fun hargs => answers_of_body rfl h (need_of hargs _ _)
  case pairStatus =>
    rintro _ _ h rfl rfl n harg
    exact answers_of_body rfl h (need_of harg _ _)
  case worldStatus =>
    rintro _ _ h rfl rfl
    exact answers_of_body rfl h rfl
  case lcSet =>
    rintro _ _ h rfl rfl b harg hsecure may auth
    have hchecked := need_need harg hsecure stBAD_ARGUMENT stNOT_OWNER
    exact ⟨fun hauth => refuses_of_body rfl h ((hchecked _).trans (need_fails hauth _ _)),
      fun hauth hmay => refuses_of_body rfl h ((hchecked _).trans ((need_of hauth _ _).trans (need_fails hmay _ _))),
      fun hauth hmay => answers_of_body rfl h ((hchecked _).trans (need_need hauth hmay _ _ _))⟩

/-! ## Safety pairs (R433-R441) -/

/-- A checkpoint's store by the pair in LOCKSTEP keeps the checkpoint and its instant (R434). -/
theorem fltLsCkptWrite_posted {s : State} {t n v : Nat} {a : Acc} (hn : n < 4) (hdev : a.dev = false) (hpair : a.master / 2 = 4 + n)
    (hlock : (s.posted t a (R.FLT_LS_CKPT n)).lst n = lsLOCKSTEP) (hbit : bitOf v 0 = true) :
    fltLsCkptWrite t a n v (s.posted t a (R.FLT_LS_CKPT n)) =
      ((s.posted t a (R.FLT_LS_CKPT n)).modPair n (fun p => { p with ckpt := true })).setPair (R.FLT_LS_CKPT_TS_LO n) (R.FLT_LS_CKPT_TS_HI n)
        (s.posted t a (R.FLT_LS_CKPT n)).now := by
  have hmine : ¬ (a.dev = true ∨ a.master / 2 ≠ 4 + n) := by simp [hdev, hpair]
  rw [fltLsCkptWrite, State.posted_at_bus, if_neg (Nat.not_le.mpr hn), if_neg hmine, if_pos ⟨hlock, hbit⟩]

/-- Settles O39: each row finds the pair in the state that its clause names; the store is that of the pair's own core. -/
theorem pairRowsComplete : Obligations.PairRowsComplete := by
  intro s
  refine ⟨?lockstepMismatch, ?lockstepSignatureCheck, ?mismatchSelftestResult, ?checkpointRestartComplete, ?debugHaltRequest,
    ?debugResume, ?fltLsCkptWrite⟩
  case lockstepMismatch =>
    intro t n kind addr ha σ hup
    exact runs_of_guard rfl ha rfl hup
  case lockstepSignatureCheck =>
    intro t n equal ha σ hup
    exact runs_of_guard rfl ha rfl hup
  case mismatchSelftestResult =>
    intro t n aOk bOk ha σ htested
    exact runs_of_guard rfl ha rfl htested
  case checkpointRestartComplete =>
    intro t n ha σ hrestarting r
    exact runs_of_guard rfl ha rfl hrestarting
  case debugHaltRequest =>
    intro t n ha σ hallowed
    exact runs_of_powered rfl ha (if_neg hallowed)
  case debugResume =>
    intro t n ha σ hhalted
    exact runs_of_guard rfl ha rfl hhalted
  case fltLsCkptWrite =>
    intro t a n v h σ hn hdev hpair hlock hbit
    exact runs_of_storeRow rfl (decide_eq_true hn) h (fltLsCkptWrite_posted hn hdev hpair hlock hbit)

/-! ## Gates (R452, R453) -/

/-- A core enters its gate call: its caller's word, IN_GATE and the timer are set (R452, R456). -/
def State.enterGate (s : State) (a : Acc) (hyp : Bool) : State :=
  let s := s.setWord (R.MPC_GW_CALLER a.master) 0
  let s := ((s.wrb (F.MPC_GW_CALLER_VALID a.master) true).wrb (F.MPC_GW_CALLER_HYP a.master) hyp).wr (F.MPC_GW_CALLER_PART a.master) a.part
  let s := s.wr F.MPC_GW_STAT_IN_GATE (setBit (s.rd F.MPC_GW_STAT_IN_GATE) a.master)
  let k : GateCall := { part := a.part, hyp := hyp, until_ := s.now + us (10 * s.rd F.MPC_GW_CFG_TMO) }
  { s with prt.calls := s.prt.calls.set a.master (some k), prt.gateRes := s.prt.gateRes.erase a.master }

section
variable {s : State} {t : Nat} {a : Acc} (hcore : a.master < 6) (hmute : (s.polled t).muteCore a = false)
include hcore hmute

/-- GRET of a core that runs on the secure side ends its call, and faults where it has none. -/
theorem gret_of_running (hsec : a.sec = true) : gret t a s =
    if (s.polled t).inCall a.master then ((s.polled t).endCall a.master).hostWaitCheck
    else { (s.polled t).accFault 0x0B02 a 4 0 with bus := .busError } := by
  have hruns : ¬ (6 ≤ a.master ∨ a.sec = false ∨ (s.polled t).muteCore a = true) := by simp [hcore, hsec, hmute]
  exact if_neg hruns

variable (hdev : a.dev = false) (hyp : Bool) (target : Nat)
include hdev

/-- GATE of a core that runs, by its checks in their order. -/
theorem gate_of_running : gate t a hyp target s =
    if a.sec then { (s.polled t).accFault 0x0B02 a 4 target with bus := .busError }
    else if (s.polled t).secState = 2 then { (s.polled t).gateUnserved a.master with bus := .data 0x304 }
    else if (s.polled t).inCall a.master then s.polled t
    else if !(s.polled t).gateOk target then { (s.polled t).accFault 0x0B02 a 4 target with bus := .busError }
    else (s.polled t).enterGate a hyp := by
  have hruns : ¬ (6 ≤ a.master ∨ a.dev = true ∨ (s.polled t).muteCore a = true) := by simp [hcore, hdev, hmute]
  exact if_neg hruns

/-- From the secure side a gate faults. -/
theorem gate_of_secure (hsec : a.sec = true) :
    gate t a hyp target s = { (s.polled t).accFault 0x0B02 a 4 target with bus := .busError } := by
  rw [gate_of_running hcore hmute hdev, if_pos hsec]

variable (hsec : a.sec = false)
include hsec

/-- With the secure side hung it is answered at once. -/
theorem gate_of_hung (hhung : (s.polled t).secState = 2) :
    gate t a hyp target s = { (s.polled t).gateUnserved a.master with bus := .data 0x304 } := by
  rw [gate_of_running hcore hmute hdev, if_neg (Bool.eq_false_iff.mp hsec), if_pos hhung]

variable (hup : (s.polled t).secState ≠ 2) (hfree : (s.polled t).inCall a.master = false)
include hup hfree

/-- A gate to what is no target faults. -/
theorem gate_of_no_target (hbad : (s.polled t).gateOk target = false) :
    gate t a hyp target s = { (s.polled t).accFault 0x0B02 a 4 target with bus := .busError } := by
  rw [gate_of_running hcore hmute hdev, if_neg (Bool.eq_false_iff.mp hsec), if_neg hup, if_neg (Bool.eq_false_iff.mp hfree), hbad,
    Bool.not_false, if_pos rfl]

/-- A gate to a target begins a call. -/
theorem gate_of_target (hok : (s.polled t).gateOk target = true) : gate t a hyp target s = (s.polled t).enterGate a hyp := by
  rw [gate_of_running hcore hmute hdev, if_neg (Bool.eq_false_iff.mp hsec), if_neg hup, if_neg (Bool.eq_false_iff.mp hfree), hok,
    Bool.not_true, if_neg Bool.false_ne_true]

end

/-! ## Controls of cores and peripherals (R458, R459) -/

/-- The owner of a control, or the secure side, sets its state. -/
theorem mpcCpcPstateWrite_posted {s : State} {t k v : Nat} {a : Acc} (hk : k < 54) (hcop : (s.posted t a (R.MPC_CPC k)).dev ≠ .coppice)
    (hdev : a.dev = false)
    (hmay : a.sec = true ∨ ((s.posted t a (R.MPC_CPC k)).cpcSecure k = false ∧ (s.posted t a (R.MPC_CPC k)).cpcOwner k = a.part)) :
    mpcCpcPstateWrite t a k v (s.posted t a (R.MPC_CPC k)) = (s.posted t a (R.MPC_CPC k)).setPstate k (v % 4) := by
  have hhere : ¬ (54 ≤ k ∨ (s.posted t a (R.MPC_CPC k)).dev = .coppice) := not_or.mpr ⟨Nat.not_le.mpr hk, hcop⟩
  rw [mpcCpcPstateWrite, State.posted_at_bus, if_neg hhere]
  by_cases hsec : a.sec = true
  · rw [if_pos ⟨hsec, hdev⟩]
  · obtain ⟨hassigned, howner⟩ := hmay.resolve_left hsec
    rw [if_neg (fun h => hsec h.1), if_neg (by simp [hassigned]), if_pos ⟨hdev, howner⟩]

/-- Settles O40: a gate by its checks in their order, the controls by who stores, the other rows by what they find due. -/
theorem worldRowsComplete : Obligations.WorldRowsComplete := by
  intro s
  refine ⟨?gate, ?gret, ?gateTimerExpiry, ?mpcCpcPstateWrite, ?coreWaitForInterrupt⟩
  case gate =>
    intro t a hyp target ha hdev σ c hcore hmute
    exact ⟨fun hsec => runs_of_powered rfl ha (gate_of_secure hcore hmute hdev hyp target hsec),
      fun hsec hhung => runs_of_powered rfl ha (gate_of_hung hcore hmute hdev hyp target hsec hhung),
      fun hsec hup hfree hbad => runs_of_powered rfl ha (gate_of_no_target hcore hmute hdev hyp target hsec hup hfree hbad),
      fun hsec hup hfree hok => runs_of_powered rfl ha (gate_of_target hcore hmute hdev hyp target hsec hup hfree hok)⟩
  case gret =>
    intro t a ha hsec hcore σ hmute
    have hgret := gret_of_running hcore hmute hsec
    exact ⟨fun hcall => runs_of_powered rfl ha (hgret.trans (if_pos hcall)),
      fun hfree => runs_of_powered rfl ha (hgret.trans (if_neg (Bool.eq_false_iff.mp hfree)))⟩
  case gateTimerExpiry =>
    intro t c ha σ k hk hdue ended hung timed raised
    exact runs_of_powered rfl ha (by simp only [gateTimerExpiry, hk, σ]; exact if_neg hdue)
  case mpcCpcPstateWrite =>
    intro t a k v h σ hk hcop hdev hmay
    exact runs_of_storeRow rfl (decide_eq_true hk) h (mpcCpcPstateWrite_posted hk hcop hdev hmay)
  case coreWaitForInterrupt =>
    intro t c ha σ w hwaits
    exact runs_of_guard rfl ha rfl hwaits

end Sys2Proof.Machine

/-!
PROOFS. Keys, tamper sensors and the fault collector (chapters 16 and 17): their commands (R471-R479, R484-R487, R503-R505), the ends of key
operations, remasking and the tamper response (R471-R482), and the collector's reports, notifications and timers (R488-R501).
-/
namespace Sys2Proof.Machine

/-! ## Key and tamper commands (R471-R479, R484-R487) -/

/-- The steps of KEY_IMPORT and KEY_COMMIT, by name: rewriting the row's record finds them without evaluating their checks. -/
theorem dKeyImport_body (c : Cmd) (s : State) : dKeyImport.body c s = keyImportBody c s := by
  rw [dKeyImport]

theorem dKeyCommit_body (c : Cmd) (s : State) : dKeyCommit.body c s = keyCommitBody c s := by
  rw [dKeyCommit]

/-- Settles O19: where a command's checks pass, its steps come to the outcome that the statement names. -/
theorem keyCommandsComplete : Obligations.KeyCommandsComplete := by
  intro s r
  refine ⟨?keyStatus, ?keyDerive, ?keyImport, ?keyCommit, ?keyDiscard, ?keyRevoke, ?keyOp, ?keyAttest, ?keyRandom, ?tamperStatus,
    ?tamperClear⟩
  case keyStatus =>
    rintro _ _ h rfl rfl k harg hmay x
    exact answers_of_body rfl h (need_need harg hmay _ _ _)
  case keyDerive =>
    rintro _ _ h rfl rfl k n harg hown hlock hslot res
    exact answers_of_outcome rfl h ((need_need_need harg hown hlock _ _ _ _).trans (need_of hslot _ _))
  case keyImport =>
    rintro _ _ h rfl rfl b k n par harg hown hlock hslot w res
    have hbody := (dKeyImport_body _ _).trans ((need_need_need harg hown hlock _ _ _ _).trans (need_of hslot _ res))
    exact ⟨answers_of_outcome rfl h hbody, fun st hr => refuses_of_body rfl h (hbody.trans hr)⟩
  case keyCommit =>
    rintro _ _ h rfl rfl k x harg hown hlock res
    have hbody := (dKeyCommit_body _ _).trans (need_need_need harg hown hlock _ _ _ res)
    exact ⟨answers_of_outcome rfl h hbody, fun p aux u hr => starts_of_body rfl h (hbody.trans hr),
      fun st hr => refuses_of_body rfl h (hbody.trans hr)⟩
  case keyDiscard =>
    rintro _ _ h rfl rfl k harg hown hlock
    exact answers_of_body rfl h (need_need_need harg hown hlock _ _ _ _)
  case keyRevoke =>
    rintro _ _ h rfl rfl k harg hown hlock
    exact answers_of_body rfl h (need_need_need harg hown hlock _ _ _ _)
  case keyOp =>
    rintro _ _ h rfl rfl p b n harg hlen htype hroom hown hlock huse res
    exact answers_or_starts_of_outcome rfl h
      ((need_need_need harg hlen htype _ _ _ _).trans ((need_need_need hroom hown hlock _ _ _ _).trans (need_of huse _ _)))
  case keyAttest =>
    rintro _ _ h rfl rfl harg ρ
    exact answers_of_body rfl h (need_of harg _ _)
  case keyRandom =>
    rintro _ _ h rfl rfl n harg hlock ρ
    exact answers_of_body rfl h (need_need harg hlock _ _ _)
  case tamperStatus =>
    rintro _ _ h rfl rfl f n harg
    exact answers_of_body rfl h (need_of harg _ _)
  case tamperClear =>
    rintro _ _ h rfl rfl m harg hmay
    have hchecked := need_need harg hmay stBAD_ARGUMENT stNOT_OWNER
    refine ⟨fun hbad => refuses_of_body rfl h ((hchecked _).trans (need_fails hbad _ _)), ?_⟩
    intro hauth hover cleared opened d
    exact answers_of_body rfl h ((hchecked _).trans (need_need hauth hover _ _ _))

/-! ## Periodic activities (R474, R522) -/

section
variable {s : State} {a : Nat} (hfree : s.cfg.mq.any (fun r => r.act == a) = false)
include hfree

/-- A periodic activity that is not queued is requested outside the sleep phases. -/
theorem State.periodicAct_awake (hphase : s.rd F.WAK_STAT_PHASE = 0) : s.periodicAct a = s.requestAct { act := a, due := s.now } := by
  rw [State.periodicAct, State.queued, hfree, if_neg Bool.false_ne_true, if_neg (not_not_intro hphase)]

/-- In a sleep phase it is held. -/
theorem State.periodicAct_held (hphase : s.rd F.WAK_STAT_PHASE ≠ 0) (hheld : s.cfg.heldActs.any (fun p => p.1 == a) = false) :
    s.periodicAct a = { s with cfg.heldActs := s.cfg.heldActs ++ [(a, s.now)] } := by
  rw [State.periodicAct, State.queued, hfree, if_neg Bool.false_ne_true, if_pos hphase, hheld, if_neg Bool.false_ne_true]

end

/-! ## Key operations and the tamper response (R470-R482) -/

/-- Settles O41: each row finds the commit, the operation, the instant or the sensor that its clause names. -/
theorem keyTamperEventsComplete : Obligations.KeyTamperEventsComplete := by
  intro s
  refine ⟨?keyCommitEffect, ?keyOpComplete, ?remaskDue, ?tamperSensorEvent, ?tamperConditionEnd⟩
  case keyCommitEffect =>
    intro t k ha σ n w g hcommit hidle committed
    refine runs_of_powered rfl ha ?_
    simp only [keyCommitEffect, hcommit, if_pos hidle, σ, committed]
  case keyOpComplete =>
    intro t node w tag ha σ c hc p
    refine runs_of_powered rfl ha ?_
    simp only [keyOpComplete, hc, σ, p]
    rfl
  case remaskDue =>
    intro t ha σ hdue hfree
    have hrow : remaskDue t s = σ.periodicAct aREMASK := if_pos hdue
    exact ⟨fun hphase => runs_of_powered rfl ha (hrow.trans (State.periodicAct_awake hfree hphase)),
      fun hphase hheld => runs_of_powered rfl ha (hrow.trans (State.periodicAct_held hfree hphase hheld))⟩
  case tamperSensorEvent =>
    intro t j σ hwatches
    intros
    exact runs_of_always rfl (if_neg hwatches)
  case tamperConditionEnd =>
    intro t j σ hj
    exact runs_of_always rfl (if_pos hj)

/-! ## Fault commands (R494, R495, R503-R505) -/

/-- Settles O20: where a command's checks pass, its steps come to the outcome that the statement names. -/
theorem faultCommandsComplete : Obligations.FaultCommandsComplete := by
  intro s r
  refine ⟨?faultStatus, ?faultLogRead, ?faultCapture, ?faultRecoveryClear, ?faultInject⟩
  case faultStatus =>
    rintro _ _ h rfl rfl
    exact answers_of_body rfl h rfl
  case faultLogRead =>
    rintro _ _ h rfl rfl res
    exact answers_of_outcome rfl h rfl
  case faultCapture =>
    rintro _ _ h rfl rfl k op harg hsecure hmode mine
    exact answers_of_body rfl h (need_need_need harg hsecure hmode _ _ _ _)
  case faultRecoveryClear =>
    rintro _ _ h rfl rfl hsecure
    exact answers_of_body rfl h (need_of hsecure stNOT_OWNER _)
  case faultInject =>
    rintro _ _ h rfl rfl code obj res
    exact answers_of_outcome rfl h rfl

/-! ## Reports, notifications and timers of the collector (R488, R489, R496, R501) -/

/-- A report of a class that its code has is raised; a FATAL one that persists also becomes a condition (R489, R501). -/
theorem faultReport_of_class {s : State} {t code cls obj detail ty addr v : Nat} {a : Acc} {cs : List FltClass} {k : CodeKind}
    (hcode : codeTable.find? (fun r => r.1 == code) = some (v, cs, k)) (hcls : ¬ ((!cs.contains (classOfCode cls)) = true)) :
    faultReport t code cls obj detail a ty addr s =
      let s := s.at_ t
      let c := classOfCode cls
      let s := if c = .fatal ∧ persists code = true then s.addCond code obj else s
      let s := s.raise { code := code, cls := c, kind := s.codeKind code obj k, acc := if a.master = 0xFF then none else some (a, ty, addr), obj := obj, detail := detail }
      if code = 0x0105 ∧ a.master ≠ 0xFF ∧ ty ≠ 2 then s.eccReader a addr else s := by
  simp only [faultReport, hcode]
  exact if_neg hcls

/-- An acknowledgement of a notification in its handler's queue ends it and flags its record (R493, R496). -/
theorem fltNoteAck_posted {s : State} {t v h : Nat} {a : Acc} (hh : (s.posted t a R.FLT_NOTE_ACK).handlerOfAcc a = some h)
    (hn : ((s.posted t a R.FLT_NOTE_ACK).flt.queue.get [] h).any (fun n => n.index == v % 4096) = true) :
    fltNoteAck t a v (s.posted t a R.FLT_NOTE_ACK) =
      ((s.posted t a R.FLT_NOTE_ACK).dropNote h (v % 4096)).logFlag (v % 4096) 1 := by
  rw [fltNoteAck, State.posted_at_bus, hh]
  exact if_pos hn

/-- Settles O46: each row finds the code, the rail, the notification or the timer that its clause names. -/
theorem faultEventsComplete : Obligations.FaultEventsComplete := by
  intro s
  refine ⟨?faultReport, ?unrecordedTimeout, ?railDisagreement, ?fltNoteAck, ?handlingTimerExpiry, ?quietTimerExpiry, ?fatalConditionClear⟩
  case faultReport =>
    intro t code cls obj detail a ty addr ha σ cs k v hcode c hcls
    intros
    exact runs_of_powered rfl ha (faultReport_of_class hcode hcls)
  case unrecordedTimeout =>
    intro t island cls ha σ hlive
    exact runs_of_powered rfl ha (if_neg hlive)
  case railDisagreement =>
    intro t island ha σ hlive reg marked
    exact runs_of_powered rfl ha (if_neg hlive)
  case fltNoteAck =>
    intro t a v h hs σ hh hn
    exact runs_of_storeRow rfl rfl hs (fltNoteAck_posted hh hn)
  case handlingTimerExpiry =>
    intro t h index ha σ n hn e he hdue stopped
    exact runs_of_powered rfl ha (by simp only [handlingTimerExpiry, hn, he, if_neg hdue, σ, stopped])
  case quietTimerExpiry =>
    intro t ha σ e he hover
    exact runs_of_powered rfl ha (by simp only [quietTimerExpiry, he, if_pos hover, σ])
  case fatalConditionClear =>
    intro t code src ha σ l hgone cleared
    exact runs_of_powered rfl ha (if_neg hgone)

end Sys2Proof.Machine

/-!
PROOFS. Configuration, maintenance, start and update (chapters 18 to 20): their commands (R512-R525, R540-R542, R549-R565), overlay switches,
service sessions and maintenance activities (R510-R522), the start and its resets (R526-R541), the ends of an update's verification and
copies (R552-R558), and the boot ROM's service in ROM recovery (R561).
-/
namespace Sys2Proof.Machine

/-! ## Configuration, service and maintenance commands (R512-R525) -/

/-- Settles O21: where a command's checks pass, its steps come to the outcome that the statement names. -/
theorem configMaintCommandsComplete : Obligations.ConfigMaintCommandsComplete := by
  intro s r
  refine ⟨?configStatus, ?overlaySwitch, ?configCommit, ?serviceOpen, ?serviceClose, ?maintRequest, ?maintStatus, ?maintCancel⟩
  case configStatus =>
    rintro _ _ h rfl rfl
    exact answers_of_body rfl h rfl
  case overlaySwitch =>
    rintro _ _ h rfl rfl n harg hright hsession res p aux u hr
    exact starts_of_body rfl h ((need_need_need harg hright hsession _ _ _ res).trans hr)
  case configCommit =>
    rintro _ _ h rfl rfl hpending hright res p aux u hr
    exact starts_of_body rfl h ((need_need hpending hright _ _ res).trans hr)
  case serviceOpen =>
    rintro _ _ h rfl rfl m harg hsecure res
    exact answers_of_outcome rfl h (need_need harg hsecure _ _ _)
  case serviceClose =>
    rintro _ _ h rfl rfl hsecure hopen
    exact answers_of_body rfl h (need_need hsecure hopen stNOT_OWNER stMODE_FORBIDS _)
  case maintRequest =>
    rintro _ _ h rfl rfl a first count harg res
    exact answers_or_starts_of_outcome rfl h (need_of harg _ _)
  case maintStatus =>
    rintro _ _ h rfl rfl
    exact answers_of_body rfl h rfl
  case maintCancel =>
    rintro _ _ h rfl rfl a harg res
    exact answers_of_outcome rfl h (need_of harg _ _)

/-! ## Overlay switches, service sessions and maintenance activities (R510-R522) -/

/-- Settles O47: each row finds the switch, the session, the activity or the period that its clause names. -/
theorem configMaintEventsComplete : Obligations.ConfigMaintEventsComplete := by
  intro s
  refine ⟨?overlayCutoff, ?overlaySwitchInstant, ?overlayAlignTimeout, ?configCopyCompare, ?serviceSessionExpiry, ?maintActivityComplete,
    ?maintWaitLimit, ?scrubDue, ?lbistDue⟩
  case overlayCutoff =>
    intro t ha σ p hp hdue
    refine runs_of_powered rfl ha ?_
    simp only [overlayCutoff, hp, if_pos hdue, σ]
  case overlaySwitchInstant =>
    intro t ha σ p hp hdue
    refine runs_of_powered rfl ha ?_
    simp only [overlaySwitchInstant, hp, if_neg hdue, σ]
  case overlayAlignTimeout =>
    intro t ha σ p hp hover cmds
    refine runs_of_powered rfl ha ?_
    simp only [overlayAlignTimeout, hp, if_pos hover, σ, cmds]
  case configCopyCompare =>
    intro t ha σ hdue
    exact runs_of_guard rfl ha rfl hdue
  case serviceSessionExpiry =>
    intro t ha σ e he hover
    refine runs_of_powered rfl ha ?_
    simp only [serviceSessionExpiry, he, if_pos hover, σ]
  case maintActivityComplete =>
    intro t act failed trims ha σ hother m hm
    refine runs_of_powered rfl ha ((if_neg hother).trans ?_)
    simp only [hm, σ]
  case maintWaitLimit =>
    intro t ha σ
    exact runs_of_powered rfl ha rfl
  case scrubDue =>
    intro t ha σ hdue
    exact runs_of_guard rfl ha rfl hdue
  case lbistDue =>
    intro t ha σ hdue
    exact runs_of_guard rfl ha rfl hdue

/-! ## Start and update commands (R540-R542, R549-R565) -/

/-- The steps of UPD_BEGIN and UPD_CHUNK, by name: rewriting the row's record finds them without evaluating their checks. -/
theorem dUpdBegin_body (c : Cmd) (s : State) : dUpdBegin.body c s = updBeginBody c s := by
  rw [dUpdBegin]

theorem dUpdChunk_body (c : Cmd) (s : State) : dUpdChunk.body c s = updChunkBody c s := by
  rw [dUpdChunk]

/-- Settles O22: where a command's checks pass, its steps come to the outcome that the statement names; COPPICE_EXIT is refused by its
fifth or sixth check. -/
theorem bootUpdateCommandsComplete : Obligations.BootUpdateCommandsComplete := by
  intro s r
  refine ⟨?bootStatus, ?deviceReset, ?coppiceExit, ?updStatus, ?updBegin, ?updChunk, ?updVerify, ?updActivate, ?updConfirm, ?updAbort⟩
  case bootStatus =>
    rintro _ _ h rfl rfl
    exact answers_of_body rfl h rfl
  case deviceReset =>
    rintro _ _ h rfl rfl k harg hsecure
    exact answers_of_body rfl h (need_need harg hsecure _ _ _)
  case coppiceExit =>
    rintro _ σ h rfl rfl harg hnode hcore hlock auth
    have hchecked (k : Res) := (need_need_need harg hnode hcore stBAD_ARGUMENT stNOT_OWNER stNOT_OWNER _).trans (need_of hlock stTAMPER_LOCKOUT k)
    refine ⟨?_, ?_, ?_⟩
    · intro hauth
      exact refuses_of_body rfl h ((hchecked _).trans (need_fails hauth _ _))
    · intro hauth hmode
      exact refuses_of_body rfl h ((hchecked _).trans ((need_of hauth _ _).trans (need_fails (beq_false_of_ne hmode) _ _)))
    · intro hauth hmode u
      exact answers_of_body rfl h ((hchecked _).trans (need_need hauth (beq_iff_eq.mpr hmode) _ _ _))
  case updStatus =>
    rintro _ _ hrom h rfl rfl
    exact answers_of_body (exec_request rfl hrom) h rfl
  case updBegin =>
    rintro bufs _ _ hrom h rfl rfl res
    exact answers_of_outcome (exec_request rfl hrom) h (dUpdBegin_body _ _)
  case updChunk =>
    rintro bufs _ _ hrom h rfl rfl res
    exact answers_of_outcome (exec_request rfl hrom) h (dUpdChunk_body _ _)
  case updVerify =>
    rintro _ _ hrom h rfl rfl hctl hlock hstate
    exact answers_of_body (exec_request rfl hrom) h (need_need_need hctl hlock hstate _ _ _ _)
  case updActivate =>
    rintro _ _ hrom h rfl rfl hctl hstate σ
    exact answers_of_body (exec_request rfl hrom) h (need_need hctl hstate _ _ _)
  case updConfirm =>
    rintro _ _ hrom h rfl rfl hctl hstate
    exact answers_of_body (exec_request rfl hrom) h (need_need hctl hstate stNOT_OWNER stMODE_FORBIDS _)
  case updAbort =>
    rintro _ _ hrom h rfl rfl hctl st hst res
    exact answers_of_outcome (exec_request rfl hrom) h (need_need hctl hst _ _ _)

/-! ## The start and its resets (R526-R541) -/

/-- Settles O48: each row finds the stage of the start, the limit or the reset that its clause names. -/
theorem bootEventsComplete : Obligations.BootEventsComplete := by
  intro s
  refine ⟨?powerOnReset, ?dramTraining, ?imageAuthentication, ?bootLock, ?imagesReleased, ?bootWatchdog, ?confirmationLimit,
    ?privetRestart, ?deviceReset, ?coppiceExit⟩
  case powerOnReset =>
    intro t
    exact runs_of_always rfl rfl
  case dramTraining =>
    intro t ok ha σ hloaded
    exact runs_of_guard rfl ha rfl hloaded
  case imageAuthentication =>
    intro t ha σ himages a f sm
    exact runs_of_guard rfl ha rfl himages
  case bootLock =>
    intro t ha σ hready locked
    exact runs_of_guard rfl ha rfl hready
  case imagesReleased =>
    intro t pairs ha σ hlocked measured has6 secure normal parts safety program verified
    exact runs_of_guard rfl ha rfl hlocked
  case bootWatchdog =>
    intro t ha σ hover
    exact runs_of_guard rfl ha rfl hover
  case confirmationLimit =>
    intro t ha σ hover
    exact runs_of_guard rfl ha rfl hover
  case privetRestart =>
    intro t ha σ hlive
    exact runs_of_powered rfl ha (if_neg hlive)
  case deviceReset =>
    intro t ha σ u ty hreset hdue
    refine runs_of_powered rfl ha ?_
    simp only [deviceResetInstant, hreset, if_pos hdue, σ]
  case coppiceExit =>
    intro t ha σ u ty hreset hdue
    refine runs_of_powered rfl ha ?_
    simp only [coppiceExitReset, hreset, if_pos hdue, σ]

/-! ## Verification and copies of an update, and ROM recovery (R552-R561) -/

/-- The end of verification with an image that fails ends the session with its result (R552). -/
theorem updVerificationComplete_fault {s : State} {t r : Nat} (hstate : ¬ ((s.at_ t).rd F.UPD_STAT_STATE ≠ 3))
    (hbad : (s.at_ t).packageFault = some r) : updVerificationComplete t s = (s.at_ t).endUpd r := by
  simp only [updVerificationComplete, if_neg hstate, hbad]

/-- Without one the package is verified (R552). -/
theorem updVerificationComplete_ok {s : State} {t : Nat} (hstate : ¬ ((s.at_ t).rd F.UPD_STAT_STATE ≠ 3))
    (hgood : (s.at_ t).packageFault = none) : updVerificationComplete t s = (s.at_ t).packageOk := by
  simp only [updVerificationComplete, if_neg hstate, hgood]

/-- The boot ROM puts the response of a served request in its response slot (R561). -/
theorem State.romServe_done {s u : State} {op len st : Nat} {pl : List Byte} {body : Cmd → State → Res} {r : Req} (hlen : r.len = len)
    (hb : body ((s.at_ r.t).cmdOf op r) (s.at_ r.t) = .done st pl u) :
    s.romServe op len r.tag body r = { u with boot.romRsp := rspBytes op r.tag st u.now pl } := by
  simp only [State.romServe, if_neg (not_not_intro hlen), hb]

/-- In ROM recovery an update command of the right length whose steps come to an end is answered by the boot ROM (R561). -/
theorem runs_of_rom {i : Instr} {d : CmdDef} {len st : Nat} {body : Cmd → State → Res} {r : Req} {s u : State} {pl : List Byte}
    (he : exec i s = romMailbox d len body r s) (ha : s.Awake) (hrom : s.boot.stage = .rom) (hlen : r.len = len)
    (hb : body ((s.at_ r.t).cmdOf d.op r) (s.at_ r.t) = .done st pl u) :
    Runs i s { u with boot.romRsp := rspBytes d.op r.tag st u.now pl } :=
  runs_of_powered he ha ((if_pos hrom).trans (State.romServe_done hlen hb))

/-- Settles O49: verification ends by the first image that fails, each copy by its row's guard, and the boot ROM answers the update
commands in ROM recovery. -/
theorem updateEventsComplete : Obligations.UpdateEventsComplete := by
  intro s
  refine ⟨?verification, ?stageCopy, ?activationCopy, ?rollbackCopy, ?romStatus, ?romBegin, ?romChunk, ?romVerify, ?romActivate⟩
  case verification =>
    intro t ha σ hstate ck bad
    refine ⟨fun r hbad => runs_of_powered rfl ha (updVerificationComplete_fault hstate hbad), ?_⟩
    intro hgood verified
    exact runs_of_powered rfl ha (updVerificationComplete_ok hstate hgood)
  case stageCopy =>
    intro t ha σ hrunning copied
    exact runs_of_guard rfl ha rfl hrunning
  case activationCopy =>
    intro t ha σ hcopy
    exact runs_of_guard rfl ha rfl hcopy
  case rollbackCopy =>
    intro t ha σ hcopy
    exact runs_of_guard rfl ha rfl hcopy
  case romStatus =>
    intro r st pl u ha hrom hlen c hb
    exact runs_of_rom rfl ha hrom hlen hb
  case romBegin =>
    intro r bufs st pl u ha hrom hlen c hb
    exact runs_of_rom rfl ha hrom hlen hb
  case romChunk =>
    intro r bufs st pl u ha hrom hlen c hb
    exact runs_of_rom rfl ha hrom hlen hb
  case romVerify =>
    intro r st pl u ha hrom hlen c hb
    exact runs_of_rom rfl ha hrom hlen hb
  case romActivate =>
    intro r st pl u ha hrom hlen c hb
    exact runs_of_rom rfl ha hrom hlen hb

end Sys2Proof.Machine
